-- ==== Sys2Proof/Word.lean ====
section
/-! DEFINITION. Word.lean: the word types of the PX960 (spec/03_programming_model.md, "Registers and the
state at clause start"): 32-bit general registers and port registers, 8-bit bank bytes, 72-bit
accumulators. -/
namespace Sys2Proof

/-- A 32-bit register, port register or instruction word. -/
abbrev Word := BitVec 32

/-- One byte of a bank, of bulk memory or of a payload. -/
abbrev Byte := BitVec 8

/-- An accumulator A0 to A3: 64 bits plus 8 guard bits, two's complement. -/
abbrev Acc := BitVec 72

end Sys2Proof
end

