-- ==== Sys2Proof/Machine/Map.lean ====
section
/-! DEFINITION. Machine/Map.lean: sparse tables, as lists of key and value pairs in ascending key order.
Every numbered family of the spec (register files, port registers, slots, channels, tickets) is one. -/
namespace Sys2Proof.Machine

/-- A sparse table. A key that is not listed stands for the family's initial element. -/
abbrev SMap (α : Type) := List (Nat × α)

/-- The entry of key `k`, if it is listed. -/
def mget {α : Type} : SMap α → Nat → Option α
  | [], _ => none
  | (q, v) :: t, k => if q = k then some v else mget t k

/-- The entry of key `k`, or `d` where none is listed. -/
def mgetD {α : Type} (m : SMap α) (k : Nat) (d : α) : α := (mget m k).getD d

/-- The table with key `k` holding `v`, in ascending key order. -/
def mput {α : Type} : SMap α → Nat → α → SMap α
  | [], k, v => [(k, v)]
  | (q, w) :: t, k, v =>
    if k < q then (k, v) :: (q, w) :: t
    else if k = q then (k, v) :: t
    else (q, w) :: mput t k v

/-- The table with no entry for key `k`. -/
def mdel {α : Type} : SMap α → Nat → SMap α
  | [], _ => []
  | (q, w) :: t, k => if q = k then mdel t k else (q, w) :: mdel t k

/-- The list with element `i` replaced (no change where it has none). -/
def lset {α : Type} : List α → Nat → α → List α
  | [], _, _ => []
  | _ :: t, 0, v => v :: t
  | h :: t, i + 1, v => h :: lset t i v

/-- Element `i` of a list, or `d`. -/
def lget {α : Type} (l : List α) (i : Nat) (d : α) : α := (l[i]?).getD d

/-- A stable insertion by key: after every element whose key is not greater. -/
def insertByKey {α : Type} (key : α → Nat) (a : α) : List α → List α
  | [] => [a]
  | b :: t => if key a < key b then a :: b :: t else b :: insertByKey key a t

/-- A stable sort by key. -/
def sortByKey {α : Type} (key : α → Nat) (l : List α) : List α :=
  l.foldl (fun acc a => insertByKey key a acc) []

/-- `f` applied to 0, 1, … , n − 1 in turn. -/
def iter {σ : Type} (n : Nat) (f : Nat → σ → σ) (s : σ) : σ :=
  (List.range n).foldl (fun acc i => f i acc) s

/-- The least number below `n` that satisfies `p`, searched from `i` upward with `n` steps left. -/
def findFrom (p : Nat → Bool) : Nat → Nat → Option Nat
  | 0, _ => none
  | n + 1, i => if p i then some i else findFrom p n (i + 1)

end Sys2Proof.Machine
end

