-- ==== Sys2Proof/Machine/Bits.lean ====
section
/-! DEFINITION. Machine/Bits.lean: bit fields, signed readings and the byte order of the fabric.
The field helpers are used by the decoder, by every register and by every block. -/
namespace Sys2Proof.Machine

/-- Bits `hi` to `lo` of a natural number. -/
def bitsOf (n hi lo : Nat) : Nat := (n >>> lo) % 2 ^ (hi + 1 - lo)

/-- Bits `hi` to `lo` of a word, as a number. -/
def fld (w : Word) (hi lo : Nat) : Nat := bitsOf w.toNat hi lo

/-- Bit `i` of a word. -/
def bit (w : Word) (i : Nat) : Bool := w.toNat.testBit i

/-- The word with bits `hi` to `lo` replaced by the low bits of `v`. -/
def setFld (w : Word) (hi lo v : Nat) : Word :=
  let m := 2 ^ (hi + 1 - lo)
  let old := fld w hi lo
  BitVec.ofNat 32 (w.toNat - old * 2 ^ lo + (v % m) * 2 ^ lo)

/-- The word with bit `i` set or cleared. -/
def setBit (w : Word) (i : Nat) (b : Bool) : Word := setFld w i i (if b then 1 else 0)

/-- A word from a natural number, modulo 2^32. -/
def wd (n : Nat) : Word := BitVec.ofNat 32 n

/-- A word from an integer, modulo 2^32. -/
def wdi (i : Int) : Word := BitVec.ofInt 32 i

/-- The signed reading of the low `w` bits of `n`. -/
def sext (w n : Nat) : Int :=
  let m := n % 2 ^ w
  if 2 * m < 2 ^ w then (m : Int) else (m : Int) - (2 ^ w : Nat)

/-- One for true. -/
def b2n (b : Bool) : Nat := if b then 1 else 0

/-- A mask with exactly bit `i` set. -/
def bitMask (i : Nat) : Word := wd (2 ^ i)

/-- The number of ones among the low `n` bits. -/
def popcount (v : Nat) (n : Nat) : Nat :=
  (List.range n).foldl (fun acc i => acc + b2n (v.testBit i)) 0

/-- The bytes of a word, least significant first (the fabric's byte order, R4). -/
def bytesLE (n count : Nat) : List Byte :=
  (List.range count).map (fun i => BitVec.ofNat 8 (n >>> (8 * i)))

/-- The number whose bytes these are, least significant first. -/
def ofBytesLE : List Byte → Nat
  | [] => 0
  | b :: t => b.toNat + 256 * ofBytesLE t

/-- The bytes of a list of words, each least significant first. -/
def wordBytes : List Word → List Byte
  | [] => []
  | w :: t => bytesLE w.toNat 4 ++ wordBytes t

/-- One bit of the reflected CRC-32C register (generator 16#1EDC6F41, reflected 16#82F63B78). -/
def crcBit (c : Nat) : Nat := if c % 2 = 1 then (c / 2) ^^^ 0x82F63B78 else c / 2

/-- Eight bits of the reflected CRC register. -/
def crcByte (c : Nat) (b : Byte) : Nat :=
  (List.range 8).foldl (fun acc _ => crcBit acc) (c ^^^ b.toNat)

/-- One bit of the reflected CRC-32 register of IEEE 802.3 (generator 16#04C11DB7, reflected 16#EDB88320). -/
def fcsBit (c : Nat) : Nat := if c % 2 = 1 then (c / 2) ^^^ 0xEDB88320 else c / 2

/-- The IEEE 802.3 frame check sequence of bytes (R503). -/
def fcs32 (bs : List Byte) : Word :=
  wd ((bs.foldl (fun c b => (List.range 8).foldl (fun acc _ => fcsBit acc) (c ^^^ b.toNat)) 0xFFFFFFFF) ^^^ 0xFFFFFFFF)

/-- CRC-32C of bytes: initial value and final inversion all ones. PRESUMED parameters (the spec names the
polynomial family only): notes/assumptions/3.md. -/
def crc32c (bs : List Byte) : Word := wd ((bs.foldl crcByte 0xFFFFFFFF) ^^^ 0xFFFFFFFF)

end Sys2Proof.Machine
end

