-- ==== Sys2Proof/Syntax.lean ====
section
/-! DEFINITION. Syntax.lean: the commands of the PX960, one constructor of `Instr` per row of
spec/opcode_table.json, with the operands each row's rule gives it. An instruction of a clause engine names its
engine and guard; a register write names its party; an event that comes from outside the unit carries what
arrives (bytes, levels, verdicts of a check). -/
namespace Sys2Proof

/-- Clause engine CE0 to CE7; a lockstep pair is named by its even engine. -/
abbrev EngineNo := Fin 8
/-- General register W0 to W31. -/
abbrev RegNo := Fin 32
/-- Predicate P0 to P7. -/
abbrev PredNo := Fin 8
/-- Accumulator A0 to A3. -/
abbrev AccNo := Fin 4
/-- Clause 0 to 255. -/
abbrev ClauseNo := Fin 256
/-- Output group 0 to 15. -/
abbrev GroupNo := Fin 16
/-- Scratchpad bank 0 to 63. -/
abbrev BankNo := Fin 64
/-- Axis AX0 to AX7. -/
abbrev AxisNo := Fin 8

/-- The engine that executes an instruction, and the instruction's guard (R99). -/
structure Guard where
  e : EngineNo
  pn : Bool
  pg : PredNo
deriving DecidableEq, Repr

/-- R104: a shift count, the field value (I = 1) or a register (I = 0). -/
inductive ShiftCount where
  | imm (n : Nat)
  | reg (wb : RegNo)
deriving DecidableEq, Repr


/-- R107, R108: the register side of a load or store: a general register with its size, or an accumulator image. -/
inductive MemForm where
  | byte (signExtend : Bool) (w : RegNo)
  | half (signExtend : Bool) (w : RegNo)
  | word (w : RegNo)
  | acc (a : AccNo)
deriving DecidableEq, Repr

/-- R110: the condition codes of CMP and CMPI. -/
inductive Cond where
  | eq | ne | lt | ge | le | gt | ltu | geu | leu | gtu | tlt | tge | test | ntest
deriving DecidableEq, Repr

/-- R111: the predicate operations of PLOG. -/
inductive PlogOp where
  | and | or | xor | andn
deriving DecidableEq, Repr

/-- R25, R33: a party that accesses port registers: an engine (a lockstep pair as its even engine) or the Eweuc
service protocol, whose request names an output group for staged writes. -/
inductive Party where
  | eng (e : EngineNo)
  | svc (g : GroupNo)
deriving DecidableEq, Repr

/-- R328: a received precision time message: what it carries beside its domain. An announce carries the sender's data set, best
first in the order of comparison; a sync or follow-up carries the raw difference local − master; a response
carries the measured mean path delay. -/
inductive PtpMsg where
  | announce (ds : List Nat)
  | syncOneStep (raw : Int)
  | syncTwoStep
  | followUp (raw : Int)
  | delayReq
  | delayResp (delay : Nat)
  | pdelayReq
  | pdelayResp (delay : Nat)
  | management (get : Bool)
deriving DecidableEq, Repr

/-- R328: the intervals and timeouts of a PTP port. -/
inductive PtpTimer where
  | sync | announce | delay | announceReceipt
deriving DecidableEq, Repr
/-- R503: the fields of a twin telegram as received on a LAN (0 LAN A, 1 LAN B). -/
structure TelCopy where
  lan : Fin 2
  stream : Nat
  src : Nat
  unitB : Bool
  auth : Bool
  safe : Bool
  seq : Nat
  stamp : Nat
  secl : Nat
  payload : List Byte
deriving DecidableEq, Repr

/-- R507: what a received frame is: its FCS is wrong, its length is wrong, or it is of one of the kinds the unit sorts.
A service frame carries whether its CRC and LEN
are right. A twin telegram carries its fields and whether its CRC, LEN, reserved fields and SRC are right. -/
inductive EthKind where
  | badFcs
  | badSize
  | ptp (dom : Nat) (m : PtpMsg)
  | service (ok : Bool)
  | twin (c : TelCopy) (ok : Bool)
  | other
deriving DecidableEq, Repr

/-- R508: a frame: its kind, and what the filters see: EtherType, destination UDP port of an unfragmented IPv4
datagram, destination MAC, the bytes from the destination MAC to the last before the FCS. -/
structure EthFrame where
  kind : EthKind
  etype : Nat
  udp : Option Nat
  mac : Nat
  bytes : List Byte
deriving DecidableEq, Repr

/-- R302: one cell of a search: the Doppler at which it was correlated (Q15.16 Hz), its code phase (1/65 536 chip) and the squared
magnitudes of the blocks in order. -/
structure AcqCell where
  freq : Int
  code : Nat
  mags : List Nat
deriving DecidableEq, Repr

/-- R311, R312: what a tracking channel measures at an instant: code phase (1/65 536 chip), primary code periods,
carrier phase (1/1024 cycle), Doppler (Q15.16 Hz). -/
structure GnbMeas where
  code : Nat := 0
  epochs : Nat := 0
  carr : Int := 0
  dopp : Int := 0
deriving DecidableEq, Repr

/-- R484, R488: how an attempt to send a CAN frame fails: arbitration lost, an error, a bit error in the data field
after winning arbitration. -/
inductive CanFail where
  | arbitration | error | dataBit
deriving DecidableEq, Repr

/-- R572: what ENV_RANGE names: a feed above 32.0 V (0 feed A, 1 feed B) with its voltage in 10 mV, or both feeds below
18.0 V with theirs. -/
inductive EnvCond where
  | feedHigh (feed : Fin 2) (cv : Nat)
  | bothLow (a b : Nat)
deriving DecidableEq, Repr



/-- What a read of a bank by a command meets: the clocks for which it waits for the bank to wake (R68), and the words, by
number in the 64 banks, that an upset has put in error (R170). -/
structure BankUse where
  stall : Nat := 0
  upset : List Nat := []
deriving DecidableEq, Repr

/-- The commands. -/
inductive Instr where
  -- Engine instructions (spec/04_instruction_reference.md)
  /-- ADD (R103): Engine computes a + b, saturating (.S) or wrapping (.W), into Wd. -/
  | add (x : Guard) (wd wa wb : RegNo) (w : Bool)
  /-- SUB (R103): Engine computes a - b, saturating or wrapping, into Wd. -/
  | sub (x : Guard) (wd wa wb : RegNo) (w : Bool)
  /-- NEG (R103): Engine computes -a, saturating or wrapping, into Wd. -/
  | neg (x : Guard) (wd wa : RegNo) (w : Bool)
  /-- ABS (R103): Engine computes |a|, saturating or wrapping, into Wd. -/
  | abs (x : Guard) (wd wa : RegNo) (w : Bool)
  /-- ASL (R104): Engine shifts a left arithmetically by n, saturating or wrapping. -/
  | asl (x : Guard) (wd wa : RegNo) (n : ShiftCount) (w : Bool)
  /-- ASR (R104): Engine shifts a right with round-to-nearest-even by n. -/
  | asr (x : Guard) (wd wa : RegNo) (n : ShiftCount)
  /-- LSL (R104): Engine shifts a left logically by n. -/
  | lsl (x : Guard) (wd wa : RegNo) (n : ShiftCount)
  /-- LSR (R104): Engine shifts a right logically by n. -/
  | lsr (x : Guard) (wd wa : RegNo) (n : ShiftCount)
  /-- AND (R103): Engine writes the bitwise AND of a and b. -/
  | and (x : Guard) (wd wa wb : RegNo)
  /-- OR (R103): Engine writes the bitwise OR of a and b. -/
  | or (x : Guard) (wd wa wb : RegNo)
  /-- XOR (R103): Engine writes the bitwise exclusive OR of a and b. -/
  | xor (x : Guard) (wd wa wb : RegNo)
  /-- NOT (R103): Engine writes the bitwise complement of a. -/
  | not (x : Guard) (wd wa : RegNo)
  /-- MIN (R103): Engine writes the signed smaller of a and b. -/
  | min (x : Guard) (wd wa wb : RegNo)
  /-- MAX (R103): Engine writes the signed larger of a and b. -/
  | max (x : Guard) (wd wa wb : RegNo)
  /-- CLS (R103): Engine counts leading bits equal to the sign bit. -/
  | cls (x : Guard) (wd wa : RegNo)
  /-- ADDI (R70): Engine adds a signed 11-bit immediate to a. -/
  | addi (x : Guard) (wd wa : RegNo) (k : Int) (w : Bool)
  /-- ANDI (R70): Engine ANDs a with a zero-extended immediate. -/
  | andi (x : Guard) (wd wa : RegNo) (k : Nat)
  /-- ORI (R70): Engine ORs a with a zero-extended immediate. -/
  | ori (x : Guard) (wd wa : RegNo) (k : Nat)
  /-- XORI (R70): Engine exclusive-ORs a with a zero-extended immediate. -/
  | xori (x : Guard) (wd wa : RegNo) (k : Nat)
  /-- MOVS (R70): Engine loads a sign-extended 16-bit immediate into Wd. -/
  | movs (x : Guard) (wd : RegNo) (k : Nat)
  /-- MOVHI (R70): Engine replaces bits 31:16 of Wd with an immediate. -/
  | movhi (x : Guard) (wd : RegNo) (k : Nat)
  /-- MUL (R70): Engine multiplies a by b, rounds by shift s and saturates or wraps to 32 bits. -/
  | mul (x : Guard) (wd wa wb : RegNo) (sh : Nat) (w : Bool)
  /-- MAC (R105): Engine adds a × b to a 72-bit accumulator. -/
  | mac (x : Guard) (an : AccNo) (wa wb : RegNo) (w : Bool)
  /-- MSU (R105): Engine subtracts a × b from a 72-bit accumulator. -/
  | msu (x : Guard) (an : AccNo) (wa wb : RegNo) (w : Bool)
  /-- ADDA (R105): Engine adds accumulator Am to An. -/
  | adda (x : Guard) (an am : AccNo) (w : Bool)
  /-- SUBA (R105): Engine subtracts accumulator Am from An. -/
  | suba (x : Guard) (an am : AccNo) (w : Bool)
  /-- ACLR (R105): Engine clears accumulator An. -/
  | aclr (x : Guard) (an : AccNo)
  /-- MOVA (R105): Engine rounds an accumulator by shift s into a 32-bit register. -/
  | mova (x : Guard) (wd : RegNo) (an : AccNo) (sh : Nat) (w : Bool)
  /-- ALOAD (R105): Engine loads a × 2^s exactly into an accumulator. -/
  | aload (x : Guard) (an : AccNo) (wa : RegNo) (sh : Nat)
  /-- SINCOS (R72): Engine returns sine and cosine of a turn32 angle in Q1.30. -/
  | sincos (x : Guard) (wd we wa : RegNo)
  /-- ATAN2 (R72): Engine returns atan2(y, x) as a turn32 angle. -/
  | atan2 (x : Guard) (wd wy wx : RegNo)
  /-- SQRT (R72): Engine returns the rounded square root of v × 2^s. -/
  | sqrt (x : Guard) (wd wa : RegNo) (sh : Nat)
  /-- RSQRT (R72): Engine returns the rounded reciprocal square root of 2^s / v. -/
  | rsqrt (x : Guard) (wd wa : RegNo) (sh : Nat)
  /-- LD (R107): Engine loads a byte, half-word, word or accumulator image from an owned bank. -/
  | ld (x : Guard) (f : MemForm) (wa : RegNo) (u : Bool) (d : Int) (q : BankUse)
  /-- ST (R108): Engine stores a byte, half-word, word or accumulator image into an owned bank. -/
  | st (x : Guard) (f : MemForm) (wa : RegNo) (u : Bool) (d : Int) (stall : Nat)
  /-- GET (R109): Engine reads a port register, taking the block's access latency. -/
  | get (x : Guard) (wd wa : RegNo) (k : Nat)
  /-- PUT (R109): Engine writes a port register, immediately or into a pending set. -/
  | put (x : Guard) (ws wa : RegNo) (k : Nat)
  /-- GETL (R109): Engine reads a port register with a 16-bit offset in an extension word. -/
  | getl (x : Guard) (wd wa : RegNo) (k : Nat)
  /-- PUTL (R109): Engine writes a port register with a 16-bit offset in an extension word. -/
  | putl (x : Guard) (ws wa : RegNo) (k : Nat)
  /-- CMP (R110): Engine compares two registers and writes a predicate. -/
  | cmp (x : Guard) (pd : PredNo) (wa wb : RegNo) (cc : Cond)
  /-- CMPI (R110): Engine compares a register with an immediate and writes a predicate. -/
  | cmpi (x : Guard) (pd : PredNo) (wa : RegNo) (cc : Cond) (k : Int)
  /-- PLOG (R111): Engine combines two predicates into a third. -/
  | plog (x : Guard) (pd pa pb : PredNo) (op : PlogOp)
  /-- BR (R112): Engine branches forward by a fixed displacement, closing loops left. -/
  | br (x : Guard) (d : Nat)
  /-- CALL (R113): Engine pushes a return address and branches forward. -/
  | call (x : Guard) (d : Nat)
  /-- RET (R113): Engine pops the return stack and continues there. -/
  | ret (x : Guard)
  /-- BRT (R114): Engine branches through a table indexed by Wa. -/
  | brt (x : Guard) (wa : RegNo) (n : Nat)
  /-- LOOP (R115): Engine opens a loop body repeated an immediate number of times. -/
  | loop (x : Guard) (c len : Nat)
  /-- LOOPR (R78): Engine opens a loop body repeated a register count of times. -/
  | loopr (x : Guard) (wa : RegNo) (len : Nat)
  /-- WAIT_AX (R118): Engine starts waiting for an axis to reach a position. -/
  | waitAx (x : Guard) (pd : PredNo) (n : AxisNo) (wa : RegNo) (timeout : Nat)
  /-- JOIN (R119): Engine starts waiting for named clauses to end in the current cycle. -/
  | join (x : Guard) (wd : RegNo) (pd : PredNo) (c1 : ClauseNo) (c2 : Option ClauseNo) (timeout : Nat)
  /-- WAIT_CONDITION_MET (R80): A waiting instruction finds its condition true and retires with its result. -/
  | waitConditionMet (e : EngineNo) (k : Nat)
  /-- WAIT_TIMEOUT (R80): A wait's timeout expires; the instruction retires, clears its predicate and sets WTMO and LIVE. -/
  | waitTimeout (e : EngineNo)
  /-- FSTOP (R120): The clause ends ENDED as FSTOP retires. -/
  | fstop (x : Guard)
  /-- OWN (R121): Engine passes a bank it owns to another owner. -/
  | own (x : Guard) (b : BankNo) (o : Nat)
  /-- SUBMIT_SOL (R124): Engine hands a batch descriptor to the solver and takes a ticket. -/
  | submitSol (x : Guard) (wd : RegNo) (pd : PredNo) (wa : RegNo)
  /-- WAIT_T (R126): Engine starts waiting for a solver or sequencer ticket to complete. -/
  | waitT (x : Guard) (wd : RegNo) (pd : PredNo) (wa : RegNo) (timeout : Nat)
  /-- OPT_RUN (R125): Engine hands a problem descriptor to the sequencer and takes a ticket. -/
  | optRun (x : Guard) (wd : RegNo) (pd : PredNo) (wa : RegNo)
  /-- LPE_SWAP (R127): Engine stages a coefficient swap for a slot range or swap group. -/
  | lpeSwap (x : Guard) (pd : PredNo) (wa : RegNo) (n : Nat) (g : Bool)
  /-- MIR_PUT (R128): Engine copies a bank segment into the group's mirror staging. -/
  | mirPut (x : Guard) (pd : PredNo) (wa : RegNo) (m : Nat) (q : BankUse)
  /-- TEL_SEND (R129): Engine stages one twin telegram for the full stop. -/
  | telSend (x : Guard) (pd : PredNo) (wa wb : RegNo) (len : Nat) (q : BankUse)
  /-- TXQ (R130): Engine stages an 18-word CAN frame image for a channel. -/
  | txq (x : Guard) (pd : PredNo) (wa wb : RegNo) (q : BankUse)
  /-- LOG (R131): Engine enters a program event record into the recorder intake. -/
  | log (x : Guard) (pd : PredNo) (wa : RegNo) (p : Bool) (c : Nat) (q : BankUse)
  /-- SAF_OFF (R133): Lockstep engine issues an immediate switch-off demand for safety outputs. -/
  | safOff (x : Guard) (wa : RegNo)
  /-- SAF_ON (R133): Lockstep engine stages a switch-on demand for safety outputs. -/
  | safOn (x : Guard) (wa : RegNo)
  /-- SAF_RST (R133): Lockstep engine stages a clear of latched DISC for input pairs. -/
  | safRst (x : Guard) (wa : RegNo)
  /-- SAF_GETIN (R133): Lockstep engine reads pair states latched at its trigger instant. -/
  | safGetin (x : Guard) (wd : RegNo)
  -- Clause ends, lockstep, register writes and the scheduler (spec/02_architecture.md, 03, 05)
  /-- ILLEGAL_FETCH (R83): Fetch of an undefined encoding ends the clause ILLEGAL. -/
  | illegalFetch (e : EngineNo) (w0 w1 : Word)
  /-- CLAUSE_BUDGET (R81): The budget count expires without FSTOP; the clause ends BUDGET. -/
  | clauseBudget (e : EngineNo)
  /-- IMEM_FAULT (R84): An uncorrectable instruction-memory error on fetch ends the clause and takes the engine out of service. -/
  | imemFault (e : EngineNo) (corrected : Bool)
  /-- IMEM_SCRUB (R84): The background scrub finds an uncorrectable instruction-memory error and retires the engine. -/
  | imemScrub (e : EngineNo) (a : Fin 32768)
  /-- LOCKSTEP_DIVERGE (R91): A lockstep comparison fails; the clause ends DIVERGE and the pair self-tests. -/
  | lockstepDiverge (p : Fin 4)
  /-- LOCKSTEP_SELFTEST_END (R93): A pair's post-divergence self-test ends; on failure the pair leaves service. -/
  | lockstepSelftestEnd (p : Fin 4) (pass : Bool)
  /-- PORT_TIMEOUT (R31): A port access unanswered for 64 clocks ends with 0 and a PORT_TIMEOUT record. -/
  | portTimeout (x : Guard) (read : Bool) (w : RegNo) (addr : Fin 65536) (long : Bool)
  /-- REGISTER_WRITE (R579): A write to a register with no row of its own acts immediately or joins a pending set. -/
  | registerWrite (p : Party) (addr : Fin 65536) (v : Word)
  /-- DISCARD (R40): A write to SYS_CPDISC empties the selected group's pending set. -/
  | discard (p : Party) (v : Word)
  /-- CLE_CMAXCLR (R86): A write clears the largest budget count of a clause. -/
  | cleCmaxclr (p : Party) (v : Word)
  /-- PERIODIC_TRIGGER (R141): AX0 reaches cycle start plus OFFSET and the clause becomes ready. -/
  | periodicTrigger (c : ClauseNo)
  /-- COMPARE_FIRE (R147): A compare unit's axis crosses its position and fires forward or backward. -/
  | compareFire (k : Fin 32)
  /-- CONJUNCTION_READY (R154): A conjunction clause becomes ready the clock after its last named clause ends. -/
  | conjunctionReady (c : ClauseNo)
  /-- DISPATCH (R139): An idle engine takes the ready clause of highest priority and loads its registers. -/
  | dispatch (e : EngineNo) (delay : Fin 3)
  /-- FULL_STOP (R150): An output group reaches its full stop: overruns, drops, commits, publishes, commits the epoch and migrates. -/
  | fullStop (g : GroupNo)
  /-- FORCED_FULL_STOP (R156): A group's stall time expires and a forced full stop is carried out. -/
  | forcedFullStop (g : GroupNo)
  /-- SKIPPED_FULL_STOP (R156): The axis reaches N after a forced full stop; N advances without a full stop. -/
  | skippedFullStop (g : GroupNo)
  /-- AXIS_TICK (R591): T reaches a multiple of 1000 ns; virtual and phase axes advance. -/
  | axisTick
  /-- AXIS_LOSS (R143): An axis source goes invalid; the axis holds and writes AXIS_LOSS. -/
  | axisLoss (n : AxisNo)
  /-- AXIS_RESTORE (R143): An axis source becomes valid again and the axis takes its value. -/
  | axisRestore (n : AxisNo)
  /-- SCH_PLCTL_WRITE (R159): A write to the placement control is accepted or refused whole. -/
  | schPlctlWrite (p : Party) (v : Word)
  /-- CLOCK_LOSS (R48): The clock monitor finds a domain lost and the unit reacts per domain. -/
  | clockLoss (d : Fin 17)
  /-- AVS_EVALUATION (R55): Every 100 µs each island controller raises, lowers or keeps its voltage. -/
  | avsEvaluation (island : Fin 3) (margin : Int)
  /-- PWR_OFF_WRITE (R53): A write switches blocks off or on, or is refused as a whole. -/
  | pwrOffWrite (p : Party) (v : Word)
  /-- BLOCK_POWER_READY (R54): A block switched back on is ready 50 µs after the write. -/
  | blockPowerReady (b : Fin 5)
  /-- PWR_MARGIN_WRITE (R59): A write to the margin thresholds is accepted or refused whole. -/
  | pwrMarginWrite (p : Party) (v : Word)
  /-- ROUTE_DELIVERY (R44): A source element is written into its route's ring or slot input, or dropped. -/
  | routeDelivery (n : Fin 64)
  /-- MBK_OWN_WRITE (R166): A write passes a bank to a new owner or is refused. -/
  | mbkOwnWrite (p : Party) (v : Word)
  /-- BANK_RETENTION_ENTRY (R168): A bank idle for IDLE µs enters retention. -/
  | bankRetentionEntry (b : BankNo)
  /-- BANK_WAKE (R169): A bank in retention finishes waking and waiting accesses proceed. -/
  | bankWake (b : BankNo)
  /-- DRAM_SCRUB (R172): The background scrub passes bulk memory and counts corrected and uncorrectable errors. -/
  | dramScrub (ce : Nat) (ue : List Nat)
  /-- DMA_START (R173): A START write begins a DMA transfer or is refused. -/
  | dmaStart (p : Party) (ch : Fin 4) (v : Word)
  /-- DMA_TRANSFER_COMPLETE (R174): A DMA channel finishes moving its words; `upset`: words of the source bank that the
  transfer finds in error; `ce`, `ue`: the single-bit errors it meets in bulk memory, and the words with double-bit errors. -/
  | dmaTransferComplete (ch : Fin 4) (upset : List Nat) (ce : Nat) (ue : List Nat)
  -- Solver array (spec/07_solver_array.md); b counts batches by acceptance, i is an entry
  /-- BATCH_VALIDATION_END (R181): The solver finishes validating a batch and accepts or refuses it whole. -/
  | batchValidationEnd (b : Nat)
  /-- OPERATION_ISSUE (R189): The solver issues the best eligible operation when a slot is free. -/
  | operationIssue
  /-- OPERATION_COMMIT (R198): An operation writes its results, MAXABS and status as one commit. -/
  | operationCommit (batch entry : Nat) (upset : List Nat)
  /-- SOLVER_DEADLINE (R199): TMB_NS reaches a batch deadline; unissued operations end ABANDONED. -/
  | solverDeadline (b : Nat)
  /-- DEADLINE_GRACE_EXPIRY (R200): Two µs after the deadline, operations without a started commit are abandoned. -/
  | deadlineGraceExpiry (b : Nat)
  /-- TILE_FAULT (R202): A residue mismatch abandons operations on a tile and starts its self-test. -/
  | tileFault (t : Fin 4) (ops : List (Nat × Nat))
  /-- TILE_SELFTEST_END (R202): A tile's self-test ends; a failed tile stays off and the unit is unhealthy. -/
  | tileSelftestEnd (t : Fin 4) (pass : Bool)
  /-- SOL_TREL (R205): A write releases a completed ticket or is refused. -/
  | solTrel (p : Party) (v : Word)
  -- Optimisation sequencer (spec/08_optimisation_sequencer.md)
  /-- OPT_VALIDATION_END (R212): The sequencer finishes validating the descriptor; a failure ends the run REFUSED. -/
  | optValidationEnd
  /-- OPT_ITERATION_END (R222): An interior-point iteration completes or fails and its iterate is tested. -/
  | optIterationEnd
  /-- OPT_RUN_COMPLETE (R230): The run chooses its outcome, guards stage 0 and publishes the result block. -/
  | optRunComplete
  /-- OPT_FBLIM_WRITE (R235): A staged write of the fallback limit is accepted or refused. -/
  | optFblimWrite (p : Party) (v : Word)
  -- Loop engine (spec/09_loop_engine.md)
  /-- LOOP_SAMPLE (R239): A periodic slot reaches a grid instant and latches its sources. -/
  | loopSample (n : Fin 64)
  /-- LOOP_EVALUATION (R245): A lane evaluates a pending sample in 48 LOOP clocks. -/
  | loopEvaluation (lane : Fin 4)
  /-- LOOP_OUTPUT_INSTANT (R242): At the output instant the slot publishes and commits, or skips. -/
  | loopOutputInstant (n : Fin 64)
  /-- LOOP_ESCALATION_CHECK (R257): A slot in reaction past GRACE escalates to SAFE. -/
  | loopEscalationCheck (n : Fin 64)
  /-- LPE_ARM (R248): A write re-arms a slot, resetting its state at its next sample. -/
  | lpeArm (p : Party) (v : Word)
  /-- LPE_SWAP_WRITE (R127): A write to LPE_SWAP stages a swap as LPE.SWAP does. -/
  | lpeSwapWrite (p : Party) (v : Word)
  /-- LPE_PAGE_WRITE (R249): A write to a coefficient page word is taken, or ignored on the present page. -/
  | lpePageWrite (p : Party) (n : Fin 64) (page : Fin 2) (w : Fin 24) (v : Word)
  /-- LANE_FAULT (R261): A lane fails its self-check and leaves service. -/
  | laneFault (lane : Fin 4)
  -- Reference fusion (spec/10_reference_fusion.md)
  /-- FRAME_INSTANT (R267): At a fusion frame the engine takes elements, propagates and runs its batches. -/
  | frameInstant
  /-- FUS_UPD (R268): A write requests a measurement update up to CUTOFF. -/
  | fusUpd (p : Party) (v : Word)
  /-- FUS_POST (R271): A write copies the party's element buffer into a reference slot. -/
  | fusPost (p : Party) (v : Word)
  /-- FUSION_PROPAGATION_COMPLETE (R280): The covariance propagation batch completes. -/
  | fusionPropagationComplete
  /-- FUSION_UPDATE_COMPLETE (R281): The update batch completes; the state is corrected or the update aborted. -/
  | fusionUpdateComplete
  /-- IMU_SAMPLE (R278): The IMU delivers angle and velocity increments each AX0 millisecond. -/
  | imuSample (valid : Bool) (inc : List Word)
  /-- IMU_FAULT (R279): Invalid IMU samples for 20 ms set IMUF and change propagation. -/
  | imuFault
  /-- IMU_RESTORE (R279): One second of valid IMU samples clears IMUF. -/
  | imuRestore
  /-- POS_UNCERTAIN (R285): Dead-reckoning time reaches DRLIM and POSUNC is set. -/
  | posUncertain
  /-- WAVE_VALID (R289): Wave conditions held for 20 s set WVALID. -/
  | waveValid
  -- Satellite baseband (spec/11_gnss_baseband.md)
  /-- ANT_ENABLE_WRITE (R299): A write of EN switches an antenna supply on or off. -/
  | antEnableWrite (p : Party) (a : Fin 2) (v : Word)
  /-- ANT_OPEN (R299): Antenna current below 3 mA for 100 ms enters OPEN. -/
  | antOpen (a : Fin 2) (ma : Nat)
  /-- ANT_OK (R299): Antenna current back at 3 mA for 100 ms returns to ON. -/
  | antOk (a : Fin 2) (ma : Nat)
  /-- ANT_SHORT (R299): Antenna current above 130 mA for 100 µs switches the supply off. -/
  | antShort (a : Fin 2) (ma : Nat)
  /-- ANT_RETRY (R299): One second after a short, the supply retries; the fifth failure latches. -/
  | antRetry (a : Fin 2) (ma : Nat)
  /-- ACQ_START (R304): A START write runs a search list or is refused. -/
  | acqStart (p : Party) (v : Word)
  /-- ACQ_ABORT (R305): An ABORT write ends the running search entry and the list. -/
  | acqAbort (p : Party) (v : Word)
  /-- SEARCH_ENTRY_START (R303): The next search entry is checked and begins storing its snapshot. -/
  | searchEntryStart
  /-- SEARCH_ENTRY_END (R302): A search entry finishes its correlations and writes its result. -/
  | searchEntryEnd (cells : List AcqCell)
  /-- GNB_CHCFG_WRITE (R306): A channel configuration write starts, stops or is refused. -/
  | gnbChcfgWrite (p : Party) (ch : Fin 160) (v : Word)
  /-- GNB_CHLOOP_WRITE (R306): A loop bandwidth write is accepted or refused. -/
  | gnbChloopWrite (p : Party) (ch : Fin 160) (v : Word)
  /-- CHANNEL_INTEGRATION (R309): A channel completes an integration and updates its loops, lock and slip. -/
  | channelIntegration (ch : Fin 160) (m : GnbMeas) (cn0 : Nat) (pi pq : Int) (slip sym : Bool)
  /-- CHANNEL_TRACK (R308): A channel reaches phase lock and synchronisation and enters TRACK. -/
  | channelTrack (ch : Fin 160)
  /-- CHANNEL_PULLIN_TIMEOUT (R308): A channel not in TRACK within 2 s becomes LOST. -/
  | channelPullinTimeout (ch : Fin 160)
  /-- CHANNEL_CODE (R308): A tracking channel loses phase lock for 40 ms and enters CODE. -/
  | channelCode (ch : Fin 160)
  /-- CHANNEL_LOST (R308): C/N0 below CN0MIN for LOSTT makes the channel LOST. -/
  | channelLost (ch : Fin 160)
  /-- EPOCH_STROBE (R310): T reaches an epoch grid instant; channels latch measurements. -/
  | epochStrobe (meas : List (Nat × GnbMeas))
  /-- EPOCH_BLOCK_DELIVERY (R312): The epoch block is delivered on its route and the class 2 event sent. -/
  | epochBlockDelivery
  /-- NAV_SYMBOL_ENTRY (R313): A channel writes a navigation symbol entry into the current bank. -/
  | navSymbolEntry (ch : Fin 160)
  /-- INTERFERENCE_MEASUREMENT (R315): Every 100 ms a band monitor measures its spectrum peak and raises or clears INTF. -/
  | interferenceMeasurement (a b : Fin 2) (peak : Nat) (freq : Int) (agc : Nat)
  /-- AGC_LIMIT (R315): An AGC gain at a range end for 1 s sets AGCLIM. -/
  | agcLimit (a b : Fin 2)
  /-- GNB_ACQCTL_WRITE (R316): A write to the acquisition control is accepted or refused. -/
  | gnbAcqctlWrite (p : Party) (v : Word)
  /-- GNB_CN0MIN_WRITE (R316): A write to the loss threshold is accepted or refused. -/
  | gnbCn0minWrite (p : Party) (v : Word)
  -- Timebase (spec/12_timebase.md)
  /-- TMB_NS_READ (R319): A GET of TMB_NS latches the high part of T for the reading party. -/
  | tmbNsRead (p : Party)
  /-- SERVO_OFFSET (R323): An offset from the source in use updates the servo or counts toward a step. -/
  | servoOffset (src : Nat) (o : Int)
  /-- TIME_STEP (R324): A pending step changes T at the next second boundary. -/
  | timeStep
  /-- SOURCE_LOST (R326): The source in use is lost; the timebase changes source or enters HOLDOVER or FREE. -/
  | sourceLost (src : Nat)
  /-- SOURCE_RETURN (R327): A source returns and the timebase enters ACQUIRE. -/
  | sourceReturn (src : Nat)
  /-- OCXO_WARM (R326): The OCXO has run 180 s and WARM is set. -/
  | ocxoWarm
  /-- PPS_IN_EDGE (R321): A PPS_IN edge yields an offset or is ignored. -/
  | ppsInEdge
  /-- TMB_GPOST (R322): A write posts a GNSS time offset or is refused. -/
  | tmbGpost (p : Party) (v : Word)
  /-- PTP_MESSAGE (R328): A precision time protocol message is received and processed. -/
  | ptpMessage (port : Fin 4) (dom : Nat) (m : PtpMsg)
  /-- PPS_OUT_EDGE (R330): T reaches a whole second and PPS_OUT rises, or the edge is omitted. -/
  | ppsOutEdge
  /-- PPS_PULSE_END (R331): PPS_OUT falls after PPSW ms. -/
  | ppsPulseEnd
  /-- CAPTURE_EDGE (R337): A capture unit stamps an edge and delivers an element. -/
  | captureEdge (k : Fin 16) (rising : Bool)
  /-- TRIGGER_FIRE (R338): A trigger unit fires on its grid or compare and acts on its destination. -/
  | triggerFire (k : Fin 16)
  /-- PTP_MESSAGE_INTERVAL (R328): A PTP message interval or receipt timeout of a port elapses, so the port sends Sync, Announce or delay requests, or changes its port state. -/
  | ptpMessageInterval (port : Fin 4) (t : PtpTimer)
  -- Ethernet and twin telegrams (spec/18_ethernet_twin_telegrams.md); age: ns since the start of the frame
  /-- ETH_FRAME_RECEIVED (R507): A received Ethernet frame is sorted to timebase, service, pair, slots or filters. -/
  | ethFrameReceived (port : Fin 4) (f : EthFrame) (age : Nat)
  /-- TWIN_TELEGRAM_COPY (R512): A twin telegram copy opens, joins or is decided in its slot's window. -/
  | twinTelegramCopy (c : TelCopy) (age : Nat)
  /-- TELEGRAM_WINDOW_CLOSE (R511): A slot window closes and its sequence is decided. -/
  | telegramWindowClose (slot : Fin 64) (seq : Nat)
  /-- ETH_LINK_DOWN (R506): An Ethernet port loses its link, sets LINKDN, counts NLINK and stops sending there. -/
  | ethLinkDown (port : Fin 4) (unsent : Nat)
  /-- ETH_LINK_UP (R587): An Ethernet port gains its link at the negotiated or forced speed shown in SPEED. -/
  | ethLinkUp (port : Fin 4) (speed : Fin 3)
  -- Safety functions (spec/14_safety_functions.md)
  /-- SAFETY_FAULT (R389): A safety fault switches off all safety outputs and latches SFAULT. -/
  | safetyFault (mv : Nat)
  /-- SAFETY_SELFTEST (R389): Every 10 ms the safety block runs its self-test. -/
  | safetySelftest (pass : Bool)
  /-- CONTACT_CHANGE (R391): A contact level held for the filter time changes a pair's reading. -/
  | contactChange (n : Fin 32) (level : Bool)
  /-- DISCREPANCY_TIMEOUT (R392): A mixed reading lasting DISCT latches DISC. -/
  | discrepancyTimeout (k : Fin 16)
  /-- CONTACT_FAULT (R394): A wire break, short or link loss on a contact degrades the pair. -/
  | contactFault (n : Fin 32)
  /-- CONTACT_FAULT_CLEAR (R394): A contact sound and agreeing for 100 ms clears its fault. -/
  | contactFaultClear (n : Fin 32)
  /-- TEST_WINDOW_OPEN (R398): A safety output's test window opens and holds it off. -/
  | testWindowOpen (k : Fin 16)
  /-- TEST_WINDOW_END (R399): A test window ends with its read-back check and pending switch-on. -/
  | testWindowEnd (k : Fin 16) (readOff : Bool)
  /-- READBACK_FAIL (R400): A read-back check fails and latches an output fault. -/
  | readbackFail (k : Fin 16) (on : Bool)
  /-- DEGRADED_TIME_EXPIRY (R404): A function's degraded timer reaches DEGT and it enters its safe state. -/
  | degradedTimeExpiry (f : Fin 16)
  /-- SAF_FACK (R405): A write acknowledges functions in their safe state, or is refused. -/
  | safFack (p : Party) (v : Word)
  /-- CLAUSE_WATCHDOG (R406): A safety clause not ENDED within CWDT puts its function in safe state. -/
  | clauseWatchdog (f : Fin 16)
  /-- TELEGRAM_WATCHDOG (R409): A safety slot's watchdog expires and its functions enter safe state. -/
  | telegramWatchdog (slot : Fin 64)
  -- Field I/O (spec/15_field_io.md)
  /-- ISO_FRAME (R418): A valid isolation-link frame arrives and its fields are taken. -/
  | isoFrame (g : Fin 4) (up : Bool) (w lat : Nat)
  /-- ISO_LINK_LOSS (R420): No valid frame for 16 µs marks a group's link down. -/
  | isoLinkLoss (g : Fin 4)
  /-- ISO_LINK_RESTORE (R420): Four consecutive valid frames mark the link up again. -/
  | isoLinkRestore (g : Fin 4)
  /-- FIELD_HOLD (R421): A field side without down-frames for 16 µs holds its outputs. -/
  | fieldHold (g : Fin 4)
  /-- FIELD_SAFE (R421): At LLT without frames the field side applies safe values. -/
  | fieldSafe (g : Fin 4)
  /-- OUTPUT_APPLY (R423): A published value is applied at the field stage 12 µs after publication. -/
  | outputApply (g : Fin 4) (k : Fin 16)
  /-- WIRE_BREAK (R429): An input below the wire-break threshold for 10 ms reports a wire break. -/
  | wireBreak (n : Fin 32) (vin vfs : Nat)
  /-- SHORT_CIRCUIT (R429): An input near the sensor supply for 10 ms reports a short circuit. -/
  | shortCircuit (n : Fin 32) (vin vfs : Nat)
  /-- INPUT_FAULT_CLEAR (R429): A report clears after 10 ms without its condition. -/
  | inputFaultClear (n : Fin 32) (vin vfs : Nat)
  /-- OUTPUT_OVERLOAD (R434): An output at its current limit for 10 ms switches off and latches OVL. -/
  | outputOverload (k : Fin 16)
  /-- OVERLOAD_RETRY (R434): With AUTOR, an overloaded output retries after 1 s. -/
  | overloadRetry (k : Fin 16)
  /-- DIO_ORST (R434): A write clears latched overloads of outputs. -/
  | dioOrst (p : Party) (v : Word)
  /-- OUTPUT_OVERTEMP (R435): An output at 165 °C switches off, and on again below 145 °C. -/
  | outputOvertemp (k : Fin 16) (tj : Int)
  /-- OUTPUT_OPEN_WIRE (R435): An off output above 2.0 V for 100 ms reports OPEN. -/
  | outputOpenWire (k : Fin 16) (mv : Nat)
  /-- FIELD_SUPPLY_LOW (R437): A field supply below 18 V for 1 ms is flagged and recorded. -/
  | fieldSupplyLow (b : Fin 2) (mv : Nat)
  /-- FIELD_RAIL_LOW (R437): The ORed field rail falls below 14.0 V, so every G2 output and G3 loop is off and reports a stage fault, until the rail returns. -/
  | fieldRailLow (mv : Nat)
  /-- LOOP_OPEN (R440): A commanded loop reading below 0.2 mA for 20 ms reports OPEN. -/
  | loopOpen (c : Fin 8)
  /-- LOOP_COMPLIANCE (R440): A loop off its command by 0.2 mA for 20 ms reports COMPLIANCE. -/
  | loopCompliance (c : Fin 8)
  /-- LOOP_OK (R440): A loop report clears after 20 ms without its condition. -/
  | loopOk (c : Fin 8)
  -- Filter chains, encoders, serial channels (spec/16_filter_chains_encoders.md)
  /-- CHAIN_OUTPUT (R445): A filter chain completes a decimated output and routes it. -/
  | chainOutput (c : Fin 16) (bits : List Bool) (age : Nat)
  /-- MAINS_PHASE_VALID (R454): Tracker conditions held for 1 s set MPVALID. -/
  | mainsPhaseValid
  /-- CHAIN_STUCK (R448): DATA at one level for 1024 clocks puts the chain in fault. -/
  | chainStuck (c : Fin 16)
  /-- CHAIN_CLKLOSS (R448): No chain clock for 1 µs puts the chain in fault. -/
  | chainClkloss (c : Fin 16)
  /-- CHAIN_FAULT_END (R448): A chain fault ends and the chain restarts. -/
  | chainFaultEnd (c : Fin 16) (cause : Fin 2)
  /-- ENCODER_SAMPLE (R455): An encoder channel samples, forms position and velocity and delivers them. -/
  | encoderSample (e : Fin 8)
  /-- QUADRATURE_EDGE (R457): An accepted A/B edge moves the position counter. -/
  | quadratureEdge (e : Fin 8) (a b : Bool)
  /-- Z_EDGE (R458): A rising Z edge homes the channel or checks its count. -/
  | zEdge (e : Fin 8)
  /-- ENCODER_LINE_FAULT (R458): An open or shorted encoder pair for 1 µs makes the channel invalid. -/
  | encoderLineFault (e : Fin 8)
  /-- ENCODER_FAULT_END (R458): Ten ms without a fault makes an unhomed channel valid again. -/
  | encoderFaultEnd (e : Fin 8)
  /-- SSI_READ_END (R459): An SSI read completes with a position or a fault. -/
  | ssiReadEnd (e : Fin 8) (raw : Nat) (par low : Bool)
  /-- ENC_HOME (R458): A write clears HOMED of a channel. -/
  | encHome (p : Party) (e : Fin 8) (v : Word)
  /-- SERIAL_CHARACTER (R463): The receiver takes one character with framing and parity checks. -/
  | serialCharacter (k : Fin 4) (ch : Byte) (par stop : Bool) (age : Nat)
  /-- SERIAL_MESSAGE_END (R464): A received message ends and is delivered on its route. -/
  | serialMessageEnd (k : Fin 4)
  /-- SERIAL_BREAK (R463): The receive line reads 0 for two character times. -/
  | serialBreak (k : Fin 4) (age : Nat)
  /-- SERIAL_TX_START (R469): An idle channel starts sending its next queued message. -/
  | serialTxStart (k : Fin 4)
  /-- SERIAL_TX_SENT (R471): The last stop bit of a message is sent; it ends SENT. -/
  | serialTxSent (k : Fin 4)
  -- CAN FD (spec/17_can_fd.md)
  /-- CAN_ENTRY_ELIGIBLE (R483): A queued CAN entry becomes eligible 0.5 µs after its full stop. -/
  | canEntryEligible (n : Fin 6)
  /-- CAN_ARBITRATION (R484): The channel offers its best eligible entry at the start of arbitration. -/
  | canArbitration (n : Fin 6)
  /-- CAN_TX_COMPLETE (R485): A frame completes and its entry ends with a completion record. -/
  | canTxComplete (n : Fin 6) (delay : Nat)
  /-- CAN_TX_ERROR (R488): A lost arbitration or error returns, ends or withdraws the entry. -/
  | canTxError (n : Fin 6) (f : CanFail)
  /-- CAN_BUSOFF (R479): The channel enters bus-off and ends its entries BUSOFF. -/
  | canBusoff (n : Fin 6)
  /-- CFD_RECOV (R479): A write starts bus-off recovery. -/
  | cfdRecov (p : Party) (n : Fin 6) (v : Word)
  /-- CAN_BUSOFF_RECOVERED (R479): Recovery ends after 128 idle sequences. -/
  | canBusoffRecovered (n : Fin 6)
  /-- CAN_MODE_SWITCH (R478): At bus-idle after an authority change the channel changes effective mode. -/
  | canModeSwitch (n : Fin 6)
  /-- CFD_CANCEL (R487): A write cancels matching transmit entries. -/
  | cfdCancel (p : Party) (n : Fin 6) (v : Word)
  /-- CAN_RECORD_WRITE (R491): A waiting completion record is written as ring space frees. -/
  | canRecordWrite (n : Fin 6)
  /-- CFD_TXCACK (R490): A write acknowledges completion records or is refused. -/
  | cfdTxcack (p : Party) (n : Fin 6) (v : Word)
  /-- CAN_FRAME_RECEIVED (R493): A received frame is filtered into the queue, a buffer or rejected. -/
  | canFrameReceived (n : Fin 6) (image : List Word) (age : Nat)
  /-- CFD_RXACK (R495): A write acknowledges receive entries or is refused. -/
  | cfdRxack (p : Party) (n : Fin 6) (v : Word)
  /-- CFD_HPACK (R496): A write acknowledges high-priority buffers. -/
  | cfdHpack (p : Party) (n : Fin 6) (v : Word)
  /-- CAN_RECEIVE_ERROR (R479): A bus error detected while the channel receives raises its receive error counter and can make it error-passive. -/
  | canReceiveError (n : Fin 6) (by8 : Bool)
  -- Redundant pair (spec/13_redundant_pair.md); a frame is its bytes as received on a lane (0 lane 1, 1 lane 2); path: 0 lanes, 1 HB, 2 lane 1, 3 lane 2
  /-- HEARTBEAT_SEND (R340): Every 4 µs a heartbeat frame is sent on each lane that is up. -/
  | heartbeatSend
  /-- HEARTBEAT_FRAME (R343): A valid peer heartbeat frame arrives and refreshes the lane path. -/
  | heartbeatFrame (lane : Fin 2) (frame : List Byte)
  /-- HB_IN_EDGE (R344): An edge on HB_IN keeps the hardwired path alive. -/
  | hbInEdge
  /-- ALIVE_PULSE_LOSS (R342): No scheduler alive pulse for 2 µs stops heartbeats, enables and AUTH_OUT. -/
  | alivePulseLoss
  /-- PEER_FAIL (R344): Both paths silent for 8 µs declare the peer failed. -/
  | peerFail
  /-- PEER_ALIVE (R344): Both paths alive for 100 ms make the peer alive again. -/
  | peerAlive
  /-- PATH_LOSS (R345): One path or lane silent for 8 µs while the other lives is recorded. -/
  | pathLoss (path : Fin 4)
  /-- PATH_RESTORE (R345): A path or lane alive again for 1 s writes PAIR_PATH_RESTORE. -/
  | pathRestore (path : Fin 4)
  /-- LANE_TRAINED (R346): A lane ends equaliser training and goes up. -/
  | laneTrained (lane : Fin 2) (eq : Fin 256)
  /-- LANE_DOWN (R346): More than 16 CRC errors in 1 ms take a lane down to retrain. -/
  | laneDown (lane : Fin 2)
  /-- EQ_LIMIT (R346): An equaliser at a range end for 1 s sets EQLIM. -/
  | eqLimit (lane : Fin 2) (eq : Fin 256)
  /-- AUTH_IN_INACTIVE (R347): AUTH_IN has no edge for 1.0–1.5 µs and reads inactive. -/
  | authInInactive
  /-- AUTH_IN_ACTIVE (R347): Edges on AUTH_IN make it active. -/
  | authInActive
  /-- AUTHORITY_REQUEST (R348): A unit requests authority and starts toggling AUTH_OUT. -/
  | authorityRequest
  /-- ARBITRATION_WINDOW_END (R348): The 2 µs arbitration window ends and HOLD is set. -/
  | arbitrationWindowEnd
  /-- DUAL_AUTHORITY (R350): A holder sees AUTH_IN active for 2 µs; unit B yields. -/
  | dualAuthority
  /-- PAIR_BEACON_SEND (R505): Every 1 ms a pair beacon is sent as a twin telegram. -/
  | pairBeaconSend
  /-- PAIR_BEACON (R351): A received peer beacon with HOLD may reveal dual authority. -/
  | pairBeacon (c : TelCopy)
  /-- EPOCH_HEADER_FRAME (R360): An epoch header frame arrives on a lane and begins reassembly. -/
  | epochHeaderFrame (lane : Fin 2) (frame : List Byte)
  /-- EPOCH_BODY_FRAME (R357): An epoch body frame arrives and extends the lane's copy. -/
  | epochBodyFrame (lane : Fin 2) (frame : List Byte)
  /-- EPOCH_COMMIT_FRAME (R361): An epoch commit frame completes a copy, which is checked and applied or discarded. -/
  | epochCommitFrame (lane : Fin 2) (frame : List Byte)
  /-- EPOCH_COPY_TIMEOUT (R360): An incomplete epoch copy times out and is discarded. -/
  | epochCopyTimeout (lane : Fin 2)
  /-- EPOCH_APPLY (R362): The epoch copy into the back bank ends and the bank passes to clause MCL's host. -/
  | epochApply
  /-- EPOCH_TRANSMIT_END (R358): The last frame of a queued mirror epoch leaves both lanes, freeing its transmit memory for the next epoch. -/
  | epochTransmitEnd
  /-- HO_PREP (R375): A received HO_PREP arms a qualifying peer, which answers HO_ACK. -/
  | hoPrep (lane : Fin 2) (frame : List Byte)
  /-- HO_ACK (R375): A received HO_ACK lets the holder release at the named full stop. -/
  | hoAck (lane : Fin 2) (frame : List Byte)
  /-- REVERT_REQ (R378): A received REVERT_REQ makes the holder start a planned handover. -/
  | revertReq (lane : Fin 2) (frame : List Byte)
  /-- TXPREP (R381): A received TXPREP gives the peer's prepare result and CRC. -/
  | txprep (lane : Fin 2) (frame : List Byte)
  /-- TXDEC (R382): A received TXDEC gives the decider's commit or abort. -/
  | txdec (lane : Fin 2) (frame : List Byte)
  /-- BTL_HOREQ (R375): A write of GO starts a planned handover on the holder. -/
  | btlHoreq (p : Party) (v : Word)
  /-- HANDOVER_FAIL (R377): No AUTH_IN change within 20 µs of the full stop fails the handover. -/
  | handoverFail
  /-- REVERT_HOLDOFF_ELAPSED (R378): HOLDOFF seconds pass since the preferred unit entered state 2, so REVRDY may be set and REVERT_REQ sent. -/
  | revertHoldoffElapsed
  /-- BTL_TXN (R379): A write marks a group's pending set as a pair transaction or is refused. -/
  | btlTxn (p : Party) (v : Word)
  /-- TXN_DECISION_TIMEOUT (R381): No peer TXPREP 100 µs before the next full stop makes the decider abort. -/
  | txnDecisionTimeout (g : GroupNo)
  -- Event recorder (spec/19_event_recorder.md)
  /-- FREEZE_SNAPSHOT (R535): Within 50 µs of a trigger the snapshot ports are read into the slot. -/
  | freezeSnapshot (k : Fin 4)
  /-- RECORD_STORE_WRITE (R526): A record is written to the store and copied into areas and slots. -/
  | recordStoreWrite
  /-- STORE_WRITE_FAULT (R528): A record cannot be written and its sequence is stated lost. -/
  | storeWriteFault (n : Nat) (block : Option Nat)
  /-- EVR_SCRUB (R528): The 24 h scrub reads the store and states failed records lost. -/
  | evrScrub (area : Fin 6) (first n : Nat)
  /-- OPTIME_SAVE (R522): Every 60 s OPTIME and PCC are saved to the event store. -/
  | optimeSave
  /-- EVR_CUR (R532): A write requests records into the party's window or is refused. -/
  | evrCur (p : Party) (v : Word)
  /-- WINDOW_COPY_END (R533): The requested records are copied into the window and RDY set. -/
  | windowCopyEnd (p : Party) (bad : Fin 65536)
  /-- EVR_FREL (R536): A write releases freeze slots to EMPTY. -/
  | evrFrel (p : Party) (v : Word)
  /-- EVR_DSEL (R588): A write selects a code whose name and layout the dictionary returns. -/
  | evrDsel (p : Party) (v : Word)
  -- Start-up, reset, addressing (spec/20_startup_reset_update.md, spec/01_installation_roles.md)
  /-- FEED_PRESENT (R544): The first feed counts as present and the start sequence begins. -/
  | feedPresent (railOff : Bool)
  /-- SELF_TEST_END (R544): Built-in self-test ends and memory is cleared, or service-only on failure. -/
  | selfTestEnd (pass : Bool)
  /-- IMAGE_CHECK_END (R540): The boot ROM finishes checking images and chooses one or none. -/
  | imageCheckEnd (place0 place1 : Bool)
  /-- ADDRESS_TAKE (R547): The unit takes, keeps or fails to take its chain address at start. -/
  | addressTake (inPresent outPresent : Bool)
  /-- PAIR_NEGOTIATION (R14): Exchanged heartbeats compare PAIR_SEL values at start. -/
  | pairNegotiation
  /-- PROGRAM_LOAD (R545): The loader writes memory, values in force and bank owners, then the program starts. -/
  | programLoad (code : List (EngineNo × List Word)) (values : List (Nat × Word)) (owners : List (BankNo × Nat))
  /-- POWER_FAIL (R543): Both feeds below 16 V for 100 µs trigger power-fail handling. -/
  | powerFail
  /-- CHAIN_FRAME_SEND (R546): Every 2 ms the unit sends its address frame on CHAIN_OUT. -/
  | chainFrameSend
  /-- CHAIN_FRAME (R547): A valid address frame arrives on CHAIN_IN. -/
  | chainFrame (f : Word)
  /-- CHAIN_BREAK (R549): No valid chain frame for 20 ms on a connected input sets CHAIN_BREAK. -/
  | chainBreak
  /-- ADDR_CHANGE (R549): Chain frames offering another address for 100 ms are recorded. -/
  | addrChange
  /-- ADDR_DUPLICATE_END (R550): After a reset, 10 s pass with no telegram carrying the unit's own address, so the duplicate-address condition ends. -/
  | addrDuplicateEnd
  /-- STRAP_CHANGE (R13): A strap input changes while running and is recorded. -/
  | strapChange (sel solo : Bool)
  /-- UNIT_RESET (R551): A reset re-initialises the unit and restarts its start sequence. -/
  | unitReset
  /-- SYS_RST_ORDERLY (R553): An orderly reset request resets, hands over first, or is held. -/
  | sysRstOrderly (p : Party) (go : Bool) (code : Fin 65536)
  /-- SYS_RST_IMMEDIATE (R554): An immediate reset request resets the unit within 10 µs. -/
  | sysRstImmediate (p : Party) (go : Bool) (code : Fin 65536)
  /-- BUTTON_RELEASE (R555): A reset-button press of 0.1–5 s requests an orderly reset at release. -/
  | buttonRelease (us : Nat)
  /-- BUTTON_STUCK (R555): A press reaching 5 s is treated as stuck. -/
  | buttonStuck
  /-- BUTTON_UNSTUCK (R555): A stuck button released for 1 s is heeded again. -/
  | buttonUnstuck
  /-- CLOCK_DOMAIN_RETURN (R48): A lost clock domain runs again within 1 % long enough, releasing the reset hold or restarting the blocks that depend on it. -/
  | clockDomainReturn (d : Fin 17)
  -- Supplies and temperatures (spec/21_electrical_mechanical.md)
  /-- FEED_LOW (R563): A feed below 18 V for 1 ms is flagged and recorded. -/
  | feedLow (feed : Fin 2) (cv : Fin 65536)
  /-- FEED_OK (R563): A feed back at 18 V for 1 s writes FEED_OK. -/
  | feedOk (feed : Fin 2) (cv : Fin 65536)
  /-- TEMP_HIGH (R571): A sensor at 115 °C for 1 s makes the unit unhealthy. -/
  | tempHigh (die pkg : Int)
  /-- TEMP_HIGH_END (R571): Sensors at or below 105 °C for 10 s end the high-temperature condition. -/
  | tempHighEnd (die pkg : Int)
  /-- TEMP_CRITICAL (R571): A sensor at 125 °C for 10 ms raises a safety fault and drops authority. -/
  | tempCritical (die pkg : Int)
  /-- TBOARD (R571): The board sensor out of range for 1 s sets TBOARD. -/
  | tboard (board : Int)
  /-- ENV_RANGE (R572): An operating condition outside range writes ENV_RANGE. -/
  | envRange (k : EnvCond)
  /-- ENV_RANGE_END (R572): One second without such a condition writes ENV_RANGE_END. -/
  | envRangeEnd
  -- Eweuc service protocol (spec/20_startup_reset_update.md R556 to R560)
  /-- OPEN (R557): A service OPEN request opens a session at observer level. -/
  | openSession (tag : Fin 65536)
  /-- LEVEL (R557): A service LEVEL request raises the session level by token. -/
  | level (session tag : Fin 65536) (token : List Byte)
  /-- CLOSE (R557): A service CLOSE request closes the session. -/
  | close (session tag : Fin 65536)
  /-- PGET (R556): A service PGET request reads up to 64 port registers. -/
  | pget (session tag : Fin 65536) (addrs : List (Fin 65536))
  /-- PPUT (R556): A service PPUT request writes up to 64 port registers. -/
  | pput (session tag : Fin 65536) (g : GroupNo) (pairs : List (Fin 65536 × Word))
  /-- IMGW (R559): A service IMGW request writes image bytes into a slot. -/
  | imgw (session tag : Fin 65536) (slot : Fin 256) (off : Nat) (data : List Byte)
  /-- IMGCHK (R559): A service IMGCHK request checks a slot's image. -/
  | imgchk (session tag : Fin 65536) (slot : Fin 256)
  /-- RESET (R556): A service RESET request starts an orderly or immediate reset. -/
  | reset (session tag : Fin 65536) (immediate : Bool)
  /-- CLEAR (R531): A service CLEAR request clears the permanent area and freeze slots. -/
  | clear (session tag : Fin 65536) (client : Fin 256) (token : List Byte)
  /-- KEY (R558): A service KEY request writes a public key slot. -/
  | key (session tag : Fin 65536) (slot : Fin 256) (pub token : List Byte)
  /-- SESSION_TIMEOUT (R557): A session closes 60 s after its last request. -/
  | sessionTimeout (session : Fin 65536)
  /-- SYS_BOOT_WRITE (R542): A commissioner write of SEL stores the next boot slot. -/
  | sysBootWrite (p : Party) (v : Word)
  /-- IMAGE_DIFF (R560): Differing image hashes for 1 s set IMGDIFF. -/
  | imageDiff
deriving DecidableEq, Repr

end Sys2Proof
end

