-- ==== Sys2Proof/Decode.lean ====
section
/-! DEFINITION. Decode.lean: the command a table word spells (the table gives no row any bits, so none), and the
Sirwen instruction words of spec/04_instruction_reference.md, which the fetch rules R83 and R100 need. -/
namespace Sys2Proof

open Sys2Proof.Machine

/-- The command a word spells by the bits of spec/opcode_table.json: every row's bits are empty, so no word spells one. -/
def decodeTableWord (_nbits _w : Nat) : Option Instr := none

/-! ### Sirwen words -/

/-- A word whose fields are legal gives this instruction; any other gives none (R100). -/
def legal (ok : Bool) (i : Instr) : Option Instr := if ok then some i else none

/-- A register field of a word. -/
def regField (w : Word) (lo : Nat) : RegNo := Fin.ofNat 32 (fld w (lo + 4) lo)

/-- A predicate field of a word. -/
def predField (w : Word) (lo : Nat) : PredNo := Fin.ofNat 8 (fld w (lo + 2) lo)

/-- An accumulator field of a word. -/
def accField (w : Word) (lo : Nat) : AccNo := Fin.ofNat 4 (fld w (lo + 1) lo)

/-- R104: the shift count operand of a register-form shift. -/
def shiftField (w : Word) : ShiftCount := if bit w 5 then .imm (fld w 11 7) else .reg (regField w 7)

/-- Opcode 16#01 (R103, R104). -/
def decodeAlu (x : Guard) (w : Word) : Option Instr :=
  let wd := regField w 17
  let wa := regField w 12
  let wb := regField w 7
  let wrap := bit w 6
  let plain := !(bit w 5)
  let noW := !wrap
  let one := fld w 11 7 == 0
  match fld w 4 0 with
  | 0 => legal plain (.add x wd wa wb wrap)
  | 1 => legal plain (.sub x wd wa wb wrap)
  | 2 => legal (plain && one) (.neg x wd wa wrap)
  | 3 => legal (plain && one) (.abs x wd wa wrap)
  | 4 => some (.asl x wd wa (shiftField w) wrap)
  | 5 => legal (noW && (plain || !one)) (.asr x wd wa (shiftField w))
  | 6 => legal noW (.lsl x wd wa (shiftField w))
  | 7 => legal noW (.lsr x wd wa (shiftField w))
  | 8 => legal (plain && noW) (.and x wd wa wb)
  | 9 => legal (plain && noW) (.or x wd wa wb)
  | 10 => legal (plain && noW) (.xor x wd wa wb)
  | 11 => legal (plain && noW && one) (.not x wd wa)
  | 12 => legal (plain && noW) (.min x wd wa wb)
  | 13 => legal (plain && noW) (.max x wd wa wb)
  | 14 => legal (plain && noW && one) (.cls x wd wa)
  | _ => none

/-- Opcode 16#06 (R105). -/
def decodeAcc (x : Guard) (w : Word) : Option Instr :=
  let an := accField w 20
  let am := accField w 18
  let wa := regField w 13
  let wb := regField w 8
  let ok := fld w 3 0 == 0
  match fld w 6 4 with
  | 0 => legal ok (.mac x an wa wb (bit w 7))
  | 1 => legal ok (.msu x an wa wb (bit w 7))
  | 2 => legal ok (.adda x an am (bit w 7))
  | 3 => legal ok (.suba x an am (bit w 7))
  | 4 => legal (ok && fld w 19 7 == 0) (.aclr x an)
  | _ => none

/-- Opcode 16#07 (R105). -/
def decodeMova (x : Guard) (w : Word) : Option Instr :=
  let an := accField w 20
  let wr := regField w 15
  let s := fld w 13 8
  let ok := fld w 6 0 == 0
  if bit w 7 then legal (ok && !(bit w 14) && decide (s < 40)) (.aload x an wr s)
  else legal ok (.mova x wr an s (bit w 14))

/-- R107, R108: the register side of a load or store word. -/
def memFormField (w : Word) : MemForm :=
  match fld w 11 10 with
  | 0 => .byte (bit w 9) (regField w 17)
  | 1 => .half (bit w 9) (regField w 17)
  | 2 => .word (regField w 17)
  | _ => .acc (accField w 17)

/-- Opcodes 16#0C and 16#0D: bits 21:19 are reserved for an accumulator image; X is undefined but for short loads. -/
def memWordOk (load : Bool) (w : Word) : Bool :=
  (fld w 11 10 != 3 || fld w 21 19 == 0) && (!(bit w 9) || (load && decide (fld w 11 10 < 2)))

/-- R110: a condition code; 14 and 15 are undefined. -/
def condField : Nat → Option Cond
  | 0 => some .eq | 1 => some .ne | 2 => some .lt | 3 => some .ge | 4 => some .le | 5 => some .gt
  | 6 => some .ltu | 7 => some .geu | 8 => some .leu | 9 => some .gtu | 10 => some .tlt | 11 => some .tge
  | 12 => some .test | 13 => some .ntest
  | _ => none

/-- R111: the operation of PLOG. -/
def plogField : Nat → PlogOp
  | 0 => .and | 1 => .or | 2 => .xor | _ => .andn

/-- R133: the SAF operations. -/
def decodeSaf (x : Guard) (w : Word) : Option Instr :=
  let ok := fld w 7 0 == 0
  match fld w 11 8 with
  | 0 => legal ok (.safOff x (regField w 12))
  | 1 => legal ok (.safOn x (regField w 12))
  | 2 => legal ok (.safRst x (regField w 12))
  | 3 => legal ok (.safGetin x (regField w 17))
  | _ => none

/-- R118, R119, R126: the timeout of a wait, from its extension word; 0 is undefined. -/
def timeoutOk (w1 : Word) : Bool := fld w1 23 0 != 0

/-- R101: whether an opcode has an extension word. -/
def hasExtension (op : Nat) : Bool := [0x10, 0x11, 0x1B, 0x1C, 0x21, 0x25].contains op

/-- The instruction of the words with opcode `op` (the opcode map of spec/04_instruction_reference.md); none: the
opcode is not assigned or a field is undefined or reserved (R100). -/
def decodeOp (x : Guard) (op : Nat) (w w1 : Word) : Option Instr :=
  match op with
  | 0x01 => decodeAlu x w
  | 0x02 => some (.addi x (regField w 17) (regField w 12) (sext 11 (fld w 10 0)) (bit w 11))
  | 0x03 =>
    match fld w 11 10 with
    | 0 => some (.andi x (regField w 17) (regField w 12) (fld w 9 0))
    | 1 => some (.ori x (regField w 17) (regField w 12) (fld w 9 0))
    | 2 => some (.xori x (regField w 17) (regField w 12) (fld w 9 0))
    | _ => none
  | 0x04 => if bit w 16 then some (.movhi x (regField w 17) (fld w 15 0)) else some (.movs x (regField w 17) (fld w 15 0))
  | 0x05 => some (.mul x (regField w 17) (regField w 12) (regField w 7) (fld w 5 0) (bit w 6))
  | 0x06 => decodeAcc x w
  | 0x07 => decodeMova x w
  | 0x08 => legal (fld w 6 0 == 0) (.sincos x (regField w 17) (regField w 7) (regField w 12))
  | 0x09 => legal (fld w 6 0 == 0) (.atan2 x (regField w 17) (regField w 12) (regField w 7))
  | 0x0A => legal (fld w 11 7 == 0 && decide (fld w 6 0 ≤ 62)) (.sqrt x (regField w 17) (regField w 12) (fld w 6 0))
  | 0x0B => legal (fld w 11 7 == 0 && decide (fld w 6 0 ≤ 94)) (.rsqrt x (regField w 17) (regField w 12) (fld w 6 0))
  | 0x0C => legal (memWordOk true w) (.ld x (memFormField w) (regField w 12) (bit w 8) (sext 8 (fld w 7 0)) {})
  | 0x0D => legal (memWordOk false w) (.st x (memFormField w) (regField w 12) (bit w 8) (sext 8 (fld w 7 0)) 0)
  | 0x0E => some (.get x (regField w 17) (regField w 12) (fld w 11 0))
  | 0x0F => some (.put x (regField w 17) (regField w 12) (fld w 11 0))
  | 0x10 => legal (fld w 11 0 == 0 && fld w1 31 16 == 0) (.getl x (regField w 17) (regField w 12) (fld w1 15 0))
  | 0x11 => legal (fld w 11 0 == 0 && fld w1 31 16 == 0) (.putl x (regField w 17) (regField w 12) (fld w1 15 0))
  | 0x12 =>
    match condField (fld w 8 5) with
    | some cc => legal (fld w 4 0 == 0) (.cmp x (predField w 19) (regField w 14) (regField w 9) cc)
    | none => none
  | 0x13 =>
    match condField (fld w 13 10) with
    | some cc => some (.cmpi x (predField w 19) (regField w 14) cc (sext 10 (fld w 9 0)))
    | none => none
  | 0x14 => legal (fld w 10 0 == 0) (.plog x (predField w 19) (predField w 16) (predField w 13) (plogField (fld w 12 11)))
  | 0x15 => legal (fld w 21 16 == 0 && fld w 15 0 != 0 && decide (fld w 15 0 < 32768)) (.br x (fld w 15 0))
  | 0x16 => legal (fld w 21 16 == 0 && fld w 15 0 != 0 && decide (fld w 15 0 < 32768)) (.call x (fld w 15 0))
  | 0x17 => legal (fld w 21 0 == 0) (.ret x)
  | 0x18 => legal (fld w 21 17 == 0 && fld w 11 8 == 0) (.brt x (regField w 12) (fld w 7 0 + 1))
  | 0x19 => some (.loop x (fld w 21 10 + 1) (fld w 9 0 + 1))
  | 0x1A => legal (fld w 21 17 == 0 && fld w 11 10 == 0) (.loopr x (regField w 12) (fld w 9 0 + 1))
  | 0x1B => legal (fld w 10 0 == 0 && fld w1 31 24 == 0 && timeoutOk w1)
      (.waitAx x (predField w 19) (Fin.ofNat 8 (fld w 18 16)) (regField w 11) (fld w1 23 0))
  | 0x1C => legal (fld w 12 8 == 0 && (bit w 13 || fld w1 31 24 == 0) && timeoutOk w1)
      (.join x (regField w 17) (predField w 14) (Fin.ofNat 256 (fld w 7 0))
        (if bit w 13 then some (Fin.ofNat 256 (fld w1 31 24)) else none) (fld w1 23 0))
  | 0x1D => legal (fld w 21 0 == 0) (.fstop x)
  | 0x1E => legal (fld w 7 0 == 0) (.own x (Fin.ofNat 64 (fld w 21 16)) (fld w 15 8))
  | 0x20 => legal (fld w 8 0 == 0) (.submitSol x (regField w 17) (predField w 9) (regField w 12))
  | 0x21 => legal (fld w 8 0 == 0 && fld w1 31 24 == 0 && timeoutOk w1)
      (.waitT x (regField w 17) (predField w 9) (regField w 12) (fld w1 23 0))
  | 0x22 => legal (fld w 8 0 == 0) (.optRun x (regField w 17) (predField w 9) (regField w 12))
  | 0x23 => legal (fld w 6 0 == 0 && (!(bit w 7) || fld w 13 8 == 0))
      (.lpeSwap x (predField w 19) (regField w 14) (fld w 13 8 + 1) (bit w 7))
  | 0x24 => legal (fld w 13 12 == 0) (.mirPut x (predField w 19) (regField w 14) (fld w 11 0 + 1) {})
  | 0x25 => legal (fld w 8 0 == 0 && fld w1 31 11 == 0)
      (.telSend x (predField w 19) (regField w 14) (regField w 9) (fld w1 10 0) {})
  | 0x26 => legal (fld w 8 0 == 0) (.txq x (predField w 19) (regField w 14) (regField w 9) {})
  | 0x27 => some (.log x (predField w 19) (regField w 14) (bit w 13) (fld w 12 0) {})
  | 0x28 => decodeSaf x w
  | _ => none

/-- R99, R100: the Sirwen instruction that engine `e` reads from a word and, where its opcode has one, the extension
word after it; none: an undefined encoding. Wake stalls (R68) are 0, and no word is in error, in what is
decoded. -/
def decodeSirwen (e : EngineNo) (w0 w1 : Word) : Option Instr :=
  let x : Guard := { e := e, pn := bit w0 31, pg := predField w0 28 }
  if bit w0 31 && fld w0 30 28 == 0 then none else decodeOp x (fld w0 27 22) w0 w1

end Sys2Proof
end

