-- ==== Sys2Proof/Config.lean ====
section
/-! DEFINITION. Config.lean: what one implementation fixes and the spec does not state. Every constant here is
opaque: nothing can evaluate it, and a statement that holds of the model holds whatever it is. Each has an entry
in the assumption log. -/
namespace Sys2Proof.Config

/-- R588: the record index (CODE bits 7:0) of a unit's record, by the position of its name in the model's list. -/
opaque recIndex : Nat → Nat

/-- R523: the level (SOURCE bits 15:12) of a unit's record, by the position of its name in the model's list. -/
opaque recLevel : Nat → Nat

/-- R588: the payload bytes in which a unit's record holds its items. -/
opaque recPayload : Nat → List Nat → List (BitVec 8)

/-- R523, R588: the 32 bytes of the dictionary name and the 96 bytes of the layout text of a code. -/
opaque dictChar : Nat → Nat → BitVec 8

/-- A word the spec leaves open, by the index of the occasion (State.free). -/
opaque freeWord : Nat → BitVec 32

/-- R328: the unit's own PTP data set where the manual gives no value: clock accuracy, variance, identity. -/
opaque ptpOwn : Nat → Nat

/-- R220, R221, R225: a word that the optimisation sequencer forms and the spec does not fix, from the problem (descriptor, the
blocks it names, the grant; for a search direction the iterate with its row weights too) and the index of the word: the search
direction of a Newton step, the places and formats of its operands in the workspace, an input whose box is empty. -/
opaque optWord : List (BitVec 32) → List Nat → BitVec 32

/-- R278 to R283: a word that the fusion engine forms and the spec does not fix to the bit, from what it is formed of and the index
of the word: the nominal state after a frame, the attitude after a correction, an element of F, a format of an operand of its
batches, a value read from a motion telegram that is invalid. -/
opaque fusWord : List (BitVec 32) → List Nat → BitVec 32

/-- R443, R453: the frequency, in Hz, of the clock that arrives on CLK± of a filter chain (5 to 20 MHz; the unit does
not know it). -/
opaque chainClock : Nat → Nat

/-- R367, R380: the bytes over which DOUT (and the CRC of a frozen set) takes one published output: its kind (1 telegram,
2 CAN entry, 3 staged register, 4 swap, 5 SAF demand) and the values the rule names, in its order; the spec gives no
widths. -/
opaque outBytes : Nat → List Nat → List (BitVec 8)

/-- R539, R558: whether an ECDSA P-256 signature over a SHA-256 digest verifies with a public key: key, digest, signature.
The spec names the algorithm and gives no layout of the key. -/
opaque ecdsaOk : List (BitVec 8) → List (BitVec 8) → List (BitVec 8) → Bool

/-- R302: METRIC of a search whose cells are all zero: the mean it is referred to is 0. -/
opaque acqFlat : Nat

end Sys2Proof.Config
end

