-- ==== Sys2Proof/Machine/Arith.lean ====
section
/-! DEFINITION. Machine/Arith.lean: the arithmetic every block shares (spec/00_scope.md R5 to R7,
spec/03_programming_model.md R69 to R72): exact results, rounding to nearest even, saturation. -/
namespace Sys2Proof.Machine

/-- R69: an exact integer divided by 2^s, rounded to nearest, ties to even. -/
def rdiv (x : Int) (s : Nat) : Int :=
  if s = 0 then x
  else
    let q := x / (2 ^ s : Nat)
    let r := x - q * (2 ^ s : Nat)
    let h : Int := (2 ^ (s - 1) : Nat)
    if r > h ∨ (r = h ∧ q % 2 = 1) then q + 1 else q

/-- An exact quotient of integers (`d` positive) rounded to nearest, ties to even (R5). -/
def rquo (n : Int) (d : Nat) : Int :=
  if d = 0 then 0
  else
    let q := n / (d : Int)
    let r := n - q * (d : Int)
    if 2 * r > (d : Int) ∨ (2 * r = (d : Int) ∧ q % 2 = 1) then q + 1 else q

/-- The largest value of a signed format of `w` bits. -/
def smax (w : Nat) : Int := (2 ^ (w - 1) : Nat) - 1

/-- The smallest value of a signed format of `w` bits. -/
def smin (w : Nat) : Int := -((2 ^ (w - 1) : Nat) : Int)

/-- R6: saturation to a signed format of `w` bits. -/
def satTo (w : Nat) (x : Int) : Int := if x > smax w then smax w else if x < smin w then smin w else x

/-- Whether saturation to `w` bits changes the value. -/
def satHit (w : Nat) (x : Int) : Bool := decide (x > smax w) || decide (x < smin w)

/-- An integer clamped between two bounds. -/
def clampI (lo hi x : Int) : Int := if x > hi then hi else if x < lo then lo else x

/-- A signed 32-bit word. -/
def sw (w : Word) : Int := w.toInt

/-- Saturation to 32 bits, as a word. -/
def sat32 (x : Int) : Word := wdi (satTo 32 x)

/-- R7: the signed difference of two turn32 values. -/
def turnDiff (a b : Word) : Int := (a - b).toInt

/-- The integer square root of `n` by one bit per step from the top: `k` steps left, root so far `r`. -/
def isqrtGo (n : Nat) : Nat → Nat → Nat
  | 0, r => r
  | k + 1, r => if (r + 2 ^ k) * (r + 2 ^ k) ≤ n then isqrtGo n k (r + 2 ^ k) else isqrtGo n k r

/-- The largest `r` with `r` squared at most `n`. -/
def isqrt (n : Nat) : Nat := isqrtGo n (Nat.log2 n / 2 + 1) 0

/-- The square root of the rational `n / d`, rounded to nearest (a tie needs an exact half, which is no square
root of an integer; over a rational it is resolved to even). -/
def sqrtRound (n d : Nat) : Nat :=
  if d = 0 then 0
  else
    let f := isqrt (n / d)
    -- compare n/d with (f + 1/2)^2 = (2f+1)^2 / 4
    let l := 4 * n
    let m := (2 * f + 1) * (2 * f + 1) * d
    if l > m ∨ (l = m ∧ f % 2 = 1) then f + 1 else f

/-- R72, SQRT: the square root of v × 2^s. -/
def sqrtOp (v : Int) (s : Nat) : Word × Bool :=
  if v < 0 then (0, true) else (sat32 (sqrtRound (v.toNat * 2 ^ s) 1), false)

/-- Whether SQRT saturates its 32-bit destination. -/
def sqrtSat (v : Int) (s : Nat) : Bool := decide (0 ≤ v) && satHit 32 (sqrtRound (v.toNat * 2 ^ s) 1)

/-- R72, RSQRT: the square root of 2^s / v. -/
def rsqrtOp (v : Int) (s : Nat) : Word × Bool :=
  if v ≤ 0 then (0x7FFFFFFF, true) else (sat32 (sqrtRound (2 ^ s) v.toNat), false)

/-- Whether RSQRT saturates its 32-bit destination. -/
def rsqrtSat (v : Int) (s : Nat) : Bool := decide (0 < v) && satHit 32 (sqrtRound (2 ^ s) v.toNat)

/-- Working precision, in fraction bits, of the trigonometric functions. -/
abbrev trigBits : Nat := 160

/-- π in units of 2^−160, by Machin's formula 16 arctan(1/5) − 4 arctan(1/239) over integers. -/
def arctanInv (q : Nat) : Nat → Nat → Int → Int → Int
  | 0, _, _, acc => acc
  | n + 1, k, p, acc =>
    let t := p / (2 * k + 1 : Nat)
    arctanInv q n (k + 1) (p / (q * q : Nat)) (if k % 2 = 0 then acc + t else acc - t)

/-- π in units of 2^−160. -/
def piFix : Int :=
  (16 * arctanInv 5 44 0 ((2 ^ (trigBits + 32) : Nat) / 5) 0
    - 4 * arctanInv 239 16 0 ((2 ^ (trigBits + 32) : Nat) / 239) 0) / (2 ^ 32 : Nat)

/-- The Taylor sum of sine (first term `t` = x) or cosine (first term 1): term k+1 is term k times
−x² / ((j+1)(j+2)). All in units of 2^−160. -/
def trigSum (x2 : Int) : Nat → Nat → Int → Int → Int
  | 0, _, _, acc => acc
  | n + 1, j, t, acc =>
    let t' := -(t * x2 / (2 ^ trigBits : Nat)) / ((j + 1) * (j + 2) : Nat)
    trigSum x2 n (j + 2) t' (acc + t')

/-- Sine and cosine of a first-octant-to-quadrant angle x in units of 2^−160 radians. -/
def sinCosFix (x : Int) : Int × Int :=
  let x2 := x * x / (2 ^ trigBits : Nat)
  (trigSum x2 24 1 x x, trigSum x2 24 0 (2 ^ trigBits : Nat) (2 ^ trigBits : Nat))

/-- R72, SINCOS: sin and cos of a turn32 angle in Q1.30. The exact value is rounded from a working value of
160 fraction bits (notes/assumptions/5.md). -/
def sincosOp (theta : Word) : Word × Word :=
  let q := fld theta 31 30
  let f : Nat := fld theta 29 0
  let x : Int := piFix * (f : Int) / (2 ^ 31 : Nat)
  let (s, c) := if f = 0 then ((0 : Int), ((2 ^ trigBits : Nat) : Int)) else sinCosFix x
  let r := fun (v : Int) => rdiv v (trigBits - 30)
  match q with
  | 0 => (wdi (r s), wdi (r c))
  | 1 => (wdi (r c), wdi (r (-s)))
  | 2 => (wdi (r (-s)), wdi (r (-c)))
  | _ => (wdi (r (-c)), wdi (r s))

/-- One step of the rotation that finds an arctangent: the angle of (x, y) by bisection on the turn32 grid of
2^(32+g) points, g guard bits; `k` is the weight of the bit tried. Exact comparison is by the sign of
y cos a − x sin a. -/
def atanGo (x y : Int) : Nat → Int → Int
  | 0, a => a
  | k + 1, a =>
    let a' := a + (2 ^ k : Nat)
    let ang := piFix * a' / (2 ^ 39 : Nat)
    let (s, c) := sinCosFix ang
    if y * c - x * s ≥ 0 then atanGo x y k a' else atanGo x y k a

/-- The angle of (x, y), x and y not negative and not both 0, in units of 2^−40 turn (so 2^38 is a quarter). -/
def atanQuadrant (x y : Int) : Int :=
  if x = 0 then (2 ^ 38 : Nat)
  else if y = 0 then 0
  else if x = y then (2 ^ 37 : Nat)
  else if y < x then atanGo x y 37 0
  else (2 ^ 38 : Nat) - atanGo y x 37 0

/-- R72, ATAN2: atan2(y, x) as turn32; the flag says that both operands are 0 (DOM). The exact value is
rounded from 8 guard bits with a sticky remainder (notes/assumptions/5.md). -/
def atan2Op (y x : Int) : Word × Bool :=
  if x = 0 ∧ y = 0 then (0, true)
  else
    let ax := Int.natAbs x
    let ay := Int.natAbs y
    let t := atanQuadrant ax ay
    let exact := decide (x = 0) || decide (y = 0) || decide (ax = ay)
    -- between the grid points the exact value lies strictly above t when y < x, strictly below otherwise
    let full : Int :=
      if x ≥ 0 ∧ y ≥ 0 then t
      else if x < 0 ∧ y ≥ 0 then (2 ^ 39 : Nat) - t
      else if x < 0 then (2 ^ 39 : Nat) + t
      else (2 ^ 40 : Nat) - t
    let up : Bool := (decide (ay < ax)) == (decide (x ≥ 0) == decide (y ≥ 0))
    let n : Int := if exact then 2 * full else if up then 2 * full + 1 else 2 * full - 1
    (wdi (rdiv n 9), false)

/-- The reciprocal square root seed helper: round(2^k / √c) for a positive c. -/
def recipSqrtSeed (k c : Nat) : Nat := sqrtRound (2 ^ (2 * k)) c

/-- ⌈a / b⌉. -/
def ceilDiv (a b : Nat) : Nat := if b = 0 then 0 else (a + b - 1) / b

end Sys2Proof.Machine
end

