-- ==== Sys2Proof/Machine/RegAddr.lean ====
section
/-! DEFINITION. Machine/RegAddr.lean: the port address of each register under its own name
(spec/02_architecture.md R30 and the register headings and tables of every chapter). -/
namespace Sys2Proof.Machine.Reg

/-- SYS_ID -/
abbrev SYS_ID : Nat := 0x0000
/-- SYS_ADDR -/
abbrev SYS_ADDR : Nat := 0x0001
/-- SYS_RSTCAUSE -/
abbrev SYS_RSTCAUSE : Nat := 0x0002
/-- SYS_BOOT -/
abbrev SYS_BOOT : Nat := 0x0003
/-- SYS_RST -/
abbrev SYS_RST : Nat := 0x0004
/-- SYS_STK -/
abbrev SYS_STK : Nat := 0x0005
/-- SYS_BTN -/
abbrev SYS_BTN : Nat := 0x0006
/-- SYS_STRAP -/
abbrev SYS_STRAP : Nat := 0x0008
/-- SYS_CPSEL -/
abbrev SYS_CPSEL : Nat := 0x0010
/-- SYS_CPSTAT -/
abbrev SYS_CPSTAT : Nat := 0x0011
/-- SYS_CPDISC -/
abbrev SYS_CPDISC : Nat := 0x0012
/-- SYS_CLK_STK -/
abbrev SYS_CLK_STK : Nat := 0x0014
/-- SYS_PWRMON -/
abbrev SYS_PWRMON : Nat := 0x0020
/-- SYS_TEMP -/
abbrev SYS_TEMP : Nat := 0x0021
/-- SYS_ENVSTK -/
abbrev SYS_ENVSTK : Nat := 0x0022
/-- PWR_AVSn -/
abbrev PWR_AVS (i : Nat) : Nat := 0x0400 + i
/-- PWR_MARGIN -/
abbrev PWR_MARGIN : Nat := 0x0403
/-- PWR_FLT_STK -/
abbrev PWR_FLT_STK : Nat := 0x0404
/-- PWR_OFF -/
abbrev PWR_OFF : Nat := 0x0408
/-- MBK_OWN -/
abbrev MBK_OWN : Nat := 0x0800
/-- MBK_STK -/
abbrev MBK_STK : Nat := 0x0801
/-- MBK_RETCTL -/
abbrev MBK_RETCTL : Nat := 0x0802
/-- MBK_PERR -/
abbrev MBK_PERR : Nat := 0x0803
/-- MBK_ECC -/
abbrev MBK_ECC : Nat := 0x0804
/-- MBK_OWNRb -/
abbrev MBK_OWNR (i : Nat) : Nat := 0x0840 + i
/-- MBK_RTSn -/
abbrev MBK_RTS (i : Nat) : Nat := 0x0900 + 4 * i
/-- MBK_RTBn -/
abbrev MBK_RTB (i : Nat) : Nat := 0x0901 + 4 * i
/-- MBK_RTCn -/
abbrev MBK_RTC (i : Nat) : Nat := 0x0902 + 4 * i
/-- MBK_DAn -/
abbrev MBK_DA (i : Nat) : Nat := 0x0A00 + 4 * i
/-- MBK_DBn -/
abbrev MBK_DB (i : Nat) : Nat := 0x0A01 + 4 * i
/-- MBK_DCn -/
abbrev MBK_DC (i : Nat) : Nat := 0x0A02 + 4 * i
/-- MBK_DSn -/
abbrev MBK_DS (i : Nat) : Nat := 0x0A03 + 4 * i
/-- SCH_CSEL -/
abbrev SCH_CSEL : Nat := 0x0C01
/-- SCH_CEXA -/
abbrev SCH_CEXA : Nat := 0x0C02
/-- SCH_CEXB -/
abbrev SCH_CEXB : Nat := 0x0C03
/-- SCH_CEXC -/
abbrev SCH_CEXC : Nat := 0x0C04
/-- SCH_CEXD -/
abbrev SCH_CEXD : Nat := 0x0C05
/-- SCH_CHOST -/
abbrev SCH_CHOST : Nat := 0x0C06
/-- SCH_CJST -/
abbrev SCH_CJST : Nat := 0x0C07
/-- SCH_AXSTK -/
abbrev SCH_AXSTK : Nat := 0x0C08
/-- SCH_RDISC -/
abbrev SCH_RDISC : Nat := 0x0C09
/-- SCH_PLCTL -/
abbrev SCH_PLCTL : Nat := 0x0C0A
/-- SCH_PLEPOCH -/
abbrev SCH_PLEPOCH : Nat := 0x0C0B
/-- SCH_BSAWAKE -/
abbrev SCH_BSAWAKE : Nat := 0x0C0C
/-- SCH_AXSRCn -/
abbrev SCH_AXSRC (i : Nat) : Nat := 0x0C10 + i
/-- SCH_AXPOSn -/
abbrev SCH_AXPOS (i : Nat) : Nat := 0x0C18 + i
/-- SCH_AXRATEn -/
abbrev SCH_AXRATE (i : Nat) : Nat := 0x0C20 + i
/-- SCH_AXSETn -/
abbrev SCH_AXSET (i : Nat) : Nat := 0x0C28 + i
/-- SCH_LOADe -/
abbrev SCH_LOAD (i : Nat) : Nat := 0x0C30 + i
/-- SCH_LLOADl -/
abbrev SCH_LLOAD (i : Nat) : Nat := 0x0C38 + i
/-- SCH_CMPPk -/
abbrev SCH_CMPP (i : Nat) : Nat := 0x0C40 + 2 * i
/-- SCH_CMPCk -/
abbrev SCH_CMPC (i : Nat) : Nat := 0x0C41 + 2 * i
/-- SCH_GAXg -/
abbrev SCH_GAX (i : Nat) : Nat := 0x0C80 + 6 * i
/-- SCH_GPERg -/
abbrev SCH_GPER (i : Nat) : Nat := 0x0C81 + 6 * i
/-- SCH_GORGg -/
abbrev SCH_GORG (i : Nat) : Nat := 0x0C82 + 6 * i
/-- SCH_GFSg -/
abbrev SCH_GFS (i : Nat) : Nat := 0x0C83 + 6 * i
/-- SCH_GSEQg -/
abbrev SCH_GSEQ (i : Nat) : Nat := 0x0C84 + 6 * i
/-- SCH_GSTATg -/
abbrev SCH_GSTAT (i : Nat) : Nat := 0x0C85 + 6 * i
/-- SCH_BSLk -/
abbrev SCH_BSL (i : Nat) : Nat := 0x0CE0 + 2 * i
/-- SCH_BSHk -/
abbrev SCH_BSH (i : Nat) : Nat := 0x0CE1 + 2 * i
/-- SCH_CDAc -/
abbrev SCH_CDA (i : Nat) : Nat := 0x0D00 + 3 * i
/-- SCH_CDBc -/
abbrev SCH_CDB (i : Nat) : Nat := 0x0D01 + 3 * i
/-- SCH_CDCc -/
abbrev SCH_CDC (i : Nat) : Nat := 0x0D02 + 3 * i
/-- CLE_LSCTL -/
abbrev CLE_LSCTL : Nat := 0x1000
/-- CLE_ESF -/
abbrev CLE_ESF : Nat := 0x1001
/-- CLE_LSSTAT -/
abbrev CLE_LSSTAT : Nat := 0x1002
/-- CLE_LSDIV0 -/
abbrev CLE_LSDIV0 : Nat := 0x1003
/-- CLE_CMAXCLR -/
abbrev CLE_CMAXCLR : Nat := 0x1004
/-- CLE_EFLGn -/
abbrev CLE_EFLG (i : Nat) : Nat := 0x1010 + i
/-- CLE_CFLGc -/
abbrev CLE_CFLG (i : Nat) : Nat := 0x1100 + i
/-- CLE_CMAXc -/
abbrev CLE_CMAX (i : Nat) : Nat := 0x1200 + i
/-- SOL_TUSE0 -/
abbrev SOL_TUSE0 : Nat := 0x1400
/-- SOL_TUSE1 -/
abbrev SOL_TUSE1 : Nat := 0x1401
/-- SOL_TSEL -/
abbrev SOL_TSEL : Nat := 0x1402
/-- SOL_TSTAT -/
abbrev SOL_TSTAT : Nat := 0x1403
/-- SOL_TSUM -/
abbrev SOL_TSUM : Nat := 0x1404
/-- SOL_TDONE -/
abbrev SOL_TDONE : Nat := 0x1405
/-- SOL_TREL -/
abbrev SOL_TREL : Nat := 0x1406
/-- SOL_NTKT -/
abbrev SOL_NTKT : Nat := 0x1407
/-- SOL_INFL -/
abbrev SOL_INFL : Nat := 0x1408
/-- SOL_STK -/
abbrev SOL_STK : Nat := 0x1409
/-- SOL_TFULL -/
abbrev SOL_TFULL : Nat := 0x140A
/-- SOL_XHAZ -/
abbrev SOL_XHAZ : Nat := 0x140B
/-- SOL_TILE -/
abbrev SOL_TILE : Nat := 0x140C
/-- SOL_NSUB -/
abbrev SOL_NSUB : Nat := 0x1410
/-- SOL_NDONE -/
abbrev SOL_NDONE : Nat := 0x1411
/-- SOL_NREG -/
abbrev SOL_NREG : Nat := 0x1412
/-- SOL_NSAT -/
abbrev SOL_NSAT : Nat := 0x1413
/-- SOL_NSKIP -/
abbrev SOL_NSKIP : Nat := 0x1414
/-- SOL_NABN -/
abbrev SOL_NABN : Nat := 0x1415
/-- SOL_NPEND -/
abbrev SOL_NPEND : Nat := 0x1416
/-- OPT_PGRANT -/
abbrev OPT_PGRANT : Nat := 0x1800
/-- OPT_FBLIM -/
abbrev OPT_FBLIM : Nat := 0x1801
/-- OPT_STAT -/
abbrev OPT_STAT : Nat := 0x1802
/-- OPT_STK -/
abbrev OPT_STK : Nat := 0x1803
/-- OPT_RUNT -/
abbrev OPT_RUNT : Nat := 0x1804
/-- OPT_MACS -/
abbrev OPT_MACS : Nat := 0x1805
/-- OPT_NRUN -/
abbrev OPT_NRUN : Nat := 0x1810
/-- OPT_NSOLV -/
abbrev OPT_NSOLV : Nat := 0x1811
/-- OPT_NEARLY -/
abbrev OPT_NEARLY : Nat := 0x1812
/-- OPT_NWARM -/
abbrev OPT_NWARM : Nat := 0x1813
/-- OPT_NZERO -/
abbrev OPT_NZERO : Nat := 0x1814
/-- OPT_NREF -/
abbrev OPT_NREF : Nat := 0x1815
/-- OPT_NPEND -/
abbrev OPT_NPEND : Nat := 0x1816
/-- OPT_NBUSY -/
abbrev OPT_NBUSY : Nat := 0x1817
/-- LPE_CFGn -/
abbrev LPE_CFG (i : Nat) : Nat := 0x2000 + 64 * i
/-- LPE_TRGn -/
abbrev LPE_TRG (i : Nat) : Nat := 0x2001 + 64 * i
/-- LPE_SRCn -/
abbrev LPE_SRC (i : Nat) : Nat := 0x2002 + 64 * i
/-- LPE_SPPn -/
abbrev LPE_SPP (i : Nat) : Nat := 0x2003 + 64 * i
/-- LPE_FBPn -/
abbrev LPE_FBP (i : Nat) : Nat := 0x2004 + 64 * i
/-- LPE_FFPn -/
abbrev LPE_FFP (i : Nat) : Nat := 0x2005 + 64 * i
/-- LPE_DSTn -/
abbrev LPE_DST (i : Nat) : Nat := 0x2006 + 64 * i
/-- LPE_SPn -/
abbrev LPE_SP (i : Nat) : Nat := 0x2007 + 64 * i
/-- LPE_FELIMn -/
abbrev LPE_FELIM (i : Nat) : Nat := 0x2008 + 64 * i
/-- LPE_FETIMEn -/
abbrev LPE_FETIME (i : Nat) : Nat := 0x2009 + 64 * i
/-- LPE_GRACEn -/
abbrev LPE_GRACE (i : Nat) : Nat := 0x200A + 64 * i
/-- LPE_LOSn -/
abbrev LPE_LOS (i : Nat) : Nat := 0x200B + 64 * i
/-- LPE_FRZMINn -/
abbrev LPE_FRZMIN (i : Nat) : Nat := 0x200C + 64 * i
/-- LPE_SAFEn -/
abbrev LPE_SAFE (i : Nat) : Nat := 0x200D + 64 * i
/-- LPE_STATn -/
abbrev LPE_STAT (i : Nat) : Nat := 0x200E + 64 * i
/-- LPE_STKn -/
abbrev LPE_STK (i : Nat) : Nat := 0x200F + 64 * i
/-- LPE_PAGEn,p,w -/
abbrev LPE_PAGE (i j k : Nat) : Nat := 0x2010 + 64 * i + 24 * j + k
/-- LPE_OUTn -/
abbrev LPE_OUT (i : Nat) : Nat := 0x3000 + i
/-- LPE_ERRn -/
abbrev LPE_ERR (i : Nat) : Nat := 0x3040 + i
/-- LPE_SNAPn,w -/
abbrev LPE_SNAP (i j : Nat) : Nat := 0x3400 + 16 * i + j
/-- LPE_CTL -/
abbrev LPE_CTL : Nat := 0x3800
/-- LPE_ARM -/
abbrev LPE_ARM : Nat := 0x3801
/-- LPE_SWAP -/
abbrev LPE_SWAP : Nat := 0x3802
/-- LPE_GSTK -/
abbrev LPE_GSTK : Nat := 0x3803
/-- LPE_NEVAL -/
abbrev LPE_NEVAL : Nat := 0x3804
/-- LPE_NSKIP -/
abbrev LPE_NSKIP : Nat := 0x3805
/-- LPE_NTLOST -/
abbrev LPE_NTLOST : Nat := 0x3806
/-- LPE_SGLg -/
abbrev LPE_SGL (i : Nat) : Nat := 0x3810 + 3 * i
/-- LPE_SGHg -/
abbrev LPE_SGH (i : Nat) : Nat := 0x3811 + 3 * i
/-- LPE_SGRg -/
abbrev LPE_SGR (i : Nat) : Nat := 0x3812 + 3 * i
/-- LPE_ADJC -/
abbrev LPE_ADJC : Nat := 0x3840
/-- LPE_ADJL -/
abbrev LPE_ADJL : Nat := 0x3841
/-- LPE_ADJH -/
abbrev LPE_ADJH : Nat := 0x3842
/-- FUS_CTL -/
abbrev FUS_CTL : Nat := 0x4000
/-- FUS_MODA -/
abbrev FUS_MODA : Nat := 0x4002
/-- FUS_WSL -/
abbrev FUS_WSL : Nat := 0x4003
/-- FUS_WSH -/
abbrev FUS_WSH : Nat := 0x4004
/-- FUS_MSRC -/
abbrev FUS_MSRC : Nat := 0x4005
/-- FUS_CAP -/
abbrev FUS_CAP : Nat := 0x4006
/-- FUS_CAPCL -/
abbrev FUS_CAPCL : Nat := 0x4007
/-- FUS_LOAD -/
abbrev FUS_LOAD : Nat := 0x4008
/-- FUS_DRLIM -/
abbrev FUS_DRLIM : Nat := 0x4009
/-- FUS_GATE -/
abbrev FUS_GATE : Nat := 0x400A
/-- FUS_CTHR -/
abbrev FUS_CTHR : Nat := 0x400B
/-- FUS_VTHR -/
abbrev FUS_VTHR : Nat := 0x400C
/-- FUS_VWIN -/
abbrev FUS_VWIN : Nat := 0x400D
/-- FUS_HCTHR -/
abbrev FUS_HCTHR : Nat := 0x400E
/-- FUS_HVTHR -/
abbrev FUS_HVTHR : Nat := 0x400F
/-- FUS_UPD -/
abbrev FUS_UPD : Nat := 0x4010
/-- FUS_STAT -/
abbrev FUS_STAT : Nat := 0x4011
/-- FUS_STK -/
abbrev FUS_STK : Nat := 0x4012
/-- FUS_FRAME -/
abbrev FUS_FRAME : Nat := 0x4013
/-- FUS_DIGEST -/
abbrev FUS_DIGEST : Nat := 0x4014
/-- FUS_DRT -/
abbrev FUS_DRT : Nat := 0x4015
/-- FUS_TAU0 -/
abbrev FUS_TAU0 : Nat := 0x4018
/-- FUS_TAU1 -/
abbrev FUS_TAU1 : Nat := 0x4019
/-- FUS_TAU2 -/
abbrev FUS_TAU2 : Nat := 0x401A
/-- FUS_WCTL -/
abbrev FUS_WCTL : Nat := 0x4020
/-- FUS_WH -/
abbrev FUS_WH : Nat := 0x4021
/-- FUS_WR -/
abbrev FUS_WR : Nat := 0x4022
/-- FUS_WBQw -/
abbrev FUS_WBQ (i : Nat) : Nat := 0x4023 + i
/-- FUS_WKP -/
abbrev FUS_WKP : Nat := 0x4028
/-- FUS_WKI -/
abbrev FUS_WKI : Nat := 0x4029
/-- FUS_WAMIN -/
abbrev FUS_WAMIN : Nat := 0x402A
/-- FUS_WPER -/
abbrev FUS_WPER : Nat := 0x402B
/-- FUS_WPH -/
abbrev FUS_WPH : Nat := 0x402C
/-- FUS_WRATE -/
abbrev FUS_WRATE : Nat := 0x402D
/-- FUS_WAMP -/
abbrev FUS_WAMP : Nat := 0x402E
/-- FUS_SCFGs -/
abbrev FUS_SCFG (i : Nat) : Nat := 0x4100 + 16 * i
/-- FUS_LXs -/
abbrev FUS_LX (i : Nat) : Nat := 0x4101 + 16 * i
/-- FUS_LYs -/
abbrev FUS_LY (i : Nat) : Nat := 0x4102 + 16 * i
/-- FUS_LZs -/
abbrev FUS_LZ (i : Nat) : Nat := 0x4103 + 16 * i
/-- FUS_VARs -/
abbrev FUS_VAR (i : Nat) : Nat := 0x4104 + 16 * i
/-- FUS_SLIPs -/
abbrev FUS_SLIP (i : Nat) : Nat := 0x4105 + 16 * i
/-- FUS_BIASs -/
abbrev FUS_BIAS (i : Nat) : Nat := 0x4106 + 16 * i
/-- FUS_AGATEs -/
abbrev FUS_AGATE (i : Nat) : Nat := 0x4107 + 16 * i
/-- FUS_SYAWs -/
abbrev FUS_SYAW (i : Nat) : Nat := 0x4108 + 16 * i
/-- FUS_AEPSs -/
abbrev FUS_AEPS (i : Nat) : Nat := 0x4109 + 16 * i
/-- FUS_SSTATs -/
abbrev FUS_SSTAT (i : Nat) : Nat := 0x410A + 16 * i
/-- FUS_TRKs -/
abbrev FUS_TRK (i : Nat) : Nat := 0x410B + 16 * i
/-- FUS_OFFs -/
abbrev FUS_OFF (i : Nat) : Nat := 0x410C + 16 * i
/-- FUS_NRECVs -/
abbrev FUS_NRECV (i : Nat) : Nat := 0x4200 + 16 * i
/-- FUS_NACCs -/
abbrev FUS_NACC (i : Nat) : Nat := 0x4201 + 16 * i
/-- FUS_NLATEs -/
abbrev FUS_NLATE (i : Nat) : Nat := 0x4202 + 16 * i
/-- FUS_NPENDs -/
abbrev FUS_NPEND (i : Nat) : Nat := 0x4203 + 16 * i
/-- FUS_REJ_INVs -/
abbrev FUS_REJ_INV (i : Nat) : Nat := 0x4204 + 16 * i
/-- FUS_REJ_SLIPs -/
abbrev FUS_REJ_SLIP (i : Nat) : Nat := 0x4205 + 16 * i
/-- FUS_REJ_GATEs -/
abbrev FUS_REJ_GATE (i : Nat) : Nat := 0x4206 + 16 * i
/-- FUS_REJ_VOTEs -/
abbrev FUS_REJ_VOTE (i : Nat) : Nat := 0x4207 + 16 * i
/-- FUS_REJ_CONFs -/
abbrev FUS_REJ_CONF (i : Nat) : Nat := 0x4208 + 16 * i
/-- FUS_REJ_OVWs -/
abbrev FUS_REJ_OVW (i : Nat) : Nat := 0x4209 + 16 * i
/-- FUS_REJ_QFULLs -/
abbrev FUS_REJ_QFULL (i : Nat) : Nat := 0x420A + 16 * i
/-- FUS_REJ_ASSOCs -/
abbrev FUS_REJ_ASSOC (i : Nat) : Nat := 0x420B + 16 * i
/-- FUS_REJ_ABORTs -/
abbrev FUS_REJ_ABORT (i : Nat) : Nat := 0x420C + 16 * i
/-- FUS_OUTw -/
abbrev FUS_OUT (i : Nat) : Nat := 0x4300 + i
/-- FUS_PBUFw -/
abbrev FUS_PBUF (i : Nat) : Nat := 0x4400 + i
/-- FUS_POST -/
abbrev FUS_POST : Nat := 0x4443
/-- GNB_EPCTL -/
abbrev GNB_EPCTL : Nat := 0x4800
/-- GNB_EPSEQ -/
abbrev GNB_EPSEQ : Nat := 0x4801
/-- GNB_ANTn -/
abbrev GNB_ANT (i : Nat) : Nat := 0x4802 + i
/-- GNB_ACQ -/
abbrev GNB_ACQ : Nat := 0x4804
/-- GNB_ACQSTAT -/
abbrev GNB_ACQSTAT : Nat := 0x4805
/-- GNB_NAVCTL -/
abbrev GNB_NAVCTL : Nat := 0x4806
/-- GNB_NAVLOST -/
abbrev GNB_NAVLOST : Nat := 0x4807
/-- GNB_ACQCTL -/
abbrev GNB_ACQCTL : Nat := 0x4808
/-- GNB_STK -/
abbrev GNB_STK : Nat := 0x4809
/-- GNB_CN0MIN -/
abbrev GNB_CN0MIN : Nat := 0x480A
/-- GNB_INTab -/
abbrev GNB_INT (i : Nat) : Nat := 0x4810 + i
/-- GNB_CHCFGch -/
abbrev GNB_CHCFG (i : Nat) : Nat := 0x4A00 + 8 * i
/-- GNB_CHLOOPch -/
abbrev GNB_CHLOOP (i : Nat) : Nat := 0x4A01 + 8 * i
/-- GNB_CHCODEch -/
abbrev GNB_CHCODE (i : Nat) : Nat := 0x4A02 + 8 * i
/-- GNB_CHDOPPch -/
abbrev GNB_CHDOPP (i : Nat) : Nat := 0x4A03 + 8 * i
/-- GNB_CHTch -/
abbrev GNB_CHT (i : Nat) : Nat := 0x4A04 + 8 * i
/-- GNB_CHSTch -/
abbrev GNB_CHST (i : Nat) : Nat := 0x4F00 + i
/-- TMB_NS -/
abbrev TMB_NS : Nat := 0x5000
/-- TMB_NSHI -/
abbrev TMB_NSHI : Nat := 0x5001
/-- TMB_SEC -/
abbrev TMB_SEC : Nat := 0x5002
/-- TMB_SECH -/
abbrev TMB_SECH : Nat := 0x5003
/-- TMB_SUB -/
abbrev TMB_SUB : Nat := 0x5004
/-- TMB_UTC -/
abbrev TMB_UTC : Nat := 0x5008
/-- TMB_SRV -/
abbrev TMB_SRV : Nat := 0x5009
/-- TMB_STEPTHR -/
abbrev TMB_STEPTHR : Nat := 0x500A
/-- TMB_GAIN -/
abbrev TMB_GAIN : Nat := 0x500B
/-- TMB_STAT -/
abbrev TMB_STAT : Nat := 0x500C
/-- TMB_OFS -/
abbrev TMB_OFS : Nat := 0x500D
/-- TMB_FADJ -/
abbrev TMB_FADJ : Nat := 0x500E
/-- TMB_UNC -/
abbrev TMB_UNC : Nat := 0x500F
/-- TMB_GOFSL -/
abbrev TMB_GOFSL : Nat := 0x5010
/-- TMB_GOFSH -/
abbrev TMB_GOFSH : Nat := 0x5011
/-- TMB_GPOST -/
abbrev TMB_GPOST : Nat := 0x5012
/-- TMB_PPS -/
abbrev TMB_PPS : Nat := 0x5013
/-- TMB_PTPG -/
abbrev TMB_PTPG : Nat := 0x5014
/-- TMB_STK -/
abbrev TMB_STK : Nat := 0x5015
/-- TMB_NSTEP -/
abbrev TMB_NSTEP : Nat := 0x5018
/-- TMB_NOMIT -/
abbrev TMB_NOMIT : Nat := 0x5019
/-- TMB_NPPSBAD -/
abbrev TMB_NPPSBAD : Nat := 0x501A
/-- TMB_NCAPLOST -/
abbrev TMB_NCAPLOST : Nat := 0x501B
/-- TMB_NSRCCHG -/
abbrev TMB_NSRCCHG : Nat := 0x501C
/-- TMB_CAPk -/
abbrev TMB_CAP (i : Nat) : Nat := 0x5020 + i
/-- TMB_TRGAk -/
abbrev TMB_TRGA (i : Nat) : Nat := 0x5030 + 4 * i
/-- TMB_TRGBk -/
abbrev TMB_TRGB (i : Nat) : Nat := 0x5031 + 4 * i
/-- TMB_TRGCk -/
abbrev TMB_TRGC (i : Nat) : Nat := 0x5032 + 4 * i
/-- TMB_PTPCp -/
abbrev TMB_PTPC (i : Nat) : Nat := 0x5080 + 4 * i
/-- TMB_PTPSp -/
abbrev TMB_PTPS (i : Nat) : Nat := 0x5081 + 4 * i
/-- BTL_STAT -/
abbrev BTL_STAT : Nat := 0x5400
/-- BTL_CFG -/
abbrev BTL_CFG : Nat := 0x5401
/-- BTL_STK -/
abbrev BTL_STK : Nat := 0x5402
/-- BTL_HOREQ -/
abbrev BTL_HOREQ : Nat := 0x5403
/-- BTL_TXN -/
abbrev BTL_TXN : Nat := 0x5404
/-- BTL_TXSTAT -/
abbrev BTL_TXSTAT : Nat := 0x5405
/-- BTL_LHASH -/
abbrev BTL_LHASH : Nat := 0x5406
/-- BTL_LHACC -/
abbrev BTL_LHACC : Nat := 0x5407
/-- BTL_IMGH -/
abbrev BTL_IMGH : Nat := 0x5408
/-- BTL_PIMGH -/
abbrev BTL_PIMGH : Nat := 0x5409
/-- BTL_MRXg -/
abbrev BTL_MRX (i : Nat) : Nat := 0x5410 + 2 * i
/-- BTL_MSTg -/
abbrev BTL_MST (i : Nat) : Nat := 0x5411 + 2 * i
/-- BTL_DIGg -/
abbrev BTL_DIG (i : Nat) : Nat := 0x5430 + i
/-- BTL_DOUTg -/
abbrev BTL_DOUT (i : Nat) : Nat := 0x5440 + i
/-- BTL_LANEn -/
abbrev BTL_LANE (i : Nat) : Nat := 0x5450 + i
/-- BTL_NEPRX -/
abbrev BTL_NEPRX : Nat := 0x5460
/-- BTL_NEPAPP -/
abbrev BTL_NEPAPP : Nat := 0x5461
/-- BTL_NEPDISC -/
abbrev BTL_NEPDISC : Nat := 0x5462
/-- BTL_NEPPEND -/
abbrev BTL_NEPPEND : Nat := 0x5463
/-- BTL_NEPGAP -/
abbrev BTL_NEPGAP : Nat := 0x5464
/-- BTL_NTXDROP -/
abbrev BTL_NTXDROP : Nat := 0x5465
/-- BTL_NDPART -/
abbrev BTL_NDPART : Nat := 0x5468
/-- BTL_NDCRC -/
abbrev BTL_NDCRC : Nat := 0x5469
/-- BTL_NDSEQ -/
abbrev BTL_NDSEQ : Nat := 0x546A
/-- BTL_NDGRP -/
abbrev BTL_NDGRP : Nat := 0x546B
/-- BTL_NDIMG -/
abbrev BTL_NDIMG : Nat := 0x546C
/-- BTL_NDCFG -/
abbrev BTL_NDCFG : Nat := 0x546D
/-- BTL_NDLATE -/
abbrev BTL_NDLATE : Nat := 0x546E
/-- BTL_NDNOBUF -/
abbrev BTL_NDNOBUF : Nat := 0x546F
/-- BTL_NAGREE -/
abbrev BTL_NAGREE : Nat := 0x5470
/-- BTL_NDIVIN -/
abbrev BTL_NDIVIN : Nat := 0x5471
/-- BTL_NDIVOUT -/
abbrev BTL_NDIVOUT : Nat := 0x5472
/-- BTL_NDIVST -/
abbrev BTL_NDIVST : Nat := 0x5473
/-- BTL_NNOCMP -/
abbrev BTL_NNOCMP : Nat := 0x5474
/-- BTL_NTAKE -/
abbrev BTL_NTAKE : Nat := 0x5475
/-- BTL_NHANDO -/
abbrev BTL_NHANDO : Nat := 0x5476
/-- BTL_NREVERT -/
abbrev BTL_NREVERT : Nat := 0x5477
/-- SAF_STAT -/
abbrev SAF_STAT : Nat := 0x5800
/-- SAF_STK -/
abbrev SAF_STK : Nat := 0x5801
/-- SAF_PSTAT -/
abbrev SAF_PSTAT : Nat := 0x5802
/-- SAF_PFLT -/
abbrev SAF_PFLT : Nat := 0x5803
/-- SAF_OFLT -/
abbrev SAF_OFLT : Nat := 0x5804
/-- SAF_FSTAT -/
abbrev SAF_FSTAT : Nat := 0x5805
/-- SAF_FACK -/
abbrev SAF_FACK : Nat := 0x5806
/-- SAF_TVAL0 -/
abbrev SAF_TVAL0 : Nat := 0x5807
/-- SAF_TVAL1 -/
abbrev SAF_TVAL1 : Nat := 0x5808
/-- SAF_TDEG0 -/
abbrev SAF_TDEG0 : Nat := 0x5809
/-- SAF_TDEG1 -/
abbrev SAF_TDEG1 : Nat := 0x580A
/-- SAF_PCFGk -/
abbrev SAF_PCFG (i : Nat) : Nat := 0x5810 + i
/-- SAF_OCFGk -/
abbrev SAF_OCFG (i : Nat) : Nat := 0x5820 + i
/-- SAF_FAf -/
abbrev SAF_FA (i : Nat) : Nat := 0x5840 + 8 * i
/-- SAF_FBf -/
abbrev SAF_FB (i : Nat) : Nat := 0x5841 + 8 * i
/-- SAF_FCf -/
abbrev SAF_FC (i : Nat) : Nat := 0x5842 + 8 * i
/-- SAF_FDf -/
abbrev SAF_FD (i : Nat) : Nat := 0x5843 + 8 * i
/-- SAF_FEf -/
abbrev SAF_FE (i : Nat) : Nat := 0x5844 + 8 * i
/-- SAF_TWDs -/
abbrev SAF_TWD (i : Nat) : Nat := 0x5900 + i
/-- SAF_NONDROP -/
abbrev SAF_NONDROP : Nat := 0x5980
/-- SAF_NONWAIT -/
abbrev SAF_NONWAIT : Nat := 0x5981
/-- SAF_NTPFAIL -/
abbrev SAF_NTPFAIL : Nat := 0x5982
/-- SAF_NDISC -/
abbrev SAF_NDISC : Nat := 0x5983
/-- SAF_NRSTREF -/
abbrev SAF_NRSTREF : Nat := 0x5984
/-- SAF_NTELSGL -/
abbrev SAF_NTELSGL : Nat := 0x5985
/-- SAF_NTELDIFF -/
abbrev SAF_NTELDIFF : Nat := 0x5986
/-- SAF_NTELTMO -/
abbrev SAF_NTELTMO : Nat := 0x5987
/-- SAF_NDEGEXP -/
abbrev SAF_NDEGEXP : Nat := 0x5988
/-- SER_CFGn -/
abbrev SER_CFG (i : Nat) : Nat := 0x5C00 + 16 * i
/-- SER_DIVn -/
abbrev SER_DIV (i : Nat) : Nat := 0x5C01 + 16 * i
/-- SER_TXCn -/
abbrev SER_TXC (i : Nat) : Nat := 0x5C02 + 16 * i
/-- SER_STATn -/
abbrev SER_STAT (i : Nat) : Nat := 0x5C03 + 16 * i
/-- SER_STKn -/
abbrev SER_STK (i : Nat) : Nat := 0x5C04 + 16 * i
/-- SER_NRXMn -/
abbrev SER_NRXM (i : Nat) : Nat := 0x5C05 + 16 * i
/-- SER_NRXDn -/
abbrev SER_NRXD (i : Nat) : Nat := 0x5C06 + 16 * i
/-- SER_NRXNRn -/
abbrev SER_NRXNR (i : Nat) : Nat := 0x5C07 + 16 * i
/-- SER_NRXOVRn -/
abbrev SER_NRXOVR (i : Nat) : Nat := 0x5C08 + 16 * i
/-- SER_NTXPn -/
abbrev SER_NTXP (i : Nat) : Nat := 0x5C09 + 16 * i
/-- SER_NTXSENTn -/
abbrev SER_NTXSENT (i : Nat) : Nat := 0x5C0A + 16 * i
/-- SER_NTXNOAUTHn -/
abbrev SER_NTXNOAUTH (i : Nat) : Nat := 0x5C0B + 16 * i
/-- SER_NTXSTALEn -/
abbrev SER_NTXSTALE (i : Nat) : Nat := 0x5C0C + 16 * i
/-- SER_NTXREFn -/
abbrev SER_NTXREF (i : Nat) : Nat := 0x5C0D + 16 * i
/-- SER_NTXOFFn -/
abbrev SER_NTXOFF (i : Nat) : Nat := 0x5C0E + 16 * i
/-- SER_NTXPENDn -/
abbrev SER_NTXPEND (i : Nat) : Nat := 0x5C0F + 16 * i
/-- DIO_INL -/
abbrev DIO_INL : Nat := 0x6000
/-- DIO_INVL -/
abbrev DIO_INVL : Nat := 0x6001
/-- DIO_ILIVE -/
abbrev DIO_ILIVE : Nat := 0x6002
/-- DIO_IWB -/
abbrev DIO_IWB : Nat := 0x6003
/-- DIO_ISC -/
abbrev DIO_ISC : Nat := 0x6004
/-- DIO_VSENSE -/
abbrev DIO_VSENSE : Nat := 0x6005
/-- DIO_NEVLOST -/
abbrev DIO_NEVLOST : Nat := 0x6006
/-- DIO_NAPLATE -/
abbrev DIO_NAPLATE : Nat := 0x6007
/-- DIO_NPLOST -/
abbrev DIO_NPLOST : Nat := 0x6008
/-- DIO_STK -/
abbrev DIO_STK : Nat := 0x6009
/-- DIO_OUT -/
abbrev DIO_OUT : Nat := 0x6010
/-- DIO_OSTAT -/
abbrev DIO_OSTAT : Nat := 0x6011
/-- DIO_ORST -/
abbrev DIO_ORST : Nat := 0x6012
/-- DIO_LLT -/
abbrev DIO_LLT : Nat := 0x6013
/-- DIO_FS -/
abbrev DIO_FS : Nat := 0x6014
/-- DIO_WBF -/
abbrev DIO_WBF : Nat := 0x6015
/-- DIO_ODIAGk -/
abbrev DIO_ODIAG (i : Nat) : Nat := 0x6020 + i
/-- DIO_LINKg -/
abbrev DIO_LINK (i : Nat) : Nat := 0x6030 + i
/-- DIO_ICFGn -/
abbrev DIO_ICFG (i : Nat) : Nat := 0x6040 + i
/-- DIO_OCFGk -/
abbrev DIO_OCFG (i : Nat) : Nat := 0x6080 + i
/-- CLO_CMDc -/
abbrev CLO_CMD (i : Nat) : Nat := 0x6400 + i
/-- CLO_CFGc -/
abbrev CLO_CFG (i : Nat) : Nat := 0x6408 + i
/-- CLO_SAFEc -/
abbrev CLO_SAFE (i : Nat) : Nat := 0x6410 + i
/-- CLO_RBc -/
abbrev CLO_RB (i : Nat) : Nat := 0x6418 + i
/-- CLO_CSTAT -/
abbrev CLO_CSTAT : Nat := 0x6420
/-- CLO_STK -/
abbrev CLO_STK : Nat := 0x6421
/-- CLO_ALM -/
abbrev CLO_ALM : Nat := 0x6422
/-- CLO_LLT -/
abbrev CLO_LLT : Nat := 0x6423
/-- DFC_CFGc -/
abbrev DFC_CFG (i : Nat) : Nat := 0x6800 + 8 * i
/-- DFC_DLc -/
abbrev DFC_DL (i : Nat) : Nat := 0x6801 + 8 * i
/-- DFC_MINITc -/
abbrev DFC_MINIT (i : Nat) : Nat := 0x6802 + 8 * i
/-- DFC_SWAPc -/
abbrev DFC_SWAP (i : Nat) : Nat := 0x6803 + 8 * i
/-- DFC_OUTc -/
abbrev DFC_OUT (i : Nat) : Nat := 0x6804 + 8 * i
/-- DFC_STATc -/
abbrev DFC_STAT (i : Nat) : Nat := 0x6805 + 8 * i
/-- DFC_STKc -/
abbrev DFC_STK (i : Nat) : Nat := 0x6806 + 8 * i
/-- DFC_CNTc -/
abbrev DFC_CNT (i : Nat) : Nat := 0x6807 + 8 * i
/-- DFC_MCLK -/
abbrev DFC_MCLK : Nat := 0x6880
/-- DFC_MPCFG -/
abbrev DFC_MPCFG : Nat := 0x6884
/-- DFC_MPK -/
abbrev DFC_MPK : Nat := 0x6885
/-- DFC_MPAMIN -/
abbrev DFC_MPAMIN : Nat := 0x6886
/-- DFC_MPPH -/
abbrev DFC_MPPH : Nat := 0x6888
/-- DFC_MPRATE -/
abbrev DFC_MPRATE : Nat := 0x6889
/-- DFC_MPAMP -/
abbrev DFC_MPAMP : Nat := 0x688A
/-- DFC_MPSTAT -/
abbrev DFC_MPSTAT : Nat := 0x688B
/-- ENC_CFGe -/
abbrev ENC_CFG (i : Nat) : Nat := 0x6C00 + 16 * i
/-- ENC_CPRe -/
abbrev ENC_CPR (i : Nat) : Nat := 0x6C01 + 16 * i
/-- ENC_ZOFSe -/
abbrev ENC_ZOFS (i : Nat) : Nat := 0x6C02 + 16 * i
/-- ENC_SMPe -/
abbrev ENC_SMP (i : Nat) : Nat := 0x6C03 + 16 * i
/-- ENC_ZTOLe -/
abbrev ENC_ZTOL (i : Nat) : Nat := 0x6C04 + 16 * i
/-- ENC_POSe -/
abbrev ENC_POS (i : Nat) : Nat := 0x6C05 + 16 * i
/-- ENC_VELe -/
abbrev ENC_VEL (i : Nat) : Nat := 0x6C06 + 16 * i
/-- ENC_CNTe -/
abbrev ENC_CNT (i : Nat) : Nat := 0x6C07 + 16 * i
/-- ENC_STATe -/
abbrev ENC_STAT (i : Nat) : Nat := 0x6C08 + 16 * i
/-- ENC_STKe -/
abbrev ENC_STK (i : Nat) : Nat := 0x6C09 + 16 * i
/-- ENC_HOMEe -/
abbrev ENC_HOME (i : Nat) : Nat := 0x6C0A + 16 * i
/-- ENC_NERRe -/
abbrev ENC_NERR (i : Nat) : Nat := 0x6C0B + 16 * i
/-- CFD_CTLn -/
abbrev CFD_CTL (i : Nat) : Nat := 0x7000 + 512 * i
/-- CFD_NBTn -/
abbrev CFD_NBT (i : Nat) : Nat := 0x7001 + 512 * i
/-- CFD_DBTn -/
abbrev CFD_DBT (i : Nat) : Nat := 0x7002 + 512 * i
/-- CFD_TDCn -/
abbrev CFD_TDC (i : Nat) : Nat := 0x7003 + 512 * i
/-- CFD_STATn -/
abbrev CFD_STAT (i : Nat) : Nat := 0x7004 + 512 * i
/-- CFD_STKn -/
abbrev CFD_STK (i : Nat) : Nat := 0x7005 + 512 * i
/-- CFD_RECOVn -/
abbrev CFD_RECOV (i : Nat) : Nat := 0x7006 + 512 * i
/-- CFD_CANCELn -/
abbrev CFD_CANCEL (i : Nat) : Nat := 0x7007 + 512 * i
/-- CFD_TXQn,k -/
abbrev CFD_TXQ (i j : Nat) : Nat := 0x7008 + 512 * i + j
/-- CFD_TXCRn -/
abbrev CFD_TXCR (i : Nat) : Nat := 0x7010 + 512 * i
/-- CFD_TXCSTn -/
abbrev CFD_TXCST (i : Nat) : Nat := 0x7011 + 512 * i
/-- CFD_TXCACKn -/
abbrev CFD_TXCACK (i : Nat) : Nat := 0x7012 + 512 * i
/-- CFD_RXSTATn -/
abbrev CFD_RXSTAT (i : Nat) : Nat := 0x7013 + 512 * i
/-- CFD_RXACKn -/
abbrev CFD_RXACK (i : Nat) : Nat := 0x7014 + 512 * i
/-- CFD_HPSTATn -/
abbrev CFD_HPSTAT (i : Nat) : Nat := 0x7015 + 512 * i
/-- CFD_HPACKn -/
abbrev CFD_HPACK (i : Nat) : Nat := 0x7016 + 512 * i
/-- CFD_TXCWn -/
abbrev CFD_TXCW (i : Nat) : Nat := 0x7017 + 512 * i
/-- CFD_NTXQn -/
abbrev CFD_NTXQ (i : Nat) : Nat := 0x7020 + 512 * i
/-- CFD_NTXCn -/
abbrev CFD_NTXC (i : Nat) : Nat := 0x7021 + 512 * i
/-- CFD_NTXPn -/
abbrev CFD_NTXP (i : Nat) : Nat := 0x7022 + 512 * i
/-- CFD_NTXLOSTCn -/
abbrev CFD_NTXLOSTC (i : Nat) : Nat := 0x7023 + 512 * i
/-- CFD_NRXn -/
abbrev CFD_NRX (i : Nat) : Nat := 0x7024 + 512 * i
/-- CFD_NRXWn -/
abbrev CFD_NRXW (i : Nat) : Nat := 0x7025 + 512 * i
/-- CFD_NRXLOSTn -/
abbrev CFD_NRXLOST (i : Nat) : Nat := 0x7026 + 512 * i
/-- CFD_NRXREJn -/
abbrev CFD_NRXREJ (i : Nat) : Nat := 0x7027 + 512 * i
/-- CFD_NHPDIVn -/
abbrev CFD_NHPDIV (i : Nat) : Nat := 0x7028 + 512 * i
/-- CFD_NSTn,s -/
abbrev CFD_NST (i j : Nat) : Nat := 0x7030 + 512 * i + j
/-- CFD_RXWn,w -/
abbrev CFD_RXW (i j : Nat) : Nat := 0x7040 + 512 * i + j
/-- CFD_FIDn,f -/
abbrev CFD_FID (i j : Nat) : Nat := 0x7060 + 512 * i + 2 * j
/-- CFD_FMSKn,f -/
abbrev CFD_FMSK (i j : Nat) : Nat := 0x7061 + 512 * i + 2 * j
/-- CFD_HPBn,b,w -/
abbrev CFD_HPB (i j k : Nat) : Nat := 0x7100 + 512 * i + 20 * j + k
/-- ETH_PCFGp -/
abbrev ETH_PCFG (i : Nat) : Nat := 0x7C00 + 16 * i
/-- ETH_PSTATp -/
abbrev ETH_PSTAT (i : Nat) : Nat := 0x7C01 + 16 * i
/-- ETH_NRXp -/
abbrev ETH_NRX (i : Nat) : Nat := 0x7C02 + 16 * i
/-- ETH_NTXp -/
abbrev ETH_NTX (i : Nat) : Nat := 0x7C03 + 16 * i
/-- ETH_NFCSp -/
abbrev ETH_NFCS (i : Nat) : Nat := 0x7C04 + 16 * i
/-- ETH_NSIZEp -/
abbrev ETH_NSIZE (i : Nat) : Nat := 0x7C05 + 16 * i
/-- ETH_TWFp -/
abbrev ETH_TWF (i : Nat) : Nat := 0x7C06 + 16 * i
/-- ETH_NNOSLOTp -/
abbrev ETH_NNOSLOT (i : Nat) : Nat := 0x7C07 + 16 * i
/-- ETH_NNOFLTp -/
abbrev ETH_NNOFLT (i : Nat) : Nat := 0x7C08 + 16 * i
/-- ETH_NLINKp -/
abbrev ETH_NLINK (i : Nat) : Nat := 0x7C09 + 16 * i
/-- ETH_NBADTWp -/
abbrev ETH_NBADTW (i : Nat) : Nat := 0x7C0A + 16 * i
/-- ETH_NTXLDp -/
abbrev ETH_NTXLD (i : Nat) : Nat := 0x7C0B + 16 * i
/-- ETH_STK -/
abbrev ETH_STK : Nat := 0x7C40
/-- ETH_QNRq -/
abbrev ETH_QNR (i : Nat) : Nat := 0x7C50 + i
/-- ETH_FLTAf -/
abbrev ETH_FLTA (i : Nat) : Nat := 0x7C80 + 2 * i
/-- ETH_FLTBf -/
abbrev ETH_FLTB (i : Nat) : Nat := 0x7C81 + 2 * i
/-- ETH_RSCFGs -/
abbrev ETH_RSCFG (i : Nat) : Nat := 0x7D00 + 12 * i
/-- ETH_RSSTRs -/
abbrev ETH_RSSTR (i : Nat) : Nat := 0x7D01 + 12 * i
/-- ETH_RSSTATs -/
abbrev ETH_RSSTAT (i : Nat) : Nat := 0x7D02 + 12 * i
/-- ETH_FIRSTs -/
abbrev ETH_FIRST (i : Nat) : Nat := 0x7D03 + 12 * i
/-- ETH_LASTs -/
abbrev ETH_LAST (i : Nat) : Nat := 0x7D04 + 12 * i
/-- ETH_NDELs -/
abbrev ETH_NDEL (i : Nat) : Nat := 0x7D05 + 12 * i
/-- ETH_NMISSs -/
abbrev ETH_NMISS (i : Nat) : Nat := 0x7D06 + 12 * i
/-- ETH_NLATEs -/
abbrev ETH_NLATE (i : Nat) : Nat := 0x7D07 + 12 * i
/-- ETH_NDUPs -/
abbrev ETH_NDUP (i : Nat) : Nat := 0x7D08 + 12 * i
/-- ETH_NDISCs -/
abbrev ETH_NDISC (i : Nat) : Nat := 0x7D09 + 12 * i
/-- ETH_NSGLs -/
abbrev ETH_NSGL (i : Nat) : Nat := 0x7D0A + 12 * i
/-- ETH_NBADs -/
abbrev ETH_NBAD (i : Nat) : Nat := 0x7D0B + 12 * i
/-- EVR_HEAD -/
abbrev EVR_HEAD : Nat := 0x8000
/-- EVR_HEADH -/
abbrev EVR_HEADH : Nat := 0x8001
/-- EVR_PFIRSTL -/
abbrev EVR_PFIRSTL : Nat := 0x8002
/-- EVR_PFIRSTH -/
abbrev EVR_PFIRSTH : Nat := 0x8003
/-- EVR_OPT -/
abbrev EVR_OPT : Nat := 0x8004
/-- EVR_PCC -/
abbrev EVR_PCC : Nat := 0x8005
/-- EVR_STK -/
abbrev EVR_STK : Nat := 0x8006
/-- EVR_CUR -/
abbrev EVR_CUR : Nat := 0x8008
/-- EVR_CURL -/
abbrev EVR_CURL : Nat := 0x8009
/-- EVR_WSTAT -/
abbrev EVR_WSTAT : Nat := 0x800A
/-- EVR_DSEL -/
abbrev EVR_DSEL : Nat := 0x800B
/-- EVR_FCFG -/
abbrev EVR_FCFG : Nat := 0x800C
/-- EVR_FREL -/
abbrev EVR_FREL : Nat := 0x800D
/-- EVR_FTRIGk -/
abbrev EVR_FTRIG (i : Nat) : Nat := 0x8010 + i
/-- EVR_FSTk -/
abbrev EVR_FST (i : Nat) : Nat := 0x8020 + 2 * i
/-- EVR_FSTLk -/
abbrev EVR_FSTL (i : Nat) : Nat := 0x8021 + 2 * i
/-- EVR_FSNAPj -/
abbrev EVR_FSNAP (i : Nat) : Nat := 0x8030 + i
/-- EVR_DNAMEw -/
abbrev EVR_DNAME (i : Nat) : Nat := 0x8050 + i
/-- EVR_NACC -/
abbrev EVR_NACC : Nat := 0x8060
/-- EVR_NWR -/
abbrev EVR_NWR : Nat := 0x8061
/-- EVR_NLOST -/
abbrev EVR_NLOST : Nat := 0x8062
/-- EVR_NPEND -/
abbrev EVR_NPEND : Nat := 0x8063
/-- EVR_NINLOST -/
abbrev EVR_NINLOST : Nat := 0x8064
/-- EVR_NFRZMISS -/
abbrev EVR_NFRZMISS : Nat := 0x8065
/-- EVR_DFLDw -/
abbrev EVR_DFLD (i : Nat) : Nat := 0x8070 + i
/-- EVR_WINi,w -/
abbrev EVR_WIN (i j : Nat) : Nat := 0x8100 + 16 * i + j
/-- EVR_FVALk,j -/
abbrev EVR_FVAL (i j : Nat) : Nat := 0x8200 + 32 * i + j
/-- SEC_KEYk -/
abbrev SEC_KEY (i : Nat) : Nat := 0x8400 + i

end Sys2Proof.Machine.Reg
end

