-- ==== Sys2Proof/Machine/RegTable.lean ====
section
/-! DEFINITION. Machine/RegTable.lean: every register of the port map (spec/02_architecture.md R30 and the
register tables of every chapter): its name, its ports, whether it is staged (R32), its class (R581), and each
field's bits, access code and reset value (R8, R9). A field whose Reset column names the image, a strap or
non-volatile storage has reset value 0 here and takes its value at start (notes/assumptions/2.md). -/
namespace Sys2Proof.Machine

/-- The access codes of spec/00_scope.md. -/
inductive Access where
  | ro | rw | wo | w1c
deriving DecidableEq, Repr

/-- One field of a register. -/
structure RegField where
  name : String
  hi : Nat
  lo : Nat
  acc : Access
  rst : Nat
deriving DecidableEq, Repr

/-- One family of registers: `dims` gives stride and count of each index, outermost first; `live` is class V; `img` masks
the bits whose Reset column says that the image gives them. -/
structure RegDesc where
  name : String
  base : Nat
  dims : List (Nat × Nat)
  staged : Bool
  live : Bool
  img : Nat
  fields : List RegField
deriving DecidableEq, Repr

/-- Registers of block SYS, part 1. -/
def regsSys0 : List RegDesc := [
  ⟨"SYS_ID", 0x0000, [], false, false, 0, [⟨"PART", 31, 16, .ro, 2400⟩, ⟨"ISSUE", 15, 8, .ro, 3⟩, ⟨"ROMVER", 7, 4, .ro, 2⟩]⟩,
  ⟨"SYS_ADDR", 0x0001, [], false, true, 0, [⟨"HEAD", 31, 31, .ro, 0⟩, ⟨"PLUGOUT", 30, 30, .ro, 0⟩, ⟨"STORED", 15, 8, .ro, 0⟩, ⟨"ADDR", 7, 0, .ro, 0⟩]⟩,
  ⟨"SYS_RSTCAUSE", 0x0002, [], false, false, 0, [⟨"CAUSE", 31, 28, .ro, 0⟩, ⟨"RCNT", 23, 0, .ro, 0⟩]⟩,
  ⟨"SYS_BOOT", 0x0003, [], false, true, 0, [⟨"FALLBACK", 7, 7, .ro, 0⟩, ⟨"NOPROG", 6, 6, .ro, 0⟩, ⟨"VALID", 5, 4, .ro, 0⟩, ⟨"RUN", 3, 2, .ro, 0⟩, ⟨"SEL", 1, 0, .rw, 0⟩]⟩,
  ⟨"SYS_RST", 0x0004, [], false, false, 0, [⟨"GO", 31, 31, .wo, 0⟩, ⟨"MODE", 30, 30, .wo, 0⟩, ⟨"CODE", 15, 0, .wo, 0⟩]⟩,
  ⟨"SYS_STK", 0x0005, [], false, true, 0, [⟨"IMGDIFF", 8, 8, .w1c, 0⟩, ⟨"RSTHOLD", 7, 7, .w1c, 0⟩, ⟨"BTNSTUCK", 6, 6, .w1c, 0⟩, ⟨"DUPADDR", 5, 5, .w1c, 0⟩, ⟨"CHAINCHG", 4, 4, .w1c, 0⟩, ⟨"CHAIN_LONG", 3, 3, .w1c, 0⟩, ⟨"CHAIN_BREAK", 2, 2, .w1c, 0⟩]⟩,
  ⟨"SYS_BTN", 0x0006, [], false, true, 0, [⟨"CLOSED", 31, 31, .ro, 0⟩, ⟨"IGNORED", 30, 30, .ro, 0⟩, ⟨"PEND", 29, 29, .ro, 0⟩, ⟨"PRESSES", 15, 0, .ro, 0⟩]⟩,
  ⟨"SYS_STRAP", 0x0008, [], false, true, 0, [⟨"STRAPCHG", 3, 3, .w1c, 0⟩, ⟨"ROLE", 2, 2, .ro, 0⟩, ⟨"SOLO", 1, 1, .ro, 0⟩, ⟨"PAIR_SEL", 0, 0, .ro, 0⟩]⟩,
  ⟨"SYS_CPSEL", 0x0010, [], false, false, 0, [⟨"GROUP", 3, 0, .rw, 0⟩]⟩,
  ⟨"SYS_CPSTAT", 0x0011, [], false, true, 0, [⟨"COMMITS", 31, 16, .ro, 0⟩, ⟨"CONFLICT", 9, 9, .w1c, 0⟩, ⟨"OVF", 8, 8, .w1c, 0⟩, ⟨"PEND", 7, 0, .ro, 0⟩]⟩,
  ⟨"SYS_CPDISC", 0x0012, [], false, false, 0, [⟨"DISCARD", 0, 0, .wo, 0⟩]⟩,
  ⟨"SYS_CLK_STK", 0x0014, [], false, true, 0, [⟨"LOST", 16, 0, .w1c, 0⟩]⟩,
  ⟨"SYS_PWRMON", 0x0020, [], false, true, 0, [⟨"FEEDA", 31, 16, .ro, 0⟩, ⟨"FEEDB", 15, 0, .ro, 0⟩]⟩,
  ⟨"SYS_TEMP", 0x0021, [], false, true, 0, [⟨"DIE", 31, 24, .ro, 0⟩, ⟨"PKG", 23, 16, .ro, 0⟩, ⟨"BOARD", 15, 8, .ro, 0⟩]⟩,
  ⟨"SYS_ENVSTK", 0x0022, [], false, true, 0, [⟨"FEEDHIGH", 6, 6, .w1c, 0⟩, ⟨"TBOARD", 5, 5, .w1c, 0⟩, ⟨"TCRIT", 4, 4, .w1c, 0⟩, ⟨"THIGH", 3, 3, .w1c, 0⟩, ⟨"ENVR", 2, 2, .w1c, 0⟩, ⟨"FEEDLOW_B", 1, 1, .w1c, 0⟩, ⟨"FEEDLOW_A", 0, 0, .w1c, 0⟩]⟩]

/-- All registers of block SYS. -/
def regsSys : List RegDesc := regsSys0

/-- Registers of block PWR, part 1. -/
def regsPwr0 : List RegDesc := [
  ⟨"PWR_AVSn", 0x0400, [(1, 3)], false, true, 0, [⟨"HOLD", 31, 31, .rw, 0⟩, ⟨"LIMIT", 30, 30, .ro, 0⟩, ⟨"MARGIN", 23, 16, .ro, 0⟩, ⟨"VCODE", 5, 0, .ro, 50⟩]⟩,
  ⟨"PWR_MARGIN", 0x0403, [], false, false, 0, [⟨"MARGIN_HI", 15, 8, .rw, 12⟩, ⟨"MARGIN_LO", 7, 0, .rw, 4⟩]⟩,
  ⟨"PWR_FLT_STK", 0x0404, [], false, true, 0, [⟨"OFF_REF", 4, 4, .w1c, 0⟩, ⟨"CFG_ERR", 3, 3, .w1c, 0⟩, ⟨"AVS_GCOR", 2, 2, .w1c, 0⟩, ⟨"AVS_SOLV", 1, 1, .w1c, 0⟩, ⟨"AVS_FAB", 0, 0, .w1c, 0⟩]⟩,
  ⟨"PWR_OFF", 0x0408, [], false, false, 0, [⟨"DFC", 4, 4, .rw, 0⟩, ⟨"LPE", 3, 3, .rw, 0⟩, ⟨"FUS", 2, 2, .rw, 0⟩, ⟨"SOLV", 1, 1, .rw, 0⟩, ⟨"GNB", 0, 0, .rw, 0⟩]⟩]

/-- All registers of block PWR. -/
def regsPwr : List RegDesc := regsPwr0

/-- Registers of block MBK, part 1. -/
def regsMbk0 : List RegDesc := [
  ⟨"MBK_OWN", 0x0800, [], false, false, 0, [⟨"BANK", 21, 16, .wo, 0⟩, ⟨"OWNER", 15, 8, .wo, 0⟩]⟩,
  ⟨"MBK_STK", 0x0801, [], false, true, 0, [⟨"DMA_LATE", 4, 4, .w1c, 0⟩, ⟨"DRAM_UE", 3, 3, .w1c, 0⟩, ⟨"DRAM_CE", 2, 2, .w1c, 0⟩, ⟨"PERR", 1, 1, .w1c, 0⟩, ⟨"OWN_REF", 0, 0, .w1c, 0⟩]⟩,
  ⟨"MBK_RETCTL", 0x0802, [], false, false, 0, [⟨"EN", 31, 31, .rw, 1⟩, ⟨"IDLE", 15, 0, .rw, 100⟩]⟩,
  ⟨"MBK_PERR", 0x0803, [], false, true, 0, [⟨"COUNT", 31, 24, .ro, 0⟩, ⟨"ADDR", 20, 0, .ro, 0⟩]⟩,
  ⟨"MBK_ECC", 0x0804, [], false, true, 0, [⟨"CE", 31, 16, .ro, 0⟩, ⟨"UE", 15, 0, .ro, 0⟩]⟩,
  ⟨"MBK_OWNRb", 0x0840, [(1, 64)], false, true, 0, [⟨"RET", 8, 8, .ro, 0⟩, ⟨"OWNER", 7, 0, .ro, 56⟩]⟩,
  ⟨"MBK_RTSn", 0x0900, [(4, 64)], true, false, 0, [⟨"EN", 31, 31, .rw, 0⟩, ⟨"SCLASS", 25, 22, .rw, 0⟩, ⟨"SINDEX", 21, 16, .rw, 0⟩, ⟨"DCLASS", 9, 6, .rw, 0⟩, ⟨"DINDEX", 5, 0, .rw, 0⟩]⟩,
  ⟨"MBK_RTBn", 0x0901, [(4, 64)], true, false, 0, [⟨"BANK", 31, 26, .rw, 0⟩, ⟨"BASE", 25, 13, .rw, 0⟩, ⟨"LEN", 12, 0, .rw, 0⟩]⟩,
  ⟨"MBK_RTCn", 0x0902, [(4, 64)], false, true, 0, [⟨"DROP", 31, 16, .ro, 0⟩, ⟨"WPTR", 12, 0, .ro, 0⟩]⟩,
  ⟨"MBK_DAn", 0x0A00, [(4, 4)], false, false, 0, [⟨"FAR", 28, 0, .rw, 0⟩]⟩,
  ⟨"MBK_DBn", 0x0A01, [(4, 4)], false, false, 0, [⟨"LENM1", 31, 19, .rw, 0⟩, ⟨"BANK", 18, 13, .rw, 0⟩, ⟨"WOFF", 12, 0, .rw, 0⟩]⟩,
  ⟨"MBK_DCn", 0x0A02, [(4, 4)], false, false, 0, [⟨"START", 31, 31, .wo, 0⟩, ⟨"DIR", 30, 29, .rw, 0⟩, ⟨"GROUP", 28, 25, .rw, 0⟩, ⟨"LAG", 24, 21, .rw, 1⟩, ⟨"HB", 16, 16, .rw, 0⟩, ⟨"HCL", 15, 8, .rw, 0⟩]⟩,
  ⟨"MBK_DSn", 0x0A03, [(4, 4)], false, false, 0, [⟨"DONE", 31, 16, .ro, 0⟩, ⟨"UE", 5, 5, .ro, 0⟩, ⟨"PERR", 4, 4, .ro, 0⟩, ⟨"STATE", 2, 0, .ro, 0⟩]⟩]

/-- All registers of block MBK. -/
def regsMbk : List RegDesc := regsMbk0

/-- Registers of block SCH, part 1. -/
def regsSch0 : List RegDesc := [
  ⟨"SCH_CSEL", 0x0C01, [], false, false, 0, [⟨"CLAUSE", 7, 0, .rw, 0⟩]⟩,
  ⟨"SCH_CEXA", 0x0C02, [], false, true, 0, [⟨"ENDED", 31, 16, .ro, 0⟩, ⟨"BUDGET", 15, 0, .ro, 0⟩]⟩,
  ⟨"SCH_CEXB", 0x0C03, [], false, true, 0, [⟨"OVERRUN", 31, 16, .ro, 0⟩, ⟨"DIVERGE", 15, 0, .ro, 0⟩]⟩,
  ⟨"SCH_CEXC", 0x0C04, [], false, true, 0, [⟨"ILLEGAL", 31, 16, .ro, 0⟩, ⟨"IMEM_FAULT", 15, 0, .ro, 0⟩]⟩,
  ⟨"SCH_CEXD", 0x0C05, [], false, true, 0, [⟨"STARVED", 31, 16, .ro, 0⟩, ⟨"TRIGLOST", 15, 0, .ro, 0⟩]⟩,
  ⟨"SCH_CHOST", 0x0C06, [], false, true, 0, [⟨"ENGINE", 18, 16, .ro, 0⟩, ⟨"STATE", 15, 14, .ro, 0⟩, ⟨"LAST", 3, 0, .ro, 0⟩]⟩,
  ⟨"SCH_CJST", 0x0C07, [], false, false, 0, [⟨"C3", 11, 8, .ro, 0⟩, ⟨"C2", 7, 4, .ro, 0⟩, ⟨"C1", 3, 0, .ro, 0⟩]⟩,
  ⟨"SCH_AXSTK", 0x0C08, [], false, true, 0, [⟨"JUMP", 23, 16, .w1c, 0⟩, ⟨"REV", 15, 8, .w1c, 0⟩, ⟨"LOSS", 7, 0, .w1c, 0⟩]⟩,
  ⟨"SCH_RDISC", 0x0C09, [], false, true, 0, [⟨"COUNT", 31, 0, .ro, 0⟩]⟩,
  ⟨"SCH_PLCTL", 0x0C0A, [], false, false, 0, [⟨"EN", 31, 31, .rw, 1⟩, ⟨"LANES", 30, 30, .rw, 1⟩, ⟨"PLGRP", 27, 24, .rw, 0⟩, ⟨"MAXMOV", 23, 20, .rw, 1⟩, ⟨"THR", 19, 12, .rw, 102⟩, ⟨"PLPER", 11, 0, .rw, 100⟩]⟩,
  ⟨"SCH_PLEPOCH", 0x0C0B, [], false, true, 0, [⟨"EPOCH", 31, 0, .ro, 0⟩]⟩,
  ⟨"SCH_BSAWAKE", 0x0C0C, [], true, false, 0x0000FFFE, [⟨"AWAKE", 15, 1, .rw, 0⟩]⟩,
  ⟨"SCH_AXSRCn", 0x0C11, [(1, 7)], true, true, 0x00000077, [⟨"VALID", 7, 7, .ro, 0⟩, ⟨"SRC", 6, 4, .rw, 0⟩, ⟨"IDX", 2, 0, .rw, 0⟩]⟩,
  ⟨"SCH_AXPOSn", 0x0C18, [(1, 8)], false, true, 0, [⟨"POS", 31, 0, .ro, 0⟩]⟩,
  ⟨"SCH_AXRATEn", 0x0C21, [(1, 7)], true, false, 0, [⟨"RATE", 31, 0, .rw, 0⟩]⟩,
  ⟨"SCH_AXSETn", 0x0C29, [(1, 7)], true, false, 0, [⟨"SETPOS", 31, 0, .wo, 0⟩]⟩,
  ⟨"SCH_LOADe", 0x0C30, [(1, 8)], false, true, 0, [⟨"MINSLK", 31, 16, .ro, 0⟩, ⟨"BUSY", 15, 0, .ro, 0⟩]⟩,
  ⟨"SCH_LLOADl", 0x0C38, [(1, 4)], false, true, 0, [⟨"MINSLK", 31, 16, .ro, 0⟩, ⟨"BUSY", 15, 0, .ro, 0⟩]⟩,
  ⟨"SCH_CMPPk", 0x0C40, [(2, 32)], true, false, 0xFFFFFFFF, [⟨"POS", 31, 0, .rw, 0⟩]⟩,
  ⟨"SCH_CMPCk", 0x0C41, [(2, 32)], true, true, 0xF8FFFF00, [⟨"EN", 31, 31, .rw, 0⟩, ⟨"BIDIR", 30, 30, .rw, 0⟩, ⟨"AXIS", 29, 27, .rw, 0⟩, ⟨"HYST", 23, 8, .rw, 0⟩, ⟨"FIRES", 7, 0, .ro, 0⟩]⟩]

/-- Registers of block SCH, part 2. -/
def regsSch1 : List RegDesc := [
  ⟨"SCH_GAXg", 0x0C80, [(6, 16)], true, false, 0xF000FFFF, [⟨"EN", 31, 31, .rw, 0⟩, ⟨"AXIS", 30, 28, .rw, 0⟩, ⟨"STALL", 15, 0, .rw, 0⟩]⟩,
  ⟨"SCH_GPERg", 0x0C81, [(6, 16)], true, false, 0xFFFFFFFF, [⟨"PERIOD", 31, 0, .rw, 0⟩]⟩,
  ⟨"SCH_GORGg", 0x0C82, [(6, 16)], true, false, 0xFFFFFFFF, [⟨"ORIGIN", 31, 0, .rw, 0⟩]⟩,
  ⟨"SCH_GFSg", 0x0C83, [(6, 16)], true, false, 0xFFFFFFFF, [⟨"FSOFF", 31, 0, .rw, 0⟩]⟩,
  ⟨"SCH_GSEQg", 0x0C84, [(6, 16)], false, true, 0, [⟨"SEQ", 31, 0, .ro, 0⟩]⟩,
  ⟨"SCH_GSTATg", 0x0C85, [(6, 16)], false, true, 0, [⟨"OVR", 31, 16, .ro, 0⟩, ⟨"FORCED", 15, 8, .ro, 0⟩, ⟨"STALLED", 0, 0, .ro, 0⟩]⟩,
  ⟨"SCH_BSLk", 0x0CE2, [(2, 15)], true, false, 0xFFFFFFFF, [⟨"MASK", 31, 0, .rw, 0⟩]⟩,
  ⟨"SCH_BSHk", 0x0CE3, [(2, 15)], true, false, 0xFFFFFFFF, [⟨"MASK", 31, 0, .rw, 0⟩]⟩,
  ⟨"SCH_CDAc", 0x0D00, [(3, 256)], true, false, 0xFFFFFFFF, [⟨"EN", 31, 31, .rw, 0⟩, ⟨"TTYPE", 30, 28, .rw, 0⟩, ⟨"PRIO", 27, 24, .rw, 0⟩, ⟨"GROUP", 23, 20, .rw, 0⟩, ⟨"LOCK", 19, 19, .rw, 0⟩, ⟨"FLOAT", 18, 18, .rw, 0⟩, ⟨"ENGINE", 17, 15, .rw, 0⟩, ⟨"ENTRY", 14, 0, .rw, 0⟩]⟩,
  ⟨"SCH_CDBc", 0x0D01, [(3, 256)], true, false, 0xF1FFFFFF, [⟨"BSET", 31, 28, .rw, 0⟩, ⟨"BUDGET", 24, 0, .rw, 0⟩]⟩,
  ⟨"SCH_CDCc", 0x0D02, [(3, 256)], true, false, 0xFFFFFFFF, [⟨"PARAM", 31, 0, .rw, 0⟩]⟩]

/-- All registers of block SCH. -/
def regsSch : List RegDesc := regsSch0 ++ regsSch1

/-- Registers of block CLE, part 1. -/
def regsCle0 : List RegDesc := [
  ⟨"CLE_LSCTL", 0x1000, [], true, false, 0, [⟨"LSEN", 3, 0, .rw, 0⟩]⟩,
  ⟨"CLE_ESF", 0x1001, [], false, false, 0, [⟨"ILL", 15, 15, .w1c, 0⟩, ⟨"OVERRUN", 14, 14, .w1c, 0⟩, ⟨"DIVERGE", 13, 13, .w1c, 0⟩, ⟨"BUDGET", 12, 12, .w1c, 0⟩, ⟨"IECC", 11, 11, .w1c, 0⟩, ⟨"WTMO", 10, 10, .w1c, 0⟩, ⟨"LIVE", 9, 9, .w1c, 0⟩, ⟨"LEN_ERR", 8, 8, .w1c, 0⟩, ⟨"PORT_TMO", 7, 7, .w1c, 0⟩, ⟨"PORT_UNDEC", 6, 6, .w1c, 0⟩, ⟨"PARITY", 5, 5, .w1c, 0⟩, ⟨"OWN", 4, 4, .w1c, 0⟩, ⟨"ALIGN", 3, 3, .w1c, 0⟩, ⟨"DOM", 2, 2, .w1c, 0⟩, ⟨"ASAT", 1, 1, .w1c, 0⟩, ⟨"SAT", 0, 0, .w1c, 0⟩]⟩,
  ⟨"CLE_LSSTAT", 0x1002, [], false, true, 0, [⟨"DIVCNT3", 31, 24, .ro, 0⟩, ⟨"DIVCNT2", 23, 16, .ro, 0⟩, ⟨"DIVCNT1", 15, 8, .ro, 0⟩, ⟨"FAIL", 7, 4, .ro, 0⟩, ⟨"DIV_STK", 3, 0, .w1c, 0⟩]⟩,
  ⟨"CLE_LSDIV0", 0x1003, [], false, true, 0, [⟨"DIVCNT0", 7, 0, .ro, 0⟩]⟩,
  ⟨"CLE_CMAXCLR", 0x1004, [], false, false, 0, [⟨"CLAUSE", 7, 0, .wo, 0⟩]⟩,
  ⟨"CLE_EFLGn", 0x1010, [(1, 8)], false, true, 0, [⟨"FLAGS", 15, 0, .w1c, 0⟩]⟩,
  ⟨"CLE_CFLGc", 0x1100, [(1, 256)], false, true, 0, [⟨"FLAGS", 15, 0, .w1c, 0⟩]⟩,
  ⟨"CLE_CMAXc", 0x1200, [(1, 256)], false, true, 0, [⟨"MAXCLK", 24, 0, .ro, 0⟩]⟩]

/-- All registers of block CLE. -/
def regsCle : List RegDesc := regsCle0

/-- Registers of block SOL, part 1. -/
def regsSol0 : List RegDesc := [
  ⟨"SOL_TUSE0", 0x1400, [], false, true, 0, [⟨"INUSE", 31, 0, .ro, 0⟩]⟩,
  ⟨"SOL_TUSE1", 0x1401, [], false, true, 0, [⟨"INUSE", 31, 0, .ro, 0⟩]⟩,
  ⟨"SOL_TSEL", 0x1402, [], false, false, 0, [⟨"TICKET", 5, 0, .rw, 0⟩]⟩,
  ⟨"SOL_TSTAT", 0x1403, [], false, true, 0, [⟨"INUSE", 31, 31, .ro, 0⟩, ⟨"COMPLETE", 30, 30, .ro, 0⟩, ⟨"SEQR", 29, 29, .ro, 0⟩, ⟨"COUNT", 28, 20, .ro, 0⟩, ⟨"FINAL", 19, 11, .ro, 0⟩]⟩,
  ⟨"SOL_TSUM", 0x1404, [], false, true, 0, [⟨"SUMMARY", 31, 0, .ro, 0⟩]⟩,
  ⟨"SOL_TDONE", 0x1405, [], false, true, 0, [⟨"STAMP", 31, 0, .ro, 0⟩]⟩,
  ⟨"SOL_TREL", 0x1406, [], false, false, 0, [⟨"TICKET", 5, 0, .wo, 0⟩]⟩,
  ⟨"SOL_NTKT", 0x1407, [], false, false, 0, [⟨"TICKET", 31, 0, .ro, 4294967295⟩]⟩,
  ⟨"SOL_INFL", 0x1408, [], false, true, 0, [⟨"PEAK", 15, 8, .ro, 0⟩, ⟨"INFL", 7, 0, .ro, 0⟩]⟩,
  ⟨"SOL_STK", 0x1409, [], false, true, 0, [⟨"TREL_REF", 6, 6, .w1c, 0⟩, ⟨"TILE", 5, 5, .w1c, 0⟩, ⟨"PARITY", 4, 4, .w1c, 0⟩, ⟨"XHAZ", 3, 3, .w1c, 0⟩, ⟨"RANGE", 2, 2, .w1c, 0⟩, ⟨"REFUSED", 1, 1, .w1c, 0⟩, ⟨"TFULL", 0, 0, .w1c, 0⟩]⟩,
  ⟨"SOL_TFULL", 0x140A, [], false, true, 0, [⟨"COUNT", 31, 0, .ro, 0⟩]⟩,
  ⟨"SOL_XHAZ", 0x140B, [], false, true, 0, [⟨"COUNT", 31, 0, .ro, 0⟩]⟩,
  ⟨"SOL_TILE", 0x140C, [], false, true, 0, [⟨"FLT3", 27, 22, .ro, 0⟩, ⟨"FLT2", 21, 16, .ro, 0⟩, ⟨"FLT1", 15, 10, .ro, 0⟩, ⟨"FLT0", 9, 4, .ro, 0⟩, ⟨"OFF", 3, 0, .ro, 0⟩]⟩,
  ⟨"SOL_NSUB", 0x1410, [], false, true, 0, [⟨"COUNT", 31, 0, .ro, 0⟩]⟩,
  ⟨"SOL_NDONE", 0x1411, [], false, true, 0, [⟨"COUNT", 31, 0, .ro, 0⟩]⟩,
  ⟨"SOL_NREG", 0x1412, [], false, true, 0, [⟨"COUNT", 31, 0, .ro, 0⟩]⟩,
  ⟨"SOL_NSAT", 0x1413, [], false, true, 0, [⟨"COUNT", 31, 0, .ro, 0⟩]⟩,
  ⟨"SOL_NSKIP", 0x1414, [], false, true, 0, [⟨"COUNT", 31, 0, .ro, 0⟩]⟩,
  ⟨"SOL_NABN", 0x1415, [], false, true, 0, [⟨"COUNT", 31, 0, .ro, 0⟩]⟩,
  ⟨"SOL_NPEND", 0x1416, [], false, true, 0, [⟨"COUNT", 31, 0, .ro, 0⟩]⟩]

/-- All registers of block SOL. -/
def regsSol : List RegDesc := regsSol0

/-- Registers of block OPT, part 1. -/
def regsOpt0 : List RegDesc := [
  ⟨"OPT_PGRANT", 0x1800, [], true, false, 0, [⟨"GRANT", 31, 0, .rw, 0⟩]⟩,
  ⟨"OPT_FBLIM", 0x1801, [], true, false, 0, [⟨"LIMIT", 7, 0, .rw, 3⟩]⟩,
  ⟨"OPT_STAT", 0x1802, [], false, true, 0, [⟨"BUSY", 31, 31, .ro, 0⟩, ⟨"TICKET", 23, 18, .ro, 0⟩, ⟨"ITER", 17, 12, .ro, 0⟩, ⟨"LAST", 11, 9, .ro, 0⟩, ⟨"FBCNT", 7, 0, .ro, 0⟩]⟩,
  ⟨"OPT_STK", 0x1803, [], false, true, 0, [⟨"BUSYREF", 6, 6, .w1c, 0⟩, ⟨"PZERO", 5, 5, .w1c, 0⟩, ⟨"PSCALE", 4, 4, .w1c, 0⟩, ⟨"ITFAIL", 3, 3, .w1c, 0⟩, ⟨"DLN", 2, 2, .w1c, 0⟩, ⟨"REFUSED", 1, 1, .w1c, 0⟩, ⟨"DEGRADED", 0, 0, .w1c, 0⟩]⟩,
  ⟨"OPT_RUNT", 0x1804, [], false, true, 0, [⟨"NS", 31, 0, .ro, 0⟩]⟩,
  ⟨"OPT_MACS", 0x1805, [], false, true, 0, [⟨"COUNT", 31, 0, .ro, 0⟩]⟩,
  ⟨"OPT_NRUN", 0x1810, [], false, true, 0, [⟨"COUNT", 31, 0, .ro, 0⟩]⟩,
  ⟨"OPT_NSOLV", 0x1811, [], false, true, 0, [⟨"COUNT", 31, 0, .ro, 0⟩]⟩,
  ⟨"OPT_NEARLY", 0x1812, [], false, true, 0, [⟨"COUNT", 31, 0, .ro, 0⟩]⟩,
  ⟨"OPT_NWARM", 0x1813, [], false, true, 0, [⟨"COUNT", 31, 0, .ro, 0⟩]⟩,
  ⟨"OPT_NZERO", 0x1814, [], false, true, 0, [⟨"COUNT", 31, 0, .ro, 0⟩]⟩,
  ⟨"OPT_NREF", 0x1815, [], false, true, 0, [⟨"COUNT", 31, 0, .ro, 0⟩]⟩,
  ⟨"OPT_NPEND", 0x1816, [], false, true, 0, [⟨"COUNT", 31, 0, .ro, 0⟩]⟩,
  ⟨"OPT_NBUSY", 0x1817, [], false, true, 0, [⟨"COUNT", 31, 0, .ro, 0⟩]⟩]

/-- All registers of block OPT. -/
def regsOpt : List RegDesc := regsOpt0

/-- Registers of block LPE, part 1. -/
def regsLpe0 : List RegDesc := [
  ⟨"LPE_CFGn", 0x2000, [(64, 64)], true, false, 0xFE000000, [⟨"EN", 31, 31, .rw, 0⟩, ⟨"ANG", 30, 30, .rw, 0⟩, ⟨"FLOAT", 29, 29, .rw, 0⟩, ⟨"LANE", 28, 27, .rw, 0⟩, ⟨"REACT", 26, 25, .rw, 0⟩]⟩,
  ⟨"LPE_TRGn", 0x2001, [(64, 64)], true, false, 0xFC0FFFFF, [⟨"TYPE", 31, 31, .rw, 0⟩, ⟨"CU", 30, 26, .rw, 0⟩, ⟨"PER", 19, 0, .rw, 0⟩]⟩,
  ⟨"LPE_SRCn", 0x2002, [(64, 64)], true, false, 0xFFF00000, [⟨"SPS", 31, 28, .rw, 0⟩, ⟨"FBS", 27, 24, .rw, 0⟩, ⟨"FFS", 23, 20, .rw, 0⟩]⟩,
  ⟨"LPE_SPPn", 0x2003, [(64, 64)], true, false, 0xFFFFFFFF, [⟨"PARAM", 31, 0, .rw, 0⟩]⟩,
  ⟨"LPE_FBPn", 0x2004, [(64, 64)], true, false, 0xFFFFFFFF, [⟨"PARAM", 31, 0, .rw, 0⟩]⟩,
  ⟨"LPE_FFPn", 0x2005, [(64, 64)], true, false, 0xFFFFFFFF, [⟨"PARAM", 31, 0, .rw, 0⟩]⟩,
  ⟨"LPE_DSTn", 0x2006, [(64, 64)], true, false, 0xF01FFFFF, [⟨"DCLASS", 31, 28, .rw, 0⟩, ⟨"DEST", 20, 0, .rw, 0⟩]⟩,
  ⟨"LPE_SPn", 0x2007, [(64, 64)], true, false, 0xFFFFFFFF, [⟨"SP", 31, 0, .rw, 0⟩]⟩,
  ⟨"LPE_FELIMn", 0x2008, [(64, 64)], true, false, 0xFFFFFFFF, [⟨"FELIM", 31, 0, .rw, 0⟩]⟩,
  ⟨"LPE_FETIMEn", 0x2009, [(64, 64)], true, false, 0xFFFFFFFF, [⟨"FETIME", 31, 0, .rw, 0⟩]⟩,
  ⟨"LPE_GRACEn", 0x200A, [(64, 64)], true, false, 0xFFFFFFFF, [⟨"GRACE", 31, 0, .rw, 0⟩]⟩,
  ⟨"LPE_LOSn", 0x200B, [(64, 64)], true, false, 0xFFFFFF00, [⟨"LOSST", 31, 16, .rw, 0⟩, ⟨"FRZN", 15, 8, .rw, 0⟩]⟩,
  ⟨"LPE_FRZMINn", 0x200C, [(64, 64)], true, false, 0xFFFFFFFF, [⟨"FRZMIN", 31, 0, .rw, 0⟩]⟩,
  ⟨"LPE_SAFEn", 0x200D, [(64, 64)], true, false, 0xFFFFFFFF, [⟨"SAFE", 31, 0, .rw, 0⟩]⟩,
  ⟨"LPE_STATn", 0x200E, [(64, 64)], false, true, 0, [⟨"PRES", 31, 31, .ro, 0⟩, ⟨"PEND", 30, 30, .ro, 0⟩, ⟨"MODE", 29, 28, .ro, 3⟩, ⟨"LANE", 27, 26, .ro, 0⟩]⟩,
  ⟨"LPE_STKn", 0x200F, [(64, 64)], false, true, 0, [⟨"PRESWR", 13, 13, .w1c, 0⟩, ⟨"DSTERR", 12, 12, .w1c, 0⟩, ⟨"SWPREF", 11, 11, .w1c, 0⟩, ⟨"TLOST", 10, 10, .w1c, 0⟩, ⟨"SKIP", 9, 9, .w1c, 0⟩, ⟨"SWPCLAMP", 8, 8, .w1c, 0⟩, ⟨"LOSS", 7, 7, .w1c, 0⟩, ⟨"FRZ", 6, 6, .w1c, 0⟩, ⟨"FE", 5, 5, .w1c, 0⟩, ⟨"SLEW", 4, 4, .w1c, 0⟩, ⟨"SAT_OUT", 3, 3, .w1c, 0⟩, ⟨"SAT_FILT", 2, 2, .w1c, 0⟩, ⟨"SAT_INT", 1, 1, .w1c, 0⟩, ⟨"SAT_ERR", 0, 0, .w1c, 0⟩]⟩,
  ⟨"LPE_PAGEn,p,w", 0x2010, [(64, 64), (24, 2), (1, 24)], false, false, 0, [⟨"VALUE", 31, 0, .rw, 0⟩]⟩,
  ⟨"LPE_OUTn", 0x3000, [(1, 64)], false, true, 0, [⟨"OUT", 31, 0, .ro, 0⟩]⟩,
  ⟨"LPE_ERRn", 0x3040, [(1, 64)], false, true, 0, [⟨"ERR", 31, 0, .ro, 0⟩]⟩,
  ⟨"LPE_SNAPn,w", 0x3400, [(16, 64), (1, 16)], false, false, 0, [⟨"VALUE", 31, 0, .ro, 0⟩]⟩]

/-- Registers of block LPE, part 2. -/
def regsLpe1 : List RegDesc := [
  ⟨"LPE_CTL", 0x3800, [], true, false, 0x8F000000, [⟨"CAPEN", 31, 31, .rw, 0⟩, ⟨"CAPGRP", 27, 24, .rw, 0⟩, ⟨"ODLY", 7, 0, .rw, 20⟩]⟩,
  ⟨"LPE_ARM", 0x3801, [], false, false, 0, [⟨"SLOT", 5, 0, .wo, 0⟩]⟩,
  ⟨"LPE_SWAP", 0x3802, [], true, false, 0, [⟨"G", 31, 31, .wo, 0⟩, ⟨"NM1", 13, 8, .wo, 0⟩, ⟨"FIRST", 5, 0, .wo, 0⟩]⟩,
  ⟨"LPE_GSTK", 0x3803, [], false, true, 0, [⟨"ADJREF", 2, 2, .w1c, 0⟩, ⟨"LANEF", 1, 1, .w1c, 0⟩, ⟨"SWPLOST", 0, 0, .w1c, 0⟩]⟩,
  ⟨"LPE_NEVAL", 0x3804, [], false, true, 0, [⟨"COUNT", 31, 0, .ro, 0⟩]⟩,
  ⟨"LPE_NSKIP", 0x3805, [], false, true, 0, [⟨"COUNT", 31, 0, .ro, 0⟩]⟩,
  ⟨"LPE_NTLOST", 0x3806, [], false, true, 0, [⟨"COUNT", 31, 0, .ro, 0⟩]⟩,
  ⟨"LPE_SGLg", 0x3810, [(3, 16)], true, false, 0xFFFFFFFF, [⟨"SG", 31, 0, .rw, 0⟩]⟩,
  ⟨"LPE_SGHg", 0x3811, [(3, 16)], true, false, 0xFFFFFFFF, [⟨"SG", 31, 0, .rw, 0⟩]⟩,
  ⟨"LPE_SGRg", 0x3812, [(3, 16)], true, false, 0x0000003F, [⟨"SGREF", 5, 0, .rw, 0⟩]⟩,
  ⟨"LPE_ADJC", 0x3840, [], true, false, 0, [⟨"ADDR", 20, 0, .rw, 0⟩]⟩,
  ⟨"LPE_ADJL", 0x3841, [], true, false, 0, [⟨"MASK", 31, 0, .rw, 0⟩]⟩,
  ⟨"LPE_ADJH", 0x3842, [], true, false, 0, [⟨"MASK", 31, 0, .rw, 0⟩]⟩]

/-- All registers of block LPE. -/
def regsLpe : List RegDesc := regsLpe0 ++ regsLpe1

/-- Registers of block FUS, part 1. -/
def regsFus0 : List RegDesc := [
  ⟨"FUS_CTL", 0x4000, [], true, false, 0xFFF9FFFF, [⟨"EN", 31, 31, .rw, 0⟩, ⟨"PROPSRC", 30, 30, .rw, 0⟩, ⟨"UPDMODE", 29, 29, .rw, 0⟩, ⟨"NERR", 28, 24, .rw, 0⟩, ⟨"PF", 23, 19, .rw, 0⟩, ⟨"FPER", 16, 0, .rw, 0⟩]⟩,
  ⟨"FUS_MODA", 0x4002, [], true, false, 0x001FFFFF, [⟨"ADDR", 20, 0, .rw, 0⟩]⟩,
  ⟨"FUS_WSL", 0x4003, [], true, false, 0xFFFFFFFF, [⟨"MASK", 31, 0, .rw, 0⟩]⟩,
  ⟨"FUS_WSH", 0x4004, [], true, false, 0xFFFFFFFF, [⟨"MASK", 31, 0, .rw, 0⟩]⟩,
  ⟨"FUS_MSRC", 0x4005, [], true, false, 0x00003FFF, [⟨"MSLOT", 13, 8, .rw, 0⟩, ⟨"WIDX", 7, 0, .rw, 0⟩]⟩,
  ⟨"FUS_CAP", 0x4006, [], true, false, 0x8F1FFFFF, [⟨"CAPEN", 31, 31, .rw, 0⟩, ⟨"CAPGRP", 27, 24, .rw, 0⟩, ⟨"ADDR", 20, 0, .rw, 0⟩]⟩,
  ⟨"FUS_CAPCL", 0x4007, [], true, false, 0x000000FF, [⟨"CLAUSE", 7, 0, .rw, 0⟩]⟩,
  ⟨"FUS_LOAD", 0x4008, [], true, false, 0, [⟨"GO", 31, 31, .rw, 0⟩, ⟨"ADDR", 20, 0, .rw, 0⟩]⟩,
  ⟨"FUS_DRLIM", 0x4009, [], true, false, 0, [⟨"DRLIM", 11, 0, .rw, 120⟩]⟩,
  ⟨"FUS_GATE", 0x400A, [], true, false, 0, [⟨"GATE", 31, 0, .rw, 603587⟩]⟩,
  ⟨"FUS_CTHR", 0x400B, [], true, false, 0xFFFFFFFF, [⟨"CTHR", 31, 0, .rw, 0⟩]⟩,
  ⟨"FUS_VTHR", 0x400C, [], true, false, 0xFFFFFFFF, [⟨"VTHR", 31, 0, .rw, 0⟩]⟩,
  ⟨"FUS_VWIN", 0x400D, [], true, false, 0, [⟨"VWIN", 15, 0, .rw, 1000⟩]⟩,
  ⟨"FUS_HCTHR", 0x400E, [], true, false, 0xFFFFFFFF, [⟨"HCTHR", 31, 0, .rw, 0⟩]⟩,
  ⟨"FUS_HVTHR", 0x400F, [], true, false, 0xFFFFFFFF, [⟨"HVTHR", 31, 0, .rw, 0⟩]⟩,
  ⟨"FUS_UPD", 0x4010, [], false, false, 0, [⟨"CUTOFF", 31, 0, .wo, 0⟩]⟩,
  ⟨"FUS_STAT", 0x4011, [], false, true, 0, [⟨"BUSY", 31, 31, .ro, 0⟩, ⟨"DR", 30, 30, .ro, 0⟩, ⟨"POSUNC", 29, 29, .ro, 0⟩, ⟨"REFCONF", 28, 28, .ro, 0⟩, ⟨"HDGDR", 27, 27, .ro, 0⟩, ⟨"WVALID", 26, 26, .ro, 0⟩, ⟨"IMUF", 25, 25, .ro, 0⟩, ⟨"LOADP", 24, 24, .ro, 0⟩, ⟨"QDEPTH", 23, 16, .ro, 0⟩, ⟨"IMGLEN", 15, 0, .ro, 0⟩]⟩,
  ⟨"FUS_STK", 0x4012, [], false, true, 0, [⟨"CAPREF", 8, 8, .w1c, 0⟩, ⟨"LOADREF", 7, 7, .w1c, 0⟩, ⟨"QFULL", 6, 6, .w1c, 0⟩, ⟨"ABORT", 5, 5, .w1c, 0⟩, ⟨"IMUF", 4, 4, .w1c, 0⟩, ⟨"TIME_SLIP", 3, 3, .w1c, 0⟩, ⟨"POSUNC", 2, 2, .w1c, 0⟩, ⟨"REFCONF", 1, 1, .w1c, 0⟩, ⟨"POSTREF", 0, 0, .w1c, 0⟩]⟩,
  ⟨"FUS_FRAME", 0x4013, [], false, true, 0, [⟨"FRAME", 31, 0, .ro, 0⟩]⟩,
  ⟨"FUS_DIGEST", 0x4014, [], false, false, 0, [⟨"CRC", 31, 0, .ro, 0⟩]⟩]

/-- Registers of block FUS, part 2. -/
def regsFus1 : List RegDesc := [
  ⟨"FUS_DRT", 0x4015, [], false, true, 0, [⟨"MS", 31, 0, .ro, 0⟩]⟩,
  ⟨"FUS_TAU0", 0x4018, [], true, false, 0, [⟨"TAU", 31, 0, .rw, 0⟩]⟩,
  ⟨"FUS_TAU1", 0x4019, [], true, false, 0, [⟨"TAU", 31, 0, .rw, 0⟩]⟩,
  ⟨"FUS_TAU2", 0x401A, [], true, false, 0, [⟨"TAU", 31, 0, .rw, 0⟩]⟩,
  ⟨"FUS_WCTL", 0x4020, [], true, false, 0xC0000000, [⟨"WEN", 31, 31, .rw, 0⟩, ⟨"WSRC", 30, 30, .rw, 0⟩]⟩,
  ⟨"FUS_WH", 0x4021, [], true, false, 0xFFFFFFFF, [⟨"W", 31, 0, .rw, 0⟩]⟩,
  ⟨"FUS_WR", 0x4022, [], true, false, 0xFFFFFFFF, [⟨"W", 31, 0, .rw, 0⟩]⟩,
  ⟨"FUS_WBQw", 0x4023, [(1, 5)], true, false, 0xFFFFFFFF, [⟨"COEF", 31, 0, .rw, 0⟩]⟩,
  ⟨"FUS_WKP", 0x4028, [], true, false, 0xFFFFFFFF, [⟨"K", 31, 0, .rw, 0⟩]⟩,
  ⟨"FUS_WKI", 0x4029, [], true, false, 0xFFFFFFFF, [⟨"K", 31, 0, .rw, 0⟩]⟩,
  ⟨"FUS_WAMIN", 0x402A, [], true, false, 0xFFFFFFFF, [⟨"AMIN", 31, 0, .rw, 0⟩]⟩,
  ⟨"FUS_WPER", 0x402B, [], true, false, 0xFFFFFFFF, [⟨"PMAX", 31, 16, .rw, 0⟩, ⟨"PMIN", 15, 0, .rw, 0⟩]⟩,
  ⟨"FUS_WPH", 0x402C, [], false, false, 0, [⟨"VALUE", 31, 0, .ro, 0⟩]⟩,
  ⟨"FUS_WRATE", 0x402D, [], false, false, 0, [⟨"VALUE", 31, 0, .ro, 0⟩]⟩,
  ⟨"FUS_WAMP", 0x402E, [], false, false, 0, [⟨"VALUE", 31, 0, .ro, 0⟩]⟩,
  ⟨"FUS_SCFGs", 0x4100, [(16, 13)], true, false, 0xFFE0FFFF, [⟨"EN", 31, 31, .rw, 0⟩, ⟨"TYPE", 30, 28, .rw, 0⟩, ⟨"SLIPREJ", 27, 27, .rw, 0⟩, ⟨"VOTE", 26, 26, .rw, 0⟩, ⟨"OSH", 25, 21, .rw, 0⟩, ⟨"LAT", 15, 0, .rw, 0⟩]⟩,
  ⟨"FUS_LXs", 0x4101, [(16, 13)], true, false, 0xFFFFFFFF, [⟨"L", 31, 0, .rw, 0⟩]⟩,
  ⟨"FUS_LYs", 0x4102, [(16, 13)], true, false, 0xFFFFFFFF, [⟨"L", 31, 0, .rw, 0⟩]⟩,
  ⟨"FUS_LZs", 0x4103, [(16, 13)], true, false, 0xFFFFFFFF, [⟨"L", 31, 0, .rw, 0⟩]⟩,
  ⟨"FUS_VARs", 0x4104, [(16, 13)], true, false, 0xFFFFFFFF, [⟨"VAR", 31, 0, .rw, 0⟩]⟩]

/-- Registers of block FUS, part 3. -/
def regsFus2 : List RegDesc := [
  ⟨"FUS_SLIPs", 0x4105, [(16, 13)], true, false, 0xFFFFFFFF, [⟨"SLIPINF", 31, 0, .rw, 0⟩]⟩,
  ⟨"FUS_BIASs", 0x4106, [(16, 13)], true, false, 0x000003FF, [⟨"BIASN", 9, 5, .rw, 0⟩, ⟨"BIASE", 4, 0, .rw, 0⟩]⟩,
  ⟨"FUS_AGATEs", 0x4107, [(16, 13)], true, false, 0xFFFFFFFF, [⟨"AGATE", 31, 0, .rw, 0⟩]⟩,
  ⟨"FUS_SYAWs", 0x4108, [(16, 13)], true, false, 0xFFFFFFFF, [⟨"SYAW", 31, 0, .rw, 0⟩]⟩,
  ⟨"FUS_AEPSs", 0x4109, [(16, 13)], false, false, 0, [⟨"AEPS", 31, 0, .rw, 1024⟩]⟩,
  ⟨"FUS_SSTATs", 0x410A, [(16, 13)], false, true, 0, [⟨"SLIP", 31, 31, .ro, 0⟩]⟩,
  ⟨"FUS_TRKs", 0x410B, [(16, 13)], false, true, 0, [⟨"NCONF", 13, 8, .ro, 0⟩, ⟨"NTENT", 5, 0, .ro, 0⟩]⟩,
  ⟨"FUS_OFFs", 0x410C, [(16, 13)], false, true, 0, [⟨"OEST", 31, 0, .ro, 0⟩]⟩,
  ⟨"FUS_NRECVs", 0x4200, [(16, 13)], false, true, 0, [⟨"COUNT", 31, 0, .ro, 0⟩]⟩,
  ⟨"FUS_NACCs", 0x4201, [(16, 13)], false, true, 0, [⟨"COUNT", 31, 0, .ro, 0⟩]⟩,
  ⟨"FUS_NLATEs", 0x4202, [(16, 13)], false, true, 0, [⟨"COUNT", 31, 0, .ro, 0⟩]⟩,
  ⟨"FUS_NPENDs", 0x4203, [(16, 13)], false, true, 0, [⟨"COUNT", 31, 0, .ro, 0⟩]⟩,
  ⟨"FUS_REJ_INVs", 0x4204, [(16, 13)], false, true, 0, [⟨"COUNT", 31, 0, .ro, 0⟩]⟩,
  ⟨"FUS_REJ_SLIPs", 0x4205, [(16, 13)], false, true, 0, [⟨"COUNT", 31, 0, .ro, 0⟩]⟩,
  ⟨"FUS_REJ_GATEs", 0x4206, [(16, 13)], false, true, 0, [⟨"COUNT", 31, 0, .ro, 0⟩]⟩,
  ⟨"FUS_REJ_VOTEs", 0x4207, [(16, 13)], false, true, 0, [⟨"COUNT", 31, 0, .ro, 0⟩]⟩,
  ⟨"FUS_REJ_CONFs", 0x4208, [(16, 13)], false, true, 0, [⟨"COUNT", 31, 0, .ro, 0⟩]⟩,
  ⟨"FUS_REJ_OVWs", 0x4209, [(16, 13)], false, true, 0, [⟨"COUNT", 31, 0, .ro, 0⟩]⟩,
  ⟨"FUS_REJ_QFULLs", 0x420A, [(16, 13)], false, true, 0, [⟨"COUNT", 31, 0, .ro, 0⟩]⟩,
  ⟨"FUS_REJ_ASSOCs", 0x420B, [(16, 13)], false, true, 0, [⟨"COUNT", 31, 0, .ro, 0⟩]⟩]

/-- Registers of block FUS, part 4. -/
def regsFus3 : List RegDesc := [
  ⟨"FUS_REJ_ABORTs", 0x420C, [(16, 13)], false, true, 0, [⟨"COUNT", 31, 0, .ro, 0⟩]⟩,
  ⟨"FUS_OUTw", 0x4300, [(1, 24)], false, false, 0, [⟨"VALUE", 31, 0, .ro, 0⟩]⟩,
  ⟨"FUS_PBUFw", 0x4400, [(1, 67)], false, false, 0, [⟨"VALUE", 31, 0, .rw, 0⟩]⟩,
  ⟨"FUS_POST", 0x4443, [], false, false, 0, [⟨"SLOT", 12, 8, .wo, 0⟩, ⟨"LENGTH", 6, 0, .wo, 0⟩]⟩]

/-- All registers of block FUS. -/
def regsFus : List RegDesc := regsFus0 ++ regsFus1 ++ regsFus2 ++ regsFus3

/-- Registers of block GNB, part 1. -/
def regsGnb0 : List RegDesc := [
  ⟨"GNB_EPCTL", 0x4800, [], true, false, 0x80000000, [⟨"EN", 31, 31, .rw, 0⟩, ⟨"EPER", 15, 0, .rw, 50⟩]⟩,
  ⟨"GNB_EPSEQ", 0x4801, [], false, true, 0, [⟨"EPSEQ", 31, 0, .ro, 0⟩]⟩,
  ⟨"GNB_ANTn", 0x4802, [(1, 2)], false, true, 0, [⟨"EN", 31, 31, .rw, 0⟩, ⟨"STATE", 26, 24, .ro, 0⟩, ⟨"MA", 7, 0, .ro, 0⟩]⟩,
  ⟨"GNB_ACQ", 0x4804, [], false, false, 0, [⟨"START", 31, 31, .wo, 0⟩, ⟨"COUNT", 30, 26, .wo, 0⟩, ⟨"ABORT", 25, 25, .wo, 0⟩, ⟨"ADDR", 20, 0, .wo, 0⟩]⟩,
  ⟨"GNB_ACQSTAT", 0x4805, [], false, true, 0, [⟨"BUSY", 31, 31, .ro, 0⟩, ⟨"DONE", 30, 30, .w1c, 0⟩, ⟨"ENTRY", 4, 0, .ro, 0⟩]⟩,
  ⟨"GNB_NAVCTL", 0x4806, [], true, false, 0x8FFF3F3F, [⟨"EN", 31, 31, .rw, 0⟩, ⟨"NGRP", 27, 24, .rw, 0⟩, ⟨"NCL", 23, 16, .rw, 0⟩, ⟨"NAVA", 13, 8, .rw, 0⟩, ⟨"NAVB", 5, 0, .rw, 0⟩]⟩,
  ⟨"GNB_NAVLOST", 0x4807, [], false, true, 0, [⟨"COUNT", 31, 0, .ro, 0⟩]⟩,
  ⟨"GNB_ACQCTL", 0x4808, [], false, false, 0, [⟨"ATHR", 31, 16, .rw, 768⟩, ⟨"INTTHR", 15, 8, .rw, 15⟩]⟩,
  ⟨"GNB_STK", 0x4809, [], false, true, 0, [⟨"CFGREF", 5, 5, .w1c, 0⟩, ⟨"AGCLIM", 4, 4, .w1c, 0⟩, ⟨"INTF", 3, 3, .w1c, 0⟩, ⟨"ANTF", 2, 2, .w1c, 0⟩, ⟨"CHREF", 1, 1, .w1c, 0⟩, ⟨"ACQBUSY", 0, 0, .w1c, 0⟩]⟩,
  ⟨"GNB_CN0MIN", 0x480A, [], false, false, 0, [⟨"CN0MIN", 15, 0, .rw, 2500⟩]⟩,
  ⟨"GNB_INTab", 0x4810, [(1, 4)], false, true, 0, [⟨"PEAK", 31, 24, .ro, 0⟩, ⟨"FREQ", 23, 12, .ro, 0⟩, ⟨"AGC", 11, 0, .ro, 0⟩]⟩,
  ⟨"GNB_CHCFGch", 0x4A00, [(8, 160)], false, false, 0, [⟨"EN", 31, 31, .rw, 0⟩, ⟨"ANT", 30, 30, .rw, 0⟩, ⟨"SIG", 29, 26, .rw, 0⟩, ⟨"PRN", 25, 18, .rw, 0⟩, ⟨"TINT", 17, 15, .rw, 0⟩, ⟨"ESP", 14, 10, .rw, 8⟩, ⟨"VSP", 9, 5, .rw, 16⟩]⟩,
  ⟨"GNB_CHLOOPch", 0x4A01, [(8, 160)], false, false, 0, [⟨"BDLL", 31, 24, .rw, 20⟩, ⟨"BPLL", 23, 16, .rw, 60⟩, ⟨"BFLL", 15, 8, .rw, 20⟩, ⟨"LOSTT", 7, 0, .rw, 10⟩]⟩,
  ⟨"GNB_CHCODEch", 0x4A02, [(8, 160)], false, false, 0, [⟨"INITCODE", 31, 0, .rw, 0⟩]⟩,
  ⟨"GNB_CHDOPPch", 0x4A03, [(8, 160)], false, false, 0, [⟨"INITDOPP", 31, 0, .rw, 0⟩]⟩,
  ⟨"GNB_CHTch", 0x4A04, [(8, 160)], false, false, 0, [⟨"INITT", 31, 0, .rw, 0⟩]⟩,
  ⟨"GNB_CHSTch", 0x4F00, [(1, 160)], false, true, 0, [⟨"STATE", 31, 29, .ro, 0⟩, ⟨"CN0", 15, 0, .ro, 0⟩]⟩]

/-- All registers of block GNB. -/
def regsGnb : List RegDesc := regsGnb0

/-- Registers of block TMB, part 1. -/
def regsTmb0 : List RegDesc := [
  ⟨"TMB_NS", 0x5000, [], false, true, 0, [⟨"NS", 31, 0, .ro, 0⟩]⟩,
  ⟨"TMB_NSHI", 0x5001, [], false, true, 0, [⟨"NSHI", 31, 0, .ro, 0⟩]⟩,
  ⟨"TMB_SEC", 0x5002, [], false, true, 0, [⟨"SEC", 31, 0, .ro, 0⟩]⟩,
  ⟨"TMB_SECH", 0x5003, [], false, true, 0, [⟨"SECH", 15, 0, .ro, 0⟩]⟩,
  ⟨"TMB_SUB", 0x5004, [], false, true, 0, [⟨"SUB", 29, 0, .ro, 0⟩]⟩,
  ⟨"TMB_UTC", 0x5008, [], true, false, 0, [⟨"VALID", 31, 31, .rw, 0⟩, ⟨"UTCOFS", 15, 0, .rw, 0⟩]⟩,
  ⟨"TMB_SRV", 0x5009, [], true, false, 0xFFF00000, [⟨"SRC1", 31, 28, .rw, 0⟩, ⟨"SRC2", 27, 24, .rw, 0⟩, ⟨"SRC3", 23, 20, .rw, 0⟩, ⟨"SLEW", 8, 0, .rw, 50⟩]⟩,
  ⟨"TMB_STEPTHR", 0x500A, [], true, false, 0, [⟨"STEP_THR", 15, 0, .rw, 500⟩]⟩,
  ⟨"TMB_GAIN", 0x500B, [], true, false, 0, [⟨"KP", 31, 24, .rw, 32⟩, ⟨"KI", 23, 16, .rw, 2⟩, ⟨"KPSH", 12, 8, .rw, 0⟩, ⟨"KISH", 4, 0, .rw, 0⟩]⟩,
  ⟨"TMB_STAT", 0x500C, [], false, true, 0, [⟨"STATE", 31, 30, .ro, 0⟩, ⟨"WARM", 29, 29, .ro, 0⟩, ⟨"SRC", 28, 26, .ro, 0⟩]⟩,
  ⟨"TMB_OFS", 0x500D, [], false, true, 0, [⟨"O", 31, 0, .ro, 0⟩]⟩,
  ⟨"TMB_FADJ", 0x500E, [], false, true, 0, [⟨"RATE", 31, 0, .ro, 0⟩]⟩,
  ⟨"TMB_UNC", 0x500F, [], false, true, 0, [⟨"UNC", 31, 0, .ro, 4294967295⟩]⟩,
  ⟨"TMB_GOFSL", 0x5010, [], false, false, 0, [⟨"GOFS", 31, 0, .rw, 0⟩]⟩,
  ⟨"TMB_GOFSH", 0x5011, [], false, false, 0, [⟨"GOFS", 31, 0, .rw, 0⟩]⟩,
  ⟨"TMB_GPOST", 0x5012, [], false, false, 0, [⟨"EPNS", 31, 0, .wo, 0⟩]⟩,
  ⟨"TMB_PPS", 0x5013, [], true, false, 0, [⟨"PPSW", 31, 23, .rw, 100⟩, ⟨"PPSDLY", 22, 0, .rw, 0⟩]⟩,
  ⟨"TMB_PTPG", 0x5014, [], true, false, 0, [⟨"PRIO1", 31, 24, .rw, 128⟩, ⟨"PRIO2", 23, 16, .rw, 128⟩, ⟨"DOMAIN", 6, 0, .rw, 0⟩]⟩,
  ⟨"TMB_STK", 0x5015, [], false, true, 0, [⟨"GREF", 4, 4, .w1c, 0⟩, ⟨"OMIT", 3, 3, .w1c, 0⟩, ⟨"HOLD", 2, 2, .w1c, 0⟩, ⟨"SRCLOSS", 1, 1, .w1c, 0⟩, ⟨"STEP", 0, 0, .w1c, 0⟩]⟩,
  ⟨"TMB_NSTEP", 0x5018, [], false, true, 0, [⟨"COUNT", 31, 0, .ro, 0⟩]⟩]

/-- Registers of block TMB, part 2. -/
def regsTmb1 : List RegDesc := [
  ⟨"TMB_NOMIT", 0x5019, [], false, true, 0, [⟨"COUNT", 31, 0, .ro, 0⟩]⟩,
  ⟨"TMB_NPPSBAD", 0x501A, [], false, true, 0, [⟨"COUNT", 31, 0, .ro, 0⟩]⟩,
  ⟨"TMB_NCAPLOST", 0x501B, [], false, true, 0, [⟨"COUNT", 31, 0, .ro, 0⟩]⟩,
  ⟨"TMB_NSRCCHG", 0x501C, [], false, true, 0, [⟨"COUNT", 31, 0, .ro, 0⟩]⟩,
  ⟨"TMB_CAPk", 0x5020, [(1, 16)], true, false, 0x8000003F, [⟨"EN", 31, 31, .rw, 0⟩, ⟨"EDGE", 5, 4, .rw, 0⟩, ⟨"SRC", 3, 0, .rw, 0⟩]⟩,
  ⟨"TMB_TRGAk", 0x5030, [(4, 16)], true, false, 0xFEFFFFFF, [⟨"EN", 31, 31, .rw, 0⟩, ⟨"MODE", 30, 30, .rw, 0⟩, ⟨"CU", 29, 25, .rw, 0⟩, ⟨"DCLASS", 23, 20, .rw, 0⟩, ⟨"DIDX", 19, 16, .rw, 0⟩, ⟨"WIDTH", 15, 0, .rw, 0⟩]⟩,
  ⟨"TMB_TRGBk", 0x5031, [(4, 16)], true, false, 0x000FFFFF, [⟨"PER", 19, 0, .rw, 0⟩]⟩,
  ⟨"TMB_TRGCk", 0x5032, [(4, 16)], true, false, 0x000FFFFF, [⟨"OFS", 19, 0, .rw, 0⟩]⟩,
  ⟨"TMB_PTPCp", 0x5080, [(4, 4)], true, false, 0xF800FFF0, [⟨"EN", 31, 31, .rw, 0⟩, ⟨"MASTER", 30, 30, .rw, 0⟩, ⟨"ONESTEP", 29, 29, .rw, 0⟩, ⟨"P2P", 28, 28, .rw, 0⟩, ⟨"UDP", 27, 27, .rw, 0⟩, ⟨"LSYNC", 15, 12, .rw, 0⟩, ⟨"LDREQ", 11, 8, .rw, 0⟩, ⟨"LANN", 7, 4, .rw, 0⟩]⟩,
  ⟨"TMB_PTPSp", 0x5081, [(4, 4)], false, true, 0, [⟨"PSTATE", 31, 28, .ro, 0⟩, ⟨"MPD", 27, 0, .ro, 0⟩]⟩]

/-- All registers of block TMB. -/
def regsTmb : List RegDesc := regsTmb0 ++ regsTmb1

/-- Registers of block BTL, part 1. -/
def regsBtl0 : List RegDesc := [
  ⟨"BTL_STAT", 0x5400, [], false, true, 0, [⟨"STATE", 31, 28, .ro, 0⟩, ⟨"UNIT", 27, 27, .ro, 0⟩, ⟨"HEALTHY", 26, 26, .ro, 0⟩, ⟨"HOLD", 25, 25, .ro, 0⟩, ⟨"PEERHOLD", 24, 24, .ro, 0⟩, ⟨"PEERALIVE", 23, 23, .ro, 0⟩, ⟨"ARM", 22, 22, .ro, 0⟩, ⟨"REVRDY", 21, 21, .ro, 0⟩, ⟨"PEERHLTH", 20, 20, .ro, 0⟩, ⟨"PATHS", 19, 17, .ro, 0⟩, ⟨"PEERADDR", 15, 8, .ro, 0⟩, ⟨"PEERSTATE", 7, 4, .ro, 0⟩]⟩,
  ⟨"BTL_CFG", 0x5401, [], true, false, 0xEF000000, [⟨"PREF", 31, 30, .rw, 0⟩, ⟨"REVEN", 29, 29, .rw, 0⟩, ⟨"HOGRP", 27, 24, .rw, 0⟩, ⟨"HOLDOFF", 11, 0, .rw, 10⟩]⟩,
  ⟨"BTL_STK", 0x5402, [], false, true, 0, [⟨"NOAUTH", 15, 15, .w1c, 0⟩, ⟨"TXDROP", 14, 14, .w1c, 0⟩, ⟨"EQLIM", 13, 13, .w1c, 0⟩, ⟨"HOFAIL", 12, 12, .w1c, 0⟩, ⟨"TXREF", 11, 11, .w1c, 0⟩, ⟨"TXUNC", 10, 10, .w1c, 0⟩, ⟨"TXABORT", 9, 9, .w1c, 0⟩, ⟨"SEQSET", 8, 8, .w1c, 0⟩, ⟨"DIVST", 7, 7, .w1c, 0⟩, ⟨"DIVOUT", 6, 6, .w1c, 0⟩, ⟨"DIVIN", 5, 5, .w1c, 0⟩, ⟨"EPDISC", 4, 4, .w1c, 0⟩, ⟨"DUALAUTH", 3, 3, .w1c, 0⟩, ⟨"TAKEOVER", 2, 2, .w1c, 0⟩, ⟨"LANEDN", 1, 1, .w1c, 0⟩, ⟨"PATHLOSS", 0, 0, .w1c, 0⟩]⟩,
  ⟨"BTL_HOREQ", 0x5403, [], false, false, 0, [⟨"GO", 0, 0, .wo, 0⟩]⟩,
  ⟨"BTL_TXN", 0x5404, [], false, false, 0, [⟨"GO", 31, 31, .wo, 0⟩, ⟨"GROUP", 19, 16, .wo, 0⟩, ⟨"TID", 15, 0, .wo, 0⟩]⟩,
  ⟨"BTL_TXSTAT", 0x5405, [], false, true, 0, [⟨"STATE", 31, 29, .ro, 0⟩, ⟨"CAUSE", 28, 26, .ro, 0⟩, ⟨"GROUP", 19, 16, .ro, 0⟩, ⟨"TID", 15, 0, .ro, 0⟩]⟩,
  ⟨"BTL_LHASH", 0x5406, [], false, false, 0, [⟨"HASH", 31, 0, .ro, 0⟩]⟩,
  ⟨"BTL_LHACC", 0x5407, [], false, false, 0, [⟨"HASH", 31, 0, .ro, 0⟩]⟩,
  ⟨"BTL_IMGH", 0x5408, [], false, false, 0, [⟨"HASH", 31, 0, .ro, 0⟩]⟩,
  ⟨"BTL_PIMGH", 0x5409, [], false, true, 0, [⟨"HASH", 31, 0, .ro, 0⟩]⟩,
  ⟨"BTL_MRXg", 0x5410, [(2, 16)], true, false, 0xBF3F00FF, [⟨"EN", 31, 31, .rw, 0⟩, ⟨"BANKA", 29, 24, .rw, 0⟩, ⟨"BANKB", 21, 16, .rw, 0⟩, ⟨"MCL", 7, 0, .rw, 0⟩]⟩,
  ⟨"BTL_MSTg", 0x5411, [(2, 16)], false, true, 0, [⟨"LAST", 31, 30, .ro, 0⟩, ⟨"ALT", 29, 29, .ro, 0⟩, ⟨"CAUSE", 28, 25, .ro, 0⟩, ⟨"AGREE", 24, 22, .ro, 0⟩, ⟨"BANK", 21, 16, .ro, 0⟩, ⟨"SEQ", 15, 0, .ro, 0⟩]⟩,
  ⟨"BTL_DIGg", 0x5430, [(1, 16)], true, false, 0, [⟨"DIN", 31, 0, .rw, 0⟩]⟩,
  ⟨"BTL_DOUTg", 0x5440, [(1, 16)], false, true, 0, [⟨"DOUT", 31, 0, .ro, 0⟩]⟩,
  ⟨"BTL_LANEn", 0x5450, [(1, 2)], false, true, 0, [⟨"LSTATE", 31, 30, .ro, 0⟩, ⟨"EQ", 23, 16, .ro, 0⟩, ⟨"CRCERR", 15, 0, .ro, 0⟩]⟩,
  ⟨"BTL_NEPRX", 0x5460, [], false, true, 0, [⟨"COUNT", 31, 0, .ro, 0⟩]⟩,
  ⟨"BTL_NEPAPP", 0x5461, [], false, true, 0, [⟨"COUNT", 31, 0, .ro, 0⟩]⟩,
  ⟨"BTL_NEPDISC", 0x5462, [], false, true, 0, [⟨"COUNT", 31, 0, .ro, 0⟩]⟩,
  ⟨"BTL_NEPPEND", 0x5463, [], false, true, 0, [⟨"COUNT", 31, 0, .ro, 0⟩]⟩,
  ⟨"BTL_NEPGAP", 0x5464, [], false, true, 0, [⟨"COUNT", 31, 0, .ro, 0⟩]⟩]

/-- Registers of block BTL, part 2. -/
def regsBtl1 : List RegDesc := [
  ⟨"BTL_NTXDROP", 0x5465, [], false, true, 0, [⟨"COUNT", 31, 0, .ro, 0⟩]⟩,
  ⟨"BTL_NDPART", 0x5468, [], false, true, 0, [⟨"COUNT", 31, 0, .ro, 0⟩]⟩,
  ⟨"BTL_NDCRC", 0x5469, [], false, true, 0, [⟨"COUNT", 31, 0, .ro, 0⟩]⟩,
  ⟨"BTL_NDSEQ", 0x546A, [], false, true, 0, [⟨"COUNT", 31, 0, .ro, 0⟩]⟩,
  ⟨"BTL_NDGRP", 0x546B, [], false, true, 0, [⟨"COUNT", 31, 0, .ro, 0⟩]⟩,
  ⟨"BTL_NDIMG", 0x546C, [], false, true, 0, [⟨"COUNT", 31, 0, .ro, 0⟩]⟩,
  ⟨"BTL_NDCFG", 0x546D, [], false, true, 0, [⟨"COUNT", 31, 0, .ro, 0⟩]⟩,
  ⟨"BTL_NDLATE", 0x546E, [], false, true, 0, [⟨"COUNT", 31, 0, .ro, 0⟩]⟩,
  ⟨"BTL_NDNOBUF", 0x546F, [], false, true, 0, [⟨"COUNT", 31, 0, .ro, 0⟩]⟩,
  ⟨"BTL_NAGREE", 0x5470, [], false, true, 0, [⟨"COUNT", 31, 0, .ro, 0⟩]⟩,
  ⟨"BTL_NDIVIN", 0x5471, [], false, true, 0, [⟨"COUNT", 31, 0, .ro, 0⟩]⟩,
  ⟨"BTL_NDIVOUT", 0x5472, [], false, true, 0, [⟨"COUNT", 31, 0, .ro, 0⟩]⟩,
  ⟨"BTL_NDIVST", 0x5473, [], false, true, 0, [⟨"COUNT", 31, 0, .ro, 0⟩]⟩,
  ⟨"BTL_NNOCMP", 0x5474, [], false, true, 0, [⟨"COUNT", 31, 0, .ro, 0⟩]⟩,
  ⟨"BTL_NTAKE", 0x5475, [], false, true, 0, [⟨"COUNT", 31, 0, .ro, 0⟩]⟩,
  ⟨"BTL_NHANDO", 0x5476, [], false, true, 0, [⟨"COUNT", 31, 0, .ro, 0⟩]⟩,
  ⟨"BTL_NREVERT", 0x5477, [], false, true, 0, [⟨"COUNT", 31, 0, .ro, 0⟩]⟩]

/-- All registers of block BTL. -/
def regsBtl : List RegDesc := regsBtl0 ++ regsBtl1

/-- Registers of block SAF, part 1. -/
def regsSaf0 : List RegDesc := [
  ⟨"SAF_STAT", 0x5800, [], false, true, 0, [⟨"SFAULT", 31, 31, .ro, 0⟩, ⟨"ON", 15, 0, .ro, 0⟩]⟩,
  ⟨"SAF_STK", 0x5801, [], false, true, 0, [⟨"SAFEST", 7, 7, .w1c, 0⟩, ⟨"TELTMO", 6, 6, .w1c, 0⟩, ⟨"TELDIFF", 5, 5, .w1c, 0⟩, ⟨"DEGR", 4, 4, .w1c, 0⟩, ⟨"TPFAIL", 3, 3, .w1c, 0⟩, ⟨"DISC", 2, 2, .w1c, 0⟩, ⟨"RSTREF", 1, 1, .w1c, 0⟩, ⟨"ONDROP", 0, 0, .w1c, 0⟩]⟩,
  ⟨"SAF_PSTAT", 0x5802, [], false, true, 0, [⟨"DISC", 31, 16, .ro, 0⟩, ⟨"PERM", 15, 0, .ro, 0⟩]⟩,
  ⟨"SAF_PFLT", 0x5803, [], false, true, 0, [⟨"C2F", 31, 16, .ro, 0⟩, ⟨"C1F", 15, 0, .ro, 0⟩]⟩,
  ⟨"SAF_OFLT", 0x5804, [], false, true, 0, [⟨"OFLT", 15, 0, .ro, 0⟩]⟩,
  ⟨"SAF_FSTAT", 0x5805, [], false, true, 0, [⟨"SAFE", 31, 16, .ro, 0⟩, ⟨"DEG", 15, 0, .ro, 0⟩]⟩,
  ⟨"SAF_FACK", 0x5806, [], false, false, 0, [⟨"FUNC", 15, 0, .wo, 0⟩]⟩,
  ⟨"SAF_TVAL0", 0x5807, [], false, false, 0, [⟨"VALID", 31, 0, .ro, 0⟩]⟩,
  ⟨"SAF_TVAL1", 0x5808, [], false, false, 0, [⟨"VALID", 31, 0, .ro, 0⟩]⟩,
  ⟨"SAF_TDEG0", 0x5809, [], false, true, 0, [⟨"DEG", 31, 0, .ro, 0⟩]⟩,
  ⟨"SAF_TDEG1", 0x580A, [], false, true, 0, [⟨"DEG", 31, 0, .ro, 0⟩]⟩,
  ⟨"SAF_PCFGk", 0x5810, [(1, 16)], true, false, 0xE0FF0000, [⟨"EN", 31, 31, .rw, 0⟩, ⟨"MODE", 30, 30, .rw, 0⟩, ⟨"AR", 29, 29, .rw, 0⟩, ⟨"FILT", 23, 16, .rw, 0⟩, ⟨"DISCT", 8, 0, .rw, 50⟩]⟩,
  ⟨"SAF_OCFGk", 0x5820, [(1, 16)], true, false, 0xC0000000, [⟨"EN", 31, 31, .rw, 0⟩, ⟨"PAIRED", 30, 30, .rw, 0⟩, ⟨"TPW", 24, 16, .rw, 300⟩, ⟨"TPI", 15, 0, .rw, 1000⟩]⟩,
  ⟨"SAF_FAf", 0x5840, [(8, 16)], true, false, 0x8FFFFF00, [⟨"EN", 31, 31, .rw, 0⟩, ⟨"CWDT", 27, 16, .rw, 0⟩, ⟨"CL", 15, 8, .rw, 0⟩]⟩,
  ⟨"SAF_FBf", 0x5841, [(8, 16)], true, false, 0xFFFFFFFF, [⟨"OUTS", 31, 16, .rw, 0⟩, ⟨"PAIRS", 15, 0, .rw, 0⟩]⟩,
  ⟨"SAF_FCf", 0x5842, [(8, 16)], true, false, 0xFFFFFFFF, [⟨"SLOTSL", 31, 0, .rw, 0⟩]⟩,
  ⟨"SAF_FDf", 0x5843, [(8, 16)], true, false, 0xFFFFFFFF, [⟨"SLOTSH", 31, 0, .rw, 0⟩]⟩,
  ⟨"SAF_FEf", 0x5844, [(8, 16)], true, false, 0, [⟨"DEGT", 12, 0, .rw, 480⟩]⟩,
  ⟨"SAF_TWDs", 0x5900, [(1, 64)], true, false, 0x8000FFFF, [⟨"EN", 31, 31, .rw, 0⟩, ⟨"WDT", 15, 0, .rw, 0⟩]⟩,
  ⟨"SAF_NONDROP", 0x5980, [], false, true, 0, [⟨"COUNT", 31, 0, .ro, 0⟩]⟩]

/-- Registers of block SAF, part 2. -/
def regsSaf1 : List RegDesc := [
  ⟨"SAF_NONWAIT", 0x5981, [], false, true, 0, [⟨"COUNT", 31, 0, .ro, 0⟩]⟩,
  ⟨"SAF_NTPFAIL", 0x5982, [], false, true, 0, [⟨"COUNT", 31, 0, .ro, 0⟩]⟩,
  ⟨"SAF_NDISC", 0x5983, [], false, true, 0, [⟨"COUNT", 31, 0, .ro, 0⟩]⟩,
  ⟨"SAF_NRSTREF", 0x5984, [], false, true, 0, [⟨"COUNT", 31, 0, .ro, 0⟩]⟩,
  ⟨"SAF_NTELSGL", 0x5985, [], false, true, 0, [⟨"COUNT", 31, 0, .ro, 0⟩]⟩,
  ⟨"SAF_NTELDIFF", 0x5986, [], false, true, 0, [⟨"COUNT", 31, 0, .ro, 0⟩]⟩,
  ⟨"SAF_NTELTMO", 0x5987, [], false, true, 0, [⟨"COUNT", 31, 0, .ro, 0⟩]⟩,
  ⟨"SAF_NDEGEXP", 0x5988, [], false, true, 0, [⟨"COUNT", 31, 0, .ro, 0⟩]⟩]

/-- All registers of block SAF. -/
def regsSaf : List RegDesc := regsSaf0 ++ regsSaf1

/-- Registers of block SER, part 1. -/
def regsSer0 : List RegDesc := [
  ⟨"SER_CFGn", 0x5C00, [(16, 4)], true, false, 0xFFFFFFFF, [⟨"EN", 31, 31, .rw, 0⟩, ⟨"MODE", 30, 30, .rw, 0⟩, ⟨"AUTHTX", 29, 29, .rw, 0⟩, ⟨"DB7", 28, 28, .rw, 0⟩, ⟨"PAR", 27, 26, .rw, 0⟩, ⟨"STOP2", 25, 25, .rw, 0⟩, ⟨"DELEN", 24, 24, .rw, 0⟩, ⟨"DELIM", 23, 16, .rw, 0⟩, ⟨"IDLE", 15, 8, .rw, 0⟩, ⟨"TURN", 7, 0, .rw, 0⟩]⟩,
  ⟨"SER_DIVn", 0x5C01, [(16, 4)], true, false, 0x0000FFFF, [⟨"DIV", 15, 0, .rw, 0⟩]⟩,
  ⟨"SER_TXCn", 0x5C02, [(16, 4)], true, false, 0, [⟨"GO", 31, 31, .wo, 0⟩, ⟨"LENM1", 28, 21, .wo, 0⟩, ⟨"ADDR", 20, 0, .wo, 0⟩]⟩,
  ⟨"SER_STATn", 0x5C03, [(16, 4)], false, true, 0, [⟨"TXBUSY", 31, 31, .ro, 0⟩, ⟨"RXBUSY", 30, 30, .ro, 0⟩, ⟨"DRV", 29, 29, .ro, 0⟩, ⟨"QDEPTH", 28, 24, .ro, 0⟩]⟩,
  ⟨"SER_STKn", 0x5C04, [(16, 4)], false, true, 0, [⟨"OFF", 8, 8, .w1c, 0⟩, ⟨"STALE", 7, 7, .w1c, 0⟩, ⟨"NOAUTH", 6, 6, .w1c, 0⟩, ⟨"TXREF", 5, 5, .w1c, 0⟩, ⟨"OVR", 4, 4, .w1c, 0⟩, ⟨"BRK", 3, 3, .w1c, 0⟩, ⟨"PERR", 2, 2, .w1c, 0⟩, ⟨"FERR", 1, 1, .w1c, 0⟩]⟩,
  ⟨"SER_NRXMn", 0x5C05, [(16, 4)], false, true, 0, [⟨"COUNT", 31, 0, .ro, 0⟩]⟩,
  ⟨"SER_NRXDn", 0x5C06, [(16, 4)], false, true, 0, [⟨"COUNT", 31, 0, .ro, 0⟩]⟩,
  ⟨"SER_NRXNRn", 0x5C07, [(16, 4)], false, true, 0, [⟨"COUNT", 31, 0, .ro, 0⟩]⟩,
  ⟨"SER_NRXOVRn", 0x5C08, [(16, 4)], false, true, 0, [⟨"COUNT", 31, 0, .ro, 0⟩]⟩,
  ⟨"SER_NTXPn", 0x5C09, [(16, 4)], false, true, 0, [⟨"COUNT", 31, 0, .ro, 0⟩]⟩,
  ⟨"SER_NTXSENTn", 0x5C0A, [(16, 4)], false, true, 0, [⟨"COUNT", 31, 0, .ro, 0⟩]⟩,
  ⟨"SER_NTXNOAUTHn", 0x5C0B, [(16, 4)], false, true, 0, [⟨"COUNT", 31, 0, .ro, 0⟩]⟩,
  ⟨"SER_NTXSTALEn", 0x5C0C, [(16, 4)], false, true, 0, [⟨"COUNT", 31, 0, .ro, 0⟩]⟩,
  ⟨"SER_NTXREFn", 0x5C0D, [(16, 4)], false, true, 0, [⟨"COUNT", 31, 0, .ro, 0⟩]⟩,
  ⟨"SER_NTXOFFn", 0x5C0E, [(16, 4)], false, true, 0, [⟨"COUNT", 31, 0, .ro, 0⟩]⟩,
  ⟨"SER_NTXPENDn", 0x5C0F, [(16, 4)], false, true, 0, [⟨"COUNT", 31, 0, .ro, 0⟩]⟩]

/-- All registers of block SER. -/
def regsSer : List RegDesc := regsSer0

/-- Registers of block DIO, part 1. -/
def regsDio0 : List RegDesc := [
  ⟨"DIO_INL", 0x6000, [], false, false, 0, [⟨"LEV", 31, 0, .ro, 0⟩]⟩,
  ⟨"DIO_INVL", 0x6001, [], false, false, 0, [⟨"VALID", 31, 0, .ro, 0⟩]⟩,
  ⟨"DIO_ILIVE", 0x6002, [], false, true, 0, [⟨"LEV", 31, 0, .ro, 0⟩]⟩,
  ⟨"DIO_IWB", 0x6003, [], false, true, 0, [⟨"WB", 31, 0, .ro, 0⟩]⟩,
  ⟨"DIO_ISC", 0x6004, [], false, true, 0, [⟨"SC", 31, 0, .ro, 0⟩]⟩,
  ⟨"DIO_VSENSE", 0x6005, [], false, true, 0, [⟨"G1", 31, 16, .ro, 0⟩, ⟨"G0", 15, 0, .ro, 0⟩]⟩,
  ⟨"DIO_NEVLOST", 0x6006, [], false, true, 0, [⟨"COUNT", 31, 0, .ro, 0⟩]⟩,
  ⟨"DIO_NAPLATE", 0x6007, [], false, true, 0, [⟨"COUNT", 31, 0, .ro, 0⟩]⟩,
  ⟨"DIO_NPLOST", 0x6008, [], false, true, 0, [⟨"COUNT", 31, 0, .ro, 0⟩]⟩,
  ⟨"DIO_STK", 0x6009, [], false, true, 0, [⟨"FSLOW_B", 8, 8, .w1c, 0⟩, ⟨"FSLOW_A", 7, 7, .w1c, 0⟩, ⟨"OPEN", 6, 6, .w1c, 0⟩, ⟨"OT", 5, 5, .w1c, 0⟩, ⟨"OVL", 4, 4, .w1c, 0⟩, ⟨"SC", 3, 3, .w1c, 0⟩, ⟨"WB", 2, 2, .w1c, 0⟩, ⟨"SAFEV", 1, 1, .w1c, 0⟩, ⟨"LINK", 0, 0, .w1c, 0⟩]⟩,
  ⟨"DIO_OUT", 0x6010, [], true, false, 0x0000FFFF, [⟨"VAL", 15, 0, .rw, 0⟩]⟩,
  ⟨"DIO_OSTAT", 0x6011, [], false, true, 0, [⟨"RB", 31, 16, .ro, 0⟩, ⟨"DRV", 15, 0, .ro, 0⟩]⟩,
  ⟨"DIO_ORST", 0x6012, [], false, false, 0, [⟨"CLR", 15, 0, .wo, 0⟩]⟩,
  ⟨"DIO_LLT", 0x6013, [], true, false, 0, [⟨"LLT", 13, 0, .rw, 100⟩]⟩,
  ⟨"DIO_FS", 0x6014, [], false, true, 0, [⟨"FSA", 31, 16, .ro, 0⟩, ⟨"FSB", 15, 0, .ro, 0⟩]⟩,
  ⟨"DIO_WBF", 0x6015, [], true, false, 0, [⟨"WBF", 7, 0, .rw, 192⟩]⟩,
  ⟨"DIO_ODIAGk", 0x6020, [(1, 16)], false, true, 0, [⟨"OVL", 31, 31, .ro, 0⟩, ⟨"OT", 30, 30, .ro, 0⟩, ⟨"OPEN", 29, 29, .ro, 0⟩, ⟨"SF", 28, 28, .ro, 0⟩, ⟨"CUR", 5, 0, .ro, 0⟩]⟩,
  ⟨"DIO_LINKg", 0x6030, [(1, 4)], false, true, 0, [⟨"UP", 31, 31, .ro, 0⟩, ⟨"HELD", 30, 30, .ro, 0⟩, ⟨"SAFE", 29, 29, .ro, 0⟩, ⟨"LOSSES", 23, 16, .ro, 0⟩, ⟨"CRCERR", 15, 0, .ro, 0⟩]⟩,
  ⟨"DIO_ICFGn", 0x6040, [(1, 32)], true, false, 0xFFFFFFFF, [⟨"EN", 31, 31, .rw, 0⟩, ⟨"TYPE", 30, 30, .rw, 0⟩, ⟨"WBEN", 29, 29, .rw, 0⟩, ⟨"SCEN", 28, 28, .rw, 0⟩, ⟨"EV", 27, 26, .rw, 0⟩, ⟨"DFILT", 25, 15, .rw, 0⟩, ⟨"RSC", 14, 10, .rw, 0⟩, ⟨"RWB", 9, 0, .rw, 0⟩]⟩,
  ⟨"DIO_OCFGk", 0x6080, [(1, 16)], true, false, 0xF8000000, [⟨"EN", 31, 31, .rw, 0⟩, ⟨"SAFEV", 30, 30, .rw, 0⟩, ⟨"OWEN", 29, 29, .rw, 0⟩, ⟨"PULSE", 28, 28, .rw, 0⟩, ⟨"AUTOR", 27, 27, .rw, 0⟩]⟩]

/-- All registers of block DIO. -/
def regsDio : List RegDesc := regsDio0

/-- Registers of block CLO, part 1. -/
def regsClo0 : List RegDesc := [
  ⟨"CLO_CMDc", 0x6400, [(1, 8)], true, false, 0, [⟨"CMD", 31, 0, .rw, 0⟩]⟩,
  ⟨"CLO_CFGc", 0x6408, [(1, 8)], true, false, 0xF0000000, [⟨"EN", 31, 31, .rw, 0⟩, ⟨"MODE", 30, 30, .rw, 0⟩, ⟨"SAFESEL", 29, 28, .rw, 0⟩]⟩,
  ⟨"CLO_SAFEc", 0x6410, [(1, 8)], true, false, 0xFFFFFFFF, [⟨"SAFE", 31, 0, .rw, 0⟩]⟩,
  ⟨"CLO_RBc", 0x6418, [(1, 8)], false, true, 0, [⟨"RB", 31, 0, .ro, 0⟩]⟩,
  ⟨"CLO_CSTAT", 0x6420, [], false, true, 0, [⟨"SF", 31, 24, .ro, 0⟩, ⟨"CLAMP", 23, 16, .ro, 0⟩, ⟨"OPEN", 15, 8, .ro, 0⟩, ⟨"COMPL", 7, 0, .ro, 0⟩]⟩,
  ⟨"CLO_STK", 0x6421, [], false, true, 0, [⟨"SF", 31, 24, .w1c, 0⟩, ⟨"CLAMP", 23, 16, .w1c, 0⟩, ⟨"OPEN", 15, 8, .w1c, 0⟩, ⟨"COMPL", 7, 0, .w1c, 0⟩]⟩,
  ⟨"CLO_ALM", 0x6422, [], true, false, 0, [⟨"ALMLO", 31, 16, .rw, 360⟩, ⟨"ALMHI", 15, 0, .rw, 2100⟩]⟩,
  ⟨"CLO_LLT", 0x6423, [], true, false, 0, [⟨"LLT", 13, 0, .rw, 100⟩]⟩]

/-- All registers of block CLO. -/
def regsClo : List RegDesc := regsClo0

/-- Registers of block DFC, part 1. -/
def regsDfc0 : List RegDesc := [
  ⟨"DFC_CFGc", 0x6800, [(8, 16)], true, false, 0xFFFFFFFF, [⟨"EN", 31, 31, .rw, 0⟩, ⟨"ALIGN", 30, 30, .rw, 0⟩, ⟨"CKSRC", 29, 29, .rw, 0⟩, ⟨"MSEL", 28, 27, .rw, 0⟩, ⟨"ORDER", 26, 24, .rw, 0⟩, ⟨"CFR", 23, 18, .rw, 0⟩, ⟨"FSH", 17, 14, .rw, 0⟩, ⟨"DCEN", 13, 13, .rw, 0⟩, ⟨"DEC", 12, 0, .rw, 0⟩]⟩,
  ⟨"DFC_DLc", 0x6801, [(8, 16)], true, false, 0, [⟨"FRZ", 31, 31, .rw, 0⟩, ⟨"DCK", 28, 24, .rw, 12⟩, ⟨"DELAY", 11, 0, .rw, 0⟩]⟩,
  ⟨"DFC_MINITc", 0x6802, [(8, 16)], true, false, 0, [⟨"MINIT", 31, 0, .rw, 0⟩]⟩,
  ⟨"DFC_SWAPc", 0x6803, [(8, 16)], true, false, 0, [⟨"GO", 31, 31, .wo, 0⟩, ⟨"ADDR", 20, 0, .wo, 0⟩]⟩,
  ⟨"DFC_OUTc", 0x6804, [(8, 16)], false, true, 0, [⟨"OUT", 31, 0, .ro, 0⟩]⟩,
  ⟨"DFC_STATc", 0x6805, [(8, 16)], false, true, 0, [⟨"VALID", 31, 31, .ro, 0⟩, ⟨"SETTLE", 30, 30, .ro, 0⟩, ⟨"WAITTRG", 29, 29, .ro, 0⟩, ⟨"PEND", 28, 28, .ro, 0⟩]⟩,
  ⟨"DFC_STKc", 0x6806, [(8, 16)], false, true, 0, [⟨"SWPLOST", 4, 4, .w1c, 0⟩, ⟨"SWPREF", 3, 3, .w1c, 0⟩, ⟨"CLKLOSS", 2, 2, .w1c, 0⟩, ⟨"STUCK", 1, 1, .w1c, 0⟩, ⟨"SAT", 0, 0, .w1c, 0⟩]⟩,
  ⟨"DFC_CNTc", 0x6807, [(8, 16)], false, true, 0, [⟨"NSUPP", 31, 16, .ro, 0⟩, ⟨"NOUT", 15, 0, .ro, 0⟩]⟩,
  ⟨"DFC_MCLK", 0x6880, [], true, false, 0, [⟨"EN0", 3, 3, .rw, 0⟩, ⟨"EN1", 7, 7, .rw, 0⟩, ⟨"EN2", 11, 11, .rw, 0⟩, ⟨"EN3", 15, 15, .rw, 0⟩, ⟨"DIV0M1", 1, 0, .rw, 0⟩, ⟨"DIV1M1", 5, 4, .rw, 0⟩, ⟨"DIV2M1", 9, 8, .rw, 0⟩, ⟨"DIV3M1", 13, 12, .rw, 0⟩]⟩,
  ⟨"DFC_MPCFG", 0x6884, [], true, false, 0xC000000F, [⟨"EN", 31, 31, .rw, 0⟩, ⟨"F60", 30, 30, .rw, 0⟩, ⟨"MPCH", 3, 0, .rw, 0⟩]⟩,
  ⟨"DFC_MPK", 0x6885, [], true, false, 0xFFFFFFFF, [⟨"KP", 31, 16, .rw, 0⟩, ⟨"KI", 15, 0, .rw, 0⟩]⟩,
  ⟨"DFC_MPAMIN", 0x6886, [], true, false, 0xFFFFFFFF, [⟨"MPAMIN", 31, 0, .rw, 0⟩]⟩,
  ⟨"DFC_MPPH", 0x6888, [], false, true, 0, [⟨"VALUE", 31, 0, .ro, 0⟩]⟩,
  ⟨"DFC_MPRATE", 0x6889, [], false, true, 0, [⟨"VALUE", 31, 0, .ro, 0⟩]⟩,
  ⟨"DFC_MPAMP", 0x688A, [], false, true, 0, [⟨"VALUE", 31, 0, .ro, 0⟩]⟩,
  ⟨"DFC_MPSTAT", 0x688B, [], false, true, 0, [⟨"MPVALID", 31, 31, .ro, 0⟩]⟩]

/-- All registers of block DFC. -/
def regsDfc : List RegDesc := regsDfc0

/-- Registers of block ENC, part 1. -/
def regsEnc0 : List RegDesc := [
  ⟨"ENC_CFGe", 0x6C00, [(16, 8)], true, false, 0xFFFFFFFF, [⟨"EN", 31, 31, .rw, 0⟩, ⟨"MODE", 30, 30, .rw, 0⟩, ⟨"ZEN", 29, 29, .rw, 0⟩, ⟨"GRAY", 28, 28, .rw, 0⟩, ⟨"PAR", 27, 27, .rw, 0⟩, ⟨"DIR", 26, 26, .rw, 0⟩, ⟨"BITSM1", 25, 21, .rw, 0⟩, ⟨"STBM1", 20, 16, .rw, 0⟩, ⟨"NF", 15, 12, .rw, 0⟩, ⟨"VN", 11, 8, .rw, 0⟩, ⟨"SCLK", 7, 0, .rw, 0⟩]⟩,
  ⟨"ENC_CPRe", 0x6C01, [(16, 8)], true, false, 0xFFFFFFFF, [⟨"CPR", 31, 0, .rw, 0⟩]⟩,
  ⟨"ENC_ZOFSe", 0x6C02, [(16, 8)], true, false, 0xFFFFFFFF, [⟨"ZOFS", 31, 0, .rw, 0⟩]⟩,
  ⟨"ENC_SMPe", 0x6C03, [(16, 8)], true, false, 0x800FFFFF, [⟨"TRG", 31, 31, .rw, 0⟩, ⟨"ESPER", 19, 0, .rw, 0⟩]⟩,
  ⟨"ENC_ZTOLe", 0x6C04, [(16, 8)], true, false, 0x0000FFFF, [⟨"ZTOL", 15, 0, .rw, 0⟩]⟩,
  ⟨"ENC_POSe", 0x6C05, [(16, 8)], false, true, 0, [⟨"VALUE", 31, 0, .ro, 0⟩]⟩,
  ⟨"ENC_VELe", 0x6C06, [(16, 8)], false, true, 0, [⟨"VALUE", 31, 0, .ro, 0⟩]⟩,
  ⟨"ENC_CNTe", 0x6C07, [(16, 8)], false, true, 0, [⟨"CNT", 31, 0, .ro, 0⟩]⟩,
  ⟨"ENC_STATe", 0x6C08, [(16, 8)], false, true, 0, [⟨"VALID", 31, 31, .ro, 0⟩, ⟨"HOMED", 30, 30, .ro, 0⟩]⟩,
  ⟨"ENC_STKe", 0x6C09, [(16, 8)], false, true, 0, [⟨"HOMELOST", 5, 5, .w1c, 0⟩, ⟨"OVRN", 4, 4, .w1c, 0⟩, ⟨"PARERR", 3, 3, .w1c, 0⟩, ⟨"ZERR", 2, 2, .w1c, 0⟩, ⟨"QERR", 1, 1, .w1c, 0⟩, ⟨"LINE", 0, 0, .w1c, 0⟩]⟩,
  ⟨"ENC_HOMEe", 0x6C0A, [(16, 8)], false, false, 0, [⟨"CLR", 0, 0, .wo, 0⟩]⟩,
  ⟨"ENC_NERRe", 0x6C0B, [(16, 8)], false, true, 0, [⟨"NQERR", 31, 16, .ro, 0⟩, ⟨"NZERR", 15, 0, .ro, 0⟩]⟩]

/-- All registers of block ENC. -/
def regsEnc : List RegDesc := regsEnc0

/-- Registers of block CFD, part 1. -/
def regsCfd0 : List RegDesc := [
  ⟨"CFD_CTLn", 0x7000, [(512, 6)], true, false, 0xFF800000, [⟨"EN", 31, 31, .rw, 0⟩, ⟨"MODE", 30, 28, .rw, 0⟩, ⟨"FDEN", 27, 27, .rw, 0⟩, ⟨"AUTHTX", 26, 26, .rw, 0⟩, ⟨"ABOR", 25, 25, .rw, 0⟩, ⟨"RTE", 24, 24, .rw, 0⟩, ⟨"ACCNM", 23, 23, .rw, 0⟩]⟩,
  ⟨"CFD_NBTn", 0x7001, [(512, 6)], true, false, 0xFFFFFF7F, [⟨"NBRPM1", 31, 23, .rw, 0⟩, ⟨"NSJWM1", 22, 16, .rw, 0⟩, ⟨"NTSEG1M1", 15, 8, .rw, 0⟩, ⟨"NTSEG2M1", 6, 0, .rw, 0⟩]⟩,
  ⟨"CFD_DBTn", 0x7002, [(512, 6)], true, false, 0xFF9F000F, [⟨"DBRPM1", 31, 27, .rw, 0⟩, ⟨"DSJWM1", 26, 23, .rw, 0⟩, ⟨"DTSEG1M1", 20, 16, .rw, 0⟩, ⟨"DTSEG2M1", 3, 0, .rw, 0⟩]⟩,
  ⟨"CFD_TDCn", 0x7003, [(512, 6)], true, false, 0x800000FF, [⟨"TDCEN", 31, 31, .rw, 0⟩, ⟨"TDCO", 7, 0, .rw, 0⟩]⟩,
  ⟨"CFD_STATn", 0x7004, [(512, 6)], false, true, 0, [⟨"BSTATE", 31, 30, .ro, 0⟩, ⟨"EMODE", 28, 26, .ro, 0⟩, ⟨"TDCV", 23, 16, .ro, 0⟩, ⟨"REC", 15, 8, .ro, 0⟩, ⟨"TEC", 7, 0, .ro, 0⟩]⟩,
  ⟨"CFD_STKn", 0x7005, [(512, 6)], false, true, 0, [⟨"CPLOST", 6, 6, .w1c, 0⟩, ⟨"CANCNM", 5, 5, .w1c, 0⟩, ⟨"IDCOLL", 4, 4, .w1c, 0⟩, ⟨"OVF", 3, 3, .w1c, 0⟩, ⟨"EPASS", 2, 2, .w1c, 0⟩, ⟨"BUSOFF", 1, 1, .w1c, 0⟩, ⟨"FMT", 0, 0, .w1c, 0⟩]⟩,
  ⟨"CFD_RECOVn", 0x7006, [(512, 6)], false, false, 0, [⟨"GO", 0, 0, .wo, 0⟩]⟩,
  ⟨"CFD_CANCELn", 0x7007, [(512, 6)], false, false, 0, [⟨"ALL", 16, 16, .wo, 0⟩, ⟨"TAG", 15, 0, .wo, 0⟩]⟩,
  ⟨"CFD_TXQn,k", 0x7008, [(512, 6), (1, 4)], true, false, 0xFFFFFFFF, [⟨"QUOTA3", 31, 24, .rw, 0⟩, ⟨"QUOTA2", 23, 16, .rw, 0⟩, ⟨"QUOTA1", 15, 8, .rw, 0⟩, ⟨"QUOTA0", 7, 0, .rw, 0⟩]⟩,
  ⟨"CFD_TXCRn", 0x7010, [(512, 6)], true, false, 0xFFFFFFFF, [⟨"BANK", 31, 26, .rw, 0⟩, ⟨"BASE", 25, 13, .rw, 0⟩, ⟨"LEN", 12, 0, .rw, 0⟩]⟩,
  ⟨"CFD_TXCSTn", 0x7011, [(512, 6)], false, true, 0, [⟨"UNACK", 23, 13, .ro, 0⟩, ⟨"RPTR", 12, 0, .ro, 0⟩]⟩,
  ⟨"CFD_TXCACKn", 0x7012, [(512, 6)], false, false, 0, [⟨"COUNT", 10, 0, .wo, 0⟩]⟩,
  ⟨"CFD_RXSTATn", 0x7013, [(512, 6)], false, true, 0, [⟨"UNACK", 7, 0, .ro, 0⟩]⟩,
  ⟨"CFD_RXACKn", 0x7014, [(512, 6)], false, false, 0, [⟨"COUNT", 7, 0, .wo, 0⟩]⟩,
  ⟨"CFD_HPSTATn", 0x7015, [(512, 6)], false, true, 0, [⟨"FULL", 7, 0, .ro, 0⟩]⟩,
  ⟨"CFD_HPACKn", 0x7016, [(512, 6)], false, false, 0, [⟨"ACK", 7, 0, .wo, 0⟩]⟩,
  ⟨"CFD_TXCWn", 0x7017, [(512, 6)], false, true, 0, [⟨"WAIT", 8, 0, .ro, 0⟩]⟩,
  ⟨"CFD_NTXQn", 0x7020, [(512, 6)], false, true, 0, [⟨"COUNT", 31, 0, .ro, 0⟩]⟩,
  ⟨"CFD_NTXCn", 0x7021, [(512, 6)], false, true, 0, [⟨"COUNT", 31, 0, .ro, 0⟩]⟩,
  ⟨"CFD_NTXPn", 0x7022, [(512, 6)], false, true, 0, [⟨"COUNT", 31, 0, .ro, 0⟩]⟩]

/-- Registers of block CFD, part 2. -/
def regsCfd1 : List RegDesc := [
  ⟨"CFD_NTXLOSTCn", 0x7023, [(512, 6)], false, true, 0, [⟨"COUNT", 31, 0, .ro, 0⟩]⟩,
  ⟨"CFD_NRXn", 0x7024, [(512, 6)], false, true, 0, [⟨"COUNT", 31, 0, .ro, 0⟩]⟩,
  ⟨"CFD_NRXWn", 0x7025, [(512, 6)], false, true, 0, [⟨"COUNT", 31, 0, .ro, 0⟩]⟩,
  ⟨"CFD_NRXLOSTn", 0x7026, [(512, 6)], false, true, 0, [⟨"COUNT", 31, 0, .ro, 0⟩]⟩,
  ⟨"CFD_NRXREJn", 0x7027, [(512, 6)], false, true, 0, [⟨"COUNT", 31, 0, .ro, 0⟩]⟩,
  ⟨"CFD_NHPDIVn", 0x7028, [(512, 6)], false, true, 0, [⟨"COUNT", 31, 0, .ro, 0⟩]⟩,
  ⟨"CFD_NSTn,s", 0x7030, [(512, 6), (1, 10)], false, true, 0, [⟨"COUNT", 31, 0, .ro, 0⟩]⟩,
  ⟨"CFD_RXWn,w", 0x7040, [(512, 6), (1, 20)], false, true, 0, [⟨"VALUE", 31, 0, .ro, 0⟩]⟩,
  ⟨"CFD_FIDn,f", 0x7060, [(512, 6), (2, 32)], true, false, 0xDFFFFFFF, [⟨"EN", 31, 31, .rw, 0⟩, ⟨"IDE", 30, 30, .rw, 0⟩, ⟨"FID", 28, 0, .rw, 0⟩]⟩,
  ⟨"CFD_FMSKn,f", 0x7061, [(512, 6), (2, 32)], true, false, 0xDFFFFFFF, [⟨"ACT", 31, 30, .rw, 0⟩, ⟨"MASK", 28, 0, .rw, 0⟩]⟩,
  ⟨"CFD_HPBn,b,w", 0x7100, [(512, 6), (20, 8), (1, 20)], false, true, 0, [⟨"VALUE", 31, 0, .ro, 0⟩]⟩]

/-- All registers of block CFD. -/
def regsCfd : List RegDesc := regsCfd0 ++ regsCfd1

/-- Registers of block ETH, part 1. -/
def regsEth0 : List RegDesc := [
  ⟨"ETH_PCFGp", 0x7C00, [(16, 4)], true, false, 0xFE000FFF, [⟨"EN", 31, 31, .rw, 0⟩, ⟨"SPD", 30, 29, .rw, 0⟩, ⟨"TAGEN", 28, 28, .rw, 0⟩, ⟨"PCP", 27, 25, .rw, 0⟩, ⟨"VID", 11, 0, .rw, 0⟩]⟩,
  ⟨"ETH_PSTATp", 0x7C01, [(16, 4)], false, true, 0, [⟨"LINK", 31, 31, .ro, 0⟩, ⟨"SPEED", 30, 29, .ro, 0⟩]⟩,
  ⟨"ETH_NRXp", 0x7C02, [(16, 4)], false, true, 0, [⟨"COUNT", 31, 0, .ro, 0⟩]⟩,
  ⟨"ETH_NTXp", 0x7C03, [(16, 4)], false, true, 0, [⟨"COUNT", 31, 0, .ro, 0⟩]⟩,
  ⟨"ETH_NFCSp", 0x7C04, [(16, 4)], false, true, 0, [⟨"COUNT", 31, 0, .ro, 0⟩]⟩,
  ⟨"ETH_NSIZEp", 0x7C05, [(16, 4)], false, true, 0, [⟨"COUNT", 31, 0, .ro, 0⟩]⟩,
  ⟨"ETH_TWFp", 0x7C06, [(16, 4)], false, true, 0, [⟨"COUNT", 31, 0, .ro, 0⟩]⟩,
  ⟨"ETH_NNOSLOTp", 0x7C07, [(16, 4)], false, true, 0, [⟨"COUNT", 31, 0, .ro, 0⟩]⟩,
  ⟨"ETH_NNOFLTp", 0x7C08, [(16, 4)], false, true, 0, [⟨"COUNT", 31, 0, .ro, 0⟩]⟩,
  ⟨"ETH_NLINKp", 0x7C09, [(16, 4)], false, true, 0, [⟨"COUNT", 31, 0, .ro, 0⟩]⟩,
  ⟨"ETH_NBADTWp", 0x7C0A, [(16, 4)], false, true, 0, [⟨"COUNT", 31, 0, .ro, 0⟩]⟩,
  ⟨"ETH_NTXLDp", 0x7C0B, [(16, 4)], false, true, 0, [⟨"COUNT", 31, 0, .ro, 0⟩]⟩,
  ⟨"ETH_STK", 0x7C40, [], false, true, 0, [⟨"DUPADDR", 4, 4, .w1c, 0⟩, ⟨"RESYNC", 3, 3, .w1c, 0⟩, ⟨"LANDIFF", 2, 2, .w1c, 0⟩, ⟨"DISCR", 1, 1, .w1c, 0⟩, ⟨"LINKDN", 0, 0, .w1c, 0⟩]⟩,
  ⟨"ETH_QNRq", 0x7C50, [(1, 32)], false, true, 0, [⟨"COUNT", 31, 0, .ro, 0⟩]⟩,
  ⟨"ETH_FLTAf", 0x7C80, [(2, 64)], true, false, 0xFE1FFFFF, [⟨"EN", 31, 31, .rw, 0⟩, ⟨"PORTS", 30, 27, .rw, 0⟩, ⟨"KIND", 26, 25, .rw, 0⟩, ⟨"QUEUE", 20, 16, .rw, 0⟩, ⟨"VALUE", 15, 0, .rw, 0⟩]⟩,
  ⟨"ETH_FLTBf", 0x7C81, [(2, 64)], true, false, 0xFFFFFFFF, [⟨"MACH", 31, 0, .rw, 0⟩]⟩,
  ⟨"ETH_RSCFGs", 0x7D00, [(12, 64)], true, false, 0xFFFFFF00, [⟨"EN", 31, 31, .rw, 0⟩, ⟨"SAFE", 30, 30, .rw, 0⟩, ⟨"QEN", 29, 29, .rw, 0⟩, ⟨"QUEUE", 28, 24, .rw, 0⟩, ⟨"SRCA", 23, 16, .rw, 0⟩, ⟨"SRCB", 15, 8, .rw, 0⟩]⟩,
  ⟨"ETH_RSSTRs", 0x7D01, [(12, 64)], true, false, 0x0000FFFF, [⟨"STREAM", 15, 0, .rw, 0⟩]⟩,
  ⟨"ETH_RSSTATs", 0x7D02, [(12, 64)], false, true, 0, [⟨"DEGR", 31, 31, .ro, 0⟩, ⟨"NRESYNC", 23, 16, .ro, 0⟩, ⟨"LEN", 10, 0, .ro, 0⟩]⟩,
  ⟨"ETH_FIRSTs", 0x7D03, [(12, 64)], false, true, 0, [⟨"SEQ", 31, 0, .ro, 0⟩]⟩]

/-- Registers of block ETH, part 2. -/
def regsEth1 : List RegDesc := [
  ⟨"ETH_LASTs", 0x7D04, [(12, 64)], false, true, 0, [⟨"SEQ", 31, 0, .ro, 4294967295⟩]⟩,
  ⟨"ETH_NDELs", 0x7D05, [(12, 64)], false, true, 0, [⟨"COUNT", 31, 0, .ro, 0⟩]⟩,
  ⟨"ETH_NMISSs", 0x7D06, [(12, 64)], false, true, 0, [⟨"COUNT", 31, 0, .ro, 0⟩]⟩,
  ⟨"ETH_NLATEs", 0x7D07, [(12, 64)], false, true, 0, [⟨"COUNT", 31, 0, .ro, 0⟩]⟩,
  ⟨"ETH_NDUPs", 0x7D08, [(12, 64)], false, true, 0, [⟨"COUNT", 31, 0, .ro, 0⟩]⟩,
  ⟨"ETH_NDISCs", 0x7D09, [(12, 64)], false, true, 0, [⟨"COUNT", 31, 0, .ro, 0⟩]⟩,
  ⟨"ETH_NSGLs", 0x7D0A, [(12, 64)], false, true, 0, [⟨"COUNT", 31, 0, .ro, 0⟩]⟩,
  ⟨"ETH_NBADs", 0x7D0B, [(12, 64)], false, true, 0, [⟨"NLANDIFF", 31, 16, .ro, 0⟩, ⟨"NFLAG", 15, 0, .ro, 0⟩]⟩]

/-- All registers of block ETH. -/
def regsEth : List RegDesc := regsEth0 ++ regsEth1

/-- Registers of block EVR, part 1. -/
def regsEvr0 : List RegDesc := [
  ⟨"EVR_HEAD", 0x8000, [], false, true, 0, [⟨"HEADL", 31, 0, .ro, 0⟩]⟩,
  ⟨"EVR_HEADH", 0x8001, [], false, true, 0, [⟨"HEADH", 15, 0, .ro, 0⟩]⟩,
  ⟨"EVR_PFIRSTL", 0x8002, [], false, true, 0, [⟨"C", 31, 0, .ro, 0⟩]⟩,
  ⟨"EVR_PFIRSTH", 0x8003, [], false, true, 0, [⟨"C", 15, 0, .ro, 0⟩]⟩,
  ⟨"EVR_OPT", 0x8004, [], false, true, 0, [⟨"OPTIME", 31, 0, .ro, 0⟩]⟩,
  ⟨"EVR_PCC", 0x8005, [], false, true, 0, [⟨"PCC", 23, 0, .ro, 0⟩]⟩,
  ⟨"EVR_STK", 0x8006, [], false, true, 0, [⟨"STOREF", 3, 3, .w1c, 0⟩, ⟨"GAP", 2, 2, .w1c, 0⟩, ⟨"FRZMISS", 1, 1, .w1c, 0⟩, ⟨"INLOST", 0, 0, .w1c, 0⟩]⟩,
  ⟨"EVR_CUR", 0x8008, [], false, true, 0, [⟨"RDY", 31, 31, .ro, 1⟩, ⟨"AREA", 30, 28, .rw, 0⟩, ⟨"COUNT", 27, 23, .rw, 1⟩, ⟨"SEQH", 15, 0, .rw, 0⟩]⟩,
  ⟨"EVR_CURL", 0x8009, [], false, false, 0, [⟨"START", 31, 0, .rw, 0⟩]⟩,
  ⟨"EVR_WSTAT", 0x800A, [], false, true, 0, [⟨"BADCRC", 31, 16, .ro, 0⟩, ⟨"VALID", 15, 0, .ro, 0⟩]⟩,
  ⟨"EVR_DSEL", 0x800B, [], false, false, 0, [⟨"CODE", 15, 0, .wo, 0⟩]⟩,
  ⟨"EVR_FCFG", 0x800C, [], true, false, 0, [⟨"PRE", 9, 0, .rw, 768⟩]⟩,
  ⟨"EVR_FREL", 0x800D, [], false, false, 0, [⟨"REL", 3, 0, .wo, 0⟩]⟩,
  ⟨"EVR_FTRIGk", 0x8010, [(1, 16)], true, false, 0xFFFFFFFF, [⟨"MASK", 31, 16, .rw, 0⟩, ⟨"TCODE", 15, 0, .rw, 0⟩]⟩,
  ⟨"EVR_FSTk", 0x8020, [(2, 4)], false, true, 0, [⟨"STATE", 31, 30, .ro, 0⟩, ⟨"TSEQH", 15, 0, .ro, 0⟩]⟩,
  ⟨"EVR_FSTLk", 0x8021, [(2, 4)], false, true, 0, [⟨"TSEQL", 31, 0, .ro, 0⟩]⟩,
  ⟨"EVR_FSNAPj", 0x8030, [(1, 32)], true, false, 0x8000FFFF, [⟨"EN", 31, 31, .rw, 0⟩, ⟨"PORT", 15, 0, .rw, 0⟩]⟩,
  ⟨"EVR_DNAMEw", 0x8050, [(1, 8)], false, true, 0, [⟨"CHARS", 31, 0, .ro, 0⟩]⟩,
  ⟨"EVR_NACC", 0x8060, [], false, true, 0, [⟨"COUNT", 31, 0, .ro, 0⟩]⟩,
  ⟨"EVR_NWR", 0x8061, [], false, true, 0, [⟨"COUNT", 31, 0, .ro, 0⟩]⟩]

/-- Registers of block EVR, part 2. -/
def regsEvr1 : List RegDesc := [
  ⟨"EVR_NLOST", 0x8062, [], false, true, 0, [⟨"COUNT", 31, 0, .ro, 0⟩]⟩,
  ⟨"EVR_NPEND", 0x8063, [], false, true, 0, [⟨"COUNT", 31, 0, .ro, 0⟩]⟩,
  ⟨"EVR_NINLOST", 0x8064, [], false, true, 0, [⟨"COUNT", 31, 0, .ro, 0⟩]⟩,
  ⟨"EVR_NFRZMISS", 0x8065, [], false, true, 0, [⟨"COUNT", 31, 0, .ro, 0⟩]⟩,
  ⟨"EVR_DFLDw", 0x8070, [(1, 24)], false, true, 0, [⟨"CHARS", 31, 0, .ro, 0⟩]⟩,
  ⟨"EVR_WINi,w", 0x8100, [(16, 16), (1, 16)], false, true, 0, [⟨"VALUE", 31, 0, .ro, 0⟩]⟩,
  ⟨"EVR_FVALk,j", 0x8200, [(32, 4), (1, 32)], false, true, 0, [⟨"VALUE", 31, 0, .ro, 0⟩]⟩]

/-- All registers of block EVR. -/
def regsEvr : List RegDesc := regsEvr0 ++ regsEvr1

/-- Registers of block SEC, part 1. -/
def regsSec0 : List RegDesc := [
  ⟨"SEC_KEYk", 0x8400, [(1, 4)], false, true, 0, [⟨"EN", 31, 31, .ro, 0⟩, ⟨"FPR", 15, 0, .ro, 0⟩]⟩]

/-- All registers of block SEC. -/
def regsSec : List RegDesc := regsSec0

/-- R30: the register families of the block whose range holds port `a`. -/
def regsAt (a : Nat) : List RegDesc :=
  if a < 0x400 then regsSys
  else if a < 0x800 then regsPwr
  else if a < 0xC00 then regsMbk
  else if a < 0x1000 then regsSch
  else if a < 0x1400 then regsCle
  else if a < 0x1800 then regsSol
  else if a < 0x1C00 then regsOpt
  else if a < 0x2000 then []
  else if a < 0x4000 then regsLpe
  else if a < 0x4800 then regsFus
  else if a < 0x5000 then regsGnb
  else if a < 0x5400 then regsTmb
  else if a < 0x5800 then regsBtl
  else if a < 0x5C00 then regsSaf
  else if a < 0x6000 then regsSer
  else if a < 0x6400 then regsDio
  else if a < 0x6800 then regsClo
  else if a < 0x6C00 then regsDfc
  else if a < 0x7000 then regsEnc
  else if a < 0x7C00 then regsCfd
  else if a < 0x8000 then regsEth
  else if a < 0x8400 then regsEvr
  else if a < 0x8800 then regsSec
  else []

/-- The indices of a port offset under a family's strides, outermost first. -/
def dimIndices : List (Nat × Nat) → Nat → Option (List Nat)
  | [], off => if off = 0 then some [] else none
  | (st, n) :: t, off =>
    if off / st < n then (dimIndices t (off % st)).map (fun l => (off / st) :: l) else none

/-- Whether port `a` is a register of this family. -/
def RegDesc.covers (d : RegDesc) (a : Nat) : Bool :=
  decide (d.base ≤ a) && (dimIndices d.dims (a - d.base)).isSome

/-- The register at port `a`; none where no block decodes it (R11). -/
def regDesc (a : Nat) : Option RegDesc := (regsAt a).find? (fun d => d.covers a)

/-- The value of a register whose fields hold these values. -/
def fieldsWord (fs : List RegField) (f : RegField → Nat) : Word :=
  wd (fs.foldl (fun acc x => acc + (f x % 2 ^ (x.hi + 1 - x.lo)) * 2 ^ x.lo) 0)

/-- R9: the word a register holds after a reset of its block. -/
def resetWord (a : Nat) : Word :=
  match regDesc a with
  | some d => fieldsWord d.fields (fun f => f.rst)
  | none => 0

/-- R581: the register at port `a` is of class V. -/
def classV (a : Nat) : Bool := ((regDesc a).map RegDesc.live).getD false

/-- Whether the register at port `a` is staged (R32). -/
def isStaged (a : Nat) : Bool := ((regDesc a).map RegDesc.staged).getD false

/-- The access codes' table: the word a register holds after `v` is written to it. RW fields take the value,
W1C fields lose the bits written as 1, RO, WO and reserved fields stay. -/
def writeFields (fs : List RegField) (old v : Word) : Word :=
  wd (fs.foldl (fun acc f =>
    let o := fld old f.hi f.lo
    let n := fld v f.hi f.lo
    let x := match f.acc with
      | .rw => n
      | .w1c => o &&& (n ^^^ (2 ^ (f.hi + 1 - f.lo) - 1))
      | .ro => o
      | .wo => 0
    acc + x * 2 ^ f.lo) 0)

/-- The W1C fields of a register, as a mask. -/
def RegDesc.w1c (d : RegDesc) : Word := fieldsWord d.fields (fun f => if f.acc = .w1c then 2 ^ (f.hi + 1 - f.lo) - 1 else 0)

/-- The word with only its RW fields kept (what a commit may place in force). -/
def rwPart (fs : List RegField) (v : Word) : Word :=
  fieldsWord fs (fun f => if f.acc = .rw then fld v f.hi f.lo else 0)

end Sys2Proof.Machine
end

