-- ==== Sys2Proof/Machine/Types.lean ====
section
/-! DEFINITION. Machine/Types.lean: the parts of the unit's state, block by block, as plain data. Every numbered
family (engines, clauses, slots, channels) is a sparse table; an element that is not listed stands for the
family's initial element, whose fields have the default values given here. -/
namespace Sys2Proof.Machine

/-- The records of the unit, by the names the manual gives them (R523, R588). -/
inductive RecName where
  | cpOverflow
  | cpConflict
  | clockLoss
  | aonClock
  | strapChange
  | portTimeout
  | avsLimit
  | avsLimitEnd
  | bankParity
  | dramUe
  | dmaLate
  | axisJump
  | axisLoss
  | axisRestore
  | groupStall
  | groupResume
  | placeMigrate
  | clauseStarved
  | clauseOverrun
  | clauseBudget
  | lockstepDiverge
  | lockstepFail
  | illInstr
  | imemUe
  | gnbClock
  | ethClock
  | dfcClock
  | evrStart
  | evrClear
  | evrClearRefused
  | evrGap
  | evrIntakeLost
  | evrFreeze
  | evrStoreFail
  | evrUtcChange
  | timeStep
  | timeSource
  | holdover
  | holdoverEnd
  | timeFree
  | ppsOmit
  | solRefused
  | solRange
  | solRangeEnd
  | solTileFault
  | solTileOff
  | optRefused
  | optDegraded
  | optDegradedEnd
  | loopSkip
  | loopSwapRefused
  | loopSafe
  | loopRearm
  | loopFault
  | laneFault
  | fusTimeSlip
  | fusImuFault
  | fusImuRestore
  | fusAbort
  | fusPosUncertain
  | fusPosRestore
  | fusRefConflict
  | fusLoadRefused
  | ethResync
  | addrDuplicate
  | safDisc
  | safFault
  | safTpFail
  | safDegraded
  | safSafestate
  | safAck
  | safTelTimeout
  | fioLinkLoss
  | fioLinkRestore
  | fioSafeValues
  | dioWirebreak
  | dioShort
  | dioOutFault
  | fioFsLow
  | cloOpen
  | cloCompliance
  | cloLoopOk
  | pairPeerFail
  | pairPathLoss
  | pairLaneDown
  | pairPathRestore
  | pairEqLimit
  | pairDualAuth
  | pairAlone
  | pairUnhealthyHold
  | pairMirrorTxDrop
  | pairMirrorDiscard
  | pairSeqSet
  | pairDiverge
  | pairTakeoverUnsync
  | pairNoAuthority
  | pairTakeover
  | pairHandover
  | pairHandoverFail
  | pairRevert
  | pairTxnCommit
  | pairTxnAbort
  | pairTxnUncertain
  | pairSelConflict
  | soloController
  | gnbAntOk
  | gnbAntOpen
  | gnbAntShort
  | gnbAntLatch
  | gnbInterference
  | gnbInterferenceEnd
  | dfcFault
  | dfcSwapRefused
  | encFault
  | encZerr
  | serRxError
  | serTxFail
  | canBusoff
  | canBusoffEnd
  | canIdCollision
  | canTxcLost
  | canTxcResume
  | canRxOverflow
  | resetHeld
  | reset
  | macroFail
  | imageFormat
  | imageIssue
  | imageSig
  | imagePlace
  | imageFallback
  | noImage
  | imageLoaded
  | addrTaken
  | chainBreak
  | noAddress
  | addrChange
  | btnReset
  | btnStuck
  | svcLevel
  | svcRefused
  | pairImageDiff
  | feedLow
  | feedOk
  | tempHigh
  | tempHighEnd
  | envRange
  | envRangeEnd
deriving DecidableEq, Repr

/-- R523: the block number of a record, its port base divided by 16#400. -/
def recBlock : RecName → Nat
  | .cpOverflow | .cpConflict | .clockLoss | .aonClock | .strapChange | .addrDuplicate | .soloController | .resetHeld | .reset | .macroFail | .imageFormat | .imageIssue | .imageSig | .imagePlace | .imageFallback | .noImage | .imageLoaded | .addrTaken | .chainBreak | .noAddress | .addrChange | .btnReset | .btnStuck | .pairImageDiff | .feedLow | .feedOk | .tempHigh | .tempHighEnd | .envRange | .envRangeEnd => 0
  | .avsLimit | .avsLimitEnd => 1
  | .bankParity | .dramUe | .dmaLate => 2
  | .axisJump | .axisLoss | .axisRestore | .groupStall | .groupResume | .placeMigrate | .clauseStarved => 3
  | .portTimeout | .clauseOverrun | .clauseBudget | .lockstepDiverge | .lockstepFail | .illInstr | .imemUe => 4
  | .solRefused | .solRange | .solRangeEnd | .solTileFault | .solTileOff => 5
  | .optRefused | .optDegraded | .optDegradedEnd => 6
  | .loopSkip | .loopSwapRefused | .loopSafe | .loopRearm | .loopFault | .laneFault => 8
  | .fusTimeSlip | .fusImuFault | .fusImuRestore | .fusAbort | .fusPosUncertain | .fusPosRestore | .fusRefConflict | .fusLoadRefused => 16
  | .gnbClock | .gnbAntOk | .gnbAntOpen | .gnbAntShort | .gnbAntLatch | .gnbInterference | .gnbInterferenceEnd => 18
  | .timeStep | .timeSource | .holdover | .holdoverEnd | .timeFree | .ppsOmit => 20
  | .pairPeerFail | .pairPathLoss | .pairLaneDown | .pairPathRestore | .pairEqLimit | .pairDualAuth | .pairAlone | .pairUnhealthyHold | .pairMirrorTxDrop | .pairMirrorDiscard | .pairSeqSet | .pairDiverge | .pairTakeoverUnsync | .pairNoAuthority | .pairTakeover | .pairHandover | .pairHandoverFail | .pairRevert | .pairTxnCommit | .pairTxnAbort | .pairTxnUncertain | .pairSelConflict => 21
  | .safDisc | .safFault | .safTpFail | .safDegraded | .safSafestate | .safAck | .safTelTimeout => 22
  | .serRxError | .serTxFail => 23
  | .fioLinkLoss | .fioLinkRestore | .fioSafeValues | .dioWirebreak | .dioShort | .dioOutFault | .fioFsLow => 24
  | .cloOpen | .cloCompliance | .cloLoopOk => 25
  | .dfcClock | .dfcFault | .dfcSwapRefused => 26
  | .encFault | .encZerr => 27
  | .canBusoff | .canBusoffEnd | .canIdCollision | .canTxcLost | .canTxcResume | .canRxOverflow => 28
  | .ethClock | .ethResync => 31
  | .evrStart | .evrClear | .evrClearRefused | .evrGap | .evrIntakeLost | .evrFreeze | .evrStoreFail | .evrUtcChange => 32
  | .svcLevel | .svcRefused => 33

/-- R523: the name of a record, as the dictionary gives it. -/
def recText : RecName → String
  | .cpOverflow => "CP_OVERFLOW"
  | .cpConflict => "CP_CONFLICT"
  | .clockLoss => "CLOCK_LOSS"
  | .aonClock => "AON_CLOCK"
  | .strapChange => "STRAP_CHANGE"
  | .portTimeout => "PORT_TIMEOUT"
  | .avsLimit => "AVS_LIMIT"
  | .avsLimitEnd => "AVS_LIMIT_END"
  | .bankParity => "BANK_PARITY"
  | .dramUe => "DRAM_UE"
  | .dmaLate => "DMA_LATE"
  | .axisJump => "AXIS_JUMP"
  | .axisLoss => "AXIS_LOSS"
  | .axisRestore => "AXIS_RESTORE"
  | .groupStall => "GROUP_STALL"
  | .groupResume => "GROUP_RESUME"
  | .placeMigrate => "PLACE_MIGRATE"
  | .clauseStarved => "CLAUSE_STARVED"
  | .clauseOverrun => "CLAUSE_OVERRUN"
  | .clauseBudget => "CLAUSE_BUDGET"
  | .lockstepDiverge => "LOCKSTEP_DIVERGE"
  | .lockstepFail => "LOCKSTEP_FAIL"
  | .illInstr => "ILL_INSTR"
  | .imemUe => "IMEM_UE"
  | .gnbClock => "GNB_CLOCK"
  | .ethClock => "ETH_CLOCK"
  | .dfcClock => "DFC_CLOCK"
  | .evrStart => "EVR_START"
  | .evrClear => "EVR_CLEAR"
  | .evrClearRefused => "EVR_CLEAR_REFUSED"
  | .evrGap => "EVR_GAP"
  | .evrIntakeLost => "EVR_INTAKE_LOST"
  | .evrFreeze => "EVR_FREEZE"
  | .evrStoreFail => "EVR_STORE_FAIL"
  | .evrUtcChange => "EVR_UTC_CHANGE"
  | .timeStep => "TIME_STEP"
  | .timeSource => "TIME_SOURCE"
  | .holdover => "HOLDOVER"
  | .holdoverEnd => "HOLDOVER_END"
  | .timeFree => "TIME_FREE"
  | .ppsOmit => "PPS_OMIT"
  | .solRefused => "SOL_REFUSED"
  | .solRange => "SOL_RANGE"
  | .solRangeEnd => "SOL_RANGE_END"
  | .solTileFault => "SOL_TILE_FAULT"
  | .solTileOff => "SOL_TILE_OFF"
  | .optRefused => "OPT_REFUSED"
  | .optDegraded => "OPT_DEGRADED"
  | .optDegradedEnd => "OPT_DEGRADED_END"
  | .loopSkip => "LOOP_SKIP"
  | .loopSwapRefused => "LOOP_SWAP_REFUSED"
  | .loopSafe => "LOOP_SAFE"
  | .loopRearm => "LOOP_REARM"
  | .loopFault => "LOOP_FAULT"
  | .laneFault => "LANE_FAULT"
  | .fusTimeSlip => "FUS_TIME_SLIP"
  | .fusImuFault => "FUS_IMU_FAULT"
  | .fusImuRestore => "FUS_IMU_RESTORE"
  | .fusAbort => "FUS_ABORT"
  | .fusPosUncertain => "FUS_POS_UNCERTAIN"
  | .fusPosRestore => "FUS_POS_RESTORE"
  | .fusRefConflict => "FUS_REF_CONFLICT"
  | .fusLoadRefused => "FUS_LOAD_REFUSED"
  | .ethResync => "ETH_RESYNC"
  | .addrDuplicate => "ADDR_DUPLICATE"
  | .safDisc => "SAF_DISC"
  | .safFault => "SAF_FAULT"
  | .safTpFail => "SAF_TP_FAIL"
  | .safDegraded => "SAF_DEGRADED"
  | .safSafestate => "SAF_SAFESTATE"
  | .safAck => "SAF_ACK"
  | .safTelTimeout => "SAF_TEL_TIMEOUT"
  | .fioLinkLoss => "FIO_LINK_LOSS"
  | .fioLinkRestore => "FIO_LINK_RESTORE"
  | .fioSafeValues => "FIO_SAFE_VALUES"
  | .dioWirebreak => "DIO_WIREBREAK"
  | .dioShort => "DIO_SHORT"
  | .dioOutFault => "DIO_OUT_FAULT"
  | .fioFsLow => "FIO_FS_LOW"
  | .cloOpen => "CLO_OPEN"
  | .cloCompliance => "CLO_COMPLIANCE"
  | .cloLoopOk => "CLO_LOOP_OK"
  | .pairPeerFail => "PAIR_PEER_FAIL"
  | .pairPathLoss => "PAIR_PATH_LOSS"
  | .pairLaneDown => "PAIR_LANE_DOWN"
  | .pairPathRestore => "PAIR_PATH_RESTORE"
  | .pairEqLimit => "PAIR_EQ_LIMIT"
  | .pairDualAuth => "PAIR_DUAL_AUTH"
  | .pairAlone => "PAIR_ALONE"
  | .pairUnhealthyHold => "PAIR_UNHEALTHY_HOLD"
  | .pairMirrorTxDrop => "PAIR_MIRROR_TX_DROP"
  | .pairMirrorDiscard => "PAIR_MIRROR_DISCARD"
  | .pairSeqSet => "PAIR_SEQ_SET"
  | .pairDiverge => "PAIR_DIVERGE"
  | .pairTakeoverUnsync => "PAIR_TAKEOVER_UNSYNC"
  | .pairNoAuthority => "PAIR_NO_AUTHORITY"
  | .pairTakeover => "PAIR_TAKEOVER"
  | .pairHandover => "PAIR_HANDOVER"
  | .pairHandoverFail => "PAIR_HANDOVER_FAIL"
  | .pairRevert => "PAIR_REVERT"
  | .pairTxnCommit => "PAIR_TXN_COMMIT"
  | .pairTxnAbort => "PAIR_TXN_ABORT"
  | .pairTxnUncertain => "PAIR_TXN_UNCERTAIN"
  | .pairSelConflict => "PAIR_SEL_CONFLICT"
  | .soloController => "SOLO_CONTROLLER"
  | .gnbAntOk => "GNB_ANT_OK"
  | .gnbAntOpen => "GNB_ANT_OPEN"
  | .gnbAntShort => "GNB_ANT_SHORT"
  | .gnbAntLatch => "GNB_ANT_LATCH"
  | .gnbInterference => "GNB_INTERFERENCE"
  | .gnbInterferenceEnd => "GNB_INTERFERENCE_END"
  | .dfcFault => "DFC_FAULT"
  | .dfcSwapRefused => "DFC_SWAP_REFUSED"
  | .encFault => "ENC_FAULT"
  | .encZerr => "ENC_ZERR"
  | .serRxError => "SER_RX_ERROR"
  | .serTxFail => "SER_TX_FAIL"
  | .canBusoff => "CAN_BUSOFF"
  | .canBusoffEnd => "CAN_BUSOFF_END"
  | .canIdCollision => "CAN_ID_COLLISION"
  | .canTxcLost => "CAN_TXC_LOST"
  | .canTxcResume => "CAN_TXC_RESUME"
  | .canRxOverflow => "CAN_RX_OVERFLOW"
  | .resetHeld => "RESET_HELD"
  | .reset => "RESET"
  | .macroFail => "MACRO_FAIL"
  | .imageFormat => "IMAGE_FORMAT"
  | .imageIssue => "IMAGE_ISSUE"
  | .imageSig => "IMAGE_SIG"
  | .imagePlace => "IMAGE_PLACE"
  | .imageFallback => "IMAGE_FALLBACK"
  | .noImage => "NO_IMAGE"
  | .imageLoaded => "IMAGE_LOADED"
  | .addrTaken => "ADDR_TAKEN"
  | .chainBreak => "CHAIN_BREAK"
  | .noAddress => "NO_ADDRESS"
  | .addrChange => "ADDR_CHANGE"
  | .btnReset => "BTN_RESET"
  | .btnStuck => "BTN_STUCK"
  | .svcLevel => "SVC_LEVEL"
  | .svcRefused => "SVC_REFUSED"
  | .pairImageDiff => "PAIR_IMAGE_DIFF"
  | .feedLow => "FEED_LOW"
  | .feedOk => "FEED_OK"
  | .tempHigh => "TEMP_HIGH"
  | .tempHighEnd => "TEMP_HIGH_END"
  | .envRange => "ENV_RANGE"
  | .envRangeEnd => "ENV_RANGE_END"

/-- Every record of the unit. -/
def allRecs : List RecName :=
  [.cpOverflow, .cpConflict, .clockLoss, .aonClock, .strapChange, .portTimeout, .avsLimit, .avsLimitEnd,
   .bankParity, .dramUe, .dmaLate, .axisJump, .axisLoss, .axisRestore, .groupStall, .groupResume,
   .placeMigrate, .clauseStarved, .clauseOverrun, .clauseBudget, .lockstepDiverge, .lockstepFail, .illInstr, .imemUe,
   .gnbClock, .ethClock, .dfcClock, .evrStart, .evrClear, .evrClearRefused, .evrGap, .evrIntakeLost,
   .evrFreeze, .evrStoreFail, .evrUtcChange, .timeStep, .timeSource, .holdover, .holdoverEnd, .timeFree,
   .ppsOmit, .solRefused, .solRange, .solRangeEnd, .solTileFault, .solTileOff, .optRefused, .optDegraded,
   .optDegradedEnd, .loopSkip, .loopSwapRefused, .loopSafe, .loopRearm, .loopFault, .laneFault, .fusTimeSlip,
   .fusImuFault, .fusImuRestore, .fusAbort, .fusPosUncertain, .fusPosRestore, .fusRefConflict, .fusLoadRefused, .ethResync,
   .addrDuplicate, .safDisc, .safFault, .safTpFail, .safDegraded, .safSafestate, .safAck, .safTelTimeout,
   .fioLinkLoss, .fioLinkRestore, .fioSafeValues, .dioWirebreak, .dioShort, .dioOutFault, .fioFsLow, .cloOpen,
   .cloCompliance, .cloLoopOk, .pairPeerFail, .pairPathLoss, .pairLaneDown, .pairPathRestore, .pairEqLimit, .pairDualAuth,
   .pairAlone, .pairUnhealthyHold, .pairMirrorTxDrop, .pairMirrorDiscard, .pairSeqSet, .pairDiverge, .pairTakeoverUnsync, .pairNoAuthority,
   .pairTakeover, .pairHandover, .pairHandoverFail, .pairRevert, .pairTxnCommit, .pairTxnAbort, .pairTxnUncertain, .pairSelConflict,
   .soloController, .gnbAntOk, .gnbAntOpen, .gnbAntShort, .gnbAntLatch, .gnbInterference, .gnbInterferenceEnd, .dfcFault,
   .dfcSwapRefused, .encFault, .encZerr, .serRxError, .serTxFail, .canBusoff, .canBusoffEnd, .canIdCollision,
   .canTxcLost, .canTxcResume, .canRxOverflow, .resetHeld, .reset, .macroFail, .imageFormat, .imageIssue,
   .imageSig, .imagePlace, .imageFallback, .noImage, .imageLoaded, .addrTaken, .chainBreak, .noAddress,
   .addrChange, .btnReset, .btnStuck, .svcLevel, .svcRefused, .pairImageDiff, .feedLow, .feedOk,
   .tempHigh, .tempHighEnd, .envRange, .envRangeEnd]

/-- R50: what makes the unit unhealthy. -/
inductive HealthCause where
  | avsLimit (island : Nat)
  | noEngine (clause : Nat)
  | dramError
  | tileOff (tile : Nat)
  | laneFixed (lane : Nat)
  | dupAddr
  | safety
  | serviceOnly
  | tempHigh
deriving DecidableEq, Repr

/-! ### Clause engines (spec/03_programming_model.md, spec/04_instruction_reference.md) -/

/-- R82: the states in which a clause ends. -/
inductive EndState where
  | ended | budget | overrun | diverge | illegal | imemFault
deriving DecidableEq, Repr

/-- What a clause has latched at its trigger (R61, R155, R431, SOL_NTKT, SAF_TVAL, SAF.GETIN). -/
structure TrigInfo where
  kind : Nat := 0
  w3 : Word := 0
  clk : Nat := 0
  cjst : Word := 0
  ntkt : Word := 0xFFFFFFFF
  inl : Word := 0
  invl : Word := 0
  tval0 : Word := 0
  tval1 : Word := 0
  getin : Word := 0
deriving DecidableEq, Repr

/-- The execution an engine runs: clause, group, dispatch number, the group's sequence at dispatch, budget,
whether it runs on a lockstep pair, the clock of its first issue, the budget count so far (R81). -/
structure Run where
  clause : Nat
  group : Nat
  disp : Nat
  seq : Nat
  budget : Nat
  lock : Bool
  start : Nat
  count : Nat
  trig : TrigInfo
deriving DecidableEq, Repr

/-- R115: an open loop: first and last body word, iterations that remain after this one. -/
structure LoopCtx where
  first : Nat
  last : Nat
  left : Nat
deriving DecidableEq, Repr

/-- R113, R117: one call level: the return address (none for the clause itself) and the loops opened in it,
innermost first. -/
structure CallCtx where
  ret : Option Nat
  loops : List LoopCtx
deriving DecidableEq, Repr

/-- R80: what a waiting instruction waits for. -/
inductive WaitFor where
  | axis (pd n : Nat) (target : Word)
  | join (wd pd c1 : Nat) (c2 : Option Nat)
  | ticket (wd pd t : Nat)
deriving DecidableEq, Repr

/-- A wait in progress: its fixed count F, its timeout and its condition. -/
structure WaitCtx where
  fixed : Nat
  timeout : Nat
  cond : WaitFor
deriving DecidableEq, Repr

/-- One clause engine. `acc` and `pred` hold A0–A3 and P1–P7; `regs` holds W1–W31; `last` is the clause that ended last;
`oos`: out of service (R84, R93); `acct` is the first FAB clock of the run not yet in the account of R160 (`busyNow`,
`busyFs`, the clause's own). -/
structure Engine where
  regs : SMap Word := []
  acc : SMap Acc := []
  pred : SMap Bool := []
  pc : Nat := 0
  esf : Word := 0
  calls : List CallCtx := [⟨none, []⟩]
  wait : Option WaitCtx := none
  run : Option Run := none
  imem : SMap Word := []
  oos : Bool := false
  selftest : Bool := false
  endClk : Nat := 0
  last : Option Nat := none
  busyNow : Nat := 0
  busyFs : Nat := 0
  minIdle : Nat := 1024
  acct : Nat := 0
deriving DecidableEq, Repr

/-! ### Scheduler, axes, output groups (spec/05_clauses_axes_fullstop.md) -/

/-- A clause that is ready and not dispatched. -/
structure ReadyEntry where
  clause : Nat
  trig : TrigInfo
deriving DecidableEq, Repr

/-- The execution counters of one clause (SCH_CEXA to SCH_CEXD) and its last end state; `endClk` and `endCount` are the
clock and the count of its last end, by which R86 orders a clear and an end of one clock. -/
structure ClauseCounts where
  ended : Nat := 0
  budget : Nat := 0
  overrun : Nat := 0
  diverge : Nat := 0
  illegal : Nat := 0
  imem : Nat := 0
  starved : Nat := 0
  trigLost : Nat := 0
  last : Nat := 0
  endClk : Nat := 0
  endCount : Nat := 0
deriving DecidableEq, Repr

/-- R147: the arming of a compare unit, the last difference evaluated, a fire that waits to be taken and the FAB clock of
that fire. -/
structure CompareUnit where
  fwd : Bool := false
  bwd : Bool := false
  prev : Int := 0
  fire : Bool := false
  fireClk : Nat := 0
deriving DecidableEq, Repr

/-- One axis AX1 to AX7: position, rate and fraction of its phase source, validity, loss. -/
structure Axis where
  pos : Word := 0
  rate : Word := 0
  valid : Bool := false
  lost : Bool := false
deriving DecidableEq, Repr

/-- A staged register write that waits in a pending set (R32 to R37): its writer (none: the service protocol), its act clock
(R35, R579), and its place among all the group staged. -/
structure PendWrite where
  clause : Option Nat
  disp : Nat
  addr : Nat
  val : Word
  clk : Nat := 0
  ord : Nat := 0
deriving DecidableEq, Repr

/-- A staged output other than a register (R88). -/
inductive StagedItem where
  | swap (group : Bool) (first n : Nat)
  | telegram (stream : Nat) (safety : Bool) (payload : List Byte)
  | can (ch : Nat) (image : List Word)
  | mirror (words : List Word)
  | safOn (mask : Word)
  | safRst (mask : Word)
deriving DecidableEq, Repr

/-- A staged output with the execution that staged it, and its place among all the group staged. -/
structure StagedOut where
  clause : Nat
  disp : Nat
  item : StagedItem
  ord : Nat := 0
deriving DecidableEq, Repr

/-- One output group (`due`: its axis has reached N, in FAB clock `dueClk`; `overNext`: the set of the full stop after that one
is overflowed): next full-stop position, cycle sequence (48 bits), the next positions of its periodic
triggers, end states of the cycle, pending set, staged outputs. -/
structure Group where
  seq : Nat := 0
  next : Word := 0
  prev : Int := 0
  due : Bool := false
  dueClk : Nat := 0
  trigNext : SMap Word := []
  progress : List (Nat × EndState) := []
  conjFired : List Nat := []
  pend : List PendWrite := []
  overflowed : Bool := false
  overNext : Bool := false
  ovf : Bool := false
  conflict : Bool := false
  commits : Nat := 0
  staged : List StagedOut := []
  stageNo : Nat := 0
  elapsed : Nat := 0
  forcedInCycle : Bool := false
  stalled : Bool := false
  forced : Nat := 0
  overruns : Nat := 0
  offMask : Word := 0
deriving DecidableEq, Repr

/-- The scheduler: ready clauses in the order they became ready, hosts of clauses that are not on their
descriptor's engine, counters, compare units, axes, groups; clusters to be re-placed (`replace`, by clause); the placement
account (R160): elapsed time and clock at which the period began, busy clocks of clauses and lanes in it, the last full
stop's clock, a lane's clocks since then and its smallest idle share, the clauses' clocks and the length of the period
before; trigger units due; `on`: scheduling has started (R545). -/
structure Sched where
  ready : List ReadyEntry := []
  host : SMap Nat := []
  counts : SMap ClauseCounts := []
  cmp : SMap CompareUnit := []
  axes : SMap Axis := []
  groups : SMap Group := []
  dispNo : Nat := 0
  replace : List Nat := []
  evalElapsed : Nat := 0
  clauseBusy : SMap Nat := []
  laneBusy : SMap Nat := []
  trigDue : List Nat := []
  on : Bool := false
  lastFs : Nat := 0
  evalClk : Nat := 0
  laneFs : SMap Nat := []
  laneIdle : SMap Nat := []
  lastBusy : SMap Nat := []
  lastPer : Nat := 0
deriving DecidableEq, Repr

/-! ### Banks and bulk memory (spec/06_memory_banks.md) -/

/-- R173 to R176: a DMA channel: the transfer in progress and its state; a START refused since the last full stop of the group
it named. -/
structure DmaChan where
  pending : Bool := false
  complete : Bool := false
  refusedNow : Bool := false
  refGroup : Nat := 0
  late : Bool := false
  group : Nat := 0
  left : Nat := 0
  hb : Bool := false
  hcl : Nat := 0
  dir : Nat := 0
  far : Nat := 0
  len : Nat := 0
  bank : Nat := 0
  woff : Nat := 0
  perr : Bool := false
  ue : Bool := false
deriving DecidableEq, Repr

/-- R168, R169: a bank is awake, in retention, or waking. -/
inductive BankPower where
  | awake | retention | waking
deriving DecidableEq, Repr

/-- The 64 banks and bulk memory. `cells` is keyed bank × 2^15 + offset; words in error by word number;
`routeQ` holds the elements produced and not yet delivered, with their route, in the order produced (R44);
`inUse` the banks a block has marked in use, with the mark's tag (R166). -/
structure Banks where
  cells : List Host.Cell := []
  parity : List Nat := []
  owner : SMap Nat := []
  power : SMap BankPower := []
  lastUse : SMap Nat := []
  dram : List Host.Cell := []
  dramBad : List Nat := []
  dma : SMap DmaChan := []
  routeQ : List (Nat × List Word) := []
  inUse : List (Nat × Nat) := []
deriving DecidableEq, Repr

/-! ### Event recorder (spec/19_event_recorder.md) -/

/-- What a record reports: a record of the unit by name, with its element and items, or a program record. -/
inductive RecBody where
  | unit (name : RecName) (elem : Nat) (items : List Nat)
  | program (code source : Nat) (payload : List Byte)
deriving DecidableEq, Repr

/-- R520, R521: a record as accepted. `part` is the part of the intake it takes: 0 shared, 1 the unit's
further entries, 2 the reserved entry. -/
structure EvRecord where
  seq : Nat
  utcv : Bool
  hold : Bool
  auth : Bool
  frz : Bool
  addr : Nat
  optime : Nat
  pcc : Nat
  utc : Nat
  part : Nat
  body : RecBody
deriving DecidableEq, Repr

/-- A freeze slot: state (0 EMPTY, 1 FILLING, 2 FROZEN), trigger sequence, first sequence held, contents by
index, snapshot still to be taken. -/
structure FreezeSlot where
  state : Nat := 0
  trig : Nat := 0
  first : Int := 0
  recs : SMap EvRecord := []
  snapDue : Bool := false
deriving DecidableEq, Repr

/-- The event recorder: next sequence, intake, the two areas, freeze slots, sequences stated lost,
the windows (party × 16 + entry) and the copies under way (area, count, start),
refusals since the last EVR_INTAKE_LOST, the records held since a restart until the address is taken (R589). `clear` is the first sequence of the permanent area. -/
structure Evr where
  nextSeq : Nat := 1
  head : Nat := 0
  intake : List EvRecord := []
  circ : SMap EvRecord := []
  perm : SMap EvRecord := []
  clear : Nat := 1
  slots : SMap FreezeSlot := []
  lost : List Nat := []
  refused : Nat := 0
  refusedParts : List Nat := []
  failed : Bool := false
  closed : Bool := false
  holding : Bool := true
  held : List RecBody := []
  optime : Nat := 0
  pcc : Nat := 0
  savedOptime : Nat := 0
  savedPcc : Nat := 0
  dsel : Nat := 0
  windows : SMap (List Word) := []
  copying : SMap (Nat × Nat × Nat) := []
deriving DecidableEq, Repr

/-! ### Timebase (spec/12_timebase.md) -/

/-- R337: a capture unit: elapsed time of its last edge, and whether an edge was dropped since. -/
structure CaptureUnit where
  last : Option Nat := none
  lost : Bool := false
deriving DecidableEq, Repr

/-- R328: a PTP port beyond its registers: whether its path delay is known, the sequence numbers of the messages it sends and the
elapsed times at which it last sent each, the elapsed time of the last Sync received and whether its Follow_Up is awaited, the
best master heard (priority1, class, identity). -/
structure PtpPort where
  delayKnown : Bool := false
  syncSeq : Nat := 0
  annSeq : Nat := 0
  delSeq : Nat := 0
  syncSent : Option Nat := none
  annSent : Option Nat := none
  delSent : Option Nat := none
  syncEl : Option Nat := none
  awaited : Bool := false
  best : List Nat := []
  gm : Nat := 0
deriving DecidableEq, Repr

/-- The timebase. `t` is T (64 bits), `acc` the phase accumulator of R320, `el` elapsed ns (R332), `f` the
frequency estimate and `rate` the applied rate in 1/256 ppb, `step` the pending step; `recent` the magnitudes of the
last offsets, the newest first, `since` how many have come since the state was entered (R326). -/
structure Timebase where
  t : Nat := 0
  acc : Int := 0
  el : Nat := 0
  f : Int := 0
  rate : Int := 0
  step : Option Int := none
  overs : Nat := 0
  small : Nat := 0
  recent : List Nat := []
  since : Nat := 0
  fHist : List Int := []
  valid : List Nat := []
  everLocked : Bool := false
  holdEl : Nat := 0
  u0 : Nat := 0
  fresh : Bool := true
  ppsLast : Nat := 0
  ppsEl : Option Nat := none
  ppsHigh : Bool := false
  ppsInEl : Option Nat := none
  lastTick : Nat := 0
  lastGpost : Option Nat := none
  capture : SMap CaptureUnit := []
  trigLast : SMap Nat := []
  ptp : SMap PtpPort := []
deriving DecidableEq, Repr

/-! ### Phase sources of the axes (R142) -/

/-- A phase with its rate and the elapsed time of its stamp. -/
structure Phase where
  phase : Word := 0
  rate : Word := 0
  stamp : Nat := 0
  valid : Bool := false
deriving DecidableEq, Repr

/-! ### Safety block (spec/14_safety_functions.md) -/

/-- The safety block beyond its registers: filtered contacts (bit n: input n), start of the discrepancy time of a
pair, pairs whose latched DISC is clearable, since when a contact has been sound and a pair's contacts have agreed
(elapsed time), outputs in state WAITON, open test windows, T of each output's last window, start of a function's
degraded timer and clause watchdog, last valid delivery of a slot, its valid decisions with two copies in a row,
slots whose watchdog has expired, clauses that have issued SAF instructions. -/
structure Saf where
  lev : Word := 0
  mixEl : SMap Nat := []
  clearable : List Nat := []
  soundEl : SMap Nat := []
  agreeEl : SMap Nat := []
  waiton : List Nat := []
  window : SMap Nat := []
  winT : SMap Nat := []
  degEl : SMap Nat := []
  wdEl : SMap Nat := []
  slotEl : SMap Nat := []
  slotRun : SMap Nat := []
  expired : List Nat := []
  clauses : List Nat := []
deriving DecidableEq, Repr

/-! ### Solver array and optimisation sequencer (spec/07_solver_array.md, spec/08_optimisation_sequencer.md) -/

/-- An operation of a batch: waiting, in flight, or final. -/
inductive OpState where
  | waiting | flight | final
deriving DecidableEq, Repr

/-- R184: an operation as validated: its entry's words 0 to 13, its state, its status word once final, whether it
waited on another batch. -/
structure SolOp where
  words : List Word
  st : OpState := .waiting
  status : Word := 0
  xh : Bool := false
deriving DecidableEq, Repr

/-- A batch from acceptance to completion. `clause` is the submitter (a clause, or 256 for the sequencer and 257 for the fusion
engine), `seq` its group's sequence at SUBMIT.SOL; `dead` says that its deadline has come. A batch of the sequencer or the
fusion engine takes no ticket (`ticket` 64) and belongs to a job (R180: 1 the sequencer's pass, 2 the covariance propagation, 3
the measurement update; 0 a clause's batch). -/
structure Batch where
  clause : Nat
  seq : Nat
  ticket : Nat
  bank : Nat
  off : Nat
  count : Nat
  prio : Nat
  dlen : Bool
  deadline : Word
  nen : Bool
  arel : Bool
  ncl : Nat
  job : Nat := 0
  valid : Bool := false
  dead : Bool := false
  ops : List SolOp := []
deriving DecidableEq, Repr

/-- A ticket in use: operations in the batch, final so far, whether complete, summary, stamp. -/
structure Ticket where
  seqr : Bool := false
  count : Nat := 0
  final : Nat := 0
  complete : Bool := false
  sum : Word := 0
  stamp : Word := 0
deriving DecidableEq, Repr

/-- R180: a batch that the sequencer or the fusion engine lays into its workspace and submits: its job, the descriptor's bank
and byte offset, DLEN and DEADLINE, its entries (words 0 to 13). -/
structure OwnBatch where
  job : Nat
  bank : Nat
  off : Nat
  dlen : Bool
  deadline : Word
  entries : List (List Word)
deriving DecidableEq, Repr

/-- How the batches of a job have ended so far (R221, R281): whether any is still to complete, whether an operation ended
ABANDONED for the deadline, or in DONE_SAT or ABANDONED for another cause, or in DONE_REG; the MAC count of those that
committed; the first that exceeded its range (entry, MAXABS, RBND). -/
structure JobState where
  busy : Bool := false
  late : Bool := false
  bad : Bool := false
  reg : Bool := false
  macs : Nat := 0
  range : Option (Nat × Nat × Nat) := none
deriving DecidableEq, Repr

/-- The solver array: batches by order of acceptance, tickets in use, submitters with the SOL_RANGE condition
(a clause, or 256 for the sequencer, 257 for fusion), tiles in self-test; the FAB clock in which a ticket was last released
(R205); the jobs of the sequencer and the fusion engine, and their batches that wait for the one before. -/
structure Solver where
  next : Nat := 0
  batches : SMap Batch := []
  tickets : SMap Ticket := []
  freed : SMap Nat := []
  jobs : SMap JobState := []
  later : List OwnBatch := []
  rangeOn : List Nat := []
  testing : List Nat := []
deriving DecidableEq, Repr

/-- R220: an iterate: the inputs of each stage, the states x_1 to x_N, and by stage the slacks and the multipliers of its rows
(Q15.16). -/
structure OptIter where
  us : List (List Int) := []
  xs : List (List Int) := []
  ss : List (List Int) := []
  ls : List (List Int) := []
deriving DecidableEq, Repr

/-- An iterate that passed the acceptance test: its number, the test values RP and CM, its plan. -/
structure OptPass where
  iter : Nat
  rp : Nat
  cm : Nat
  plan : OptIter
deriving DecidableEq, Repr

/-- How far a run has come: accepted, validated and iterating, or at its guard and publication (R212, R220, R229). -/
inductive OptPhase where
  | check | iterate | publish
deriving DecidableEq, Repr

/-- A sequencer run: descriptor address, ticket, submitter and its group's sequence, grant and fallback limit in
force at acceptance (R219, R227), start, the present iterate and the next (whether its update saturated), iterations complete,
the latest that passed, what the iterations met. -/
structure OptRun where
  clause : Nat
  seq : Nat
  ticket : Nat
  bank : Nat
  off : Nat
  grant : Nat
  limit : Nat
  start : Nat
  phase : OptPhase := .check
  cur : OptIter := {}
  next : OptIter × Bool := ({}, false)
  done : Nat := 0
  best : Option OptPass := none
  itfail : Bool := false
  dln : Bool := false
  reg : Bool := false
  range : Bool := false
  macs : Nat := 0
deriving DecidableEq, Repr

/-- The sequencer: its run, the FAB clock in which the last run completed (R236), whether the last run was DEGRADED, whether an
OPT_DEGRADED awaits its end. -/
structure Sequencer where
  run : Option OptRun := none
  endClk : Option Nat := none
  lastDeg : Bool := false
  degOn : Bool := false
deriving DecidableEq, Repr


/-! ### Field groups (spec/15_field_io.md) -/

/-- R423: a publication to G2 (the word of DIO_OUT) or G3 (a loop's command) not yet applied at the field stage. -/
structure FieldPub where
  el : Nat
  loop : Option Nat
  val : Word
deriving DecidableEq, Repr

/-- R426: a trigger pulse of a high-side output: elapsed time of the trigger, width in µs. -/
structure OutPulse where
  out : Nat
  el : Nat
  width : Nat
deriving DecidableEq, Repr

/-- The field side of G2 or G3 (R421): elapsed time of the last valid down-frame, valid frames in a row, whether
it holds its outputs, whether it applies its safe values. -/
structure FieldSide where
  el : Nat := 0
  run : Nat := 0
  held : Bool := false
  safe : Bool := false
deriving DecidableEq, Repr

/-- The four isolation groups beyond their registers: raw levels and accepted levels of the inputs, the frames each
raw level has held without an edge, the T of the raw edge that began the present raw level, inputs with MULTI seen
since their last element, reports of the field sides (DIAG), valid up-frames in a row and the last one's elapsed
time, field sides of G2 and G3, values applied there, pulses, pulses that wait for the next frame, temperatures of
the groups, whether the ORed rail is low, elapsed time of an output's overload, publications on their way, frame counters of
the down-frames (R418). -/
structure FieldIo where
  raw : Word := 0
  acc : Word := 0
  rawEl : SMap Nat := []
  quiet : SMap Nat := []
  edgeT : SMap Nat := []
  multi : List Nat := []
  diag : SMap Nat := []
  run : SMap Nat := []
  upEl : SMap Nat := []
  side : SMap FieldSide := []
  outs : Word := 0
  loops : SMap Nat := []
  pulses : List OutPulse := []
  pulseCount : Nat := 0
  temps : SMap Int := []
  railLow : Bool := false
  ovlEl : SMap Nat := []
  pubs : List FieldPub := []
  fcnt : SMap Nat := []
deriving DecidableEq, Repr


/-! ### Loop engine (spec/09_loop_engine.md) -/

/-- R246: the state of a biquad, Q15.16. -/
structure Biquad where
  x1 : Int := 0
  x2 : Int := 0
  y1 : Int := 0
  y2 : Int := 0
deriving DecidableEq, Repr

/-- The state of a slot: limited setpoint, previous feedback, integrator (46 fraction bits), derivative filter,
previous output, previous biquad output, biquads. -/
structure LoopState where
  spl : Word := 0
  fbp : Word := 0
  i : Int := 0
  df : Int := 0
  up : Int := 0
  yp : Int := 0
  b1 : Biquad := {}
  b2 : Biquad := {}
deriving DecidableEq, Repr

/-- What an evaluation has formed (R245): the new state, the value to publish, e, the flags of LPE_STK, the
conditions of supervision, the mode after it. -/
structure LoopResult where
  st : LoopState
  u : Int
  e : Int
  flags : Word
  mode : Nat
  feSince : Option Nat
  frz : Nat
deriving DecidableEq, Repr

/-- A pending sample (R241): elapsed time of its instant, lane, latched values, which sources were valid, the result
once evaluated. -/
structure LoopSample where
  el : Nat
  lane : Nat
  sp : Word
  fb : Word
  ff : Word
  lossAny : Bool
  fbValid : Bool
  ffValid : Bool
  page : Nat
  result : Option LoopResult := none
deriving DecidableEq, Repr

/-- R250: a published swap a slot has not taken: its own, one of a group that waits for the common boundary, or one
of a group whose boundary has passed. -/
inductive SwapState where
  | none | own | group (g : Nat) | go
deriving DecidableEq, Repr

/-- A loop slot beyond its registers: `st` as its next evaluation takes it, `com` as committed at the last output instant, in FAB
clock `comClk`, and `comWas` as committed before that (R263); the FAB clock in which its swap was published (R250); samples
latched and not yet at their output instant, oldest first; the adjustments it has still to apply, by the FAB clock of their
commit and the byte address of their image (R264). -/
structure LoopSlot where
  st : LoopState := {}
  com : LoopState := {}
  comWas : LoopState := {}
  comClk : Nat := 0
  mode : Nat := 0
  arm : Bool := false
  lastInst : Nat := 0
  lastEl : Option Nat := none
  sp : Word := 0
  fb : Word := 0
  ff : Word := 0
  routeVal : Word := 0
  routeEl : Nat := 0
  feSince : Option Nat := none
  frz : Nat := 0
  reactEl : Nat := 0
  page : Nat := 0
  swap : SwapState := .none
  swapClk : Nat := 0
  lane : Option Nat := none
  skipped : Bool := false
  samples : List LoopSample := []
  adj : List (Nat × Nat) := []
  busy : Nat := 0
  share : Nat := 0
deriving DecidableEq, Repr

/-- The loop engine: slots, lanes out of service, whether float slots on a failed lane wait to be placed. -/
structure Loops where
  slots : SMap LoopSlot := []
  lanesOut : List Nat := []
  replace : List Nat := []
deriving DecidableEq, Repr


/-! ### Ethernet (spec/18_ethernet_twin_telegrams.md) -/

/-- R511: a window of a receive stream slot: sequence, elapsed time of its opening, the copies received with their
arrival stamps, the index of the delivered copy. -/
structure TelWindow where
  seq : Nat
  el : Nat
  copies : List (TelCopy × Nat) := []
  delivered : Option Nat := none
deriving DecidableEq, Repr

/-- A receive stream slot beyond its registers: last delivered payload, elapsed time of the last delivery, SECL of
the last delivery, open windows oldest first, sequences above LAST whose window closed without a delivery,
consecutive deliveries on both LANs, sequences counted missing (first, number), first sequence since it was enabled
or resynchronised. -/
structure TelSlot where
  payload : List Byte := []
  delEl : Option Nat := none
  secl : Nat := 0
  windows : List TelWindow := []
  closed : List Nat := []
  bothRun : Nat := 0
  missed : List (Nat × Nat) := []
  began : Option Nat := none
deriving DecidableEq, Repr

/-- The Ethernet block beyond its registers. -/
structure Eth where
  slots : SMap TelSlot := []
deriving DecidableEq, Repr


/-! ### Reference fusion (spec/10_reference_fusion.md) -/

/-- A queued measurement: frame index, slot, element words, measurement time, whether its slot slipped, elapsed time at which it
was taken. -/
structure FusEntry where
  frame : Nat
  slot : Nat
  words : List Word
  tm : Word
  slip : Bool
  el : Nat := 0
deriving DecidableEq, Repr

/-- R287: a track of a relative reference: confirmed or tentative, hits, misses, target position. -/
structure FusTrack where
  conf : Bool
  hits : Nat
  misses : Nat
  n : Int
  e : Int
deriving DecidableEq, Repr

/-- A reference slot: the element it holds with the elapsed time of its delivery, offset estimate and last observation (R275),
tracks, the latest innovation with the elapsed time at which its fix was taken and whether it lay inside the gate (R284). -/
structure FusSlot where
  held : Option (List Word × Nat) := none
  oest : Option Word := none
  oprev : Option Word := none
  slip : Bool := false
  tracks : SMap FusTrack := []
  innov : Option (Int × Int × Nat × Bool) := none
deriving DecidableEq, Repr

/-- The wave tracker (R288): amplitude, rate per frame, phase, biquad, elapsed time since its conditions hold. -/
structure FusWave where
  amp : Int := 0
  om : Int := 0
  phi : Word := 0
  bq : Biquad := {}
  okEl : Option Nat := none
deriving DecidableEq, Repr

/-- An update in flight: the accepted entries, the entries used, for the digest, the index of the P buffer it started from. -/
structure FusUpdate where
  accepted : List FusEntry
  used : List FusEntry
  psel : Nat := 0
deriving DecidableEq, Repr

/-- R293: what a frame propagated with: its instant, IMUF, the IMU samples or the motion telegram, τ, the telegram's roll and
heave, the heading of the references. -/
structure FusInput where
  inst : Nat
  imuf : Bool
  words : List Word
  tau : List Int
  tel : List Word
  hdg : Word
deriving DecidableEq, Repr

/-- The fusion engine. `nom` is the nominal state: N, E, D, velocity, q0 to q3, body rates, then the error states 9 to NERR − 1;
P and P' lie in workspace bank `bank`, P in buffer `psel` (0 or 1); `prop`: a propagation batch is in flight, from buffer
`propSel`; `hist` the nominal states of the last 2 s by frame instant (R277), `inputs` what they were propagated with (R293);
`owed`: frames of UPDMODE = 0 whose update waits for the one in flight (R268); `imu` the samples since the last frame; `hdgRef` the last
accepted heading; `posEl`, `hdgEl` since when no fix has been accepted. -/
structure Fusion where
  frame : Nat := 0
  lastInst : Nat := 0
  nom : List Word := []
  bank : Nat := 0
  psel : Nat := 0
  hist : List (Nat × List Word) := []
  inputs : List FusInput := []
  vm : List Int := [0, 0, 0]
  slots : SMap FusSlot := []
  queue : List FusEntry := []
  prop : Bool := false
  propSel : Nat := 0
  upd : Option FusUpdate := none
  owed : Nat := 0
  heldUpd : Option Word := none
  wave : FusWave := {}
  wvalid : Bool := false
  posEl : Nat := 0
  hdgEl : Nat := 0
  posOnce : Bool := false
  hdgOnce : Bool := false
  posunc : Bool := false
  refconf : Bool := false
  confArmed : Bool := true
  hdgRef : Word := 0
  imuf : Bool := false
  imuBad : Nat := 0
  imuGood : Nat := 0
  imuLast : List Word := []
  imu : List (List Word) := []
  imuTick : Nat := 0
  odo : Nat := 0
  odoDue : Bool := false
deriving DecidableEq, Repr


/-! ### Redundant pair (spec/13_redundant_pair.md) -/

/-- R360: a lane's copy of an epoch being received: group, sequence (48 bits), the header payload, the body length
its header gives, the body bytes received so far, elapsed time of the header. -/
structure EpochCopy where
  group : Nat
  seq : Nat
  head : List Byte
  len : Nat
  body : List Byte := []
  el : Nat
deriving DecidableEq, Repr

/-- A lane: last heartbeat frame and since when they have come without an 8 µs gap (elapsed time), recent CRC errors,
the copy being received, its next frame sequence. -/
structure PairLane where
  hbEl : Option Nat := none
  since : Nat := 0
  errs : List Nat := []
  copy : Option EpochCopy := none
  fseq : Nat := 0
deriving DecidableEq, Repr

/-- R358: an epoch in the transmit memory: group, sequence, and the payloads of its header, body and commit. -/
structure TxEpoch where
  group : Nat
  seq : Nat
  head : List Byte
  body : List Byte
  commit : List Byte
deriving DecidableEq, Repr

/-- R360: an epoch received and not yet decided: group, sequence, body words and elapsed time of its first header, the
lanes whose copy has ended or can no longer come, whether a complete copy failed its ECRC. -/
structure OpenEpoch where
  group : Nat
  seq : Nat
  len : Nat
  el : Nat
  ended : List Nat := []
  crc : Bool := false
deriving DecidableEq, Repr

/-- R367, R365: the unit's own full stop of a group: sequence, position, digests. -/
structure OwnStop where
  seq : Nat
  pos : Word
  din : Word
  dout : Word
  scrc : Word
deriving DecidableEq, Repr

/-- R361, R362: an epoch that has passed its checks and is being copied into a bank. -/
structure EpochApply where
  group : Nat
  seq : Nat
  alt : Bool
  head : List Byte
  body : List Byte
  commit : List Byte
  bank : Nat
deriving DecidableEq, Repr

/-- What the unit knows of a group's epochs: last sequence received, last applied, whether READY counts it as good
(R352), whether the last decided epoch's digests agreed, whether the last one needed a sequence correction. -/
structure EpochGroup where
  lastRx : Option Nat := none
  lastApp : Option Nat := none
  good : Bool := false
  agreed : Bool := false
  corrected : Bool := false
  stops : List OwnStop := []
deriving DecidableEq, Repr

/-- R379 to R383: the transaction of a group: its identifier, its stage (1 marked, 2 prepared), the frozen set, its CRC,
the sequence of the commit full stop, own result, whether this unit decides, the peer's result and CRC once received, the decision (true: commit) once
known, with its cause when it is an abort. -/
structure Txn where
  tid : Nat
  stage : Nat := 1
  frozen : List PendWrite := []
  crc : Word := 0
  seq : Nat := 0
  ok : Bool := true
  decider : Bool := false
  peer : Option (Bool × Word) := none
  decision : Option (Bool × Nat) := none
deriving DecidableEq, Repr

/-- The pair logic beyond its registers. `authIn`: AUTH_IN is active, since `authInEl`; `toggling`: AUTH_OUT carries
its square wave; `waiting`: authority is requested and AUTH_OUT does not toggle yet; `window`: the arbitration window's start;
`takeover`: the request follows a takeover (R374); `quiet`: the safety block has
stopped the heartbeats (R342); `pulseEl`: the
scheduler's last alive pulse; `dualNoted`: this activity of AUTH_IN has been taken as dual authority; `enOn`, `enEl`: the output enables and since when they have been on; `hbEl`, `hbSince`:
HB_IN edges; `laneSince`: since when the lane path has been alive; `bothSince`: since when both paths; `failed`: the
peer is declared failed; `seen`: a path has been alive since the program started or the last declaration; `lost`: paths
whose loss is recorded (0 lanes, 1 HB, 2 lane 1, 3 lane 2); `ever`: paths that have been alive;
`received`: the group and sequence pairs received; `openEps`: those not decided; `applying`: epochs being copied into a
bank, oldest first; `control`: the pair control frames acted on whose copy from the other lane may still come; `beacons`: consecutive beacons with HOLD and the
sequence of the last; `hoSeq`: the full stop named in HO_PREP; `relEl`: elapsed time of the release; `armSeq`: the
full stop for which this unit is armed, `armEl` once it toggles for it; `revCount`: consecutive agreeing epochs of
HOGRP; `readyEl`: since when state 2; `heldBefore`: HOLD in the FAB clock before the present full stop. -/
structure Pair where
  authIn : Bool := false
  authInEl : Nat := 0
  dualNoted : Bool := false
  toggling : Bool := false
  waiting : Bool := false
  window : Option Nat := none
  takeover : Bool := false
  quiet : Bool := false
  pulseEl : Nat := 0
  enOn : Bool := false
  enEl : Nat := 0
  hbEl : Option Nat := none
  hbSince : Nat := 0
  hbCnt : Nat := 0
  lanes : SMap PairLane := []
  laneSince : Nat := 0
  failed : Bool := false
  seen : Bool := false
  lost : List Nat := []
  ever : List Nat := []
  peerWord : Word := 0
  beacons : Nat := 0
  beaconSeq : Option Nat := none
  selConflict : Bool := false
  started : Option Nat := none
  hoSeq : Option Nat := none
  hoAck : Bool := false
  hoRev : Bool := false
  hoNext : Bool := false
  relEl : Option Nat := none
  armGroup : Nat := 0
  armSeq : Option Nat := none
  armEl : Option Nat := none
  tookStop : Option (Nat × Nat) := none
  unhealthyNoted : Bool := false
  revSent : Bool := false
  revCount : Nat := 0
  readyEl : Nat := 0
  both12 : Option Nat := none
  txq : List TxEpoch := []
  received : List (Nat × Nat) := []
  groups : SMap EpochGroup := []
  openEps : List OpenEpoch := []
  applying : List EpochApply := []
  control : List (Nat × List Nat) := []
  txns : SMap Txn := []
deriving DecidableEq, Repr


/-! ### Satellite baseband (spec/11_gnss_baseband.md) -/

/-- A tracking channel beyond its registers: its last measurement, start and last state change, lock time gathered (0.1 s) and since
when it counts (elapsed time), since when C/N0 has lain below CN0MIN, slip since the previous epoch, prompt correlation of the
last integration; the loop and spacing settings in force since its last integration boundary (R307); the navigation symbols
(R313): the prompt I summed since the last symbol boundary once one has come in TRACK, EPOCHS at it, whether the next symbol
begins a new entry, and the entries being collected, oldest first, with EPOCHS at their first symbol. -/
structure GnbChannel where
  meas : GnbMeas := {}
  startEl : Nat := 0
  stateEl : Nat := 0
  lock : Nat := 0
  lowEl : Option Nat := none
  slip : Bool := false
  pi : Int := 0
  pq : Int := 0
  loop : Word := 0x143C140A
  spacing : Nat := 0x110
  symSum : Option Int := none
  symEp : Nat := 0
  symCut : Bool := true
  syms : List (Nat × List Bool) := []
deriving DecidableEq, Repr

/-- An acquisition list (R304): bank, offset, entries, the entry running next or now, its words and snapshot once it
has started, elapsed time of its start. -/
structure AcqList where
  bank : Nat
  off : Nat
  count : Nat
  cur : Nat := 0
  active : Option (List Word) := none
  snap : Word := 0
  el : Nat := 0
deriving DecidableEq, Repr

/-- An antenna supply: elapsed time of the short, retries that have failed in a row. -/
structure AntSupply where
  shortEl : Nat := 0
  fails : Nat := 0
deriving DecidableEq, Repr

/-- An interference monitor (R315): consecutive measurements at or above the threshold, and below it, and the flag. -/
structure IntfMon where
  above : Nat := 0
  below : Nat := 0
  flag : Bool := false
deriving DecidableEq, Repr

/-- The baseband beyond its registers: channels, list, supplies, monitors, T of the last strobe, what the next header
reports, blocks that wait for delivery, the current navigation bank (false NAVA) with its counts, stopped by R48. -/
structure Gnb where
  chans : SMap GnbChannel := []
  acq : Option AcqList := none
  ants : SMap AntSupply := []
  mons : SMap IntfMon := []
  lastT : Nat := 0
  stepped : Bool := false
  acqDone : Bool := false
  gone : Bool := false
  blocks : List (List Word) := []
  navB : Bool := false
  navCount : Nat := 0
  navLost : Nat := 0
  stopped : Bool := false
deriving DecidableEq, Repr


/-! ### Filter chains, encoders, serial channels (spec/16_filter_chains_encoders.md) -/

/-- A filter chain beyond its registers: integrators and comb registers (64 bits), the last 32 x values newest first,
the present FIR page, the DC mean (48 fraction bits), outputs still to be suppressed, faults that hold (0 STUCK,
1 CLKLOSS), a published swap's address. -/
structure Chain where
  ints : List (BitVec 64) := []
  combs : List (BitVec 64) := []
  xs : List Int := []
  page : List Word := List.replicate 32 0
  m : Int := 0
  settle : Nat := 0
  faults : List Nat := []
  swap : Option Nat := none
deriving DecidableEq, Repr

/-- The DFC block: chains, since when the mains tracker's conditions have held, SDM lost. -/
structure Dfc where
  chains : SMap Chain := []
  okEl : Option Nat := none
  stopped : Bool := false
deriving DecidableEq, Repr

/-- An encoder channel beyond its registers: A and B as accepted, position counter, samples (p, elapsed time) newest
first since it became valid, T of its last sample, a trigger's sample due, elapsed time of the last fault, whether it
is in fault, an SSI read running with its T and elapsed time, whether a new sample fell due while it ran. -/
structure EncChannel where
  a : Bool := false
  b : Bool := false
  r : Nat := 0
  hist : List (Word × Nat) := []
  lastT : Nat := 0
  due : Bool := false
  faultEl : Nat := 0
  fault : Bool := false
  read : Option (Nat × Nat) := none
  overrun : Bool := false
deriving DecidableEq, Repr

/-- A received message: bytes, first start bit's T, FERR, PERR, BRK, TRUNC, DLM. -/
structure SerMessage where
  bytes : List Byte := []
  stamp : Nat := 0
  ferr : Bool := false
  perr : Bool := false
  brk : Bool := false
  trunc : Bool := false
  dlm : Bool := false
deriving DecidableEq, Repr

/-- R468: a message in the transmit queue: bank address, length, group, the tag of its bank's mark, elapsed time of its
start once it has started. -/
structure SerTx where
  addr : Nat
  len : Nat
  group : Nat
  tag : Nat
  start : Option Nat := none
deriving DecidableEq, Repr

/-- A serial channel beyond its registers: the message being received and when its last character ended, messages
ended and not delivered, bytes lost before the next, whether the last message was clean, transmit queue, elapsed time
at which the driver is disabled, that of the last stop bit sent, whether the last message sent ended SENT. -/
structure SerChannel where
  cur : Option SerMessage := none
  lastEl : Nat := 0
  ended : List SerMessage := []
  lost : Bool := false
  dirty : Bool := false
  txq : List SerTx := []
  drvEl : Nat := 0
  sentEl : Option Nat := none
  failed : Bool := false
deriving DecidableEq, Repr

/-- The serial channels; `next` numbers the transmit messages. -/
structure Serial where
  chans : SMap SerChannel := []
  next : Nat := 0
deriving DecidableEq, Repr


/-! ### CAN FD (spec/17_can_fd.md) -/

/-- R483 to R488: a transmit entry: its 18-word image, publishing group and full-stop sequence, order of publication,
elapsed time of the full stop, whether it is eligible, whether its frame is in transmission, attempts, T of the last
SOF, whether it has been cancelled, consecutive collisions in the data field. -/
structure CanEntry where
  image : List Word
  group : Nat
  seq : Nat
  no : Nat
  el : Nat
  eligible : Bool := false
  started : Bool := false
  att : Nat := 0
  sof : Option Nat := none
  cancelled : Bool := false
  coll : Nat := 0
deriving DecidableEq, Repr

/-- A CAN channel beyond its registers: transmit entries in order of publication, error counters, completion records
that wait, ring write place, unacknowledged records, whether CAN_TXC_LOST awaits its end, receive queue, whether the
last frame accepted was lost. -/
structure CanChannel where
  queue : List CanEntry := []
  next : Nat := 0
  tec : Nat := 0
  rec_ : Nat := 0
  store : List (List Word) := []
  wptr : Nat := 0
  unack : Nat := 0
  lostOn : Bool := false
  rx : List (List Word) := []
  lossOn : Bool := false
deriving DecidableEq, Repr


/-! ### Start-up, reset, addressing, service protocol (spec/20_startup_reset_update.md, spec/21_electrical_mechanical.md) -/

/-- R544: how far the unit has come since its reset: no feed; self-test; image check; address; pair and loader; program
running; service-only operation (R541). -/
inductive Stage where
  | off | selftest | images | address | loader | running | service
deriving DecidableEq, Repr

/-- R557: an open session: level (0 observer, 1 maintainer, 2 commissioner), elapsed time of its last request. -/
structure Session where
  level : Nat := 0
  el : Nat := 0
deriving DecidableEq, Repr

/-- R55, R57, R58: evaluations of an island in a row: at or above MARGIN_HI, below MARGIN_LO at VCODE 50, at or above
MARGIN_LO. -/
structure AvsCount where
  high : Nat := 0
  low : Nat := 0
  good : Nat := 0
deriving DecidableEq, Repr

/-- Start-up, reset and service state beyond the registers. `image`: the slot to be started; `selIn`, `soloIn`: the strap
inputs now; `rstPend`: the cause of a pending orderly reset, `rstEl` its instant once it is known; `lostNow`: clock
domains not running now, `holdReset` those of R48 that hold
the unit in reset;
`flash`: the bytes of the two slots, slot × 2^26 + offset; `keys`: the public key of each key slot; `sessions` by
number; `plugIn`: the sense pin of CHAIN_IN;
`chain`: the ADDR of the last valid chain frame and how many in a row carried it, `chainGot` the first ADDR that three in a
row carried (R547), `chainEl` its instant, `chainOther`
since when the frames carry another address, and the break and change already reported; `imgEl`: since when the peer's
image hash differs; `dupEl`: a duplicate address was seen since the reset; `powering`: blocks switched back on,
with the instant, that are not ready yet (R54); `imgVals`: the values the loader took from the image, by port (R9, R545);
`ocxo`: the ns for which the OCXO had run at the last reset (R326); `avs` by island; `envOn`: ENV_RANGE written and not ended; `lowFeeds`: feeds recorded low; `powerFail`: power-fail detection has
closed the recorder; `gapDue`: the first sequence found unwritten at the start, and how many (R529). -/
structure Boot where
  stage : Stage := .selftest
  image : Option Nat := none
  selIn : Bool := false
  soloIn : Bool := false
  rstPend : Option Nat := none
  rstEl : Option Nat := none
  holdReset : List Nat := []
  lostNow : List Nat := []
  flash : List Host.Cell := []
  keys : SMap (List Byte) := []
  sessions : SMap Session := []
  nextSession : Nat := 1
  plugIn : Bool := false
  chain : Option (Nat × Nat) := none
  chainGot : Option Nat := none
  chainEl : Nat := 0
  chainOther : Option Nat := none
  chainBroken : Bool := false
  chainChanged : Bool := false
  powerFail : Bool := false
  gapDue : Option (Nat × Nat) := none
  imgEl : Option Nat := none
  imgNoted : Bool := false
  dupEl : Option Nat := none
  powering : List (Nat × Nat) := []
  imgVals : SMap Word := []
  ocxo : Nat := 0
  avs : SMap AvsCount := []
  envOn : Bool := false
  lowFeeds : List Nat := []
deriving DecidableEq, Repr


/-! ### What the unit holds for a later FAB clock -/

/-- R92: a bank store of a lockstep pair that waits for its comparison: the FAB clock at whose end it is released. -/
structure HeldStore where
  pair : Nat
  rel : Nat
  addr : Nat
  bytes : List Byte
deriving DecidableEq, Repr

/-- R241: what a loop slot's sources held at the end of the LOOP clock before this one: registers, bank bytes and owners, stream
slots, loop slots. -/
structure Held where
  regs : SMap Word := []
  cells : List Host.Cell := []
  owner : SMap Nat := []
  eth : SMap TelSlot := []
  lpe : SMap LoopSlot := []
deriving DecidableEq, Repr

/-- What the rules that order events by FAB clock need. `acted`: the clock and the rank of the latest access of a block
(R123, R579: 0 a read, 1 + e engine e, 9 the service protocol); `hot`: the bits that hardware has set in this clock, by port,
and `hotNext` those it sets in the next (R10, R76); `held`: lockstep stores not yet released (R92); `sets`: positions that
virtual axes take in the next clock, and `ticked` the axis tick (T div 1000) that each had seen when it took one (R145); `met`: the clocks from issue after which the condition of an engine's wait first
held (R80); `step`: the clock of the last step of T and how far the order of R333 has come in it; `was`: the values held before this LOOP
clock (R241). -/
structure Timing where
  acted : Nat × Nat := (0, 0)
  hot : SMap Word := []
  hotNext : SMap Word := []
  held : List HeldStore := []
  sets : SMap Word := []
  ticked : SMap Nat := []
  met : SMap Nat := []
  step : Nat × Nat := (0, 0)
  was : Held := {}
deriving DecidableEq, Repr

/-- What leaves the unit on its lines. -/
inductive OutItem where
  /-- A precision time message of a port: IEEE 1588 message type and sequence number, domain, whether over UDP, what it carries. -/
  | ptp (port kind seq dom : Nat) (udp : Bool) (body : List Nat)
  /-- A twin telegram (or pair beacon) on a LAN, and the frame it travels in (R503, R586). -/
  | telegram (c : TelCopy) (frame : List Byte)
  /-- The bytes of a message sent on a serial channel (R469). -/
  | serial (channel : Nat) (bytes : List Byte)
  /-- A CAN frame completed on a channel (R485). -/
  | can (channel : Nat) (image : List Word)
  /-- A frame on a Burtair lane (R339). -/
  | pairFrame (lane : Nat) (bytes : List Byte)
  /-- A down-frame on the link of a field group (R418). -/
  | iso (group frame : Nat)
  /-- An address frame on CHAIN_OUT (R546). -/
  | chain (frame : Word)
  /-- A reply of the service protocol (R556). -/
  | service (session tag cmd status : Nat) (data : List Byte)
deriving DecidableEq, Repr

end Sys2Proof.Machine
end

