-- ==== Sys2Proof/Machine/State.lean ====
section
/-! DEFINITION. Machine/State.lean: the unit's state, the reasons a command can stop, and the state after reset. -/
namespace Sys2Proof.Machine

/-- What stops the unit. No command of this model faults: every condition the spec calls an error has an effect on
the state (a flag, a counter, a record), so the type has the one constructor that names the absence of a bank
beyond the 64, which no operand can form. Safe. -/
inductive Fault where
  /-- Raised by nobody (a bank address is six bits wide). Safe. -/
  | noSuchBank (b : Nat)
deriving DecidableEq, Repr

/-- What the model does not run. -/
inductive Refusal where
  /-- Raised by an arm of exec whose command has no meaning yet. Safe: the run stops. -/
  | notModelled (mnemonic : String)
deriving DecidableEq, Repr

/-- The unit. -/
structure State where
  /-- Commands that wait, first in first out. -/
  pending : List Instr := []
  /-- FAB clocks since reset; R578 numbers them from 0. -/
  clk : Nat := 0
  /-- The model's own field: the index of the next free value (see Config.freeWord). -/
  free : Nat := 0
  /-- What waits for a later FAB clock, and what orders the events of one clock. -/
  now : Timing := {}
  /-- Port registers that have been written since the reset, by port address; any other holds its reset word. -/
  regs : SMap Word := []
  /-- Per-party registers, keyed party × 65536 + port (windows, cursors, selections, element buffers). -/
  priv : SMap Word := []
  /-- R25: the latch of each party for each identity, keyed party × 65536 + the identity's first port: the lead and the
  values. -/
  latches : SMap (Nat × List Word) := []
  /-- Clause engines CE0 to CE7. -/
  engs : SMap Engine := []
  sched : Sched := {}
  tb : Timebase := {}
  /-- R142: the wave phase of the fusion engine and the mains phase of the filter chains. -/
  wave : Phase := {}
  mains : Phase := {}
  banks : Banks := {}
  sol : Solver := {}
  opt : Sequencer := {}
  lpe : Loops := {}
  field : FieldIo := {}
  gnb : Gnb := {}
  dfc : Dfc := {}
  enc : SMap EncChannel := []
  ser : Serial := {}
  can : SMap CanChannel := []
  fus : Fusion := {}
  eth : Eth := {}
  saf : Saf := {}
  pair : Pair := {}
  evr : Evr := {}
  boot : Boot := {}
  /-- The model's own field: what has left the unit on its lines, oldest first. -/
  out : List OutItem := []
  /-- R50: the conditions that make the unit unhealthy now. -/
  health : List HealthCause := []
deriving DecidableEq, Repr

/-- The unit right after reset: every register at the value of its Reset column, every bank with DMA channel 0,
memory all zero, nothing running. -/
def State.reset : State := {}

end Sys2Proof.Machine
end

