-- ==== Sys2Proof/Machine/Ops.lean ====
section
/-! DEFINITION. Machine/Ops.lean: the named operations over registers, engines, banks, records and groups that
every meaning uses. -/
namespace Sys2Proof.Machine

/-! ### Registers -/

/-- The word a port register holds. -/
def State.reg (s : State) (a : Nat) : Word := mgetD s.regs a (resetWord a)

/-- A port register set to a word. -/
def State.setReg (s : State) (a : Nat) (v : Word) : State := { s with regs := mput s.regs a v }

/-- A field of a port register. -/
def State.regF (s : State) (a hi lo : Nat) : Nat := fld (s.reg a) hi lo

/-- One bit of a port register. -/
def State.regB (s : State) (a i : Nat) : Bool := bit (s.reg a) i

/-- A field of a port register replaced. -/
def State.setRegF (s : State) (a hi lo v : Nat) : State := s.setReg a (setFld (s.reg a) hi lo v)

/-- What waits for a later FAB clock changed by `f`. -/
def State.updNow (s : State) (f : Timing → Timing) : State := { s with now := f s.now }

/-- R10: the bits of port `a` that hardware has set in this FAB clock. -/
def State.hotBits (s : State) (a : Nat) : Word := mgetD s.now.hot a 0

/-- R10: hardware sets the bits `m` of port `a` in this FAB clock. -/
def State.orBits (s : State) (a : Nat) (m : Word) : State :=
  (s.setReg a (s.reg a ||| m)).updNow (fun x => { x with hot := mput x.hot a (mgetD x.hot a 0 ||| m) })

/-- R10, R76: as `orBits`, for bits that hardware sets in the FAB clock after this one. -/
def State.orBitsNext (s : State) (a : Nat) (m : Word) : State :=
  (s.orBits a m).updNow (fun x => { x with hotNext := mput x.hotNext a (mgetD x.hotNext a 0 ||| m) })

/-- A sticky or status bit set. -/
def State.setBitR (s : State) (a i : Nat) : State := s.orBits a (bitMask i)

/-- A status bit cleared. -/
def State.clrBitR (s : State) (a i : Nat) : State := s.setReg a (s.reg a &&& ~~~(bitMask i))

/-- A status bit given a value. -/
def State.putBitR (s : State) (a i : Nat) (b : Bool) : State := if b then s.setBitR a i else s.clrBitR a i

/-- A 32-bit counter advanced, wrapping (R24). -/
def State.bump (s : State) (a : Nat) (n : Nat := 1) : State := s.setReg a (s.reg a + wd n)

/-- A 32-bit counter taken back by `n`, wrapping. -/
def State.drop (s : State) (a : Nat) (n : Nat := 1) : State := s.setReg a (s.reg a - wd n)

/-- A counter field advanced, wrapping at its width. -/
def State.bumpF (s : State) (a hi lo : Nat) : State := s.setRegF a hi lo (s.regF a hi lo + 1)

/-- R25: the number of a party: the engine, or 8 for the service protocol. -/
def partyNo : Party → Nat
  | .eng e => e.val
  | .svc _ => 8

/-- A per-party register. -/
def State.preg (s : State) (p a : Nat) : Word := mgetD s.priv (p * 65536 + a) (resetWord a)

/-- A per-party register set. -/
def State.setPreg (s : State) (p a : Nat) (v : Word) : State := { s with priv := mput s.priv (p * 65536 + a) v }

/-! ### Time, health -/

/-- R50: the unit is healthy while no cause stands. -/
def State.healthy (s : State) : Bool := s.health.isEmpty

/-- R12, R15: the unit runs without a peer. -/
def State.solo (s : State) : Bool := s.regB Reg.SYS_STRAP 1

/-- This unit holds authority. -/
def State.hold (s : State) : Bool := s.regB Reg.BTL_STAT 25

/-- R349, R15: the output enables are driven. -/
def State.driven (s : State) : Bool := s.hold && (s.solo || !s.pair.authIn)

/-- The pair logic changed by `f`. -/
def State.updPair (s : State) (f : Pair → Pair) : State := { s with pair := f s.pair }

/-- R50, R352: an unhealthy unit that does not hold authority withdraws its claim. -/
def State.withdrawClaim (s : State) : State :=
  if s.hold then s
  else s.updPair (fun p => { p with waiting := false, window := none, takeover := false, toggling := false
                                    armSeq := none, armEl := none })

/-- A cause of bad health added. -/
def State.addHealth (s : State) (h : HealthCause) : State :=
  if s.health.contains h then s
  else
    let s' : State := { s with health := s.health ++ [h] }
    if s.healthy then s'.withdrawClaim else s'

/-- A cause of bad health ended. -/
def State.dropHealth (s : State) (h : HealthCause) : State :=
  { s with health := s.health.filter (fun x => x != h) }

/-- T bits 31:0, the position of AX0 (R142). -/
def State.tmbNs (s : State) : Word := wd s.tb.t

/-- A free value: a word the spec leaves open, and the state with the index of the next one. -/
def State.freeValue (s : State) : Word × State := (Config.freeWord s.free, { s with free := s.free + 1 })

/-- Something leaves the unit. -/
def State.emit (s : State) (o : OutItem) : State := { s with out := s.out ++ [o] }

/-- R48: clock domain `d` is lost now. -/
def State.domainOut (s : State) (d : Nat) : Bool := s.boot.lostNow.contains d

/-- R48: without ETX no Ethernet port transmits. -/
def State.etherOut (s : State) (o : OutItem) : State := if s.domainOut 6 then s else s.emit o

/-! ### Blocks that are off -/

/-- The ports of a block of PWR_OFF: 0 GNB, 1 SOLV, 2 FUS, 3 LPE, 4 DFC. -/
def blockPorts (b a : Nat) : Bool :=
  match b with
  | 0 => decide (0x4800 ≤ a) && decide (a < 0x5000)
  | 1 => decide (0x1400 ≤ a) && decide (a < 0x1C00)
  | 2 => decide (0x4000 ≤ a) && decide (a < 0x4800)
  | 3 => decide (0x2000 ≤ a) && decide (a < 0x4000)
  | _ => decide (0x6800 ≤ a) && decide (a < 0x6C00)

/-- R54: a block is off, or not ready since it was switched on. -/
def State.blockOff (s : State) (b : Nat) : Bool := s.regB Reg.PWR_OFF b || s.boot.powering.any (fun q => q.1 == b)

/-- R54: the block of a port is off. -/
def State.portOff (s : State) (a : Nat) : Bool := (List.range 5).any (fun b => blockPorts b a && s.blockOff b)

/-! ### Engines -/

/-- Engine `e`. -/
def State.eng (s : State) (e : Nat) : Engine := mgetD s.engs e {}

/-- Engine `e` replaced. -/
def State.setEng (s : State) (e : Nat) (x : Engine) : State := { s with engs := mput s.engs e x }

/-- Engine `e` changed by `f`. -/
def State.updEng (s : State) (e : Nat) (f : Engine → Engine) : State := s.setEng e (f (s.eng e))

/-- R60: register Wr of an engine; W0 reads 0. -/
def Engine.w (x : Engine) (r : Nat) : Word := if r = 0 then 0 else mgetD x.regs r 0

/-- R60: a register write; a write to W0 is discarded. -/
def Engine.setW (x : Engine) (r : Nat) (v : Word) : Engine :=
  if r = 0 then x else { x with regs := mput x.regs r v }

/-- R60: predicate Pk; P0 reads 1. -/
def Engine.p (x : Engine) (k : Nat) : Bool := if k = 0 then true else mgetD x.pred k false

/-- R60: a predicate write; a write to P0 is discarded. -/
def Engine.setP (x : Engine) (k : Nat) (b : Bool) : Engine :=
  if k = 0 then x else { x with pred := mput x.pred k b }

/-- Accumulator Ak. -/
def Engine.a (x : Engine) (k : Nat) : Acc := mgetD x.acc k 0

/-- An accumulator write. -/
def Engine.setA (x : Engine) (k : Nat) (v : Acc) : Engine := { x with acc := mput x.acc k v }

/-- Register Wr of engine `e`. -/
def State.w (s : State) (e r : Nat) : Word := (s.eng e).w r

/-- Register Wr of engine `e` written. -/
def State.setW (s : State) (e r : Nat) (v : Word) : State := s.updEng e (fun x => x.setW r v)

/-- Predicate Pk of engine `e` written. -/
def State.setP (s : State) (e k : Nat) (b : Bool) : State := s.updEng e (fun x => x.setP k b)

/-! ### Lockstep -/

/-- CLE_LSCTL in force: pair `p` runs in lockstep. -/
def State.pairOn (s : State) (p : Nat) : Bool := s.regB Reg.CLE_LSCTL p

/-- Engine `e` is of a pair in lockstep. -/
def State.locked (s : State) (e : Nat) : Bool := s.pairOn (e / 2)

/-- R164: the engine by which engine `e` owns banks: the even engine of a lockstep pair. -/
def State.ownerOf (s : State) (e : Nat) : Nat := if s.locked e then 2 * (e / 2) else e

/-! ### Records -/

/-- R588: the code of a record. The recorder's own records have the codes of its table. -/
def recCode : RecBody → Nat
  | .program c _ _ => c
  | .unit n _ _ =>
    match n with
    | .evrStart => 0x2001
    | .evrClear => 0x2002
    | .evrClearRefused => 0x2003
    | .evrGap => 0x2004
    | .evrIntakeLost => 0x2005
    | .evrFreeze => 0x2006
    | .evrStoreFail => 0x2007
    | .evrUtcChange => 0x2008
    | other => recBlock other * 256 + (Config.recIndex other.ctorIdx % 255 + 1)

/-- The recorder's own records (R588). -/
def isOwnRecord (n : RecName) : Bool := recBlock n == 32

/-- R49, R523: the design level of a record whose fault the level table of R49 names: bit cell (parity, SECDED on
instruction memory), macro (self-test), tile (lockstep, residue, lane check), block (port timeout), die (clock loss, margin
loss), compute package (image signature, flash), module (feeds, field supplies, isolation links, pair heartbeat). -/
def namedLevel : RecName → Option Nat
  | .bankParity | .imemUe => some 0
  | .macroFail => some 1
  | .lockstepDiverge | .lockstepFail | .solTileFault | .solTileOff | .laneFault => some 2
  | .portTimeout => some 3
  | .clockLoss | .aonClock | .gnbClock | .ethClock | .dfcClock | .avsLimit => some 4
  | .imageSig | .evrStoreFail => some 5
  | .feedLow | .fioLinkLoss | .fioFsLow | .pairPeerFail => some 6
  | _ => none

/-- R523: the source of a record. The level of a record that the table of R49 does not name is open (Config.recLevel). -/
def recSource : RecBody → Nat
  | .program _ src _ => src
  | .unit n el _ =>
    if isOwnRecord n then 0x3800
    else ((namedLevel n).getD (Config.recLevel n.ctorIdx % 7)) * 4096 + (recBlock n % 64) * 64 + el % 64

/-- The items of the recorder's own records as bytes: pairs of a value and its length in bytes are laid out from
byte 0 in the order of the table of R588. -/
def packBytes : List (Nat × Nat) → List Byte
  | [] => []
  | (v, n) :: t => bytesLE v n ++ packBytes t

/-- R588: the payload of a record: 30 bytes, unused bytes 0. -/
def recPayload : RecBody → List Byte
  | .program _ _ p => (p ++ List.replicate 30 0).take 30
  | .unit n _ items =>
    let raw : List Byte :=
      match n, items with
      | .evrStart, [q, p] => packBytes [(q, 6), (p, 3)]
      | .evrClear, [q, tok, who] => packBytes [(q, 6), (tok, 8), (who, 1)]
      | .evrClearRefused, [tok, cause] => packBytes [(0, 6), (tok, 8), (0, 1), (cause, 1)]
      | .evrGap, [q, k, area, cause] => packBytes [(q, 6), (k, 4), (area, 1), (cause, 1)]
      | .evrIntakeLost, [k] => packBytes [(k, 4)]
      | .evrFreeze, [slot, q] => packBytes [(slot, 1), (q, 6)]
      | .evrStoreFail, [b] => packBytes [(b, 4)]
      | .evrUtcChange, [o, u, v] => packBytes [(o, 2), (u, 2), (v, 1)]
      | _, _ => Config.recPayload n.ctorIdx items
    (raw ++ List.replicate 30 0).take 30

/-- R534: the code matches an enabled trigger. -/
def State.freezeMatch (s : State) (code : Unit → Nat) : Bool :=
  (List.range 16).any (fun k =>
    let m := s.regF (Reg.EVR_FTRIG k) 31 16
    m != 0 && (((code ()) ^^^ (s.regF (Reg.EVR_FTRIG k) 15 0)) &&& m) == 0)

/-- The first freeze slot that is EMPTY. -/
def State.emptySlot (s : State) : Option Nat :=
  findFrom (fun k => (mgetD s.evr.slots k {}).state == 0) 4 0

/-- R524, R525: the part of the intake a record can take: 0 shared (256 entries), 1 the unit's further 32. -/
def State.intakePart (s : State) (isLog : Bool) : Option Nat :=
  let shared := (s.evr.intake.filter (fun r => r.part == 0)).length
  let extra := (s.evr.intake.filter (fun r => r.part == 1)).length
  if shared < 256 then some 0 else if !isLog && extra < 32 then some 1 else none

/-- R521: a record's fields, filled at acceptance. -/
def State.makeRecord (s : State) (part : Nat) (frz : Bool) (b : RecBody) : EvRecord :=
  let st := s.regF Reg.TMB_STAT 31 30
  let ofs := sext 16 (s.regF Reg.TMB_UTC 15 0)
  { seq := s.evr.nextSeq
    utcv := s.regB Reg.TMB_UTC 31 && st != 0
    hold := st == 3
    auth := s.regB Reg.BTL_STAT 25 || s.regB Reg.SYS_STRAP 1
    frz := frz
    addr := s.regF Reg.SYS_ADDR 7 0
    optime := s.evr.optime
    pcc := s.evr.pcc
    utc := (((s.tb.t : Int) - ofs * 1000000000) % (2 ^ 64 : Nat)).toNat
    part := part
    body := b }

/-- R524: a record enters the intake in part `part` and takes its sequence number; a freeze it triggers takes a
slot and is itself recorded (R534 to R536). `fuel` bounds the freezes one record can set off (four slots). -/
def State.enter (s : State) (part : Nat) (b : RecBody) : Nat → State
  | 0 => s
  | fuel + 1 =>
    let hit := s.freezeMatch (fun _ => recCode b)
    let slot := if hit then s.emptySlot else none
    let r := s.makeRecord part slot.isSome b
    let s1 : State := { s with evr := { s.evr with nextSeq := s.evr.nextSeq + 1, intake := s.evr.intake ++ [r] } }
    let s2 := (s1.bump Reg.EVR_NACC).bump Reg.EVR_NPEND
    match slot with
    | none => if hit then (s2.bump Reg.EVR_NFRZMISS).setBitR Reg.EVR_STK 1 else s2
    | some k =>
      let pre := s2.regF Reg.EVR_FCFG 9 0
      let first : Int := (r.seq : Int) - (pre : Int)
      let old := s2.evr.circ.filter (fun x => decide (first ≤ (x.1 : Int)) && decide ((x.1 : Int) < first + 1024))
      let recs := old.map (fun x => ((((x.1 : Int) - first).toNat), x.2))
      let sl : FreezeSlot := { state := 1, trig := r.seq, first := first, recs := recs, snapDue := true }
      let s3 : State := { s2 with evr := { s2.evr with slots := mput s2.evr.slots k sl } }
      let s4 := (s3.setReg (Reg.EVR_FST k) (wd (2 ^ 30 + (r.seq / 2 ^ 32) % 65536))).setReg (Reg.EVR_FSTL k) (wd r.seq)
      let fb := RecBody.unit .evrFreeze 0 [k, r.seq]
      match s4.intakePart false with
      | some q => s4.enter q fb fuel
      | none => ({ s4 with evr := { s4.evr with refused := s4.evr.refused + 1,
                                                refusedParts := [0, 1] } }.bump Reg.EVR_NINLOST).setBitR Reg.EVR_STK 0

/-- R525: a record is accepted or refused; the answer says which. -/
def State.accept (s : State) (isLog : Bool) (b : RecBody) : State × Bool :=
  if s.evr.closed then (s, false)
  else
    match s.intakePart isLog with
    | some q => (s.enter q b 5, true)
    | none =>
      let parts := if isLog then [0] else [0, 1]
      let s1 : State := { s with evr := { s.evr with refused := s.evr.refused + 1,
                                                     refusedParts := parts.foldl (fun l q => if l.contains q then l else l ++ [q]) s.evr.refusedParts } }
      ((s1.bump Reg.EVR_NINLOST).setBitR Reg.EVR_STK 0, false)

/-- A record of the unit is written: the record names its element and its items (R588). Until the address is taken or
kept it is held (R589). -/
def State.record (s : State) (n : RecName) (el : Nat := 0) (items : List Nat := []) : State :=
  if s.evr.holding then { s with evr := { s.evr with held := s.evr.held ++ [.unit n el items] } }
  else (s.accept false (.unit n el items)).1

/-! ### Banks -/

/-- One byte of a byte store in canonical form; an unlisted address reads 0 (R584). -/
def cellGet : List Host.Cell → Nat → Byte
  | [], _ => 0
  | (q, b) :: t, a => if q = a then b else cellGet t a

/-- A byte written, the form kept: addresses rising, no listed 0. -/
def cellPut : List Host.Cell → Nat → Byte → List Host.Cell
  | [], a, v => if v = 0 then [] else [(a, v)]
  | (q, b) :: t, a, v =>
    if a < q then (if v = 0 then (q, b) :: t else (a, v) :: (q, b) :: t)
    else if a = q then (if v = 0 then t else (a, v) :: t)
    else (q, b) :: cellPut t a v

/-- The canonical form of a byte store. -/
def cellsWf : List Host.Cell → Bool
  | [] => true
  | (q, b) :: t => b != 0 && (t.all (fun c => decide (q < c.1))) && cellsWf t

/-- Consecutive bytes written. -/
def cellsPut (m : List Host.Cell) (a : Nat) : List Byte → List Host.Cell
  | [] => m
  | b :: t => cellsPut (cellPut m a b) (a + 1) t

/-- `n` consecutive bytes read. -/
def cellsGet (m : List Host.Cell) (a n : Nat) : List Byte :=
  (List.range n).map (fun i => cellGet m (a + i))

/-- The byte address of an offset in a bank. -/
def bankAddr (b off : Nat) : Nat := b * 32768 + off % 32768

/-- The owner code of a bank; DMA channel 0 at reset (R165). -/
def State.owner (s : State) (b : Nat) : Nat := mgetD s.banks.owner b 0x38

/-- A bank passed to an owner (R164). -/
def State.setOwner (s : State) (b o : Nat) : State := { s with banks := { s.banks with owner := mput s.banks.owner b o } }

/-- Whether a bank is in retention or waking. -/
def State.bankAsleep (s : State) (b : Nat) : Bool := mgetD s.banks.power b .awake != .awake

/-- An access to a bank: it wakes, and its idle time starts again (R168, R169). -/
def State.touch (s : State) (b : Nat) : State :=
  { s with banks := { s.banks with power := mput s.banks.power b .awake, lastUse := mput s.banks.lastUse b s.clk } }

/-- The words of `n` bytes at byte address `a` that are in error. -/
def State.badWords (s : State) (a n : Nat) : List Nat :=
  s.banks.parity.filter (fun w => decide (a / 4 ≤ w) && decide (w ≤ (a + n - 1) / 4))

/-- R170: the words among `l` that a read of `n` bytes at byte address `a` meets are found in error. -/
def State.markUpset (s : State) (a n : Nat) (l : List Nat) : State :=
  let new := l.filter (fun w => decide (a / 4 ≤ w) && decide (w ≤ (a + n - 1) / 4) && !(s.banks.parity.contains w))
  if n = 0 ∨ new.isEmpty = true then s else { s with banks := { s.banks with parity := s.banks.parity ++ new.eraseDups } }

/-- R168, R170: a read of `n` bytes at byte address `a` is an access to the bank, and reports the words in error it meets; the
answer says whether there were any. -/
def State.noteParity (s : State) (a n : Nat) : State × Bool :=
  let bad := if n = 0 then [] else s.badWords a n
  let s := if n = 0 then s else s.touch (a / 32768)
  (bad.foldl (fun s w =>
      let s1 := (s.bumpF Reg.MBK_PERR 31 24).setRegF Reg.MBK_PERR 20 0 (4 * w)
      (s1.setBitR Reg.MBK_STK 1).record .bankParity ((4 * w) / 32768)
        [(4 * w) / 32768, (4 * w) % 32768, s.owner ((4 * w) / 32768)]) s,
    !bad.isEmpty)

/-- `n` bytes of the banks at byte address `a`, as a number, least significant byte first (R4). -/
def State.bankNum (s : State) (a n : Nat) : Nat := ofBytesLE (cellsGet s.banks.cells a n)

/-- A 32-bit word of a bank at a byte offset. -/
def State.bankWord (s : State) (b off : Nat) : Word := wd (s.bankNum (bankAddr b off) 4)

/-- `n` consecutive words from a byte address. -/
def State.bankWords (s : State) (a n : Nat) : List Word := (List.range n).map (fun i => wd (s.bankNum (a + 4 * i) 4))

/-- R168, R171: bytes stored at byte address `a`, an access to the bank. Whole words written take fresh parity; a word written in
part keeps its mark. -/
def State.storeBytes (s : State) (a : Nat) (bs : List Byte) : State :=
  let whole := fun w => decide (a ≤ 4 * w) && decide (4 * w + 4 ≤ a + bs.length)
  { s with banks := { s.banks with cells := cellsPut s.banks.cells a bs,
                                   power := mput s.banks.power (a / 32768) .awake,
                                   lastUse := mput s.banks.lastUse (a / 32768) s.clk,
                                   parity := s.banks.parity.filter (fun w => !whole w) } }

/-- A read of `n` words by a block (R168, R170). -/
def State.readWords (s : State) (a n : Nat) : State := (s.noteParity a (4 * n)).1

/-- Words stored from a byte address on. -/
def State.storeWords (s : State) (a : Nat) (ws : List Word) : State := s.storeBytes a (wordBytes ws)

/-! ### Groups, clauses -/

/-- Output group `g`. -/
def State.group (s : State) (g : Nat) : Group := mgetD s.sched.groups g {}

/-- Output group `g` changed by `f`. -/
def State.updGroup (s : State) (g : Nat) (f : Group → Group) : State :=
  { s with sched := { s.sched with groups := mput s.sched.groups g (f (s.group g)) } }

/-- Clause descriptor fields in force. -/
def State.clauseEn (s : State) (c : Nat) : Bool := s.regB (Reg.SCH_CDA c) 31
def State.clauseType (s : State) (c : Nat) : Nat := s.regF (Reg.SCH_CDA c) 30 28
def State.clausePrio (s : State) (c : Nat) : Nat := s.regF (Reg.SCH_CDA c) 27 24
def State.clauseGroup (s : State) (c : Nat) : Nat := s.regF (Reg.SCH_CDA c) 23 20
def State.clauseLock (s : State) (c : Nat) : Bool := s.regB (Reg.SCH_CDA c) 19
def State.clauseFloat (s : State) (c : Nat) : Bool := s.regB (Reg.SCH_CDA c) 18
def State.clauseEngine (s : State) (c : Nat) : Nat := s.regF (Reg.SCH_CDA c) 17 15
def State.clauseEntry (s : State) (c : Nat) : Nat := s.regF (Reg.SCH_CDA c) 14 0
def State.clauseBset (s : State) (c : Nat) : Nat := s.regF (Reg.SCH_CDB c) 31 28
def State.clauseBudget (s : State) (c : Nat) : Nat := s.regF (Reg.SCH_CDB c) 24 0
def State.groupEn (s : State) (g : Nat) : Bool := s.regB (Reg.SCH_GAX g) 31
def State.groupAxis (s : State) (g : Nat) : Nat := s.regF (Reg.SCH_GAX g) 30 28

/-- The engine that hosts a clause: where placement put it, else the engine of its descriptor (R158). -/
def State.hostOf (s : State) (c : Nat) : Nat := mgetD s.sched.host c (s.clauseEngine c)

/-- The execution counters of a clause. -/
def State.counts (s : State) (c : Nat) : ClauseCounts := mgetD s.sched.counts c {}

/-- The execution counters of a clause changed. -/
def State.updCounts (s : State) (c : Nat) (f : ClauseCounts → ClauseCounts) : State :=
  { s with sched := { s.sched with counts := mput s.sched.counts c (f (s.counts c)) } }

/-- R119: the code of an end state. -/
def EndState.code : EndState → Nat
  | .ended => 0
  | .budget => 1
  | .overrun => 2
  | .diverge => 3
  | .illegal => 4
  | .imemFault => 5

/-- SAF.GETIN, Wd[15:0]: bit k is 1 when pair k reads its non-safe state. -/
def State.safIn (s : State) : Nat := s.regF Reg.SAF_PSTAT 15 0

/-- R406: the clause watchdogs of the enabled functions of a clause restart. -/
def State.safRestart (s : State) (c : Nat) : State :=
  (List.range 16).foldl (fun s f =>
    if s.regB (Reg.SAF_FA f) 31 && s.regF (Reg.SAF_FA f) 15 8 == c then
      { s with saf := { s.saf with wdEl := mput s.saf.wdEl f s.tb.el } }
    else s) s

/-! ### Axes -/

/-- Axis `n`, 1 to 7. -/
def State.axis (s : State) (n : Nat) : Axis := mgetD s.sched.axes n {}

/-- The position of an axis; AX0 is TMB_NS. -/
def State.axisPos (s : State) (n : Nat) : Word := if n = 0 then s.tmbNs else (s.axis n).pos

/-- An axis changed. -/
def State.updAxis (s : State) (n : Nat) (f : Axis → Axis) : State :=
  { s with sched := { s.sched with axes := mput s.sched.axes n (f (s.axis n)) } }

end Sys2Proof.Machine
end

