-- ==== Sys2Proof/Machine/DownLink.lean ====
section
/-! DEFINITION. Machine/DownLink.lean: the frames that the logic side sends to the field sides, and what they carry
(spec/15_field_io.md R418, R419, R423, R426, R438, R441). -/
namespace Sys2Proof.Machine

/-- The field groups changed by `f`. -/
def State.updField (s : State) (f : FieldIo → FieldIo) : State := { s with field := f s.field }

/-- One bit of CRC-16/CCITT, most significant bit first, polynomial 16#1021. -/
def crc16Bit (c b : Nat) : Nat :=
  if (c / 32768 + b) % 2 = 1 then ((c * 2) % 65536) ^^^ 0x1021 else (c * 2) % 65536

/-- CRC-16/CCITT of the top `n` bits of the `w`-bit number `v`, initial value 16#FFFF. -/
def crc16 (v w n : Nat) : Nat := (List.range n).foldl (fun c i => crc16Bit c (b2n (v.testBit (w - 1 - i)))) 0xFFFF

/-- Fields of (width, value) one after another, the first in the most significant bits. -/
def packBits (l : List (Nat × Nat)) : Nat := l.foldl (fun a q => a * 2 ^ q.1 + q.2 % 2 ^ q.1) 0

/-- R418: the frame of group `g` in a direction with counter `n` and the payload fields `l`, from bit 231 downward. -/
def isoFrameOf (g : Nat) (up : Bool) (n : Nat) (l : List (Nat × Nat)) : Nat :=
  let used := l.foldl (fun a q => a + q.1) 0
  let top := packBits [(8, 0xB4), (2, g), (1, b2n up), (5, 0), (8, n), (216, packBits l * 2 ^ (216 - used))]
  top * 65536 + crc16 (top * 65536) 256 240

/-! ### What the frames carry -/

/-- Output `k` is a safety output. -/
def State.isSafOut (s : State) (k : Nat) : Bool := s.regB (Reg.SAF_OCFG k) 31

/-- Function `f` is enabled. -/
def State.funOn (s : State) (f : Nat) : Bool := s.regB (Reg.SAF_FA f) 31

/-- The enabled functions that satisfy `p`. -/
def State.funsWith (s : State) (p : Nat → Bool) : List Nat := (List.range 16).filter (fun f => s.funOn f && p f)

/-- The enabled functions that name output `k`. -/
def State.funsOfOut (s : State) (k : Nat) : List Nat := s.funsWith (fun f => s.regB (Reg.SAF_FB f) (16 + k))

/-- Function `f` is in its safe state. -/
def State.funSafe (s : State) (f : Nat) : Bool := s.regB Reg.SAF_FSTAT (16 + f)

/-- R396: the conditions of a safety output that do not depend on its test window and the output enables. -/
def State.safCommand (s : State) (k : Nat) : Bool :=
  s.isSafOut k && s.regB Reg.SAF_STAT k && !(s.saf.waiton.contains k)
    && !(s.regB Reg.SAF_OFLT k) && !((s.funsOfOut k).any (fun f => s.funSafe f)) && !(s.regB Reg.SAF_STAT 31)

/-- R438, R69: a loop command in the link unit of 1/2048 mA, and whether it was clamped. -/
def loopUnits (v : Word) : Nat × Bool :=
  let x := rdiv (sw v) 5
  ((clampI 0 47104 x).toNat, decide (x < 0) || decide (47104 < x))

/-- R441: the safe value of loop `c`, in link units. -/
def State.loopSafe (s : State) (c : Nat) : Nat :=
  match s.regF (Reg.CLO_CFG c) 29 28 with
  | 0 => 0
  | 1 => (rquo ((s.regF Reg.CLO_ALM 31 16 * 2048 : Nat) : Int) 100).toNat
  | 2 => (rquo ((s.regF Reg.CLO_ALM 15 0 * 2048 : Nat) : Int) 100).toNat
  | _ => (loopUnits (s.reg (Reg.CLO_SAFE c))).1

/-- One bit a channel, channel 0 first. -/
def perChannel (n : Nat) (p : Nat → Bool) : List (Nat × Nat) := (List.range n).map (fun k => (1, b2n (p k)))

/-- R423: what came about at elapsed time `el` travels in the frame that begins now: it came about in the frame period
before this one. -/
def State.inFrame (s : State) (el : Nat) : Bool := el / 5120 + 1 == s.tb.el / 5120

/-- R423, R426: the 20 ns clocks from the end of the frame that begins now to 12 µs after elapsed time `el`. -/
def State.applyAfter (s : State) (el : Nat) : Nat := (el + 12000 - (s.tb.el / 5120 + 1) * 5120) / 20

/-- APPLY of the frame of a group whose waiting publications are `l`: 0 where none travels in it. -/
def State.applyOf (s : State) (l : List FieldPub) : Nat :=
  match (l.filter (fun p => s.inFrame p.el)).getLast? with
  | some p => s.applyAfter p.el
  | none => 0

/-- R419: an input's configuration entry. -/
def State.inputEntry (s : State) (g c : Nat) : List (Nat × Nat) :=
  let a := Reg.DIO_ICFG (16 * g + c)
  [(4, c), (1, s.regF a 30 30), (1, s.regF a 29 29), (1, s.regF a 28 28), (10, s.regF a 9 0), (5, s.regF a 14 10)]

/-- R419: the payload of the down-frame of group `g` whose counter is `n`; the rotating entries follow the counter. VAL holds
what an output is commanded to: a safety output by R396, another by its DIO_OUT bit while EN = 1 and PULSE = 0
(notes/assumptions/60.md). -/
def State.downPayload (s : State) (g n : Nat) : List (Nat × Nat) :=
  match g with
  | 2 =>
    let starts := (s.field.pulses.filter (fun p => s.inFrame p.el)).take 4
    perChannel 16 (fun k =>
      if s.isSafOut k then s.safCommand k
      else s.regB (Reg.DIO_OCFG k) 31 && !(s.regB (Reg.DIO_OCFG k) 28) && s.regB Reg.DIO_OUT k)
    ++ perChannel 16 (fun k => (mget s.saf.window k).isSome)
    ++ perChannel 16 (fun k => s.regB (Reg.DIO_OCFG k) 30)
    ++ [(14, s.regF Reg.DIO_LLT 13 0), (9, s.applyOf (s.field.pubs.filter (fun p => p.loop.isNone)))]
    ++ starts.flatMap (fun p => [(1, 1), (4, p.out), (9, s.applyAfter p.el), (16, p.width)])
  | 3 =>
    (List.range 8).map (fun c => (16, (loopUnits (s.reg (Reg.CLO_CMD c))).1))
    ++ perChannel 8 (fun c => s.regB (Reg.CLO_CFG c) 30)
    ++ [(14, s.regF Reg.CLO_LLT 13 0), (9, s.applyOf (s.field.pubs.filter (fun p => p.loop.isSome)))]
    ++ (List.range 2).flatMap (fun i => let c := (2 * n + i) % 8; [(3, c), (16, s.loopSafe c)])
  | _ => (8, s.regF Reg.DIO_WBF 7 0) :: (List.range 4).flatMap (fun i => s.inputEntry g ((4 * n + i) % 16))

/-- R418: the logic side sends group `g` its next frame. -/
def State.sendDown (s : State) (g : Nat) : State :=
  let n := mgetD s.field.fcnt g 0
  (s.emit (.iso g (isoFrameOf g false n (s.downPayload g n)))).updField (fun x =>
    { x with fcnt := mput x.fcnt g ((n + 1) % 256) })

/-- R418: every 5.12 µs a frame begins on each link, unless the ISO domain is lost (R48); the next frame of G2 has room for four
pulse starts again (R426). `el` is the elapsed time before this clock. -/
def State.sendFrames (s : State) (el : Nat) : State :=
  if el / 5120 = s.tb.el / 5120 || s.domainOut 12 then s
  else ((List.range 4).foldl (fun s g => s.sendDown g) s).updField (fun x => { x with pulseCount := 0 })

end Sys2Proof.Machine
end

