-- ==== Sys2Proof/Machine/Axes.lean ====
section
/-! DEFINITION. Machine/Axes.lean: what every FAB clock evaluates: compare units and full-stop positions
(spec/05_clauses_axes_fullstop.md R142 to R149), and the conditions of waits (spec/03_programming_model.md R80,
spec/04_instruction_reference.md R118, R119, R126). -/
namespace Sys2Proof.Machine

/-- The indices whose register (base, stride, count) holds a value other than its reset word; a descriptor that
is not listed reads 0 and is disabled. -/
def State.listed (s : State) (base stride count : Nat) : List Nat :=
  s.regs.filterMap (fun x =>
    if base ≤ x.1 ∧ x.1 < base + stride * count ∧ (x.1 - base) % stride = 0 then some ((x.1 - base) / stride) else none)

/-- The clauses whose descriptor is in force. -/
def State.clauses (s : State) : List Nat := s.listed 0x0D00 3 256

/-- The groups whose SCH_GAX is in force. -/
def State.groupList (s : State) : List Nat := s.listed 0x0C80 6 16

/-- The compare units whose SCH_CMPC is in force. -/
def State.compareList (s : State) : List Nat := s.listed 0x0C41 2 32

/-! ### Compare units and full-stop positions -/

/-- Whether two successive differences both lie within a quarter turn (R147). -/
def nearTest (p d : Int) : Bool := decide (p.natAbs < 0x40000000) && decide (d.natAbs < 0x40000000)

/-- R147: one evaluation of a compare unit at difference `d` with hysteresis `h`, in FAB clock `clk`. -/
def CompareUnit.eval (u : CompareUnit) (d : Int) (h clk : Nat) (bidir jump : Bool) : CompareUnit :=
  let near := nearTest u.prev d && !jump
  let f := near && u.fwd && decide (u.prev < 0) && decide (0 ≤ d)
  let b := near && bidir && u.bwd && decide (0 ≤ u.prev) && decide (d < 0)
  { fwd := (u.fwd && !f) || decide (d ≤ -(h : Int))
    bwd := (u.bwd && !b) || decide ((h : Int) ≤ d)
    prev := d
    fire := u.fire || f || b
    fireClk := if (f || b) && !u.fire then clk else u.fireClk }

/-- R146: a unit as a commit arms it; a fire of an earlier clock, or of the commit clock itself, that has not been taken yet
still stands (R34: it is an event of the values in force before). -/
def CompareUnit.arm (u : CompareUnit) (d : Int) : CompareUnit := { u with fwd := decide (d < 0), bwd := decide (0 ≤ d), prev := d }

/-- The compare units and full-stop positions of axis `n` evaluated at its present position. -/
def State.evalAxis (s : State) (n : Nat) (jump : Bool) : State :=
  let pos := s.axisPos n
  let s := (s.compareList.filter (fun k => s.regB (Reg.SCH_CMPC k) 31 && s.regF (Reg.SCH_CMPC k) 29 27 == n)).foldl
    (fun s k =>
      let u := mgetD s.sched.cmp k {}
      let d := turnDiff pos (s.reg (Reg.SCH_CMPP k))
      let u' := u.eval d (s.regF (Reg.SCH_CMPC k) 23 8 * 4096) s.clk (s.regB (Reg.SCH_CMPC k) 30) jump
      { s with sched := { s.sched with cmp := mput s.sched.cmp k u' } }) s
  (s.groupList.filter (fun g => s.groupEn g && s.groupAxis g == n)).foldl
    (fun s g => s.updGroup g (fun x =>
      let d := turnDiff pos x.next
      let now := nearTest x.prev d && !jump && decide (x.prev < 0) && decide (0 ≤ d)
      { x with prev := d, due := x.due || now, dueClk := if now && !x.due then s.clk else x.dueClk })) s

/-- R142 to R144: axis `n` (1 to 7) moves to a position in one step: a move backward sets REV, a move of a quarter
turn or more is a jump. -/
def State.moveAxis (s : State) (n : Nat) (pos : Word) : State :=
  let old := s.axisPos n
  let d := turnDiff pos old
  let jump := decide (0x40000000 ≤ d.natAbs)
  let s := s.updAxis n (fun a => { a with pos := pos })
  let s := if d < 0 then s.setBitR Reg.SCH_AXSTK (8 + n) else s
  let s := if jump then (s.setBitR Reg.SCH_AXSTK (16 + n)).record .axisJump n [old.toNat, pos.toNat] else s
  s.evalAxis n jump

/-- R149: the first position of the form base + k × period that lies ahead of `pos`. -/
def firstAhead (base : Word) (period : Nat) (pos : Word) : Word :=
  if period = 0 then base
  else
    let k := turnDiff pos base / (period : Int) + 1
    base + wdi (k * (period : Int))

/-- R149: a group's full-stop position and the periodic triggers of its clauses set afresh. No forced full stop has fallen in
the cycle that begins so (DEDUCED from R156, notes/assumptions/57.md). -/
def State.armGroup (s : State) (g : Nat) : State :=
  let ax := s.groupAxis g
  let pos := s.axisPos ax
  let per := (s.reg (Reg.SCH_GPER g)).toNat
  let org := s.reg (Reg.SCH_GORG g)
  let next := firstAhead (org + s.reg (Reg.SCH_GFS g)) per pos
  let cs := s.clauses.filter (fun c => s.clauseGroup c == g && s.clauseType c == 0)
  let tn := cs.foldl (fun m c => mput m c (firstAhead (org + s.reg (Reg.SCH_CDC c)) per pos)) []
  s.updGroup g (fun x => { x with next := next, prev := turnDiff pos next, due := false, forcedInCycle := false, trigNext := tn })

/-! ### Full stops that are due -/

/-- R545: the program runs and scheduling has started. -/
def State.scheduling (s : State) : Bool := s.boot.stage == .running && s.sched.on

/-- R150: the full stop of group `g` is due and has not been taken. -/
def State.stopDue (s : State) (g : Nat) : Bool := s.scheduling && s.groupEn g && (s.group g).due

/-- The full stop that is due will be carried out: no forced full stop fell in its cycle (R156). -/
def State.stopReal (s : State) (g : Nat) : Bool := s.stopDue g && !(s.group g).forcedInCycle

/-- R156: the instant, in elapsed time, of the next forced full stop of group `g`. -/
def State.forcedAt (s : State) (g : Nat) : Nat := (s.group g).elapsed + s.regF (Reg.SCH_GAX g) 15 0 * 1000000

/-- R156: a forced full stop of group `g` is due: STALL ms have passed and the axis has not reached N. -/
def State.forcedDue (s : State) (g : Nat) : Bool :=
  s.scheduling && s.groupEn g && s.regF (Reg.SCH_GAX g) 15 0 != 0 && !(s.group g).due && decide (s.forcedAt g ≤ s.tb.el)

/-- R152: no other group's full stop is due in an earlier FAB clock, or in the same one with a lower number; a forced one
counts as one of this clock. -/
def State.stopFirst (s : State) (g : Nat) : Bool :=
  s.groupList.all (fun q => (!(s.stopDue q) || decide ((s.group g).dueClk < (s.group q).dueClk)
      || ((s.group g).dueClk == (s.group q).dueClk && decide (g ≤ q)))
    && (!(s.forcedDue q) || decide (g ≤ q)))

/-- R152: the same for the forced full stop of group `g`. -/
def State.forcedFirst (s : State) (g : Nat) : Bool :=
  s.groupList.all (fun q => (!(s.forcedDue q) || decide (s.forcedAt g < s.forcedAt q) || (s.forcedAt g == s.forcedAt q && decide (g ≤ q)))
    && (!(s.stopDue q) || decide (g ≤ q)))

/-- Every full stop of an earlier FAB clock has been taken. -/
def State.stopsTaken (s : State) : Bool :=
  s.groupList.all (fun g => !(s.stopDue g) || decide (s.clk ≤ (s.group g).dueClk))

/-! ### Waits -/

/-- The end state of a clause in the group's current cycle, its latest execution. -/
def Group.endOf (g : Group) (c : Nat) : Option EndState :=
  (g.progress.reverse.find? (fun p => p.1 == c)).map (fun p => p.2)

/-- R119: the end state of clause `c` that satisfies a JOIN of run `r`: an end in the cycle the joining clause received, of
its own group. A clause's own end never does. -/
def State.joinEnd (s : State) (r : Run) (c : Nat) : Option EndState :=
  if c = r.clause ∨ (s.group r.group).seq ≠ r.seq then none else (s.group r.group).endOf c

/-- R119: the code of a named clause: 15 while it has not ended. -/
def joinCode : Option EndState → Nat
  | some st => st.code
  | none => 15

/-- R118, R119, R126: whether the condition of a wait holds now. A wait on a ticket that is not in use ends at once. -/
def State.waitMet (s : State) (r : Run) : WaitFor → Bool
  | .axis _ n target =>
    (n == 0 || s.regF (Reg.SCH_AXSRC n) 6 4 != 0) && decide (0 ≤ turnDiff (s.axisPos n) target)
  | .join _ _ c1 c2 => (s.joinEnd r c1).isSome && (match c2 with
    | some c => (s.joinEnd r c).isSome
    | none => true)
  | .ticket _ _ t =>
    match mget s.sol.tickets t with
    | some k => k.complete
    | none => true

/-- The wait is a WAIT.T on ticket `t`. -/
def WaitFor.onTicket (q : WaitFor) (t : Nat) : Bool :=
  match q with
  | .ticket _ _ k => k == t
  | _ => false

/-- The FAB clock in which the waiting instruction of run `r` issued (R92: on a lockstep pair WAIT.T acts as issued 2 clocks
later). -/
def waitFrom (r : Run) : WaitFor → Nat
  | .ticket .. => r.start + r.count + 2 * b2n r.lock
  | _ => r.start + r.count

/-- R80: the clocks from its issue to the first clock in which the condition of the wait of engine `e` held: noted at the end
of that clock, or holding now. -/
def State.firstMet (s : State) (e : Nat) (r : Run) (q : WaitCtx) : Option Nat :=
  match mget s.now.met e with
  | some k => some k
  | none => if s.waitMet r q.cond then some (s.clk - waitFrom r q.cond) else none

/-- R126, R206: engine `e` waits on ticket `t`, which is complete: its WAIT.T completes. -/
def State.ticketWaited (s : State) (e t : Nat) : Bool :=
  match (s.eng e).run, (s.eng e).wait with
  | some r, some q =>
    q.cond.onTicket t && s.waitMet r q.cond && (match s.firstMet e r q with
      | some k => decide (k < q.timeout)
      | none => false)
  | _, _ => false

/-- R80: at the end of a FAB clock the waits whose condition holds for the first time are noted. -/
def State.noteWaits (s : State) : State :=
  s.engs.foldl (fun s x =>
    match x.2.run, x.2.wait with
    | some r, some q =>
      (match s.firstMet x.1 r q with
       | some k => s.updNow (fun y => { y with met := mput y.met x.1 k })
       | none => s)
    | _, _ => s) s

end Sys2Proof.Machine
end

