-- ==== Sys2Proof/Machine/Clock.lean ====
section
/-! DEFINITION. Machine/Clock.lean: one FAB clock: the time count and its steps (spec/12_timebase.md R318 to R335), and what
the unit holds for a later clock (spec/00_scope.md R10; spec/03_programming_model.md R76, R80, R92;
spec/05_clauses_axes_fullstop.md R145); the FAB clock in which an access of an engine acts (spec/02_architecture.md R579,
spec/04_instruction_reference.md R123). -/
namespace Sys2Proof.Machine

/-- T changed (it counts modulo 2^64). -/
def State.setT (s : State) (t : Nat) : State := { s with tb := { s.tb with t := t % 2 ^ 64 } }

/-- The timebase changed by `f`. -/
def State.updTb (s : State) (f : Timebase → Timebase) : State := { s with tb := f s.tb }

/-- R335: the grids resume at their first instant after T. -/
def State.regridTriggers (s : State) : State :=
  let s : State := { s with lpe := { s.lpe with slots := s.lpe.slots.map (fun q => (q.1, { q.2 with lastInst := s.tb.t })) } }
  let s : State := { s with gnb := { s.gnb with lastT := s.tb.t } }
  let s : State := { s with
    enc := s.enc.map (fun q => (q.1, { q.2 with lastT := s.tb.t }))
    saf := { s.saf with winT := (List.range 16).map (fun k => (k, s.tb.t)) } }
  s.updTb (fun b => { b with trigLast := (List.range 16).map (fun k => (k, b.t)), lastTick := b.t / 1000, ppsLast := b.t / 1000000000 })

/-- R335: the fusion engine empties its queue and its history; each queued element counts in NLATE of its slot. -/
def State.jumpFusion (s : State) : State :=
  let s := s.fus.queue.foldl (fun s q => (s.drop (Reg.FUS_NPEND q.slot)).bump (Reg.FUS_NLATE q.slot)) s
  { s with fus := { s.fus with queue := [], hist := [], inputs := [], lastInst := s.tb.t, imuTick := s.tb.t / 1000000 } }

/-- R324, R325, R333 to R335: T goes from the second boundary `tb` to tb + Δ. -/
def State.applyStep (s : State) (old boundary : Nat) (d : Int) : State :=
  let t' := (((boundary : Int) + d) % (2 ^ 64 : Nat)).toNat
  let jump := decide (0x40000000 ≤ d.natAbs)
  let s := ((s.setT t').updTb (fun b => { b with step := none, lastTick := t' / 1000 })).updNow (fun x => { x with step := (s.clk, 1) })
  let s : State := { s with gnb := { s.gnb with stepped := true } }
  let s := s.setReg Reg.TMB_UNC 0xFFFFFFFF
  let s := ((s.bump Reg.TMB_NSTEP).setBitR Reg.TMB_STK 0).record .timeStep 0 [old, t']
  let s := if d < 0 then s.setBitR Reg.SCH_AXSTK 8 else s
  if jump then
    let s := (s.setBitR Reg.SCH_AXSTK 16).record .axisJump 0 [old, t']
    let s := s.evalAxis 0 true
    let s := (s.groupList.filter (fun g => s.groupEn g && s.groupAxis g == 0)).foldl (fun s g => s.armGroup g) s
    s.regridTriggers.jumpFusion
  else
    let s := s.evalAxis 0 false
    -- R333: a group or periodic trigger whose instant the step passed produces one instance, its latest
    if 0 < d then
      (s.clauses.filter (fun c => s.clauseType c == 0)).foldl (fun s c =>
        let g := s.clauseGroup c
        match mget (s.group g).trigNext c with
        | none => s
        | some n =>
          let per := (s.reg (Reg.SCH_GPER g)).toNat
          let late := turnDiff s.tmbNs n
          if per ≠ 0 ∧ 0 ≤ late then
            s.updGroup g (fun x => { x with trigNext := mput x.trigNext c (n + wdi ((late / (per : Int)) * (per : Int))) })
          else s) s
    else s

/-- R320: the ns by which T advances in one TBC clock, and the phase accumulator after it. -/
def tbcAdvance (acc rate : Int) : Nat × Int :=
  let a := acc + rate
  if 256000000000 ≤ a then (8, a - 256000000000) else if a ≤ -256000000000 then (0, a + 256000000000) else (4, a)

/-- One TBC clock: T advances, or a pending step is taken at the second boundary (R320, R324, R330). -/
def State.tbcClock (s : State) : State :=
  let (adv, acc) := tbcAdvance s.tb.acc s.tb.rate
  let t := s.tb.t
  let t' := t + adv
  let el' := s.tb.el + 4
  let s := s.updTb (fun b => { b with acc := acc, el := el'
                                      fHist := if el' / 1000000000 ≠ b.el / 1000000000 then (b.f :: b.fHist).take 64 else b.fHist })
  match s.tb.step with
  | some d =>
    if t / 1000000000 < t' / 1000000000 then s.applyStep t (t' / 1000000000 * 1000000000) d
    else (s.setT t').evalAxis 0 false
  | none => (s.setT t').evalAxis 0 false

/-! ### Clock ticks -/

/-- The TBC clocks that fall in FAB clock `c`: TBC runs at 250 MHz, FAB at 400 MHz, so 5 TBC clocks in 8 FAB clocks; spec/02_architecture.md, "Clocks". -/
def tbcIn (c : Nat) : Nat := 5 * (c + 1) / 8 - 5 * c / 8

/-- R522: OPTIME counts whole seconds of elapsed time since the reset, saturating. -/
def State.countSeconds (s : State) (el : Nat) : State :=
  if s.tb.el / 1000000000 = el / 1000000000 then s
  else { s with evr := { s.evr with optime := min (s.evr.optime + 1) 0xFFFFFFFF } }

/-- R10: the bits set in the clock that ends no longer count as set in this one; those of R76 do. -/
def State.shiftHot (s : State) : State := s.updNow (fun x => { x with hot := x.hotNext, hotNext := [] })

/-- R92: the lockstep stores whose release clock has come are made, in order. -/
def State.releaseStores (s : State) : State :=
  ((s.now.held.filter (fun h => decide (h.rel ≤ s.clk))).foldl (fun s h => s.storeBytes h.addr h.bytes) s).updNow
    (fun x => { x with held := x.held.filter (fun h => !(decide (h.rel ≤ s.clk))) })

/-- R145: a virtual axis that a commit of the clock before has set takes SETPOS, and RATE with it when an axis tick falls in
this clock (`ticked`), in one move. -/
def State.landSets (s : State) (ticked : Bool) : State :=
  (s.now.sets.foldl (fun s x =>
      (s.moveAxis x.1 (x.2 + (if ticked then s.reg (Reg.SCH_AXRATE x.1) else 0))).updNow
        (fun y => { y with ticked := mput y.ticked x.1 (s.tb.t / 1000) })) s).updNow (fun x => { x with sets := [] })

/-- R241: at the start of a LOOP clock (200 MHz: every second FAB clock; notes/assumptions/57.md) the values held are noted. -/
def State.noteHeld (s : State) : State :=
  if s.clk % 2 = 0 then
    s.updNow (fun x => { x with was := { regs := s.regs, cells := s.banks.cells, owner := s.banks.owner, eth := s.eth.slots, lpe := s.lpe.slots } })
  else s

/-- One FAB clock with the TBC clock that falls in it: the waits are noted, the clock advances, what waited for it comes
about. In a unit that is held off, no clock runs. -/
def State.tick (s : State) : State :=
  if s.boot.stage = .off then s
  else
    let n := s.noteWaits
    let c := ({ n with clk := s.clk + 1 } : State).noteHeld.shiftHot.releaseStores
    let t := if tbcIn s.clk = 0 then c else (c.tbcClock.countSeconds s.tb.el).sendFrames s.tb.el
    t.landSets (decide (s.tb.t / 1000 < t.tb.t / 1000))

/-- `n` FAB clocks. -/
def State.ticks : Nat → State → State
  | 0, s => s
  | n + 1, s => State.ticks n s.tick

/-- FAB clock `c` has come. -/
def State.advanceTo (s : State) (c : Nat) : State := State.ticks (c - s.clk) s

/-! ### The order of the accesses of one FAB clock (R40, R123, R152, R579) -/

/-- The rank of an access of engine `e` among those of one clock: its number, a lockstep pair as its even engine. -/
def State.rankOf (s : State) (e : Nat) : Nat := 1 + s.ownerOf e

/-- The rank of a party: the service protocol after every engine (R40). -/
def State.partyRank (s : State) : Party → Nat
  | .eng e => s.rankOf e.val
  | .svc _ => 9

/-- An access of rank `k` can act in this clock: no access of a higher rank has acted in it, and the full stops of the clocks
before have been carried out. -/
def State.inTurn (s : State) (k : Nat) : Bool :=
  (decide (s.now.acted.1 < s.clk) || decide (s.now.acted.2 ≤ k)) && s.stopsTaken

/-- An access of rank `k` acts in this clock. -/
def State.acting (s : State) (k : Nat) : State := s.updNow (fun x => { x with acted := (s.clk, k) })

/-- An access of a party acts in its turn; one that comes after an access it should have preceded cannot come about
(notes/assumptions/57.md). -/
def State.byParty (s : State) (p : Party) (act : State → State) : State :=
  if s.inTurn (s.partyRank p) then act (s.acting (s.partyRank p)) else s

/-- R333: in the clock of a step of T, an AX0 event of kind `p` (1 full stop, 2 periodic trigger, 3 grid sampler, 4 PPS_OUT, 5
compare unit) comes after none of a later kind, and after the full stops of the groups on AX0. -/
def State.stepTurn (s : State) (p : Nat) : Bool :=
  s.now.step.2 == 0 || s.now.step.1 != s.clk
    || (decide (s.now.step.2 ≤ p) && (p == 1 || s.groupList.all (fun g => !(s.stopDue g && s.groupAxis g == 0))))

/-- R333: an AX0 event (`ax0`) of kind `p` takes its turn in the clock of a step. -/
def State.inStep (s : State) (ax0 : Bool) (p : Nat) (act : State → State) : State :=
  if !ax0 || s.now.step.2 == 0 || s.now.step.1 != s.clk then act s
  else if s.stepTurn p then act (s.updNow (fun x => { x with step := (s.clk, p) }))
  else s

end Sys2Proof.Machine
end

