-- ==== Sys2Proof/Machine/Flags.lean ====
section
/-! DEFINITION. Machine/Flags.lean: the engine status flags (CLE_ESF, spec/03_programming_model.md R74 to R77)
and the flag results of each arithmetic form (R70). -/
namespace Sys2Proof.Machine

/-- The bits of CLE_ESF. -/
inductive EsfBit where
  | sat | asat | dom | align | own | parity | portUndec | portTmo | lenErr | live | wtmo | iecc
  | budget | diverge | overrun | ill
deriving DecidableEq, Repr

/-- The bit number of a flag in CLE_ESF. -/
def esfNo : EsfBit → Nat
  | .sat => 0 | .asat => 1 | .dom => 2 | .align => 3 | .own => 4 | .parity => 5 | .portUndec => 6 | .portTmo => 7
  | .lenErr => 8 | .live => 9 | .wtmo => 10 | .iecc => 11 | .budget => 12 | .diverge => 13 | .overrun => 14 | .ill => 15

/-- A flag set in an engine's ESF. -/
def State.esf (s : State) (e : Nat) (b : EsfBit) : State :=
  s.updEng e (fun x => { x with esf := x.esf ||| bitMask (esfNo b) })

/-- A flag set when a condition holds. -/
def State.esfIf (s : State) (e : Nat) (c : Bool) (b : EsfBit) : State := if c then s.esf e b else s

/-- R166: a flag of an engine whose clause has ended, merged into the flags of that clause and of the engine. -/
def State.lateEsf (s : State) (e : Nat) (b : EsfBit) : State :=
  let s := s.setBitR (Reg.CLE_EFLG e) (esfNo b)
  match (s.eng e).last with
  | some c => s.setBitR (Reg.CLE_CFLG c) (esfNo b)
  | none => s

/-- A flag set in the ESF of the party that made an access, when it is an engine (R159, R166, R173). -/
def State.partyEsf (s : State) (p : Party) (b : EsfBit) : State :=
  match p with
  | .eng e => if (s.eng e.val).run.isSome then s.esf e.val b else s.lateEsf e.val b
  | .svc _ => s

/-- R54: a party's write to port `a` acts, in its turn, unless the block of the port is off. -/
def State.portWrite (s : State) (p : Party) (a : Nat) (act : State → State) : State :=
  s.byParty p (fun s => if s.portOff a then s.partyEsf p .portUndec else act s)

/-- R82: the flag an end state leaves in the clause's ESF. -/
def endFlag : EndState → Option EsfBit
  | .ended => none
  | .budget => some .budget
  | .overrun => some .overrun
  | .diverge => some .diverge
  | .illegal => some .ill
  | .imemFault => none

/-- R70: a 32-bit result, saturated (.S) or wrapped (.W), and whether SAT is set. -/
def res32 (wrap : Bool) (x : Int) : Word × Bool := if wrap then (wdi x, false) else (sat32 x, satHit 32 x)

/-- R70: a 72-bit result, saturated (.S) or wrapped (.W), and whether ASAT is set. -/
def res72 (wrap : Bool) (x : Int) : Acc × Bool :=
  if wrap then (BitVec.ofInt 72 x, false) else (BitVec.ofInt 72 (satTo 72 x), satHit 72 x)

end Sys2Proof.Machine
end

