-- ==== Sys2Proof/Machine/Engine.lean ====
section
/-! DEFINITION. Machine/Engine.lean: how an instruction of a clause engine issues, retires, ends its clause
(spec/03_programming_model.md R62 to R87, spec/04_instruction_reference.md R99 to R117). -/
namespace Sys2Proof.Machine

/-- R160: the FAB clocks up to clock `c` (not itself) during which engine `e` has held its clause, into the accounts of the
engine and of the clause. -/
def State.accountTo (s : State) (e c : Nat) : State :=
  match (s.eng e).run with
  | none => s
  | some r =>
    let n := c - (s.eng e).acct
    let s := s.updEng e (fun x => { x with busyNow := x.busyNow + n, busyFs := x.busyFs + n, acct := max x.acct c })
    { s with sched := { s.sched with clauseBusy := mput s.sched.clauseBusy r.clause (mgetD s.sched.clauseBusy r.clause 0 + n) } }

/-- The end state counted in a clause's execution counters (R82), with the clock and the count of the end (R86). -/
def ClauseCounts.add (c : ClauseCounts) (st : EndState) (clk count : Nat) : ClauseCounts :=
  let c := { c with last := st.code, endClk := clk, endCount := count }
  match st with
  | .ended => { c with ended := (c.ended + 1) % 65536 }
  | .budget => { c with budget := (c.budget + 1) % 65536 }
  | .overrun => { c with overrun := (c.overrun + 1) % 65536 }
  | .diverge => { c with diverge := (c.diverge + 1) % 65536 }
  | .illegal => { c with illegal := (c.illegal + 1) % 65536 }
  | .imemFault => { c with imem := (c.imem + 1) % 65536 }

/-- R82: the record of an end state; `info` is the word fetched. The record of IMEM_FAULT names the engine whose word is
in error and is written by that command. -/
def State.endRecord (s : State) (e : Nat) (r : Run) (st : EndState) (info : Nat) : State :=
  let pc := (s.eng e).pc
  match st with
  | .ended => s
  | .budget => s.record .clauseBudget e [r.clause, e, pc]
  | .overrun => s.record .clauseOverrun e [r.clause, e]
  | .diverge => s.record .lockstepDiverge (e / 2) [e / 2, r.clause, pc]
  | .illegal => s.record .illInstr e [r.clause, e, pc, info]
  | .imemFault => s

/-- R36, R82: the staged writes and outputs of an execution that did not end ENDED are discarded. -/
def State.discardStaged (s : State) (g c d : Nat) : State :=
  s.updGroup g (fun x => { x with
    pend := x.pend.filter (fun p => !(p.clause == some c && p.disp == d)),
    staged := x.staged.filter (fun p => !(p.clause == c && p.disp == d)) })

/-- R76, R82, R86: the clause that engine `e` runs ends in state `st`; `count` is its final budget count. The merge of R76
falls in the next clock, in which a W1C write does not clear what it sets (R10). For a lockstep pair the flags merge into
CLE_EFLG of the lead, the even engine, alone (DESIGN CHOICE: R76 names "the engine's" register; notes/assumptions/58.md). -/
def State.endClause (s : State) (e : Nat) (st : EndState) (count info : Nat) : State :=
  match (s.eng e).run with
  | none => s
  | some r =>
    let s := match endFlag st with
      | some b => s.esf e b
      | none => s
    let flags := (s.eng e).esf
    let s := (s.orBitsNext (Reg.CLE_CFLG r.clause) flags).orBitsNext (Reg.CLE_EFLG e) flags
    let s := s.accountTo e (r.start + count)
    let mx := min count 33554431
    let s := if (s.reg (Reg.CLE_CMAX r.clause)).toNat < mx then s.setReg (Reg.CLE_CMAX r.clause) (wd mx) else s
    let s := s.updCounts r.clause (fun c => c.add st (r.start + count - 1) mx)
    let s := s.updGroup r.group (fun g => { g with progress := g.progress ++ [(r.clause, st)] })
    let s := if st = .ended then s.safRestart r.clause else s.discardStaged r.group r.clause r.disp
    let s := if st = .overrun then s.updGroup r.group (fun g => { g with overruns := (g.overruns + 1) % 65536 }) else s
    let s := s.endRecord e r st info
    (s.updEng e (fun x => { x with run := none, wait := none, endClk := r.start + count - 1, last := some r.clause })).updNow
      (fun x => { x with met := mdel x.met e })

/-- The word of instruction memory at the program counter. -/
def State.fetched (s : State) (e : Nat) : Nat := (mgetD (s.eng e).imem (s.eng e).pc 0).toNat

/-- R81: the budget count of the run at this clock. -/
def State.countNow (s : State) (r : Run) : Nat := min r.budget (max r.count (s.clk + 1 - r.start))

/-- R81: clocks charged to the budget count of the clause on engine `e`. -/
def State.charge (s : State) (e n : Nat) : State :=
  match (s.eng e).run with
  | none => s
  | some r => s.updEng e (fun x => { x with run := some { r with count := r.count + n } })

/-- The loops open at the current call level, innermost first. -/
def Engine.loops (x : Engine) : List LoopCtx := (x.calls.head?.map CallCtx.loops).getD []

/-- The loops of the current call level replaced. -/
def Engine.setLoops (x : Engine) (l : List LoopCtx) : Engine :=
  match x.calls with
  | [] => { x with calls := [⟨none, l⟩] }
  | c :: t => { x with calls := { c with loops := l } :: t }

/-- R115: after the instruction in words `pc` to `last` has retired: a loop whose last body word is among them
repeats while iterations remain, and closes otherwise; the next outer loop that ends there is then decided. -/
def loopEnd (pc last nxt : Nat) : List LoopCtx → Nat × List LoopCtx
  | [] => (nxt, [])
  | l :: t =>
    if pc ≤ l.last ∧ l.last ≤ last then
      if 0 < l.left then (l.first, { l with left := l.left - 1 } :: t) else loopEnd pc last nxt t
    else (nxt, l :: t)

/-- The program counter passes the `n` words of the instruction that retired (R101, R115). -/
def Engine.pass (x : Engine) (n : Nat) : Engine :=
  let q := loopEnd x.pc (x.pc + n - 1) ((x.pc + n) % 32768) x.loops
  { x.setLoops q.2 with pc := q.1 }

/-- R116: a taken branch to `t` closes the loops whose body does not contain it. -/
def Engine.jump (x : Engine) (t : Nat) : Engine :=
  { x.setLoops (x.loops.dropWhile (fun l => !(decide (l.first ≤ t) && decide (t ≤ l.last)))) with pc := t }

/-- R79: the loops open at every call level. -/
def Engine.depth (x : Engine) : Nat := (x.calls.map (fun c => c.loops.length)).foldl (· + ·) 0

/-- What control does when an instruction retires. -/
inductive Flow where
  /-- on to the next instruction, this many words on -/
  | pass (words : Nat)
  /-- the meaning has set the program counter -/
  | set
  /-- handled as an undefined encoding (R83) -/
  | illegal
  /-- the clause ends (FSTOP) -/
  | stop
  /-- the instruction waits (R80) -/
  | hold
deriving DecidableEq, Repr

/-- R99: the guard condition. -/
def Engine.guard (x : Engine) (g : Guard) : Bool := xor (x.p g.pg.val) g.pn

/-- R115: a two-word instruction may not have its first word as the last word of a body. It is found when the instruction
executes: a LOOP that encloses such a word opens, and the word guarded off passes (DESIGN CHOICE: the spec does not say when
it is found; notes/assumptions/58.md). -/
def Engine.splits (x : Engine) (words : Nat) : Bool :=
  words == 2 && (match x.loops with
    | l :: _ => l.last == x.pc
    | [] => false)

/-- The instruction takes `n` clocks (R81): past the budget the clause ends BUDGET and nothing retires; in the
budget's last clock it retires and the clause ends BUDGET, unless it is FSTOP. -/
def State.retire (s : State) (e n : Nat) (act : State → State × Flow) : State :=
  match (s.eng e).run with
  | none => s
  | some r =>
    if r.budget < r.count + n then s.endClause e .budget r.budget 0
    else
      let (s1, fl) := act s
      match fl with
      | .illegal => s.endClause e .illegal (r.count + n) (s.fetched e)
      | .hold => s1
      | .stop => (s1.charge e n).endClause e .ended (r.count + n) 0
      | .set =>
        let s2 := s1.charge e n
        if r.count + n = r.budget then s2.endClause e .budget r.budget 0 else s2
      | .pass w =>
        let s2 := (s1.charge e n).updEng e (fun x => x.pass w)
        if r.count + n = r.budget then s2.endClause e .budget r.budget 0 else s2

/-- R92: the clocks a lockstep pair adds to an instruction that makes a port access or gives a block command. -/
def State.lockExtra (s : State) (e : Nat) : Nat :=
  match (s.eng e).run with
  | some r => if r.lock then 2 else 0
  | none => 0

/-- An instruction that ends ILLEGAL does so at the count of its first clock when its word or its place is undefined, and at
that of its last clock when the engine's state makes it so (DESIGN CHOICE: R83 and R100 state no clock;
notes/assumptions/58.md).

R99, R63, R83: engine `g.e` issues an instruction. `wf` says that the word is a defined encoding; `off` is the
count when guarded off, `words` the instruction's words, `cyc` its count when it executes. -/
def State.issue (s : State) (g : Guard) (wf : Bool) (off words cyc : Nat) (act : State → State × Flow) : State :=
  let x := s.eng g.e.val
  match x.run with
  | none => s
  | some r =>
    if x.wait.isSome then s
    else if !wf || (g.pg.val == 0 && g.pn) then s.endClause g.e.val .illegal (r.count + 1) (s.fetched g.e.val)
    else if x.guard g then
      if x.splits words then s.endClause g.e.val .illegal (r.count + 1) (s.fetched g.e.val) else s.retire g.e.val cyc act
    else s.retire g.e.val off (fun s => (s, .pass words))

/-- R579, R123: an instruction that acts on what it shares with others, `lead` clocks after its issue: that FAB clock comes,
and the access acts in it, a read (`rd`) before what is written in the same clock, else in the order of the engines. Where
that clock, or its turn in it, has passed, the command comes too late to be one the unit can have carried out, and changes
nothing (notes/assumptions/57.md). Guarded off, undefined or past the budget, it acts on nothing. -/
def State.issueAt (s : State) (g : Guard) (wf : Bool) (off words cyc lead : Nat) (rd : Bool) (act : State → State × Flow) : State :=
  let x := s.eng g.e.val
  match x.run with
  | none => s
  | some r =>
    if x.wait.isNone && wf && !(g.pg.val == 0 && g.pn) && x.guard g && !(x.splits words) && decide (r.count + cyc ≤ r.budget) then
      let t := s.advanceTo (r.start + r.count + lead)
      let k := if rd then 0 else t.rankOf g.e.val
      if t.clk == r.start + r.count + lead && t.inTurn k then (t.acting k).issue g wf off words cyc act else s
    else s.issue g wf off words cyc act

/-- An instruction of one word that runs straight on. -/
def State.issue1 (s : State) (g : Guard) (wf : Bool) (cyc : Nat) (act : State → State) : State :=
  s.issue g wf cyc 1 cyc (fun s => (act s, .pass 1))

end Sys2Proof.Machine
end

