-- ==== Sys2Proof/Machine/Operands.lean ====
section
/-! DEFINITION. Machine/Operands.lean: the operand forms of the engine instructions: shift counts (R104), bank
addresses of loads and stores (R107), bank operands of block commands (R122), port addresses (R109). -/
namespace Sys2Proof.Machine

/-- R104: the shift count n: the field value, or Wb bits 7:0. -/
def Engine.shift (x : Engine) : ShiftCount → Nat
  | .imm n => n
  | .reg b => fld (x.w b.val) 7 0

/-- The bank of a bank address register (bits 20:15). -/
def addrBank (w : Word) : Nat := fld w 20 15

/-- The byte offset of a bank address register (bits 14:0). -/
def addrOff (w : Word) : Nat := fld w 14 0

/-- R107: an offset moved by d units of `size`, modulo 2^15. -/
def offPlus (off : Nat) (d : Int) (size : Nat) : Nat := (((off : Int) + d * (size : Int)) % 32768).toNat

/-- R107: the size in bytes of a load or store form. -/
def memSize : MemForm → Nat
  | .byte .. => 1
  | .half .. => 2
  | .word _ => 4
  | .acc _ => 16

/-- R107: the effective bank and offset of a load or store. -/
def effAddr (w : Word) (u : Bool) (d : Int) (size : Nat) : Nat × Nat :=
  (addrBank w, if u then addrOff w else offPlus (addrOff w) d size)

/-- R107: the post-modified address register. -/
def postModify (w : Word) (d : Int) (size : Nat) : Word := setFld w 14 0 (offPlus (addrOff w) d size)

/-- R65, R66: whether an access of `size` bytes at an offset is misaligned. -/
def misaligned (off size : Nat) : Bool := off % size != 0

/-- R109: the port address of a port access. -/
def portAddr (w : Word) (k : Nat) : Nat := (fld w 15 0 + k) % 65536

/-- R68, R169: the wake stall an access to bank `b` takes: the clocks the bank needed, at most 800, when it is in
retention or waking. -/
def State.stallOf (s : State) (b stall : Nat) : Nat := if s.bankAsleep b then min stall 800 else 0

/-- R122: the checks of a bank operand of a block command: ALIGN, LEN_ERR, OWN. -/
structure OperandCheck where
  align : Bool
  len : Bool
  own : Bool
deriving DecidableEq, Repr

/-- R122: a span of `n` bytes at a bank address, whose bank must have owner `o`. -/
def State.checkOperand (s : State) (w : Word) (n o : Nat) : OperandCheck :=
  { align := addrOff w % 4 != 0
    len := decide (32768 < addrOff w + n)
    own := s.owner (addrBank w) != o }

/-- Whether every check passes. -/
def OperandCheck.ok (c : OperandCheck) : Bool := !c.align && !c.len && !c.own

/-- R122: the flags of the failed checks. -/
def State.checkFlags (s : State) (e : Nat) (c : OperandCheck) : State :=
  ((s.esfIf e c.align .align).esfIf e c.len .lenErr).esfIf e c.own .own

end Sys2Proof.Machine
end

