-- ==== Sys2Proof/Machine/Alu.lean ====
section
/-! DEFINITION. Machine/Alu.lean: integer, logic, immediate, accumulator and transcendental instructions
(spec/04_instruction_reference.md R103 to R106, spec/03_programming_model.md R70, R72). -/
namespace Sys2Proof.Machine

/-- R70: a result into Wd; SAT when it saturates, also when Wd is W0, whose write is discarded (DESIGN CHOICE: the flag is the
operation's, not the write's; R60 says only that the write sets none; notes/assumptions/58.md). -/
def State.putRes (s : State) (e d : Nat) (r : Word × Bool) : State := (s.setW e d r.1).esfIf e r.2 .sat

/-- An accumulator written with a 72-bit result and its ASAT flag. -/
def State.putAcc (s : State) (e k : Nat) (r : Acc × Bool) : State :=
  (s.updEng e (fun x => x.setA k r.1)).esfIf e r.2 .asat

/-- R104: ASL by n: saturating or wrapping; a count of 32 or more shifts everything out. -/
def aslRes (wrap : Bool) (a : Word) (n : Nat) : Word × Bool :=
  if wrap then ((if 32 ≤ n then 0 else a <<< n), false)
  else if 32 ≤ n then
    (if a = 0 then (0, false) else if sw a < 0 then (wdi (smin 32), true) else (wdi (smax 32), true))
  else res32 false (sw a * (2 ^ n : Nat))

/-- R104: ASR by n: R69; a count of 32 or more returns 0. -/
def asrRes (a : Word) (n : Nat) : Word := if 32 ≤ n then 0 else wdi (rdiv (sw a) n)

/-- R104: a count that encodes: an immediate 0 to 31; ASR by the immediate 0 is undefined. -/
def shiftWf (asr : Bool) : ShiftCount → Bool
  | .imm n => decide (n < 32) && !(asr && n == 0)
  | .reg _ => true

/-- R103, CLS: the bits below bit 31 that equal it, from bit 30 down to the first that differs. -/
def clsCount (a : Word) : Nat :=
  let b := bit a 31
  match findFrom (fun i => bit a (30 - i) != b) 31 0 with
  | some i => i
  | none => 31

/-- ADD (R103): Engine computes a + b, saturating (.S) or wrapping (.W), into Wd. -/
def execAdd (x : Guard) (wd wa wb : RegNo) (w : Bool) (s : State) : Host.Outcome State Fault Refusal :=
  .next (s.issue1 x true 1 (fun s => s.putRes x.e.val wd.val (res32 w (sw (s.w x.e.val wa.val) + sw (s.w x.e.val wb.val)))))

/-- SUB (R103): Engine computes a - b, saturating or wrapping, into Wd. -/
def execSub (x : Guard) (wd wa wb : RegNo) (w : Bool) (s : State) : Host.Outcome State Fault Refusal :=
  .next (s.issue1 x true 1 (fun s => s.putRes x.e.val wd.val (res32 w (sw (s.w x.e.val wa.val) - sw (s.w x.e.val wb.val)))))

/-- NEG (R103): Engine computes -a, saturating or wrapping, into Wd. -/
def execNeg (x : Guard) (wd wa : RegNo) (w : Bool) (s : State) : Host.Outcome State Fault Refusal :=
  .next (s.issue1 x true 1 (fun s => s.putRes x.e.val wd.val (res32 w (-(sw (s.w x.e.val wa.val))))))

/-- ABS (R103): Engine computes |a|, saturating or wrapping, into Wd. -/
def execAbs (x : Guard) (wd wa : RegNo) (w : Bool) (s : State) : Host.Outcome State Fault Refusal :=
  .next (s.issue1 x true 1 (fun s => s.putRes x.e.val wd.val (res32 w ((sw (s.w x.e.val wa.val)).natAbs : Int))))

/-- ASL (R104): Engine shifts a left arithmetically by n, saturating or wrapping. -/
def execAsl (x : Guard) (wd wa : RegNo) (n : ShiftCount) (w : Bool) (s : State) : Host.Outcome State Fault Refusal :=
  .next (s.issue1 x (shiftWf false n) 1 (fun s =>
    s.putRes x.e.val wd.val (aslRes w (s.w x.e.val wa.val) ((s.eng x.e.val).shift n))))

/-- ASR (R104): Engine shifts a right with round-to-nearest-even by n. -/
def execAsr (x : Guard) (wd wa : RegNo) (n : ShiftCount) (s : State) : Host.Outcome State Fault Refusal :=
  .next (s.issue1 x (shiftWf true n) 1 (fun s =>
    s.setW x.e.val wd.val (asrRes (s.w x.e.val wa.val) ((s.eng x.e.val).shift n))))

/-- LSL (R104): Engine shifts a left logically by n. -/
def execLsl (x : Guard) (wd wa : RegNo) (n : ShiftCount) (s : State) : Host.Outcome State Fault Refusal :=
  .next (s.issue1 x (shiftWf false n) 1 (fun s =>
    s.setW x.e.val wd.val (if 32 ≤ (s.eng x.e.val).shift n then 0 else (s.w x.e.val wa.val) <<< ((s.eng x.e.val).shift n))))

/-- LSR (R104): Engine shifts a right logically by n. -/
def execLsr (x : Guard) (wd wa : RegNo) (n : ShiftCount) (s : State) : Host.Outcome State Fault Refusal :=
  .next (s.issue1 x (shiftWf false n) 1 (fun s =>
    s.setW x.e.val wd.val (if 32 ≤ (s.eng x.e.val).shift n then 0 else (s.w x.e.val wa.val) >>> ((s.eng x.e.val).shift n))))

/-- AND (R103): Engine writes the bitwise AND of a and b. -/
def execAnd (x : Guard) (wd wa wb : RegNo) (s : State) : Host.Outcome State Fault Refusal :=
  .next (s.issue1 x true 1 (fun s => s.setW x.e.val wd.val (s.w x.e.val wa.val &&& s.w x.e.val wb.val)))

/-- OR (R103): Engine writes the bitwise OR of a and b. -/
def execOr (x : Guard) (wd wa wb : RegNo) (s : State) : Host.Outcome State Fault Refusal :=
  .next (s.issue1 x true 1 (fun s => s.setW x.e.val wd.val (s.w x.e.val wa.val ||| s.w x.e.val wb.val)))

/-- XOR (R103): Engine writes the bitwise exclusive OR of a and b. -/
def execXor (x : Guard) (wd wa wb : RegNo) (s : State) : Host.Outcome State Fault Refusal :=
  .next (s.issue1 x true 1 (fun s => s.setW x.e.val wd.val (s.w x.e.val wa.val ^^^ s.w x.e.val wb.val)))

/-- NOT (R103): Engine writes the bitwise complement of a. -/
def execNot (x : Guard) (wd wa : RegNo) (s : State) : Host.Outcome State Fault Refusal :=
  .next (s.issue1 x true 1 (fun s => s.setW x.e.val wd.val (~~~(s.w x.e.val wa.val))))

/-- MIN (R103): Engine writes the signed smaller of a and b. -/
def execMin (x : Guard) (wd wa wb : RegNo) (s : State) : Host.Outcome State Fault Refusal :=
  .next (s.issue1 x true 1 (fun s => s.setW x.e.val wd.val (wdi (min (sw (s.w x.e.val wa.val)) (sw (s.w x.e.val wb.val))))))

/-- MAX (R103): Engine writes the signed larger of a and b. -/
def execMax (x : Guard) (wd wa wb : RegNo) (s : State) : Host.Outcome State Fault Refusal :=
  .next (s.issue1 x true 1 (fun s => s.setW x.e.val wd.val (wdi (max (sw (s.w x.e.val wa.val)) (sw (s.w x.e.val wb.val))))))

/-- CLS (R103): Engine counts leading bits equal to the sign bit. -/
def execCls (x : Guard) (wd wa : RegNo) (s : State) : Host.Outcome State Fault Refusal :=
  .next (s.issue1 x true 1 (fun s => s.setW x.e.val wd.val (BitVec.ofNat 32 (clsCount (s.w x.e.val wa.val)))))

/-- ADDI: k is a signed 11-bit field. -/
def execAddi (x : Guard) (wd wa : RegNo) (k : Int) (w : Bool) (s : State) : Host.Outcome State Fault Refusal :=
  .next (s.issue1 x (decide (-1024 ≤ k) && decide (k < 1024)) 1 (fun s =>
    s.putRes x.e.val wd.val (res32 w (sw (s.w x.e.val wa.val) + k))))

/-- ANDI, ORI, XORI: k is a 10-bit field, zero-extended. -/
def execAndi (x : Guard) (wd wa : RegNo) (k : Nat) (s : State) : Host.Outcome State Fault Refusal :=
  .next (s.issue1 x (decide (k < 1024)) 1 (fun s => s.setW x.e.val wd.val (s.w x.e.val wa.val &&& BitVec.ofNat 32 k)))

/-- ORI (R70): Engine ORs a with a zero-extended immediate. -/
def execOri (x : Guard) (wd wa : RegNo) (k : Nat) (s : State) : Host.Outcome State Fault Refusal :=
  .next (s.issue1 x (decide (k < 1024)) 1 (fun s => s.setW x.e.val wd.val (s.w x.e.val wa.val ||| BitVec.ofNat 32 k)))

/-- XORI (R70): Engine exclusive-ORs a with a zero-extended immediate. -/
def execXori (x : Guard) (wd wa : RegNo) (k : Nat) (s : State) : Host.Outcome State Fault Refusal :=
  .next (s.issue1 x (decide (k < 1024)) 1 (fun s => s.setW x.e.val wd.val (s.w x.e.val wa.val ^^^ BitVec.ofNat 32 k)))

/-- MOVS: the 16-bit field sign-extended. -/
def execMovs (x : Guard) (wd : RegNo) (k : Nat) (s : State) : Host.Outcome State Fault Refusal :=
  .next (s.issue1 x (decide (k < 65536)) 1 (fun s => s.setW x.e.val wd.val (wdi (sext 16 k))))

/-- MOVHI: bits 31:16 replaced, bits 15:0 kept. -/
def execMovhi (x : Guard) (wd : RegNo) (k : Nat) (s : State) : Host.Outcome State Fault Refusal :=
  .next (s.issue1 x (decide (k < 65536)) 1 (fun s => s.setW x.e.val wd.val (setFld (s.w x.e.val wd.val) 31 16 k)))

/-- MUL (R70): Engine multiplies a by b, rounds by shift s and saturates or wraps to 32 bits. -/
def execMul (x : Guard) (wd wa wb : RegNo) (sh : Nat) (w : Bool) (s : State) : Host.Outcome State Fault Refusal :=
  .next (s.issue1 x (decide (sh < 64)) 2 (fun s =>
    s.putRes x.e.val wd.val (res32 w (rdiv (sw (s.w x.e.val wa.val) * sw (s.w x.e.val wb.val)) sh))))

/-- MAC (R105): Engine adds a × b to a 72-bit accumulator. -/
def execMac (x : Guard) (an : AccNo) (wa wb : RegNo) (w : Bool) (s : State) : Host.Outcome State Fault Refusal :=
  .next (s.issue1 x true 1 (fun s => s.putAcc x.e.val an.val
    (res72 w (((s.eng x.e.val).a an.val).toInt + sw (s.w x.e.val wa.val) * sw (s.w x.e.val wb.val)))))

/-- MSU (R105): Engine subtracts a × b from a 72-bit accumulator. -/
def execMsu (x : Guard) (an : AccNo) (wa wb : RegNo) (w : Bool) (s : State) : Host.Outcome State Fault Refusal :=
  .next (s.issue1 x true 1 (fun s => s.putAcc x.e.val an.val
    (res72 w (((s.eng x.e.val).a an.val).toInt - sw (s.w x.e.val wa.val) * sw (s.w x.e.val wb.val)))))

/-- ADDA (R105): Engine adds accumulator Am to An. -/
def execAdda (x : Guard) (an am : AccNo) (w : Bool) (s : State) : Host.Outcome State Fault Refusal :=
  .next (s.issue1 x true 1 (fun s => s.putAcc x.e.val an.val
    (res72 w (((s.eng x.e.val).a an.val).toInt + ((s.eng x.e.val).a am.val).toInt))))

/-- SUBA (R105): Engine subtracts accumulator Am from An. -/
def execSuba (x : Guard) (an am : AccNo) (w : Bool) (s : State) : Host.Outcome State Fault Refusal :=
  .next (s.issue1 x true 1 (fun s => s.putAcc x.e.val an.val
    (res72 w (((s.eng x.e.val).a an.val).toInt - ((s.eng x.e.val).a am.val).toInt))))

/-- ACLR (R105): Engine clears accumulator An. -/
def execAclr (x : Guard) (an : AccNo) (s : State) : Host.Outcome State Fault Refusal :=
  .next (s.issue1 x true 1 (fun s => s.updEng x.e.val (fun y => y.setA an.val 0)))

/-- MOVA (R105): Engine rounds an accumulator by shift s into a 32-bit register. -/
def execMova (x : Guard) (wd : RegNo) (an : AccNo) (sh : Nat) (w : Bool) (s : State) : Host.Outcome State Fault Refusal :=
  .next (s.issue1 x (decide (sh < 64)) 2 (fun s =>
    s.putRes x.e.val wd.val (res32 w (rdiv ((s.eng x.e.val).a an.val).toInt sh))))

/-- ALOAD: a × 2^s is exact in 72 bits for s up to 39. -/
def execAload (x : Guard) (an : AccNo) (wa : RegNo) (sh : Nat) (s : State) : Host.Outcome State Fault Refusal :=
  .next (s.issue1 x (decide (sh < 40)) 1 (fun s =>
    s.updEng x.e.val (fun y => y.setA an.val (BitVec.ofInt 72 (sw (y.w wa.val) * (2 ^ sh : Nat))))))

/-- R106: with Wd = We the cosine stays. -/
def execSincos (x : Guard) (wd we wa : RegNo) (s : State) : Host.Outcome State Fault Refusal :=
  .next (s.issue1 x true 12 (fun s =>
    let r := sincosOp (s.w x.e.val wa.val)
    (s.setW x.e.val wd.val r.1).setW x.e.val we.val r.2))

/-- ATAN2 (R72): Engine returns atan2(y, x) as a turn32 angle. -/
def execAtan2 (x : Guard) (wd wy wx : RegNo) (s : State) : Host.Outcome State Fault Refusal :=
  .next (s.issue1 x true 16 (fun s =>
    let r := atan2Op (sw (s.w x.e.val wy.val)) (sw (s.w x.e.val wx.val))
    (s.setW x.e.val wd.val r.1).esfIf x.e.val r.2 .dom))

/-- SQRT (R72): Engine returns the rounded square root of v × 2^s. -/
def execSqrt (x : Guard) (wd wa : RegNo) (sh : Nat) (s : State) : Host.Outcome State Fault Refusal :=
  .next (s.issue1 x (decide (sh < 63)) 10 (fun s =>
    let v := sw (s.w x.e.val wa.val)
    let r := sqrtOp v sh
    ((s.setW x.e.val wd.val r.1).esfIf x.e.val r.2 .dom).esfIf x.e.val (sqrtSat v sh) .sat))

/-- RSQRT (R72): Engine returns the rounded reciprocal square root of 2^s / v. -/
def execRsqrt (x : Guard) (wd wa : RegNo) (sh : Nat) (s : State) : Host.Outcome State Fault Refusal :=
  .next (s.issue1 x (decide (sh < 95)) 12 (fun s =>
    let v := sw (s.w x.e.val wa.val)
    let r := rsqrtOp v sh
    ((s.setW x.e.val wd.val r.1).esfIf x.e.val r.2 .dom).esfIf x.e.val (rsqrtSat v sh) .sat))

end Sys2Proof.Machine
end

