-- ==== Sys2Proof/Machine/Branch.lean ====
section
/-! DEFINITION. Machine/Branch.lean: predicates, branches, calls and loops (spec/04_instruction_reference.md R110
to R117, spec/03_programming_model.md R78, R79). -/
namespace Sys2Proof.Machine

/-- R110: a condition on two words. -/
def condHolds (c : Cond) (a b : Word) : Bool :=
  match c with
  | .eq => a == b
  | .ne => a != b
  | .lt => decide (sw a < sw b)
  | .ge => decide (sw b ≤ sw a)
  | .le => decide (sw a ≤ sw b)
  | .gt => decide (sw b < sw a)
  | .ltu => decide (a.toNat < b.toNat)
  | .geu => decide (b.toNat ≤ a.toNat)
  | .leu => decide (a.toNat ≤ b.toNat)
  | .gtu => decide (b.toNat < a.toNat)
  | .tlt => decide (turnDiff a b < 0)
  | .tge => decide (0 ≤ turnDiff a b)
  | .test => (a &&& b) != 0
  | .ntest => (a &&& b) == 0

/-- R111: a predicate operation. -/
def plogRes (o : PlogOp) (a b : Bool) : Bool :=
  match o with
  | .and => a && b
  | .or => a || b
  | .xor => a != b
  | .andn => a && !b

/-- CMP (R110): Engine compares two registers and writes a predicate. -/
def execCmp (x : Guard) (pd : PredNo) (wa wb : RegNo) (cc : Cond) (s : State) : Host.Outcome State Fault Refusal :=
  .next (s.issue1 x true 1 (fun s => s.setP x.e.val pd.val (condHolds cc (s.w x.e.val wa.val) (s.w x.e.val wb.val))))

/-- CMPI (R110): Engine compares a register with an immediate and writes a predicate. -/
def execCmpi (x : Guard) (pd : PredNo) (wa : RegNo) (cc : Cond) (k : Int) (s : State) : Host.Outcome State Fault Refusal :=
  .next (s.issue1 x (decide (-512 ≤ k) && decide (k < 512)) 1 (fun s =>
    s.setP x.e.val pd.val (condHolds cc (s.w x.e.val wa.val) (wdi k))))

/-- PLOG (R111): Engine combines two predicates into a third. -/
def execPlog (x : Guard) (pd pa pb : PredNo) (op : PlogOp) (s : State) : Host.Outcome State Fault Refusal :=
  .next (s.issue1 x true 1 (fun s =>
    s.setP x.e.val pd.val (plogRes op ((s.eng x.e.val).p pa.val) ((s.eng x.e.val).p pb.val))))

/-- R112: a forward target; beyond the last word of instruction memory the clause ends as R83 states. -/
def State.branchTo (s : State) (e t : Nat) : State × Flow :=
  if 32767 < t then (s, .illegal) else (s.updEng e (fun x => x.jump t), .set)

/-- R112: a displacement that encodes. -/
def dispWf (d : Nat) : Bool := decide (0 < d) && decide (d < 32768)

/-- BR (R112): Engine branches forward by a fixed displacement, closing loops left. -/
def execBr (x : Guard) (d : Nat) (s : State) : Host.Outcome State Fault Refusal :=
  .next (s.issue x (dispWf d) 2 1 2 (fun s => s.branchTo x.e.val ((s.eng x.e.val).pc + d)))

/-- R113, R117: the call opens a level with no loops; the loops open at the call are suspended below it. -/
def State.doCall (s : State) (e d : Nat) : State × Flow :=
  let y := s.eng e
  if 4 < y.calls.length ∨ 32767 < y.pc + d then (s, .illegal)
  else (s.setEng e { y with calls := ⟨some (y.pc + 1), []⟩ :: y.calls, pc := y.pc + d }, .set)

/-- CALL (R113): Engine pushes a return address and branches forward. -/
def execCall (x : Guard) (d : Nat) (s : State) : Host.Outcome State Fault Refusal :=
  .next (s.issue x (dispWf d) 2 1 2 (fun s => s.doCall x.e.val d))

/-- R113, R117: the return closes the level's loops and resumes those below; when the CALL was the last word of an
open body, the return counts as the completion of that word. -/
def State.doRet (s : State) (e : Nat) : State × Flow :=
  let y := s.eng e
  match y.calls with
  | ⟨some r, _⟩ :: c :: t =>
    let y1 := { y with calls := c :: t }
    let q := loopEnd (r - 1) (r - 1) (r % 32768) y1.loops
    (s.setEng e { y1.setLoops q.2 with pc := q.1 }, .set)
  | _ => (s, .illegal)

/-- RET (R113): Engine pops the return stack and continues there. -/
def execRet (x : Guard) (s : State) : Host.Outcome State Fault Refusal :=
  .next (s.issue x true 2 1 2 (fun s => s.doRet x.e.val))

/-- R114: the table follows in instruction memory. -/
def State.doBrt (s : State) (e : Nat) (idx : Word) (n : Nat) : State × Flow :=
  let y := s.eng e
  if idx.toNat < n then
    let entry := mgetD y.imem ((y.pc + 1 + idx.toNat) % 32768) 0
    let d := fld entry 15 0
    if fld entry 31 16 ≠ 0 ∨ d < n then (s, .illegal) else s.branchTo e (y.pc + 1 + d)
  else (s, .pass (n + 1))

/-- BRT (R114): Engine branches through a table indexed by Wa; guarded off, it passes the table, whose words are never
executed. -/
def execBrt (x : Guard) (wa : RegNo) (n : Nat) (s : State) : Host.Outcome State Fault Refusal :=
  .next (s.issue x (decide (0 < n) && decide (n ≤ 256)) 3 (if (s.eng x.e.val).guard x then 1 else n + 1) 3 (fun s => s.doBrt x.e.val (s.w x.e.val wa.val) n))

/-- R79, R115: a loop opens: depth 5 and a body that extends past the body that contains it are handled as
undefined encodings. -/
def State.openLoop (s : State) (e c len : Nat) : State × Flow :=
  let y := s.eng e
  let past : Bool := match y.loops with
    | l :: _ => decide (l.last < y.pc + len)
    | [] => false
  if 4 ≤ y.depth ∨ past = true then (s, .illegal)
  else
    let l : LoopCtx := { first := y.pc + 1, last := y.pc + len, left := c - 1 }
    (s.setEng e { y.setLoops (l :: y.loops) with pc := (y.pc + 1) % 32768 }, .set)

/-- LOOP (R115): Engine opens a loop body repeated an immediate number of times. -/
def execLoop (x : Guard) (c len : Nat) (s : State) : Host.Outcome State Fault Refusal :=
  .next (s.issue x (decide (0 < c) && decide (c ≤ 4096) && decide (0 < len) && decide (len ≤ 1024)) 1 1 1
    (fun s => s.openLoop x.e.val c len))

/-- R78: a register count of 0 or above 4096 sets LEN_ERR and skips the body; it opens no loop, so a body that would extend
past the one that contains it is not looked at (DESIGN CHOICE: R78 and R115 do not order the two; notes/assumptions/58.md). -/
def execLoopr (x : Guard) (wa : RegNo) (len : Nat) (s : State) : Host.Outcome State Fault Refusal :=
  .next (s.issue x (decide (0 < len) && decide (len ≤ 1024)) 1 1 1 (fun s =>
    let c := (s.w x.e.val wa.val).toNat
    let y := s.eng x.e.val
    if 4 ≤ y.depth then (s, .illegal)
    else if c = 0 ∨ 4096 < c then (s.esf x.e.val .lenErr, .pass (len + 1))
    else s.openLoop x.e.val c len))

end Sys2Proof.Machine
end

