-- ==== Sys2Proof/Machine/Matrix.lean ====
section
/-! DEFINITION. Machine/Matrix.lean: the solver array's arithmetic to the bit (spec/07_solver_array.md R190 to
R197): exact sums saturated at 72 bits, one rounding per written element, division by a normalised pivot. -/
namespace Sys2Proof.Machine

/-- R191: the seed table: 2^16 / √c with c = 1 + (idx + ½)/128 below 128 and 2 + (idx − 128 + ½)/64 above. -/
def normSeed (idx : Nat) : Nat :=
  if idx < 128 then sqrtRound (2 ^ 40) (257 + 2 * idx) else sqrtRound (2 ^ 39) (257 + 2 * (idx - 128))

/-- R191: one refinement of the reciprocal square root. -/
def normStep (z y : Int) : Int :=
  let t := rdiv (y * y) 30
  let u := rdiv (z * t) 61
  rdiv (y * (3 * 2 ^ 30 - u)) 31

/-- R191, NORM: the pair (y, e) of a positive value `p` with `h` fraction bits. -/
def norm (p : Int) (h : Int) : Int × Int :=
  let l : Int := Nat.log2 p.toNat
  let e := (l - h) / 2
  let k : Int := 61 - h - 2 * e
  let z : Int := if 0 ≤ k then p * (2 ^ k.toNat : Nat) else p / (2 ^ (-k).toNat : Nat)
  let idx : Nat := if z ≥ (2 ^ 62 : Nat) then 128 + (z / (2 ^ 55 : Nat)).toNat % 128 else (z / (2 ^ 54 : Nat)).toNat % 128
  (normStep z (normStep z ((normSeed idx : Int) * 2 ^ 14)), e)

/-- An exact value times 2^(−s): rounded by R69 for a positive s, exact otherwise. -/
def scaleDown (x s : Int) : Int := if 0 < s then rdiv x s.toNat else x * (2 ^ (-s).toNat : Nat)

/-- R191, mrsq before its saturation: X / √P in format `fo`. -/
def mrsqRaw (x g p h fo : Int) : Int :=
  let (y, e) := norm p h
  scaleDown (x * y) (g + 30 + e - fo)

/-- R191, mrcp before its saturation: X / P in format `fo`. -/
def mrcpRaw (x g p h fo : Int) : Int :=
  let (y, e) := norm p h
  scaleDown (x * (y * y)) (g + 60 + 2 * e - fo)

/-- R190, wr before its saturation. -/
def wrRaw (x : Int) (g fo : Nat) : Int := if fo < g then rdiv x (g - fo) else x * (2 ^ (fo - g) : Nat)

/-- R190, wr with its saturation. -/
def wrInt (x : Int) (g fo : Nat) : Int := satTo 32 (wrRaw x g fo)

/-- A value with `f` fraction bits aligned to `g`. -/
def align (x : Int) (f g : Nat) : Int := x * (2 ^ (g - f) : Nat)

/-- A computation in staging: the elements of Z by row × 64 + column, the largest magnitude, the saturations, the
index of the first pivot replaced (R192). -/
structure Cx where
  z : SMap Int := []
  mx : Nat := 0
  satw : Bool := false
  psat : Bool := false
  sata : Bool := false
  pidx : Option Nat := none
deriving DecidableEq, Repr

/-- An element of the staging. -/
def Cx.get (c : Cx) (i j : Nat) : Int := mgetD c.z (i * 64 + j) 0

/-- An element put without a check of its size. -/
def Cx.put (c : Cx) (i j : Nat) (v : Int) : Cx := { c with z := mput c.z (i * 64 + j) v }

/-- R192: an element written to Z from its rounded, unsaturated value. -/
def Cx.store (c : Cx) (i j : Nat) (raw : Int) : Cx :=
  { c with z := mput c.z (i * 64 + j) (satTo 32 raw), mx := max c.mx (min raw.natAbs 0xFFFFFFFF) }

/-- A written value that saturates sets SATW. -/
def Cx.wrFlag (c : Cx) (raw : Int) : Cx := { c with satw := c.satw || satHit 32 raw }

/-- A quotient by a pivot that saturates sets PSAT. -/
def Cx.divFlag (c : Cx) (raw : Int) : Cx := { c with psat := c.psat || satHit 32 raw }

/-- R190: a sum from `start`, the terms added in order, saturated at 72 bits after each. -/
def Cx.sum (c : Cx) (start : Int) (terms : List Int) : Cx × Int :=
  terms.foldl (fun q t =>
    let v := q.2 + t
    ({ q.1 with sata := q.1.sata || satHit 72 v }, satTo 72 v)) (c, start)

/-- R192, the pivot rule: a pivot below the floor is replaced. -/
def Cx.pivot (c : Cx) (i : Nat) (p floor : Int) : Cx × Int :=
  if p < floor then ({ c with pidx := if c.pidx.isNone then some i else c.pidx }, floor) else (c, p)

/-- An operand as the array reads it. -/
abbrev Mat := Nat → Nat → Int

/-- The numbers below `n`. -/
abbrev upTo (n : Nat) : List Nat := List.range n

/-- The numbers from `a` to `b` − 1. -/
def between (a b : Nat) : List Nat := (List.range (b - a)).map (fun k => a + k)

/-- R194, CHOL. -/
def cholesky (n : Nat) (a : Mat) (fx fz : Nat) (floor : Int) : Cx :=
  let g := max fx (2 * fz)
  let dot := fun (c : Cx) (i j : Nat) => (upTo j).map (fun k => -(align (c.get i k * c.get j k) (2 * fz) g))
  (upTo n).foldl (fun c j =>
    let (c, s) := c.sum (align (a j j) fx g) (dot c j j)
    let raw := wrRaw s g fx
    let c := c.wrFlag raw
    let (c, p) := c.pivot j (satTo 32 raw) floor
    let d := mrsqRaw p fx p fx fz
    let c := (c.divFlag d).store j j d
    (upTo n).foldl (fun c i =>
      if i < j then c.store i j 0
      else if i = j then c
      else
        let (c, s) := c.sum (align (a i j) fx g) (dot c i j)
        let v := mrsqRaw s g p fx fz
        (c.divFlag v).store i j v) c) {}

/-- R194, LDLT. -/
def ldlt (n : Nat) (a : Mat) (fx fz : Nat) (floor : Int) : Cx :=
  let g := max fx (2 * fz)
  (upTo n).foldl (fun c j =>
    let (c, cs) := (upTo j).foldl (fun (q : Cx × List Int) k =>
      let raw := wrRaw (q.1.get j k * q.1.get k k) (2 * fz) fz
      (q.1.wrFlag raw, q.2 ++ [satTo 32 raw])) (c, [])
    let ck := fun k => lget cs k 0
    let (c, s) := c.sum (align (a j j) fx g) ((upTo j).map (fun k => -(align (ck k * c.get j k) (2 * fz) g)))
    let raw := wrRaw s g fz
    let c := c.wrFlag raw
    let (c, p) := c.pivot j (satTo 32 raw) floor
    let c := c.store j j (if p = satTo 32 raw then raw else p)
    (upTo n).foldl (fun c i =>
      if i < j then c.store i j 0
      else if i = j then c
      else
        let (c, s) := c.sum (align (a i j) fx g) ((upTo j).map (fun k => -(align (c.get i k * ck k) (2 * fz) g)))
        let v := mrcpRaw s g p fz fz
        (c.divFlag v).store i j v) c) {}

/-- sat32 of R195: saturation that sets SATW. -/
def Cx.sat (c : Cx) (v : Int) : Cx × Int := (c.wrFlag v, satTo 32 v)

/-- R195, QRH: the columns are reflected in turn on a working copy held in the staging; then Z takes the upper
triangle. -/
def qrh (m n : Nat) (a : Mat) (f fz : Nat) (floor : Int) : Cx :=
  let g := 2 * f
  let start : Cx := (upTo m).foldl (fun c i => (upTo n).foldl (fun c j => c.put i j (a i j)) c) {}
  let c := (upTo n).foldl (fun c j =>
    let (c, s0) := c.sum 0 ((between j m).map (fun i => c.get i j * c.get i j))
    let (c, s) := c.pivot j s0 (floor * (2 ^ (g - f) : Nat))
    let rraw := mrsqRaw s g s g f
    let c := c.divFlag rraw
    let rho := satTo 32 rraw
    let alpha := if 0 ≤ c.get j j then -rho else rho
    let (c, vj) := c.sat (c.get j j - alpha)
    let base := c
    let v := fun i => if i = j then vj else base.get i j
    let (c, q) := c.sum 0 ((between j m).map (fun i => v i * v i))
    let c := (between (j + 1) n).foldl (fun c k =>
      if 0 < q then
        let (c, d) := c.sum 0 ((between j m).map (fun i => v i * c.get i k))
        let hraw := mrcpRaw (2 * d) g q g f
        let c := c.divFlag hraw
        let h := satTo 32 hraw
        (between j m).foldl (fun c i =>
          let raw := wrRaw (h * v i) g f
          let c := c.wrFlag raw
          let (c, x) := c.sat (c.get i k - satTo 32 raw)
          c.put i k x) c
      else c) c
    c.put j j alpha) start
  let c := (upTo n).foldl (fun c j =>
    if c.get j j < 0 then
      (between j n).foldl (fun c k =>
        let (c, x) := c.sat (-(c.get j k))
        c.put j k x) c
    else c) c
  let w := c
  (upTo n).foldl (fun c j => (upTo n).foldl (fun c k =>
    if k < j then c.store j k 0
    else
      let raw := wrRaw (w.get j k) f fz
      (c.wrFlag raw).store j k raw) c) { c with z := [] }

/-- The direction of a triangular solve. -/
inductive TriMode where
  | l | lt | u
deriving DecidableEq, Repr

/-- R196: TRSV and TRSM, column by column. -/
def triSolve (mode : TriMode) (n k : Nat) (t b : Mat) (fx fz : Nat) (unit : Bool) (floor : Int) : Cx :=
  let g := max fz (fx + fz)
  let order := if mode = .l then upTo n else (upTo n).reverse
  (upTo k).foldl (fun c col =>
    order.foldl (fun c i =>
      let solved := if mode = .l then upTo i else between (i + 1) n
      let (c, y) := c.sum (align (b i col) fz g)
        (solved.map (fun q => -(align ((if mode = .lt then t q i else t i q) * c.get q col) (fx + fz) g)))
      if unit then
        let raw := wrRaw y g fz
        (c.wrFlag raw).store i col raw
      else
        let (c, p) := c.pivot i (t i i) floor
        let v := mrcpRaw y g p fx fz
        (c.divFlag v).store i col v) c) {}

/-- R197: one written element of a product or a scaled sum. -/
def Cx.writeSum (c : Cx) (i j : Nat) (start : Int) (terms : List Int) (g fz : Nat) : Cx :=
  let (c, s) := c.sum start terms
  let raw := wrRaw s g fz
  (c.wrFlag raw).store i j raw

/-- R197, GEMM. -/
def gemm (m n k : Nat) (a b z : Mat) (fx fy fz : Nat) (neg acc : Bool) : Cx :=
  let g := max (fx + fy) fz
  (upTo m).foldl (fun c i => (upTo n).foldl (fun c j =>
    c.writeSum i j (if acc then align (z i j) fz g else 0)
      ((upTo k).map (fun q => (if neg then -1 else 1) * align (a i q * b q j) (fx + fy) g)) g fz) c) {}

/-- R197, SYRK: the lower triangle. -/
def syrk (n k : Nat) (a z : Mat) (fx fz : Nat) (neg acc : Bool) : Cx :=
  let g := max (2 * fx) fz
  (upTo n).foldl (fun c i => (upTo (i + 1)).foldl (fun c j =>
    c.writeSum i j (if acc then align (z i j) fz g else 0)
      ((upTo k).map (fun q => (if neg then -1 else 1) * align (a i q * a j q) (2 * fx) g)) g fz) c) {}

/-- R197, AXPY. -/
def axpy (r cols : Nat) (x y : Mat) (alpha : Int) (fa fx fz : Nat) (neg : Bool) : Cx :=
  let g := max (fa + fx) fz
  (upTo r).foldl (fun c i => (upTo cols).foldl (fun c j =>
    c.writeSum i j (align (y i j) fz g) [(if neg then -1 else 1) * align (alpha * x i j) (fa + fx) g] g fz) c) {}

/-- R197, SHIFT: blocks of `blk` rows. -/
def shiftBlocks (r cols blk : Nat) (x : Mat) (fx fz : Nat) : Cx :=
  (upTo r).foldl (fun c i => (upTo cols).foldl (fun c j =>
    let raw := wrRaw (x (if i + blk < r then i + blk else i) j) fx fz
    (c.wrFlag raw).store i j raw) c) {}

/-- R197, NMAX. -/
def nmax (r cols : Nat) (x : Mat) (fx fz : Nat) : Cx :=
  let m := (upTo r).foldl (fun m i => (upTo cols).foldl (fun m j => max m (x i j).natAbs) m) 0
  let raw := wrRaw (m : Int) fx fz
  (({} : Cx).wrFlag raw).store 0 0 raw

end Sys2Proof.Machine
end

