-- ==== Sys2Proof/Machine/Sched.lean ====
section
/-! DEFINITION. Machine/Sched.lean: triggers, dispatch, axes, compare units (spec/05_clauses_axes_fullstop.md R136
to R149, R154, R155, R162, R163; spec/03_programming_model.md R61). -/
namespace Sys2Proof.Machine

/-- What the unit latches at a trigger (R61, R155, R431, R409): the trigger's own values with the input levels,
telegram validity and safety inputs of the trigger instant. -/
def State.latchTrig (s : State) (kind : Nat) (w3 cjst ntkt : Word) : TrigInfo :=
  { kind := kind, w3 := w3, clk := s.clk, cjst := cjst, ntkt := ntkt
    inl := s.reg Reg.DIO_INL, invl := s.reg Reg.DIO_INVL
    tval0 := s.reg Reg.SAF_TVAL0, tval1 := s.reg Reg.SAF_TVAL1
    getin := wd ((s.regF Reg.SAF_PSTAT 31 16) * 65536 + s.safIn) }

/-- R138: a trigger makes an enabled clause of an enabled group ready; one that already has a pending execution
counts it in TRIGLOST. -/
def State.makeReady (s : State) (c : Nat) (t : TrigInfo) : State :=
  if !(s.clauseEn c) || !(s.groupEn (s.clauseGroup c)) then s
  else if s.sched.ready.any (fun r => r.clause == c) then
    s.updCounts c (fun x => { x with trigLost := (x.trigLost + 1) % 65536 })
  else { s with sched := { s.sched with ready := s.sched.ready ++ [{ clause := c, trig := t }] } }

/-- R162: the clauses that a block event of this class and index triggers. -/
def State.eventClauses (s : State) (cls idx : Nat) : List Nat :=
  s.clauses.filter (fun c =>
    s.clauseEn c && s.clauseType c == 2 && s.regF (Reg.SCH_CDC c) 31 28 == cls && s.regF (Reg.SCH_CDC c) 15 0 == idx)

/-- R162: a block event of class 1 to 12. -/
def State.blockEvent (s : State) (cls idx : Nat) : State :=
  (s.eventClauses cls idx).foldl (fun s c => s.makeReady c (s.latchTrig 2 0 0 0xFFFFFFFF)) s

/-- R163: a class 0 event, carrying the sequence of the issuing clause's group when the command was issued, goes to
clause `c`. A clause that is not triggered by class 0 gets no event, so none is discarded and SCH_RDISC stands (DESIGN
CHOICE: R163 does not name the case; notes/assumptions/58.md). -/
def State.notifyClause (s : State) (c seq ticket : Nat) : State :=
  if s.clauseType c = 2 ∧ s.regF (Reg.SCH_CDC c) 31 28 = 0 then
    if (s.group (s.clauseGroup c)).seq = seq then s.makeReady c (s.latchTrig 2 0 0 (wd ticket))
    else s.bump Reg.SCH_RDISC
  else s

/-- R142: whether the source of axis `n` marks its value valid. -/
def State.axisSourceValid (s : State) (n : Nat) : Bool :=
  match s.regF (Reg.SCH_AXSRC n) 6 4 with
  | 1 => s.regB (Reg.ENC_STAT (s.regF (Reg.SCH_AXSRC n) 2 0)) 31
  | 2 => s.wave.valid
  | 3 => s.mains.valid
  | 4 => true
  | _ => false

/-- A phase carried on to elapsed time `el`: phase + rate × whole µs since the stamp (R142). -/
def Phase.at (p : Phase) (el : Nat) : Word := p.phase + wdi (sw p.rate * (((el - p.stamp) / 1000 : Nat) : Int))

/-- R142: the position the source of axis `n` gives now. -/
def State.axisSourcePos (s : State) (n : Nat) : Word :=
  match s.regF (Reg.SCH_AXSRC n) 6 4 with
  | 1 => s.reg (Reg.ENC_POS (s.regF (Reg.SCH_AXSRC n) 2 0))
  | 2 => s.wave.at s.tb.el
  | 3 => s.mains.at s.tb.el
  | _ => (s.axis n).pos

/-- The axis takes its source's position when the source is valid and the axis is not in loss. -/
def State.followSource (s : State) (n : Nat) : State :=
  if s.axisSourceValid n && !(s.axis n).lost then
    let s := s.updAxis n (fun a => { a with valid := true })
    s.moveAxis n (s.axisSourcePos n)
  else s

/-- R142: an encoder sample updates every axis that takes that encoder channel. -/
def State.encoderAxes (s : State) (ch : Nat) : State :=
  (List.range 8).foldl (fun s n =>
    if n ≠ 0 ∧ s.regF (Reg.SCH_AXSRC n) 6 4 = 1 ∧ s.regF (Reg.SCH_AXSRC n) 2 0 = ch then s.followSource n else s) s

/-- R142, R591: one axis tick. A virtual axis that took SETPOS after this tick, or with it (R145), does not move again. -/
def State.tickAxes (s : State) : State :=
  (List.range 8).foldl (fun s n =>
    if n = 0 then s
    else match s.regF (Reg.SCH_AXSRC n) 6 4 with
      | 2 => s.followSource n
      | 3 => s.followSource n
      | 4 =>
        let s := s.updAxis n (fun a => { a with valid := true })
        if mget s.now.ticked n = some (s.tb.t / 1000) then s else s.moveAxis n ((s.axis n).pos + s.reg (Reg.SCH_AXRATE n))
      | _ => s) s

/-! ### Meanings -/

/-- PERIODIC_TRIGGER (R141): TMB_NS has reached the clause's scheduled value, which goes into W3. -/
def execPeriodicTrigger (c : ClauseNo) (s : State) : Host.Outcome State Fault Refusal :=
  .next (
    let g := s.clauseGroup c.val
    let at_ := mgetD (s.group g).trigNext c.val (s.reg (Reg.SCH_GORG g) + s.reg (Reg.SCH_CDC c.val))
    if s.sched.on && s.clauseEn c.val && s.groupEn g && s.clauseType c.val == 0 && s.groupAxis g == 0
        && decide (0 ≤ turnDiff s.tmbNs at_) then
      s.inStep true 2 (fun s => (s.makeReady c.val (s.latchTrig 0 at_ 0 0xFFFFFFFF)).updGroup g (fun x =>
        { x with trigNext := mput x.trigNext c.val (at_ + s.reg (Reg.SCH_GPER g)) }))
    else s)

/-- The trigger units that take their instants from compare unit `k` become due (R338). -/
def State.fireUnits (s : State) (k : Nat) : State :=
  let units := (s.listed 0x5030 4 16).filter (fun u =>
    s.regB (Reg.TMB_TRGA u) 31 && s.regB (Reg.TMB_TRGA u) 30 && s.regF (Reg.TMB_TRGA u) 29 25 == k)
  { s with sched := { s.sched with trigDue := s.sched.trigDue ++ units } }

/-- The clauses a conjunction names (R136). -/
def State.conjNames (s : State) (c : Nat) : List Nat :=
  let w := s.reg (Reg.SCH_CDC c)
  [fld w 23 16, fld w 15 8, fld w 7 0].take (fld w 31 30)

/-- R155: SCH_CJST for these end states, C1 first. -/
def cjstWord (l : List EndState) : Word :=
  wd ((l.zipIdx.map (fun p => p.1.code * 2 ^ (4 * p.2))).foldl (· + ·) 0)

/-- CONJUNCTION_READY (R154, R155): in a FAB clock after the last of the named clauses has ended. -/
def execConjunctionReady (c : ClauseNo) (s : State) : Host.Outcome State Fault Refusal :=
  .next (
    let g := s.group (s.clauseGroup c.val)
    let names := s.conjNames c.val
    let ends := names.filterMap g.endOf
    if s.clauseEn c.val && s.clauseType c.val == 3 && !names.isEmpty && ends.length == names.length
        && !(g.conjFired.contains c.val) && names.all (fun n => decide ((s.counts n).endClk < s.clk)) then
      (s.makeReady c.val (s.latchTrig 3 0 (cjstWord ends) 0xFFFFFFFF)).updGroup (s.clauseGroup c.val)
        (fun x => { x with conjFired := x.conjFired ++ [c.val] })
    else s)

/-- R139: engine `e` can take a clause. -/
def State.idle (s : State) (e : Nat) : Bool :=
  let x := s.eng e
  x.run.isNone && !x.oos && !x.selftest && !(s.regB Reg.CLE_LSSTAT (4 + e / 2) && s.locked e)

/-- R139: whether ready clause `c` may be dispatched on engine `e` now. -/
def State.canTake (s : State) (e c : Nat) : Bool :=
  s.hostOf c == e && (if s.clauseLock c then s.locked e && e % 2 == 0 && s.idle (e + 1) else !s.locked e)

/-- R139: the ready clause of the highest priority, the lowest number among equals. -/
def State.pickReady (s : State) (e : Nat) : Option ReadyEntry :=
  (s.sched.ready.filter (fun r => s.canTake e r.clause)).foldl (fun best r =>
    match best with
    | none => some r
    | some b =>
      if s.clausePrio b.clause < s.clausePrio r.clause
          ∨ (s.clausePrio b.clause = s.clausePrio r.clause ∧ r.clause < b.clause) then some r else some b) none

/-- R61: the registers of an engine at dispatch. -/
def Engine.atDispatch (x : Engine) (entry : Nat) (c : Nat) (w2 w3 : Word) (r : Run) : Engine :=
  { x with regs := [(1, wd c), (2, w2), (3, w3)], acc := [], pred := [], pc := entry, esf := 0
           calls := [⟨none, []⟩], wait := none, run := some r }

/-- DISPATCH (R139, R140, R61): `delay` is the part of the dispatch time that R140 leaves between 6 and 8 clocks
when the engine was idle at the trigger. -/
def execDispatch (e : EngineNo) (delay : Fin 3) (s : State) : Host.Outcome State Fault Refusal :=
  .next (
    if s.idle e.val && s.sched.on then
      match s.pickReady e.val with
      | none => s
      | some r =>
        let x := s.eng e.val
        let idleAt := decide (x.endClk < r.trig.clk)
        let start := max (r.trig.clk + 6 + (if idleAt then delay.val else 0)) (if x.last.isSome then x.endClk + 4 else 0)
        let g := s.clauseGroup r.clause
        let run : Run := { clause := r.clause, group := g, disp := s.sched.dispNo, seq := (s.group g).seq
                           budget := s.clauseBudget r.clause, lock := s.clauseLock r.clause
                           start := start, count := 0, trig := r.trig }
        let s1 : State := { s with sched := { s.sched with
          ready := s.sched.ready.filter (fun q => q.clause != r.clause), dispNo := s.sched.dispNo + 1 } }
        s1.setEng e.val { x.atDispatch (s.clauseEntry r.clause) r.clause (wd (s.group g).seq) r.trig.w3 run with acct := start }
    else s)

/-- R545, R149: scheduling starts; the groups in force are set from the positions of that tick. -/
def State.startScheduling (s : State) : State :=
  if s.boot.stage == .running && !s.sched.on then
    (s.groupList.filter s.groupEn).foldl (fun s g => s.armGroup g) { s with sched := { s.sched with on := true } }
  else s

/-- AXIS_TICK (R591, R342, R545): T, advancing, has reached a multiple of 1000 ns since the last tick; the scheduler delivers
its alive pulse, with which heartbeats go on; the first tick after the loader starts scheduling. -/
def execAxisTick (s : State) : Host.Outcome State Fault Refusal :=
  .next (
    if s.tb.lastTick < s.tb.t / 1000 then
      ({ s with tb := { s.tb with lastTick := s.tb.t / 1000 }, pair := { s.pair with pulseEl := s.tb.el, quiet := false } } : State).tickAxes.startScheduling
    else s)

/-- AXIS_LOSS (R143). -/
def execAxisLoss (n : AxisNo) (s : State) : Host.Outcome State Fault Refusal :=
  .next (
    let src := s.regF (Reg.SCH_AXSRC n.val) 6 4
    if n.val ≠ 0 ∧ src ≠ 0 ∧ src ≠ 4 ∧ (s.axis n.val).valid = true ∧ s.axisSourceValid n.val = false then
      ((s.updAxis n.val (fun a => { a with valid := false, lost := true })).setBitR
        Reg.SCH_AXSTK n.val).record .axisLoss n.val [n.val]
    else s)

/-- AXIS_RESTORE (R143): the axis takes the new value in one step. -/
def execAxisRestore (n : AxisNo) (s : State) : Host.Outcome State Fault Refusal :=
  .next (
    if n.val ≠ 0 ∧ (s.axis n.val).lost = true ∧ s.axisSourceValid n.val = true then
      let s1 := s.updAxis n.val (fun a => { a with lost := false })
      (s1.followSource n.val).record .axisRestore n.val [n.val]
    else s)

end Sys2Proof.Machine
end

