-- ==== Sys2Proof/Machine/Timebase.lean ====
section
/-! DEFINITION. Machine/Timebase.lean: the time count, the servo, its sources, PPS, capture units, PTP ports
(spec/12_timebase.md R318 to R337). The trigger units act on other blocks: Machine/Trigger.lean. -/
namespace Sys2Proof.Machine

/-- R326: the timebase state: 0 FREE, 1 ACQUIRE, 2 LOCKED, 3 HOLDOVER. -/
def State.tbState (s : State) : Nat := s.regF Reg.TMB_STAT 31 30

/-- The source in use (TMB_STAT.SRC). -/
def State.srcInUse (s : State) : Nat := s.regF Reg.TMB_STAT 28 26

/-- The first valid source of the priority list of TMB_SRV, 0 where there is none. -/
def State.bestSource (s : State) : Nat :=
  ([s.regF Reg.TMB_SRV 31 28, s.regF Reg.TMB_SRV 27 24, s.regF Reg.TMB_SRV 23 20].find?
    (fun c => c != 0 && s.tb.valid.contains c)).getD 0

/-- R326: the uncertainty in HOLDOVER: U0 + t/10 + 3 t² / 200 000 ns, t in s, rounded by R5 and saturated. -/
def holdoverUnc (u0 el : Nat) : Nat :=
  let d : Nat := 200000 * 10 ^ 18
  let n : Int := (u0 * d + el * 20000 * 10 ^ 9 + 3 * el * el : Nat)
  min (rquo n d).toNat 0xFFFFFFFF

/-- TMB_UNC as it reads now. -/
def State.unc (s : State) : Nat :=
  if s.tbState = 3 then holdoverUnc s.tb.u0 (s.tb.el - s.tb.holdEl) else (s.reg Reg.TMB_UNC).toNat

/-- The largest |o| of a list of offsets. -/
def maxAbs (l : List Nat) : Nat := l.foldl max 0

/-- R326: HOLDOVER ends. -/
def State.endHoldover (s : State) : State :=
  if s.tbState = 3 then s.record .holdoverEnd 0 [s.tb.el - s.tb.holdEl, s.unc] else s

/-- R325 to R327: source `c` becomes the source in use, and the state ACQUIRE. -/
def State.useSource (s : State) (c : Nat) : State :=
  let s := s.endHoldover
  let s := (s.record .timeSource c [s.srcInUse, c]).bump Reg.TMB_NSRCCHG
  let s := (s.setRegF Reg.TMB_STAT 31 30 1).setRegF Reg.TMB_STAT 28 26 c
  let s := s.setReg Reg.TMB_UNC 0xFFFFFFFF
  s.updTb (fun b => { b with since := 0, small := 0, overs := 0 })

/-- R324, R326: no source is left: HOLDOVER after a lock with the OCXO warm, otherwise FREE at the last rate. -/
def State.noSource (s : State) : State :=
  let st := s.tbState
  let s := (s.record .timeSource 0 [s.srcInUse, 0]).bump Reg.TMB_NSRCCHG
  let s := s.setRegF Reg.TMB_STAT 28 26 0
  if (st = 2 ∨ (st = 1 ∧ s.tb.everLocked = true)) ∧ s.regB Reg.TMB_STAT 29 = true then
    let mean := rquo (s.tb.fHist.foldl (· + ·) 0) s.tb.fHist.length
    let fm := if s.tb.fHist.isEmpty then s.tb.f else mean
    let s := (s.setRegF Reg.TMB_STAT 31 30 3).setBitR Reg.TMB_STK 2
    let s := s.updTb (fun b => { b with rate := clampI (-128000000) 128000000 (-fm), u0 := maxAbs (b.recent.take 16), holdEl := b.el })
    (s.setReg Reg.TMB_FADJ (wdi s.tb.rate)).record .holdover 0 []
  else
    let s := if st = 0 then s else s.record .timeFree 0 []
    let s := (s.setRegF Reg.TMB_STAT 31 30 0).setReg Reg.TMB_UNC 0xFFFFFFFF
    s.updTb (fun b => { b with fresh := true })

/-- The source in use chosen again after the set of valid sources changed. -/
def State.chooseSource (s : State) : State :=
  let c := s.bestSource
  if c = s.srcInUse then s else if c = 0 then s.noSource else s.useSource c

/-- R323: the servo takes an offset that is not part of a step. -/
def State.servo (s : State) (o : Int) : State :=
  let kp : Int := s.regF Reg.TMB_GAIN 31 24
  let ki : Int := s.regF Reg.TMB_GAIN 23 16
  let kpsh := s.regF Reg.TMB_GAIN 12 8
  let kish := s.regF Reg.TMB_GAIN 4 0
  let slew : Int := (s.regF Reg.TMB_SRV 8 0 : Nat) * 256000
  let f := clampI (-128000000) 128000000 (s.tb.f + rdiv (o * ki) kish)
  let ph := clampI (-slew) slew (rdiv (o * kp) kpsh)
  let rate := clampI (-128000000) 128000000 (-(f + ph))
  (s.updTb (fun b => { b with f := f, rate := rate })).setReg Reg.TMB_FADJ (wdi rate)

/-- R326: TMB_UNC formed afresh: the largest |o| of the last 16 offsets, or of those since the state was entered. -/
def State.formUnc (s : State) : State :=
  let set := s.tb.recent.take (min s.tb.since 16)
  s.setReg Reg.TMB_UNC (if set.isEmpty then 0xFFFFFFFF else wd (min (maxAbs set) 0xFFFFFFFF))

/-- R326: an offset enters the set of the last offsets. -/
def State.noteOffset (s : State) (o : Int) : State :=
  (s.updTb (fun b => { b with recent := (o.natAbs :: b.recent).take 17, since := b.since + 1 })).formUnc

/-- R324: the step Δ = −o is decided; the offsets that decide it do not stay in the set. -/
def State.decideStep (s : State) (o : Int) : State :=
  let s := s.updTb (fun b => { b with recent := b.recent.drop b.overs, since := b.since - b.overs })
  (s.updTb (fun b => { b with step := some (4 * rdiv (-o) 2), overs := 0, small := 0, fresh := false })).formUnc

/-- R323, R324, R326: an offset from the source in use; STEP_THR is in µs. -/
def State.takeOffset (s : State) (o : Int) : State :=
  if s.tb.step.isSome then s
  else
    let s := s.setReg Reg.TMB_OFS (sat32 o)
    let thr := s.regF Reg.TMB_STEPTHR 15 0 * 1000
    if thr < o.natAbs then
      let first := !s.tb.everLocked && s.tb.fresh
      if first || s.tb.overs = 1 then s.decideStep o
      else (s.updTb (fun b => { b with overs := 1, small := 0 })).noteOffset o
    else
      let s := s.servo o
      let small := if o.natAbs ≤ 1000 then s.tb.small + 1 else 0
      let s := (s.updTb (fun b => { b with small := small, overs := 0, fresh := false })).noteOffset o
      if s.tbState = 1 ∧ 16 ≤ small then
        (s.setRegF Reg.TMB_STAT 31 30 2).updTb (fun b => { b with everLocked := true })
      else s

/-! ### Meanings -/

/-- R319: the latch of a party: NSHI, SEC, SECH, SUB of the same TBC clock. -/
def State.latchTime (s : State) (p : Nat) : State :=
  let sec := s.tb.t / 1000000000
  (((s.setPreg p Reg.TMB_NSHI (wd (s.tb.t / 2 ^ 32))).setPreg p Reg.TMB_SEC (wd sec)).setPreg p Reg.TMB_SECH
    (wd (sec / 2 ^ 32 % 65536))).setPreg p Reg.TMB_SUB (wd (s.tb.t % 1000000000))

/-- TMB_NS_READ (R319): A GET of TMB_NS latches the high part of T for the reading party. -/
def execTmbNsRead (p : Party) (s : State) : Host.Outcome State Fault Refusal :=
  .next (if s.inTurn 0 then (s.acting 0).latchTime (partyNo p) else s)

/-- SERVO_OFFSET (R323): An offset from the source in use updates the servo or counts toward a step. -/
def execServoOffset (src : Nat) (o : Int) (s : State) : Host.Outcome State Fault Refusal :=
  .next (if src ≠ 0 ∧ src = s.srcInUse then s.takeOffset o else s)

/-- TIME_STEP (R324): the pending step is taken in the clock in which T would reach the second boundary. -/
def execTimeStep (s : State) : Host.Outcome State Fault Refusal :=
  .next (
    match s.tb.step with
    | none => s
    | some d =>
      let adv := (tbcAdvance s.tb.acc s.tb.rate).1
      let b := (s.tb.t + adv) / 1000000000
      if s.tb.t / 1000000000 < b then
        (s.updTb (fun x => { x with acc := (tbcAdvance x.acc x.rate).2, el := x.el + 4 })).applyStep s.tb.t (b * 1000000000) d
      else s)

/-- R328: an interval of 2^l seconds, l a signed 4-bit field, ns. -/
def ptpInterval (v : Nat) : Nat :=
  let l := sext 4 v
  if l < 0 then 1000000000 / 2 ^ l.natAbs else 1000000000 * 2 ^ l.natAbs

/-- At least `lim` ns have passed since the time `e`, if there was one. -/
def State.silentFor (s : State) (lim : Nat) (e : Option Nat) : Bool :=
  match e with
  | some e => decide (lim ≤ s.tb.el - e)
  | none => true

/-- Chapter 12, sources: a port of sources 1 to 4 is lost when it is not in SLAVE state or has had no Sync for 3 sync intervals
of its LSYNC, source 5 after 2 s without a post, source 6 after 1.5 s without an edge. -/
def State.sourceSilent (s : State) (src : Nat) : Bool :=
  match src with
  | 5 => s.silentFor 2000000000 s.tb.lastGpost
  | 6 => s.silentFor 1500000000 s.tb.ppsInEl
  | _ =>
    let p := src - 1
    s.regF (Reg.TMB_PTPS p) 31 28 != 9 || s.silentFor (3 * ptpInterval (s.regF (Reg.TMB_PTPC p) 15 12)) (mgetD s.tb.ptp p {}).syncEl

/-- SOURCE_LOST (R326): The source in use is lost; the timebase changes source or enters HOLDOVER or FREE. -/
def execSourceLost (src : Nat) (s : State) : Host.Outcome State Fault Refusal :=
  .next (
    if s.tb.valid.contains src && s.sourceSilent src then
      let inUse := decide (src = s.srcInUse)
      let s1 := s.updTb (fun b => { b with valid := b.valid.filter (fun c => c != src) })
      (if inUse then s1.setBitR Reg.TMB_STK 1 else s1).chooseSource
    else s)

/-- SOURCE_RETURN (R327): A source returns and the timebase enters ACQUIRE. -/
def execSourceReturn (src : Nat) (s : State) : Host.Outcome State Fault Refusal :=
  .next (
    if 1 ≤ src ∧ src ≤ 6 ∧ s.tb.valid.contains src = false ∧ s.sourceSilent src = false then
      (s.updTb (fun b => { b with valid := b.valid ++ [src] })).chooseSource
    else s)

/-- OCXO_WARM (R326): the OCXO has run 180 s since the first feed counted as present, resets that keep the logic powered not
ending the count, and WARM is set. -/
def execOcxoWarm (s : State) : Host.Outcome State Fault Refusal :=
  .next (if 180000000000 ≤ s.boot.ocxo + s.tb.el then s.setBitR Reg.TMB_STAT 29 else s)

/-- The offset of an edge at T − PPSDLY from the nearest multiple of 10^9, in (−0.5 s, 0.5 s]. -/
def ppsOffset (t dly : Nat) : Int :=
  let r : Int := ((t : Int) - (dly : Int)) % 1000000000
  if 500000000 < r then r - 1000000000 else r

/-- PPS_IN_EDGE (R321): an edge not within 1 s ± 1 ms of the previous edge is ignored and counted. -/
def execPpsInEdge (s : State) : Host.Outcome State Fault Refusal :=
  .next (
    let ok := match s.tb.ppsInEl with
      | some e => decide (999000000 ≤ s.tb.el - e) && decide (s.tb.el - e ≤ 1001000000)
      | none => false
    let s1 := s.updTb (fun b => { b with ppsInEl := some b.el })
    if !ok then s1.bump Reg.TMB_NPPSBAD
    else if s1.srcInUse = 6 then s1.takeOffset (ppsOffset s1.tb.t (s1.regF Reg.TMB_PPS 22 0)) else s1)

/-- TMB_GPOST (R322): the posted offset, GOFSH:GOFSL signed 64 bits. -/
def State.gpost (s : State) (v : Word) : State :=
  if 1000000000 < turnDiff s.tmbNs v then s.setBitR Reg.TMB_STK 4
  else
    let o := sext 64 ((s.reg Reg.TMB_GOFSH).toNat * 2 ^ 32 + (s.reg Reg.TMB_GOFSL).toNat)
    let s := s.updTb (fun b => { b with lastGpost := some b.el })
    if s.srcInUse = 5 then s.takeOffset o else s

/-- TMB_GPOST (R322): A write posts a GNSS time offset or is refused. -/
def execTmbGpost (p : Party) (v : Word) (s : State) : Host.Outcome State Fault Refusal := .next (s.byParty p (fun s => s.gpost v))

/-- PPS_OUT_EDGE (R330, R331, R333): T has reached or passed a multiple of 10^9 since the last edge. -/
def execPpsOutEdge (s : State) : Host.Outcome State Fault Refusal :=
  .next (
    let k := s.tb.t / 1000000000
    if s.tb.ppsLast < k then
      s.inStep true 4 fun s =>
      let s1 := s.updTb (fun b => { b with ppsLast := k })
      let soon := match s.tb.ppsEl with
        | some e => decide (s.tb.el - e < 500000000)
        | none => false
      if soon then ((s1.bump Reg.TMB_NOMIT).setBitR Reg.TMB_STK 3).record .ppsOmit 0 []
      else s1.updTb (fun b => { b with ppsEl := some b.el, ppsHigh := true })
    else s)

/-- PPS_PULSE_END (R330): PPSW ms of elapsed time after the edge. -/
def execPpsPulseEnd (s : State) : Host.Outcome State Fault Refusal :=
  .next (
    match s.tb.ppsEl with
    | some e =>
      if s.tb.ppsHigh && decide (s.regF Reg.TMB_PPS 31 23 * 1000000 ≤ s.tb.el - e) then
        s.updTb (fun b => { b with ppsHigh := false })
      else s
    | none => s)

/-- R44: an element goes to every enabled route of its source, in the order produced. -/
def State.routesOf (s : State) (cls idx : Nat) : List Nat :=
  (s.listed 0x0900 4 64).filter (fun n =>
    s.regB (Reg.MBK_RTS n) 31 && s.regF (Reg.MBK_RTS n) 25 22 == cls && s.regF (Reg.MBK_RTS n) 21 16 == idx)

/-- A source produces an element: it waits for delivery on each of its routes. -/
def State.produce (s : State) (cls idx : Nat) (el : List Word) : State :=
  { s with banks := { s.banks with routeQ := s.banks.routeQ ++ (s.routesOf cls idx).map (fun n => (n, el)) } }

/-- CAPTURE_EDGE (R337): a unit with source code 0 takes no edge. -/
def execCaptureEdge (k : Fin 16) (rising : Bool) (s : State) : Host.Outcome State Fault Refusal :=
  .next (
    let c := s.reg (Reg.TMB_CAP k.val)
    let want := if rising then bit c 4 else bit c 5
    if bit c 31 && want && fld c 3 0 != 0 then
      let u := mgetD s.tb.capture k.val {}
      let soon := match u.last with
        | some e => decide (s.tb.el - e < 1000)
        | none => false
      if soon then
        (s.updTb (fun b => { b with capture := mput b.capture k.val { last := some b.el, lost := true } })).bump Reg.TMB_NCAPLOST
      else
        let w1 := (s.tb.t / 2 ^ 32 % 65536) * 65536 + 2 * b2n (!rising) + b2n u.lost
        let s1 := s.updTb (fun b => { b with capture := mput b.capture k.val { last := some b.el, lost := false } })
        (s1.produce 6 k.val [s.tmbNs, wd w1]).blockEvent 5 k.val
    else s)

/-! ### Precision time protocol (R328): IEEE 1588-2019 as the table limits it -/

/-- clockClass announced (R328). -/
def State.ptpClass (s : State) : Nat :=
  let src := s.srcInUse
  if s.tbState = 2 ∧ (src = 5 ∨ src = 6) then 6
  else if s.tbState = 3 then 7
  else if 1 ≤ src ∧ src ≤ 4 then ((mgetD s.tb.ptp (src - 1) {}).best[1]?).getD 248
  else 248

/-- The unit's own data set: priority1, class, accuracy, variance, priority2, identity. -/
def State.ptpOwnSet (s : State) : List Nat :=
  [s.regF Reg.TMB_PTPG 31 24, s.ptpClass, Config.ptpOwn 0, Config.ptpOwn 1, s.regF Reg.TMB_PTPG 23 16, Config.ptpOwn 2]

/-- Data set comparison: the lower value in the first place where two sets differ is better. -/
def dsBetter : List Nat → List Nat → Bool
  | a :: l, b :: m => if a < b then true else if b < a then false else dsBetter l m
  | [], _ :: _ => false
  | _, [] => false

/-- The PTP ports that are enabled. -/
def State.ptpPorts (s : State) : List Nat := (List.range 4).filter (fun p => s.regB (Reg.TMB_PTPC p) 31)

/-- The enabled port that hears the best foreign master, if any is better than the unit's own set. -/
def State.ptpBest (s : State) : Option Nat :=
  (s.ptpPorts.filter (fun p => !(mgetD s.tb.ptp p {}).best.isEmpty)).foldl (fun b p =>
    let ds := (mgetD s.tb.ptp p {}).best
    match b with
    | none => if dsBetter ds s.ptpOwnSet then some p else none
    | some q => if dsBetter ds (mgetD s.tb.ptp q {}).best then some p else some q) none

/-- Port states chosen again (IEEE 1588-2019 codes: 3 DISABLED, 4 LISTENING, 6 MASTER, 7 PASSIVE, 8 UNCALIBRATED,
9 SLAVE). -/
def State.ptpDecide (s : State) : State :=
  let best := s.ptpBest
  (List.range 4).foldl (fun s p =>
    let st :=
      if !(s.regB (Reg.TMB_PTPC p) 31) then 3
      else if best = some p then (if (mgetD s.tb.ptp p {}).delayKnown then 9 else 8)
      else if s.regB (Reg.TMB_PTPC p) 30 then 6
      else if best.isSome ∧ !(mgetD s.tb.ptp p {}).best.isEmpty then 7 else 4
    s.setRegF (Reg.TMB_PTPS p) 31 28 st) s

/-- A port's record changed. -/
def State.updPtp (s : State) (p : Nat) (f : PtpPort → PtpPort) : State :=
  s.updTb (fun b => { b with ptp := mput b.ptp p (f (mgetD b.ptp p {})) })

/-- A Sync or Follow_Up of the master: offsetFromMaster, once the path delay is known. -/
def State.ptpOffset (s : State) (p : Nat) (raw : Int) : State :=
  if s.regF (Reg.TMB_PTPS p) 31 28 = 9 ∧ s.srcInUse = p + 1 then
    s.takeOffset (raw - (s.regF (Reg.TMB_PTPS p) 27 0 : Nat))
  else s

/-- R328: the data set announced: the grandmaster's when a PTP port is the source, otherwise the unit's own. -/
def State.ptpAnnounced (s : State) : List Nat :=
  let best := (mgetD s.tb.ptp (s.srcInUse - 1) {}).best
  if 1 ≤ s.srcInUse ∧ s.srcInUse ≤ 4 ∧ best ≠ [] then best else s.ptpOwnSet

/-- A message of a port: in the unit's domain, over the transport that UDP selects; nothing leaves a port without link. -/
def State.ptpSend (s : State) (p kind seq : Nat) (body : List Nat) : State :=
  if s.regB (Reg.ETH_PSTAT p) 31 then
    s.etherOut (.ptp p kind seq (s.regF Reg.TMB_PTPG 6 0) (s.regB (Reg.TMB_PTPC p) 27) body)
  else s

/-- The mean path delay measured by a port. -/
def State.ptpDelay (s : State) (p d : Nat) : State :=
  ((s.setRegF (Reg.TMB_PTPS p) 27 0 (min d 0xFFFFFFF)).updPtp p (fun x => { x with delayKnown := true })).ptpDecide

/-- R328, R329: a commit that changes EN or MASTER of a port, the priorities or the domain: what was heard under another domain
or before the port was enabled is forgotten, and the port states are chosen again. -/
def State.ptpHook (s : State) (ports : List Nat) : State :=
  (ports.foldl (fun s p => s.updPtp p (fun _ => {})) s).ptpDecide

/-- PTP_MESSAGE (R328): A precision time protocol message is received and processed; one of another domain is not. -/
def execPtpMessage (port : Fin 4) (dom : Nat) (m : PtpMsg) (s : State) : Host.Outcome State Fault Refusal :=
  .next (
    let p := port.val
    let p2p := s.regB (Reg.TMB_PTPC p) 28
    if !(s.regB (Reg.TMB_PTPC p) 31) || dom != s.regF Reg.TMB_PTPG 6 0 || s.domainOut (7 + p) then s
    else match m with
    | .announce ds =>
      let old := (mgetD s.tb.ptp p {}).gm
      let gm := (ds[5]?).getD 0
      let s1 := (s.updPtp p (fun x => { x with best := ds, gm := gm })).ptpDecide
      if s1.srcInUse = p + 1 ∧ old ≠ gm ∧ old ≠ 0 then s1.useSource (p + 1) else s1
    | .syncOneStep raw => (s.updPtp p (fun x => { x with syncEl := some s.tb.el, awaited := false })).ptpOffset p raw
    | .syncTwoStep => s.updPtp p (fun x => { x with syncEl := some s.tb.el, awaited := true })
    | .followUp raw =>
      if (mgetD s.tb.ptp p {}).awaited then (s.updPtp p (fun x => { x with awaited := false })).ptpOffset p raw else s
    | .delayReq => if s.regF (Reg.TMB_PTPS p) 31 28 = 6 ∧ p2p = false then s.ptpSend p 9 0 [s.tb.t] else s
    | .delayResp d => if p2p then s else s.ptpDelay p d
    | .pdelayReq => if p2p then s.ptpSend p 3 0 [s.tb.t] else s
    | .pdelayResp d => if p2p then s.ptpDelay p d else s
    | .management get => if get then s.ptpSend p 13 0 [] else s)

/-- A Sync of a master port: one-step with its time, or two-step with the Follow_Up that carries it (R328). -/
def State.sendSync (s : State) (p : Nat) : State :=
  let q := (mgetD s.tb.ptp p {}).syncSeq
  let s := if s.regB (Reg.TMB_PTPC p) 29 then s.ptpSend p 0 q [s.tb.t] else (s.ptpSend p 0 q []).ptpSend p 8 q [s.tb.t]
  s.updPtp p (fun x => { x with syncSeq := (x.syncSeq + 1) % 65536, syncSent := some s.tb.el })

/-- PTP_MESSAGE_INTERVAL (R328): when the interval of its LSYNC, LANN or LDREQ has passed, a master sends Sync and Announce, a slave
or a port with peer delay its delay request; a receipt timeout forgets the master heard. -/
def execPtpMessageInterval (port : Fin 4) (t : PtpTimer) (s : State) : Host.Outcome State Fault Refusal :=
  .next (
    let p := port.val
    let st := s.regF (Reg.TMB_PTPS p) 31 28
    let x := mgetD s.tb.ptp p {}
    let c := s.reg (Reg.TMB_PTPC p)
    if !(bit c 31) then s
    else match t with
    | .sync => if st = 6 ∧ s.silentFor (ptpInterval (fld c 15 12)) x.syncSent = true then s.sendSync p else s
    | .announce =>
      if st = 6 ∧ s.silentFor (ptpInterval (fld c 7 4)) x.annSent = true then
        (s.ptpSend p 11 x.annSeq s.ptpAnnounced).updPtp p (fun x => { x with annSeq := (x.annSeq + 1) % 65536, annSent := some s.tb.el })
      else s
    | .delay =>
      if (st = 8 ∨ st = 9 ∨ bit c 28 = true) ∧ s.silentFor (ptpInterval (fld c 11 8)) x.delSent = true then
        (s.ptpSend p (if bit c 28 then 2 else 1) x.delSeq [s.tb.t]).updPtp p
          (fun x => { x with delSeq := (x.delSeq + 1) % 65536, delSent := some s.tb.el })
      else s
    | .announceReceipt => (s.updPtp p (fun x => { x with best := [], gm := 0, delayKnown := false })).ptpDecide)

end Sys2Proof.Machine
end

