-- ==== Sys2Proof/Machine/Memory.lean ====
section
/-! DEFINITION. Machine/Memory.lean: bank ownership, retention, parity and ECC, DMA transfers
(spec/06_memory_banks.md R164 to R177, spec/04_instruction_reference.md R121). -/
namespace Sys2Proof.Machine

/-- R164: the owner codes; an odd engine of a pair in lockstep is refused. -/
def State.ownerCode (s : State) (o : Nat) : Bool :=
  (decide (o < 8) && !(s.locked o && o % 2 == 1)) || (decide (0x10 ≤ o) && decide (o ≤ 0x14))
    || (decide (0x20 ≤ o) && decide (o ≤ 0x2F)) || (decide (0x30 ≤ o) && decide (o ≤ 0x33)) || o == 0x34 || o == 0x35
    || (decide (0x38 ≤ o) && decide (o ≤ 0x3B))

/-- R166: the bank is the ring of an enabled route. -/
def State.isRing (s : State) (b : Nat) : Bool :=
  (s.listed 0x0900 4 64).any (fun n =>
    s.regB (Reg.MBK_RTS n) 31 && s.regF (Reg.MBK_RTS n) 9 6 == 8 && s.regF (Reg.MBK_RTB n) 31 26 == b)

/-- A DMA channel. -/
def State.dmaCh (s : State) (n : Nat) : DmaChan := mgetD s.banks.dma n {}

/-- A DMA channel replaced. -/
def State.setDma (s : State) (n : Nat) (c : DmaChan) : State := { s with banks := { s.banks with dma := mput s.banks.dma n c } }

/-- The banks of a channel's transfer. -/
def DmaChan.banksOf (c : DmaChan) : List Nat := if c.dir = 2 then [c.bank, c.far / 8192 % 64] else [c.bank]

/-- R166: the bank belongs to a pending DMA transfer. -/
def State.dmaHolds (s : State) (b : Nat) : Bool :=
  (List.range 4).any (fun n => (s.dmaCh n).pending && (s.dmaCh n).banksOf.contains b)

/-- R166: the bank is marked in use by its owning block. -/
def State.bankInUse (s : State) (b : Nat) : Bool := s.banks.inUse.any (fun p => p.1 == b)

/-- A block marks a bank in use, with a tag that names the use. -/
def State.markBank (s : State) (b tag : Nat) : State := { s with banks := { s.banks with inUse := s.banks.inUse ++ [(b, tag)] } }

/-- The marks of a tag end. -/
def State.unmarkTag (s : State) (tag : Nat) : State :=
  { s with banks := { s.banks with inUse := s.banks.inUse.filter (fun p => p.2 != tag) } }

/-- R168: an owner whose banks may rest: an engine, or a DMA channel without a transfer. -/
def State.restOwner (s : State) (o : Nat) : Bool :=
  decide (o < 8) || (decide (0x38 ≤ o) && decide (o ≤ 0x3B) && !(s.dmaCh (o - 0x38)).pending)

/-- A bank begins to wake (R168). -/
def State.startWake (s : State) (b : Nat) : State :=
  if mgetD s.banks.power b .awake = .retention then
    { s with banks := { s.banks with power := mput s.banks.power b .waking } }
  else s

/-- A bank passes to an owner; one in retention wakes unless its new owner lets it rest (R168). -/
def State.passBank (s : State) (b o : Nat) : State :=
  let s := s.setOwner b o
  if s.restOwner o then s else s.startWake b

/-- R157: a bank kept awake: in a set with AWAKE = 1 that an enabled clause names. -/
def State.keptAwake (s : State) (b : Nat) : Bool :=
  (List.range 16).any (fun k =>
    k != 0 && s.regB Reg.SCH_BSAWAKE k
      && (if b < 32 then s.regB (Reg.SCH_BSL k) b else s.regB (Reg.SCH_BSH k) (b - 32))
      && s.clauses.any (fun c => s.clauseEn c && s.clauseBset c == k))

/-- R166: MBK_OWN as a party writes it; `level` is the service session's access level (2 commissioner). -/
def State.mbkOwn (s : State) (p : Party) (v : Word) (level : Nat) : State :=
  let b := fld v 21 16
  let o := fld v 15 8
  let cur := s.owner b
  let wrong := match p with
    | .eng e => decide (cur < 8) && cur != s.ownerOf e.val
    | .svc _ => decide (cur < 8) || decide (level < 2)
  if wrong || !(s.ownerCode o) || s.isRing b || s.dmaHolds b || s.bankInUse b then
    (s.setBitR Reg.MBK_STK 0).partyEsf p .own
  else s.passBank b o

/-- R121: OWN passes a bank the running engine owns. -/
def State.doOwn (s : State) (e b o : Nat) : State :=
  if s.owner b = s.ownerOf e ∧ s.ownerCode o = true then s.passBank b o else s.esf e .own

/-- OWN (R121): Engine passes a bank it owns to another owner. -/
def execOwn (x : Guard) (b : BankNo) (o : Nat) (s : State) : Host.Outcome State Fault Refusal :=
  .next (s.issueAt x (decide (o < 256)) 2 1 (2 + s.lockExtra x.e.val) (1 + s.lockExtra x.e.val) false (fun s => (s.doOwn x.e.val b.val o, .pass 1)))

/-- BANK_RETENTION_ENTRY (R168): IDLE µs (400 FAB clocks each) without an access. -/
def execBankRetentionEntry (b : BankNo) (s : State) : Host.Outcome State Fault Refusal :=
  .next (
    if s.regB Reg.MBK_RETCTL 31 && s.restOwner (s.owner b.val) && !(s.keptAwake b.val) && !(s.isRing b.val)
        && mgetD s.banks.power b.val .awake == .awake
        && decide (mgetD s.banks.lastUse b.val 0 + 400 * s.regF Reg.MBK_RETCTL 15 0 ≤ s.clk) then
      { s with banks := { s.banks with power := mput s.banks.power b.val .retention } }
    else s)

/-- BANK_WAKE (R169): a bank in retention or waking is awake. -/
def execBankWake (b : BankNo) (s : State) : Host.Outcome State Fault Refusal :=
  .next (if s.bankAsleep b.val then { s with banks := { s.banks with power := mput s.banks.power b.val .awake } } else s)

/-- R172: `n` corrected DRAM errors. -/
def State.dramCe (s : State) (n : Nat) : State :=
  if n = 0 then s else (s.setRegF Reg.MBK_ECC 31 16 (s.regF Reg.MBK_ECC 31 16 + n)).setBitR Reg.MBK_STK 2

/-- R172: an uncorrectable DRAM error. -/
def State.dramUe (s : State) (a : Nat) : State :=
  (((s.bumpF Reg.MBK_ECC 15 0).setBitR Reg.MBK_STK 3).record .dramUe 0 [a]).addHealth .dramError

/-- DRAM_SCRUB (R172): a pass over bulk memory that corrected `ce` words and found the words `ue` beyond
correction. -/
def execDramScrub (ce : Nat) (ue : List Nat) (s : State) : Host.Outcome State Fault Refusal :=
  .next (
    let s2 := ue.foldl (fun s a => s.dramUe a) (s.dramCe ce)
    { s2 with banks := { s2.banks with dramBad := ue.foldl (fun l a => if l.contains a then l else l ++ [a]) s2.banks.dramBad } })

/-- R173, R364: START of channel `ch`, written by a party. -/
def State.dmaStart (s : State) (p : Party) (ch : Nat) (v : Word) : State :=
  let s := s.setReg (Reg.MBK_DC ch) (v &&& 0x7FE1FF00)
  if !(bit v 31) then s
  else
    let c := s.dmaCh ch
    let dir := fld v 30 29
    let grp := fld v 28 25
    let lag := fld v 24 21
    let len := s.regF (Reg.MBK_DB ch) 31 19 + 1
    let bank := s.regF (Reg.MBK_DB ch) 18 13
    let woff := s.regF (Reg.MBK_DB ch) 12 0
    let far := s.regF (Reg.MBK_DA ch) 28 0
    let span := decide (8192 < woff + len)
      || (dir == 2 && decide (8192 < far % 8192 + len))
      || (dir != 2 && decide (536870912 < far / 4 * 4 + 4 * len))
    let linked := ch == 3 && (List.range 16).any (fun g => s.regB (Reg.BTL_MRX g) 31)
    let bad := lag == 0 || dir == 3 || span || c.pending || linked
    let mine := fun b => s.owner b == 0x38 + ch || (match p with
      | .eng e => s.owner b == s.ownerOf e.val
      | .svc _ => false)
    let own := !(mine bank) || (dir == 2 && !(mine (far / 8192 % 64)))
    if bad || own then
      let s := s.setDma ch { c with refusedNow := true, refGroup := grp }
      (if bad then s.partyEsf p .lenErr else s.partyEsf p .own)
    else
      s.setDma ch { pending := true, group := grp, left := lag, hb := bit v 16, hcl := fld v 15 8, dir := dir
                    far := if dir = 2 then far else far / 4 * 4, len := len, bank := bank, woff := woff
                    refusedNow := c.refusedNow, refGroup := c.refGroup }

/-- DMA_START (R173): A START write begins a DMA transfer or is refused. -/
def execDmaStart (p : Party) (ch : Fin 4) (v : Word) (s : State) : Host.Outcome State Fault Refusal :=
  .next (s.byParty p (fun s => s.dmaStart p ch.val v))

/-- The words a transfer copies: bank to anywhere reports parity errors, bulk memory corrects and counts single-bit errors and
reports double-bit errors (`upset`, `ce`, `ue`: what this transfer finds for the first time). -/
def State.dmaMove (s : State) (ch : Nat) (upset : List Nat) (ce : Nat) (ue : List Nat) : State :=
  let c := s.dmaCh ch
  let n := 4 * c.len
  let here := bankAddr c.bank (4 * c.woff)
  match c.dir with
  | 0 =>
    let inSpan := fun (w : Nat) => decide (c.far / 4 ≤ w) && decide (w < c.far / 4 + c.len)
    let new := (ue.filter (fun w => inSpan w && !(s.banks.dramBad.contains w))).eraseDups
    let s : State := { s with banks := { s.banks with dramBad := s.banks.dramBad ++ new } }
    let ue := s.banks.dramBad.filter inSpan
    let s1 := ue.foldl (fun s a => s.dramUe a) (s.dramCe ce)
    let s2 := (s1.touch c.bank).storeBytes here (cellsGet s.banks.dram c.far n)
    s2.setDma ch { c with complete := true, ue := !ue.isEmpty }
  | 1 =>
    let (s1, bad) := ((s.touch c.bank).markUpset here n upset).noteParity here n
    let s2 : State := { s1 with banks := { s1.banks with
      dram := cellsPut s1.banks.dram c.far (cellsGet s.banks.cells here n)
      dramBad := s1.banks.dramBad.filter (fun w => !(decide (c.far / 4 ≤ w) && decide (w < c.far / 4 + c.len))) } }
    s2.setDma ch { c with complete := true, perr := bad }
  | _ =>
    let sb := c.far / 8192 % 64
    let src := bankAddr sb (4 * (c.far % 8192))
    let (s1, bad) := (((s.touch c.bank).touch sb).markUpset src n upset).noteParity src n
    (s1.storeBytes here (cellsGet s.banks.cells src n)).setDma ch { c with complete := true, perr := bad }

/-- DMA_TRANSFER_COMPLETE (R174). -/
def execDmaTransferComplete (ch : Fin 4) (upset : List Nat) (ce : Nat) (ue : List Nat) (s : State) : Host.Outcome State Fault Refusal :=
  .next (if (s.dmaCh ch.val).pending && !(s.dmaCh ch.val).complete then s.dmaMove ch.val upset ce ue else s)

/-- R175: a completed transfer reports STATE 2, counts in DONE, and with HB hands its banks to the host of HCL. -/
def State.dmaReport (s : State) (ch : Nat) : State :=
  let c := s.dmaCh ch
  let old := s.reg (Reg.MBK_DS ch)
  let w := setFld (setFld (setFld (setFld old 2 0 2) 31 16 (fld old 31 16 + 1)) 4 4 (b2n c.perr)) 5 5 (b2n c.ue)
  let s := s.setReg (Reg.MBK_DS ch) w
  let s := if c.hb then
      c.banksOf.foldl (fun s b => if s.owner b = 0x38 + ch then s.passBank b (s.ownerOf (s.hostOf c.hcl)) else s) s
    else s
  s.setDma ch { c with pending := false, late := false }

/-- R175: what the pending transfer of channel `ch` reports at a full stop of its group. -/
def State.dmaStop (s : State) (ch : Nat) : State :=
  let c := s.dmaCh ch
  if c.late then (if c.complete then s.dmaReport ch else s)
  else if 1 < c.left then (s.setRegF (Reg.MBK_DS ch) 2 0 1).setDma ch { c with left := c.left - 1 }
  else if c.complete then s.dmaReport ch
  else (((s.setRegF (Reg.MBK_DS ch) 2 0 3).setBitR Reg.MBK_STK 4).record .dmaLate ch [ch]).setDma ch { c with late := true }

/-- R176: a START refused since the last full stop of its GROUP shows STATE 4 at this one, over what a transfer that is pending
shows there (DESIGN CHOICE: one field, two reports; notes/assumptions/58.md). -/
def State.dmaRefused (s : State) (ch g : Nat) : State :=
  let c := s.dmaCh ch
  if c.refusedNow && c.refGroup == g then (s.setRegF (Reg.MBK_DS ch) 2 0 4).setDma ch { c with refusedNow := false } else s

/-- R175, R176: the reports of the DMA channels at a full stop of group `g`, in ascending channel; before its reporting
full stop a transfer shows STATE 1. -/
def State.dmaFullStop (s : State) (g : Nat) : State :=
  (List.range 4).foldl (fun s ch =>
    let c := s.dmaCh ch
    (if c.pending && c.group == g then s.dmaStop ch else s).dmaRefused ch g) s

end Sys2Proof.Machine
end

