-- ==== Sys2Proof/Machine/Solver.lean ====
section
/-! DEFINITION. Machine/Solver.lean: the solver array's batches, their order, deadlines, faults and tickets
(spec/07_solver_array.md R178 to R208; SUBMIT.SOL, spec/04_instruction_reference.md R124). -/
namespace Sys2Proof.Machine

/-- Owner code of the solver array. -/
abbrev ownSol : Nat := 0x10

/-- Owner code of the sequencer. -/
abbrev ownOpt : Nat := 0x11

/-- Owner code of the fusion engine. -/
abbrev ownFus : Nat := 0x13

/-- R184: an operand descriptor. -/
structure MatOp where
  bank : Nat
  woff : Nat
  stride : Nat
  rows : Nat
  cols : Nat
  f : Nat
  none : Bool
  reserved : Bool
deriving DecidableEq, Repr

/-- The operand descriptor in words `k` and `k` + 1 of an entry. -/
def matOp (ws : List Word) (k : Nat) : MatOp :=
  let a := lget ws k 0
  let b := lget ws (k + 1) 0
  { bank := fld a 31 26, woff := fld a 25 13, stride := fld a 12 0
    rows := fld b 31 25, cols := fld b 24 19, f := fld b 18 14
    none := a == 0 && b == 0, reserved := fld b 13 0 != 0 }

/-- The last word of an operand. -/
def MatOp.last (m : MatOp) : Nat := m.woff + (m.rows - 1) * m.stride + m.cols - 1

/-- R188: two operands' word spans overlap. -/
def MatOp.overlaps (m q : MatOp) : Bool :=
  !m.none && !q.none && m.bank == q.bank && decide (m.woff ≤ q.last) && decide (q.woff ≤ m.last)

/-- R185: the descriptors name the same region. -/
def MatOp.same (m q : MatOp) : Bool :=
  m.bank == q.bank && m.woff == q.woff && m.stride == q.stride && m.rows == q.rows && m.cols == q.cols

/-- The fields of an entry's word 0. -/
def entOpc (ws : List Word) : Nat := fld (lget ws 0 0) 31 26
def entBit (ws : List Word) (i : Nat) : Bool := bit (lget ws 0 0) i
def entParam (ws : List Word) : Nat := fld (lget ws 0 0) 15 0
def entPreds (ws : List Word) : List Nat :=
  ((List.range 4).filter (fun q => entBit ws (22 + q))).map (fun q => fld (lget ws 1 0) (8 * q + 7) (8 * q))

/-- 1 to 48. -/
def dim48 (n : Nat) : Bool := decide (1 ≤ n) && decide (n ≤ 48)

/-- 1 to 96. -/
def dim96 (n : Nat) : Bool := decide (1 ≤ n) && decide (n ≤ 96)

/-- R185: the shape table. -/
def entShape (ws : List Word) : Bool :=
  let x := matOp ws 2
  let y := matOp ws 4
  let z := matOp ws 6
  let ta := entBit ws 21
  let tb := entBit ws 20
  let square := x.rows == x.cols && dim48 x.rows
  let zn := z.rows == x.rows
  match entOpc ws with
  | 1 => square && zn && z.cols == x.cols
  | 2 => square && zn && z.cols == x.cols
  | 3 => dim48 x.cols && decide (x.cols ≤ x.rows) && dim96 x.rows && z.rows == x.cols && z.cols == x.cols
  | 4 => square && zn && z.cols == 1
  | 5 => square && zn && z.cols == 1
  | 6 => square && zn && z.cols == 1
  | 7 => square && zn && dim48 z.cols
  | 8 => square && zn && dim48 z.cols
  | 9 => square && zn && dim48 z.cols
  | 10 =>
    let m := if ta then x.cols else x.rows
    let k := if ta then x.rows else x.cols
    let k' := if tb then y.cols else y.rows
    let n := if tb then y.rows else y.cols
    dim48 m && dim48 k && dim48 n && k == k' && z.rows == m && z.cols == n
  | 11 =>
    let n := if ta then x.cols else x.rows
    let k := if ta then x.rows else x.cols
    dim48 n && dim48 k && z.rows == n && z.cols == n
  | 12 => dim96 x.rows && dim48 x.cols && zn && z.cols == x.cols
  | 13 => dim96 x.rows && dim48 x.cols && zn && z.cols == x.cols && dim96 (entParam ws) && x.rows % entParam ws == 0
  | 14 => dim96 x.rows && dim48 x.cols && z.rows == 1 && z.cols == 1
  | _ => true

/-- R184, R192: whether the operation divides by pivots, so that PIVFLOOR counts. -/
def entPivots (ws : List Word) : Bool :=
  let o := entOpc ws
  (decide (1 ≤ o) && decide (o ≤ 3)) || (decide (4 ≤ o) && decide (o ≤ 9) && !entBit ws 17)

/-- R185: the operands of an entry overlap otherwise than allowed. In the fusion engine's own batches an entry that names one matrix
twice, as R280 has it, is none (DEDUCED, notes/assumptions/59.md). -/
def entryClash (own : Nat) (ws : List Word) : Bool :=
  let x := matOp ws 2
  let y := matOp ws 4
  entOpc ws == 10 && ((x.overlaps y && !(own == ownFus && x.same y)) || y.overlaps (matOp ws 6))

/-- R179 to R186: the first check that entry `i` fails: whether it concerns a size, and the entry word of the
field. -/
def State.entryFault (s : State) (own i : Nat) (ws : List Word) : Option (Bool × Nat) :=
  let x := matOp ws 2
  let y := matOp ws 4
  let z := matOp ws 6
  let o := entOpc ws
  let used := if o = 10 then [(x, 2), (y, 4), (z, 6)] else [(x, 2), (z, 6)]
  let zxOk := (o == 1 || o == 2 || o == 13) && z.same x
  let opt := fun (b : Nat) (l : List Nat) => entBit ws b && !l.contains o
  let checks : List (Bool × Bool × Nat) :=
    [(decide (o < 1) || decide (14 < o), false, 0),
     (!entShape ws, true, 3)]
    ++ used.map (fun m => (decide (8191 < m.1.last), true, m.2))
    ++ used.map (fun m => (decide (1 < m.1.rows) && decide (m.1.stride < m.1.cols), true, m.2))
    ++ used.map (fun m => (m.1.reserved, false, m.2 + 1))
    ++ [(fld (lget ws 11 0) 31 5 != 0, false, 11), (lget ws 12 0 != 0, false, 12), (lget ws 13 0 != 0, false, 13),
        (o != 13 && entParam ws != 0, false, 0),
        (o != 10 && !y.none, false, 4)]
    ++ used.map (fun m => (s.owner m.1.bank != own, false, m.2))
    ++ [(x.overlaps z && !zxOk, false, 6), (entryClash own ws, false, 4),
        (opt 21 [10, 11] || opt 20 [10] || opt 19 [10, 11, 12] || opt 18 [10, 11] || opt 17 [4, 5, 6, 7, 8, 9], false, 0),
        (entPivots ws && decide (sw (lget ws 8 0) ≤ 0), false, 8),
        ((entPreds ws).any (fun p => decide (i ≤ p)), false, 1)]
  (checks.find? (fun c => c.1)).map (fun c => c.2)

/-- The solver changed. -/
def State.updSol (s : State) (f : Solver → Solver) : State := { s with sol := f s.sol }

/-- A batch that is not complete. -/
def State.batch (s : State) (b : Nat) : Option Batch := mget s.sol.batches b

/-- A batch changed. -/
def State.updBatch (s : State) (b : Nat) (f : Batch → Batch) : State :=
  match s.batch b with
  | none => s
  | some x => s.updSol (fun q => { q with batches := mput q.batches b (f x) })

/-- A ticket changed while it is in use. -/
def State.updTicket (s : State) (t : Nat) (f : Ticket → Ticket) : State :=
  match mget s.sol.tickets t with
  | none => s
  | some x => s.updSol (fun q => { q with tickets := mput q.tickets t (f x) })

/-- R205: the lowest ticket not in use (R124, R125); one released in this FAB clock can be taken from the next on. -/
def State.freeTicket (s : State) : Option Nat :=
  findFrom (fun t => (mget s.sol.tickets t).isNone && mget s.sol.freed t != some s.clk) 64 0

/-- The tag with which the banks of a ticket's work are marked in use (R183, R213). -/
def ticketTag (t : Nat) : Nat := 0x100 + t

/-- R183, R205, R213: a ticket released: its banks are no longer in use. -/
def State.releaseTicket (s : State) (t : Nat) : State :=
  (s.updSol (fun q => { q with tickets := mdel q.tickets t, freed := mput q.freed t s.clk })).unmarkTag (ticketTag t)

/-- R183: the tag of a job's batch, whose banks are in use until it completes. -/
def jobTag (j : Nat) : Nat := 0x200 + j

/-- R193: the submitter of a job's batches. -/
def jobWho (j : Nat) : Nat := if j = 1 then 256 else 257

/-- The issue priority of a job's batches (R221, R269). -/
def jobPrio (j : Nat) : Nat := if j = 1 then 3 else 2

/-- R164, R179: the owner of the banks that a batch may name. -/
def Batch.owner (b : Batch) : Nat := if b.job = 0 then ownSol else if b.job = 1 then ownOpt else ownFus

/-- A job of the sequencer or the fusion engine. -/
def State.job (s : State) (j : Nat) : JobState := mgetD s.sol.jobs j {}

/-- A job changed. -/
def State.updJob (s : State) (j : Nat) (f : JobState → JobState) : State :=
  s.updSol (fun q => { q with jobs := mput q.jobs j (f (s.job j)) })

/-- R180, R183, R208: a batch of the sequencer or the fusion engine is laid into its workspace and accepted: its operations enter
the identity at once. -/
def State.acceptOwn (s : State) (o : OwnBatch) : State :=
  let n := o.entries.length
  let head := [wd (n * 2 ^ 23 + jobPrio o.job * 2 ^ 21 + b2n o.dlen * 2 ^ 20), o.deadline] ++ List.replicate 6 0
  let s := s.storeWords (bankAddr o.bank o.off) (head ++ o.entries.flatMap (fun e => e ++ [0, 0]))
  let b : Batch := { clause := jobWho o.job, seq := 0, ticket := 64, bank := o.bank, off := o.off, count := n, prio := jobPrio o.job
                     dlen := o.dlen, deadline := o.deadline, nen := false, arel := false, ncl := 0, job := o.job }
  let banks := o.bank :: o.entries.flatMap (fun e =>
    ([matOp e 2, matOp e 4, matOp e 6].filter (fun m => !m.none)).map (fun m => m.bank))
  let s := banks.foldl (fun s k => s.markBank k (jobTag o.job)) s
  ((s.updSol (fun q => { q with next := q.next + 1, batches := mput q.batches q.next b })).bump Reg.SOL_NSUB n).bump Reg.SOL_NPEND n

/-- R221, R280: a job begins: its batches are submitted one after another, each when the one before has completed. -/
def State.startJob (s : State) (j : Nat) (bs : List OwnBatch) : State :=
  match bs with
  | [] => s.updJob j (fun _ => {})
  | b :: t => ((s.updJob j (fun _ => { busy := true })).updSol (fun q => { q with later := q.later ++ t })).acceptOwn b

/-- R189: the MAC count of an entry. -/
def entryMacs (ws : List Word) : Nat :=
  let x := matOp ws 2
  let z := matOp ws 6
  let n := x.rows
  let k := if entBit ws 21 then x.rows else x.cols
  match entOpc ws with
  | 1 => ceilDiv (n ^ 3) 6 + n ^ 2
  | 2 => ceilDiv (n ^ 3) 3 + n ^ 2
  | 3 => 2 * x.rows * x.cols ^ 2 + 2 * x.rows * x.cols
  | 4 | 5 | 6 | 7 | 8 | 9 => z.cols * (n * (n + 1) / 2)
  | 10 => z.rows * z.cols * k
  | 11 => k * (z.rows * (z.rows + 1) / 2)
  | _ => x.rows * x.cols

/-- The byte address of word `k` of entry `i`. -/
def Batch.entryAddr (b : Batch) (i k : Nat) : Nat := bankAddr b.bank b.off + 4 * (8 + 16 * i + k)

/-- R201: the counter of a final state. -/
def solCounter (state : Nat) : Nat :=
  match state with
  | 0 => Reg.SOL_NDONE
  | 1 => Reg.SOL_NREG
  | 2 => Reg.SOL_NSAT
  | 3 => Reg.SOL_NSKIP
  | _ => Reg.SOL_NABN

/-- R198, R201, R208: operation `i` of batch `b` becomes final with a status word. -/
def State.finalOp (s : State) (b i : Nat) (status : Word) : State :=
  match s.batch b with
  | none => s
  | some x =>
    match x.ops[i]? with
    | none => s
    | some o =>
      if o.st = .final then s
      else
        let status := setBit status 20 o.xh
        let s := s.updBatch b (fun x => { x with ops := lset x.ops i { o with st := .final, status := status } })
        let s := s.storeWords (x.entryAddr i 15) [status]
        let s := (s.bump (solCounter (fld status 31 29))).drop Reg.SOL_NPEND
        let s := if o.st = .flight then s.setRegF Reg.SOL_INFL 7 0 (s.regF Reg.SOL_INFL 7 0 - 1) else s
        s.updTicket x.ticket (fun t => { t with final := t.final + 1 })

/-- The status word of an ABANDONED operation. -/
def abandoned (cause : Nat) : Word := wd (4 * 2 ^ 29 + cause * 2 ^ 26)

/-- R186, R187: a final predecessor lets its dependant run. -/
def SolOp.letsRun (p : SolOp) (sks : Bool) : Bool :=
  p.st == .final && (fld p.status 31 29 == 0 || fld p.status 31 29 == 1 || (fld p.status 31 29 == 2 && !sks))

/-- R187: a final predecessor makes its dependant skip. -/
def SolOp.makesSkip (p : SolOp) (sks : Bool) : Bool := p.st == .final && !p.letsRun sks

/-- R187: the skips of a batch, passed on in ascending index. -/
def State.skipOps (s : State) (b : Nat) : State :=
  match s.batch b with
  | none => s
  | some x =>
    (List.range x.ops.length).foldl (fun s i =>
      match s.batch b with
      | none => s
      | some x =>
        match x.ops[i]? with
        | none => s
        | some o =>
          if o.st = .waiting ∧ (entPreds o.words).any (fun p => ((x.ops[p]?).map (fun q => q.makesSkip (entBit o.words 16))).getD false) = true then
            s.finalOp b i (wd (3 * 2 ^ 29))
          else s) s

/-- R203: the summary of a batch. -/
def sumWord (refused : Bool) (first : Nat) (ops : List SolOp) : Word :=
  let st := fun (o : SolOp) => fld o.status 31 29
  let cause := fun (o : SolOp) => fld o.status 28 26
  let anyOp := fun (f : SolOp → Bool) (k : Nat) => if ops.any f then 2 ^ k else 0
  wd ((if refused then 2 ^ 31 else 0)
    + anyOp (fun o => cause o == 1 || cause o == 2) 30
    + anyOp (fun o => bit o.status 25) 29
    + anyOp (fun o => bit o.status 20) 28
    + anyOp (fun o => cause o == 3 || cause o == 4) 27
    + anyOp (fun o => st o == 0) 26 + anyOp (fun o => st o == 1) 25 + anyOp (fun o => st o == 2) 24
    + anyOp (fun o => st o == 3) 23 + anyOp (fun o => st o == 4) 22
    + (ops.filter (fun o => st o != 0)).length * 512 + first)

/-- R193: the SOL_RANGE condition of a submitter at the completion of its work. -/
def State.rangeReport (s : State) (who : Nat) (range : Bool) (items : List Nat) : State :=
  if range then
    if s.sol.rangeOn.contains who then s
    else (s.updSol (fun q => { q with rangeOn := q.rangeOn ++ [who] })).record .solRange 0 items
  else if s.sol.rangeOn.contains who then
    (s.updSol (fun q => { q with rangeOn := q.rangeOn.filter (fun w => w != who) })).record .solRangeEnd 0 []
  else s

/-- R201: the final state of an operation. -/
def SolOp.state (o : SolOp) : Nat := fld o.status 31 29

/-- R221, R281: what a completed batch adds to its job. -/
def JobState.add (q : JobState) (x : Batch) (range : Option (Nat × Nat × Nat)) : JobState :=
  let late := fun (o : SolOp) => o.state == 4 && (fld o.status 28 26 == 1 || fld o.status 28 26 == 2)
  { q with
    late := q.late || x.ops.any late
    bad := q.bad || x.ops.any (fun o => o.state == 2 || (o.state == 4 && !(late o)))
    reg := q.reg || x.ops.any (fun o => o.state == 1)
    macs := q.macs + ((x.ops.filter (fun o => decide (o.state ≤ 2))).map (fun o => entryMacs o.words)).foldl (· + ·) 0
    range := if q.range.isNone then range else q.range }

/-- A batch of a job has completed: its marks end; the job's next batch is submitted, unless an operation ended otherwise than
in DONE or DONE_REG, which drops the rest (R221). -/
def State.jobBatchDone (s : State) (x : Batch) (range : Option (Nat × Nat × Nat)) : State :=
  let s := (s.unmarkTag (jobTag x.job)).updJob x.job (fun q => q.add x range)
  let mine := s.sol.later.filter (fun o => o.job == x.job)
  match mine with
  | o :: _ =>
    if (s.job x.job).late || (s.job x.job).bad then
      (s.updSol (fun q => { q with later := q.later.filter (fun o => o.job != x.job) })).updJob x.job (fun q => { q with busy := false })
    else (s.updSol (fun q => { q with later := q.later.erase o })).acceptOwn o
  | [] => s.updJob x.job (fun q => { q with busy := false })

/-- R203 to R205: the batch whose operations are all final completes. -/
def State.completeBatch (s : State) (b : Nat) (refused : Option Nat) : State :=
  match s.batch b with
  | none => s
  | some x =>
    let first := match refused with
      | some i => i
      | none => (findFrom (fun i => ((x.ops[i]?).map (fun o => fld o.status 31 29 != 0)).getD false) x.ops.length 0).getD 511
    let sum := sumWord refused.isSome first x.ops
    let s := s.storeWords (bankAddr x.bank x.off + 8) [sum]
    let s := s.updTicket x.ticket (fun t => { t with complete := true, sum := sum, stamp := s.tmbNs })
    let hit := findFrom (fun i => ((x.ops[i]?).map (fun o => bit o.status 25)).getD false) x.ops.length 0
    let s := match hit with
      | some i => s.rangeReport x.clause true [i, s.bankNum (x.entryAddr i 14) 4, (lget (((x.ops[i]?).map SolOp.words).getD []) 9 0).toNat]
      | none => s.rangeReport x.clause false []
    let range := hit.map (fun i => (i, s.bankNum (x.entryAddr i 14) 4, (lget (((x.ops[i]?).map SolOp.words).getD []) 9 0).toNat))
    let s := if x.nen then s.notifyClause x.ncl x.seq x.ticket else s
    let s := if x.arel then s.releaseTicket x.ticket else s
    let s := s.updSol (fun q => { q with batches := mdel q.batches b })
    if x.job = 0 then s else s.jobBatchDone x range

/-- Skips are passed on, and the batch completes once every operation is final. -/
def State.settleBatch (s : State) (b : Nat) : State :=
  let s := s.skipOps b
  match s.batch b with
  | none => s
  | some x => if x.ops.all (fun o => o.st == .final) then s.completeBatch b none else s

/-- R199: the deadline of the batch has come. -/
def State.batchDue (s : State) (x : Batch) : Bool := x.dlen && decide (0 ≤ turnDiff s.tmbNs x.deadline)

/-- R199: the operations not issued end ABANDONED with CAUSE 1. -/
def State.deadlineBatch (s : State) (b : Nat) : State :=
  let s := s.updBatch b (fun x => { x with dead := true })
  match s.batch b with
  | none => s
  | some x =>
    ((List.range x.ops.length).foldl (fun s i =>
      if ((x.ops[i]?).map (fun o => o.st == .waiting)).getD false then s.finalOp b i (abandoned 1) else s) s).settleBatch b

/-- The words of entry `i` as the descriptor holds them. -/
def State.entryWords (s : State) (x : Batch) (i : Nat) : List Word := s.bankWords (x.entryAddr i 0) 14

/-- R185: a reserved field of the header that is not 0. -/
def State.headerFault (s : State) (x : Batch) : Bool :=
  let h := s.bankWords (bankAddr x.bank x.off) 8
  fld (lget h 0 0) 17 8 != 0 || (List.range 5).any (fun k => lget h (3 + k) 0 != 0)

/-- R181, R182: the first entry that fails, its kind and its word. -/
def State.batchFault (s : State) (x : Batch) : Option (Nat × Bool × Nat) :=
  if s.headerFault x then some (0, false, 0)
  else
    (List.range x.count).foldl (fun r i =>
      match r with
      | some _ => r
      | none => (s.entryFault x.owner i (s.entryWords x i)).map (fun f => (i, f.1, f.2))) none

/-- BATCH_VALIDATION_END (R181, R182, R199). -/
def execBatchValidationEnd (b : Nat) (s : State) : Host.Outcome State Fault Refusal :=
  .next (
    match s.batch b with
    | none => s
    | some x =>
      if x.valid then s
      else
        let fault := s.batchFault x
        let ops := (List.range x.count).map (fun i => ({ words := s.entryWords x i } : SolOp))
        let s := (s.noteParity (bankAddr x.bank x.off) (4 * (8 + 16 * x.count))).1
        let s := s.updBatch b (fun x => { x with valid := true, ops := ops })
        match fault with
        | some (i, size, field) =>
          let s := (List.range x.count).foldl (fun s k => s.finalOp b k (abandoned (if size then 5 else 6))) s
          ((s.setBitR Reg.SOL_STK 1).record .solRefused 0 [i, field]).completeBatch b (some i)
        | none => if s.batchDue x then s.deadlineBatch b else s)

/-! ### Order of issue -/

/-- The regions an operation reads or writes, its result last. -/
def SolOp.regions (o : SolOp) : List MatOp := [matOp o.words 2, matOp o.words 4, matOp o.words 6]

/-- The region an operation writes. -/
def SolOp.target (o : SolOp) : MatOp := matOp o.words 6

/-- R188: `o` must wait for `e`: `e` writes a region `o` reads or writes, or reads a region `o` writes. -/
def SolOp.waitsFor (o e : SolOp) : Bool :=
  o.regions.any (fun r => r.overlaps e.target) || e.regions.any (fun r => r.overlaps o.target)

/-- R186, R188: operation `i` could issue but for another batch. -/
def Batch.ready (x : Batch) (i : Nat) : Bool :=
  match x.ops[i]? with
  | none => false
  | some o =>
    o.st == .waiting
      && (entPreds o.words).all (fun p => ((x.ops[p]?).map (fun q => q.letsRun (entBit o.words 16))).getD false)
      && (x.ops.take i).all (fun e => e.st == .final || !(o.waitsFor e))

/-- R188: an operation of another batch in flight holds this one. -/
def State.crossHazard (s : State) (b : Nat) (o : SolOp) : Bool :=
  s.sol.batches.any (fun q => q.1 != b && q.2.ops.any (fun e => e.st == .flight && o.waitsFor e))

/-- The batches whose operations may issue now. -/
def State.openBatches (s : State) : List (Nat × Batch) :=
  s.sol.batches.filter (fun q => q.2.valid && !q.2.dead && !(s.batchDue q.2))

/-- R188: an operation that would issue but for another batch sets XH, counted once. -/
def State.markXh (s : State) : State :=
  s.openBatches.foldl (fun s q =>
    (List.range q.2.ops.length).foldl (fun s i =>
      match q.2.ops[i]? with
      | none => s
      | some o =>
        if q.2.ready i && s.crossHazard q.1 o && !o.xh then
          ((s.updBatch q.1 (fun x => { x with ops := lset x.ops i { o with xh := true } })).bump Reg.SOL_XHAZ).setBitR Reg.SOL_STK 3
        else s) s) s

/-- R189: the eligible operation of the highest PRIO, the batch accepted earliest, the lowest index. -/
def State.pickOp (s : State) : Option (Nat × Nat) :=
  let best := s.openBatches.filterMap (fun q =>
    (findFrom (fun i => q.2.ready i && !(((q.2.ops[i]?).map (fun o => s.crossHazard q.1 o)).getD true)) q.2.ops.length 0).map
      (fun i => (q.2.prio, q.1, i)))
  (best.foldl (fun r c =>
    match r with
    | none => some c
    | some d => if d.1 < c.1 then some c else some d) none).map (fun c => c.2)

/-- OPERATION_ISSUE (R188, R189). -/
def execOperationIssue (s : State) : Host.Outcome State Fault Refusal :=
  .next (
    let s := s.markXh
    let n := s.regF Reg.SOL_INFL 7 0
    match s.pickOp with
    | some (b, i) =>
      if 64 ≤ n then s
      else
        let s := s.updBatch b (fun x => { x with ops := match x.ops[i]? with
          | some o => lset x.ops i { o with st := .flight }
          | none => x.ops })
        (s.setRegF Reg.SOL_INFL 7 0 (n + 1)).setRegF Reg.SOL_INFL 15 8 (max (n + 1) (s.regF Reg.SOL_INFL 15 8))
    | none => s)

/-! ### Commit -/

/-- An operand as signed elements. -/
def State.matOf (s : State) (m : MatOp) : Mat := fun i j => sw (s.bankWord m.bank (4 * (m.woff + i * m.stride + j)))

/-- The same operand transposed. -/
def transpose (m : Mat) : Mat := fun i j => m j i

/-- R194 to R197: the results of an entry. -/
def State.compute (s : State) (ws : List Word) : Cx :=
  let x := matOp ws 2
  let y := matOp ws 4
  let z := matOp ws 6
  let a := s.matOf x
  let zm := s.matOf z
  let floor := sw (lget ws 8 0)
  let ta := entBit ws 21
  let neg := entBit ws 19
  let acc := entBit ws 18
  let unit := entBit ws 17
  match entOpc ws with
  | 1 => cholesky x.rows a x.f z.f floor
  | 2 => ldlt x.rows a x.f z.f floor
  | 3 => qrh x.rows x.cols a x.f z.f floor
  | 4 => triSolve .l x.rows 1 a zm x.f z.f unit floor
  | 5 => triSolve .lt x.rows 1 a zm x.f z.f unit floor
  | 6 => triSolve .u x.rows 1 a zm x.f z.f unit floor
  | 7 => triSolve .l x.rows z.cols a zm x.f z.f unit floor
  | 8 => triSolve .lt x.rows z.cols a zm x.f z.f unit floor
  | 9 => triSolve .u x.rows z.cols a zm x.f z.f unit floor
  | 10 =>
    gemm z.rows z.cols (if ta then x.rows else x.cols) (if ta then transpose a else a)
      (if entBit ws 20 then transpose (s.matOf y) else s.matOf y) zm x.f y.f z.f neg acc
  | 11 => syrk z.rows (if ta then x.rows else x.cols) (if ta then transpose a else a) zm x.f z.f neg acc
  | 12 => axpy x.rows x.cols a zm (sw (lget ws 10 0)) (fld (lget ws 11 0) 4 0) x.f z.f neg
  | 13 => shiftBlocks x.rows x.cols (entParam ws) a x.f z.f
  | _ => nmax x.rows x.cols a x.f z.f

/-- The element positions of an operand that pass a test. -/
def MatOp.cells (m : MatOp) (p : Nat → Nat → Bool) : List Nat :=
  (List.range m.rows).flatMap (fun i => ((List.range m.cols).filter (fun j => p i j)).map (fun j =>
    bankAddr m.bank (4 * (m.woff + i * m.stride + j))))

/-- The addresses of the operand words an entry reads. -/
def entryReads (ws : List Word) : List Nat :=
  let x := matOp ws 2
  let z := matOp ws 6
  let unit := entBit ws 17
  let acc := entBit ws 18
  let tri := fun (lower : Bool) => x.cells (fun i j => (if lower then decide (j < i) else decide (i < j)) || (i == j && !unit))
  let zAll := z.cells (fun _ _ => true)
  let xAll := x.cells (fun _ _ => true)
  match entOpc ws with
  | 1 => x.cells (fun i j => decide (j ≤ i))
  | 2 => x.cells (fun i j => decide (j ≤ i))
  | 4 => tri true ++ zAll
  | 5 => tri true ++ zAll
  | 6 => tri false ++ zAll
  | 7 => tri true ++ zAll
  | 8 => tri true ++ zAll
  | 9 => tri false ++ zAll
  | 10 => xAll ++ (matOp ws 4).cells (fun _ _ => true) ++ (if acc then zAll else [])
  | 11 => xAll ++ (if acc then z.cells (fun i j => decide (j ≤ i)) else [])
  | 12 => xAll ++ zAll
  | 13 => x.cells (fun i _ => x.rows == entParam ws || decide (entParam ws ≤ i))
  | _ => xAll

/-- R201: the status word of a committed operation. -/
def commitStatus (c : Cx) (rbnd : Nat) : Word :=
  let sat := c.satw || c.sata || c.psat
  let st := if sat then 2 else if c.pidx.isSome then 1 else 0
  wd (st * 2 ^ 29 + b2n (decide (rbnd < c.mx)) * 2 ^ 25 + b2n c.pidx.isSome * 2 ^ 24 + b2n c.psat * 2 ^ 23
    + b2n c.satw * 2 ^ 22 + b2n c.sata * 2 ^ 21 + (c.pidx.getD 0) * 256)

/-- R198: the commit of operation `i`: every element of Z, then MAXABS and the status word; `upset` are the words that its reads
find in error (R170, R202). -/
def State.commitOp (s : State) (b i : Nat) (x : Batch) (o : SolOp) (upset : List Nat) : State :=
  let (s, bad) := (entryReads o.words).foldl (fun (q : State × Bool) a =>
    let r := (q.1.markUpset a 4 upset).noteParity a 4
    (r.1, q.2 || r.2)) (s, false)
  if bad then ((s.setBitR Reg.SOL_STK 4).finalOp b i (abandoned 4)).settleBatch b
  else
    let c := s.compute o.words
    let z := matOp o.words 6
    let s := c.z.foldl (fun s e =>
      s.storeWords (bankAddr z.bank (4 * (z.woff + (e.1 / 64) * z.stride + e.1 % 64))) [wdi e.2]) s
    let s := s.storeWords (x.entryAddr i 14) [wd c.mx]
    let st := commitStatus c (lget o.words 9 0).toNat
    let s := if bit st 25 then s.setBitR Reg.SOL_STK 2 else s
    (s.finalOp b i st).settleBatch b

/-- R200: TMB_NS less the deadline, ns; 0 for a batch without a deadline. -/
def State.pastDue (s : State) (x : Batch) : Int := if x.dlen then turnDiff s.tmbNs x.deadline else 0

/-- OPERATION_COMMIT (R198, R200, R202): operation `i` of batch `b` starts its commit, no later than 2 µs after the deadline. -/
def execOperationCommit (b i : Nat) (upset : List Nat) (s : State) : Host.Outcome State Fault Refusal :=
  .next (
    match s.batch b with
    | none => s
    | some x =>
      match x.ops[i]? with
      | none => s
      | some o => if o.st = .flight ∧ s.pastDue x ≤ 2000 then s.commitOp b i x o upset else s)

/-- SOLVER_DEADLINE (R199). -/
def execSolverDeadline (b : Nat) (s : State) : Host.Outcome State Fault Refusal :=
  .next (
    match s.batch b with
    | none => s
    | some x => if x.valid && !x.dead && s.batchDue x then s.deadlineBatch b else s)

/-- DEADLINE_GRACE_EXPIRY (R200): 2 µs after the deadline the operations still in flight end ABANDONED with CAUSE 2. -/
def execDeadlineGraceExpiry (b : Nat) (s : State) : Host.Outcome State Fault Refusal :=
  .next (
    match s.batch b with
    | none => s
    | some x =>
      if x.dead = true ∧ 2000 ≤ s.pastDue x then
        ((List.range x.ops.length).foldl (fun s i => s.finalOp b i (abandoned 2)) s).settleBatch b
      else s)

/-- TILE_FAULT (R202): `ops` are the operations computing on the tile. -/
def execTileFault (t : Fin 4) (ops : List (Nat × Nat)) (s : State) : Host.Outcome State Fault Refusal :=
  .next (
    if s.regB Reg.SOL_TILE t.val || s.sol.testing.contains t.val then s
    else
      let s := s.bumpF Reg.SOL_TILE (9 + 6 * t.val) (4 + 6 * t.val)
      let s := ((s.setBitR Reg.SOL_STK 5).record .solTileFault t.val [t.val]).updSol (fun q => { q with testing := q.testing ++ [t.val] })
      let hit := ops.filter (fun p => ((s.batch p.1).bind (fun x => (x.ops[p.2]?).map (fun o => o.st == .flight))).getD false)
      let s := hit.foldl (fun s p => s.finalOp p.1 p.2 (abandoned 3)) s
      hit.foldl (fun s p => s.settleBatch p.1) s)

/-- TILE_SELFTEST_END (R202): the 20 µs self-test of a tile ends. -/
def execTileSelftestEnd (t : Fin 4) (pass : Bool) (s : State) : Host.Outcome State Fault Refusal :=
  .next (
    if s.sol.testing.contains t.val then
      let s := s.updSol (fun q => { q with testing := q.testing.filter (fun k => k != t.val) })
      if pass then s
      else ((s.setBitR Reg.SOL_TILE t.val).record .solTileOff t.val [t.val]).addHealth (.tileOff t.val)
    else s)

/-- SOL_TREL (R205, R206): a write releases a complete ticket, or is refused; a WAIT.T that completes on the ticket in the same
clock takes it. -/
def State.solTrel (s : State) (v : Word) : State :=
  let t := fld v 5 0
  match mget s.sol.tickets t with
  | some k => if k.complete && !((List.range 8).any (fun e => s.ticketWaited e t)) then s.releaseTicket t else s.setBitR Reg.SOL_STK 6
  | none => s.setBitR Reg.SOL_STK 6

/-- SOL_TREL (R205): A write releases a completed ticket or is refused. -/
def execSolTrel (p : Party) (v : Word) (s : State) : Host.Outcome State Fault Refusal :=
  .next (s.portWrite p Reg.SOL_TREL (fun s => s.solTrel v))

/-! ### SUBMIT.SOL -/

/-- The group sequence a command of the running clause carries (R163). -/
def State.runSeq (s : State) (e : Nat) : Nat :=
  match (s.eng e).run with
  | some r => (s.group r.group).seq
  | none => 0

/-- The clause engine `e` runs. -/
def State.runClause (s : State) (e : Nat) : Nat := ((s.eng e).run.map Run.clause).getD 0

/-- The running group's number. -/
def State.runGroup (s : State) (e : Nat) : Nat := ((s.eng e).run.map Run.group).getD 0

/-- R124, R125: no ticket: 16#FFFFFFFF into Wd and Pd cleared. -/
def State.noTicket (s : State) (e d p : Nat) : State := (s.setW e d 0xFFFFFFFF).setP e p false

/-- R183: the banks a batch marks in use. -/
def State.batchBanks (s : State) (bank off count : Nat) : List Nat :=
  bank :: (List.range count).flatMap (fun i =>
    let ws := s.bankWords (bankAddr bank off + 4 * (8 + 16 * i)) 14
    ([matOp ws 2, matOp ws 4, matOp ws 6].filter (fun m => !m.none)).map (fun m => m.bank))

/-- R124, R183, R208: a batch accepted under ticket `t`. -/
def State.acceptBatch (s : State) (e t bank off count : Nat) : State :=
  let h0 := s.bankWord bank off
  let b : Batch := { clause := s.runClause e, seq := s.runSeq e, ticket := t, bank := bank, off := off, count := count
                     prio := fld h0 22 21, dlen := bit h0 20, deadline := s.bankWord bank (off + 4)
                     nen := bit h0 19, arel := bit h0 18, ncl := fld h0 7 0 }
  let s1 := (s.batchBanks bank off count).foldl (fun s k => s.markBank k (ticketTag t)) s
  let s2 := s1.updSol (fun q => { q with next := q.next + 1, batches := mput q.batches q.next b
                                         tickets := mput q.tickets t { count := count } })
  (s2.bump Reg.SOL_NSUB count).bump Reg.SOL_NPEND count

/-- SUBMIT.SOL (R122, R124). -/
def State.submitSol (s : State) (e d p : Nat) (wa : Word) : State :=
  let bank := addrBank wa
  let off := addrOff wa
  let count := fld (s.bankWord bank off) 31 23
  let bad := count == 0 || decide (256 < count)
  let c := s.checkOperand wa (if bad then 32 else 4 * (8 + 16 * count)) ownSol
  let c := { c with len := c.len || (bad && !c.align && !c.own) }
  if !c.ok then (s.checkFlags e c).setP e p false
  else
    match s.freeTicket with
    | none => ((s.noTicket e d p).bump Reg.SOL_TFULL).setBitR Reg.SOL_STK 0
    | some t => ((s.acceptBatch e t bank off count).setW e d (wd t)).setP e p true

/-- SUBMIT_SOL (R124): Engine hands a batch descriptor to the solver and takes a ticket. -/
def execSubmitSol (x : Guard) (wd : RegNo) (pd : PredNo) (wa : RegNo) (s : State) : Host.Outcome State Fault Refusal :=
  .next (s.issueAt x true 4 1 (4 + s.lockExtra x.e.val) (3 + s.lockExtra x.e.val) false (fun s => (s.submitSol x.e.val wd.val pd.val (s.w x.e.val wa.val), .pass 1)))

end Sys2Proof.Machine
end

