-- ==== Sys2Proof/Machine/Pending.lean ====
section
/-! DEFINITION. Machine/Pending.lean: the pending sets of the output groups (spec/02_architecture.md R32 to R38,
R40) and staged outputs (spec/03_programming_model.md R88, R89). -/
namespace Sys2Proof.Machine

/-- The output group a party's staged writes join (R33). -/
def State.partyGroup (s : State) : Party → Nat
  | .eng e => s.runGroup e.val
  | .svc g => g.val

/-- The execution by which a party writes: the clause with its dispatch number, or the service protocol. -/
def State.partyExec (s : State) : Party → Option Nat × Nat
  | .eng e =>
    match (s.eng e.val).run with
    | some r => (some r.clause, r.disp)
    | none => (none, 0)
  | .svc _ => (none, 0)

/-- The distinct registers of a pending set. -/
def pendRegs (l : List PendWrite) : List Nat := (l.map PendWrite.addr).eraseDups

/-- R35: the writes of the set of group `g` that its next commit takes: all of them, or, while its full stop is due, those
whose act clock lies before the full stop's clock. -/
def State.setOf (s : State) (g : Nat) : List PendWrite :=
  let x := s.group g
  if s.stopReal g then x.pend.filter (fun w => decide (w.clk < x.dueClk)) else x.pend

/-- R35: the writes of the set that wait for the full stop after the one that is due. -/
def State.heldOver (s : State) (g : Nat) : List PendWrite :=
  let x := s.group g
  if s.stopReal g then x.pend.filter (fun w => !(decide (w.clk < x.dueClk))) else []

/-- The set that an access in this clock joins: that of the full stop after the one due at or before this clock (R35). -/
def State.openSet (s : State) (g : Nat) : List PendWrite := if s.stopReal g then s.heldOver g else (s.group g).pend

/-- The key under which the bits of SYS_CPSTAT of group `g` that are set in this clock are noted (R10). -/
def cpKey (g : Nat) : Nat := 0x10000 + g

/-- R10, R38, R39: a bit of SYS_CPSTAT of group `g` set in this clock. -/
def State.noteCp (s : State) (g i : Nat) : State :=
  s.updNow (fun x => { x with hot := mput x.hot (cpKey g) (mgetD x.hot (cpKey g) 0 ||| bitMask i) })

/-- The set of group `g` open in this clock is overflowed (R38). -/
def State.openOver (s : State) (g : Nat) : Bool := if s.stopReal g then (s.group g).overNext else (s.group g).overflowed

/-- R38: a staged write joins the pending set of group `g`, or overflows it. A later write of one execution to the
same register replaces the earlier. -/
def State.stageIn (s : State) (g : Nat) (w : PendWrite) : State :=
  let due := s.stopReal g
  let open_ := s.openSet g
  let regs := pendRegs open_
  if s.openOver g then s
  else if !regs.contains w.addr && decide (128 ≤ regs.length) then
    ((s.updGroup g (fun x => { x with overflowed := x.overflowed || !due, overNext := x.overNext || due, ovf := true })).noteCp g 8).record
      .cpOverflow 0 [g]
  else
    s.updGroup g (fun x => { x with
      pend := x.pend.filter (fun p => !(p.addr == w.addr && p.clause == w.clause && p.disp == w.disp && open_.contains p))
                ++ [{ w with ord := x.stageNo }],
      stageNo := x.stageNo + 1 })

/-- R32, R33: a party's staged write. -/
def State.stage (s : State) (p : Party) (addr : Nat) (v : Word) : State :=
  let ex := s.partyExec p
  s.stageIn (s.partyGroup p) { clause := ex.1, disp := ex.2, addr := addr, val := v, clk := s.clk }

/-- R35, R40: DISCARD empties the pending set of a group and ends its overflowed state; in the FAB clock of the group's full
stop it empties the set of the next one. -/
def State.discardSet (s : State) (g : Nat) : State :=
  if s.stopReal g then
    let keep := s.setOf g
    s.updGroup g (fun x => { x with pend := keep, overNext := false })
  else s.updGroup g (fun x => { x with pend := [], overflowed := false })

/-- R88: a staged output of the clause engine `e` runs. -/
def State.stageOut (s : State) (e : Nat) (item : StagedItem) : State :=
  match (s.eng e).run with
  | none => s
  | some r => s.updGroup r.group (fun x => { x with
      staged := x.staged ++ [{ clause := r.clause, disp := r.disp, item := item, ord := x.stageNo }]
      stageNo := x.stageNo + 1 })

/-- The value a register would hold after the pending set of group `g` commits (R137, R582): the last of `ws` that
names it, else the value in force. -/
def State.after (s : State) (ws : List PendWrite) (addr : Nat) : Word :=
  match (ws.filter (fun w => w.addr == addr)).getLast? with
  | some w => w.val
  | none => s.reg addr

end Sys2Proof.Machine
end

