-- ==== Sys2Proof/Machine/Can.lean ====
section
/-! DEFINITION. Machine/Can.lean: the CAN FD channels (spec/17_can_fd.md R474 to R501; TXQ,
spec/04_instruction_reference.md R130). What the bus does (arbitration, errors, received frames) comes with the
commands; the standard's error counters follow ISO 11898-1. -/
namespace Sys2Proof.Machine

/-- A channel. -/
def State.canCh (s : State) (n : Nat) : CanChannel := mgetD s.can n {}

/-- A channel changed. -/
def State.updCan (s : State) (n : Nat) (f : CanChannel → CanChannel) : State := { s with can := mput s.can n (f (s.canCh n)) }

/-- R477, R478: the mode the channel is to run in: 0 normal, 1 restricted, 2 listen-only. -/
def State.canEff (s : State) (n : Nat) : Nat :=
  if s.regB (Reg.CFD_CTL n) 26 && !s.hold then (if n < 4 then 1 else 2) else s.regF (Reg.CFD_CTL n) 30 28

/-- The effective mode. -/
def State.canMode (s : State) (n : Nat) : Nat := s.regF (Reg.CFD_STAT n) 28 26

/-- The bus state: 0 active, 1 passive, 2 bus-off, 3 recovering. -/
def State.canBus (s : State) (n : Nat) : Nat := s.regF (Reg.CFD_STAT n) 31 30

/-- R477: the channel transmits. -/
def State.canSends (s : State) (n : Nat) : Bool := s.regB (Reg.CFD_CTL n) 31 && s.canMode n == 0 && decide (s.canBus n < 2)

/-- R479: error counters as they stand, shown in CFD_STAT; error-passive above 127. -/
def State.canCounters (s : State) (n tec rc : Nat) : State :=
  let s := s.updCan n (fun x => { x with tec := tec, rec_ := rc })
  let s := (s.setRegF (Reg.CFD_STAT n) 7 0 (min tec 255)).setRegF (Reg.CFD_STAT n) 15 8 (min rc 255)
  if 2 ≤ s.canBus n then s
  else if 128 ≤ tec ∨ 128 ≤ rc then
    let s := if s.canBus n = 0 then s.setBitR (Reg.CFD_STK n) 2 else s
    s.setRegF (Reg.CFD_STAT n) 31 30 1
  else s.setRegF (Reg.CFD_STAT n) 31 30 0

/-! ### Completion records (R489 to R492) -/

/-- The records the ring of a channel holds at most. -/
def State.canRing (s : State) (n : Nat) : Nat := s.regF (Reg.CFD_TXCR n) 12 0 / 4

/-- CFD_TXCST formed again: UNACK, and RPTR relative to BASE. -/
def State.canRingStat (s : State) (n : Nat) : State :=
  let x := s.canCh n
  let len := s.canRing n
  let r := if len = 0 then 0 else (x.wptr + len - x.unack % len) % len
  s.setReg (Reg.CFD_TXCST n) (wd (x.unack % 2048 * 8192 + 4 * r))

/-- A record written into the ring, which has room. -/
def State.canPut (s : State) (n : Nat) (r : List Word) : State :=
  let cr := s.reg (Reg.CFD_TXCR n)
  let b := fld cr 31 26
  let s := (s.touch b).storeWords (bankAddr b (4 * (fld cr 25 13 + 4 * (s.canCh n).wptr))) r
  let s := s.updCan n (fun x => { x with wptr := (x.wptr + 1) % max (s.canRing n) 1, unack := x.unack + 1 })
  (((s.bump (Reg.CFD_NTXC n)).drop (Reg.CFD_NTXP n)).canRingStat n)

/-- R490, R491: a record goes to the ring, waits in the store, or is lost. -/
def State.canRecord (s : State) (n : Nat) (r : List Word) : State :=
  let x := s.canCh n
  if x.store.isEmpty && decide (x.unack < s.canRing n) then s.canPut n r
  else if x.store.length < 256 then
    (s.updCan n (fun x => { x with store := x.store ++ [r] })).setReg (Reg.CFD_TXCW n) (wd (x.store.length + 1))
  else
    let s := (s.bump (Reg.CFD_NTXLOSTC n)).setBitR (Reg.CFD_STK n) 6
    if x.lostOn then s else (s.updCan n (fun x => { x with lostOn := true })).record .canTxcLost n [n]

/-- R485, R489: entry `e` of channel `n` ends. -/
def State.canEnd (s : State) (n : Nat) (e : CanEntry) (status cause : Nat) : State :=
  let w0 := (e.image.head?).getD 0
  let w1 := (e.image[1]?).getD 0
  let s := s.updCan n (fun x => { x with queue := x.queue.filter (fun q => q.no != e.no) })
  let s := s.bump (Reg.CFD_NST n status)
  s.canRecord n
    [wd (status * 2 ^ 28 + cause * 2 ^ 26 + min e.att 15 * 65536 + fld w0 15 0),
     wd (b2n (bit w0 31) * 2 ^ 31 + fld w1 28 0), wd (e.sof.getD 0), wd (e.group * 2 ^ 28 + e.seq % 2 ^ 28)]

/-- CAN_RECORD_WRITE (R491): the oldest waiting record is written as the ring has room. -/
def execCanRecordWrite (n : Fin 6) (s : State) : Host.Outcome State Fault Refusal :=
  .next (
    let k := n.val
    let x := s.canCh k
    match x.store with
    | [] => s
    | r :: t =>
      if x.unack < s.canRing k then
        let s := ((s.updCan k (fun x => { x with store := t })).setReg (Reg.CFD_TXCW k) (wd t.length)).canPut k r
        if t.isEmpty && x.lostOn then (s.updCan k (fun x => { x with lostOn := false })).record .canTxcResume k [k] else s
      else s)

/-- R490: an acknowledgement of completion records. -/
def State.txcackWrite (s : State) (p : Party) (n : Nat) (v : Word) : State :=
  let c := fld v 10 0
  if c = 0 ∨ (s.canCh n).unack < c then s.partyEsf p .lenErr
  else (s.updCan n (fun x => { x with unack := x.unack - c })).canRingStat n

/-- CFD_TXCACK (R490): A write acknowledges completion records or is refused. -/
def execCfdTxcack (p : Party) (n : Fin 6) (v : Word) (s : State) : Host.Outcome State Fault Refusal :=
  .next (s.byParty p (fun s => s.txcackWrite p n.val v))

/-! ### Transmitting -/

/-- R481: the header of a published entry is in error. -/
def State.canBadFormat (s : State) (n : Nat) (image : List Word) : Bool :=
  let w0 := image.head?.getD 0
  let w1 := (image[1]?).getD 0
  fld w0 22 16 != 0 || fld w1 31 29 != 0 || (bit w0 29 && !(bit w0 30)) || (bit w0 28 && bit w0 30)
    || (!(bit w0 31) && fld w1 17 0 != 0) || (bit w0 30 && !(s.regB (Reg.CFD_CTL n) 27))

/-- R481, R483, R485, R486: an entry of group `g` published at its full stop of sequence `seq`. -/
def State.canPublish (s : State) (g seq n : Nat) (image : List Word) : State :=
  let no := (s.canCh n).next
  let e : CanEntry := { image := image, group := g, seq := seq, no := no, el := s.tb.el }
  let s := (s.bump (Reg.CFD_NTXQ n)).bump (Reg.CFD_NTXP n)
  let s := s.updCan n (fun x => { x with next := no + 1, queue := x.queue ++ [e] })
  if s.canBadFormat n image then (s.setBitR (Reg.CFD_STK n) 0).canEnd n e 9 0
  else if !(s.regB (Reg.CFD_CTL n) 31) || s.regF (Reg.CFD_CTL n) 30 28 != 0 then s.canEnd n e 8 0
  else if 2 ≤ s.canBus n then s.canEnd n e 7 0
  else s

/-- R486: at a full stop of group `g` its entries that have not started end STALE or NOAUTH. -/
def State.canStale (s : State) (g : Nat) : State :=
  (List.range 6).foldl (fun s n =>
    ((s.canCh n).queue.filter (fun e => e.group == g && !e.started)).foldl
      (fun s e => s.canEnd n e (if s.canMode n = 0 then 5 else 6) 0) s) s

/-- R485: a commit disables the channel or changes its mode: what is queued ends NOTX. -/
def State.canOff (s : State) (n : Nat) : State := (s.canCh n).queue.foldl (fun s e => s.canEnd n e 8 0) s

/-- The tag of the mark of a channel's ring bank (R499). -/
def canTag (n : Nat) : Nat := 0x600 + n

/-- A commit changed CFD_CTL or CFD_TXCR of channel `n`: the ring's mark, and the effective mode of a channel that is
enabled. -/
def State.canConfigured (s : State) (n : Nat) (was : Word) : State :=
  let now := s.reg (Reg.CFD_CTL n)
  let s := if bit was 31 && (!(bit now 31) || fld was 30 28 != fld now 30 28) then s.canOff n else s
  let s := s.unmarkTag (canTag n)
  let s := if bit now 31 then s.markBank (s.regF (Reg.CFD_TXCR n) 31 26) (canTag n) else s
  if bit now 31 && (!(bit was 31) || fld was 30 28 != fld now 30 28 || bit was 26 != bit now 26) then
    s.setRegF (Reg.CFD_STAT n) 28 26 (s.canEff n)
  else s

/-- A commit changed CFD_TXCR: the new ring is empty. -/
def State.canRingNew (s : State) (n : Nat) : State :=
  (s.updCan n (fun x => { x with wptr := 0, unack := 0 })).canRingStat n

/-- CAN_ENTRY_ELIGIBLE (R483): 0.5 µs after their full stop. -/
def execCanEntryEligible (n : Fin 6) (s : State) : Host.Outcome State Fault Refusal :=
  .next (s.updCan n.val (fun x => { x with
    queue := x.queue.map (fun e => if e.el + 500 ≤ s.tb.el then { e with eligible := true } else e) }))

/-- R484: the arbitration field of an entry as a number: the lower wins. Base: identifier, RTR, dominant IDE;
extended: base identifier, recessive SRR and IDE, the rest of the identifier, RTR. -/
def arbField (image : List Word) : Nat :=
  let w0 := image.head?.getD 0
  let w1 := (image[1]?).getD 0
  if bit w0 31 then fld w1 28 18 * 2 ^ 21 + 2 ^ 20 + 2 ^ 19 + fld w1 17 0 * 2 + b2n (bit w0 28)
  else fld w1 28 18 * 2 ^ 21 + b2n (bit w0 28) * 2 ^ 20

/-- R484: the eligible entry the channel offers: the winner, the earliest published among equals. -/
def bestEntry (l : List CanEntry) : Option CanEntry :=
  (l.filter (fun e => e.eligible)).foldl (fun b e =>
    match b with
    | none => some e
    | some x => if arbField e.image < arbField x.image then some e else some x) none

/-- The entry of channel `n` in transmission. -/
def State.canSending (s : State) (n : Nat) : Option CanEntry := (s.canCh n).queue.find? (fun e => e.started)

/-- An entry replaced in its queue. -/
def State.canPutEntry (s : State) (n : Nat) (e : CanEntry) : State :=
  s.updCan n (fun x => { x with queue := x.queue.map (fun q => if q.no = e.no then e else q) })

/-- CAN_ARBITRATION (R484, R485): the SOF of the entry offered begins. A channel whose mode is to change at bus-idle changes it
first (R478). -/
def execCanArbitration (n : Fin 6) (s : State) : Host.Outcome State Fault Refusal :=
  .next (
    let k := n.val
    if s.canSends k && s.canEff k == 0 && (s.canSending k).isNone then
      match bestEntry (s.canCh k).queue with
      | none => s
      | some e => s.canPutEntry k { e with started := true, att := e.att + 1, sof := some s.tb.t }
    else s)

/-- CAN_TX_COMPLETE (R485, R487, R476): the frame completes without error; `delay` is the transceiver delay measured
in an FD frame. -/
def execCanTxComplete (n : Fin 6) (delay : Nat) (s : State) : Host.Outcome State Fault Refusal :=
  .next (
    let k := n.val
    match s.canSending k with
    | none => s
    | some e =>
      let fd := bit (e.image.head?.getD 0) 30
      let s := if fd && s.regB (Reg.CFD_TDC k) 31 then s.setRegF (Reg.CFD_STAT k) 23 16 (min delay 255) else s
      let s := s.canCounters k ((s.canCh k).tec - 1) (s.canCh k).rec_
      (s.emit (.can k e.image)).canEnd k e (if e.cancelled then 1 else 0) 0)

/-- CAN_TX_ERROR (R484, R485, R487, R488). -/
def execCanTxError (n : Fin 6) (f : CanFail) (s : State) : Host.Outcome State Fault Refusal :=
  .next (
    let k := n.val
    match s.canSending k with
    | none => s
    | some e =>
      let s := if f = .arbitration then s else s.canCounters k ((s.canCh k).tec + 8) (s.canCh k).rec_
      let coll := if f = .dataBit then e.coll + 1 else 0
      if e.cancelled then s.canEnd k e 2 1
      else if bit (e.image.head?.getD 0) 27 then s.canEnd k e 3 (if f = .arbitration then 2 else 1)
      else if 2 ≤ coll then
        ((s.setBitR (Reg.CFD_STK k) 4).record .canIdCollision k [k, fld ((e.image[1]?).getD 0) 28 0]).canEnd k e 4 0
      else s.canPutEntry k { e with started := false, coll := coll })

/-- CAN_BUSOFF (R479, R486): the standard's condition is a transmit error counter above 255. -/
def execCanBusoff (n : Fin 6) (s : State) : Host.Outcome State Fault Refusal :=
  .next (
    let k := n.val
    if s.regB (Reg.CFD_CTL k) 31 && decide (s.canBus k < 2) && decide (256 ≤ (s.canCh k).tec) then
      let x := s.canCh k
      let s := s.setRegF (Reg.CFD_STAT k) 31 30 (if s.regB (Reg.CFD_CTL k) 25 then 3 else 2)
      let s := (s.setBitR (Reg.CFD_STK k) 1).record .canBusoff k [k, x.tec, x.rec_]
      x.queue.foldl (fun s e => s.canEnd k e 7 0) s
    else s)

/-- R479: a write of CFD_RECOV. -/
def State.recovWrite (s : State) (n : Nat) (v : Word) : State :=
  if bit v 0 && s.canBus n == 2 then s.setRegF (Reg.CFD_STAT n) 31 30 3 else s

/-- CFD_RECOV (R479): A write starts bus-off recovery. -/
def execCfdRecov (p : Party) (n : Fin 6) (v : Word) (s : State) : Host.Outcome State Fault Refusal :=
  .next (s.byParty p (fun s => s.recovWrite n.val v))

/-- CAN_BUSOFF_RECOVERED (R479): 128 occurrences of 11 consecutive recessive bits. -/
def execCanBusoffRecovered (n : Fin 6) (s : State) : Host.Outcome State Fault Refusal :=
  .next (
    let k := n.val
    if s.canBus k = 3 then ((s.setRegF (Reg.CFD_STAT k) 31 30 0).canCounters k 0 0).record .canBusoffEnd k [k] else s)

/-- CAN_MODE_SWITCH (R478): bus-idle: the effective mode follows the authority. -/
def execCanModeSwitch (n : Fin 6) (s : State) : Host.Outcome State Fault Refusal :=
  .next (
    let k := n.val
    if s.regB (Reg.CFD_CTL k) 31 && (s.canSending k).isNone then s.setRegF (Reg.CFD_STAT k) 28 26 (s.canEff k) else s)

/-- R487: a write of CFD_CANCEL. -/
def State.cancelWrite (s : State) (n : Nat) (v : Word) : State :=
  let hits := (s.canCh n).queue.filter (fun e => bit v 16 || fld (e.image.head?.getD 0) 15 0 == fld v 15 0)
  if hits.isEmpty then s.setBitR (Reg.CFD_STK n) 5
  else hits.foldl (fun s e => if e.started then s.canPutEntry n { e with cancelled := true } else s.canEnd n e 2 0) s

/-- CFD_CANCEL (R487): A write cancels matching transmit entries. -/
def execCfdCancel (p : Party) (n : Fin 6) (v : Word) (s : State) : Host.Outcome State Fault Refusal :=
  .next (s.byParty p (fun s => s.cancelWrite n.val v))

/-! ### Receiving -/

/-- R480: the data bytes of a length code. -/
def dlcBytes (fd : Bool) (dlc : Nat) : Nat :=
  if dlc ≤ 8 then dlc
  else if !fd then 8
  else match dlc with
    | 9 => 12
    | 10 => 16
    | 11 => 20
    | 12 => 24
    | 13 => 32
    | 14 => 48
    | _ => 64

/-- R480: the data words of an image with the bytes beyond its length 0. -/
def dataWords (image : List Word) : List Word :=
  let w0 := image.head?.getD 0
  let n := if bit w0 28 then 0 else dlcBytes (bit w0 30) (fld w0 26 23)
  (List.range 16).map (fun i =>
    let w := ((image[i + 2]?).getD 0).toNat
    wd (if 4 * i + 4 ≤ n then w else if n ≤ 4 * i then 0 else w % 2 ^ (8 * (n - 4 * i))))

/-- R493: the filter that decides a frame. -/
def State.canFilter (s : State) (n : Nat) (image : List Word) : Option Nat :=
  let w0 := image.head?.getD 0
  let id := (image[1]?).getD 0
  findFrom (fun f =>
    let a := s.reg (Reg.CFD_FID n f)
    let m := s.reg (Reg.CFD_FMSK n f) &&& 0x1FFFFFFF
    bit a 31 && bit a 30 == bit w0 31 && (id &&& m) == (a &&& m)) 32 0

/-- R494: a receive entry. -/
def rxEntry (image : List Word) (t filt : Nat) (div : Bool) : List Word :=
  let w0 := image.head?.getD 0
  [wd (fld w0 31 28 * 2 ^ 28 + fld w0 26 23 * 2 ^ 23 + filt), wd (fld ((image[1]?).getD 0) 28 0)] ++ dataWords image
    ++ [wd t, wd (t / 2 ^ 32 % 65536 * 65536 + b2n div * 256 + filt)]

/-- R495: an entry written is routed when RTE = 1. -/
def State.canRoute (s : State) (n : Nat) (e : List Word) : State :=
  if s.regB (Reg.CFD_CTL n) 24 then s.produce 5 n e else s

/-- R495: a frame accepted for the receive queue. -/
def State.canQueue (s : State) (n : Nat) (e : List Word) : State :=
  let x := s.canCh n
  if 128 ≤ x.rx.length then
    let s := (s.bump (Reg.CFD_NRXLOST n)).setBitR (Reg.CFD_STK n) 3
    if x.lossOn then s else (s.updCan n (fun x => { x with lossOn := true })).record .canRxOverflow n [n]
  else
    let s := (s.updCan n (fun x => { x with rx := x.rx ++ [e], lossOn := false })).bump (Reg.CFD_NRXW n)
    (s.setReg (Reg.CFD_RXSTAT n) (wd (x.rx.length + 1))).canRoute n e

/-- R496, R500: a frame for the high-priority buffer of filter `f`. -/
def State.canBuffer (s : State) (n f : Nat) (image : List Word) (t : Nat) : State :=
  let b := f % 8
  if s.regB (Reg.CFD_HPSTAT n) b then (s.bump (Reg.CFD_NHPDIV n)).canQueue n (rxEntry image t f true)
  else
    let e := rxEntry image t f false
    let s := (e.zipIdx).foldl (fun s q => s.setReg (Reg.CFD_HPB n b q.2) q.1) s
    let s := (s.setBitR (Reg.CFD_HPSTAT n) b).bump (Reg.CFD_NRXW n)
    (s.canRoute n e).blockEvent 4 (8 * n + b)

/-- R479: a frame received without error lowers the receive error counter; from above 127 it goes to a value between 119
and 127 that the standard leaves open. -/
def State.canRxOk (s : State) (n : Nat) : State :=
  let r := (s.canCh n).rec_
  if 128 ≤ r then
    let (f, s) := s.freeValue
    s.canCounters n (s.canCh n).tec (119 + f.toNat % 9)
  else s.canCounters n (s.canCh n).tec (r - 1)

/-- R479: a receive error raises the counter by 1, or by 8. -/
def State.canRxBad (s : State) (n : Nat) (by8 : Bool) : State :=
  s.canCounters n (s.canCh n).tec (min ((s.canCh n).rec_ + if by8 then 8 else 1) 255)

/-- CAN_FRAME_RECEIVED (R493 to R496): a frame whose SOF came `age` ns ago. -/
def execCanFrameReceived (n : Fin 6) (image : List Word) (age : Nat) (s : State) : Host.Outcome State Fault Refusal :=
  .next (
    let k := n.val
    if s.regB (Reg.CFD_CTL k) 31 && decide (s.canBus k < 2) then
      if bit (image.head?.getD 0) 30 && !(s.regB (Reg.CFD_CTL k) 27) then s.canRxBad k false
      else
        let s := s.canRxOk k
        let t := s.tb.t - age
        match s.canFilter k image with
        | some f =>
          match s.regF (Reg.CFD_FMSK k f) 31 30 with
          | 0 => (s.bump (Reg.CFD_NRX k)).canQueue k (rxEntry image t f false)
          | 1 => (s.bump (Reg.CFD_NRX k)).canBuffer k f image t
          | _ => s.bump (Reg.CFD_NRXREJ k)
        | none =>
          if s.regB (Reg.CFD_CTL k) 23 then
            let (f, s) := s.freeValue
            (s.bump (Reg.CFD_NRX k)).canQueue k (rxEntry image t (f.toNat % 32) false)
          else s.bump (Reg.CFD_NRXREJ k)
    else s)

/-- R495: an acknowledgement of receive entries. -/
def State.rxackWrite (s : State) (p : Party) (n : Nat) (v : Word) : State :=
  let c := fld v 7 0
  let x := s.canCh n
  if c = 0 ∨ x.rx.length < c then s.partyEsf p .lenErr
  else (s.updCan n (fun x => { x with rx := x.rx.drop c })).setReg (Reg.CFD_RXSTAT n) (wd (x.rx.length - c))

/-- CFD_RXACK (R495): A write acknowledges receive entries or is refused. -/
def execCfdRxack (p : Party) (n : Fin 6) (v : Word) (s : State) : Host.Outcome State Fault Refusal :=
  .next (s.byParty p (fun s => s.rxackWrite p n.val v))

/-- R496: an acknowledgement of high-priority buffers. -/
def State.hpackWrite (s : State) (n : Nat) (v : Word) : State :=
  s.setReg (Reg.CFD_HPSTAT n) (s.reg (Reg.CFD_HPSTAT n) &&& ~~~(v &&& 0xFF))

/-- CFD_HPACK (R496): A write acknowledges high-priority buffers. -/
def execCfdHpack (p : Party) (n : Fin 6) (v : Word) (s : State) : Host.Outcome State Fault Refusal :=
  .next (s.byParty p (fun s => s.hpackWrite n.val v))

/-- CAN_RECEIVE_ERROR (R479). -/
def execCanReceiveError (n : Fin 6) (by8 : Bool) (s : State) : Host.Outcome State Fault Refusal :=
  .next (if s.regB (Reg.CFD_CTL n.val) 31 && decide (s.canBus n.val < 2) then s.canRxBad n.val by8 else s)

/-! ### TXQ -/

/-- R482: the entries a group has staged for a channel in its cycle. -/
def State.canStaged (s : State) (g n : Nat) : Nat :=
  ((s.group g).staged.filter (fun o => match o.item with
    | .can c _ => c == n
    | _ => false)).length

/-- R482: QUOTA of a group on a channel. -/
def State.canQuota (s : State) (g n : Nat) : Nat := s.regF (Reg.CFD_TXQ n (g / 4)) (8 * (g % 4) + 7) (8 * (g % 4))

/-- TXQ (R122, R130, R481, R482). -/
def execTxq (x : Guard) (pd : PredNo) (wa wb : RegNo) (q : BankUse) (s : State) : Host.Outcome State Fault Refusal :=
  let e := x.e.val
  let b := addrBank (s.w e wa.val)
  let n := 6 + s.lockExtra e + s.stallOf b q.stall
  .next (s.issueAt x true 6 1 n (n - 1) false (fun s =>
    let w := s.w e wa.val
    let n := (s.w e wb.val).toNat
    let c := s.checkOperand w 72 (s.ownerOf e)
    let a := bankAddr b (addrOff w)
    let image := s.bankWords a 18
    let w0 := image.head?.getD 0
    let tooLong := c.ok && !(bit w0 30) && decide (8 < fld w0 26 23)
    let full := decide (n < 6) && decide (s.canQuota (s.runGroup e) n ≤ s.canStaged (s.runGroup e) n)
    let c := { c with len := c.len || decide (5 < n) || tooLong || full }
    if !c.ok then ((s.checkFlags e c).setP e pd.val false, .pass 1)
    else
      let (s, bad) := ((s.touch b).markUpset a 72 q.upset).noteParity a 72
      ((((s.esfIf e bad .parity).stageOut e (.can n image)).setP e pd.val true), .pass 1)))

end Sys2Proof.Machine
end

