-- ==== Sys2Proof/Machine/Chains.lean ====
section
/-! DEFINITION. Machine/Chains.lean: filter chains and the mains-phase tracker (spec/16_filter_chains_encoders.md R443
to R454). A chain output comes with the modulator bits that entered the integrators since the one before. -/
namespace Sys2Proof.Machine

/-- A chain. -/
def State.chain (s : State) (c : Nat) : Chain := mgetD s.dfc.chains c {}

/-- A chain changed. -/
def State.updChain (s : State) (c : Nat) (f : Chain → Chain) : State :=
  { s with dfc := { s.dfc with chains := mput s.dfc.chains c (f (s.chain c)) } }

/-- The mark of a bank that holds a chain's future page (R451). -/
def swapTag (c : Nat) : Nat := 0x500 + c

/-- R454: axis source 3 and MPVALID lose validity. -/
def State.mainsInvalid (s : State) : State :=
  let s := s.clrBitR Reg.DFC_MPSTAT 31
  { s with mains := { s.mains with valid := false }, dfc := { s.dfc with okEl := none } }

/-- The chain's outputs are invalid; with them the tracker that takes them. -/
def State.chainInvalid (s : State) (c : Nat) : State :=
  let s := s.clrBitR (Reg.DFC_STAT c) 31
  if s.regB Reg.DFC_MPCFG 31 && s.regF Reg.DFC_MPCFG 3 0 == c then s.mainsInvalid else s

/-- R447, R449: a chain starts. -/
def State.chainStart (s : State) (c : Nat) : State :=
  let cfg := s.reg (Reg.DFC_CFG c)
  let order := fld cfg 26 24
  let s := s.chainInvalid c
  let s := (s.putBitR (Reg.DFC_STAT c) 30 true).putBitR (Reg.DFC_STAT c) 29 (bit cfg 30)
  s.updChain c (fun x => { x with
    ints := List.replicate order 0, combs := List.replicate order 0, xs := []
    m := sw (s.reg (Reg.DFC_MINIT c)) * (2 ^ 32 : Nat), settle := order + 32 })

/-- R449: a trigger unit releases a chain that waits. -/
def State.chainTrigger (s : State) (c : Nat) : State := s.clrBitR (Reg.DFC_STAT c) 29

/-- R451: a swap is published for chain `c`. -/
def State.publishFirSwap (s : State) (c addr : Nat) : State :=
  if (s.chain c).swap.isSome then s.setBitR (Reg.DFC_STK c) 4
  else (((s.updChain c (fun x => { x with swap := some addr })).setBitR (Reg.DFC_STAT c) 28).markBank (addr / 32768 % 64) (swapTag c))

/-- R445, step 2: one modulator bit through the integrators: each takes the new value of the one before it. -/
def integrate (v : BitVec 64) : List (BitVec 64) → List (BitVec 64)
  | [] => []
  | i :: t => (i + v) :: integrate (i + v) t

/-- R445, step 2: the combs, each the difference of its input and its input before: the output and the inputs kept. -/
def comb (v : BitVec 64) : List (BitVec 64) → BitVec 64 × List (BitVec 64)
  | [] => (v, [])
  | p :: t => let q := comb (v - p) t; (q.1, v :: q.2)

/-- R445, step 4: the FIR sum, newest x first. -/
def firSum : List Word → List Int → Int
  | h :: hs, x :: xs => sw h * x + firSum hs xs
  | _, _ => 0

/-- R445: steps 2 to 5 on the bits of one output: the chain after it, the output, whether a step saturated. -/
def Chain.compute (x : Chain) (cfg dl : Word) (bits : List Bool) : Chain × Word × Bool :=
  let ints := bits.foldl (fun l b => integrate (if b then 1 else -1) l) x.ints
  let (c, combs) := comb (ints.getLast?.getD 0) x.combs
  let rawX := wrRaw c.toInt (fld cfg 23 18) 30
  let xv := satTo 32 rawX
  let xs := (xv :: x.xs).take 32
  let rawY := wrRaw (firSum x.page xs) (60 - fld cfg 17 14) 16
  let y := satTo 32 rawY
  let dc := bit cfg 13
  let rawO := if dc then y - rdiv x.m 32 else y
  let m := if dc && !(bit dl 31) then x.m + rdiv (y * (2 ^ 32 : Nat) - x.m) (fld dl 28 24) else x.m
  ({ x with ints := ints, combs := combs, xs := xs, m := m }, sat32 rawO, satHit 32 rawX || satHit 32 rawY || satHit 32 rawO)

/-- R451: the chain takes its future page, or refuses it. -/
def State.firTake (s : State) (c : Nat) : State :=
  match (s.chain c).swap with
  | none => s
  | some addr =>
    let b := addr / 32768 % 64
    let s := (s.clrBitR (Reg.DFC_STAT c) 28).unmarkTag (swapTag c)
    let s := s.updChain c (fun x => { x with swap := none })
    if s.owner b = 0x20 + c then
      let a := bankAddr b (addr % 32768 / 4 * 4)
      let ws := s.bankWords a 32
      (((s.touch b).noteParity a 128).1).updChain c (fun x => { x with page := ws })
    else (s.setBitR (Reg.DFC_STK c) 3).record .dfcSwapRefused c [c]

/-- R453: a chain's modulator clock, Hz. -/
def State.chainHz (s : State) (c : Nat) : Nat :=
  let cfg := s.reg (Reg.DFC_CFG c)
  if bit cfg 29 then Config.chainClock c else 20000000 / (s.regF Reg.DFC_MCLK (4 * fld cfg 28 27 + 1) (4 * fld cfg 28 27) + 1)

/-- R453: a frequency as turn32 per output of the tracker's chain. -/
def State.mainsStep (s : State) (hz : Nat) : Int :=
  let c := s.regF Reg.DFC_MPCFG 3 0
  rquo ((hz * 2 ^ 32 * s.regF (Reg.DFC_CFG c) 12 0 : Nat) : Int) (s.chainHz c)

/-- R453: the tracker starts. -/
def State.mainsStart (s : State) : State :=
  let s := s.mainsInvalid
  ((s.setReg Reg.DFC_MPPH 0).setReg Reg.DFC_MPAMP 0).setReg Reg.DFC_MPRATE (wdi (s.mainsStep (if s.regB Reg.DFC_MPCFG 30 then 60 else 50)))

/-- R454: the conditions of MPVALID. -/
def State.mainsOk (s : State) : Bool :=
  let om := (s.reg Reg.DFC_MPRATE).toNat
  decide (sw (s.reg Reg.DFC_MPAMIN) ≤ sw (s.reg Reg.DFC_MPAMP)) && decide (s.mainsStep 45 < om) && decide ((om : Int) < s.mainsStep 65)

/-- R453, R454: the tracker at a valid output `y` whose instant lies `age` ns back. -/
def State.mainsUpdate (s : State) (y : Int) (age : Nat) : State :=
  let phi := s.reg Reg.DFC_MPPH
  let cs := sw (sincosOp phi).2
  let amp0 := sw (s.reg Reg.DFC_MPAMP)
  let amp := amp0 + rdiv (y.natAbs - amp0) 8
  let den := max amp (sw (s.reg Reg.DFC_MPAMIN))
  let x := rdiv (y * cs) 30
  let (pdn, s) :=
    if den ≤ 0 then (sw s.freeValue.1, s.freeValue.2) else (satTo 32 (mrcpRaw x 16 den 16 16), s)
  let kp : Int := s.regF Reg.DFC_MPK 31 16
  let ki : Int := s.regF Reg.DFC_MPK 15 0
  let om := clampI (s.mainsStep 45) (s.mainsStep 65) (((s.reg Reg.DFC_MPRATE).toNat : Int) + rdiv (ki * pdn) 16)
  let phi' := phi + wdi (om + rdiv (kp * pdn) 16)
  let s := ((s.setReg Reg.DFC_MPPH phi').setReg Reg.DFC_MPRATE (wdi om)).setReg Reg.DFC_MPAMP (wdi amp)
  let ok := s.mainsOk
  let s : State := { s with dfc := { s.dfc with okEl := if ok then some (s.dfc.okEl.getD s.tb.el) else none } }
  let s := if ok then s else s.mainsInvalid
  let c := s.regF Reg.DFC_MPCFG 3 0
  let rate := rquo (om * (s.chainHz c : Int)) (s.regF (Reg.DFC_CFG c) 12 0 * 1000000)
  { s with mains := { s.mains with phase := phi', rate := wdi rate, stamp := s.tb.el - age } }

/-- R444, R446: the last bit of an output was sampled DELAY modulator clocks before it entered the integrators: `age` ns are
enough for them (at the fastest clock, 20 MHz, for an own CLK input). -/
def State.chainDelayed (s : State) (c age : Nat) : Bool :=
  let hz := if s.regB (Reg.DFC_CFG c) 29 then 20000000 else s.chainHz c
  decide (s.regF (Reg.DFC_DL c) 11 0 * 1000000000 ≤ age * hz)

/-- CHAIN_OUTPUT (R445, R446): DEC bits have entered the integrators of chain `c`; the output instant lies `age` ns
back. -/
def execChainOutput (c : Fin 16) (bits : List Bool) (age : Nat) (s : State) : Host.Outcome State Fault Refusal :=
  .next (
    let k := c.val
    let cfg := s.reg (Reg.DFC_CFG k)
    if bit cfg 31 && !(s.domainOut 13) && (s.chain k).faults.isEmpty && !(s.regB (Reg.DFC_STAT k) 29) && bits.length == fld cfg 12 0 && !bits.isEmpty
        && s.chainDelayed k age then
      let s := s.firTake k
      let (x, out, sat) := (s.chain k).compute cfg (s.reg (Reg.DFC_DL k)) bits
      let s := s.updChain k (fun _ => x)
      let s := if sat then s.setBitR (Reg.DFC_STK k) 0 else s
      if 0 < x.settle then
        (s.bumpF (Reg.DFC_CNT k) 31 16).updChain k (fun x => { x with settle := x.settle - 1 })
      else
        let s := (s.setBitR (Reg.DFC_STAT k) 31).clrBitR (Reg.DFC_STAT k) 30
        let s := (s.bumpF (Reg.DFC_CNT k) 15 0).setReg (Reg.DFC_OUT k) out
        let s := s.produce 1 k [out, wd (s.tb.t - age)]
        if s.regB Reg.DFC_MPCFG 31 && s.regF Reg.DFC_MPCFG 3 0 == k then s.mainsUpdate (sw out) age else s
    else s)

/-- MAINS_PHASE_VALID (R454): the conditions have held for 1 s. -/
def execMainsPhaseValid (s : State) : Host.Outcome State Fault Refusal :=
  .next (
    match s.dfc.okEl with
    | some e =>
      if s.regB Reg.DFC_MPCFG 31 && decide (1000000000 ≤ s.tb.el - e) then
        { (s.setBitR Reg.DFC_MPSTAT 31) with mains := { s.mains with valid := true } }
      else s
    | none => s)

/-- R448: a fault of a chain begins. -/
def State.chainFault (s : State) (c cause : Nat) : State :=
  let x := s.chain c
  if x.faults.contains cause then s
  else
    let s := if x.faults.isEmpty then (s.setBitR (Reg.DFC_STK c) (1 + cause)).record .dfcFault c [c, cause] else s
    (s.updChain c (fun x => { x with faults := x.faults ++ [cause] })).chainInvalid c

/-- CHAIN_STUCK (R448): 1024 clocks at one level. -/
def execChainStuck (c : Fin 16) (s : State) : Host.Outcome State Fault Refusal :=
  .next (if s.regB (Reg.DFC_CFG c.val) 31 then s.chainFault c.val 0 else s)

/-- CHAIN_CLKLOSS (R448): no clock edge for 1 µs; with CKSRC = 0 this is the loss of SDM. -/
def execChainClkloss (c : Fin 16) (s : State) : Host.Outcome State Fault Refusal :=
  .next (
    if s.regB (Reg.DFC_CFG c.val) 31 && (s.regB (Reg.DFC_CFG c.val) 29 || s.dfc.stopped) then s.chainFault c.val 1 else s)

/-- CHAIN_FAULT_END (R448): the cause has ended; the chain starts when no fault is left. -/
def execChainFaultEnd (c : Fin 16) (cause : Fin 2) (s : State) : Host.Outcome State Fault Refusal :=
  .next (
    let lost := cause.val == 1 && !(s.regB (Reg.DFC_CFG c.val) 29) && s.dfc.stopped
    if (s.chain c.val).faults.contains cause.val && !lost then
      let s := s.updChain c.val (fun x => { x with faults := x.faults.filter (fun q => q != cause.val) })
      if (s.chain c.val).faults.isEmpty then s.chainStart c.val else s
    else s)

/-- R48: SDM is lost: every chain on its clock is in fault. -/
def State.dfcStop (s : State) : State :=
  let s : State := { s with dfc := { s.dfc with stopped := true } }
  (List.range 16).foldl (fun s c =>
    if s.regB (Reg.DFC_CFG c) 31 && !(s.regB (Reg.DFC_CFG c) 29) then s.chainFault c 1
    else if s.regB (Reg.DFC_CFG c) 31 then s.chainInvalid c else s) s

/-- R447: SDM is back: the enabled chains start. -/
def State.dfcReturn (s : State) : State :=
  let s : State := { s with dfc := { s.dfc with stopped := false } }
  (List.range 16).foldl (fun s c =>
    if s.regB (Reg.DFC_CFG c) 31 then
      let s := s.updChain c (fun x => { x with faults := if s.regB (Reg.DFC_CFG c) 29 then x.faults else x.faults.filter (fun q => q != 1) })
      if (s.chain c).faults.isEmpty then s.chainStart c else s
    else s) s

end Sys2Proof.Machine
end

