-- ==== Sys2Proof/Machine/Views.lean ====
section
/-! DEFINITION. Machine/Views.lean: what a port register reads where it is not stored as a word of its own, and
what other blocks read of the Ethernet and field blocks. -/
namespace Sys2Proof.Machine

/-- The tickets t0 to t0 + 31 in use, as a mask. -/
def State.ticketMask (s : State) (t0 : Nat) : Nat :=
  (s.sol.tickets.filter (fun q => decide (t0 ≤ q.1) && decide (q.1 < t0 + 32))).foldl (fun m q => m + 2 ^ (q.1 - t0)) 0

/-- R285: the dead-reckoning time, ms. -/
def State.fusDrt (s : State) : Nat := if s.regB Reg.FUS_CTL 31 then (s.tb.el - s.fus.posEl) / 1000000 else 0

/-- The length in words of the state image (R292), in the order of the rule, with NERR and the frame index last. -/
def State.fusImageLen (s : State) : Nat :=
  let n := s.regF Reg.FUS_CTL 28 24
  n + 4 + n * n + 3 + 13 * 2 + 10 * 32 * 3 + 7 + 2

/-- R285: no position (heading) accepted within VWIN. -/
def State.fusDr (s : State) : Bool := decide (s.regF Reg.FUS_VWIN 15 0 ≤ (s.tb.el - s.fus.posEl) / 1000000) || !s.fus.posOnce
def State.fusHdgDr (s : State) : Bool := decide (s.regF Reg.FUS_VWIN 15 0 ≤ (s.tb.el - s.fus.hdgEl) / 1000000) || !s.fus.hdgOnce

/-- FUS_STAT. -/
def State.fusStat (s : State) : Word :=
  if s.regB Reg.FUS_CTL 31 then
    wd (b2n (s.fus.prop || s.fus.upd.isSome) * 2 ^ 31 + b2n s.fusDr * 2 ^ 30 + b2n s.fus.posunc * 2 ^ 29
      + b2n s.fus.refconf * 2 ^ 28 + b2n s.fusHdgDr * 2 ^ 27 + b2n s.fus.wvalid * 2 ^ 26 + b2n s.fus.imuf * 2 ^ 25
      + b2n (s.regB Reg.FUS_LOAD 31) * 2 ^ 24 + min s.fus.queue.length 64 * 65536 + s.fusImageLen)
  else 0

/-- The registers whose reading is formed from the state of their block. -/
def State.view (s : State) (a : Nat) : Option Word :=
  if 0x0840 ≤ a ∧ a < 0x0880 then
    let b := a - 0x0840
    some (wd (s.owner b + 256 * b2n (s.bankAsleep b)))
  else if 0x0C11 ≤ a ∧ a < 0x0C18 then
    let n := a - 0x0C10
    let valid := s.regF a 6 4 == 4 || (s.axis n).valid
    some (setBit (s.reg a) 7 valid)
  else if 0x0C18 ≤ a ∧ a < 0x0C20 then some (s.axisPos (a - 0x0C18))
  else if 0x0C80 ≤ a ∧ a < 0x0CE0 then
    let g := (a - 0x0C80) / 6
    match (a - 0x0C80) % 6 with
    | 4 => some (wd (s.group g).seq)
    | 5 => some (wd ((s.group g).overruns % 65536 * 65536 + (s.group g).forced % 256 * 256 + b2n (s.group g).stalled))
    | _ => none
  else if a = Reg.SOL_TUSE0 then some (wd (s.ticketMask 0))
  else if a = Reg.SOL_TUSE1 then some (wd (s.ticketMask 32))
  else if a = Reg.FUS_STAT then some s.fusStat
  else if a = Reg.FUS_DRT then some (wd s.fusDrt)
  else if a = Reg.FUS_FRAME then some (wd s.fus.frame)
  else if a = Reg.TMB_NS then some s.tmbNs
  else if a = Reg.TMB_UNC then some (wd s.unc)
  else none

/-- What a register reads, for any reader. -/
def State.reads (s : State) (a : Nat) : Word := (s.view a).getD (s.reg a)

/-- R244, R278: word `k` of the last payload delivered in a receive stream slot, and the elapsed time of the delivery;
none before a first delivery or where the payload ends before the word. -/
def State.telegramWord (s : State) (slot k : Nat) : Option (Word × Nat) :=
  let x := mgetD s.eth.slots slot {}
  match x.delEl with
  | none => none
  | some el =>
    if 4 * k + 4 ≤ x.payload.length then some (wd (ofBytesLE ((x.payload.drop (4 * k)).take 4)), el) else none

/-- R423, R438: a command of a current loop is published: it reaches the field stage later. -/
def State.publishLoop (s : State) (c : Nat) (v : Word) : State :=
  let s := s.setReg (Reg.CLO_CMD c) v
  let clamped := (loopUnits v).2
  let s := s.putBitR Reg.CLO_CSTAT (16 + c) clamped
  let s := if clamped then s.setBitR Reg.CLO_STK (16 + c) else s
  { s with field := { s.field with pubs := s.field.pubs ++ [{ el := s.tb.el, loop := some c, val := v }] } }

/-- R423: the word of DIO_OUT is published. -/
def State.publishOut (s : State) (v : Word) : State :=
  { s with field := { s.field with pubs := s.field.pubs ++ [{ el := s.tb.el, loop := none, val := v }] } }

end Sys2Proof.Machine
end

