-- ==== Sys2Proof/Machine/Safety.lean ====
section
/-! DEFINITION. Machine/Safety.lean: the safety block: input pairs, safety outputs and their test windows, safety
functions, telegram watchdogs, safety faults (spec/14_safety_functions.md R386 to R410; the SAF instructions of
spec/04_instruction_reference.md R132 to R134). -/
namespace Sys2Proof.Machine

/-- The safety block changed by `f`. -/
def State.updSaf (s : State) (f : Saf → Saf) : State := { s with saf := f s.saf }

/-! ### Safety outputs -/

/-- R397: the safety state of an output becomes OFF; a pending switch-on ends with it. -/
def State.safOutOff (s : State) (k : Nat) : State :=
  (s.clrBitR Reg.SAF_STAT k).updSaf (fun x => { x with waiton := x.waiton.filter (fun q => q != k) })

/-- R396: safety output `k` is on. -/
def State.safOutOn (s : State) (k : Nat) : Bool :=
  s.safCommand k && (mget s.saf.window k).isNone && s.driven

/-- R389: a safety fault: every safety output off, SFAULT latched, the unit unhealthy. -/
def State.safetyFault (s : State) (cause : Nat) : State :=
  let s := (List.range 16).foldl (fun s k => if s.isSafOut k then s.safOutOff k else s) s
  ((s.setBitR Reg.SAF_STAT 31).record .safFault 0 [cause]).addHealth .safety

/-- R404: function `f` enters its safe state: every safety output it names off, SAFE, SAFEST, the record. Causes:
0 DEGRADED_TIME, 1 CLAUSE_WATCHDOG, 2 TELEGRAM_TIMEOUT, 3 an output fault (R401). -/
def State.enterSafe (s : State) (f cause : Nat) : State :=
  if s.funSafe f then s
  else
    let s := (List.range 16).foldl (fun s k => if s.regB (Reg.SAF_FB f) (16 + k) && s.isSafOut k then s.safOutOff k else s) s
    ((s.setBitR Reg.SAF_FSTAT (16 + f)).setBitR Reg.SAF_STK 7).record .safSafestate f [f, cause]

/-! ### Degraded elements (R403) -/

/-- The other output of the output pair of `k`, where `k` belongs to one. -/
def State.partner (s : State) (k : Nat) : Option Nat :=
  if k < 8 then (if s.regB (Reg.SAF_OCFG k) 30 then some (k + 8) else none)
  else (if s.regB (Reg.SAF_OCFG (k - 8)) 30 then some (k - 8) else none)

/-- R394: contact 1 of a pair is input k, contact 2 input 16 + k. -/
def State.contactBad (s : State) (n : Nat) : Bool := s.regB Reg.SAF_PFLT n

/-- The degraded elements of function `f`: 0 + k a pair, 16 + k an output, 32 + s a slot. -/
def State.degradedOf (s : State) (f : Nat) : List Nat :=
  let pairs := (List.range 16).filter (fun k =>
    s.regB (Reg.SAF_FB f) k && xor (s.contactBad k) (s.contactBad (16 + k)))
  let outs := (List.range 16).filter (fun k =>
    s.regB (Reg.SAF_FB f) (16 + k) && s.regB Reg.SAF_OFLT k && (match s.partner k with
      | some q => !(s.regB Reg.SAF_OFLT q)
      | none => false))
  let lo := (List.range 32).filter (fun q => s.regB (Reg.SAF_FC f) q && s.regB Reg.SAF_TDEG0 q)
  let hi := (List.range 32).filter (fun q => s.regB (Reg.SAF_FD f) q && s.regB Reg.SAF_TDEG1 q)
  pairs ++ outs.map (fun k => 16 + k) ++ lo.map (fun q => 32 + q) ++ hi.map (fun q => 64 + q)

/-- R403: the functions' degraded conditions formed again after an element changed. -/
def State.redegrade (s : State) : State :=
  (List.range 16).foldl (fun s f =>
    let els := if s.funOn f then s.degradedOf f else []
    match els with
    | [] => (s.clrBitR Reg.SAF_FSTAT f).updSaf (fun x => { x with degEl := mdel x.degEl f })
    | el :: _ =>
      if s.regB Reg.SAF_FSTAT f then s
      else (((s.setBitR Reg.SAF_FSTAT f).setBitR Reg.SAF_STK 4).updSaf
        (fun x => { x with degEl := mput x.degEl f s.tb.el })).record .safDegraded f [f, el]) s

/-- R400, R401: a failed check of output `k`: it is counted and recorded, and marks an output fault, which takes its
effect once: where its partner has a fault too, both are faulty outputs without a sound partner. Checks: 0 window, 1 on,
2 off. -/
def State.outputFault (s : State) (k check : Nat) : State :=
  let was := s.regB Reg.SAF_OFLT k
  let s := (((s.setBitR Reg.SAF_OFLT k).bump Reg.SAF_NTPFAIL).setBitR Reg.SAF_STK 3).record .safTpFail k [k, check]
  let s := s.safOutOff k
  if was then s
  else
    let faulty := match s.partner k with
      | some q => if s.regB Reg.SAF_OFLT q then [k, q] else []
      | none => [k]
    ((s.funsWith (fun f => faulty.any (fun q => s.regB (Reg.SAF_FB f) (16 + q)))).foldl (fun s f => s.enterSafe f 3) s).redegrade

/-- R436: a holder without the link of G2 handles every enabled safety output as having failed a read-back check. -/
def State.linkFault (s : State) : State :=
  if s.hold && !(s.regB (Reg.DIO_LINK 2) 31) then
    (List.range 16).foldl (fun s k => if s.isSafOut k && !(s.regB Reg.SAF_OFLT k) then s.outputFault k 1 else s) s
  else s

/-! ### Input pairs -/

/-- R390: the levels at which contact 1 and contact 2 of a pair read the safe state; the permissive levels are their
opposites. -/
def State.safeLevels (s : State) (k : Nat) : Bool × Bool := (false, s.regB (Reg.SAF_PCFG k) 30)

/-- R390, R392, R394: a pair formed again from its contacts. -/
def State.evalPair (s : State) (k : Nat) : State :=
  if !(s.regB (Reg.SAF_PCFG k) 31) then
    if s.regB Reg.SAF_PSTAT k then (s.clrBitR Reg.SAF_PSTAT k).blockEvent 7 k else s
  else
    let (s1, s2) := s.safeLevels k
    let c1 := bit s.saf.lev k
    let c2 := bit s.saf.lev (16 + k)
    let f1 := s.contactBad k
    let f2 := s.contactBad (16 + k)
    -- R394: a faulty contact stands at its level in the safe state
    let safeBoth := (f1 || c1 == s1) && (f2 || c2 == s2)
    let mixed := c1 == s1 && c2 != s2 || c1 != s1 && c2 == s2
    let agree := !mixed
    let s := s.updSaf (fun x => { x with agreeEl :=
      if agree then (if (mget x.agreeEl k).isSome then x.agreeEl else mput x.agreeEl k s.tb.el) else mdel x.agreeEl k })
    -- R392: the discrepancy timer; suspended while a contact is faulty (R394)
    let run := mixed && !f1 && !f2 && !(s.regB Reg.SAF_PSTAT (16 + k))
    let s := s.updSaf (fun x => { x with mixEl :=
      if run then (if (mget x.mixEl k).isSome then x.mixEl else mput x.mixEl k s.tb.el) else mdel x.mixEl k })
    -- R393: a latched DISC becomes clearable, and clears at once with AR = 1
    let s := if s.regB Reg.SAF_PSTAT (16 + k) && safeBoth then
        if s.regB (Reg.SAF_PCFG k) 29 then s.clrBitR Reg.SAF_PSTAT (16 + k)
        else if s.saf.clearable.contains k then s else s.updSaf (fun x => { x with clearable := x.clearable ++ [k] })
      else s
    let perm := !(s.regB Reg.SAF_PSTAT (16 + k)) && !(f1 && f2) && (f1 || c1 != s1) && (f2 || c2 != s2)
    if perm = s.regB Reg.SAF_PSTAT k then s else (s.putBitR Reg.SAF_PSTAT k perm).blockEvent 7 k

/-- CONTACT_CHANGE (R391): contact input `n` has read `level` at its raw input for the filter time of its pair. -/
def execContactChange (n : Fin 32) (level : Bool) (s : State) : Host.Outcome State Fault Refusal :=
  .next (
    let k := n.val % 16
    let held := decide (s.regF (Reg.SAF_PCFG k) 23 16 * 100000 ≤ s.tb.el - mgetD s.field.rawEl n.val 0)
    if s.regB (Reg.SAF_PCFG k) 31 && bit s.field.raw n.val == level && held && bit s.saf.lev n.val != level then
      (s.updSaf (fun x => { x with lev := setBit x.lev n.val level })).evalPair k
    else s)

/-- DISCREPANCY_TIMEOUT (R392). -/
def execDiscrepancyTimeout (k : Fin 16) (s : State) : Host.Outcome State Fault Refusal :=
  .next (
    match mget s.saf.mixEl k.val with
    | none => s
    | some e =>
      if s.regF (Reg.SAF_PCFG k.val) 8 0 * 1000000 ≤ s.tb.el - e then
        let s := s.updSaf (fun x => { x with mixEl := mdel x.mixEl k.val, clearable := x.clearable.filter (fun q => q != k.val) })
        let s := ((s.setBitR Reg.SAF_PSTAT (16 + k.val)).setBitR Reg.SAF_STK 2).bump Reg.SAF_NDISC
        (s.record .safDisc k.val [k.val, b2n (bit s.saf.lev k.val), b2n (bit s.saf.lev (16 + k.val))]).blockEvent 7 k.val
      else s)

/-- R394: contact `n` has a fault: it becomes faulty, or its soundness begins afresh. -/
def State.contactFault (s : State) (n : Nat) : State :=
  let s := s.updSaf (fun x => { x with soundEl := mdel x.soundEl n })
  if s.regB (Reg.SAF_PCFG (n % 16)) 31 && !(s.contactBad n) then ((s.setBitR Reg.SAF_PFLT n).evalPair (n % 16)).redegrade else s

/-- R394: the input of contact `n` reports no wire break, short circuit or stage fault, and its link is up. -/
def State.contactClean (s : State) (n : Nat) : Bool := mgetD s.field.diag n 0 == 0 && s.regB (Reg.DIO_LINK (n / 16)) 31

/-- The contact reads a sound input from now on (R394). -/
def State.contactSound (s : State) (n : Nat) : State :=
  if s.contactBad n && s.contactClean n && (mget s.saf.soundEl n).isNone then s.updSaf (fun x => { x with soundEl := mput x.soundEl n s.tb.el })
  else s

/-- CONTACT_FAULT (R394): the input of contact `n` is invalid. -/
def execContactFault (n : Fin 32) (s : State) : Host.Outcome State Fault Refusal :=
  .next (
    if s.contactClean n.val then s else s.contactFault n.val)

/-- CONTACT_FAULT_CLEAR (R394): the contact sound for 100 ms and both contacts in agreement for 100 ms. -/
def execContactFaultClear (n : Fin 32) (s : State) : Host.Outcome State Fault Refusal :=
  .next (
    let long := fun (o : Option Nat) => match o with
      | some e => decide (100000000 ≤ s.tb.el - e)
      | none => false
    if s.contactBad n.val && s.contactClean n.val && long (mget s.saf.soundEl n.val) && long (mget s.saf.agreeEl (n.val % 16)) then
      ((s.clrBitR Reg.SAF_PFLT n.val).evalPair (n.val % 16)).redegrade
    else s)

/-- R393: SAF.RST published for the pairs of a mask. -/
def State.publishSafRst (s : State) (mask : Word) : State :=
  (List.range 16).foldl (fun s k =>
    if !(bit mask k) then s
    else if s.regB Reg.SAF_PSTAT (16 + k) && s.saf.clearable.contains k then
      ((s.clrBitR Reg.SAF_PSTAT (16 + k)).updSaf (fun x => { x with clearable := x.clearable.filter (fun q => q != k) })).evalPair k
    else if s.regB Reg.SAF_PSTAT (16 + k) then (s.bump Reg.SAF_NRSTREF).setBitR Reg.SAF_STK 1
    else s) s

/-! ### Switch-on demands and test windows -/

/-- R134, R389, R399: a switch-on demand published for the outputs of a mask; `off` are the outputs for which a
switch-off retired since the group's previous full stop. -/
def State.publishSafOn (s : State) (mask : Word) (off : Nat) : State :=
  (List.range 16).foldl (fun s k =>
    if !(bit mask k && s.isSafOut k) then s
    else if off.testBit k || s.regB Reg.SAF_STAT 31 || (s.funsOfOut k).any (fun f => s.funSafe f) then
      (s.bump Reg.SAF_NONDROP).setBitR Reg.SAF_STK 0
    else if (mget s.saf.window k).isSome then
      let fresh := !(s.regB Reg.SAF_STAT k)
      let s := s.bump Reg.SAF_NONWAIT
      if fresh then (s.setBitR Reg.SAF_STAT k).updSaf (fun x => { x with waiton := x.waiton ++ [k] }) else s
    else s.setBitR Reg.SAF_STAT k) s

/-- R398: the instants of the windows of output `k` passed at time `t`: multiples of TPI ms, those of the second output
of a pair offset by TPI / 2 ms. -/
def State.windowIndex (s : State) (k t : Nat) : Nat :=
  let per := s.regF (Reg.SAF_OCFG k) 15 0 * 1000000
  let off := if 8 ≤ k && (s.partner k).isSome then per / 2 else 0
  if per = 0 then 0 else (t + per - off) / per

/-- TEST_WINDOW_OPEN (R398). -/
def execTestWindowOpen (k : Fin 16) (s : State) : Host.Outcome State Fault Refusal :=
  .next (
    if s.isSafOut k.val && (mget s.saf.window k.val).isNone
        && decide (s.windowIndex k.val (mgetD s.saf.winT k.val 0) < s.windowIndex k.val s.tb.t) then
      s.updSaf (fun x => { x with window := mput x.window k.val s.tb.el, winT := mput x.winT k.val s.tb.t })
    else s)

/-- TEST_WINDOW_END (R398 to R400): TPW µs after the opening; `readOff` says that the read-back read off in the last
50 µs. -/
def execTestWindowEnd (k : Fin 16) (readOff : Bool) (s : State) : Host.Outcome State Fault Refusal :=
  .next (
    match mget s.saf.window k.val with
    | none => s
    | some e =>
      if s.regF (Reg.SAF_OCFG k.val) 24 16 * 1000 ≤ s.tb.el - e then
        let s := s.updSaf (fun x => { x with window := mdel x.window k.val, waiton := x.waiton.filter (fun q => q != k.val) })
        if s.hold && !readOff then s.outputFault k.val 0 else s
      else s)

/-- READBACK_FAIL (R400): the read-back has disagreed for 1 ms with output `k`, which is on (`on`) or off outside
windows. -/
def execReadbackFail (k : Fin 16) (on : Bool) (s : State) : Host.Outcome State Fault Refusal :=
  .next (
    if s.hold && s.isSafOut k.val && (mget s.saf.window k.val).isNone && s.safOutOn k.val == on then
      s.outputFault k.val (if on then 1 else 2)
    else s)

/-! ### Functions -/

/-- DEGRADED_TIME_EXPIRY (R404): DEGT minutes of elapsed time. -/
def execDegradedTimeExpiry (f : Fin 16) (s : State) : Host.Outcome State Fault Refusal :=
  .next (
    match mget s.saf.degEl f.val with
    | none => s
    | some e =>
      if s.funOn f.val && !(s.funSafe f.val) && decide (s.regF (Reg.SAF_FE f.val) 12 0 * 60000000000 ≤ s.tb.el - e) then
        (s.bump Reg.SAF_NDEGEXP).enterSafe f.val 0
      else s)

/-- CLAUSE_WATCHDOG (R406): CWDT ms of elapsed time without an ENDED end of CL. -/
def execClauseWatchdog (f : Fin 16) (s : State) : Host.Outcome State Fault Refusal :=
  .next (
    if s.funOn f.val && decide (s.regF (Reg.SAF_FA f.val) 27 16 * 1000000 ≤ s.tb.el - mgetD s.saf.wdEl f.val 0) then
      s.enterSafe f.val 1
    else s)

/-- The enabled functions that name slot `k`. -/
def State.funsOfSlot (s : State) (k : Nat) : List Nat :=
  s.funsWith (fun f => if k < 32 then s.regB (Reg.SAF_FC f) k else s.regB (Reg.SAF_FD f) (k - 32))

/-- The register and bit of slot `k` in a pair of mask registers. -/
def slotBit (lo hi k : Nat) : Nat × Nat := if k < 32 then (lo, k) else (hi, k - 32)

/-- TELEGRAM_WATCHDOG (R409): WDT × 0.1 ms since the last valid delivery. -/
def execTelegramWatchdog (slot : Fin 64) (s : State) : Host.Outcome State Fault Refusal :=
  .next (
    let k := slot.val
    if s.regB (Reg.SAF_TWD k) 31 && !(s.saf.expired.contains k)
        && decide (s.regF (Reg.SAF_TWD k) 15 0 * 100000 ≤ s.tb.el - mgetD s.saf.slotEl k 0) then
      let q := slotBit Reg.SAF_TVAL0 Reg.SAF_TVAL1 k
      let s := (s.clrBitR q.1 q.2).updSaf (fun x => { x with expired := x.expired ++ [k] })
      let s := ((s.bump Reg.SAF_NTELTMO).setBitR Reg.SAF_STK 6).record .safTelTimeout k [k]
      (s.funsOfSlot k).foldl (fun s f => s.enterSafe f 2) s
    else s)

/-- R407 to R409: a valid delivery on a safety slot; `single` when one LAN brought it. -/
def State.safDelivered (s : State) (k : Nat) (single : Bool) : State :=
  let d := slotBit Reg.SAF_TDEG0 Reg.SAF_TDEG1 k
  let run := if single then 0 else mgetD s.saf.slotRun k 0 + 1
  let s := s.updSaf (fun x => { x with slotRun := mput x.slotRun k run })
  let s := if single then (s.bump Reg.SAF_NTELSGL).setBitR d.1 d.2 else if 16 ≤ run then s.clrBitR d.1 d.2 else s
  let q := slotBit Reg.SAF_TVAL0 Reg.SAF_TVAL1 k
  let s := if s.regB (Reg.SAF_TWD k) 31 then
      (s.setBitR q.1 q.2).updSaf (fun x => { x with slotEl := mput x.slotEl k s.tb.el, expired := x.expired.filter (fun e => e != k) })
    else s
  s.redegrade

/-- R407: the two copies of a sequence differed. -/
def State.safTelDiff (s : State) (k : Nat) : State :=
  ((s.bump Reg.SAF_NTELDIFF).setBitR Reg.SAF_STK 5).updSaf (fun x => { x with slotRun := mput x.slotRun k 0 })

/-- R405: the latched faults of the outputs of function `f` whose read-back is off, as a faulty output is commanded. No
read-back passes while the link of G2 is down (R436). -/
def State.soundFaults (s : State) (f : Nat) : List Nat :=
  (List.range 16).filter (fun k =>
    s.regB (Reg.SAF_FB f) (16 + k) && s.regB Reg.SAF_OFLT k && !(s.regB Reg.DIO_OSTAT (16 + k)) && s.regB (Reg.DIO_LINK 2) 31)

/-- R405, R401: function `f` is acknowledged, or the acknowledgement is refused. An output pair that is degraded by a
fault whose read-back now passes does not count, since the acknowledgement is what clears that fault. -/
def State.ackFun (s : State) (f : Nat) : State :=
  let sound := s.soundFaults f
  let degraded := (s.degradedOf f).any (fun el => !(decide (16 ≤ el) && decide (el < 32) && sound.contains (el - 16)))
  let failing := (List.range 16).any (fun k =>
    s.regB (Reg.SAF_FB f) (16 + k) && s.regB Reg.SAF_OFLT k && !(sound.contains k))
  let stale := s.saf.expired.any (fun q => (s.funsOfSlot q).contains f)
  if degraded || failing || stale then (s.bump Reg.SAF_NRSTREF).setBitR Reg.SAF_STK 1
  else
    let s := (s.clrBitR Reg.SAF_FSTAT (16 + f)).record .safAck f [f]
    let s := sound.foldl (fun s k => (s.clrBitR Reg.SAF_OFLT k).safOutOff k) s
    (s.updSaf (fun x => { x with wdEl := mput x.wdEl f s.tb.el })).redegrade

/-- R386: the party is a clause on a lockstep pair. -/
def State.lockClause (s : State) : Party → Bool
  | .eng e => (match (s.eng e.val).run with
    | some r => r.lock
    | none => false)
  | .svc _ => false

/-- A safety clause: it has LOCK = 1 and has issued SAF instructions, or it is the clause of an enabled safety function
(spec/14_safety_functions.md, "Safety clauses and the SAF block"). -/
def State.safetyClause (s : State) (c : Nat) : Bool :=
  s.saf.clauses.contains c
    || (s.clauseLock c && (List.range 16).any (fun f => s.regB (Reg.SAF_FA f) 31 && s.regF (Reg.SAF_FA f) 15 8 == c))

/-- R405: the party is a safety clause on a lockstep pair. -/
def State.safetyParty (s : State) : Party → Bool
  | .eng e => (match (s.eng e.val).run with
    | some r => r.lock && s.safetyClause r.clause
    | none => false)
  | .svc _ => false

/-- R386, R405: a write of SAF_FACK: a safety clause acknowledges; another clause of a lockstep pair changes nothing. -/
def State.safFackWrite (s : State) (p : Party) (v : Word) : State :=
  if s.safetyParty p then
    (List.range 16).foldl (fun s f => if bit v f && s.funOn f then s.ackFun f else s) s
  else if s.lockClause p then s
  else s.partyEsf p .portUndec

/-- SAF_FACK (R405): A write acknowledges functions in their safe state, or is refused. -/
def execSafFack (p : Party) (v : Word) (s : State) : Host.Outcome State Fault Refusal :=
  .next (s.byParty p (fun s => s.safFackWrite p v))

/-- SAFETY_FAULT (R389): the safety supply, in mV, outside 0.80 to 0.90 V for 10 µs. -/
def execSafetyFault (mv : Nat) (s : State) : Host.Outcome State Fault Refusal :=
  .next (if mv < 800 ∨ 900 < mv then s.safetyFault 2 else s)

/-- SAFETY_SELFTEST (R389). -/
def execSafetySelftest (pass : Bool) (s : State) : Host.Outcome State Fault Refusal :=
  .next (if pass then s else s.safetyFault 1)

/-! ### The SAF instructions (R132 to R134) -/

/-- R132: a SAF word is defined only for a clause on a lockstep pair; the clause counts as a safety clause. -/
def State.safIssue (s : State) (x : Guard) (act : State → State) : State :=
  match (s.eng x.e.val).run with
  | none => s
  | some r =>
    if r.lock then
      s.issueAt x true 2 1 (2 + s.lockExtra x.e.val) (1 + s.lockExtra x.e.val) false (fun s =>
        (act (s.updSaf (fun q => { q with clauses := if q.clauses.contains r.clause then q.clauses else q.clauses ++ [r.clause] })),
          .pass 1))
    else s.issue1 x false 1 id

/-- SAF.OFF: an immediate switch-off demand; every group remembers it until its own next full stop, since R134 drops a SAF.ON
whichever group's clause has issued the SAF.OFF of the same output. -/
def execSafOff (x : Guard) (wa : RegNo) (s : State) : Host.Outcome State Fault Refusal :=
  .next (s.safIssue x (fun s =>
    let m := s.w x.e.val wa.val
    let s := (List.range 16).foldl (fun s k => if bit m k && s.isSafOut k then s.safOutOff k else s) s
    (List.range 16).foldl (fun s g => s.updGroup g (fun q => { q with offMask := q.offMask ||| fld m 15 0 })) s))

/-- SAF.ON: a staged switch-on demand. -/
def execSafOn (x : Guard) (wa : RegNo) (s : State) : Host.Outcome State Fault Refusal :=
  .next (s.safIssue x (fun s => s.stageOut x.e.val (.safOn (s.w x.e.val wa.val))))

/-- SAF.RST: a staged clear of latched DISC. -/
def execSafRst (x : Guard) (wa : RegNo) (s : State) : Host.Outcome State Fault Refusal :=
  .next (s.safIssue x (fun s => s.stageOut x.e.val (.safRst (s.w x.e.val wa.val))))

/-- SAF.GETIN: the pair states latched at the trigger (R395). -/
def execSafGetin (x : Guard) (wd : RegNo) (s : State) : Host.Outcome State Fault Refusal :=
  .next (s.safIssue x (fun s =>
    match (s.eng x.e.val).run with
    | some r => s.setW x.e.val wd.val r.trig.getin
    | none => s))

end Sys2Proof.Machine
end

