-- ==== Sys2Proof/Machine/Authority.lean ====
section
/-! DEFINITION. Machine/Authority.lean: the authority interlock: holding and losing authority, the output enables,
pair states, dual authority (spec/13_redundant_pair.md R342, R347 to R352). -/
namespace Sys2Proof.Machine

/-- R352: the pair state. -/
def State.pairState (s : State) : Nat := s.regF Reg.BTL_STAT 31 28

/-- The groups whose epochs are sent and received. -/
def State.mirrorGroups (s : State) : List Nat := (List.range 16).filter (fun g => s.regB (Reg.BTL_MRX g) 31)

/-- What the unit knows of a group's epochs. -/
def State.epochs (s : State) (g : Nat) : EpochGroup := mgetD s.pair.groups g {}

/-- What the unit knows of a group's epochs changed. -/
def State.updEpochs (s : State) (g : Nat) (f : EpochGroup → EpochGroup) : State :=
  s.updPair (fun p => { p with groups := mput p.groups g (f (s.epochs g)) })

/-- R352, R383: the conditions of state 2. -/
def State.readyNow (s : State) : Bool :=
  s.mirrorGroups.all (fun g => (s.epochs g).good) && !(s.regB Reg.BTL_STK 10)

/-- R353: since when both units have shown state 1 or 2 with no holder. -/
def State.noteBoth (s : State) : State :=
  let mine := s.pairState == 1 || s.pairState == 2
  let ps := fld s.pair.peerWord 27 24
  let ok := mine && (ps == 1 || ps == 2) && !(bit s.pair.peerWord 29)
  s.updPair (fun p => { p with both12 := if ok then (if p.both12.isSome then p.both12 else some s.tb.el) else none })

/-- R352: the pair state formed again. Leaving state 2 restarts the conditions of R378. -/
def State.restate (s : State) : State :=
  let new := if s.pair.started.isNone then 0 else if s.hold then (if s.solo then 4 else 3) else if s.readyNow then 2 else 1
  let old := s.pairState
  if new = old then s
  else
    let s := s.setRegF Reg.BTL_STAT 31 28 new
    let s := if new = 2 then s.updPair (fun p => { p with readyEl := s.tb.el }) else s
    let s := if old = 2 then s.updPair (fun p => { p with revCount := 0, revSent := false }) else s
    s.noteBoth

/-- R349: the output enables follow HOLD and AUTH_IN; a holder without the link of G2 faults its safety outputs
(R436). -/
def State.syncEnables (s : State) : State :=
  let now := s.driven
  let s := if now == s.pair.enOn then s
    else s.updPair (fun p => { p with enOn := now, enEl := if now then s.tb.el else p.enEl })
  s.linkFault

/-- R14, R342: the unit must not hold authority: pair negotiation has failed, or its heartbeats are silent. -/
def State.barred (s : State) : Bool := s.pair.quiet || (s.pair.selConflict && !s.solo)

/-- HOLD set, unless the unit is barred from it: the request ends, the state follows, the block event of class 11 is sent (R162). -/
def State.gainHold (s : State) : State :=
  if s.hold || s.barred then s
  else
    let s := (s.setBitR Reg.BTL_STAT 25).updPair (fun p => { p with waiting := false, window := none, beacons := 0 })
    s.syncEnables.restate.blockEvent 11 0

/-- HOLD cleared; the unit is in SYNC until epochs are applied afresh (R352). -/
def State.loseHold (s : State) : State :=
  if s.hold then
    let s := (s.clrBitR Reg.BTL_STAT 25).updPair (fun p => { p with groups := p.groups.map (fun q => (q.1, { q.2 with good := false })) })
    s.syncEnables.restate.blockEvent 11 0
  else s

/-- R350: dual authority: both units set DUALAUTH; unit B clears HOLD and stops AUTH_OUT. -/
def State.dualAuthority (s : State) : State :=
  let s := (s.setBitR Reg.BTL_STK 3).record .pairDualAuth 0 []
  if s.regB Reg.SYS_STRAP 0 then s.loseHold.updPair (fun p => { p with toggling := false }) else s

/-- The unit gives up HOLD, its request and any handover under way, and AUTH_OUT stops. -/
def State.standDown (s : State) : State :=
  (s.updPair (fun p => { p with toggling := false, waiting := false, window := none, takeover := false
                                armSeq := none, armEl := none, hoSeq := none, relEl := none })).loseHold

/-- R342: the safety block stops the heartbeats, drops the enables and stops AUTH_OUT in one clock. -/
def State.silence (s : State) : State := (s.updPair (fun p => { p with quiet := true })).standDown

/-- R344: a path is alive: its last arrival lies within the last 8 µs. -/
def State.recent (s : State) (o : Option Nat) : Bool := match o with
  | some e => decide (s.tb.el - e < 8000)
  | none => false

/-- Lane `n` (0 lane 1, 1 lane 2). -/
def State.lane (s : State) (n : Nat) : PairLane := mgetD s.pair.lanes n {}

/-- A lane changed. -/
def State.updLane (s : State) (n : Nat) (f : PairLane → PairLane) : State :=
  s.updPair (fun p => { p with lanes := mput p.lanes n (f (s.lane n)) })

/-- R343, R344: the paths alive: bit 0 lane 1, bit 1 lane 2, bit 2 HB. -/
def State.pathMask (s : State) : Nat :=
  b2n (s.recent (s.lane 0).hbEl) + 2 * b2n (s.recent (s.lane 1).hbEl) + 4 * b2n (s.recent s.pair.hbEl)

/-- R351: a beacon from the peer's address: two in a row with HOLD = 1, while every path is silent, act as R350. The
LAN copies of one beacon count once. -/
def State.pairBeacon (s : State) (src : Nat) (hold : Bool) (seq : Nat) : State :=
  if !s.hold || s.solo || !s.pair.failed || s.pathMask != 0 then s.updPair (fun p => { p with beacons := 0, beaconSeq := none })
  else if src != s.regF Reg.BTL_STAT 15 8 || s.pair.beaconSeq == some seq then s
  else
    let n := if hold then s.pair.beacons + 1 else 0
    let s := s.updPair (fun p => { p with beacons := n, beaconSeq := some seq })
    if 2 ≤ n then (s.updPair (fun p => { p with beacons := 0 })).dualAuthority else s

end Sys2Proof.Machine
end

