-- ==== Sys2Proof/Machine/Loop.lean ====
section
/-! DEFINITION. Machine/Loop.lean: the loop engine (spec/09_loop_engine.md R238 to R266; LPE.SWAP,
spec/04_instruction_reference.md R127). -/
namespace Sys2Proof.Machine

/-- Owner code of the loop engine. -/
abbrev ownLpe : Nat := 0x12

/-- Slot `n`. -/
def State.slot (s : State) (n : Nat) : LoopSlot := mgetD s.lpe.slots n {}

/-- A slot changed. -/
def State.updSlot (s : State) (n : Nat) (f : LoopSlot → LoopSlot) : State :=
  { s with lpe := { s.lpe with slots := mput s.lpe.slots n (f (s.slot n)) } }

/-- The slots in force with EN = 1. -/
def State.loopSlots (s : State) : List Nat := (s.listed 0x2000 64 64).filter (fun n => s.regB (Reg.LPE_CFG n) 31)

/-- The lane that evaluates a slot now (R260). -/
def State.laneOf (s : State) (n : Nat) : Nat := (s.slot n).lane.getD (s.regF (Reg.LPE_CFG n) 28 27)

/-- LPE_STATn brought up to date. -/
def State.slotStat (s : State) (n : Nat) : State :=
  let x := s.slot n
  let mode := if s.regB (Reg.LPE_CFG n) 31 then x.mode else 3
  s.setReg (Reg.LPE_STAT n) (wd (x.page * 2 ^ 31 + b2n (x.swap != .none) * 2 ^ 30 + mode * 2 ^ 28 + s.laneOf n * 2 ^ 26))

/-- Word `w` of page `p` of slot `n`. -/
def State.page (s : State) (n p w : Nat) : Word := s.reg (Reg.LPE_PAGE n p w)

/-! ### Sources (R244) -/

/-- R244: LOSST of a slot, ns; 0 means the source's own flag only. -/
def State.lossT (s : State) (n : Nat) : Nat := s.regF (Reg.LPE_LOS n) 31 16 * 10000

/-- No delivery for LOSST since elapsed time `el`. -/
def State.stale (s : State) (n el : Nat) : Bool := decide (0 < s.lossT n) && decide (s.lossT n ≤ s.tb.el - el)

/-- R244: the value of a source and whether it is valid. -/
def State.loopSource (s : State) (n code : Nat) (par : Word) : Word × Bool :=
  match code with
  | 1 => ((s.slot n).routeVal, !(s.stale n (s.slot n).routeEl))
  | 2 => (s.reg (Reg.DFC_OUT (fld par 3 0)), s.regB (Reg.DFC_STAT (fld par 3 0)) 31)
  | 3 => (s.reg (Reg.ENC_POS (fld par 2 0)), s.regB (Reg.ENC_STAT (fld par 2 0)) 31)
  | 4 => (s.reg (Reg.ENC_VEL (fld par 2 0)), s.regB (Reg.ENC_STAT (fld par 2 0)) 31)
  | 5 => (s.reads (fld par 15 0), true)
  | 6 =>
    let b := fld par 20 15
    (s.bankWord b (fld par 14 0), s.owner b == ownLpe)
  | 7 =>
    match s.telegramWord (fld par 13 8) (fld par 7 0) with
    | some (w, el) => (w, !(s.stale n el))
    | none => (0, false)
  | 8 =>
    let j := fld par 5 0
    (s.reg (Reg.LPE_OUT j), s.regB (Reg.LPE_CFG j) 31 && (s.slot j).mode == 0)
  | 9 => (s.reg (Reg.LPE_SP n), true)
  | _ => (0, true)

/-- R241: the unit as the sources of a slot held it at the end of the LOOP clock before this one. -/
def State.heldView (s : State) : State :=
  { s with regs := s.now.was.regs, banks := { s.banks with cells := s.now.was.cells, owner := s.now.was.owner }
           eth := { s.eth with slots := s.now.was.eth }, lpe := { s.lpe with slots := s.now.was.lpe } }

/-- R170: the bank words that a slot's sources read are checked for parity. -/
def State.readSource (s : State) (code : Nat) (par : Word) : State :=
  if code = 6 ∧ s.owner (fld par 20 15) = ownLpe then s.readWords (bankAddr (fld par 20 15) (fld par 14 0)) 1 else s

/-- A latched value: the source's, or the last valid one. -/
def pickValid (v : Word × Bool) (last : Word) : Word := if v.2 then v.1 else last

/-! ### Swaps and adjustments (R250 to R252, R264) -/

/-- R251: the incoming page is valid. -/
def State.pageOk (s : State) (n p : Nat) : Bool :=
  let w := fun k => s.page n p k
  decide (sw (w 4) ≤ sw (w 5)) && decide (sw (w 20) ≤ sw (w 21)) && decide (0 < sw (w 7)) && decide (sw (w 7) ≤ (2 ^ 30 : Nat))
    && decide (0 ≤ sw (w 0)) && decide (0 ≤ sw (w 22)) && fld (w 9) 19 2 == 0 && w 23 == 0

/-- R252: the slot takes its other page; the integrator is clamped to the new limits. -/
def State.takePage (s : State) (n : Nat) : State :=
  let p := 1 - (s.slot n).page
  let lo := sw (s.page n p 4) * (2 ^ 30 : Nat)
  let hi := sw (s.page n p 5) * (2 ^ 30 : Nat)
  let i := (s.slot n).st.i
  let i' := clampI lo hi i
  let s := s.updSlot n (fun x => { x with page := p, swap := .none, st := { x.st with i := i' } })
  if i = i' then s else s.setBitR (Reg.LPE_STK n) 8

/-- R251: a refused swap. -/
def State.refuseSwap (s : State) (n : Nat) : State :=
  (((s.updSlot n (fun x => { x with swap := .none })).setBitR (Reg.LPE_STK n) 11).record .loopSwapRefused n [n]).slotStat n

/-- The members of swap group `g`. -/
def State.swapMembers (s : State) (g : Nat) : List Nat :=
  (List.range 64).filter (fun k => if k < 32 then s.regB (Reg.LPE_SGL g) k else s.regB (Reg.LPE_SGH g) (k - 32))

/-- R250: the swap groups some member of which waits for their common boundary, published before this FAB clock. -/
def State.waitingGroups (s : State) : List Nat :=
  (s.lpe.slots.filterMap (fun q => match q.2.swap with
    | .group g => if q.2.swapClk < s.clk then some g else none
    | _ => none)).eraseDups

/-- R250, R251: the common boundary of a group, at a sample of its reference slot: all members or none. -/
def State.groupBoundary (s : State) (n : Nat) : State :=
  (s.waitingGroups.filter (fun g => s.regF (Reg.LPE_SGR g) 5 0 == n)).foldl (fun s g =>
    let ms := (s.swapMembers g).filter (fun m => (s.slot m).swap == .group g)
    if ms.all (fun m => s.pageOk m (1 - (s.slot m).page)) then
      ms.foldl (fun s m => s.updSlot m (fun x => { x with swap := .go })) s
    else ms.foldl (fun s m => s.refuseSwap m) s) s

/-- R240: a compare fire now comes within 50 µs of the slot's last sample. -/
def State.tooSoon (s : State) (n : Nat) : Bool :=
  match (s.slot n).lastEl with
  | some e => decide (s.tb.el - e < 50000)
  | none => false

/-- R250: slot `r` has a sample instant, not yet taken, at or before instant `inst`. -/
def State.sampleDue (s : State) (r inst : Nat) : Bool :=
  s.regB (Reg.LPE_CFG r) 31 &&
    (if s.regB (Reg.LPE_TRG r) 31 then
      let k := s.regF (Reg.LPE_TRG r) 30 26
      let u := mgetD s.sched.cmp k {}
      s.regB (Reg.SCH_CMPC k) 31 && u.fire && u.fireClk == s.clk && !s.tooSoon r
    else
      let per := s.regF (Reg.LPE_TRG r) 19 0 * 1000
      decide (0 < per) && decide ((s.slot r).lastInst < s.tb.t / per * per) && decide (s.tb.t / per * per ≤ inst))

/-- R250: what a sample of slot `n` at instant `inst` does to its swap. A reference slot that samples at the same instant gives the
boundary of its group first: its members swap at or after it. -/
def State.swapBoundary (s : State) (n inst : Nat) : State :=
  let refs := (s.waitingGroups.map (fun g => s.regF (Reg.LPE_SGR g) 5 0)).filter (fun r => r == n || s.sampleDue r inst)
  let s := refs.eraseDups.foldl State.groupBoundary s
  match (s.slot n).swap with
  | .own =>
    if s.clk ≤ (s.slot n).swapClk then s
    else if s.pageOk n (1 - (s.slot n).page) then s.takePage n else s.refuseSwap n
  | .go => s.takePage n
  | _ => s

/-- R264: Q15.16 words are added with saturation. -/
def satAdd (a : Int) (b : Word) : Int := satTo 32 (a + sw b)

/-- R264: a biquad with its four adjustment words. -/
def Biquad.adjust (b : Biquad) (w : Nat → Word) : Biquad :=
  { x1 := satAdd b.x1 (w 0), x2 := satAdd b.x2 (w 1), y1 := satAdd b.y1 (w 2), y2 := satAdd b.y2 (w 3) }

/-- R264: the adjustment image added to the state of a slot. -/
def LoopState.adjust (x : LoopState) (ang : Bool) (w : Nat → Word) : LoopState :=
  let ii : Nat := (w 2).toNat * 2 ^ 32 + (w 3).toNat
  { spl := if ang then x.spl + w 0 else wdi (satAdd (sw x.spl) (w 0))
    fbp := if ang then x.fbp + w 1 else wdi (satAdd (sw x.fbp) (w 1))
    i := sext 64 ((x.i + (ii : Int)) % (2 ^ 64 : Nat)).toNat
    df := satAdd x.df (w 4), up := satAdd x.up (w 5), yp := satAdd x.yp (w 6)
    b1 := x.b1.adjust (fun k => w (8 + k)), b2 := x.b2.adjust (fun k => w (12 + k)) }

/-- The tag with which adjustments mark bank `b` in use (R264). -/
abbrev adjTag (b : Nat) : Nat := 0x800 + b

/-- R264: a slot waits to apply an image of bank `b`. -/
def State.adjWaits (s : State) (b : Nat) : Bool := s.lpe.slots.any (fun q => q.2.adj.any (fun a => a.2 / 32768 % 64 == b))

/-- R264: one image is applied; its bank is free once every slot selected for an image in it has applied it. -/
def State.applyImage (s : State) (n a : Nat) : State :=
  let ws := s.bankWords (a + 64 * n) 16
  let s := (s.readWords (a + 64 * n) 16).updSlot n (fun x =>
    { x with st := x.st.adjust (s.regB (Reg.LPE_CFG n) 30) (fun k => lget ws k 0) })
  let b := a / 32768 % 64
  if s.adjWaits b then s else s.unmarkTag (adjTag b)

/-- R264: the slot applies the images of the adjustments committed before this FAB clock, in order. -/
def State.applyAdjust (s : State) (n : Nat) : State :=
  let now := (s.slot n).adj.filter (fun a => decide (a.1 < s.clk))
  now.foldl (fun s a => s.applyImage n a.2) (s.updSlot n (fun x => { x with adj := x.adj.filter (fun a => !(decide (a.1 < s.clk))) }))

/-- R264: a commit of LPE_ADJC with a nonzero mask starts an adjustment. -/
def State.startAdjust (s : State) : State :=
  let a := s.reg Reg.LPE_ADJC
  let sel := (List.range 64).filter (fun k => if k < 32 then s.regB Reg.LPE_ADJL k else s.regB Reg.LPE_ADJH (k - 32))
  if sel.isEmpty then s
  else if s.owner (addrBank a) != ownLpe then s.setBitR Reg.LPE_GSTK 2
  else
    sel.foldl (fun s n => s.updSlot n (fun x => { x with adj := x.adj ++ [(s.clk, bankAddr (addrBank a) (addrOff a))] }))
      ((s.unmarkTag (adjTag (addrBank a))).markBank (addrBank a) (adjTag (addrBank a)))

/-! ### Publication -/

/-- R242, R247: slot `n` publishes a value. -/
def State.publishSlot (s : State) (n : Nat) (u : Int) : State :=
  let v := wdi u
  let s := s.setReg (Reg.LPE_OUT n) v
  let d := s.reg (Reg.LPE_DST n)
  match fld d 31 28 with
  | 1 => s.publishLoop (fld d 2 0) v
  | 2 =>
    let b := fld d 20 15
    if s.owner b = ownLpe then s.storeWords (bankAddr b (fld d 14 0)) [v] else s.setBitR (Reg.LPE_STK n) 12
  | _ => s

/-- R257: a slot escalates to SAFE and publishes its safe value directly. -/
def State.escalate (s : State) (n : Nat) : State :=
  let v := sw (s.reg (Reg.LPE_SAFE n))
  let s := s.updSlot n (fun x => { x with mode := 2, st := { x.st with up := v, yp := v } })
  ((s.publishSlot n v).record .loopSafe n [n]).slotStat n

/-- R257: escalation is checked. -/
def State.checkEscalate (s : State) (n : Nat) : State :=
  let x := s.slot n
  if s.regB (Reg.LPE_CFG n) 31 && x.mode == 1 && decide ((s.reg (Reg.LPE_GRACE n)).toNat * 1000 ≤ s.tb.el - x.reactEl) then s.escalate n
  else s

/-- R243: a pending sample of a slot is skipped. -/
def State.skipSample (s : State) (n : Nat) (m : LoopSample) : State :=
  let was := (s.slot n).skipped
  let s := ((s.updSlot n (fun x => { x with samples := x.samples.erase m, skipped := true })).setBitR (Reg.LPE_STK n) 9).bump Reg.LPE_NSKIP
  if was then s else s.record .loopSkip n [n]

/-- The pending samples of slot `n` that `p` picks are skipped, the oldest first. -/
def State.skipSamples (s : State) (n : Nat) (p : LoopSample → Bool) : State :=
  ((s.slot n).samples.filter p).foldl (fun s m => s.skipSample n m) s

/-! ### Sampling (R239 to R241) -/

/-- R248: the state a slot starts from: everything 0 but u_p at SAFE; the setpoint and feedback latched. -/
def LoopState.fresh (safe : Int) (sp fb : Word) : LoopState := { spl := sp, fbp := fb, up := safe }

/-- R241: slot `n` samples at instant `inst` of T: the boundary of a swap and an adjustment come first, escalation is checked, the
sources are latched as they were held before this LOOP clock. -/
def State.sampleSlot (s : State) (n inst : Nat) : State :=
  let s := (s.swapBoundary n inst).checkEscalate n
  let src := s.reg (Reg.LPE_SRC n)
  let h := s.heldView
  let sp := h.loopSource n (fld src 31 28) (s.reg (Reg.LPE_SPP n))
  let fb := h.loopSource n (fld src 27 24) (s.reg (Reg.LPE_FBP n))
  let ff := h.loopSource n (fld src 23 20) (s.reg (Reg.LPE_FFP n))
  let s := ((s.readSource (fld src 31 28) (s.reg (Reg.LPE_SPP n))).readSource (fld src 27 24) (s.reg (Reg.LPE_FBP n))).readSource
    (fld src 23 20) (s.reg (Reg.LPE_FFP n))
  let x := s.slot n
  let spv := pickValid sp x.sp
  let fbv := pickValid fb x.fb
  let ffv := pickValid ff x.ff
  let s := s.updSlot n (fun x =>
    let x := if x.arm then
        { x with arm := false, mode := 0, feSince := none, frz := 0, st := .fresh (sw (s.reg (Reg.LPE_SAFE n))) spv fbv }
      else x
    { x with sp := spv, fb := fbv, ff := ffv, lastEl := some s.tb.el
             samples := x.samples ++ [{ el := s.tb.el, lane := s.laneOf n, sp := spv, fb := fbv, ff := ffv
                                        lossAny := !(sp.2 && fb.2 && ff.2), fbValid := fb.2, ffValid := ff.2, page := x.page }] })
  (s.applyAdjust n).slotStat n

/-- LOOP_SAMPLE (R239, R333): T has reached a grid instant after the last one that produced a sample. -/
def execLoopSample (n : Fin 64) (s : State) : Host.Outcome State Fault Refusal :=
  .next (
    let per := s.regF (Reg.LPE_TRG n.val) 19 0 * 1000
    let inst := s.tb.t / per * per
    if s.regB (Reg.LPE_CFG n.val) 31 && !(s.regB (Reg.LPE_TRG n.val) 31) && decide (0 < per) && decide ((s.slot n.val).lastInst < inst) then
      s.inStep true 3 fun s => (s.updSlot n.val (fun x => { x with lastInst := inst })).sampleSlot n.val inst
    else s)

/-- R240: a compare fire samples the slots that name the unit; one within 50 µs of a slot's last sample is dropped. The reference
slots among them give the boundaries of their swap groups first (R250). -/
def State.compareSamples (s : State) (k : Nat) : State :=
  let on := s.loopSlots.filter (fun n => s.regB (Reg.LPE_TRG n) 31 && s.regF (Reg.LPE_TRG n) 30 26 == k)
  let late := on.filter (fun n => s.tooSoon n)
  let s := late.foldl (fun s n => (s.setBitR (Reg.LPE_STK n) 10).bump Reg.LPE_NTLOST) s
  let hit := on.filter (fun n => !(late.contains n))
  hit.foldl (fun s n => s.sampleSlot n s.tb.t) (hit.foldl State.groupBoundary s)

/-! ### The evaluation (R245, R246, R254 to R258) -/

/-- D(a, b): degrees, Q15.16. -/
def degDiff (a b : Word) : Int := rdiv (turnDiff a b * 360) 16

/-- R245, step 9: one biquad; the flag says that its output saturated. -/
def Biquad.run (q : Biquad) (en : Bool) (c : Nat → Word) (x : Int) : Biquad × Int × Bool :=
  if en then
    let raw := rdiv (sw (c 0) * x + sw (c 1) * q.x1 + sw (c 2) * q.x2 - sw (c 3) * q.y1 - sw (c 4) * q.y2) 30
    let y := satTo 32 raw
    ({ x1 := x, x2 := q.x1, y1 := y, y2 := q.y1 }, y, satHit 32 raw)
  else ({ x1 := x, x2 := x, y1 := x, y2 := x }, x, false)

/-- A change limited to ± `lim`. -/
def limited (v lim : Int) : Int := clampI (-lim) lim v

/-- Steps 10 and 11: the output limit and the slew limit, with their flags SAT_OUT and SLEW. -/
def outLimits (w : Nat → Word) (up y : Int) : Int × Int × Bool × Bool :=
  let yl := min (max y (sw (w 20))) (sw (w 21))
  let u := if w 22 = 0 then yl else up + limited (yl - up) (sw (w 22))
  (yl, u, yl != y, u != yl)

/-- The evaluation of a pending sample of slot `n`. -/
def State.evaluate (s : State) (n : Nat) (x : LoopSlot) (m : LoopSample) : LoopResult :=
  let ang := s.regB (Reg.LPE_CFG n) 30
  let w := fun k => s.page n m.page k
  let st := x.st
  let kpsh := fld (w 9) 31 28
  let kdsh := fld (w 9) 27 24
  let kfsh := fld (w 9) 23 20
  -- step 2
  let spl :=
    if w 0 = 0 then m.sp
    else if ang then st.spl + wdi (limited (turnDiff m.sp st.spl) (sw (w 0)))
    else wdi (sw st.spl + limited (sw m.sp - sw st.spl) (sw (w 0)))
  -- step 3
  let eraw := if ang then degDiff spl m.fb else sw spl - sw m.fb
  let e := satTo 32 eraw
  -- steps 4 to 6
  let px := sw (w 1) * e * (2 ^ kpsh : Nat)
  let d := if ang then degDiff m.fb st.fbp else sw m.fb - sw st.fbp
  let rraw := rdiv (-(sw (w 6)) * d * (2 ^ kdsh : Nat)) 30
  let r := satTo 32 rraw
  let dfraw := rdiv (st.df * (2 ^ 30 : Nat) + sw (w 7) * (r - st.df)) 30
  let df := satTo 32 dfraw
  let fx := sw (w 8) * sw m.ff * (2 ^ kfsh : Nat)
  -- supervision (step 12)
  let felim := sw (s.reg (Reg.LPE_FELIM n))
  let above := felim != 0 && decide (felim < (e.natAbs : Int))
  let feSince := if above then some (x.feSince.getD m.el) else none
  let fe := match feSince with
    | some e0 => decide ((s.reg (Reg.LPE_FETIME n)).toNat * 1000 ≤ m.el - e0)
    | none => false
  let frzn := s.regF (Reg.LPE_LOS n) 15 8
  let frz := if m.fb = st.fbp ∧ (sw (s.reg (Reg.LPE_FRZMIN n))) < (st.up.natAbs : Int) then x.frz + 1 else 0
  let frozen := frzn != 0 && decide (frzn ≤ frz)
  let cond := fe || m.lossAny || frozen
  -- step 7, or R258 when the slot leaves reaction at this sample
  let lo := sw (w 4) * (2 ^ 30 : Nat)
  let hi := sw (w 5) * (2 ^ 30 : Nat)
  let iraw := if x.mode = 1 then st.up * (2 ^ 30 : Nat) - px - df * (2 ^ 30 : Nat) - fx
    else st.i + sw (w 2) * e + sw (w 3) * (st.up - st.yp)
  let i := clampI lo hi iraw
  -- steps 8 to 11
  let vraw := rdiv (px + i + df * (2 ^ 30 : Nat) + fx) 30
  let (b1, y1, f1) := st.b1.run (bit (w 9) 0) (fun k => w (10 + k)) (satTo 32 vraw)
  let (b2, y, f2) := st.b2.run (bit (w 9) 1) (fun k => w (15 + k)) y1
  let (_, u, satOut, slew) := outLimits w st.up y
  let condFlags := b2n m.lossAny * 128 + b2n frozen * 64 + b2n fe * 32
  let satErr := satHit 32 eraw || satHit 32 rraw || satHit 32 dfraw
  if x.mode = 2 then
    let v := sw (s.reg (Reg.LPE_SAFE n))
    { st := { st with spl := spl, fbp := if m.fbValid then m.fb else st.fbp, up := v, yp := v }
      u := v, e := e, flags := wd (condFlags + b2n (satHit 32 eraw)), mode := 2, feSince := feSince, frz := frz }
  else if cond then
    let openRaw := rdiv fx 30
    let (_, ou, oSat, oSlew) := outLimits w st.up (satTo 32 openRaw)
    let e0 := satHit 32 eraw
    let (v, fl) : Int × Nat := match s.regF (Reg.LPE_CFG n) 26 25 with
      | 0 => (st.up, b2n e0)
      | 1 => (0, b2n e0)
      | 2 => (sw (s.reg (Reg.LPE_SAFE n)), b2n e0)
      | _ => if m.ffValid then (ou, b2n oSlew * 16 + b2n oSat * 8 + b2n (e0 || satHit 32 openRaw)) else (0, b2n e0)
    { st := { st with spl := spl, fbp := if m.fbValid then m.fb else st.fbp, up := v, yp := v }
      u := v, e := e, flags := wd (condFlags + fl), mode := 1, feSince := feSince, frz := frz }
  else
    { st := { spl := spl, fbp := m.fb, i := i, df := df, up := u, yp := y, b1 := b1, b2 := b2 }
      u := u, e := e
      flags := wd (b2n slew * 16 + b2n satOut * 8 + b2n (f1 || f2) * 4 + b2n (i != iraw) * 2 + b2n (satErr || satHit 32 vraw))
      mode := 0, feSince := feSince, frz := frz }

/-- R238: the pending sample that a lane takes: the earliest instant, the lowest slot. -/
def State.laneNext (s : State) (lane : Nat) : Option (Nat × LoopSlot × LoopSample) :=
  (s.lpe.slots.flatMap (fun q => (q.2.samples.filter (fun m => m.lane == lane && m.result.isNone)).map (fun m => (q.1, q.2, m)))).foldl
    (fun b c =>
      match b with
      | none => some c
      | some d => if c.2.2.el < d.2.2.el then some c else some d) none

/-- LOOP_EVALUATION (R238, R245, R259): a lane evaluates its next pending sample, 96 FAB clocks. -/
def execLoopEvaluation (lane : Fin 4) (s : State) : Host.Outcome State Fault Refusal :=
  .next (
    if s.lpe.lanesOut.contains lane.val then s
    else match s.laneNext lane.val with
    | none => s
    | some (n, x, m) =>
      let r := s.evaluate n x m
      let s := s.updSlot n (fun x => { x with
        samples := x.samples.map (fun q => if q = m then { m with result := some r } else q), busy := x.busy + 96 })
      let more := fun (m : SMap Nat) => mput m lane.val (mgetD m lane.val 0 + 96)
      let s : State := { s with sched := { s.sched with laneBusy := more s.sched.laneBusy, laneFs := more s.sched.laneFs } }
      if x.mode = 0 ∧ r.mode = 1 then
        (s.record .loopFault n [n, fld r.flags 7 5, (wdi r.e).toNat]).blockEvent 9 n
      else s)

/-- R242: the evaluated sample `m` of slot `n` is published and its state committed. -/
def State.commitSample (s : State) (n : Nat) (m : LoopSample) (r : LoopResult) : State :=
  let x := s.slot n
  -- an escalation since the evaluation stands (R257)
  let esc := decide (x.mode = 2) && decide (r.mode ≠ 2)
  let safe := sw (s.reg (Reg.LPE_SAFE n))
  let u := if esc then safe else r.u
  let s := (s.publishSlot n u).setReg (Reg.LPE_ERR n) (wdi r.e)
  let s := s.setReg (Reg.LPE_STK n) (s.reg (Reg.LPE_STK n) ||| r.flags)
  let st := if esc then { x.st with spl := r.st.spl, fbp := r.st.fbp, up := safe, yp := safe } else r.st
  let s := s.updSlot n (fun x => { x with
    st := st, com := st, comClk := s.clk, comWas := if x.comClk = s.clk then x.comWas else x.com
    mode := if esc then 2 else r.mode
    reactEl := if x.mode = 0 ∧ r.mode = 1 then m.el else x.reactEl
    feSince := r.feSince, frz := r.frz, skipped := false, samples := x.samples.tail })
  (s.bump Reg.LPE_NEVAL).slotStat n

/-- LOOP_OUTPUT_INSTANT (R242, R243): ODLY µs after the instant of the slot's oldest pending sample. -/
def execLoopOutputInstant (n : Fin 64) (s : State) : Host.Outcome State Fault Refusal :=
  .next (
    match (s.slot n.val).samples with
    | [] => s
    | m :: _ =>
      if s.tb.el < m.el + s.regF Reg.LPE_CTL 7 0 * 1000 then s
      else match m.result with
      | none => s.skipSample n.val m
      | some r => s.commitSample n.val m r)

/-- LOOP_ESCALATION_CHECK (R257): A slot in reaction past GRACE escalates to SAFE. -/
def execLoopEscalationCheck (n : Fin 64) (s : State) : Host.Outcome State Fault Refusal := .next (s.checkEscalate n.val)

/-! ### Commands and lane faults -/

/-- LPE_ARM (R248, R257): the slot starts afresh at its next sample. -/
def State.lpeArm (s : State) (v : Word) : State :=
  let n := fld v 5 0
  if s.regB (Reg.LPE_CFG n) 31 then
    let s := s.updSlot n (fun x => { x with arm := true })
    if (s.slot n).mode = 2 then s.record .loopRearm n [n] else s
  else s

/-- LPE_ARM (R248): A write re-arms a slot, resetting its state at its next sample. -/
def execLpeArm (p : Party) (v : Word) (s : State) : Host.Outcome State Fault Refusal :=
  .next (s.portWrite p Reg.LPE_ARM (fun s => s.lpeArm v))

/-- R249: a page word is written unless its page is present. -/
def State.lpePage (s : State) (n p w : Nat) (v : Word) : State :=
  if (s.slot n).page = p then s.setBitR (Reg.LPE_STK n) 13 else s.setReg (Reg.LPE_PAGE n p w) v

/-- LPE_PAGE_WRITE (R249): A write to a coefficient page word is taken, or ignored on the present page. -/
def execLpePageWrite (p : Party) (n : Fin 64) (page : Fin 2) (w : Fin 24) (v : Word) (s : State) : Host.Outcome State Fault Refusal :=
  .next (s.portWrite p (Reg.LPE_PAGE n.val page.val w.val) (fun s => s.lpePage n.val page.val w.val v))

/-- R253: the slot swaps a staged swap stands for. -/
def State.swapCount (s : State) : StagedItem → Nat
  | .swap true g _ => (s.swapMembers g).length
  | .swap false _ n => n
  | _ => 0

/-- R127, R253: a staged swap fits the group's capacity, and its range the slots. -/
def State.swapFits (s : State) (g : Nat) (item : StagedItem) : Bool :=
  (match item with
    | .swap false first n => decide (first + n ≤ 64)
    | _ => true)
  && decide (((s.group g).staged.map (fun o => s.swapCount o.item)).foldl (· + ·) 0 + s.swapCount item ≤ 64)

/-- LPE.SWAP (R127). -/
def execLpeSwap (x : Guard) (pd : PredNo) (wa : RegNo) (n : Nat) (g : Bool) (s : State) : Host.Outcome State Fault Refusal :=
  .next (s.issueAt x (decide (0 < n) && decide (n ≤ 64) && (!g || n == 1)) 2 1 (2 + s.lockExtra x.e.val) (1 + s.lockExtra x.e.val) false (fun s =>
    let e := x.e.val
    let a := s.w e wa.val
    let item : StagedItem := if g then .swap true (fld a 3 0) 1 else .swap false (fld a 5 0) n
    (if s.swapFits (s.runGroup e) item then (s.stageOut e item).setP e pd.val true
      else (s.esf e .lenErr).setP e pd.val false, .pass 1)))

/-- A staged output of the service protocol stands after every clause's. -/
def State.stageParty (s : State) (p : Party) (item : StagedItem) : State :=
  match p with
  | .eng e => s.stageOut e.val item
  | .svc g => s.updGroup g.val (fun x => { x with
      staged := x.staged ++ [{ clause := 256, disp := 0, item := item, ord := x.stageNo }]
      stageNo := x.stageNo + 1 })

/-- LPE_SWAP_WRITE: a write stages a swap as LPE.SWAP does. -/
def State.lpeSwapReg (s : State) (p : Party) (v : Word) : State :=
  let item : StagedItem := if bit v 31 then .swap true (fld v 3 0) 1 else .swap false (fld v 5 0) (fld v 13 8 + 1)
  if (bit v 31 && fld v 13 8 != 0) || !(s.swapFits (s.partyGroup p) item) then s.partyEsf p .lenErr else s.stageParty p item

/-- LPE_SWAP_WRITE (R127): A write to LPE_SWAP stages a swap as LPE.SWAP does. -/
def execLpeSwapWrite (p : Party) (v : Word) (s : State) : Host.Outcome State Fault Refusal :=
  .next (s.portWrite p Reg.LPE_SWAP (fun s => s.lpeSwapReg p v))

/-- R253: a staged swap is published: slots that still hold one drop it. -/
def State.publishSwap (s : State) (group : Bool) (first n : Nat) : State :=
  let ms := if group then s.swapMembers first else (List.range n).map (fun k => first + k)
  if group && ms.any (fun m => (s.slot m).swap != .none) then s.setBitR Reg.LPE_GSTK 0
  else
    ms.foldl (fun s m =>
      if (s.slot m).swap != .none then s.setBitR Reg.LPE_GSTK 0
      else (s.updSlot m (fun x => { x with swap := if group then .group first else .own, swapClk := s.clk })).slotStat m) s

/-- R263: the words of a slot's state. -/
def LoopState.image (x : LoopState) : List Word :=
  let bq := fun (b : Biquad) => [wdi b.x1, wdi b.x2, wdi b.y1, wdi b.y2]
  [x.spl, x.fbp, wdi (x.i / (2 ^ 32 : Nat)), wdi x.i, wdi x.df, wdi x.up, wdi x.yp, 0] ++ bq x.b1 ++ bq x.b2

/-- R263: the state of a slot committed at its last output instant before this FAB clock. -/
def State.committedState (s : State) (n : Nat) : LoopState :=
  let x := s.slot n
  if x.comClk < s.clk then x.com else x.comWas

/-- R263: the snapshot at a full stop of group `g`. -/
def State.loopSnapshot (s : State) (g : Nat) : State :=
  if s.regB Reg.LPE_CTL 31 && s.regF Reg.LPE_CTL 27 24 == g then
    s.loopSlots.foldl (fun s n =>
      ((s.committedState n).image.zipIdx).foldl (fun s p => s.setReg (Reg.LPE_SNAP n p.2) p.1) s) s
  else s

/-- LANE_FAULT (R261). -/
def execLaneFault (lane : Fin 4) (s : State) : Host.Outcome State Fault Refusal :=
  .next (
    if s.lpe.lanesOut.contains lane.val then s
    else
      let s : State := { s with lpe := { s.lpe with lanesOut := s.lpe.lanesOut ++ [lane.val] } }
      let s := (s.setBitR Reg.LPE_GSTK 1).record .laneFault lane.val [lane.val]
      let s := (s.lpe.slots.map (fun q => q.1)).foldl (fun s n => s.skipSamples n (fun m => m.lane == lane.val && m.result.isNone)) s
      let on := s.loopSlots.filter (fun n => s.laneOf n == lane.val)
      let fixed := on.filter (fun n => !(s.regB (Reg.LPE_CFG n) 29))
      let s : State := { s with lpe := { s.lpe with replace := s.lpe.replace ++ on.filter (fun n => s.regB (Reg.LPE_CFG n) 29) } }
      let s := fixed.foldl (fun s n => s.escalate n) s
      if fixed.isEmpty then s else s.addHealth (.laneFixed lane.val))

/-- R148: no other compare unit's fire is due in an earlier FAB clock, or in the same one with a lower number. -/
def State.fireFirst (s : State) (k : Nat) : Bool :=
  let u := mgetD s.sched.cmp k {}
  s.sched.cmp.all (fun q => !(q.2.fire && s.regB (Reg.SCH_CMPC q.1) 31) || decide (u.fireClk < q.2.fireClk)
    || (u.fireClk == q.2.fireClk && decide (k ≤ q.1)))

/-- COMPARE_FIRE (R147, R148, R240): a unit whose test has fired triggers the clauses that name it, W3 = P, samples
the loop slots that name it, and makes its trigger units due. -/
def execCompareFire (k : Fin 32) (s : State) : Host.Outcome State Fault Refusal :=
  .next (
    let u := mgetD s.sched.cmp k.val {}
    if s.regB (Reg.SCH_CMPC k.val) 31 && u.fire && s.fireFirst k.val then
      s.inStep (s.regF (Reg.SCH_CMPC k.val) 29 27 == 0) 5 fun s =>
      let s1 : State := { s with sched := { s.sched with cmp := mput s.sched.cmp k.val { u with fire := false } } }
      let s2 := s1.bumpF (Reg.SCH_CMPC k.val) 7 0
      let cs := s2.clauses.filter (fun c => s2.clauseEn c && s2.clauseType c == 1 && s2.regF (Reg.SCH_CDC c) 4 0 == k.val)
      ((cs.foldl (fun s c => s.makeReady c (s.latchTrig 1 (s.reg (Reg.SCH_CMPP k.val)) 0 0xFFFFFFFF)) s2).fireUnits k.val).compareSamples k.val
    else s)

end Sys2Proof.Machine
end

