-- ==== Sys2Proof/Machine/Sequencer.lean ====
section
/-! DEFINITION. Machine/Sequencer.lean: the optimisation sequencer (spec/08_optimisation_sequencer.md R209 to R237;
OPT.RUN, spec/04_instruction_reference.md R125). The rows of a stage, slacks, multipliers, row weights, step length, updates and
the acceptance test are computed; the search direction of a Newton step, and the places and formats of the sequencer's operands
in its workspace, are free (Config.optWord): the chapter does not fix them (notes/assumptions/42.md). -/
namespace Sys2Proof.Machine

/-- R210: the problem descriptor header. -/
structure OptHdr where
  ws : List Word
  n : Nat
  nx : Nat
  nu : Nat
  ni : Nat
  iter : Nat
  dlen : Bool
  nen : Bool
  arel : Bool
  warm : Bool
  rmode : Nat
  nthr : Nat
  ncl : Nat
  fbin : Nat
  deadline : Word
  epsP : Nat
  epsC : Nat
  mu0 : Int
  fx : Nat
  fu : Nat
  fa : Nat
  mush : Nat
deriving DecidableEq, Repr

/-- The header at a bank address. -/
def State.optHdr (s : State) (bank off : Nat) : OptHdr :=
  let ws := s.bankWords (bankAddr bank off) 20
  let w := fun k => lget ws k 0
  { ws := ws, n := fld (w 0) 31 26, nx := fld (w 0) 25 20, nu := fld (w 0) 19 14, ni := fld (w 0) 13 6, iter := fld (w 0) 5 0
    dlen := bit (w 1) 31, nen := bit (w 1) 30, arel := bit (w 1) 29, warm := bit (w 1) 28, rmode := fld (w 1) 27 26
    nthr := fld (w 1) 25 21, ncl := fld (w 1) 15 8, fbin := fld (w 1) 7 0, deadline := w 2
    epsP := (w 3).toNat, epsC := (w 4).toNat, mu0 := sw (w 5)
    fx := fld (w 6) 28 24, fu := fld (w 6) 23 19, fa := fld (w 6) 18 14, mush := fld (w 6) 8 5 }

/-- Word `k` of the header. -/
def OptHdr.w (h : OptHdr) (k : Nat) : Word := lget h.ws k 0

/-- The byte address a block address word names. -/
def blockAddr (w : Word) : Nat := bankAddr (addrBank w) (addrOff w)

/-- The blocks the header names: header word, length in words. Without WARM the run reads nothing of the block at WPLAN, whose
bank it names all the same. -/
def OptHdr.blocks (h : OptHdr) : List (Nat × Nat) :=
  [(7, h.nx * h.nx + h.nx * h.nu), (8, 2 * h.nx * h.nx + 2 * h.nu), (9, 3 * h.nu), (10, h.ni * (h.nx + h.nu + 1)), (11, 8 * h.nthr),
   (12, 2 * h.nx + h.nu + 3 + h.n * h.nx), (13, if h.warm then 20 + h.n * h.nu else 0), (14, 20 + h.n * h.nu + h.n * h.nx)]

/-- The workspace banks. -/
def OptHdr.workspace (h : OptHdr) : List Nat :=
  (List.range 64).filter (fun b => if b < 32 then bit (h.w 15) b else bit (h.w 16) (b - 32))

/-- Word `k` of thruster `t` (R214). -/
def State.thrWord (s : State) (h : OptHdr) (t k : Nat) : Word := wd (s.bankNum (blockAddr (h.w 11) + 4 * (8 * t + k)) 4)

/-- The fields of a thruster. -/
structure Thruster where
  fixed : Bool
  sign : Bool
  iy : Nat
  ix : Nat
  theta : Word
  span : Nat
  azr : Nat
  fmax : Int
  pc : Int
  lx : Int
  ly : Int
deriving DecidableEq, Repr

/-- Thruster `t` of the table. -/
def State.thruster (s : State) (h : OptHdr) (t : Nat) : Thruster :=
  let w := s.thrWord h t
  { fixed := bit (w 0) 31, sign := bit (w 0) 30, iy := fld (w 0) 11 6, ix := fld (w 0) 5 0, theta := w 1
    span := (w 2).toNat, azr := (w 3).toNat, fmax := sw (w 4), pc := sw (w 5), lx := sw (w 6), ly := sw (w 7) }

/-- The thrusters of the run. -/
def State.thrusters (s : State) (h : OptHdr) : List Thruster := (List.range h.nthr).map (fun t => s.thruster h t)

/-- R209: the Riccati dimension; with RMODE 2 the previous input is part of the state. -/
def OptHdr.nr (h : OptHdr) : Nat := if h.rmode = 2 then h.nx + h.nu else h.nx

/-- R210: the words of workspace of a stage. -/
def State.optBlk (s : State) (h : OptHdr) : Nat :=
  let rt := 4 * ((s.thrusters h).filter (fun t => !t.fixed)).length + 1
  h.nr * h.nr + h.nr * h.nu + 8 * (h.nr + h.nu) + 2 * (h.ni + rt)

/-- R209 to R211: the workspace banks the run needs. -/
def State.optBanksNeeded (s : State) (h : OptHdr) : Nat :=
  let blk := s.optBlk h
  if blk ≤ 8192 then ceilDiv (h.n + 1) (8192 / blk) + 1 else (h.n + 1) * ceilDiv blk 8192 + 1

/-- R125, R211: a size that refuses OPT.RUN. -/
def State.optSizeBad (s : State) (h : OptHdr) : Bool :=
  !(decide (1 ≤ h.n) && decide (h.n ≤ 32)) || !(dim48 h.nx) || !(dim48 h.nu) || decide (192 < h.ni)
    || !(decide (1 ≤ h.iter) && decide (h.iter ≤ 32)) || h.rmode == 3 || decide (24 < h.nthr)
    || (h.rmode == 2 && decide (96 < h.nx + h.nu)) || decide (h.workspace.length < s.optBanksNeeded h)

/-- The sequencer changed. -/
def State.updOpt (s : State) (f : Sequencer → Sequencer) : State := { s with opt := f s.opt }

/-- The run changed. -/
def State.updRun (s : State) (f : OptRun → OptRun) : State :=
  s.updOpt (fun q => { q with run := q.run.map f })

/-- OPT.RUN (R122, R125, R211, R213, R219, R236, R237). A size that refuses is found before the sequencer is found busy
(DESIGN CHOICE, notes/assumptions/58.md). -/
def State.optStart (s : State) (e d p : Nat) (wa : Word) : State :=
  let bank := addrBank wa
  let off := addrOff wa
  let c := s.checkOperand wa 80 ownOpt
  let h := s.optHdr bank off
  let c := { c with len := c.len || (c.ok && s.optSizeBad h) }
  if !c.ok then (s.checkFlags e c).setP e p false
  else
    match (if s.opt.endClk = some s.clk then none else if s.opt.run.isSome then none else s.freeTicket) with
    | some t =>
      let banks := bank :: (h.blocks.map (fun b => addrBank (h.w b.1)) ++ h.workspace)
      let s := banks.foldl (fun s b => s.markBank b (ticketTag t)) s
      let r : OptRun := { clause := s.runClause e, seq := s.runSeq e, ticket := t, bank := bank, off := off
                          grant := (s.reg Reg.OPT_PGRANT).toNat, limit := s.regF Reg.OPT_FBLIM 7 0, start := s.tb.el }
      let s := (s.updOpt (fun q => { q with run := some r })).updSol (fun q => { q with tickets := mput q.tickets t { seqr := true } })
      let s := s.setReg Reg.OPT_STAT (setFld (setFld (setBit (s.reg Reg.OPT_STAT) 31 true) 23 18 t) 17 12 0)
      (((s.bump Reg.OPT_NRUN).bump Reg.OPT_NPEND).setW e d (wd t)).setP e p true
    | none => ((s.noTicket e d p).bump Reg.OPT_NBUSY).setBitR Reg.OPT_STK 6

/-- OPT_RUN (R125): Engine hands a problem descriptor to the sequencer and takes a ticket. -/
def execOptRun (x : Guard) (wd : RegNo) (pd : PredNo) (wa : RegNo) (s : State) : Host.Outcome State Fault Refusal :=
  .next (s.issueAt x true 4 1 (4 + s.lockExtra x.e.val) (3 + s.lockExtra x.e.val) false (fun s => (s.optStart x.e.val wd.val pd.val (s.w x.e.val wa.val), .pass 1)))

/-! ### Validation (R212, R214, R224) -/

/-- R214: the thruster table, with its reserved fields. -/
def State.thrBad (s : State) (h : OptHdr) : Bool :=
  let ts := s.thrusters h
  let inputs := ts.flatMap (fun t => if t.fixed then [t.ix] else [t.ix, t.iy])
  ts.any (fun t => !t.fixed && (t.ix == t.iy || t.span == 0 || decide (0x40000000 < t.span)))
    || inputs.any (fun i => decide (h.nu ≤ i)) || inputs.eraseDups.length != inputs.length
    || (List.range h.nthr).any (fun k =>
      let w0 := s.thrWord h k 0
      fld w0 29 12 != 0 || (if bit w0 31 then fld w0 11 6 != 0 || s.thrWord h k 2 != 0 else bit w0 30))

/-- Element `i` of umin (0), umax (1) or dumax (2). -/
def State.optLimit (s : State) (h : OptHdr) (which i : Nat) : Int :=
  sw (wd (s.bankNum (blockAddr (h.w 9) + 4 * (which * h.nu + i)) 4))

/-- Two spans of words overlap: byte address and length in words. -/
def spansMeet (a n b m : Nat) : Bool := decide (0 < n) && decide (0 < m) && decide (a < b + 4 * m) && decide (b < a + 4 * n)

/-- R212, R224: the header word of the first check that fails. -/
def State.optFault (s : State) (h : OptHdr) : Option Nat :=
  let res := blockAddr (h.w 14)
  let resLen := 20 + h.n * h.nu + h.n * h.nx
  let plan12 := wd (s.bankNum (blockAddr (h.w 13) + 48) 4)
  let checks : List (Bool × Nat) :=
    h.blocks.map (fun b => (s.owner (addrBank (h.w b.1)) != ownOpt, b.1))
    ++ [((h.workspace.filter (fun b => decide (b < 32))).any (fun b => s.owner b != ownOpt), 15),
        ((h.workspace.filter (fun b => decide (32 ≤ b))).any (fun b => s.owner b != ownOpt), 16)]
    ++ h.blocks.map (fun b => (decide (32768 < addrOff (h.w b.1) + 4 * b.2), b.1))
    ++ [((h.blocks.filter (fun b => b.1 != 14)).any (fun b => spansMeet res resLen (blockAddr (h.w b.1)) b.2)
          || h.workspace.contains (addrBank (h.w 14)), 14),
        (!(decide (8 ≤ h.fu) && decide (h.fu ≤ 30)), 6),
        (!(decide (1 ≤ fld (h.w 6) 8 5) && decide (fld (h.w 6) 8 5 ≤ 8)), 6),
        (decide (sw (h.w 3) ≤ 0), 3), (decide (sw (h.w 4) ≤ 0), 4), (decide (sw (h.w 5) ≤ 0), 5),
        ((List.range h.nu).any (fun i => decide (0 < s.optLimit h 0 i) || decide (s.optLimit h 1 i < 0)), 9),
        (decide (0 < h.nthr) && s.thrBad h, 11),
        (h.warm && (fld plan12 31 26 != h.n || fld plan12 19 14 != h.nu || fld plan12 13 0 != 0), 13),
        (fld (h.w 1) 20 16 != 0, 1), (fld (h.w 6) 31 29 != 0 || fld (h.w 6) 4 0 != 0, 6)]
    ++ h.blocks.map (fun b => (fld (h.w b.1) 31 21 != 0, b.1))
    ++ [(h.w 17 != 0, 17), (h.w 18 != 0, 18), (h.w 19 != 0, 19)]
  (checks.find? (fun c => c.1)).map (fun c => c.2)

/-! ### The plan -/

/-- Word `k` of the REF block. -/
def State.optRef (s : State) (h : OptHdr) (k : Nat) : Int := sw (wd (s.bankNum (blockAddr (h.w 12) + 4 * k) 4))

/-- x̂, u_prev, τ_d and c of the REF block. -/
def State.optXhat (s : State) (h : OptHdr) (i : Nat) : Int := s.optRef h i
def State.optUprev (s : State) (h : OptHdr) (i : Nat) : Int := s.optRef h (h.nx + i)
def State.optTau (s : State) (h : OptHdr) (i : Nat) : Int := s.optRef h (h.nx + h.nu + i)
def State.optC (s : State) (h : OptHdr) (i : Nat) : Int := s.optRef h (h.nx + h.nu + 3 + i)

/-- A[i][j] and B[i][j] of the MODEL block. -/
def State.optA (s : State) (h : OptHdr) (i j : Nat) : Int := sw (wd (s.bankNum (blockAddr (h.w 7) + 4 * (i * h.nx + j)) 4))
def State.optB (s : State) (h : OptHdr) (i j : Nat) : Int :=
  sw (wd (s.bankNum (blockAddr (h.w 7) + 4 * (h.nx * h.nx + i * h.nu + j)) 4))

/-- The fraction bits in which A x + B u + c is exact. -/
def OptHdr.g (h : OptHdr) : Nat := h.fa + max h.fx h.fu

/-- A x + B u + c, element `i`, exact with `h.g` fraction bits. -/
def State.optModel (s : State) (h : OptHdr) (x u : Nat → Int) (i : Nat) : Int :=
  ((upTo h.nx).map (fun j => align (s.optA h i j * x j) (h.fa + h.fx) h.g)).foldl (· + ·) 0
  + ((upTo h.nu).map (fun j => align (s.optB h i j * u j) (h.fa + h.fu) h.g)).foldl (· + ·) 0
  + align (s.optC h i) h.fx h.g

/-- The forward simulation of inputs from x̂: x_1 to x_N, each element by wr. -/
def State.optSimulate (s : State) (h : OptHdr) (u : Nat → Nat → Int) : List (List Int) :=
  ((upTo h.n).foldl (fun (q : List Int × List (List Int)) k =>
    let x := (upTo h.nx).map (fun i => wrInt (s.optModel h (fun j => lget q.1 j 0) (u k) i) h.g h.fx)
    (x, q.2 ++ [x])) ((upTo h.nx).map (fun i => s.optXhat h i), [])).2

/-- R224: the warm plan: the inputs of the block at WPLAN shifted one stage. -/
def State.warmPlan (s : State) (h : OptHdr) : OptIter :=
  let at_ := fun (k i : Nat) => sw (wd (s.bankNum (blockAddr (h.w 13) + 4 * (20 + k * h.nu + i)) 4))
  let u := fun (k i : Nat) => at_ (if k + 1 < h.n then k + 1 else h.n - 1) i
  { us := (upTo h.n).map (fun k => (upTo h.nu).map (fun i => u k i)), xs := s.optSimulate h u }

/-- R223: the zero plan. -/
def State.zeroPlan (s : State) (h : OptHdr) : OptIter :=
  { us := (upTo h.n).map (fun _ => (upTo h.nu).map (fun _ => (0 : Int))), xs := s.optSimulate h (fun _ _ => 0) }

/-! ### Thrusters (R215 to R218) -/

/-- The edges of an azimuth thruster's sector on stage `k` and whether the pair is blocked there (R216); `fx`, `fy` are the
pair of u_prev. -/
def Thruster.edges (t : Thruster) (k : Nat) (fx fy : Int) : Word × Word × Bool :=
  let th1 := t.theta
  let th2 := t.theta + wd t.span
  let beta := t.theta + wd (t.span / 2)
  let still := decide (64 * (fx.natAbs : Int) ≤ t.fmax) && decide (64 * (fy.natAbs : Int) ≤ t.fmax)
  if t.azr = 0 ∨ still = true then (th1, th2, false)
  else
    let thp := (atan2Op fy fx).1
    let dz := wd (min ((k + 1) * t.azr) 0x40000000)
    let a := turnDiff th1 beta
    let b := turnDiff (thp - dz) beta
    let c := turnDiff th2 beta
    let d := turnDiff (thp + dz) beta
    let e1 := if a < b then b else a
    let e2 := if d < c then d else c
    (beta + wdi e1, beta + wdi e2, decide (e2 < e1))

/-- Sine and cosine of a turn32 value, as signed Q1.30. -/
def sinI (a : Word) : Int := sw (sincosOp a).1
def cosI (a : Word) : Int := sw (sincosOp a).2

/-- R215: the violations of the four rows of a pair on a stage with edges `e1` and `e2`, exact with FU + 30 fraction bits. -/
def Thruster.violations (t : Thruster) (e1 e2 : Word) (fx fy : Int) : List Int :=
  let q4 := t.span / 4
  let p1 := t.theta + wd q4
  let p2 := t.theta + wd (3 * t.span / 4)
  let rhs := rdiv (t.fmax * cosI (wd q4)) 30 * (2 ^ 30 : Nat)
  [sinI e1 * fx - cosI e1 * fy, -(sinI e2 * fx) + cosI e2 * fy,
   cosI p1 * fx + sinI p1 * fy - rhs, cosI p2 * fx + sinI p2 * fy - rhs]

/-- R218: 1 / cos(SPAN / 2), the exact value rounded to Q1.30. -/
def secHalf (span : Nat) : Int :=
  let c := (sinCosFix (piFix * (span : Int) / (2 ^ 32 : Nat))).2
  rquo (2 ^ (30 + trigBits) : Nat) c.toNat

/-- R218: the power estimate of a thruster at inputs `u`, Q23.8. -/
def Thruster.power (t : Thruster) (fu : Nat) (u : Nat → Int) : Int :=
  if t.fixed then
    rdiv (t.pc * (2 ^ 30 : Nat) * (if t.sign then -(u t.ix) else u t.ix)) (16 + 30 + fu - 8)
  else
    let beta := t.theta + wd (t.span / 2)
    let g := max 0 (rdiv (cosI beta * u t.ix + sinI beta * u t.iy) 30)
    rdiv (t.pc * secHalf t.span * g) (16 + 30 + fu - 8)

/-- R218: the sum of the estimates, saturated at 16#FFFFFFFF and read unsigned. -/
def powerSum (ts : List Thruster) (fu : Nat) (u : Nat → Int) : Nat :=
  (clampI 0 0xFFFFFFFF ((ts.map (fun t => t.power fu u)).foldl (· + ·) 0)).toNat

/-! ### The rows of a stage (R209, R215 to R218) -/

/-- R217: the box of input `i`: [umin, umax], and the range of a fixed-axis thruster. -/
def State.optBox (s : State) (h : OptHdr) (ts : List Thruster) (i : Nat) : Int × Int :=
  let lo := s.optLimit h 0 i
  let hi := s.optLimit h 1 i
  match ts.find? (fun t => t.fixed && t.ix == i) with
  | some t => if t.sign then (max lo (-t.fmax), min hi 0) else (max lo 0, min hi t.fmax)
  | none => (lo, hi)

/-- R225, step 1: the effective box of input `i` on stage 0: with RMODE ≠ 0 within dumax of u_prev. -/
def State.optBox0 (s : State) (h : OptHdr) (ts : List Thruster) (i : Nat) : Int × Int :=
  let b := s.optBox h ts i
  let d := s.optLimit h 2 i
  let up := s.optUprev h i
  if h.rmode = 0 then b else (max b.1 (up - d), min b.2 (up + d))

/-- R216: the inputs of pairs that are fixed at zero on stage `k`. -/
def State.optFixed (s : State) (h : OptHdr) (ts : List Thruster) (k : Nat) : List Nat :=
  (ts.filter (fun t => !t.fixed && (t.edges k (s.optUprev h t.ix) (s.optUprev h t.iy)).2.2)).flatMap (fun t => [t.ix, t.iy])

/-- The box of input `i` on stage `k`, zero where its pair is fixed. -/
def State.stageBox (s : State) (h : OptHdr) (ts : List Thruster) (k i : Nat) : Int × Int :=
  if (s.optFixed h ts k).contains i then (0, 0) else s.optBox h ts i

/-- Word `k` of the ROWS block: Cx, Cu, d. -/
def State.optRowsW (s : State) (h : OptHdr) (k : Nat) : Int := sw (wd (s.bankNum (blockAddr (h.w 10) + 4 * k) 4))

/-- A general row of stage `k`: d − Cx x − Cu u with `h.g` fraction bits; a row with a nonzero Cx is none of stage 0. -/
def State.generalRow (s : State) (h : OptHdr) (k j : Nat) (x u : Nat → Int) : Option (Int × Nat) :=
  let cx := fun i => s.optRowsW h (j * h.nx + i)
  let cu := fun i => s.optRowsW h (h.ni * h.nx + j * h.nu + i)
  if k = 0 ∧ (upTo h.nx).any (fun i => cx i != 0) = true then none
  else some (align (s.optRowsW h (h.ni * (h.nx + h.nu) + j)) h.fa h.g
    - ((upTo h.nx).map (fun i => align (cx i * x i) (h.fa + h.fx) h.g)).foldl (· + ·) 0
    - ((upTo h.nu).map (fun i => align (cu i * u i) (h.fa + h.fu) h.g)).foldl (· + ·) 0, h.g)

/-- R209, R215 to R218: the rows of stage `k`, each as d_j − g_j, exact, with its fraction bits: general rows, four rows an azimuth
thruster, the power row, the sides of the box (within dumax of u_prev on stage 0 unless RMODE = 0; with RMODE 2 within dumax of
the stage before on the others). -/
def State.stageRows (s : State) (h : OptHdr) (grant k : Nat) (x u up : Nat → Int) : List (Int × Nat) :=
  let ts := s.thrusters h
  let gen := (upTo h.ni).filterMap (fun j => s.generalRow h k j x u)
  let thr := (ts.filter (fun t => !t.fixed)).flatMap (fun t =>
    let e := t.edges k (s.optUprev h t.ix) (s.optUprev h t.iy)
    (t.violations e.1 e.2.1 (u t.ix) (u t.iy)).map (fun v => (-v, h.fu + 30)))
  let pow := [((grant : Int) - (powerSum ts h.fu u : Int), 8)]
  let box := (upTo h.nu).flatMap (fun i =>
    let b := if k = 0 ∧ !((s.optFixed h ts 0).contains i) = true then s.optBox0 h ts i else s.stageBox h ts k i
    [(b.2 - u i, h.fu), (u i - b.1, h.fu)])
  let rate := if h.rmode = 2 ∧ 0 < k then (upTo h.nu).flatMap (fun i =>
      let d := s.optLimit h 2 i
      [(d - (u i - up i), h.fu), (d + (u i - up i), h.fu)]) else []
  gen ++ thr ++ pow ++ box ++ rate

/-- Element `i` of stage `k` of a plan. -/
def planAt (l : List (List Int)) (k i : Nat) : Int := lget (lget l k []) i 0

/-- The states of stage `k` of an iterate; stage 0 is x̂. -/
def State.iterX (s : State) (h : OptHdr) (p : OptIter) (k : Nat) : Nat → Int :=
  if k = 0 then s.optXhat h else planAt p.xs (k - 1)

/-- The rows of stage `k` at an iterate. -/
def State.iterRows (s : State) (h : OptHdr) (grant : Nat) (p : OptIter) (k : Nat) : List (Int × Nat) :=
  s.stageRows h grant k (s.iterX h p k) (planAt p.us k) (planAt p.us (k - 1))

/-! ### Iterations (R220) -/

/-- R191, R220: mrcp of two Q15.16 values with a result of `fo` fraction bits; the pivot floor is 1 raw. -/
def optQuo (x p : Int) (fo : Nat) : Int := satTo 32 (mrcpRaw x 16 (max 1 p) 16 fo)

/-- The start of the iterations: the warm plan or zero inputs, pairs fixed at zero, slacks and multipliers. -/
def State.optBegin (s : State) (h : OptHdr) (grant : Nat) : OptIter :=
  let ts := s.thrusters h
  let p := if h.warm then s.warmPlan h else s.zeroPlan h
  let us := (upTo h.n).map (fun k =>
    let fixed := s.optFixed h ts k
    (upTo h.nu).map (fun i => if fixed.contains i then 0 else planAt p.us k i))
  let q : OptIter := { us := us, xs := s.optSimulate h (planAt us) }
  let ss := (upTo h.n).map (fun k => (s.iterRows h grant q k).map (fun r => max (wrInt r.1 r.2 16) h.mu0))
  { q with ss := ss, ls := ss.map (fun l => l.map (fun x => optQuo h.mu0 x 16)) }

/-- The problem of a run: the header, the blocks it reads, the grant. -/
def State.optData (s : State) (h : OptHdr) (grant : Nat) : List Word :=
  h.ws ++ (h.blocks.filter (fun b => b.1 != 14)).flatMap (fun b => s.bankWords (blockAddr (h.w b.1)) b.2) ++ [wd grant]

/-- R220: one element of an AXPY update by `alpha` (Q1.30) in a format of `f` fraction bits, before saturation. -/
def axpyRaw (alpha y d : Int) (f : Nat) : Int := wrRaw (align y f (30 + f) + alpha * d) (30 + f) f

/-- R220: the ratio test of one slack or multiplier: its bound on the step, Q1.30. -/
def optRatio (v d : Int) : Int := if d < 0 then optQuo (rdiv (0x3FAE147B * v) 30) (-d) 30 else 2 ^ 30

/-- R220: iteration `i`: mu_t, the row weights, the direction (free), the step length, the updates and whether one saturated. -/
def State.optAdvance (s : State) (h : OptHdr) (grant i : Nat) (p : OptIter) : Int × OptIter × Bool :=
  let ts := s.thrusters h
  let mut_ := rdiv h.mu0 (h.mush * i)
  let sigma := (p.ls.zip p.ss).map (fun q => (q.1.zip q.2).map (fun r => optQuo r.1 r.2 16))
  let key := s.optData h grant ++ (p.us ++ p.xs ++ p.ss ++ p.ls ++ sigma).flatten.map wdi ++ [wdi mut_]
  let dir := fun (kind k j : Nat) => sw (Config.optWord key [0, kind, k, j])
  let du := fun (k j : Nat) => if (s.optFixed h ts k).contains j then 0 else dir 0 k j
  let steps := fun (kind : Nat) (l : List (List Int)) =>
    l.zipIdx.flatMap (fun q => q.1.zipIdx.map (fun r => optRatio r.1 (dir kind q.2 r.2)))
  let alpha := (steps 2 p.ss ++ steps 3 p.ls).foldl min (2 ^ 30)
  let move := fun (l : List (List Int)) (d : Nat → Nat → Int) (f : Nat) =>
    l.zipIdx.map (fun q => q.1.zipIdx.map (fun r => axpyRaw alpha r.1 (d q.2 r.2) f))
  let us := move p.us du h.fu
  let xs := move p.xs (dir 1) h.fx
  let ss := move p.ss (dir 2) 16
  let ls := move p.ls (dir 3) 16
  let sat := fun (l : List (List Int)) => l.map (fun q => q.map (satTo 32))
  (alpha, { us := sat us, xs := sat xs, ss := sat ss, ls := sat ls }, (us ++ xs ++ ss ++ ls).any (fun q => q.any (satHit 32)))

/-- R222: max(r_dyn, r_row) and c_max of an iterate, raw Q15.16 read unsigned; j runs over every row that carries a slack. -/
def State.optTest (s : State) (h : OptHdr) (grant : Nat) (p : OptIter) : Nat × Nat :=
  let ts := s.thrusters h
  let q := fun (v : Int) (g : Nat) => (wdi (wrInt v g 16)).toNat
  let most := fun (l : List Nat) => l.foldl max 0
  let dyn := (upTo h.n).map (fun k => most ((upTo h.nx).map (fun i =>
    q ((align (planAt p.xs k i) h.fx h.g - s.optModel h (s.iterX h p k) (planAt p.us k) i).natAbs : Int) h.g)))
  let row := (upTo h.n).map (fun k => most ((s.iterRows h grant p k).zipIdx.map (fun r =>
    let g := max r.1.2 16
    q ((align r.1.1 r.1.2 g - align (planAt p.ss k r.2) 16 g).natAbs : Int) g)))
  let box := (upTo h.n).map (fun k => most ((upTo h.nu).map (fun i =>
    let b := s.stageBox h ts k i
    let u := planAt p.us k i
    q (max 0 (max (u - b.2) (b.1 - u))) h.fu)))
  let comp := (p.ls.zip p.ss).map (fun r => most ((r.1.zip r.2).map (fun x => q (rdiv (x.1 * x.2) 16) 16)))
  (most (dyn ++ row ++ box), most comp)

/-! ### The batches of a run (R209, R220, R221, R229) -/

/-- An operation of the sequencer before it has a place: opcode, the flags TA, TB, ACC, PARAM, the shapes of X, Y and Z, the formats
of X and Z where the chapter fixes them, ALPHA. -/
structure OptShape where
  opc : Nat
  ta : Bool := false
  tb : Bool := false
  acc : Bool := false
  param : Nat := 0
  x : Nat × Nat
  y : Nat × Nat := (0, 0)
  z : Nat × Nat
  f : Option Nat := none
  alpha : Int := 0
deriving DecidableEq, Repr

/-- R209: a dimension in blocks of 48 and a remainder. -/
def pieces (d : Nat) : List Nat := (List.range (ceilDiv d 48)).map (fun i => min 48 (d - 48 * i))

/-- A product of m × k by k × n, in pieces. -/
def gemmShapes (m n k : Nat) : List OptShape :=
  (pieces m).flatMap (fun a => (pieces n).flatMap (fun b => (pieces k).zipIdx.map (fun c =>
    { opc := 10, acc := decide (0 < c.2), x := (a, c.1), y := (c.1, b), z := (a, b) })))

/-- A symmetric product of n × k by its transpose, in pieces: the blocks on the diagonal, then those below it. -/
def syrkShapes (n k : Nat) : List OptShape :=
  (pieces n).flatMap (fun a => (pieces k).zipIdx.map (fun c => { opc := 11, acc := decide (0 < c.2), x := (a, c.1), z := (a, a) }))
  ++ (pieces n).zipIdx.flatMap (fun a => (pieces n).zipIdx.flatMap (fun b => if b.2 < a.2 then
      (pieces k).zipIdx.map (fun c => { opc := 10, tb := true, acc := decide (0 < c.2), x := (a.1, c.1), y := (b.1, c.1), z := (a.1, b.1) })
    else []))

/-- A triangular solve with n × n for k columns. -/
def trsmShapes (opc n k : Nat) : List OptShape := (pieces k).map (fun c => { opc := opc, x := (n, n), z := (n, c) })

/-- The backward pass of one stage, as the worked budget lists it: row terms, model products, Hessian factor, gains, update. -/
def OptHdr.backward (h : OptHdr) : List OptShape :=
  let nr := h.nr
  syrkShapes h.nx h.ni ++ syrkShapes h.nu h.ni ++ gemmShapes h.nu h.nx h.ni ++ syrkShapes h.nu 1
  ++ gemmShapes nr nr nr ++ gemmShapes nr h.nu nr ++ gemmShapes nr nr nr ++ gemmShapes h.nu h.nu nr ++ gemmShapes h.nu nr nr
  ++ [{ opc := 1, x := (h.nu, h.nu), z := (h.nu, h.nu) }]
  ++ trsmShapes 7 h.nu nr ++ trsmShapes 8 h.nu nr ++ [{ opc := 4, x := (h.nu, h.nu), z := (h.nu, 1) }, { opc := 5, x := (h.nu, h.nu), z := (h.nu, 1) }]
  ++ gemmShapes nr nr h.nu

/-- The forward pass of one stage. -/
def OptHdr.forward (h : OptHdr) : List OptShape :=
  gemmShapes h.nu 1 h.nr ++ gemmShapes h.nx 1 h.nx ++ gemmShapes h.nx 1 h.nu ++ gemmShapes h.ni 1 h.nx ++ gemmShapes h.ni 1 h.nu

/-- R220: the vector updates of one stage with `rows` rows. -/
def OptHdr.updates (h : OptHdr) (alpha : Int) (rows : Nat) : List OptShape :=
  let v := fun (n f : Nat) => (pieces n).map (fun c => ({ opc := 12, x := (c, 1), z := (c, 1), f := some f, alpha := alpha } : OptShape))
  v h.nu h.fu ++ v h.nx h.fx ++ v rows 16 ++ v rows 16

/-- R224: the forward simulation of one stage. -/
def OptHdr.simulation (h : OptHdr) : List OptShape :=
  gemmShapes h.nx 1 h.nx ++ (gemmShapes h.nx 1 h.nu).map (fun q => { q with acc := true })

/-- R224: the warm plan by SHIFT, one stage a block. -/
def OptHdr.shiftPlan (h : OptHdr) : OptShape := { opc := 13, param := 1, x := (h.n, h.nu), z := (h.n, h.nu) }

/-- The workspace bank of stage `k` (R210). -/
def State.stageBank (s : State) (h : OptHdr) (k : Nat) : Nat :=
  let blk := s.optBlk h
  lget h.workspace (if blk ≤ 8192 then k / (8192 / blk) else k * ceilDiv blk 8192) 0

/-- An entry of the sequencer: operation `q` on stage `k` with predecessors `preds`. Word offsets, the formats the chapter does not
fix, PIVFLOOR and RBND are free, by the descriptor and the entry's index; the three operands lie apart in the stage's bank. -/
def State.optEntry (s : State) (h : OptHdr) (q : OptShape) (k : Nat) (preds : List Nat) (idx : List Nat) : List Word :=
  let free := fun (n : Nat) => (Config.optWord h.ws (1 :: n :: idx)).toNat
  let bank := s.stageBank h k
  let desc := fun (n : Nat) (d : Nat × Nat) => if d.1 = 0 then [0, 0] else
    [wd (bank * 2 ^ 26 + (2730 * n + free n % 426) * 2 ^ 13 + d.2), wd (d.1 * 2 ^ 25 + d.2 * 2 ^ 19 + (q.f.getD (free (3 + n) % 32)) * 2 ^ 14)]
  let ps := preds.zipIdx.map (fun p => 2 ^ (22 + p.2))
  [wd (q.opc * 2 ^ 26 + ps.foldl (· + ·) 0 + b2n q.ta * 2 ^ 21 + b2n q.tb * 2 ^ 20 + b2n q.acc * 2 ^ 18 + free 6 % 2 * 2 ^ 16 + q.param),
   wd ((preds.zipIdx.map (fun p => p.1 % 256 * 2 ^ (8 * p.2))).foldl (· + ·) 0)]
  ++ desc 0 q.x ++ desc 1 q.y ++ desc 2 q.z
  ++ [wd (1 + free 7 % (2 ^ 31 - 1)), wd (free 8), wdi q.alpha, if q.opc = 12 then 30 else 0, 0, 0]

/-- A list in parts of `n` (`fuel` parts at most). -/
def partsOf {α : Type} (n : Nat) : Nat → List α → List (List α)
  | 0, _ => []
  | fuel + 1, l => if l.isEmpty then [] else l.take n :: partsOf n fuel (l.drop n)

/-- R221: batches of at most 256 operations; in the backward pass (`back`) an operation of stage k takes the last ones of stage
k + 1 in its batch as predecessors. `ops` names the stage of each. -/
def State.optBatches (s : State) (h : OptHdr) (dlen back : Bool) (id : List Nat) (ops : List (Nat × OptShape)) : List OwnBatch :=
  (partsOf 256 ops.length ops).zipIdx.map (fun part =>
    { job := 1, bank := h.workspace.getLast?.getD 0, off := 0, dlen := dlen && h.dlen, deadline := if dlen && h.dlen then h.deadline else 0
      entries := part.1.zipIdx.map (fun q =>
        let before := part.1.zipIdx.filterMap (fun r => if r.1.1 = q.1.1 + 1 then some r.2 else none)
        let preds := if back then before.drop (before.length - 4) else []
        s.optEntry h q.1.2 q.1.1 preds (id ++ [part.2, q.2])) })

/-- The operations of iteration `i` with step `alpha`: before the first, the forward simulation of the start. -/
def State.iterBatches (s : State) (h : OptHdr) (i : Nat) (alpha : Int) (p : OptIter) : List OwnBatch :=
  let all := fun (f : Nat → List OptShape) => (upTo h.n).flatMap (fun k => (f k).map (fun q => (k, q)))
  let begin_ := if i = 1 then (if h.warm then [(0, h.shiftPlan)] else []) ++ all (fun _ => h.simulation) else []
  s.optBatches h true false [i, 0] begin_
  ++ s.optBatches h true true [i, 1] ((upTo h.n).reverse.flatMap (fun k => h.backward.map (fun q => (k, q))))
  ++ s.optBatches h true false [i, 2] (all (fun _ => h.forward))
  ++ s.optBatches h true false [i, 3] (all (fun k => h.updates alpha (lget p.ss k []).length))

/-- R229: the guard and publication batches, with DLEN = 0: the simulation of a plan that is no iterate, and the copies of inputs
and states with their conversion. -/
def State.publishBatches (s : State) (h : OptHdr) (fallback : Bool) : List OwnBatch :=
  let sim := if fallback then (if h.warm then [(0, h.shiftPlan)] else []) ++ (upTo h.n).flatMap (fun k => h.simulation.map (fun q => (k, q))) else []
  s.optBatches h false false [0, 4] (sim ++ [(0, { opc := 13, param := h.n, x := (h.n, h.nu), z := (h.n, h.nu) }),
    (0, { opc := 13, param := h.n, x := (h.n, h.nx), z := (h.n, h.nx) })])

/-! ### The output guard (R225) and the residual (R226) -/

/-- The guarded stage 0 with the flags of the guard. -/
structure Guarded where
  u : List Int
  clipped : Bool
  secz : Nat
  azblk : Nat
  pscale : Bool
  pzero : Bool
  scale : Nat
  pest : Nat
deriving DecidableEq, Repr

/-- An input that belongs to a thruster. -/
def thrusterInput (ts : List Thruster) (i : Nat) : Bool := ts.any (fun t => t.ix == i || (!t.fixed && t.iy == i))

/-- R219, R225: the guard on stage 0. An input whose box is empty takes a free value (the spec gives none). -/
def State.optGuard (s : State) (h : OptHdr) (grant : Nat) (u0 : List Int) : Guarded :=
  let ts := s.thrusters h
  let clip := u0.zipIdx.map (fun p =>
    let b := s.optBox0 h ts p.2
    if b.2 < b.1 then sw (Config.optWord (s.optData h grant) [2, p.2]) else clampI b.1 b.2 p.1)
  let sect := ts.zipIdx.foldl (fun (q : List Int × Nat × Nat) p =>
    let t := p.1
    if t.fixed then q
    else
      let fx := lget q.1 t.ix 0
      let fy := lget q.1 t.iy 0
      let (e1, e2, blocked) := t.edges 0 (s.optUprev h t.ix) (s.optUprev h t.iy)
      let lim : Int := (h.epsP : Int) * (2 ^ (h.fu + 14) : Nat)
      let bad := (t.violations e1 e2 fx fy).any (fun v => decide (lim < v))
      let u := if bad || blocked then lset (lset q.1 t.ix 0) t.iy 0 else q.1
      (u, q.2.1 + (if bad then 2 ^ p.2 else 0), q.2.2 + (if blocked then 2 ^ p.2 else 0))) (clip, 0, 0)
  let f := fun (l : List Int) (i : Nat) => lget l i 0
  let p0 := powerSum ts h.fu (f sect.1)
  let k : Nat := grant * 2 ^ 30 / p0
  let above := decide (grant < p0)
  let scaled := if above then sect.1.zipIdx.map (fun p =>
      if thrusterInput ts p.2 then Int.tdiv (p.1 * (k : Int)) (2 ^ 30 : Nat) else p.1) else sect.1
  let p1 := powerSum ts h.fu (f scaled)
  let zero := decide (grant < p1)
  let u := if zero || grant == 0 then scaled.zipIdx.map (fun p => if thrusterInput ts p.2 then 0 else p.1) else scaled
  { u := u, clipped := clip != u0, secz := sect.2.1, azblk := sect.2.2, pscale := above, pzero := zero
    scale := if above then k else 2 ^ 30, pest := powerSum ts h.fu (f u) }

/-- R226: the residual: three components with their exact fraction bits FU + 30, FU + 30, FU + 46. -/
def State.optResidual (s : State) (h : OptHdr) (u : List Int) : List (Int × Nat) :=
  let g := h.fu + 30
  let f := fun i => lget u i 0
  let forces := (s.thrusters h).map (fun t =>
    if t.fixed then (f t.ix * cosI t.theta, f t.ix * sinI t.theta, t.lx, t.ly)
    else (f t.ix * (2 ^ 30 : Nat), f t.iy * (2 ^ 30 : Nat), t.lx, t.ly))
  let sx := (forces.map (fun q => q.1)).foldl (· + ·) 0
  let sy := (forces.map (fun q => q.2.1)).foldl (· + ·) 0
  let sn := (forces.map (fun q => q.2.2.1 * q.2.1 - q.2.2.2 * q.1)).foldl (· + ·) 0
  [(align (s.optTau h 0) h.fu g - sx, g), (align (s.optTau h 1) h.fu g - sy, g),
   (align (s.optTau h 2) (h.fu - 8) (g + 16) - sn, g + 16)]

/-! ### The steps of a run -/

/-- R232, R236, R237: the run ends with a summary; `counter` counts its outcome. -/
def State.optEnd (s : State) (r : OptRun) (h : OptHdr) (sum : Word) (counter : Nat) : State :=
  let s := s.updTicket r.ticket (fun t => { t with complete := true, sum := sum, stamp := s.tmbNs })
  let s := (s.bump counter).drop Reg.OPT_NPEND
  let s := s.setReg Reg.OPT_STAT (setFld (setBit (s.reg Reg.OPT_STAT) 31 false) 11 9 (fld sum 31 29))
  let s := (s.setReg Reg.OPT_RUNT (wd (s.tb.el - r.start))).setReg Reg.OPT_MACS (wd r.macs)
  let s := s.updOpt (fun q => { q with run := none, endClk := some s.clk })
  let s := if h.nen then s.notifyClause h.ncl r.seq r.ticket else s
  if h.arel then s.releaseTicket r.ticket else s

/-- R199, R220: the deadline of the run has come. -/
def State.optDue (s : State) (h : OptHdr) : Bool := h.dlen && decide (0 ≤ turnDiff s.tmbNs h.deadline)

/-- R229: the run goes on to its guard and publication. -/
def State.beginPublish (s : State) (h : OptHdr) (r : OptRun) : State :=
  (s.updOpt (fun q => { q with run := some { r with phase := .publish } })).startJob 1 (s.publishBatches h r.best.isNone)

/-- R220, R223: the next iteration begins, unless it was the last or the deadline has come. -/
def State.beginIteration (s : State) (h : OptHdr) (r : OptRun) : State :=
  if h.iter ≤ r.done then s.beginPublish h r
  else if s.optDue h then s.beginPublish h { r with dln := true }
  else
    let a := s.optAdvance h r.grant (r.done + 1) r.cur
    let s := s.updOpt (fun q => { q with run := some { r with phase := .iterate, next := (a.2.1, a.2.2) } })
    (s.setRegF Reg.OPT_STAT 17 12 (r.done + 1)).startJob 1 (s.iterBatches h (r.done + 1) a.1 r.cur)

/-- R170: the sequencer reads the header and the blocks it names. -/
def State.optReads (s : State) (r : OptRun) (h : OptHdr) : State :=
  (h.blocks.filter (fun b => b.1 != 14)).foldl (fun s b => s.readWords (blockAddr (h.w b.1)) b.2) (s.readWords (bankAddr r.bank r.off) 20)

/-- OPT_VALIDATION_END (R212). -/
def execOptValidationEnd (s : State) : Host.Outcome State Fault Refusal :=
  .next (
    match s.opt.run with
    | none => s
    | some r =>
      if r.phase ≠ .check then s
      else
        let h := s.optHdr r.bank r.off
        let f := s.optFault h
        let s := s.optReads r h
        match f with
        | some k =>
          (((s.setBitR Reg.OPT_STK 1).record .optRefused 0 [k]).optEnd r h (wd (4 * 2 ^ 29)) Reg.OPT_NREF).updOpt (fun q => { q with lastDeg := false })
        | none => s.beginIteration h { r with cur := s.optBegin h r.grant })

/-- What a job of the run has met (R226 to R231). -/
def OptRun.met (r : OptRun) (q : JobState) : OptRun :=
  { r with macs := r.macs + q.macs, reg := r.reg || q.reg, range := r.range || q.range.isSome }

/-- OPT_ITERATION_END (R221, R222): every batch of the iteration has completed: the iterate is tested, or the iteration has failed;
one cut by the deadline is no failure (the worked budget: ITFAIL clear). -/
def execOptIterationEnd (s : State) : Host.Outcome State Fault Refusal :=
  .next (
    match s.opt.run with
    | none => s
    | some r =>
      let q := s.job 1
      if r.phase ≠ .iterate ∨ q.busy = true then s
      else
        let h := s.optHdr r.bank r.off
        let r := r.met q
        if q.late then s.beginPublish h { r with dln := true, itfail := q.bad }
        else if q.bad || r.next.2 then s.beginPublish h { r with itfail := true }
        else
          let p := r.next.1
          let (rp, cm) := s.optTest h r.grant p
          let ok := decide (rp ≤ h.epsP) && decide (cm ≤ h.epsC)
          s.beginIteration h { r with done := r.done + 1, cur := p, best := if ok then some ⟨r.done + 1, rp, cm, p⟩ else r.best })

/-- R223: the outcome: its code, the plan, the pass it rests on. -/
def State.optOutcome (s : State) (r : OptRun) (h : OptHdr) : Nat × OptIter × Option OptPass :=
  match r.best with
  | some p => if p.iter = h.iter then (0, p.plan, some p) else (1, p.plan, some p)
  | none => if h.warm then (2, s.warmPlan h, none) else (3, s.zeroPlan h, none)

/-- R231: the summary of a run that publishes. -/
def optSummary (code : Nat) (g : Guarded) (resid deg dln itfail range reg : Bool) (done used : Nat) : Word :=
  wd (code * 2 ^ 29 + b2n g.clipped * 2 ^ 28 + b2n g.pscale * 2 ^ 27 + b2n (g.secz != 0) * 2 ^ 26 + b2n (g.azblk != 0) * 2 ^ 25
    + b2n resid * 2 ^ 24 + b2n deg * 2 ^ 23 + b2n dln * 2 ^ 22 + b2n itfail * 2 ^ 21 + b2n range * 2 ^ 20
    + b2n g.pzero * 2 ^ 19 + b2n reg * 2 ^ 18 + done * 2 ^ 12 + used * 2 ^ 6)

/-- R227: the DEGRADED records at the end of a run. -/
def State.optDegrade (s : State) (code : Nat) (deg : Bool) : State :=
  let s1 := if deg && !s.opt.lastDeg then (s.updOpt (fun q => { q with degOn := true })).record .optDegraded 0 [] else s
  let s2 := if code == 0 && s1.opt.degOn then (s1.updOpt (fun q => { q with degOn := false })).record .optDegradedEnd 0 [] else s1
  s2.updOpt (fun q => { q with lastDeg := deg })

/-- R219, R225 to R231: the guard, the residual and the result block; without a grant no thruster has a force on any stage. -/
def State.optPublish (s : State) (r : OptRun) (h : OptHdr) : State :=
  let (code, plan, pass) := s.optOutcome r h
  let ts := s.thrusters h
  let g := s.optGuard h r.grant (lget plan.us 0 [])
  let res := s.optResidual h g.u
  let outF := [h.fu, h.fu, h.fu - 8]
  let resW := (res.zipIdx).map (fun p => wdi (wrInt p.1.1 p.1.2 (lget outF p.2 0)))
  let resid := res.any (fun p => decide ((h.epsP : Int) < ((wrInt p.1 p.2 16).natAbs : Int)))
  let fbout := if code = 0 then 0 else min (h.fbin + 1) 255
  let deg := decide (r.limit ≤ fbout)
  let sum := optSummary code g resid deg r.dln r.itfail r.range r.reg r.done ((pass.map OptPass.iter).getD 0)
  let rest := (plan.us.drop 1).map (fun u => if r.grant = 0 then u.zipIdx.map (fun p => if thrusterInput ts p.2 then 0 else p.1) else u)
  let us := g.u :: rest
  let blk : List Word :=
    [sum, wd fbout, wd r.grant, wd g.pest] ++ resW
    ++ [wd ((pass.map OptPass.rp).getD 0), wd ((pass.map OptPass.cm).getD 0), wd g.azblk, wd g.secz, wd g.scale,
        wd (h.n * 2 ^ 26 + h.nx * 2 ^ 20 + h.nu * 2 ^ 14)]
    ++ List.replicate 7 0 ++ us.flatten.map wdi ++ plan.xs.flatten.map wdi
  let s := s.storeWords (blockAddr (h.w 14)) blk
  let s := if deg then s.setBitR Reg.OPT_STK 0 else s
  let s := if r.dln then s.setBitR Reg.OPT_STK 2 else s
  let s := if r.itfail then s.setBitR Reg.OPT_STK 3 else s
  let s := if g.pscale then s.setBitR Reg.OPT_STK 4 else s
  let s := if g.pzero then s.setBitR Reg.OPT_STK 5 else s
  let s := (s.setRegF Reg.OPT_STAT 7 0 fbout).optDegrade code deg
  s.optEnd r h sum (match code with
    | 0 => Reg.OPT_NSOLV
    | 1 => Reg.OPT_NEARLY
    | 2 => Reg.OPT_NWARM
    | _ => Reg.OPT_NZERO)

/-- OPT_RUN_COMPLETE (R223, R229, R230): the guard and publication batches have completed. -/
def execOptRunComplete (s : State) : Host.Outcome State Fault Refusal :=
  .next (
    match s.opt.run with
    | none => s
    | some r =>
      if r.phase = .publish ∧ (s.job 1).busy = false then s.optPublish (r.met (s.job 1)) (s.optHdr r.bank r.off) else s)

/-- OPT_FBLIM_WRITE (R235): LIMIT = 0 is refused with LEN_ERR; another value is staged. -/
def State.optFblim (s : State) (p : Party) (v : Word) : State :=
  if fld v 7 0 = 0 then s.partyEsf p .lenErr else s.stage p Reg.OPT_FBLIM v

/-- OPT_FBLIM_WRITE (R235): A staged write of the fallback limit is accepted or refused. -/
def execOptFblimWrite (p : Party) (v : Word) (s : State) : Host.Outcome State Fault Refusal :=
  .next (s.portWrite p Reg.OPT_FBLIM (fun s => s.optFblim p v))

end Sys2Proof.Machine
end

