-- ==== Sys2Proof/Machine/Fusion.lean ====
section
/-! DEFINITION. Machine/Fusion.lean: the reference fusion engine (spec/10_reference_fusion.md R267 to R297). The mechanisation of
a frame, the elements of F for states 0 to 14, the attitude after a correction and the formats of the batches' inner operands are
free (Config.fusWord), as functions of what they are formed of: the chapter does not state them to the bit
(notes/assumptions/43.md). Everything else is computed; the matrix operations are batches of the solver array. -/
namespace Sys2Proof.Machine


/-- The fusion engine changed. -/
def State.updFus (s : State) (f : Fusion → Fusion) : State := { s with fus := f s.fus }

/-- Reference slot `k`. -/
def State.rf (s : State) (k : Nat) : FusSlot := mgetD s.fus.slots k {}

/-- A reference slot changed. -/
def State.updRf (s : State) (k : Nat) (f : FusSlot → FusSlot) : State :=
  s.updFus (fun q => { q with slots := mput q.slots k (f (s.rf k)) })

/-- The engine runs. -/
def State.fusOn (s : State) : Bool := s.regB Reg.FUS_CTL 31

/-- FPER, ns. -/
def State.fper (s : State) : Nat := s.regF Reg.FUS_CTL 16 0 * 1000

/-- NERR. -/
def State.nerr (s : State) : Nat := s.regF Reg.FUS_CTL 28 24

/-- TYPE of a slot. -/
def State.rfType (s : State) (k : Nat) : Nat := s.regF (Reg.FUS_SCFG k) 30 28

/-- R270: the element length that a header and a TYPE give; 0 where they give none. -/
def elemLen (type : Nat) (h : Word) : Nat :=
  match type with
  | 0 => 4
  | 2 => 3
  | 1 => if 1 ≤ fld h 23 16 ∧ fld h 23 16 ≤ 32 then 2 + 2 * fld h 23 16 else 0
  | _ => 0

/-- R272: an element is delivered into a slot. -/
def State.fusDeliver (s : State) (k : Nat) (ws : List Word) : State :=
  if s.fusOn && s.regB (Reg.FUS_SCFG k) 31 then
    let s := if (s.rf k).held.isSome then s.bump (Reg.FUS_REJ_OVW k) else s.bump (Reg.FUS_NPEND k)
    (s.bump (Reg.FUS_NRECV k)).updRf k (fun x => { x with held := some (ws, s.tb.el) })
  else s

/-- FUS_POST (R271): the party's element buffer is copied into a slot, or the post is refused. -/
def State.doFusPost (s : State) (p : Party) (v : Word) : State :=
  let k := fld v 12 8
  let n := fld v 6 0
  let h := s.preg (partyNo p) (Reg.FUS_PBUF 0)
  if 12 < k ∨ n = 0 ∨ n ≠ elemLen (s.rfType k) h then (s.partyEsf p .lenErr).setBitR Reg.FUS_STK 0
  else s.fusDeliver k ((List.range n).map (fun i => s.preg (partyNo p) (Reg.FUS_PBUF i)))

/-- FUS_POST (R271): A write copies the party's element buffer into a reference slot. -/
def execFusPost (p : Party) (v : Word) (s : State) : Host.Outcome State Fault Refusal :=
  .next (s.portWrite p Reg.FUS_POST (fun s => s.doFusPost p v))

/-! ### Nominal state -/

/-- Word `k` of a nominal state. -/
def nomW (n : List Word) (k : Nat) : Int := sw (lget n k 0)

/-- R282: the attitude normalised. -/
def normQ (n : List Word) : List Word :=
  let sq := ((List.range 4).map (fun i => nomW n (6 + i) * nomW n (6 + i))).foldl (· + ·) 0
  if sq ≤ 0 then n
  else n.zipIdx.map (fun p => if 6 ≤ p.2 ∧ p.2 < 10 then sat32 (mrsqRaw (sw p.1) 30 sq 60 30) else p.1)

/-- R282: the rows c_i1, c_i2, c_i3 of C, Q1.30, of a nominal state. -/
def rotC (n : List Word) (i : Nat) : List Int :=
  let q := fun k => nomW n (6 + k)
  let w := fun (x : Int) => wrInt x 60 30
  match i with
  | 0 => [w (q 0 * q 0 + q 1 * q 1 - q 2 * q 2 - q 3 * q 3), w (2 * (q 1 * q 2 - q 0 * q 3)), w (2 * (q 1 * q 3 + q 0 * q 2))]
  | 1 => [w (2 * (q 1 * q 2 + q 0 * q 3)), w (q 0 * q 0 - q 1 * q 1 + q 2 * q 2 - q 3 * q 3), w (2 * (q 2 * q 3 - q 0 * q 1))]
  | _ => [w (2 * (q 1 * q 3 - q 0 * q 2)), w (2 * (q 2 * q 3 + q 0 * q 1)), w (q 0 * q 0 - q 1 * q 1 - q 2 * q 2 + q 3 * q 3)]

/-- Component `i` of C times a body vector, Q15.16. -/
def rotate (n : List Word) (i : Nat) (v : List Int) : Int :=
  wrInt (((List.range 3).map (fun j => lget (rotC n i) j 0 * lget v j 0)).foldl (· + ·) 0) 46 16

/-- Heading, roll and pitch of a nominal state, turn32 (PRESUMED: the usual Euler angles of C). -/
def heading (n : List Word) : Word := (atan2Op (lget (rotC n 1) 0 0) (lget (rotC n 0) 0 0)).1
def rollOf (n : List Word) : Word := (atan2Op (lget (rotC n 2) 1 0) (lget (rotC n 2) 2 0)).1
def pitchOf (n : List Word) : Word :=
  let a := lget (rotC n 0) 0 0
  let b := lget (rotC n 1) 0 0
  (atan2Op (-(lget (rotC n 2) 0 0)) (sqrtRound (a * a + b * b).toNat 1 : Int)).1

/-! ### Intake (R272 to R276) -/

/-- A decided element leaves the pending count of its slot for another counter. -/
def State.fusDecide (s : State) (k counter : Nat) : State := (s.drop (Reg.FUS_NPEND k)).bump counter

/-- R275, R276: the time alignment of a stamped element at instant `inst`: whether it slipped, and its time. -/
def State.alignStamp (s : State) (k : Nat) (stamp inst : Word) : State × Bool × Word :=
  if k = 8 ∨ k = 9 then (s, false, stamp)
  else
    let x := s.rf k
    let obs := inst - stamp
    let slip := match x.oprev with
      | some o => decide ((s.fper : Int) < ((obs - o).toInt.natAbs : Int))
      | none => false
    let est := match x.oest with
      | none => obs
      | some o =>
        if slip || decide ((obs - o).toInt < 0) then obs
        else o + wdi (rdiv (obs - o).toInt (s.regF (Reg.FUS_SCFG k) 25 21))
    let s := if slip then
        let s := s.setBitR Reg.FUS_STK 3
        if x.slip then s else s.record .fusTimeSlip k [k, obs.toNat, (x.oprev.getD 0).toNat]
      else s
    let s := s.updRf k (fun x => { x with oest := some est, oprev := some obs, slip := slip })
    ((s.setReg (Reg.FUS_SSTAT k) (if slip then 0x80000000 else 0)).setReg (Reg.FUS_OFF k) est, slip, stamp + est)

/-- R241, R273: the element a slot holds is taken at the frame instant `inst` (elapsed time `el`), if it was delivered before it,
and decided. -/
def State.takeElement (s : State) (k : Nat) (inst : Word) (el : Nat) : State :=
  match (s.rf k).held with
  | none => s
  | some (ws, del) =>
    if el ≤ del then s
    else
    let s := s.updRf k (fun x => { x with held := none })
    let h := lget ws 0 0
    if ws.length ≠ elemLen (s.rfType k) h ∨ bit h 31 = false ∨ fld h 15 0 = 0 then s.fusDecide k (Reg.FUS_REJ_INV k)
    else
      let (s, slip, tm) := if bit h 30 then s.alignStamp k (lget ws 1 0) inst
        else ((s.updRf k (fun x => { x with slip := false })).setReg (Reg.FUS_SSTAT k) 0, false,
          inst - wd (s.regF (Reg.FUS_SCFG k) 15 0 * 1000))
      if 2000000000 < turnDiff inst tm then s.fusDecide k (Reg.FUS_NLATE k)
      else if slip && s.regB (Reg.FUS_SCFG k) 27 then s.fusDecide k (Reg.FUS_REJ_SLIP k)
      else if 64 ≤ s.fus.queue.length then (s.fusDecide k (Reg.FUS_REJ_QFULL k)).setBitR Reg.FUS_STK 6
      else s.updFus (fun q => { q with queue := q.queue ++ [{ frame := q.frame, slot := k, words := ws, tm := tm, slip := slip, el := el }] })

/-! ### Prediction and fixes (R277, R282) -/

/-- R277: the stored frame for a measurement time: the latest whose instant does not lie after it. -/
def State.frameFor (s : State) (tm : Word) : Option (Nat × List Word) :=
  (s.fus.hist.filter (fun f => decide (0 ≤ turnDiff tm (wd f.1)))).getLast?

/-- R277: the predicted position at a measurement time, component `i`, and the nominal state that serves. Before
the history the prediction is a free value (the spec states none). -/
def State.predict (s : State) (tm : Word) : List Int × List Word :=
  match s.frameFor tm with
  | some (inst, n) =>
    let dt := turnDiff tm (wd inst)
    ((List.range 3).map (fun i => satTo 32 (nomW n i + satTo 32 (rquo (nomW n (3 + i) * dt) 1000000000))), n)
  | none => ((List.range 3).map (fun i => sw (Config.fusWord (tm :: s.fus.nom) [5, i])), s.fus.nom)

/-- The lever arm of a slot. -/
def State.lever (s : State) (k : Nat) : List Int := [sw (s.reg (Reg.FUS_LX k)), sw (s.reg (Reg.FUS_LY k)), sw (s.reg (Reg.FUS_LZ k))]

/-- R282: the prediction in the sensor frame of a slot at a measurement time, component `i`: p̂ + a. -/
def State.sensorPred (s : State) (k : Nat) (tm : Word) (i : Nat) : Int :=
  let p := s.predict tm
  wrInt (lget p.1 i 0 + rotate p.2 i (s.lever k)) 16 16

/-- R286, R288: VAR × VSC / 256, times SLIPINF on slip: 40 fraction bits. -/
def State.fixVar (s : State) (k : Nat) (h : Word) (slip : Bool) : Int :=
  let v := sw (s.reg (Reg.FUS_VAR k)) * (fld h 15 0 : Nat)
  if slip then v * sw (s.reg (Reg.FUS_SLIP k)) else v * (2 ^ 16 : Nat)

/-- R282: target `j` of a relative element in the body frame. -/
def State.bodyTarget (s : State) (k : Nat) (ws : List Word) (j : Nat) : List Int :=
  let (sn, cs) := sincosOp (s.reg (Reg.FUS_SYAW k))
  let x := sw (lget ws (2 + 2 * j) 0)
  let y := sw (lget ws (3 + 2 * j) 0)
  let l := s.lever k
  [wrInt (lget l 0 0 * (2 ^ 30 : Nat) + sw cs * x - sw sn * y) 46 16,
   wrInt (lget l 1 0 * (2 ^ 30 : Nat) + sw sn * x + sw cs * y) 46 16, lget l 2 0]

/-! ### Track association (R286, R287) -/

/-- The auction's state: prices and owners by track, tracks by measurement, measurements out. -/
structure Auction where
  price : SMap Int := []
  owner : SMap Nat := []
  asg : SMap Nat := []
  out : List Nat := []
deriving DecidableEq, Repr

/-- The best of a list of (track, value), the lowest track on a tie. -/
def bestOf (l : List (Nat × Int)) : Option (Nat × Int) :=
  l.foldl (fun b c => match b with
    | none => some c
    | some d => if d.2 < c.2 then some c else b) none

/-- One bid of measurement `j`, whose allowed tracks have these benefits. -/
def Auction.bid (a : Auction) (j : Nat) (allowed : List (Nat × Int)) (eps : Int) : Auction :=
  let net := allowed.map (fun p => (p.1, p.2 - mgetD a.price p.1 0))
  match bestOf net with
  | none => { a with out := a.out ++ [j] }
  | some (tb, best) =>
    if best < 0 then { a with out := a.out ++ [j] }
    else
      let second := max 0 (((bestOf (net.filter (fun p => p.1 != tb))).map (fun p => p.2)).getD 0)
      let price := satTo 32 (mgetD a.price tb 0 + best - second + eps)
      let asg := match mget a.owner tb with
        | some o => mdel a.asg o
        | none => a.asg
      { a with price := mput a.price tb price, owner := mput a.owner tb j, asg := mput asg j tb }

/-- R286: 64 rounds of bids. -/
def auction (nt : Nat) (allowed : Nat → List (Nat × Int)) (eps : Int) : Auction :=
  iter 64 (fun _ a => iter nt (fun j a =>
    if (mget a.asg j).isSome || a.out.contains j then a else a.bid j (allowed j) eps) a) {}

/-- R286, R287: a relative element is associated with the tracks of its slot; the answer is its fix. -/
def State.associate (s : State) (q : FusEntry) : State × Option (Int × Int) :=
  let k := q.slot
  let h := lget q.words 0 0
  let nt := fld h 23 16
  let (pr, nom) := s.predict q.tm
  let cb := fun j => (List.range 2).map (fun i => rotate nom i (s.bodyTarget k q.words j))
  let g := fun j => (satTo 32 (lget pr 0 0 + lget (cb j) 0 0), satTo 32 (lget pr 1 0 + lget (cb j) 1 0))
  let den := sw (s.reg (Reg.FUS_VAR k)) * (fld h 15 0 : Nat)
  let gate := sw (s.reg (Reg.FUS_AGATE k))
  let cost := fun (i : Nat) (t : FusTrack) (j : Nat) =>
    let dn := t.n - (g j).1
    let de := t.e - (g j).2
    if den ≤ 0 then sw (Config.fusWord [wdi dn, wdi de, s.reg (Reg.FUS_VAR k)] [6, i, j]) else satTo 32 (mrcpRaw (dn * dn + de * de) 32 den 24 16)
  let tracks := (s.rf k).tracks
  let allowed := fun j => tracks.filterMap (fun t => let c := cost t.1 t.2 j; if gate < c then none else some (t.1, gate - c))
  let a := auction nt allowed (sw (s.reg (Reg.FUS_AEPS k)))
  -- tracks assigned and unassigned
  let tr := tracks.filterMap (fun t =>
    match mget a.owner t.1 with
    | some j =>
      let hits := t.2.hits + 1
      if t.2.conf then some (t.1, { t.2 with hits := hits, misses := 0 })
      else some (t.1, { conf := decide (3 ≤ hits), hits := hits, misses := 0, n := (g j).1, e := (g j).2 })
    | none => if 10 ≤ t.2.misses + 1 then none else some (t.1, { t.2 with misses := t.2.misses + 1 }))
  -- measurements unassigned
  let tr := iter nt (fun j (m : SMap FusTrack) =>
    if (mget a.asg j).isSome then m
    else match findFrom (fun i => (mget m i).isNone) 32 0 with
      | some i => mput m i { conf := false, hits := 1, misses := 0, n := (g j).1, e := (g j).2 }
      | none => m) tr
  let s := s.updRf k (fun x => { x with tracks := tr })
  let nconf := (tr.filter (fun t => t.2.conf)).length
  let s := s.setReg (Reg.FUS_TRK k) (wd (nconf * 256 + (tr.length - nconf)))
  let pairs := tr.filterMap (fun t => if t.2.conf then (mget a.owner t.1).map (fun j => (t.2, j)) else none)
  if pairs.isEmpty then (s, none)
  else
    let sum := fun (f : FusTrack → Int) (i : Nat) => (pairs.map (fun p => f p.1 - lget (cb p.2) i 0)).foldl (· + ·) 0
    (s, some (satTo 32 (rquo (sum FusTrack.n 0) pairs.length), satTo 32 (rquo (sum FusTrack.e 1) pairs.length)))

/-! ### Gates and votes (R283, R284) -/

/-- A fix with its innovation: position components in Q15.16 m, or a heading difference in turn32 and degrees. -/
structure Fix where
  entry : FusEntry
  nu1 : Int
  nu2 : Int
  inside : Bool
deriving DecidableEq, Repr

/-- The word offsets of the engine's operands in its workspace bank (DESIGN CHOICE, notes/assumptions/59.md): the P buffers, T, F, H,
U, S, Y, the innovations, δx, the diagonal of R, the descriptors of the two batches. -/
def fusP (sel : Nat) : Nat := 576 * (sel % 2)
abbrev fusT : Nat := 1152
abbrev fusF : Nat := 1728
abbrev fusH : Nat := 2304
abbrev fusU : Nat := 2880
abbrev fusS : Nat := 3456
abbrev fusY : Nat := 4032
abbrev fusNu : Nat := 4608
abbrev fusDx : Nat := 4640
abbrev fusR : Nat := 4672
abbrev fusDescP : Nat := 4800
abbrev fusDescU : Nat := 4900

/-- The byte address of word `w` of the engine's workspace bank. -/
def State.fusAddr (s : State) (w : Nat) : Nat := bankAddr s.fus.bank (4 * w)

/-- Words stored in the engine's workspace bank. -/
def State.fusPut (s : State) (w : Nat) (l : List Int) : State := s.storeWords (s.fusAddr w) (l.map wdi)

/-- `n` words of the engine's workspace bank. -/
def State.fusGet (s : State) (w n : Nat) : List Int := (s.bankWords (s.fusAddr w) n).map sw

/-- Element (i, j) of P. -/
def State.cov (s : State) (i j : Nat) : Int := sw (s.bankWord s.fus.bank (4 * (fusP s.fus.psel + i * s.nerr + j)))

/-- Element (i, j) of P aligned to 40 fraction bits. -/
def State.cov40 (s : State) (i j : Nat) : Int := align (s.cov i j) (s.regF Reg.FUS_CTL 23 19) 40

/-- R283: a variance in mrad² with 40 fraction bits in degrees², by (180 / 1000 π)² from the working value of π. -/
def mradToDeg2 (x : Int) : Int := rquo (x * (180 * 180 * 2 ^ (2 * trigBits) : Nat)) (piFix * piFix * 1000000).toNat

/-- R283: d² of a position innovation. -/
def State.gateD2 (s : State) (r nu1 nu2 : Int) : Int :=
  let s11 := s.cov40 0 0 + r
  let s22 := s.cov40 1 1 + r
  let s12 := s.cov40 0 1
  let den := s11 * s22 - s12 * s12
  if den ≤ 0 then 0x7FFFFFFF
  else satTo 32 (mrcpRaw (s22 * nu1 * nu1 - 2 * s12 * nu1 * nu2 + s11 * nu2 * nu2) 72 den 80 16)

/-- R283: d² of a heading innovation in degrees; S is the heading element of P, in degrees², and R. -/
def State.gateH2 (s : State) (r nu : Int) : Int :=
  let v := mradToDeg2 (s.cov40 8 8) + r
  if v ≤ 0 then 0x7FFFFFFF else satTo 32 (mrcpRaw (nu * nu) 32 v 40 16)

/-- The position fix of an entry with its innovation; none where a relative element finds no confirmed pair. -/
def State.posFix (s : State) (q : FusEntry) : State × Option Fix :=
  let (s, z) : State × Option (Int × Int) :=
    if s.rfType q.slot = 1 then s.associate q
    else
      let (_, nom) := s.predict q.tm
      (s, some (satTo 32 (sw (lget q.words 2 0) - rotate nom 0 (s.lever q.slot)),
                satTo 32 (sw (lget q.words 3 0) - rotate nom 1 (s.lever q.slot))))
  match z with
  | none => (s, none)
  | some (zn, ze) =>
    let (pr, _) := s.predict q.tm
    let n1 := zn - lget pr 0 0
    let n2 := ze - lget pr 1 0
    let d := s.gateD2 (s.fixVar q.slot (lget q.words 0 0) q.slip) n1 n2
    (s, some { entry := q, nu1 := n1, nu2 := n2, inside := decide (d ≤ sw (s.reg Reg.FUS_GATE)) })

/-- The heading fix of an entry: the difference in turn32, and the gate on degrees. -/
def State.hdgFix (s : State) (q : FusEntry) : Fix :=
  let (_, nom) := s.predict q.tm
  let psi := lget q.words 2 0 - s.reg (Reg.FUS_LX q.slot)
  let d := s.gateH2 (s.fixVar q.slot (lget q.words 0 0) q.slip) (degDiff psi (heading nom))
  { entry := q, nu1 := turnDiff psi (heading nom), nu2 := 0, inside := decide (d ≤ sw (s.reg Reg.FUS_GATE)) }

/-- The maximum absolute component of the difference of two innovations; headings in turn32. -/
def nuDiff (hdg : Bool) (a b : Int × Int) : Nat :=
  if hdg then (sext 32 ((a.1 - b.1) % (2 ^ 32 : Nat)).toNat).natAbs else max (a.1 - b.1).natAbs (a.2 - b.2).natAbs

/-- The median of a list. -/
def median (l : List Int) : Int :=
  let m := l.mergeSort (fun a b => decide (a ≤ b))
  let n := m.length
  if n % 2 = 1 then lget m (n / 2) 0 else rdiv (lget m (n / 2 - 1) 0 + lget m (n / 2) 0) 1

/-- R284: what a vote says of a fresh fix. -/
inductive Verdict where
  | accept | gate | vote | conf
deriving DecidableEq, Repr

/-- R284: the decision on fix `f` in a vote set of innovations with their gates. -/
def verdict (hdg : Bool) (set : List (Int × Int × Bool)) (f : Fix) (cthr vthr : Nat) : Verdict :=
  let byGate := if f.inside then Verdict.accept else .gate
  match set with
  | [] => byGate
  | [_] => byGate
  | [a, b] =>
    if nuDiff hdg (a.1, a.2.1) (b.1, b.2.1) ≤ cthr then byGate
    else if a.2.2 == b.2.2 then .conf
    else if f.inside then .accept else .vote
  | a :: _ =>
    let m1 := if hdg then a.1 + median (set.map (fun x => sext 32 ((x.1 - a.1) % (2 ^ 32 : Nat)).toNat)) else median (set.map (fun x => x.1))
    let m2 := median (set.map (fun x => x.2.1))
    if vthr < nuDiff hdg (f.nu1, f.nu2) (m1, m2) then .vote else byGate

/-- R284: the vote set: the fresh fixes of slots that vote, and the latest innovation of every other such slot taken
within VWIN. -/
def State.voteSet (s : State) (hdg : Bool) (fresh : List Fix) : List (Int × Int × Bool) :=
  let votes := fun k => s.regB (Reg.FUS_SCFG k) 31 && s.regB (Reg.FUS_SCFG k) 26
  let fs := fresh.filter (fun f => votes f.entry.slot)
  let others := (if hdg then [10, 11, 12] else List.range 10).filter (fun k => votes k && !(fs.any (fun f => f.entry.slot == k)))
  fs.map (fun f => (f.nu1, f.nu2, f.inside)) ++ others.filterMap (fun k =>
    match (s.rf k).innov with
    | some (a, b, el, ins) => if s.tb.el - el ≤ s.regF Reg.FUS_VWIN 15 0 * 1000000 then some (a, b, ins) else none
    | none => none)

/-- R284, R285: the fresh fixes of one kind are decided; the accepted entries are answered. -/
def State.decideFixes (s : State) (hdg : Bool) (fresh : List Fix) : State × List FusEntry :=
  let set := s.voteSet hdg fresh
  let cthr := (s.reg (if hdg then Reg.FUS_HCTHR else Reg.FUS_CTHR)).toNat
  let vthr := (s.reg (if hdg then Reg.FUS_HVTHR else Reg.FUS_VTHR)).toNat
  let (s, acc) := fresh.foldl (fun (q : State × List FusEntry) f =>
    let k := f.entry.slot
    let v := if q.1.regB (Reg.FUS_SCFG k) 26 then verdict hdg set f cthr vthr else if f.inside then .accept else .gate
    match v with
    | .accept => (q.1, q.2 ++ [f.entry])
    | .gate => (q.1.fusDecide k (Reg.FUS_REJ_GATE k), q.2)
    | .vote => (q.1.fusDecide k (Reg.FUS_REJ_VOTE k), q.2)
    | .conf =>
      let s := q.1.fusDecide k (Reg.FUS_REJ_CONF k)
      if s.fus.confArmed then
        (((s.updFus (fun x => { x with refconf := true, confArmed := false })).setBitR Reg.FUS_STK 1).record .fusRefConflict 0 [k], q.2)
      else (s.updFus (fun x => { x with refconf := true }), q.2)) (s, [])
  (fresh.foldl (fun s f => s.updRf f.entry.slot (fun x => { x with innov := some (f.nu1, f.nu2, f.entry.el, f.inside) })) s, acc)

/-! ### What a frame propagates with (R278, R279) -/

/-- R278: word `i` of the motion telegram; a free value while the telegram is invalid: no delivery within 2 × FPER. -/
def State.motionWord (s : State) (i : Nat) : Word :=
  match s.telegramWord (s.regF Reg.FUS_MSRC 13 8) (s.regF Reg.FUS_MSRC 7 0 + i) with
  | some (w, el) => if s.tb.el - el ≤ 2 * s.fper then w else Config.fusWord [w] [4, i]
  | none => Config.fusWord [] [4, i]

/-- Word `k` of the model block. -/
def State.fusModel (s : State) (k : Nat) : Int :=
  sw (s.bankWord (addrBank (s.reg Reg.FUS_MODA)) (addrOff (s.reg Reg.FUS_MODA) + 4 * k))

/-- R278, R293: what the frame at `inst` propagates with. -/
def State.frameInput (s : State) (inst : Nat) : FusInput :=
  { inst := inst, imuf := s.fus.imuf
    words := if s.regB Reg.FUS_CTL 30 then (List.range 9).map (fun i => s.motionWord i) else s.fus.imu.flatten
    tau := [sw (s.reg Reg.FUS_TAU0), sw (s.reg Reg.FUS_TAU1), sw (s.reg Reg.FUS_TAU2)]
    tel := [s.motionWord 0, s.motionWord 2], hdg := s.fus.hdgRef }

/-- v + a change over FPER, rounded by R5 and saturated by R6. -/
def State.overFrame (s : State) (x rate : Int) : Int :=
  satTo 32 (x + satTo 32 (rquo (rate * (s.regF Reg.FUS_CTL 16 0 : Nat)) 1000000))

/-- R279: the vessel model, one frame, on velocity `vm` with forces `tau`. -/
def State.vesselStep (s : State) (tau vm : List Int) : List Int :=
  (List.range 3).map (fun i =>
    let a := wrInt (((List.range 3).map (fun j => s.fusModel (33 + 3 * i + j) * lget tau j 0)).foldl (· + ·) 0
      - ((List.range 3).map (fun j => s.fusModel (42 + 3 * i + j) * lget vm j 0)).foldl (· + ·) 0) 46 16
    s.overFrame (lget vm i 0) a)

/-- R279: the horizontal velocity of the vessel model, north and east, at a heading. -/
def vesselNE (vm : List Int) (psi : Word) : Int × Int :=
  let (sn, cs) := sincosOp psi
  (wrInt (sw cs * lget vm 0 0 - sw sn * lget vm 1 0) 46 16, wrInt (sw sn * lget vm 0 0 + sw cs * lget vm 1 0) 46 16)

/-- R278, R279, R282: the nominal state propagated by one frame, then normalised. The mechanisation is free; with IMUF the
horizontal velocity is the vessel model's, the heading the references', roll and pitch are held (the position follows the
velocity: DEDUCED, notes/assumptions/43.md). -/
def State.propagate (s : State) (x : FusInput) (vm : List Int) (n : List Word) : List Word :=
  let key := n ++ x.words ++ [s.reg Reg.FUS_CTL]
  let free := (List.range (13 + (s.nerr - 9))).map (fun k => Config.fusWord key [0, k])
  if x.imuf then
    let (vn, ve) := vesselNE vm x.hdg
    let att := [x.hdg, rollOf n, pitchOf n]
    normQ (free.zipIdx.map (fun p => match p.2 with
      | 0 => wdi (s.overFrame (nomW n 0) vn)
      | 1 => wdi (s.overFrame (nomW n 1) ve)
      | 3 => wdi vn
      | 4 => wdi ve
      | k => if 6 ≤ k ∧ k < 10 then Config.fusWord att [2, k] else p.1))
  else normQ free

/-- OMIN and OMAX of R288. -/
def State.waveBound (s : State) (per : Nat) : Int := rquo ((2 ^ 32 * s.regF Reg.FUS_CTL 16 0 : Nat) : Int) (per * 100000)

/-- R288: the wave tracker, one frame: heave and roll from the telegram or the fused state. -/
def State.waveStep (s : State) (x : FusWave) (tel n : List Word) : FusWave :=
  let own := s.regB Reg.FUS_WCTL 30
  let heave := if own then -(nomW n 2) else sw (lget tel 1 0)
  let roll := degDiff (if own then rollOf n else lget tel 0 0) 0
  let sig := wrInt (sw (s.reg Reg.FUS_WH) * heave + sw (s.reg Reg.FUS_WR) * roll) 46 16
  let (bq, y, _) := x.bq.run true (fun k => s.reg (Reg.FUS_WBQ k)) sig
  let sn := sw (sincosOp x.phi).1
  let amp := satTo 32 (x.amp + rdiv ((y.natAbs : Int) - x.amp) 8)
  let den := max amp (sw (s.reg Reg.FUS_WAMIN))
  let num := -(rdiv (y * sn) 30)
  let pdn := if den ≤ 0 then sw (Config.fusWord [wdi num, wdi den] [7]) else satTo 32 (mrcpRaw num 16 den 16 16)
  let om := clampI (s.waveBound (s.regF Reg.FUS_WPER 31 16)) (s.waveBound (s.regF Reg.FUS_WPER 15 0)) (x.om + rdiv (sw (s.reg Reg.FUS_WKI) * pdn) 16)
  { x with amp := amp, om := om, phi := x.phi + wdi om + wdi (rdiv (sw (s.reg Reg.FUS_WKP) * pdn) 16), bq := bq }

/-- R289: the conditions of WVALID. -/
def State.waveOk (s : State) (x : FusWave) : Bool :=
  decide (sw (s.reg Reg.FUS_WAMIN) ≤ x.amp) && decide (s.waveBound (s.regF Reg.FUS_WPER 31 16) < x.om)
    && decide (x.om < s.waveBound (s.regF Reg.FUS_WPER 15 0))

/-- R288, R289: the wave tracker at a frame. -/
def State.waveFrame (s : State) (tel : List Word) : State :=
  if !(s.regB Reg.FUS_WCTL 31) then s
  else
    let w := s.waveStep s.fus.wave tel s.fus.nom
    let ok := s.waveOk w
    let rate := wdi (rquo w.om (s.regF Reg.FUS_CTL 16 0))
    let s := s.updFus (fun q => { q with wave := { w with okEl := if ok then some (w.okEl.getD s.tb.el) else none }, wvalid := q.wvalid && ok })
    let s : State := { s with wave := { phase := w.phi, rate := rate, stamp := s.tb.el - (s.tb.t - s.fus.lastInst), valid := s.fus.wvalid } }
    ((s.setReg Reg.FUS_WPH w.phi).setReg Reg.FUS_WRATE rate).setReg Reg.FUS_WAMP (wdi w.amp)

/-! ### The batches (R269, R280) -/

/-- A format of an operand of the batches that the chapter does not state. -/
def fusFmt (k : Nat) : Nat := (Config.fusWord [] [9, k]).toNat % 32

/-- An operand descriptor of the engine: word offset, stride, rows, columns, format. -/
def State.fusOp (s : State) (w stride rows cols f : Nat) : List Word :=
  [wd (s.fus.bank * 2 ^ 26 + w * 2 ^ 13 + stride), wd (rows * 2 ^ 25 + cols * 2 ^ 19 + f * 2 ^ 14)]

/-- An entry of the engine: opcode, flags (bits of word 0), predecessor, operands, PIVFLOOR, RBND, ALPHA. Every entry has SKS. -/
def fusEntry (opc flags : Nat) (pred : Option Nat) (x y z : List Word) (floor rbnd alpha : Word) : List Word :=
  [wd (opc * 2 ^ 26 + b2n pred.isSome * 2 ^ 22 + flags + 2 ^ 16), wd (pred.getD 0)] ++ x ++ y ++ z ++ [floor, rbnd, alpha, 0, 0, 0]

/-- R280: the entries of the propagation batch: T = F P, P' = T Fᵀ, P' = P' + QD (on the diagonal, a step of n + 1 words). -/
def State.propEntries (s : State) (sel : Nat) : List (List Word) :=
  let n := s.nerr
  let pf := s.regF Reg.FUS_CTL 23 19
  let m := s.reg Reg.FUS_MODA
  let f := s.fusOp fusF n n n 30
  let t := s.fusOp fusT n n n (fusFmt 0)
  let p' := s.fusOp (fusP (1 - sel)) n n n pf
  let qd := [wd (addrBank m * 2 ^ 26 + addrOff m / 4 * 2 ^ 13 + 1), wd (n * 2 ^ 25 + 1 * 2 ^ 19 + pf * 2 ^ 14)]
  let rb := fun (k : Nat) => Config.fusWord [] [8, k]
  [fusEntry 10 0 none f (s.fusOp (fusP sel) n n n pf) t 0 (rb 0) 0,
   fusEntry 10 (2 ^ 20) (some 0) t f p' 0 (rb 1) 0,
   fusEntry 12 0 (some 1) qd [0, 0] (s.fusOp (fusP (1 - sel)) (n + 1) n 1 pf) 0 (rb 2) 1]

/-- R280: the entries of the update batch with `nm` rows. -/
def State.updEntries (s : State) (nm sel : Nat) : List (List Word) :=
  let n := s.nerr
  let pf := s.regF Reg.FUS_CTL 23 19
  let h := s.fusOp fusH n nm n (fusFmt 1)
  let u := s.fusOp fusU n nm n (fusFmt 2)
  let sm := s.fusOp fusS nm nm nm (fusFmt 3)
  let l := s.fusOp fusS nm nm nm (fusFmt 4)
  let y := s.fusOp fusY n nm n (fusFmt 2)
  let v := s.fusOp fusNu 1 nm 1 16
  let rb := wdi (s.fusModel 53)
  let pv := wdi (s.fusModel 54)
  [fusEntry 10 0 none h (s.fusOp (fusP sel) n n n pf) u pv rb 0,
   fusEntry 10 (2 ^ 20) (some 0) u h sm pv rb 0,
   fusEntry 12 0 (some 1) (s.fusOp fusR 1 nm 1 16) [0, 0] (s.fusOp fusS (nm + 1) nm 1 (fusFmt 3)) pv rb 1,
   fusEntry 1 0 (some 2) sm [0, 0] l pv rb 0,
   fusEntry 7 0 (some 3) l [0, 0] y pv rb 0,
   fusEntry 10 (2 ^ 21 + 2 ^ 19 + 2 ^ 18) (some 4) y y (s.fusOp (fusP (1 - sel)) n n n pf) pv rb 0,
   fusEntry 4 0 (some 3) l [0, 0] v pv rb 0,
   fusEntry 5 0 (some 6) l [0, 0] v pv rb 0,
   fusEntry 10 (2 ^ 21) (some 7) u v (s.fusOp fusDx 1 n 1 (fusFmt 5)) pv rb 0]

/-- R269: a batch of the engine is submitted: DLEN = 1, DEADLINE the issue instant plus FPER less 50 µs. -/
def State.fusSubmit (s : State) (job desc : Nat) (entries : List (List Word)) : State :=
  s.startJob job [{ job := job, bank := s.fus.bank, off := 4 * desc, dlen := true
                    deadline := s.tmbNs + wdi ((s.fper : Int) - 50000), entries := entries }]

/-- F of a frame, row by row: free on states 0 to 14, DECAY on the diagonal of the program's states. -/
def State.fMatrix (s : State) (x : FusInput) (n : List Word) : List Int :=
  (List.range s.nerr).flatMap (fun i => (List.range s.nerr).map (fun j =>
    if i < 15 ∧ j < 15 then sw (Config.fusWord (n ++ x.words) [1, i, j])
    else if i = j then s.fusModel (24 + (i - 15)) else 0))

/-- R280: the covariance propagation of the frame is submitted. -/
def State.startProp (s : State) (x : FusInput) (n : List Word) : State :=
  let s := s.readWords (bankAddr (addrBank (s.reg Reg.FUS_MODA)) (addrOff (s.reg Reg.FUS_MODA))) 55
  let s := (s.fusPut fusF (s.fMatrix x n)).updFus (fun q => { q with prop := true, propSel := q.psel })
  s.fusSubmit 2 fusDescP (s.propEntries s.fus.psel)

/-! ### Updates (R268, R281, R284, R297) -/

/-- R291: the bytes of the entries used. -/
def digestBytes (l : List FusEntry) : List Byte := l.flatMap (fun q => wordBytes (wd q.frame :: wd q.slot :: q.words))

/-- R297: FUS_OUT and the block event of class 1. -/
def State.fusOutput (s : State) : State :=
  let n := s.fus.nom
  let p := fun i => wdi (wrInt (s.cov i i) (s.regF Reg.FUS_CTL 23 19) 16)
  let flags := wd (b2n s.fusDr + 2 * b2n s.fus.posunc + 4 * b2n s.fus.refconf + 8 * b2n s.fusHdgDr + 16 * b2n s.fus.wvalid
    + 32 * b2n s.fus.imuf + 64 * b2n (s.fus.slots.any (fun q => q.2.slip)))
  let w := fun k => lget n k 0
  let psi := wdi (wrInt (mradToDeg2 (s.cov40 8 8)) 40 16)
  let rates := if s.regB Reg.FUS_CTL 30 then (List.range 3).map (fun i => s.motionWord (3 + i)) else [w 10, w 11, w 12]
  let ws := [wd s.fus.frame, flags, w 0, w 1, w 2, w 3, w 4, w 5, heading n, rollOf n, pitchOf n] ++ rates
    ++ [p 0, p 1, psi, wd s.fusDrt, s.wave.phase, s.wave.rate, w 6, w 7, w 8, w 9]
  let s := ws.zipIdx.foldl (fun s x => s.setReg (Reg.FUS_OUT x.2) x.1) s
  s.blockEvent 1 0

/-- R285: an accepted position fix. -/
def State.posAccepted (s : State) : State :=
  let was := s.fus.posunc
  let s := s.updFus (fun q => { q with posEl := s.tb.el, posOnce := true, posunc := false, refconf := false, confArmed := true })
  if was then s.record .fusPosRestore 0 [] else s

/-- R285: an accepted heading fix. -/
def State.hdgAccepted (s : State) (psi : Word) : State :=
  s.updFus (fun q => { q with hdgEl := s.tb.el, hdgOnce := true, confArmed := true, hdgRef := psi })

/-- R281, R291, R297: an update ends: digest, output. -/
def State.endUpdate (s : State) (used : List FusEntry) : State :=
  ((s.updFus (fun q => { q with upd := none })).setReg Reg.FUS_DIGEST (crc32c (digestBytes used))).fusOutput

/-- The rows an entry takes. -/
def State.entryRows (s : State) (e : FusEntry) : Nat := if s.rfType e.slot = 2 then 1 else 2

/-- R281: the entries an update takes: at most 24 rows, the odometry rows first; an entry that would exceed them stays. -/
def State.takeRows (s : State) (l : List FusEntry) (odo : Nat) : List FusEntry :=
  (l.foldl (fun (q : Nat × List FusEntry) e =>
    if 24 < q.1 + s.entryRows e then q else (q.1 + s.entryRows e, q.2 ++ [e])) (odo, [])).2

/-- A row of an update: its elements of H (state, value with 16 fraction bits), ν and R, Q15.16. -/
structure FusRow where
  h : List (Nat × Int)
  nu : Int
  r : Int
deriving DecidableEq, Repr

/-- R281: the rows of an accepted fix: for a position the identity and −[a×] of the north and east rows with the bias states; for a
heading, in degrees, the factor from mrad on state 8 (DEDUCED, notes/assumptions/43.md). -/
def State.fixRows (s : State) (f : Fix) : List FusRow :=
  let k := f.entry.slot
  let r := wrInt (s.fixVar k (lget f.entry.words 0 0) f.entry.slip) 40 16
  let one : Int := 2 ^ 16
  if s.rfType k = 2 then
    [{ h := [(8, rquo (180 * one * (2 ^ trigBits : Nat)) (1000 * piFix).toNat)], nu := degDiff (wdi f.nu1) 0, r := r }]
  else
    let a := fun i => rotate (s.predict f.entry.tm).2 i (s.lever k)
    let b := s.reg (Reg.FUS_BIAS k)
    let bias := fun (i : Nat) => if i = 0 then [] else [(i, one)]
    [{ h := [(0, one), (7, a 2), (8, -(a 1))] ++ bias (fld b 9 5), nu := f.nu1, r := r },
     { h := [(1, one), (6, -(a 2)), (8, a 0)] ++ bias (fld b 4 0), nu := f.nu2, r := r }]

/-- R279: the odometry rows: the model velocity on the horizontal velocity states. -/
def State.odoRows (s : State) : List FusRow :=
  let (vn, ve) := vesselNE s.fus.vm (heading s.fus.nom)
  let r := s.fusModel 51
  [{ h := [(3, 2 ^ 16)], nu := vn - nomW s.fus.nom 3, r := r }, { h := [(4, 2 ^ 16)], nu := ve - nomW s.fus.nom 4, r := r }]

/-- R280, R281: the update batch of `rows` is submitted: H, ν and R are laid down, P' holds a copy of P, and Y of H P (the operand
that TRSM.L overwrites: DEDUCED, notes/assumptions/59.md). -/
def State.submitUpdate (s : State) (rows : List FusRow) : State :=
  let n := s.nerr
  let nm := rows.length
  let fh := fusFmt 1
  let pf := s.regF Reg.FUS_CTL 23 19
  let h := rows.flatMap (fun r => (List.range n).map (fun j =>
    wrInt (((r.h.filter (fun e => e.1 == j)).map (fun e => e.2)).foldl (· + ·) 0) 16 fh))
  let hm : Mat := fun i j => lget h (i * n + j) 0
  let pm : Mat := fun i j => s.cov i j
  let y := gemm nm n n hm pm (fun _ _ => 0) fh pf (fusFmt 2) false false
  let yl := (List.range nm).flatMap (fun i => (List.range n).map (fun j => y.get i j))
  let s := ((s.fusPut fusH h).fusPut fusNu (rows.map FusRow.nu)).fusPut fusR (rows.map FusRow.r)
  let s := (s.fusPut fusY yl).fusPut (fusP (1 - s.fus.psel)) (s.fusGet (fusP s.fus.psel) (n * n))
  s.fusSubmit 3 fusDescU (s.updEntries nm s.fus.psel)

/-- R268, R281, R284: an update is issued on the queue entries up to a cutoff (all of them without one). -/
def State.startUpdate (s : State) (cutoff : Option Word) : State :=
  let fit := fun (q : FusEntry) => match cutoff with
    | some c => decide (turnDiff (wd (q.frame * s.fper)) c ≤ 0)
    | none => true
  let odo := s.fus.odoDue && s.fusModel 51 != 0
  let cand := s.takeRows (s.fus.queue.filter fit) (if odo then 2 else 0)
  let s := s.updFus (fun q => { q with queue := q.queue.filter (fun e => !cand.contains e), odoDue := false })
  let (s, pos) := (cand.filter (fun e => s.rfType e.slot != 2)).foldl (fun (q : State × List Fix) e =>
    let r := q.1.posFix e
    match r.2 with
    | some f => (r.1, q.2 ++ [f])
    | none => (r.1.fusDecide e.slot (Reg.FUS_REJ_ASSOC e.slot), q.2)) (s, [])
  let hdg := (cand.filter (fun e => s.rfType e.slot == 2)).map (fun e => s.hdgFix e)
  let (s, a) := s.decideFixes false pos
  let (s, b) := s.decideFixes true hdg
  let acc := cand.filterMap (fun e => if a.contains e || b.contains e then (pos ++ hdg).find? (fun f => f.entry == e) else none)
  let rows := (if odo then s.odoRows else []) ++ acc.flatMap (fun f => s.fixRows f)
  if rows.isEmpty then s.endUpdate cand
  else (s.updFus (fun q => { q with upd := some { accepted := acc.map Fix.entry, used := cand, psel := q.psel } })).submitUpdate rows

/-- FUS_UPD (R268). -/
def State.doFusUpd (s : State) (v : Word) : State :=
  if !s.fusOn || !(s.regB Reg.FUS_CTL 29) then s
  else if s.fus.upd.isSome then s.updFus (fun q => { q with heldUpd := some v })
  else s.startUpdate (some v)

/-- FUS_UPD (R268): A write requests a measurement update up to CUTOFF. -/
def execFusUpd (p : Party) (v : Word) (s : State) : Host.Outcome State Fault Refusal :=
  .next (s.portWrite p Reg.FUS_UPD (fun s => s.doFusUpd v))

/-- R281: a batch did not complete. -/
def State.fusAbort (s : State) : State := (s.setBitR Reg.FUS_STK 5).record .fusAbort 0 []

/-- R281: every entry of a job's batch ended DONE or DONE_REG. -/
def JobState.clean (q : JobState) : Bool := !q.late && !q.bad

/-- R268, R297: in UPDMODE 0 a frame goes on to its update, or to its output where the queue is empty; while an update is in
flight it waits for that. -/
def State.frameRest (s : State) : State :=
  if s.regB Reg.FUS_CTL 29 then s
  else if s.fus.upd.isSome then s.updFus (fun q => { q with owed := q.owed + 1 })
  else if s.fus.queue.isEmpty then s.fusOutput
  else s.startUpdate none

/-- FUSION_PROPAGATION_COMPLETE (R268, R280, R281): the propagation batch has completed. -/
def execFusionPropagationComplete (s : State) : Host.Outcome State Fault Refusal :=
  .next (
    if s.fus.prop && !(s.job 2).busy then
      let s := if (s.job 2).clean then s.updFus (fun q => { q with prop := false, psel := 1 - q.propSel })
        else (s.updFus (fun q => { q with prop := false })).fusAbort
      s.frameRest
    else s)

/-- R281: δx is injected into the nominal state: position and velocity in Q15.16, the attitude free, the states from 9 on in the
format of δx. -/
def State.inject (s : State) : State :=
  let dx := s.fusGet fusDx s.nerr
  let f := fusFmt 5
  let d := fun (i : Nat) => lget dx i 0
  let n := s.fus.nom
  let att := (n.drop 6).take 4 ++ [wdi (d 6), wdi (d 7), wdi (d 8)]
  s.updFus (fun q => { q with nom := normQ (n.zipIdx.map (fun p =>
    if p.2 < 6 then wdi (satTo 32 (sw p.1 + wrInt (d p.2) f 16))
    else if p.2 < 10 then Config.fusWord att [3, p.2]
    else if p.2 < 13 then p.1
    else wdi (satTo 32 (sw p.1 + d (p.2 - 4))))) })

/-- FUSION_UPDATE_COMPLETE (R281, R285, R291, R297): the update batch has completed. -/
def execFusionUpdateComplete (s : State) : Host.Outcome State Fault Refusal :=
  .next (
    match s.fus.upd with
    | none => s
    | some u =>
      if (s.job 3).busy then s
      else
        let s := if (s.job 3).clean then
            let s := u.accepted.foldl (fun s e => s.fusDecide e.slot (Reg.FUS_NACC e.slot)) s.inject
            let s := s.updFus (fun q => { q with psel := 1 - u.psel })
            let s := if u.accepted.any (fun e => s.rfType e.slot != 2) then s.posAccepted else s
            match (u.accepted.filter (fun e => s.rfType e.slot == 2)).getLast? with
            | some e => s.hdgAccepted (lget e.words 2 0 - s.reg (Reg.FUS_LX e.slot))
            | none => s
          else u.accepted.foldl (fun s e => s.fusDecide e.slot (Reg.FUS_REJ_ABORT e.slot)) s.fusAbort
        let s := s.endUpdate u.used
        match s.fus.heldUpd with
        | some v => (s.updFus (fun q => { q with heldUpd := none })).startUpdate (some v)
        | none =>
          if 0 < s.fus.owed then (s.updFus (fun q => { q with owed := q.owed - 1 })).frameRest else s)

/-! ### Frames -/

/-- R279: the vessel model at a frame. -/
def State.vesselModel (s : State) (x : FusInput) : State :=
  let div := (wdi (s.fusModel 52)).toNat
  let odo := s.fus.odo + 1
  let due := decide (0 < div) && decide (div ≤ odo)
  s.updFus (fun q => { q with vm := s.vesselStep x.tau q.vm, odo := if due then 0 else odo, odoDue := q.odoDue || due })

/-- R292: the state image, in the order of the rule, then NERR and the frame index. -/
def State.fusImage (s : State) : List Word :=
  let f := s.fus
  let offs := (List.range 13).flatMap (fun k => [(s.rf k).oest.getD 0, wd (b2n (s.rf k).oest.isSome)])
  let trk := (List.range 10).flatMap (fun k => (List.range 32).flatMap (fun t =>
    match mget (s.rf k).tracks t with
    | some x => [wd (2 ^ 31 + b2n x.conf * 2 ^ 30 + x.hits % 256 * 256 + x.misses), wdi x.n, wdi x.e]
    | none => [0, 0, 0]))
  let p := (List.range s.nerr).flatMap (fun i => (List.range s.nerr).map (fun j => wdi (s.cov i j)))
  let wv := [wdi f.wave.amp, wdi f.wave.om, f.wave.phi, wdi f.wave.bq.x1, wdi f.wave.bq.x2, wdi f.wave.bq.y1, wdi f.wave.bq.y2]
  let nl := s.nerr + 4
  (f.nom ++ List.replicate nl 0).take nl ++ p ++ f.vm.map wdi ++ offs ++ trk ++ wv ++ [wd s.nerr, wd f.frame]

/-- R292: the capture at a full stop of group `g`: the image, and the bank passes to the host of CAPCL. -/
def State.fusionCapture (s : State) (g : Nat) : State :=
  let c := s.reg Reg.FUS_CAP
  if s.fusOn && bit c 31 && fld c 27 24 == g then
    let b := addrBank c
    if s.owner b = ownFus then
      (s.storeWords (bankAddr b (addrOff c)) s.fusImage).passBank b (s.ownerOf (s.hostOf (s.regF Reg.FUS_CAPCL 7 0)))
    else s.setBitR Reg.FUS_STK 8
  else s

/-- R293: one frame of the re-propagation: nominal state, covariance (F P Fᵀ + QD), v_m and the wave state. -/
def State.repropagate (s : State) (x : FusInput) : State :=
  let n := s.nerr
  let pf := s.regF Reg.FUS_CTL 23 19
  let nom := s.propagate x s.fus.vm s.fus.nom
  let fm := s.fMatrix x nom
  let f : Mat := fun i j => lget fm (i * n + j) 0
  let t := gemm n n n f (fun i j => s.cov i j) (fun _ _ => 0) 30 pf (fusFmt 0) false false
  let p := gemm n n n (fun i j => t.get i j) (transpose f) (fun _ _ => 0) (fusFmt 0) 30 pf false false
  let pl := (List.range n).flatMap (fun i => (List.range n).map (fun j => satTo 32 (p.get i j + (if i = j then s.fusModel i else 0))))
  let s := s.fusPut (fusP s.fus.psel) pl
  s.updFus (fun q => { q with nom := nom, vm := s.vesselStep x.tau q.vm, hist := q.hist ++ [(x.inst, nom)]
                              wave := if s.regB Reg.FUS_WCTL 31 then s.waveStep q.wave x.tel nom else q.wave })

/-- R293: a pending load is done at the frame instant, or refused. -/
def State.fusionLoad (s : State) : State :=
  let c := s.reg Reg.FUS_LOAD
  if !(bit c 31) then s
  else
    let s := s.setReg Reg.FUS_LOAD (setBit c 31 false)
    let b := addrBank c
    let n := s.nerr
    let a := bankAddr b (addrOff c)
    let len := s.fusImageLen
    let w := s.bankWords a len
    let s := if s.owner b = ownFus then s.readWords a len else s
    let at_ := fun k => lget w k 0
    let nn := at_ (len - 2)
    let fr := at_ (len - 1)
    let age := (wd s.fus.frame - fr).toNat * s.fper
    if s.owner b ≠ ownFus ∨ nn ≠ wd n ∨ 2000000000 < age then (s.setBitR Reg.FUS_STK 7).record .fusLoadRefused 0 []
    else
      let i0 := n + 4 + n * n
      let offs := fun (s : State) => (List.range 13).foldl (fun s k => s.updRf k (fun x =>
        { x with oest := if at_ (i0 + 3 + 2 * k + 1) = 0 then none else some (at_ (i0 + 3 + 2 * k)) })) s
      let trk := fun (s : State) => (List.range 10).foldl (fun s k => s.updRf k (fun x =>
        { x with tracks := (List.range 32).filterMap (fun t =>
          let j := i0 + 29 + (k * 32 + t) * 3
          if bit (at_ j) 31 then
            some (t, ({ conf := bit (at_ j) 30, hits := fld (at_ j) 15 8, misses := fld (at_ j) 7 0, n := sw (at_ (j + 1)), e := sw (at_ (j + 2)) } : FusTrack))
          else none) })) s
      let j := i0 + 29 + 960
      let s := s.updFus (fun q => { q with
        nom := w.take (n + 4), vm := (List.range 3).map (fun i => sw (at_ (i0 + i)))
        wave := { amp := sw (at_ j), om := sw (at_ (j + 1)), phi := at_ (j + 2)
                  bq := { x1 := sw (at_ (j + 3)), x2 := sw (at_ (j + 4)), y1 := sw (at_ (j + 5)), y2 := sw (at_ (j + 6)) }
                  okEl := q.wave.okEl } })
      let s := s.fusPut (fusP s.fus.psel) (((w.drop (n + 4)).take (n * n)).map sw)
      -- the engine propagates again from the image's frame to the last one, with the inputs of those frames
      let s := trk (offs s)
      let from_ := s.fus.lastInst - age
      let again := s.fus.inputs.filter (fun x => decide (from_ < x.inst))
      let s := s.updFus (fun q => { q with hist := (q.hist.filter (fun h => decide (h.1 < from_))) ++ [(from_, q.nom)] })
      again.foldl (fun s x => s.repropagate x) s

/-- R241, R273, R333: the elapsed time of the instant `inst` of T: an instant that a step has passed falls in the step's clock. -/
def State.instantEl (s : State) (inst : Nat) : Nat :=
  if s.now.step.1 = s.clk ∧ s.now.step.2 ≠ 0 then s.tb.el else s.tb.el - (s.tb.t - inst)

/-- What a frame keeps for 2 s (R277, R293). -/
def State.keepFrame (s : State) (inst : Nat) (x : FusInput) : State :=
  let young := fun (i : Nat) => decide (inst ≤ i + 2000000000)
  s.updFus (fun q => { q with
    hist := q.hist.filter (fun f => young f.1) ++ [(inst, q.nom)], inputs := q.inputs.filter (fun f => young f.inst) ++ [x], imu := [] })

/-- FRAME_INSTANT (R267, R268): T has reached a frame instant after the last. -/
def execFrameInstant (s : State) : Host.Outcome State Fault Refusal :=
  .next (
    let per := s.fper
    let inst := s.tb.t / per * per
    if s.fusOn && decide (0 < per) && decide (s.fus.lastInst < inst) then
      s.inStep true 3 fun s =>
      let el := s.instantEl inst
      let s := (s.updFus (fun q => { q with frame := inst / per })).fusionLoad
      let s := s.updFus (fun q => { q with lastInst := inst })
      let s := (List.range 13).foldl (fun s k => s.takeElement k (wd inst) el) s
      let x := s.frameInput inst
      let s := (s.updFus (fun q => { q with nom := s.propagate x q.vm q.nom })).vesselModel x
      let s := (s.keepFrame inst x).waveFrame x.tel
      if s.fus.prop then s.frameRest else s.startProp x s.fus.nom
    else s)

/-- IMU_SAMPLE (R278, R279): at each AX0 millisecond; an invalid sample is replaced by the previous valid one. -/
def execImuSample (valid : Bool) (inc : List Word) (s : State) : Host.Outcome State Fault Refusal :=
  .next (
    if s.fus.imuTick < s.tb.t / 1000000 then
      let used := if valid then inc.take 6 else s.fus.imuLast
      s.updFus (fun q => { q with
        imuTick := s.tb.t / 1000000, imuLast := used, imu := q.imu ++ [used]
        imuBad := if valid then 0 else q.imuBad + 1, imuGood := if valid then q.imuGood + 1 else 0 })
    else s)

/-- IMU_FAULT (R279): Invalid IMU samples for 20 ms set IMUF and change propagation. -/
def execImuFault (s : State) : Host.Outcome State Fault Refusal :=
  .next (
    if 20 ≤ s.fus.imuBad ∧ s.fus.imuf = false then
      ((s.updFus (fun q => { q with imuf := true })).setBitR Reg.FUS_STK 4).record .fusImuFault 0 []
    else s)

/-- IMU_RESTORE (R279): One second of valid IMU samples clears IMUF. -/
def execImuRestore (s : State) : Host.Outcome State Fault Refusal :=
  .next (
    if s.fus.imuf = true ∧ 1000 ≤ s.fus.imuGood then (s.updFus (fun q => { q with imuf := false })).record .fusImuRestore 0 []
    else s)

/-- POS_UNCERTAIN (R285): the dead-reckoning time has reached DRLIM. -/
def execPosUncertain (s : State) : Host.Outcome State Fault Refusal :=
  .next (
    if s.fusOn && !s.fus.posunc && decide (s.regF Reg.FUS_DRLIM 11 0 * 1000 ≤ s.fusDrt) then
      ((s.updFus (fun q => { q with posunc := true })).setBitR Reg.FUS_STK 2).record .fusPosUncertain 0 []
    else s)

/-- WAVE_VALID (R289): the conditions of the wave tracker have held for 20 s. -/
def execWaveValid (s : State) : Host.Outcome State Fault Refusal :=
  .next (
    match s.fus.wave.okEl with
    | some e =>
      if 20000000000 ≤ s.tb.el - e then
        { (s.updFus (fun q => { q with wvalid := true })) with wave := { s.wave with valid := true } }
      else s
    | none => s)

/-- The workspace banks in force. -/
def State.fusBanks (s : State) : List Nat :=
  (List.range 64).filter (fun b => if b < 32 then s.regB Reg.FUS_WSL b else s.regB Reg.FUS_WSH (b - 32))

/-- The engine does not run: the wave phase is not valid (R289). -/
def State.fusStop (s : State) : State :=
  { s.updFus (fun q => { q with wvalid := false, wave := {} }) with wave := { s.wave with valid := false } }

/-- A commit sets EN of FUS_CTL: the engine starts from a nominal state and covariance the spec leaves open; elements it holds stay
held (R294). -/
def State.fusStart (s : State) : State :=
  let n := s.nerr
  let occ := wd s.free
  let s : State := { s.fusStop with free := s.free + 1 }
  let s := s.updFus (fun q => { q with
    lastInst := s.tb.t, posEl := s.tb.el, hdgEl := s.tb.el, posOnce := false, hdgOnce := false, posunc := false, refconf := false
    confArmed := true, hist := [], inputs := [], imu := [], vm := [0, 0, 0], psel := 0, bank := s.fusBanks.getLast?.getD 0
    nom := normQ ((List.range (n + 4)).map (fun k => Config.fusWord [occ] [10, k])) })
  s.fusPut (fusP 0) ((List.range (n * n)).map (fun k => sw (Config.fusWord [occ] [11, k])))

end Sys2Proof.Machine
end

