-- ==== Sys2Proof/Machine/Gnss.lean ====
section
/-! DEFINITION. Machine/Gnss.lean: the satellite baseband: antenna supplies, acquisition, tracking channels,
measurement epochs, navigation symbols, interference monitor (spec/11_gnss_baseband.md R298 to R317). What the
antennas deliver (correlation results, supply currents, spectra) comes with the commands. -/
namespace Sys2Proof.Machine

/-- The baseband changed by `f`. -/
def State.updGnb (s : State) (f : Gnb → Gnb) : State := { s with gnb := f s.gnb }

/-- The baseband's owner code (R165). -/
def gnbOwner : Nat := 0x14

/-- R298: the primary code of a signal, in chips. -/
def codeLen (sig : Nat) : Nat :=
  match sig with
  | 0 => 1023
  | 1 => 4092
  | 2 => 4092
  | 5 => 1023
  | 6 => 1023
  | _ => 10230

/-- R298: the chip rate of a signal, chips per second. -/
def chipRate (sig : Nat) : Nat := if 8 ≤ sig then 10230000 else 1023000

/-- R298: the band centre of a signal, Hz. -/
def carrierOf (sig : Nat) : Nat := if 8 ≤ sig then 1176450000 else 1575420000

/-- R298: a PRN in the range of its signal; code 7 has none. -/
def prnOk (sig prn : Nat) : Bool :=
  let r := fun lo hi => decide (lo ≤ prn) && decide (prn ≤ hi)
  match sig with
  | 0 => r 1 32
  | 1 => r 1 36
  | 2 => r 1 36
  | 3 => r 1 63
  | 4 => r 1 63
  | 5 => r 193 202
  | 6 => r 120 158
  | 8 => r 1 32
  | 9 => r 1 32
  | 10 => r 1 36
  | 11 => r 1 36
  | 12 => r 1 63
  | 13 => r 1 63
  | 14 => r 193 202
  | 15 => r 193 202
  | _ => false

/-- R298: the largest TINT of a signal, ms. -/
def maxTint (sig : Nat) : Nat :=
  match sig with
  | 1 => 4
  | 3 => 10
  | 6 => 2
  | 8 => 10
  | 12 => 4
  | 14 => 10
  | _ => 20

/-- The integration time of a TINT code, ms. -/
def tintMs (c : Nat) : Nat :=
  match c with
  | 0 => 1
  | 1 => 2
  | 2 => 4
  | 3 => 10
  | _ => 20

/-- R298: the signal is a data component. -/
def isData (sig : Nat) : Bool := [0, 1, 3, 5, 6, 8, 10, 12, 14].contains sig

/-! ### Antenna supplies (R299) -/

/-- The state of an antenna supply: 0 OFF, 1 ON, 2 OPEN, 3 SHORT, 4 LATCHED. -/
def State.antState (s : State) (a : Nat) : Nat := s.regF (Reg.GNB_ANT a) 26 24

/-- A supply goes to a state; entering OPEN, SHORT or LATCHED sets ANTF. -/
def State.setAnt (s : State) (a st : Nat) : State :=
  let s := s.setRegF (Reg.GNB_ANT a) 26 24 st
  if 2 ≤ st then s.setBitR Reg.GNB_STK 2 else s

/-- The current of a supply as GNB_ANT shows it. -/
def State.antCurrent (s : State) (a ma : Nat) : State := s.setRegF (Reg.GNB_ANT a) 7 0 (min ma 255)

/-- A supply's retries changed. -/
def State.setSupply (s : State) (a : Nat) (x : AntSupply) : State := s.updGnb (fun g => { g with ants := mput g.ants a x })

/-- R299, R300: a write of GNB_ANT. -/
def State.antWrite (s : State) (a : Nat) (v : Word) : State :=
  let was := s.regB (Reg.GNB_ANT a) 31
  let s := s.putBitR (Reg.GNB_ANT a) 31 (bit v 31)
  if !(bit v 31) then ((s.setAnt a 0).antCurrent a 0).setSupply a {}
  else if was then s else (s.setAnt a 1).setSupply a {}

/-- ANT_ENABLE_WRITE (R299): A write of EN switches an antenna supply on or off. -/
def execAntEnableWrite (p : Party) (a : Fin 2) (v : Word) (s : State) : Host.Outcome State Fault Refusal :=
  .next (s.portWrite p (Reg.GNB_ANT a.val) (fun s => s.antWrite a.val v))

/-- ANT_OPEN (R299): Antenna current below 3 mA for 100 ms enters OPEN. -/
def execAntOpen (a : Fin 2) (ma : Nat) (s : State) : Host.Outcome State Fault Refusal :=
  .next (
    if s.antState a.val = 1 ∧ ma < 3 then ((s.setAnt a.val 2).antCurrent a.val ma).record .gnbAntOpen a.val [a.val] else s)

/-- ANT_OK (R299): Antenna current back at 3 mA for 100 ms returns to ON. -/
def execAntOk (a : Fin 2) (ma : Nat) (s : State) : Host.Outcome State Fault Refusal :=
  .next (
    if s.antState a.val = 2 ∧ 3 ≤ ma then ((s.setAnt a.val 1).antCurrent a.val ma).record .gnbAntOk a.val [a.val] else s)

/-- ANT_SHORT (R299): from ON or OPEN, whose supply is on. -/
def execAntShort (a : Fin 2) (ma : Nat) (s : State) : Host.Outcome State Fault Refusal :=
  .next (
    if (s.antState a.val = 1 ∨ s.antState a.val = 2) ∧ 130 < ma then
      (((s.setAnt a.val 3).antCurrent a.val 0).setSupply a.val { shortEl := s.tb.el }).record .gnbAntShort a.val [a.val]
    else s)

/-- ANT_RETRY (R299): 1 s after the short the supply is on for 1 ms and draws `ma`. -/
def execAntRetry (a : Fin 2) (ma : Nat) (s : State) : Host.Outcome State Fault Refusal :=
  .next (
    let x := mgetD s.gnb.ants a.val {}
    if s.antState a.val = 3 ∧ 1000000000 ≤ s.tb.el - x.shortEl then
      if ma ≤ 130 then (((s.setAnt a.val 1).antCurrent a.val ma).setSupply a.val {}).record .gnbAntOk a.val [a.val]
      else if x.fails + 1 = 5 then ((s.setAnt a.val 4).setSupply a.val {}).record .gnbAntLatch a.val [a.val]
      else s.setSupply a.val { shortEl := s.tb.el, fails := x.fails + 1 }
    else s)

/-! ### Acquisition (R301 to R305) -/

/-- The mark of a bank that a list uses (R166). -/
def acqTag : Nat := 0x300

/-- The end of a list (R305). -/
def State.acqEnd (s : State) : State :=
  let s := (s.clrBitR Reg.GNB_ACQSTAT 31).setBitR Reg.GNB_ACQSTAT 30
  (s.updGnb (fun g => { g with acq := none, acqDone := true })).unmarkTag acqTag

/-- Word 6 of an entry: its result. -/
def State.acqResult (s : State) (q : AcqList) (res : Nat) : State :=
  s.storeWords (bankAddr q.bank (q.off + 32 * q.cur + 24)) [wd (res * 2 ^ 30)]

/-- The list goes on to its next entry, or ends. -/
def State.acqNext (s : State) (q : AcqList) : State :=
  if q.cur + 1 < q.count then s.updGnb (fun g => { g with acq := some { q with cur := q.cur + 1, active := none } }) else s.acqEnd

/-- R305: a list ends at once; a running entry ends with RES = 3. -/
def State.acqStop (s : State) : State :=
  match s.gnb.acq with
  | none => s
  | some q => (if q.active.isSome then s.acqResult q 3 else s).acqEnd

/-- R304: a write of GNB_ACQ: ABORT acts first, then START. -/
def State.acqWrite (s : State) (p : Party) (v : Word) : State :=
  let s := if bit v 25 then s.acqStop else s
  if !(bit v 31) then s
  else
    let count := fld v 30 26
    let bank := fld v 20 15
    let off := fld v 14 0 / 4 * 4
    if count = 0 ∨ 16 < count then s.partyEsf p .lenErr
    else if 32768 < off + 32 * count then s.partyEsf p .lenErr
    else if s.owner bank ≠ gnbOwner then s.partyEsf p .own
    else if s.gnb.acq.isSome then s.setBitR Reg.GNB_STK 0
    else
      let s := (s.setBitR Reg.GNB_ACQSTAT 31).setRegF Reg.GNB_ACQSTAT 4 0 0
      (s.updGnb (fun g => { g with acq := some { bank := bank, off := off, count := count } })).markBank bank acqTag

/-- ACQ_START (R304): A START write runs a search list or is refused. -/
def execAcqStart (p : Party) (v : Word) (s : State) : Host.Outcome State Fault Refusal :=
  .next (s.portWrite p Reg.GNB_ACQ (fun s => s.acqWrite p (v ||| bitMask 31)))
/-- ACQ_ABORT (R305): An ABORT write ends the running search entry and the list. -/
def execAcqAbort (p : Party) (v : Word) (s : State) : Host.Outcome State Fault Refusal :=
  .next (s.portWrite p Reg.GNB_ACQ (fun s => s.acqWrite p ((v ||| bitMask 25) &&& ~~~(bitMask 31))))

/-- R304: an entry that may run. -/
def acqEntryOk (ws : List Word) : Bool :=
  match ws with
  | [w0, w1, _, w3] =>
    fld w0 31 28 != 7 && prnOk (fld w0 31 28) (fld w0 26 19) && fld w0 16 9 != 0 && fld w0 8 4 != 0 && fld w0 3 0 == 0
      && decide (fld w1 31 16 < codeLen (fld w0 31 28)) && fld w1 15 0 == 0 && decide (0 < sw w3)
  | _ => false

/-- SEARCH_ENTRY_START (R303, R304): the next entry is read and checked, and its snapshot begins. -/
def execSearchEntryStart (s : State) : Host.Outcome State Fault Refusal :=
  .next (
    match s.gnb.acq with
    | none => s
    | some q =>
      if q.active.isSome || s.gnb.stopped then s
      else
        let a := bankAddr q.bank (q.off + 32 * q.cur)
        let ws := s.bankWords a 4
        let s := ((s.touch q.bank).noteParity a 16).1
        let s := s.setRegF Reg.GNB_ACQSTAT 4 0 q.cur
        if acqEntryOk ws then s.updGnb (fun g => { g with acq := some { q with active := some ws, snap := s.tmbNs, el := s.tb.el } })
        else (s.acqResult q 3).acqNext q)

/-- R303: the time of an entry, ns. -/
def acqTime (w0 : Word) : Nat := fld w0 8 4 * (4000000 / 2 ^ fld w0 18 17) + fld w0 16 9 * fld w0 8 4 * 80000

/-- R302: the Doppler of bin `b` of an entry: F0 + (b − ⌊NBIN / 2⌋) × FSTEP. -/
def binFreq (w0 f0 step : Word) (b : Nat) : Int := sw f0 + ((b : Int) - (fld w0 16 9 / 2 : Nat)) * sw step

/-- R302: where a code phase lies in the code window of an entry, from SEG0 on; none outside the code or, where the primary code is
longer than a block, outside the window. -/
def acqPlace (w0 w1 : Word) (code : Nat) : Option Nat :=
  let len := codeLen (fld w0 31 28) * 65536
  let span := chipRate (fld w0 31 28) * 4 / 2 ^ fld w0 18 17 * 65536 / 1000
  let d := (code + len - fld w1 31 16 * 65536 % len) % len
  if code < len ∧ (len ≤ span ∨ d < span) then some d else none

/-- A cell that a search compares: its sum, its bin, its place in the window and its code phase. -/
structure AcqPeak where
  sum : Nat
  bin : Nat
  place : Nat
  code : Nat
deriving DecidableEq, Repr

/-- R302: the cells of bin `b`: the NC squared magnitudes of each are summed. -/
def binCells (w0 w1 f0 step : Word) (cells : List AcqCell) (b : Nat) : List AcqPeak :=
  (cells.filter (fun c => c.freq == binFreq w0 f0 step b)).filterMap (fun c =>
    (acqPlace w0 w1 c.code).map (fun d => { sum := (c.mags.take (fld w0 8 4)).foldl (· + ·) 0, bin := b, place := d, code := c.code }))

/-- R302: the largest cell; the lowest bin and then the earliest code phase of the window on a tie. -/
def acqPeak (first : AcqPeak) (l : List AcqPeak) : AcqPeak :=
  l.foldl (fun p c =>
    if p.sum < c.sum ∨ (p.sum = c.sum ∧ (c.bin < p.bin ∨ (c.bin = p.bin ∧ c.place < p.place))) then c else p) first

/-- R302: METRIC, the peak over the mean of all cells, Q7.8, rounded by R5. -/
def acqMetric (peak : Nat) (l : List AcqPeak) : Nat :=
  let total := (l.map (fun c => c.sum)).foldl (· + ·) 0
  min 65535 (if total = 0 then Config.acqFlat else (rquo ((peak * l.length * 256 : Nat) : Int) total).toNat)

/-- SEARCH_ENTRY_END (R302, R303): the correlations of the running entry are complete; `cells` gives every cell with its NC squared
magnitudes (notes/assumptions/60.md). -/
def execSearchEntryEnd (cells : List AcqCell) (s : State) : Host.Outcome State Fault Refusal :=
  .next (
    match s.gnb.acq with
    | none => s
    | some q =>
      match q.active with
      | some [w0, w1, f0, step] =>
        if acqTime w0 ≤ s.tb.el - q.el then
          let l := (List.range (fld w0 16 9)).flatMap (binCells w0 w1 f0 step cells)
          let p := acqPeak (l.headD { sum := 0, bin := 0, place := 0, code := fld w1 31 16 * 65536 }) l
          let m := acqMetric p.sum l
          let res := if s.regF Reg.GNB_ACQCTL 31 16 ≤ m then 1 else 2
          let s := s.storeWords (bankAddr q.bank (q.off + 32 * q.cur + 16)) [wd p.code, wd (m * 65536 + p.bin), wd (res * 2 ^ 30), q.snap]
          s.acqNext q
        else s
      | _ => s)

/-! ### Tracking channels (R306 to R309) -/

/-- A channel. -/
def State.chan (s : State) (c : Nat) : GnbChannel := mgetD s.gnb.chans c {}

/-- A channel changed. -/
def State.updChan (s : State) (c : Nat) (f : GnbChannel → GnbChannel) : State :=
  s.updGnb (fun g => { g with chans := mput g.chans c (f (s.chan c)) })

/-- The state of a channel: 0 IDLE, 1 PULLIN, 2 TRACK, 3 CODE, 4 LOST. -/
def State.chanState (s : State) (c : Nat) : Nat := s.regF (Reg.GNB_CHST c) 31 29

/-- R309: the lock time, counted in TRACK only. -/
def State.lockTime (s : State) (c : Nat) : Nat :=
  let x := s.chan c
  if s.chanState c = 2 then min 65535 (x.lock + (s.tb.el - x.stateEl) / 100000000) else x.lock

/-- A channel changes state. -/
def State.setChan (s : State) (c st : Nat) : State :=
  let lock := s.lockTime c
  (s.setRegF (Reg.GNB_CHST c) 31 29 st).updChan c (fun x => { x with stateEl := s.tb.el, lock := lock, symSum := none })

/-- R307: code phase at T − `dt` ago carried to now: INITCODE at INITT, at the chip rate × (1 + Doppler / carrier). -/
def extrapolate (sig code : Nat) (dopp dt : Int) : Nat :=
  let num := dt * (chipRate sig : Int) * (65536 * (carrierOf sig : Int) + dopp)
  let d : Int := rquo num (1000000000 * carrierOf sig)
  (((code : Int) + d) % ((codeLen sig * 65536 : Nat) : Int)).toNat

/-- R306, R307: a write of GNB_CHCFG. -/
def State.chcfgWrite (s : State) (c : Nat) (v : Word) : State :=
  let sig := fld v 29 26
  let esp := fld v 14 10
  let vsp := fld v 9 5
  let initt := s.reg (Reg.GNB_CHT c)
  let dt := turnDiff s.tmbNs initt
  let bad := sig == 7 || !(prnOk sig (fld v 25 18)) || decide (4 < fld v 17 15) || decide (esp < 2) || decide (vsp ≤ esp)
  let badStart := bit v 31 && (decide (maxTint sig < tintMs (fld v 17 15)) || decide (1000000000 < dt.natAbs))
  if bad || badStart then s.setBitR Reg.GNB_STK 1
  else
    let old := s.reg (Reg.GNB_CHCFG c)
    let running := bit old 31 && s.chanState c != 4
    let s := s.setReg (Reg.GNB_CHCFG c) (v &&& 0xFFFFFFE0)
    if !(bit v 31) then s.setChan c 0
    else if running && fld v 31 15 == fld old 31 15 && fld v 14 5 != fld old 14 5 then s
    else
      let dopp := sw (s.reg (Reg.GNB_CHDOPP c))
      let code := extrapolate sig (s.reg (Reg.GNB_CHCODE c)).toNat dopp dt
      (s.setRegF (Reg.GNB_CHST c) 31 29 1).updChan c (fun _ =>
        { meas := { code := code, dopp := dopp }, startEl := s.tb.el, stateEl := s.tb.el
          loop := s.reg (Reg.GNB_CHLOOP c), spacing := fld v 14 5 })

/-- GNB_CHCFG_WRITE (R306): A channel configuration write starts, stops or is refused. -/
def execGnbChcfgWrite (p : Party) (ch : Fin 160) (v : Word) (s : State) : Host.Outcome State Fault Refusal :=
  .next (s.portWrite p (Reg.GNB_CHCFG ch.val) (fun s => s.chcfgWrite ch.val v))

/-- R306: a write of GNB_CHLOOP. -/
def State.chloopWrite (s : State) (c : Nat) (v : Word) : State :=
  if fld v 31 24 = 0 ∨ fld v 23 16 < 4 ∨ 200 < fld v 23 16 ∨ fld v 15 8 = 0 ∨ fld v 7 0 = 0 then s.setBitR Reg.GNB_STK 1
  else s.setReg (Reg.GNB_CHLOOP c) v

/-- GNB_CHLOOP_WRITE (R306): A loop bandwidth write is accepted or refused. -/
def execGnbChloopWrite (p : Party) (ch : Fin 160) (v : Word) (s : State) : Host.Outcome State Fault Refusal :=
  .next (s.portWrite p (Reg.GNB_CHLOOP ch.val) (fun s => s.chloopWrite ch.val v))

/-- R313: one integration with prompt I `pi` of a channel that collects symbols; at the end of a symbol (`last`) the symbol joins the
entry being collected: 1 when the sum is negative. `ep` is EPOCHS at this boundary. -/
def GnbChannel.collect (x : GnbChannel) (pi : Int) (last : Bool) (ep : Nat) : GnbChannel :=
  match x.symSum, last with
  | none, false => x
  | none, true => { x with symSum := some 0, symEp := ep, symCut := true }
  | some v, false => { x with symSum := some (v + pi) }
  | some v, true =>
    let b := decide (v + pi < 0)
    let e := x.syms.getLast?.getD (0, [])
    let syms := if x.symCut || x.syms.isEmpty || e.2.length == 32 then x.syms ++ [(x.symEp, [b])] else x.syms.dropLast ++ [(e.1, e.2 ++ [b])]
    { x with symSum := some 0, symEp := ep, symCut := false, syms := syms }

/-- R313: the channel collects navigation symbols: in TRACK on a data component, while EN of GNB_NAVCTL is 1. -/
def State.collects (s : State) (c : Nat) : Bool :=
  s.regB Reg.GNB_NAVCTL 31 && s.chanState c == 2 && isData (s.regF (Reg.GNB_CHCFG c) 29 26)

/-- CHANNEL_INTEGRATION (R307, R309, R311, R313): the loops stand at `m`; C/N0, prompt correlation, whether the prompt phase error
exceeded ¼ cycle, and whether a navigation symbol ends with the integration. -/
def execChannelIntegration (ch : Fin 160) (m : GnbMeas) (cn0 : Nat) (pi pq : Int) (slip sym : Bool) (s : State) :
    Host.Outcome State Fault Refusal :=
  .next (
    let c := ch.val
    let st := s.chanState c
    if st = 0 ∨ st = 4 then s
    else
      let s := s.setRegF (Reg.GNB_CHST c) 15 0 (min cn0 65535)
      let low := decide (min cn0 65535 < s.regF Reg.GNB_CN0MIN 15 0)
      let s := s.updChan c (fun x => { x with
        meas := m, pi := pi, pq := pq, loop := s.reg (Reg.GNB_CHLOOP c), spacing := s.regF (Reg.GNB_CHCFG c) 14 5
        lowEl := if low then some (x.lowEl.getD s.tb.el) else none })
      let s := if s.collects c then s.updChan c (fun x => x.collect pi sym m.epochs) else s
      if st = 2 ∧ slip = true then s.updChan c (fun x => { x with slip := true, lock := 0, stateEl := s.tb.el }) else s)

/-- CHANNEL_TRACK (R308): phase lock for 100 ms, and from PULLIN synchronisation within 2 s of the start; later the channel is LOST. -/
def execChannelTrack (ch : Fin 160) (s : State) : Host.Outcome State Fault Refusal :=
  .next (
    let c := ch.val
    let st := s.chanState c
    if st = 1 ∧ 2000000000 ≤ s.tb.el - (s.chan c).startEl then s.setChan c 4
    else if (st = 1 ∨ st = 3) ∧ 100000000 ≤ s.tb.el - (s.chan c).stateEl then s.setChan c 2
    else s)

/-- CHANNEL_PULLIN_TIMEOUT (R308): A channel not in TRACK within 2 s becomes LOST. -/
def execChannelPullinTimeout (ch : Fin 160) (s : State) : Host.Outcome State Fault Refusal :=
  .next (
    let c := ch.val
    if s.chanState c = 1 ∧ 2000000000 ≤ s.tb.el - (s.chan c).startEl then s.setChan c 4 else s)

/-- CHANNEL_CODE (R308, R309): phase lock lost for 40 ms with C/N0 at or above CN0MIN. -/
def execChannelCode (ch : Fin 160) (s : State) : Host.Outcome State Fault Refusal :=
  .next (
    let c := ch.val
    if s.chanState c = 2 ∧ s.regF Reg.GNB_CN0MIN 15 0 ≤ s.regF (Reg.GNB_CHST c) 15 0 then
      (s.setChan c 3).updChan c (fun x => { x with slip := true, lock := 0 })
    else s)

/-- CHANNEL_LOST (R308): C/N0 below CN0MIN for LOSTT × 100 ms. -/
def execChannelLost (ch : Fin 160) (s : State) : Host.Outcome State Fault Refusal :=
  .next (
    let c := ch.val
    let st := s.chanState c
    match (s.chan c).lowEl with
    | some e =>
      if (st = 2 ∨ st = 3) ∧ fld (s.chan c).loop 7 0 * 100000000 ≤ s.tb.el - e then s.setChan c 4 else s
    | none => s)

/-! ### Navigation symbols (R313, R314) -/

/-- The current bank for navigation symbols under the word `ctl` of GNB_NAVCTL. -/
def State.navBankOf (s : State) (ctl : Word) : Nat := if s.gnb.navB then fld ctl 5 0 else fld ctl 13 8

/-- The current bank for navigation symbols. -/
def State.navBank (s : State) : Nat := s.navBankOf (s.reg Reg.GNB_NAVCTL)

/-- The counts of the current bank written to its words 0 and 1. -/
def State.navCounts (s : State) (b : Nat) : State := s.storeWords (bankAddr b 0) [wd s.gnb.navCount, wd s.gnb.navLost]

/-- Collection in a bank begins with counts 0. -/
def State.navBegin (s : State) (navB : Bool) (b : Nat) : State :=
  (s.updGnb (fun g => { g with navB := navB, navCount := 0, navLost := 0 })).navCounts b

/-- R313: the symbols of an entry, the first in bit 31. -/
def symWord : Nat → List Bool → Nat
  | _, [] => 0
  | k, b :: t => b2n b * 2 ^ k + symWord (k - 1) t

/-- R313, R314: an entry of channel `c` is written into the current bank, or dropped and its symbols counted. -/
def State.navEntry (s : State) (c : Nat) (e : Nat × List Bool) : State :=
  let cfg := s.reg (Reg.GNB_CHCFG c)
  let b := s.navBank
  if s.gnb.navCount < 2047 ∧ s.owner b = gnbOwner then
    let s := s.storeWords (bankAddr b (16 + 16 * s.gnb.navCount))
      [wd (c * 2 ^ 24 + fld cfg 25 18 * 65536 + fld cfg 29 26 * 4096 + e.2.length), wd e.1, wd (symWord 31 e.2), 0]
    (s.updGnb (fun g => { g with navCount := g.navCount + 1 })).navCounts b
  else
    let s := (s.bump Reg.GNB_NAVLOST e.2.length).updGnb (fun g => { g with navLost := g.navLost + e.2.length })
    if s.owner b = gnbOwner then s.navCounts b else s

/-- R313: the entries of a channel that `full` picks are written, the oldest first. -/
def State.navWrite (s : State) (c : Nat) (full : Bool) : State :=
  let now := fun (e : Nat × List Bool) => !full || e.2.length == 32
  let l := (s.chan c).syms
  (l.filter now).foldl (fun s e => s.navEntry c e) (s.updChan c (fun x => { x with syms := l.filter (fun e => !(now e)) }))

/-- NAV_SYMBOL_ENTRY (R313): a channel that has collected 32 symbols writes their entry. -/
def execNavSymbolEntry (ch : Fin 160) (s : State) : Host.Outcome State Fault Refusal :=
  .next (if s.regB Reg.GNB_NAVCTL 31 then s.navWrite ch.val true else s)

/-- R314: at a full stop of NGRP the banks alternate, if the other one is back: `ctl` is GNB_NAVCTL as in force before the commit
(R34), and the filled bank passes to the engine that hosts NCL after the moves of the full stop (R167). -/
def State.navFullStop (s : State) (ctl : Word) (g : Nat) : State :=
  if bit ctl 31 && fld ctl 27 24 == g then
    let cur := s.navBankOf ctl
    let other := if s.gnb.navB then fld ctl 13 8 else fld ctl 5 0
    if s.owner other = gnbOwner then
      (s.passBank cur (s.ownerOf (s.hostOf (fld ctl 23 16)))).navBegin (!s.gnb.navB) other
    else s
  else s

/-! ### Measurement epochs (R310 to R312) -/

/-- The record of a channel in an epoch block. -/
def State.chanRecord (s : State) (c : Nat) (m : GnbMeas) : List Word :=
  let cfg := s.reg (Reg.GNB_CHCFG c)
  let st := s.chanState c
  let x := s.chan c
  let sig := fld cfg 29 26
  [wd (c * 2 ^ 24 + sig * 2 ^ 20 + b2n (bit cfg 30) * 2 ^ 19 + st * 2 ^ 16 + b2n x.slip * 2 ^ 15 + b2n (isData sig) * 2 ^ 14
      + b2n (st == 2) * 2 ^ 13 + b2n (st == 2 || st == 3) * 2 ^ 12 + fld cfg 25 18),
   wd (m.code % (codeLen sig * 65536)), wd m.epochs, wdi m.carr, wdi m.dopp,
   wd (s.regF (Reg.GNB_CHST c) 15 0 * 65536 + s.lockTime c),
   wd ((x.pi % 65536).toNat * 65536 + (x.pq % 65536).toNat), 0]

/-- The header of an epoch block whose strobe instant is `t`. -/
def State.epochHeader (s : State) (t nch : Nat) : List Word :=
  let mon := fun k => (mgetD s.gnb.mons k {}).flag
  let ant := fun a => s.antState a
  let w3 := nch * 2 ^ 24 + b2n s.gnb.stepped * 2 ^ 11 + b2n (s.tbState == 3) * 2 ^ 10 + b2n s.gnb.acqDone * 2 ^ 9
    + b2n s.gnb.gone * 2 ^ 8 + (b2n (mon 0) + 2 * b2n (mon 1) + 4 * b2n (mon 2) + 8 * b2n (mon 3)) * 16
    + b2n (ant 0 == 2) + 2 * b2n (decide (3 ≤ ant 0)) + 4 * b2n (ant 1 == 2) + 8 * b2n (decide (3 ≤ ant 1))
  let agc := fun k => s.regF (Reg.GNB_INT k) 11 0
  [s.reg Reg.GNB_EPSEQ, wd (t / 1000000000), wd t, wd w3, wd (agc 0 * 65536 + agc 1), wd (agc 2 * 65536 + agc 3), 0, 0]

/-- EPOCH_STROBE (R310 to R313, R333): T has reached an instant of the epoch grid; `meas` gives the latched measurements of
the channels whose loops run. Each channel writes the symbols it has collected so far. -/
def execEpochStrobe (meas : List (Nat × GnbMeas)) (s : State) : Host.Outcome State Fault Refusal :=
  .next (
    let per := s.regF Reg.GNB_EPCTL 15 0 * 1000000
    if s.regB Reg.GNB_EPCTL 31 && per != 0 && !s.gnb.stopped && decide (s.gnb.lastT / per < s.tb.t / per) then
      s.inStep true 3 fun s =>
      let t := s.tb.t / per * per
      let s := s.bump Reg.GNB_EPSEQ
      let chs := (s.listed 0x4A00 8 160).filter (fun c => s.regB (Reg.GNB_CHCFG c) 31)
      let val := fun c => if s.chanState c = 4 then (s.chan c).meas else (mget meas c).getD (s.chan c).meas
      let block := s.epochHeader t chs.length ++ (chs.map (fun c => s.chanRecord c (val c))).flatten
      let s := if s.regB Reg.GNB_NAVCTL 31 then (List.range 160).foldl (fun s c => if (s.chan c).syms.isEmpty then s else s.navWrite c false) s else s
      s.updGnb (fun g => { g with
        lastT := s.tb.t, stepped := false, acqDone := false, gone := false, blocks := g.blocks ++ [block]
        chans := g.chans.map (fun q => (q.1, { q.2 with slip := false, meas := val q.1 })) })
    else s)

/-! ### Interference monitor (R315, R316) -/

/-- INTERFERENCE_MEASUREMENT: 100 ms of band `b` of antenna `a`: the strongest bin, its offset in bins, the AGC gain. -/
def execInterferenceMeasurement (a b : Fin 2) (peak : Nat) (freq : Int) (agc : Nat) (s : State) :
    Host.Outcome State Fault Refusal :=
  .next (
    let k := 2 * a.val + b.val
    let s := s.setReg (Reg.GNB_INT k) (wd (min peak 255 * 2 ^ 24 + (freq % 4096).toNat * 4096 + agc % 4096))
    let m := mgetD s.gnb.mons k {}
    let hit := decide (s.regF Reg.GNB_ACQCTL 15 8 ≤ min peak 255)
    let m' : IntfMon := if hit then { m with above := m.above + 1, below := 0 } else { m with above := 0, below := m.below + 1 }
    let raise := hit && !m.flag && decide (3 ≤ m'.above)
    let clear := !hit && m.flag && decide (10 ≤ m'.below)
    let s := s.updGnb (fun g => { g with mons := mput g.mons k { m' with flag := (m.flag || raise) && !clear } })
    let s := if raise then (s.setBitR Reg.GNB_STK 3).record .gnbInterference k [a.val, b.val, peak, (freq % 4096).toNat] else s
    if clear then s.record .gnbInterferenceEnd k [a.val, b.val] else s)

/-- AGC_LIMIT (R315): the gain of a band at an end of its range for 1 s. -/
def execAgcLimit (_a _b : Fin 2) (s : State) : Host.Outcome State Fault Refusal := .next (s.setBitR Reg.GNB_STK 4)

/-- R316: a write of GNB_ACQCTL. -/
def State.acqctlWrite (s : State) (v : Word) : State :=
  if fld v 31 16 = 0 ∨ fld v 15 8 < 3 ∨ 60 < fld v 15 8 then s.setBitR Reg.GNB_STK 5
  else s.setReg Reg.GNB_ACQCTL (v &&& 0xFFFFFF00)

/-- GNB_ACQCTL_WRITE (R316): A write to the acquisition control is accepted or refused. -/
def execGnbAcqctlWrite (p : Party) (v : Word) (s : State) : Host.Outcome State Fault Refusal :=
  .next (s.portWrite p Reg.GNB_ACQCTL (fun s => s.acqctlWrite v))

/-- R316: a write of GNB_CN0MIN. -/
def State.cn0minWrite (s : State) (v : Word) : State :=
  if fld v 15 0 < 1000 ∨ 4500 < fld v 15 0 then s.setBitR Reg.GNB_STK 5 else s.setReg Reg.GNB_CN0MIN (v &&& 0xFFFF)

/-- GNB_CN0MIN_WRITE (R316): A write to the loss threshold is accepted or refused. -/
def execGnbCn0minWrite (p : Party) (v : Word) (s : State) : Host.Outcome State Fault Refusal :=
  .next (s.portWrite p Reg.GNB_CN0MIN (fun s => s.cn0minWrite v))

/-- R48, R305: GSAM or GCOR is lost: a running list ends, every running channel is invalid. -/
def State.gnbStop (s : State) : State :=
  let s := s.acqStop
  let s := (s.listed 0x4F00 1 160).foldl (fun s c =>
    let st := s.chanState c
    if 1 ≤ st ∧ st ≤ 3 then s.setChan c 4 else s) s
  s.updGnb (fun g => { g with stopped := true, gone := true })

end Sys2Proof.Machine
end

