-- ==== Sys2Proof/Machine/Routes.lean ====
section
/-! DEFINITION. Machine/Routes.lean: the data path (spec/02_architecture.md R41 to R45, R580). -/
namespace Sys2Proof.Machine

/-- R41: the number of endpoints of a source class; 0 for a class that is none. -/
def sourceCount (cls : Nat) : Nat :=
  match cls with
  | 1 => 16 | 2 => 8 | 3 => 1 | 4 => 32 | 5 => 6 | 6 => 16 | 7 => 2 | 11 => 4
  | _ => 0

/-- R41: the number of endpoints of a destination class; the index is ignored for a ring. -/
def destCount (cls : Nat) : Nat :=
  match cls with
  | 8 => 64 | 9 => 64 | 10 => 13
  | _ => 0

/-- R43, R164: the owner code of a source's block. -/
def sourceOwner (cls idx : Nat) : Nat :=
  match cls with
  | 1 => 0x20 + idx
  | 2 => 0x32
  | 3 => 0x14
  | 4 => 0x30
  | 5 => 0x31
  | 6 => 0x33
  | 7 => 0x34
  | _ => 0x35

/-- R42: a ring that does not fit a bank. -/
def ringBad (rtb : Word) : Bool := fld rtb 12 0 == 0 || decide (8192 < fld rtb 25 13 + fld rtb 12 0)

/-- R580: an enabled route with a conflict of its own, from its words MBK_RTSn and MBK_RTBn. -/
def routeBad (rts rtb : Word) : Bool :=
  decide (sourceCount (fld rts 25 22) ≤ fld rts 21 16) || decide (destCount (fld rts 9 6) ≤ fld rts 5 0)
    || (fld rts 9 6 == 8 && ringBad rtb)

/-- An element of route `n` is dropped (R43, R44). -/
def State.routeDrop (s : State) (n : Nat) : State := s.bumpF (Reg.MBK_RTC n) 31 16

/-- The words of an element written into a ring of `len` words at word address `base` of bank `b`, from place `p` on. -/
def State.ringWrite (s : State) (b base len : Nat) : Nat → List Word → State
  | _, [] => s
  | p, w :: t => (s.storeWords (bankAddr b (4 * (base + p))) [w]).ringWrite b base len ((p + 1) % len) t

/-- R43, R44: an element for a ring. -/
def State.ringDeliver (s : State) (n : Nat) (el : List Word) : State :=
  let rts := s.reg (Reg.MBK_RTS n)
  let rtb := s.reg (Reg.MBK_RTB n)
  let b := fld rtb 31 26
  let len := fld rtb 12 0
  if s.owner b = sourceOwner (fld rts 25 22) (fld rts 21 16) ∧ el.length ≤ len then
    let p := s.regF (Reg.MBK_RTC n) 12 0
    ((s.touch b).ringWrite b (fld rtb 25 13) len p el).setRegF (Reg.MBK_RTC n) 12 0 ((p + el.length) % len)
  else s.routeDrop n

/-- R44, R45, R580: an element delivered on route `n`. A slot input takes the element's word 0. -/
def State.routeDeliver (s : State) (n : Nat) (el : List Word) : State :=
  let rts := s.reg (Reg.MBK_RTS n)
  if !(bit rts 31) || routeBad rts (s.reg (Reg.MBK_RTB n)) then s.routeDrop n
  else
    match fld rts 9 6 with
    | 8 => s.ringDeliver n el
    | 9 => s.updSlot (fld rts 5 0) (fun x => { x with routeVal := el.headD 0, routeEl := s.tb.el })
    | _ => s.fusDeliver (fld rts 5 0) el

/-- R44: an element whose block event follows its last word (R312, R465, R509) is delivered on every enabled route of its source. -/
def State.deliverNow (s : State) (cls idx : Nat) (el : List Word) : State :=
  (s.routesOf cls idx).foldl (fun s n => s.routeDeliver n el) s

/-- EPOCH_BLOCK_DELIVERY (R312): the oldest block goes to its route, and the block event of class 2 follows its last word. -/
def execEpochBlockDelivery (s : State) : Host.Outcome State Fault Refusal :=
  .next (
    match s.gnb.blocks with
    | [] => s
    | b :: t => ((s.updGnb (fun g => { g with blocks := t })).deliverNow 3 0 b).blockEvent 2 0)

/-- The first element that waits for route `n`, and the elements without it. -/
def takeRoute (n : Nat) : List (Nat × List Word) → Option (List Word × List (Nat × List Word))
  | [] => none
  | (k, el) :: t =>
    if k = n then some (el, t)
    else (takeRoute n t).map (fun q => (q.1, (k, el) :: q.2))

/-- ROUTE_DELIVERY (R44): the oldest element of route `n` is delivered or dropped. -/
def execRouteDelivery (n : Fin 64) (s : State) : Host.Outcome State Fault Refusal :=
  .next (
    match takeRoute n.val s.banks.routeQ with
    | none => s
    | some (el, rest) => ({ s with banks := { s.banks with routeQ := rest } } : State).routeDeliver n.val el)

end Sys2Proof.Machine
end

