-- ==== Sys2Proof/Machine/Ethernet.lean ====
section
/-! DEFINITION. Machine/Ethernet.lean: Ethernet ports, twin telegrams, filters and receive stream slots
(spec/18_ethernet_twin_telegrams.md R502 to R519; TEL.SEND, spec/04_instruction_reference.md R129). -/
namespace Sys2Proof.Machine

/-- Stream slot `k`. -/
def State.tel (s : State) (k : Nat) : TelSlot := mgetD s.eth.slots k {}

/-- A stream slot changed. -/
def State.updTel (s : State) (k : Nat) (f : TelSlot → TelSlot) : State :=
  { s with eth := { s.eth with slots := mput s.eth.slots k (f (s.tel k)) } }

/-- R510: the enabled slot of a stream and source. -/
def State.slotFor (s : State) (stream src : Nat) : Option Nat :=
  (s.listed 0x7D00 12 64).find? (fun k =>
    let c := s.reg (Reg.ETH_RSCFG k)
    bit c 31 && s.regF (Reg.ETH_RSSTR k) 15 0 == stream && (fld c 23 16 == src || (fld c 15 8 != 0 && fld c 15 8 == src)))

/-- SAFE of a slot. -/
def State.slotSafe (s : State) (k : Nat) : Bool := s.regB (Reg.ETH_RSCFG k) 30

/-- The copies a slot expects: two per source address. -/
def State.expected (s : State) (k : Nat) : Nat := if s.regF (Reg.ETH_RSCFG k) 15 8 = 0 then 2 else 4

/-- Two copies differ in payload or LEN. -/
def telDiffers (a b : TelCopy) : Bool := a.payload != b.payload

/-- R509: queue `q` produces an element; without a route it is dropped and counted. -/
def State.queueElement (s : State) (q : Nat) (el : List Word) : State :=
  if (s.routesOf 4 q).isEmpty then s.bump (Reg.ETH_QNR q) else (s.deliverNow 4 q el).blockEvent 3 q

/-- Bytes as words, the first byte lowest, the last word filled with 0. -/
def packWords : Nat → List Byte → List Word
  | 0, _ => []
  | n + 1, bs => match bs with
    | [] => []
    | _ => wd (ofBytesLE (bs.take 4)) :: packWords n (bs.drop 4)

/-- R509: the element of a queue. -/
def queueWords (tel auth : Bool) (port idx : Nat) (sgl : Bool) (stamp thi src seq : Nat) (bs : List Byte) : List Word :=
  [wd (b2n tel * 2 ^ 31 + b2n auth * 2 ^ 30 + port * 2 ^ 28 + idx * 2 ^ 22 + b2n sgl * 2 ^ 21 + bs.length % 2048),
   wd stamp, wd (thi * 65536 + src * 256), wd seq] ++ packWords ((bs.length + 3) / 4) bs

/-- R515: the slot delivers a copy: accounting, payload, event. Windows of lower sequences have been decided. -/
def State.deliver (s : State) (k : Nat) (c : TelCopy) : State :=
  let x := s.tel k
  let s := if x.began.isNone then
      (s.setReg (Reg.ETH_LAST k) (wd c.seq - 1)).setReg (Reg.ETH_FIRST k) (wd c.seq - s.reg (Reg.ETH_NDEL k) - s.reg (Reg.ETH_NMISS k))
    else s
  let gap := (wd c.seq - s.reg (Reg.ETH_LAST k) - 1).toNat
  let lost := ((s.reg (Reg.ETH_LAST k)).toNat + 1, gap)
  let s := (s.bump (Reg.ETH_NMISS k) gap).setReg (Reg.ETH_LAST k) (wd c.seq)
  let s := (s.bump (Reg.ETH_NDEL k)).setRegF (Reg.ETH_RSSTAT k) 10 0 c.payload.length
  let s := s.updTel k (fun x => { x with
    payload := c.payload, delEl := some s.tb.el, secl := c.secl, began := some (x.began.getD c.seq)
    missed := if gap = 0 then x.missed else x.missed ++ [lost]
    closed := x.closed.filter (fun q => decide (0 < turnDiff (wd q) (wd c.seq))) })
  s.blockEvent 8 k

/-- R512: a copy other than the delivered one is counted and compared with it. -/
def State.compareCopy (s : State) (k : Nat) (d c : TelCopy) : State :=
  let s := s.bump (Reg.ETH_NDUP k)
  if telDiffers c d then
    if c.src = d.src then (s.setRegF (Reg.ETH_NBAD k) 31 16 (s.regF (Reg.ETH_NBAD k) 31 16 + 1)).setBitR Reg.ETH_STK 2
    else (s.bump (Reg.ETH_NDISC k)).setBitR Reg.ETH_STK 1
  else s

/-- The window of a sequence replaced. -/
def State.putWindow (s : State) (k : Nat) (w : TelWindow) : State :=
  s.updTel k (fun x => { x with windows := x.windows.map (fun v => if v.seq = w.seq then w else v) })

/-- R514, R515: what follows a delivery when its window closes: whether both LANs brought it, and the queue element. -/
def State.afterDelivery (s : State) (k : Nat) (w : TelWindow) (d : TelCopy) (arr : Nat) : State :=
  let lans := ((w.copies.filter (fun c => c.1.src == d.src)).map (fun c => c.1.lan.val)).eraseDups
  let single := lans.length == 1
  let s := if single then
      ((s.bump (Reg.ETH_NSGL k)).setBitR (Reg.ETH_RSSTAT k) 31).updTel k (fun x => { x with bothRun := 0 })
    else
      let s := s.updTel k (fun x => { x with bothRun := x.bothRun + 1 })
      if 16 ≤ (s.tel k).bothRun then s.clrBitR (Reg.ETH_RSSTAT k) 31 else s
  let cfg := s.reg (Reg.ETH_RSCFG k)
  if bit cfg 29 then
    s.queueElement (fld cfg 28 24)
      (queueWords true d.auth d.lan.val k single arr (arr / 2 ^ 32 % 65536) d.src d.seq d.payload)
  else s

/-- R513: the copies on which a safety slot decides: those of the unit with AUTH = 1, or of the first to arrive. -/
def decidingUnit (w : TelWindow) : Option Nat :=
  match w.copies.find? (fun c => c.1.auth) with
  | some c => some c.1.src
  | none => w.copies.head?.map (fun c => c.1.src)

/-- R511 to R513: a window closes and its sequence is decided, on its own: no lower window is open. -/
def State.decideWindow (s : State) (k : Nat) (w : TelWindow) : State :=
  let s := s.updTel k (fun x => { x with windows := x.windows.filter (fun v => v.seq != w.seq) })
  if s.slotSafe k then
    match decidingUnit w with
    | none => s
    | some u =>
      let mine := w.copies.filter (fun c => c.1.src == u)
      let others := w.copies.filter (fun c => c.1.src != u)
      match mine with
      | [] => s
      | d :: rest =>
        if rest.any (fun c => telDiffers c.1 d.1) then
          let s := (s.setRegF (Reg.ETH_NBAD k) 31 16 (s.regF (Reg.ETH_NBAD k) 31 16 + 1)).setBitR Reg.ETH_STK 2
          let s := s.bump (Reg.ETH_NDUP k) others.length
          (s.updTel k (fun x => { x with closed := x.closed ++ [w.seq] })).safTelDiff k
        else
          let s := s.deliver k d.1
          let s := s.bump (Reg.ETH_NDUP k) rest.length
          let s := others.foldl (fun s c => s.compareCopy k d.1 c.1) s
          let single := (mine.map (fun c => c.1.lan)).eraseDups.length == 1
          (s.afterDelivery k w d.1 d.2).safDelivered k single
  else
    match w.delivered.bind (fun i => w.copies[i]?) with
    | some d => s.afterDelivery k w d.1 d.2
    | none =>
      match w.copies with
      | [] => s
      | d :: rest =>
        let s := s.deliver k d.1
        (rest.foldl (fun s c => s.compareCopy k d.1 c.1) s).afterDelivery k w d.1 d.2

/-- R511: the windows of sequences below `seq` close and are decided, in ascending sequence. -/
def State.closeBelow (s : State) (k seq : Nat) : State :=
  let low := (s.tel k).windows.filter (fun v => decide (turnDiff (wd v.seq) (wd seq) < 0))
  (sortByKey (fun v => (wd v.seq - wd seq).toNat) low).foldl (fun s v => s.decideWindow k v) s

/-- R511: a window closes, after those below it. -/
def State.closeWindow (s : State) (k : Nat) (w : TelWindow) : State := (s.closeBelow k w.seq).decideWindow k w

/-- R511: every expected copy has arrived, or, on a safety slot, both LAN copies of a unit with AUTH = 1. -/
def State.windowFull (s : State) (k : Nat) (w : TelWindow) : Bool :=
  let distinct := (w.copies.map (fun c => (c.1.src, c.1.lan.val))).eraseDups
  decide (s.expected k ≤ distinct.length)
    || (s.slotSafe k && distinct.any (fun p =>
      distinct.contains (p.1, 0) && distinct.contains (p.1, 1) && w.copies.any (fun c => c.1.src == p.1 && c.1.auth)))

/-- R512, R513: a copy joins the open window of its sequence. -/
def State.joinWindow (s : State) (k : Nat) (w : TelWindow) (c : TelCopy) (arr : Nat) : State :=
  let w1 := { w with copies := w.copies ++ [(c, arr)] }
  let s := s.putWindow k w1
  let s :=
    if s.slotSafe k then s
    else match w.delivered.bind (fun i => w.copies[i]?) with
    | some d => s.compareCopy k d.1 c
    | none =>
      if c.auth then
        let s := (s.closeBelow k c.seq).deliver k c
        let s := w.copies.foldl (fun s h => s.compareCopy k c h.1) s
        s.putWindow k { w1 with delivered := some w.copies.length }
      else s
  match (s.tel k).windows.find? (fun v => v.seq == c.seq) with
  | some v => if s.windowFull k v then s.closeWindow k v else s
  | none => s

/-- R515: a copy of a sequence at or below LAST whose window has closed. -/
def State.lateCopy (s : State) (k : Nat) (c : TelCopy) : State :=
  let x := s.tel k
  let before := match x.began with
    | some b => decide (turnDiff (wd c.seq) (wd b) < 0)
    | none => false
  let missed := x.missed.any (fun m => decide ((wd c.seq - wd m.1).toNat < m.2))
  if before || missed then s.bump (Reg.ETH_NLATE k) else s.bump (Reg.ETH_NDUP k)

/-- A sequence at or below LAST of the present run. -/
def State.pastSeq (s : State) (k seq : Nat) : Bool :=
  (s.tel k).began.isSome && decide (turnDiff (wd seq) (s.reg (Reg.ETH_LAST k)) ≤ 0)

/-- R511: a window opens with its first copy; a fifth closes the oldest. Where that decides a sequence above the copy's, the copy
comes after its sequence was counted missing: it is late (R23). -/
def State.openWindow (s : State) (k : Nat) (c : TelCopy) (arr : Nat) : State :=
  let s := match (s.tel k).windows with
    | w :: _ => if 4 ≤ (s.tel k).windows.length then s.closeWindow k w else s
    | [] => s
  if s.pastSeq k c.seq then s.lateCopy k c
  else
    let w : TelWindow := { seq := c.seq, el := s.tb.el }
    (s.updTel k (fun x => { x with windows := x.windows ++ [w] })).joinWindow k w c arr

/-- R516: the slot takes a new run of the sender. -/
def State.resync (s : State) (k : Nat) (c : TelCopy) : State :=
  let last := s.reg (Reg.ETH_LAST k)
  let s := (sortByKey (fun v => (wd v.seq - last + 0x80000000).toNat) (s.tel k).windows).foldl (fun s v => s.closeWindow k v) s
  let old := s.reg (Reg.ETH_LAST k)
  let d := wd c.seq - old - 1
  let s := (s.setReg (Reg.ETH_FIRST k) (s.reg (Reg.ETH_FIRST k) + d)).setReg (Reg.ETH_LAST k) (old + d)
  let s := s.updTel k (fun x => { x with missed := [], closed := [], began := some c.seq })
  ((s.bumpF (Reg.ETH_RSSTAT k) 23 16).setBitR Reg.ETH_STK 3).record .ethResync k [k, old.toNat, c.seq]

/-- R510 to R516: a valid copy reaches the stream slots. `arr` is T at its start. -/
def State.telCopy (s : State) (c : TelCopy) (arr : Nat) : State :=
  match s.slotFor c.stream c.src with
  | none => s.bump (Reg.ETH_NNOSLOT c.lan.val)
  | some k =>
    if c.safe != s.slotSafe k then s.bumpF (Reg.ETH_NBAD k) 15 0
    else
      let x := s.tel k
      match x.windows.find? (fun v => v.seq == c.seq) with
      | some w => s.joinWindow k w c arr
      | none =>
        if s.pastSeq k c.seq then
          if c.auth && decide (2 ≤ sext 16 ((c.secl + 65536 - x.secl % 65536) % 65536)) then (s.resync k c).openWindow k c arr
          else s.lateCopy k c
        else if x.closed.contains c.seq then s.bump (Reg.ETH_NDUP k)
        else s.openWindow k c arr

/-- TWIN_TELEGRAM_COPY: a copy that the port has sorted to the slots. -/
def execTwinTelegramCopy (c : TelCopy) (age : Nat) (s : State) : Host.Outcome State Fault Refusal :=
  .next (s.telCopy c (s.tb.t - age))

/-- TELEGRAM_WINDOW_CLOSE (R511): 500 µs after the window opened, or after the sender's instant while LOCKED. -/
def execTelegramWindowClose (slot : Fin 64) (seq : Nat) (s : State) : Host.Outcome State Fault Refusal :=
  .next (
    match (s.tel slot.val).windows.find? (fun v => v.seq == seq) with
    | none => s
    | some w =>
      let stamp := (w.copies.head?.map (fun c => c.1.stamp)).getD 0
      let late := s.tbState == 2 && decide (500000 ≤ turnDiff s.tmbNs (wd stamp))
      if decide (500000 ≤ s.tb.el - w.el) || late then s.closeWindow slot.val w else s)

/-! ### Frames -/

/-- R508: the filter a frame matches. -/
def State.filterFor (s : State) (port : Nat) (f : EthFrame) : Option Nat :=
  findFrom (fun n =>
    let a := s.reg (Reg.ETH_FLTA n)
    bit a 31 && bit a (27 + port) && (match fld a 26 25 with
      | 0 => f.etype == fld a 15 0
      | 1 => f.udp == some (fld a 15 0)
      | 2 => f.mac == (s.reg (Reg.ETH_FLTB n)).toNat * 65536 + fld a 15 0
      | _ => false)) 64 0

/-- R508, R509: a frame goes to the filters. -/
def State.filterFrame (s : State) (port : Nat) (f : EthFrame) (arr : Nat) : State :=
  match s.filterFor port f with
  | none => s.bump (Reg.ETH_NNOFLT port)
  | some n =>
    s.queueElement (s.regF (Reg.ETH_FLTA n) 20 16)
      (queueWords false false port n false arr (arr / 2 ^ 32 % 65536) 0 0 f.bytes)

/-- R550: a telegram carried the unit's own address. -/
def State.duplicateAddress (s : State) (port : Nat) : State :=
  let s := ((s.setBitR Reg.SYS_STK 5).setBitR Reg.ETH_STK 4).addHealth .dupAddr
  let s : State := { s with boot := { s.boot with dupEl := some s.tb.el } }
  (s.record .addrDuplicate port [port])

/-- R351: a pair beacon, as the pair logic takes it: HOLD is bit 29 of the first payload word, most significant byte
first (R4). -/
def State.beacon (s : State) (c : TelCopy) : State := s.pairBeacon c.src ((c.payload.head?.map (fun b => b.toNat.testBit 5)).getD false) c.seq

/-- ETH_FRAME_RECEIVED (R507): the first row that applies takes the frame. -/
def execEthFrameReceived (port : Fin 4) (f : EthFrame) (age : Nat) (s : State) : Host.Outcome State Fault Refusal :=
  let p := port.val
  let arr := s.tb.t - age
  if s.regB (Reg.ETH_PCFG p) 31 && s.regB (Reg.ETH_PSTAT p) 31 then
    match f.kind with
    | .badFcs => .next (s.bump (Reg.ETH_NFCS p))
    | .badSize => .next (s.bump (Reg.ETH_NSIZE p))
    | .ptp dom m =>
      let s := s.bump (Reg.ETH_NRX p)
      if s.regB (Reg.TMB_PTPC p) 31 then execPtpMessage port dom m s else .next (s.filterFrame p f arr)
    | .service ok =>
      let s := s.bump (Reg.ETH_NRX p)
      if p = 3 then .next (if ok then s else s.bump (Reg.ETH_NBADTW p)) else .next (s.filterFrame p f arr)
    | .twin c ok =>
      let s := s.bump (Reg.ETH_NRX p)
      if 2 ≤ p then .next (s.bump (Reg.ETH_TWF p))
      else if !ok then .next (s.bump (Reg.ETH_NBADTW p))
      else if c.src = s.regF Reg.SYS_ADDR 7 0 then .next (s.duplicateAddress p)
      else if c.stream = 0xFFFF then .next (s.beacon c)
      else .next (s.telCopy c arr)
    | .other => .next ((s.bump (Reg.ETH_NRX p)).filterFrame p f arr)
  else .next s

/-- ETH_LINK_DOWN (R506): the port loses its link; `unsent` telegrams of the last publications had not left. -/
def execEthLinkDown (port : Fin 4) (unsent : Nat) (s : State) : Host.Outcome State Fault Refusal :=
  .next (
    let p := port.val
    if s.regB (Reg.ETH_PSTAT p) 31 then
      let s := ((s.clrBitR (Reg.ETH_PSTAT p) 31).setBitR Reg.ETH_STK 0).bump (Reg.ETH_NLINK p)
      (s.bump (Reg.ETH_NTXLD p) unsent).drop (Reg.ETH_NTX p) unsent
    else s)

/-- ETH_LINK_UP (R587, R48): a port whose receive clock is lost stays down; `speed` is the highest speed both ends advertise; a forced speed stands instead. -/
def execEthLinkUp (port : Fin 4) (speed : Fin 3) (s : State) : Host.Outcome State Fault Refusal :=
  .next (
    let p := port.val
    if s.regB (Reg.ETH_PCFG p) 31 && !(s.domainOut (7 + p)) then
      let code := match s.regF (Reg.ETH_PCFG p) 30 29 with
        | 1 => 1
        | 2 => 2
        | 3 => if p = 2 then 0 else 1
        | _ => if speed.val = 0 ∧ p ≠ 2 then 1 else speed.val
      s.setReg (Reg.ETH_PSTAT p) (wd (2 ^ 31 + code * 2 ^ 29))
    else s)

/-! ### Sending -/

/-- Big-endian bytes of a number. -/
def netBytes (v n : Nat) : List Byte := (bytesLE v n).reverse

/-- R503, R586: the 802.1Q tag of a port with TAGEN = 1: TPID 16#8100, then PCP, DEI 0 and VID. -/
def State.telTag (s : State) (p : Nat) : List Byte :=
  if s.regB (Reg.ETH_PCFG p) 28 then
    netBytes 0x8100 2 ++ netBytes (s.regF (Reg.ETH_PCFG p) 27 25 * 8192 + s.regF (Reg.ETH_PCFG p) 11 0) 2
  else []

/-- R503: the telegram fields that the CRC covers, from STREAM to the payload's last byte: LEN + 16 bytes (R586). -/
def telBody (c : TelCopy) : List Byte :=
  netBytes c.stream 2 ++ netBytes c.src 1 ++ netBytes (b2n c.unitB * 128 + b2n c.auth * 64 + b2n c.safe * 32) 1
    ++ netBytes c.seq 4 ++ netBytes c.stamp 4 ++ netBytes c.secl 2 ++ netBytes c.payload.length 2 ++ c.payload

/-- R503, R586: the frame of a telegram, destination to FCS: the tag of the port, EtherType, fields, CRC, zero bytes up to the 60-byte
minimum before the FCS. -/
def telFrame (tag : List Byte) (c : TelCopy) : List Byte :=
  let head := netBytes 0x030000000000 6 |>.take 4
  let body := telBody c
  let f := head ++ netBytes c.stream 2 ++ netBytes (0x0200000000 * 256 + c.src * 256 + c.lan.val) 6 ++ tag ++ netBytes 0x88B5 2
    ++ body ++ netBytes (crc32c body).toNat 4
  let f := f ++ List.replicate (60 - f.length) 0
  f ++ bytesLE (fcs32 f).toNat 4

/-- R505, R506: the telegrams of a group's full stop leave on LAN A and LAN B. `seq`, `stamp` and `secl` are the full
stop's; `auth` is HOLD of the clock before it, 1 in a SOLO unit. With ETX lost nothing is sent (R48). -/
def State.publishTelegram (s : State) (stream : Nat) (safe auth : Bool) (seq stamp secl : Nat) (payload : List Byte) : State :=
  [(0 : Fin 2), 1].foldl (fun s lan =>
    if s.regB (Reg.ETH_PCFG lan.val) 31 && s.regB (Reg.ETH_PSTAT lan.val) 31 && !(s.domainOut 6) then
      let c : TelCopy :=
        { lan := lan, stream := stream, src := s.regF Reg.SYS_ADDR 7 0, unitB := s.regB Reg.SYS_STRAP 0, auth := auth, safe := safe
          seq := seq % 2 ^ 32, stamp := stamp % 2 ^ 32, secl := secl % 65536, payload := payload }
      (s.bump (Reg.ETH_NTX lan.val)).emit (.telegram c (telFrame (s.telTag lan.val) c))
    else s.bump (Reg.ETH_NTXLD lan.val)) s

/-- R504: the telegram fits the staging capacity of the group. -/
def State.telegramFits (s : State) (g stream len : Nat) : Bool :=
  let tels := (s.group g).staged.filterMap (fun o => match o.item with
    | .telegram st _ pl => some (st, pl.length)
    | _ => none)
  stream != 0xFFFF && decide (tels.length < 32) && !(tels.any (fun t => t.1 == stream))
    && decide ((tels.map (fun t => t.2)).foldl (· + ·) 0 + len ≤ 16384)

/-- TEL.SEND (R122, R129). -/
def execTelSend (x : Guard) (pd : PredNo) (wa wb : RegNo) (len : Nat) (q : BankUse) (s : State) : Host.Outcome State Fault Refusal :=
  let e := x.e.val
  let b := addrBank (s.w e wa.val)
  let n := 5 + ceilDiv len 16 + s.lockExtra e + s.stallOf b q.stall
  .next (s.issueAt x (decide (len < 2048)) (5 + ceilDiv len 16) 2 n (n - 1) false (fun s =>
    let w := s.w e wa.val
    let h := s.w e wb.val
    let c := s.checkOperand w len (s.ownerOf e)
    let c := { c with len := c.len || decide (1024 < len) || !(s.telegramFits (s.runGroup e) (fld h 15 0) len)
                           || (bit h 16 && !(s.lockClause (.eng x.e))) }
    if !c.ok then ((s.checkFlags e c).setP e pd.val false, .pass 2)
    else
      let a := bankAddr b (addrOff w)
      let (s, bad) := ((s.touch b).markUpset a len q.upset).noteParity a len
      let item : StagedItem := .telegram (fld h 15 0) (bit h 16) (cellsGet s.banks.cells a len)
      ((((s.esfIf e bad .parity).stageOut e item).setP e pd.val true), .pass 2)))

end Sys2Proof.Machine
end

