-- ==== Sys2Proof/Machine/Pair.lean ====
section
/-! DEFINITION. Machine/Pair.lean: the Burtair link, paths, the authority interlock, planned handover and revert
(spec/13_redundant_pair.md R339 to R354, R370 to R378; spec/01_installation_roles.md R14, R15). -/
namespace Sys2Proof.Machine

/-! ### Frames -/

/-- A number as `n` bytes, most significant first (R4). -/
def beBytes (v n : Nat) : List Byte := (bytesLE v n).reverse

/-- The number whose bytes these are, most significant first. -/
def ofBE (l : List Byte) : Nat := ofBytesLE l.reverse

/-- The 32-bit words of a payload, most significant byte first. -/
def wordsBE : Nat → List Byte → List Nat
  | 0, _ => []
  | n + 1, bs => match bs with
    | [] => []
    | _ => ofBE (bs.take 4) :: wordsBE n (bs.drop 4)

/-- Words as bytes, most significant byte first. -/
def bytesBE (l : List Nat) : List Byte := l.foldr (fun w acc => beBytes w 4 ++ acc) []

/-- R339: a frame: head, payload, CRC-32C over both. -/
def frameBytes (type lane fseq : Nat) (payload : List Byte) : List Byte :=
  let b := beBytes type 1 ++ beBytes lane 1 ++ beBytes payload.length 2 ++ beBytes fseq 4 ++ payload
  b ++ beBytes (crc32c b).toNat 4

/-- R340: the payload length of a frame type. -/
def frameLenOk (type len : Nat) : Bool :=
  match type with
  | 0x01 => len == 16
  | 0x10 => len == 32
  | 0x11 => decide (8 ≤ len) && decide (len ≤ 1024)
  | 0x12 => len == 32
  | 0x20 => len == 16
  | _ => false

/-- R340, R341, R343, R357: the reserved fields of a payload are 0, and CMD of a pair control frame is 1 to 5. -/
def frameReservedOk (type : Nat) (p : List Byte) : Bool :=
  let w := wordsBE 8 p
  let g := fun i => lget w i 0
  match type with
  | 0x01 => bitsOf (g 0) 22 16 == 0 && bitsOf (g 0) 7 3 == 0
  | 0x10 => bitsOf (g 0) 26 8 == 0 && bitsOf (g 2) 31 16 == 0 && g 5 == 0 && g 6 == 0
  | 0x12 => g 4 == 0 && g 5 == 0 && g 6 == 0 && g 7 == 0
  | 0x20 =>
    let c := bitsOf (g 0) 31 24
    decide (1 ≤ c) && decide (c ≤ 5) && bitsOf (g 0) 23 20 == 0 && bitsOf (g 3) 23 0 == 0
  | _ => true

/-- The CRC of a frame matches. -/
def frameCrcOk (f : List Byte) : Bool :=
  decide (12 ≤ f.length) && ofBE (f.drop (f.length - 4)) == (crc32c (f.take (f.length - 4))).toNat

/-- R340: the type and payload of a valid frame. -/
def frameParse (f : List Byte) : Option (Nat × List Byte) :=
  let type := ofBE (f.take 1)
  let flags := ofBE ((f.drop 1).take 1)
  let len := ofBE ((f.drop 2).take 2)
  let p := (f.drop 8).take (f.length - 12)
  if frameCrcOk f && len == f.length - 12 && frameLenOk type len && decide (flags < 2) && frameReservedOk type p then
    some (type, p)
  else none

/-- A lane is up. -/
def State.laneUp (s : State) (n : Nat) : Bool := s.regF (Reg.BTL_LANE n) 31 30 == 2

/-- The lanes that are up. -/
def State.lanesUp (s : State) : List Nat := [0, 1].filter (fun n => s.laneUp n)

/-- R339: a frame leaves on a lane. -/
def State.sendFrame (s : State) (n type : Nat) (payload : List Byte) : State :=
  let q := (s.lane n).fseq
  (s.updLane n (fun l => { l with fseq := (q + 1) % 2 ^ 32 })).emit (.pairFrame n (frameBytes type n q payload))

/-- A frame leaves on every lane that is up. -/
def State.sendBoth (s : State) (type : Nat) (payload : List Byte) : State :=
  s.lanesUp.foldl (fun s n => s.sendFrame n type payload) s

/-- R340, R346: a frame arrives on a lane: one that is not valid is dropped and counted; the answer is the payload of
one of the type expected. A SOLO unit takes none (R15). -/
def State.takeFrame (s : State) (n type : Nat) (f : List Byte) : State × Option (List Byte) :=
  if s.laneUp n then
    match frameParse f with
    | some (t, p) => (s, if t = type ∧ s.solo = false then some p else none)
    | none =>
      let s := s.bumpF (Reg.BTL_LANE n) 15 0
      let s := if frameCrcOk f then s
        else s.updLane n (fun l => { l with errs := l.errs.filter (fun e => decide (s.tb.el - e < 1000000)) ++ [s.tb.el] })
      (s, none)
  else (s, none)

/-! ### Heartbeats and paths -/

/-- R348: authority is requested. -/
def State.requesting (s : State) : Bool := s.pair.waiting || s.pair.window.isSome

/-- R343: word 0 of the heartbeat payload. -/
def State.hbWord0 (s : State) : Nat :=
  b2n (s.regB Reg.SYS_STRAP 0) * 2 ^ 31 + b2n s.healthy * 2 ^ 30 + b2n s.hold * 2 ^ 29 + b2n s.requesting * 2 ^ 28
    + s.pairState * 2 ^ 24 + b2n s.pair.armSeq.isSome * 2 ^ 23 + s.regF Reg.SYS_ADDR 7 0 * 256 + s.pathMask

/-- R343: the heartbeat payload. -/
def State.hbPayload (s : State) : List Byte :=
  bytesBE [s.hbWord0, s.pair.hbCnt, (s.reg Reg.BTL_IMGH).toNat, (s.reg Reg.BTL_LHASH).toNat]

/-- HEARTBEAT_SEND (R340, R342): only while the scheduler's alive pulse has come within the last 2 µs; a SOLO unit sends none (R15). -/
def execHeartbeatSend (s : State) : Host.Outcome State Fault Refusal :=
  .next (
    if !s.pair.quiet && !s.solo && decide (s.tb.el - s.pair.pulseEl ≤ 2000) then
      (s.sendBoth 0x01 s.hbPayload).updPair (fun p => { p with hbCnt := (p.hbCnt + 1) % 2 ^ 32 })
    else s)

/-- The preferred unit (R353): unit PREF, or unit A when PREF = 0. -/
def State.preferred (s : State) : Bool :=
  let pref := s.regF Reg.BTL_CFG 31 30
  let me := if s.regB Reg.SYS_STRAP 0 then 2 else 1
  (if pref = 0 then 1 else pref) == me

/-- The path numbers: 0 the lane path, 1 the HB path, 2 lane 1, 3 lane 2. Whether a path is alive (R344, R345). -/
def State.pathAlive (s : State) (k : Nat) : Bool :=
  match k with
  | 0 => s.recent (s.lane 0).hbEl || s.recent (s.lane 1).hbEl
  | 1 => s.recent s.pair.hbEl
  | 2 => s.recent (s.lane 0).hbEl
  | _ => s.recent (s.lane 1).hbEl

/-- Since when a path has been alive without a gap. -/
def State.pathSince (s : State) (k : Nat) : Nat :=
  match k with
  | 0 => s.pair.laneSince
  | 1 => s.pair.hbSince
  | 2 => (s.lane 0).since
  | _ => (s.lane 1).since

/-- The paths `ks` have been alive. -/
def State.notePaths (s : State) (ks : List Nat) : State :=
  s.updPair (fun p => { p with seen := true, ever := ks.foldl (fun l k => if l.contains k then l else l ++ [k]) p.ever })

/-- HEARTBEAT_FRAME (R343, R344, R560). -/
def execHeartbeatFrame (lane : Fin 2) (frame : List Byte) (s : State) : Host.Outcome State Fault Refusal :=
  .next (
    let n := lane.val
    match s.takeFrame n 0x01 frame with
    | (s, none) => s
    | (s, some p) =>
      let t := s.tb.el
      let w := wordsBE 4 p
      let w0 := wd (lget w 0 0)
      let s := if s.pathAlive 0 then s else s.updPair (fun p => { p with laneSince := t })
      let s := s.updLane n (fun l => { l with since := if s.recent l.hbEl then l.since else t, hbEl := some t })
      let s := s.notePaths [0, 2 + n]
      let st := s.reg Reg.BTL_STAT
      let st := setBit (setBit (setFld (setFld st 15 8 (fld w0 15 8)) 7 4 (fld w0 27 24)) 24 (bit w0 29)) 20 (bit w0 30)
      let s := (s.setReg Reg.BTL_STAT st).setReg Reg.BTL_PIMGH (wd (lget w 2 0))
      let differs := s.reg Reg.BTL_PIMGH != s.reg Reg.BTL_IMGH
      let s : State := { s with boot := { s.boot with
        imgEl := if differs then some (s.boot.imgEl.getD t) else none, imgNoted := s.boot.imgNoted && differs } }
      (s.updPair (fun p => { p with peerWord := w0 })).noteBoth)

/-- HB_IN_EDGE (R344). -/
def execHbInEdge (s : State) : Host.Outcome State Fault Refusal :=
  .next (if s.solo then s
    else (s.updPair (fun p => { p with hbSince := if s.recent p.hbEl then p.hbSince else s.tb.el
                                       hbEl := some s.tb.el })).notePaths [1])

/-- ALIVE_PULSE_LOSS (R342): no alive pulse for 2 µs. -/
def execAlivePulseLoss (s : State) : Host.Outcome State Fault Refusal :=
  .next (if decide (2000 < s.tb.el - s.pair.pulseEl) && !s.pair.quiet && !s.solo then s.silence else s)

/-- The peer's last heartbeat shows it alive, healthy and in one of these states. -/
def State.peerIn (s : State) (states : List Nat) : Bool :=
  s.regB Reg.BTL_STAT 23 && bit s.pair.peerWord 30 && states.contains (fld s.pair.peerWord 27 24)

/-! ### Requests and takeover -/

/-- R50, R14, R342, R353: nothing keeps the unit from a request for authority. -/
def State.mayHold (s : State) : Bool :=
  s.pair.started.isSome && s.healthy && !s.hold && !s.barred && !s.solo

/-- The unit may request authority and has not done so. -/
def State.mayRequest (s : State) : Bool := s.mayHold && !s.requesting

/-- Authority is requested: the request waits for the interlock (R348). -/
def State.request (s : State) : State := s.updPair (fun p => { p with waiting := true })

/-- R348: the request meets the interlock: with AUTH_IN active it waits; otherwise AUTH_OUT toggles and the arbitration
window opens. The request of a barred unit ends (R14, R342). -/
def State.arbitrate (s : State) : State :=
  if s.barred then s.updPair (fun p => { p with waiting := false })
  else if s.pair.authIn then s
  else s.updPair (fun p => { p with waiting := false, toggling := true, window := some s.tb.el })

/-- AUTHORITY_REQUEST (R348): a standing request meets the interlock. -/
def execAuthorityRequest (s : State) : Host.Outcome State Fault Refusal :=
  .next (if s.pair.waiting then s.arbitrate else s)

/-- R374: authority gained by takeover (cause 1: the peer has failed). -/
def State.tookOver (s : State) : State :=
  let seqs := s.mirrorGroups.map (fun g => ((s.epochs g).lastApp).getD 0)
  let s := (s.bump Reg.BTL_NTAKE).setBitR Reg.BTL_STK 2
  (s.record .pairTakeover 0 (1 :: seqs)).updPair (fun p => { p with takeover := false })

/-- ARBITRATION_WINDOW_END (R348, R374): 2 µs after AUTH_OUT began to toggle, HOLD is set. -/
def execArbitrationWindowEnd (s : State) : Host.Outcome State Fault Refusal :=
  .next (
    match s.pair.window with
    | some w =>
      if w + 2000 ≤ s.tb.el then
        if s.barred then s.updPair (fun p => { p with window := none, toggling := false })
        else
          let s := s.gainHold
          if s.pair.takeover then s.tookOver else s
      else s
    | none => s)

/-! ### Planned handover -/

/-- R553: a pending orderly reset learns how its handover ended: it follows 1 ms after the full stop, or is held. -/
def State.handoverOutcome (s : State) (ok : Bool) (stopEl : Nat) : State :=
  match s.boot.rstPend with
  | none => s
  | some _ =>
    if s.boot.rstEl.isSome then s
    else if ok then { s with boot := { s.boot with rstEl := some (stopEl + 1000000) } }
    else
      let s : State := { s with boot := { s.boot with rstPend := none } }
      ((s.clrBitR Reg.SYS_BTN 29).setBitR Reg.SYS_STK 7).record .resetHeld 0 []

/-- R376, R378: a planned handover has succeeded. -/
def State.handoverDone (s : State) (rev : Bool) : State :=
  let s := (s.bump Reg.BTL_NHANDO).record .pairHandover 0 []
  if rev then (s.bump Reg.BTL_NREVERT).record .pairRevert 0 [] else s

/-- The armed unit takes HOLD (R375, step 5). -/
def State.takeArmed (s : State) : State :=
  let rev := s.pair.revSent
  let s := s.updPair (fun p => { p with armSeq := none, armEl := none, revSent := false })
  s.gainHold.handoverDone rev

/-- The releasing unit sees AUTH_IN active (R376, R377). -/
def State.releaseSeen (s : State) : State :=
  match s.pair.relEl with
  | none => s
  | some t =>
    let rev := s.pair.hoRev
    let s := s.updPair (fun p => { p with relEl := none, hoRev := false })
    (s.handoverDone rev).handoverOutcome true t

/-- R375, step 2: the sequence of a full stop of HOGRP at least 1 ms ahead; of the full stop after the next one where
the group does not run on AX0. -/
def State.handoverSeq (s : State) : Nat :=
  let g := s.regF Reg.BTL_CFG 27 24
  let x := s.group g
  if s.groupAxis g = 0 then
    let ahead := turnDiff x.next s.tmbNs
    let per : Int := (s.reg (Reg.SCH_GPER g)).toNat
    let k : Int := if 1000000 ≤ ahead ∨ per = 0 then 0 else (1000000 - ahead + per - 1) / per
    (x.seq + k.toNat) % 2 ^ 32
  else (x.seq + 1) % 2 ^ 32

/-- R341: a pair control frame leaves on both lanes. -/
def State.sendControl (s : State) (cmd g tid seq arg result : Nat) : State :=
  s.sendBoth 0x20 (beBytes cmd 1 ++ beBytes (g % 16) 1 ++ beBytes tid 2 ++ beBytes seq 4 ++ beBytes arg 4 ++ beBytes result 1
    ++ List.replicate 3 0)

/-- R375, steps 1 and 2: the holder starts a planned handover. -/
def State.startHandover (s : State) (rev : Bool) : State :=
  if !s.hold || s.solo || s.pair.hoSeq.isSome then s
  else
    let q := s.handoverSeq
    let s := s.updPair (fun p => { p with hoSeq := some q, hoAck := false, hoNext := false, hoRev := p.hoRev || rev })
    s.sendControl 1 (s.regF Reg.BTL_CFG 27 24) 0 q 0 0

/-- R341: the first copy of a control frame is acted on; the copy from the other lane is dropped. -/
def State.firstCopy (s : State) (lane : Nat) (key : List Nat) : State × Bool :=
  if s.pair.control.contains (1 - lane, key) then
    (s.updPair (fun p => { p with control := p.control.filter (fun x => x.2 != key) }), false)
  else
    (s.updPair (fun p => { p with control := p.control.filter (fun x => x != (lane, key)) ++ [(lane, key)] }), true)

/-- The fields of a pair control frame: CMD, GROUP, TID, SEQ, ARG, RESULT. -/
structure Control where
  cmd : Nat
  group : Nat
  tid : Nat
  seq : Nat
  arg : Nat
  result : Nat
deriving DecidableEq, Repr

/-- R341: a payload read. -/
def readControl (p : List Byte) : Control :=
  let w := wordsBE 4 p
  let w0 := lget w 0 0
  { cmd := bitsOf w0 31 24, group := bitsOf w0 19 16, tid := bitsOf w0 15 0, seq := lget w 1 0, arg := lget w 2 0
    result := bitsOf (lget w 3 0) 31 24 }

/-- A control frame of command `cmd` arrives; the answer is its fields when it is to be acted on. -/
def State.takeControl (s : State) (lane cmd : Nat) (f : List Byte) : State × Option Control :=
  match s.takeFrame lane 0x20 f with
  | (s, none) => (s, none)
  | (s, some p) =>
    let c := readControl p
    if c.cmd = cmd then
      match s.firstCopy lane [c.cmd, c.group, c.tid, c.seq] with
      | (s, first) => (s, if first then some c else none)
    else (s, none)

/-- HO_PREP (R375, step 3): a healthy peer in state 1 or 2 arms and answers. -/
def execHoPrep (lane : Fin 2) (frame : List Byte) (s : State) : Host.Outcome State Fault Refusal :=
  .next (
    match s.takeControl lane.val 1 frame with
    | (s, none) => s
    | (s, some c) =>
      if s.healthy && !s.hold && !s.solo && !s.barred && (s.pairState == 1 || s.pairState == 2) then
        (s.updPair (fun p => { p with armGroup := c.group, armSeq := some c.seq })).sendControl 2 c.group 0 c.seq 0 0
      else s)

/-- HO_ACK (R375, R341): another SEQ than that of the outstanding HO_PREP changes nothing. -/
def execHoAck (lane : Fin 2) (frame : List Byte) (s : State) : Host.Outcome State Fault Refusal :=
  .next (
    match s.takeControl lane.val 2 frame with
    | (s, none) => s
    | (s, some c) => if s.hold && s.pair.hoSeq == some c.seq then s.updPair (fun p => { p with hoAck := true }) else s)

/-- REVERT_REQ (R378): the holder starts a planned handover at once. -/
def execRevertReq (lane : Fin 2) (frame : List Byte) (s : State) : Host.Outcome State Fault Refusal :=
  .next (
    match s.takeControl lane.val 3 frame with
    | (s, none) => s
    | (s, some _) => s.startHandover true)

/-- R375: BTL_HOREQ as written; GO is ignored without HOLD. -/
def State.horeqWrite (s : State) (v : Word) : State := if bit v 0 && s.hold then s.startHandover false else s

/-- BTL_HOREQ (R375). -/
def execBtlHoreq (p : Party) (v : Word) (s : State) : Host.Outcome State Fault Refusal :=
  .next (s.byParty p (fun s => s.horeqWrite v))

/-- HANDOVER_FAIL (R377): 20 µs after its full stop an armed unit without authority, or a releasing unit that has seen no
activity on AUTH_IN. The latter requests again, unless it is unhealthy (R352) or barred. -/
def execHandoverFail (s : State) : Host.Outcome State Fault Refusal :=
  .next (
    let late := fun (o : Option Nat) => match o with
      | some t => decide (t + 20000 ≤ s.tb.el)
      | none => false
    if late s.pair.armEl && !s.hold then
      let s := s.updPair (fun p => { p with toggling := false, armSeq := none, armEl := none, revSent := false })
      (s.setBitR Reg.BTL_STK 12).record .pairHandoverFail 0 []
    else if late s.pair.relEl then
      let s := s.updPair (fun p => { p with relEl := none, hoRev := false })
      let s := s.record .pairHandoverFail 0 []
      (if s.mayHold then s.request else s).handoverOutcome false 0
    else s)

/-- R353: no path has been alive for 100 ms, counted from the program's start. -/
def State.alone (s : State) : Bool :=
  let last := [(s.lane 0).hbEl, (s.lane 1).hbEl, s.pair.hbEl].filterMap (fun o => o.map (fun t => t + 8000))
  let since := last.foldl max (s.pair.started.getD s.tb.el)
  s.pathMask == 0 && decide (since + 100000000 ≤ s.tb.el)

/-- R353: a standby unit at a full stop of HOGRP. -/
def State.startupRequest (s : State) : State :=
  let s := s.noteBoth
  if !s.mayRequest || s.pair.armSeq.isSome || !(s.pairState == 1 || s.pairState == 2) then s
  else if s.alone then (s.record .pairAlone 0 []).request
  else if s.regB Reg.BTL_STAT 23 && !(bit s.pair.peerWord 29)
      && (s.preferred || (match s.pair.both12 with
        | some t => decide (t + 1000000000 ≤ s.tb.el)
        | none => false)) then s.request
  else s

/-- R354: an active unit at a full stop of HOGRP with no handover under way. -/
def State.unhealthyStop (s : State) : State :=
  if s.healthy then s.updPair (fun p => { p with unhealthyNoted := false })
  else if s.peerIn [2] then s.startHandover false
  else if s.pair.unhealthyNoted then s
  else (s.updPair (fun p => { p with unhealthyNoted := true })).record .pairUnhealthyHold 0 []

/-- R375, step 4: the holder at a full stop of HOGRP with sequence `q`. -/
def State.releaseStop (s : State) (q : Nat) : State :=
  match s.pair.hoSeq with
  | some h =>
    if h = q ∧ s.pair.hoAck = true then
      let s := s.updPair (fun p => { p with hoSeq := none, hoAck := false, relEl := some s.tb.el, toggling := false })
      let s := s.loseHold
      if s.pair.authIn then s.releaseSeen else s
    else if 0 ≤ turnDiff (wd q) (wd h) then s.updPair (fun p => { p with hoSeq := none, hoNext := true })
    else s
  | none => if s.pair.hoNext then s.startHandover false else s.unhealthyStop

/-- R353, R354, R375: what the pair logic does at the full stop of sequence `seq` of group `g`. -/
def State.pairStop (s : State) (g seq : Nat) : State :=
  let q := seq % 2 ^ 32
  if s.solo || s.pair.started.isNone then s
  else
    let s := if s.pair.armSeq == some q && s.pair.armGroup == g && !s.hold && !s.barred then
        let s := s.updPair (fun p => { p with toggling := true, armEl := some s.tb.el, tookStop := some (g, seq) })
        if s.pair.authIn then s else s.takeArmed
      else s
    if g = s.regF Reg.BTL_CFG 27 24 then (if s.hold then s.releaseStop q else s.startupRequest) else s

/-! ### Interlock inputs -/

/-- AUTH_IN_ACTIVE (R347 to R349). -/
def execAuthInActive (s : State) : Host.Outcome State Fault Refusal :=
  .next (
    if s.pair.authIn then s
    else
      let s := s.updPair (fun p => { p with authIn := true, authInEl := s.tb.el, dualNoted := false })
      let s := if s.pair.window.isSome && s.regB Reg.SYS_STRAP 0 then
          s.updPair (fun p => { p with window := none, toggling := false, waiting := true })
        else s
      s.releaseSeen.syncEnables)

/-- AUTH_IN_INACTIVE (R347 to R349, R375): an armed unit sets HOLD; a waiting request goes on. -/
def execAuthInInactive (s : State) : Host.Outcome State Fault Refusal :=
  .next (
    if s.pair.authIn then
      let s := (s.updPair (fun p => { p with authIn := false, dualNoted := false })).syncEnables
      if s.pair.armEl.isSome && s.pair.armSeq.isSome && !s.hold && !s.barred then s.takeArmed
      else if s.pair.waiting then s.arbitrate
      else s
    else s)

/-- DUAL_AUTHORITY (R350): AUTH_IN active for longer than 2 µs at a holder. -/
def execDualAuthority (s : State) : Host.Outcome State Fault Refusal :=
  .next (
    if s.hold && !s.solo && s.pair.authIn && !s.pair.dualNoted && decide (s.pair.authInEl + 2000 < s.tb.el) then
      (s.updPair (fun p => { p with dualNoted := true })).dualAuthority
    else s)

/-- PAIR_BEACON (R351): a beacon from a LAN. -/
def execPairBeacon (c : TelCopy) (s : State) : Host.Outcome State Fault Refusal :=
  .next (
    if c.src = s.regF Reg.SYS_ADDR 7 0 then s.duplicateAddress c.lan.val
    else if c.stream = 0xFFFF then s.beacon c else s)

/-- PAIR_BEACON_SEND (R350, R505): every 1 ms a unit with SOLO = 0 sends words 0 and 1 of its heartbeat payload. -/
def execPairBeaconSend (s : State) : Host.Outcome State Fault Refusal :=
  .next (
    if s.solo then s
    else s.publishTelegram 0xFFFF false s.hold (s.tb.t / 1000000) s.tb.t (s.tb.t / 1000000000 % 65536) (s.hbPayload.take 8))

/-! ### Paths lost and restored -/

/-- PEER_ALIVE (R344): both paths alive for 100 ms. -/
def execPeerAlive (s : State) : Host.Outcome State Fault Refusal :=
  .next (
    let long := fun k => s.pathAlive k && decide (s.pathSince k + 100000000 ≤ s.tb.el)
    if long 0 && long 1 && !(s.regB Reg.BTL_STAT 23) && !s.solo then
      ((s.setBitR Reg.BTL_STAT 23).updPair (fun p => { p with failed := false })).noteBoth
    else s)

/-- The path whose life tells a loss of path `k` from a failed peer (R345). -/
def otherPath (k : Nat) : Nat :=
  match k with
  | 0 => 1
  | 1 => 0
  | 2 => 3
  | _ => 2

/-- PATH_LOSS (R345): a path is silent for 8 µs while the other is alive; one that has never been alive is silent since the reset. -/
def execPathLoss (path : Fin 4) (s : State) : Host.Outcome State Fault Refusal :=
  .next (
    let k := path.val
    if !(s.pathAlive k) && s.pathAlive (otherPath k) && (s.pair.ever.contains k || decide (8000 ≤ s.tb.el)) && !(s.pair.lost.contains k) && !s.solo then
      let s := s.updPair (fun p => { p with lost := p.lost ++ [k] })
      if k < 2 then (s.setBitR Reg.BTL_STK 0).record .pairPathLoss k [k]
      else (s.setBitR Reg.BTL_STK 1).record .pairLaneDown (k - 2) [k - 2]
    else s)

/-- PATH_RESTORE (R345): alive again for 1 s. -/
def execPathRestore (path : Fin 4) (s : State) : Host.Outcome State Fault Refusal :=
  .next (
    let k := path.val
    if s.pair.lost.contains k && s.pathAlive k && decide (s.pathSince k + 1000000000 ≤ s.tb.el) then
      (s.updPair (fun p => { p with lost := p.lost.filter (fun q => q != k) })).record .pairPathRestore k [k]
    else s)

/-- LANE_TRAINED (R346): the training of a lane in TRAIN ends with this equaliser setting. -/
def execLaneTrained (lane : Fin 2) (eq : Fin 256) (s : State) : Host.Outcome State Fault Refusal :=
  .next (
    if s.regF (Reg.BTL_LANE lane.val) 31 30 != 1 || s.domainOut 11 then s
    else (s.setRegF (Reg.BTL_LANE lane.val) 31 30 2).setRegF (Reg.BTL_LANE lane.val) 23 16 eq.val)

/-- LANE_DOWN (R346): more than 16 CRC errors within 1 ms; the lane retrains. -/
def execLaneDown (lane : Fin 2) (s : State) : Host.Outcome State Fault Refusal :=
  .next (
    let n := lane.val
    let recentErrs := (s.lane n).errs.filter (fun e => decide (s.tb.el - e < 1000000))
    if s.laneUp n && decide (16 < recentErrs.length) then
      (s.setRegF (Reg.BTL_LANE n) 31 30 1).updLane n (fun l => { l with errs := [] })
    else s)

/-- EQ_LIMIT (R346): the equaliser of a lane has adapted to an end of its range and stood there for 1 s. -/
def execEqLimit (lane : Fin 2) (eq : Fin 256) (s : State) : Host.Outcome State Fault Refusal :=
  .next (
    if s.laneUp lane.val && (eq.val == 0 || eq.val == 255) then
      ((s.setRegF (Reg.BTL_LANE lane.val) 23 16 eq.val).setBitR Reg.BTL_STK 13).record .pairEqLimit lane.val [lane.val]
    else s)

/-- R378: the revert conditions. -/
def State.revertReady (s : State) : Bool :=
  s.regB Reg.BTL_CFG 29 && s.regF Reg.BTL_CFG 31 30 != 0 && s.preferred && s.pairState == 2
    && decide (200 ≤ s.pair.revCount) && decide (s.pair.readyEl + s.regF Reg.BTL_CFG 11 0 * 1000000000 ≤ s.tb.el)

/-- R378: REVERT_REQ goes to the active peer once. -/
def State.revertCheck (s : State) : State :=
  if s.revertReady && !s.pair.revSent && bit s.pair.peerWord 29 then
    (s.updPair (fun p => { p with revSent := true })).sendControl 3 (s.regF Reg.BTL_CFG 27 24) 0 0 0 0
  else s

/-- REVERT_HOLDOFF_ELAPSED (R378). -/
def execRevertHoldoffElapsed (s : State) : Host.Outcome State Fault Refusal := .next s.revertCheck

/-- BTL_STAT as it reads. -/
def State.btlStat (s : State) : Word :=
  let w := setBit (setBit (s.reg Reg.BTL_STAT) 27 (s.regB Reg.SYS_STRAP 0)) 26 s.healthy
  setFld (setBit (setBit w 22 s.pair.armSeq.isSome) 21 s.revertReady) 19 17 s.pathMask

end Sys2Proof.Machine
end

