-- ==== Sys2Proof/Machine/Mirror.lean ====
section
/-! DEFINITION. Machine/Mirror.lean: mirror epochs, the agreement check, takeover and pair-wide transactions
(spec/13_redundant_pair.md R344, R355 to R370, R379 to R384; MIR.PUT, spec/04_instruction_reference.md R128). -/
namespace Sys2Proof.Machine

/-! ### Staging and sending -/

/-- The segments a group has staged. -/
def State.segments (s : State) (g : Nat) : List (List Word) :=
  (s.group g).staged.filterMap (fun o => match o.item with
    | .mirror ws => some ws
    | _ => none)

/-- R356: a segment of `m` words fits the mirror staging of group `g`. -/
def State.segmentFits (s : State) (g m : Nat) : Bool :=
  let segs := s.segments g
  s.regB (Reg.BTL_MRX g) 31 && decide (segs.length < 255) && decide ((segs.map List.length).foldl (· + ·) 0 + m + 2 ≤ 8184)

/-- MIR.PUT (R122, R128): the segment is staged with its head: SRC and m − 1. -/
def execMirPut (x : Guard) (pd : PredNo) (wa : RegNo) (m : Nat) (q : BankUse) (s : State) : Host.Outcome State Fault Refusal :=
  let e := x.e.val
  let b := addrBank (s.w e wa.val)
  let n := 4 + ceilDiv m 4 + s.lockExtra e + s.stallOf b q.stall
  .next (s.issueAt x (decide (0 < m) && decide (m ≤ 4096)) (4 + ceilDiv m 4) 1 n (n - 1) false (fun s =>
    let w := s.w e wa.val
    let c := s.checkOperand w (4 * m) (s.ownerOf e)
    let c := { c with align := c.align || addrOff w % 4 != 0, len := c.len || !(s.segmentFits (s.runGroup e) m) }
    if !c.ok then ((s.checkFlags e c).setP e pd.val false, .pass 1)
    else
      let a := bankAddr b (addrOff w)
      let (s, bad) := ((s.touch b).markUpset a (4 * m) q.upset).noteParity a (4 * m)
      let seg := wd (fld w 20 0) :: wd (m - 1) :: s.bankWords a m
      ((((s.esfIf e bad .parity).stageOut e (.mirror seg)).setP e pd.val true), .pass 1)))

/-- R357: L of an epoch, bytes. -/
def TxEpoch.size (e : TxEpoch) : Nat := 64 + e.body.length

/-- R358: an epoch is placed in the transmit memory, or dropped. -/
def State.placeEpoch (s : State) (e : TxEpoch) : State :=
  if (s.pair.txq.map TxEpoch.size).foldl (· + ·) 0 + e.size ≤ 131072 then s.updPair (fun p => { p with txq := p.txq ++ [e] })
  else ((s.bump Reg.BTL_NTXDROP).setBitR Reg.BTL_STK 14).record .pairMirrorTxDrop e.group [e.group, e.seq]

/-- R340: the body frames of an epoch, each an offset and up to 1020 bytes; `n` bounds their number. -/
def bodyFrames : Nat → Nat → List Byte → List (List Byte)
  | 0, _, _ => []
  | n + 1, off, bs => match bs with
    | [] => []
    | _ => (beBytes off 4 ++ bs.take 1020) :: bodyFrames n (off + 1020) (bs.drop 1020)

/-- EPOCH_TRANSMIT_END (R358): the oldest epoch has left whole on both lanes. -/
def execEpochTransmitEnd (s : State) : Host.Outcome State Fault Refusal :=
  .next (
    match s.pair.txq with
    | [] => s
    | e :: rest =>
      let s := s.updPair (fun p => { p with txq := rest })
      let s := s.sendBoth 0x10 e.head
      let s := (bodyFrames 40 0 e.body).foldl (fun s f => s.sendBoth 0x11 f) s
      s.sendBoth 0x12 e.commit)

/-- R367: one published output as DOUT takes it. -/
def outputBytes : StagedItem → List Byte
  | .telegram st sf pl => Config.outBytes 1 ([st, b2n sf, pl.length] ++ pl.map BitVec.toNat)
  | .can ch im => Config.outBytes 2 (ch :: im.map BitVec.toNat)
  | .swap g first n => Config.outBytes 4 [b2n g, first, n]
  | .safOn m => Config.outBytes 5 [1, m.toNat]
  | .safRst m => Config.outBytes 5 [2, m.toNat]
  | .mirror _ => []

/-- R367: a staged register as DOUT takes it. -/
def registerBytes (w : PendWrite) : List Byte := Config.outBytes 3 [w.addr, w.val.toNat]

/-- The key by which outputs of a full stop are ordered (R90): clause (the service protocol last), execution, place. -/
def orderKey (clause : Option Nat) (disp ord : Nat) : Nat := ((clause.getD 256) * 2 ^ 64 + disp) * 2 ^ 64 + ord

/-- R367: DOUT over the outputs published, in the order of R90. -/
def doutOf (regs : List PendWrite) (outs : List StagedOut) : Word :=
  let l := regs.map (fun w => (orderKey w.clause w.disp w.ord, registerBytes w))
    ++ outs.map (fun o => (orderKey (some o.clause) o.disp o.ord, outputBytes o.item))
  crc32c ((sortByKey (fun x => x.1) l).foldr (fun x acc => x.2 ++ acc) [])

/-- R355, R357, R365, R367: the mirror epoch of the full stop of sequence `seq` at position `pos`: `regs` and `outs` are
what it publishes, in order; `held` says whether the unit held authority in the clock before. -/
def State.mirrorStop (s : State) (g seq : Nat) (pos : Word) (held : Bool) (regs : List PendWrite) (outs : List StagedOut) : State :=
  if !(s.regB (Reg.BTL_MRX g) 31) then s
  else
    let segs := outs.filterMap (fun o => match o.item with
      | .mirror ws => some ws
      | _ => none)
    let words := (segs.foldr (fun a b => a ++ b) []).map BitVec.toNat
    let body := bytesBE words
    let din := s.reg (Reg.BTL_DIG g)
    let dout := doutOf regs outs
    let scrc := crc32c body
    let s := s.setReg (Reg.BTL_DOUT g) dout
    let own : OwnStop := { seq := seq, pos := pos, din := din, dout := dout, scrc := scrc }
    let s := s.updEpochs g (fun x => { x with stops := (own :: x.stops).take 8 })
    if held && !s.solo then
      let head := bytesBE [g * 2 ^ 28 + segs.length, seq % 2 ^ 32, seq / 2 ^ 32 % 65536, words.length,
        (s.reg Reg.BTL_LHASH).toNat, 0, 0, pos.toNat]
      let ecrc := crc32c (head ++ body)
      s.placeEpoch { group := g, seq := seq, head := head, body := body
                     commit := bytesBE [ecrc.toNat, scrc.toNat, din.toNat, dout.toNat, 0, 0, 0, 0] }
    else s

/-! ### Receiving -/

/-- An epoch is decided: its entry and its copies go. -/
def State.closeEpoch (s : State) (g seq : Nat) : State :=
  let s := s.updPair (fun p => { p with openEps := p.openEps.filter (fun o => !(o.group == g && o.seq == seq)) })
  [0, 1].foldl (fun s n => match (s.lane n).copy with
    | some c => if c.group = g ∧ c.seq = seq then s.updLane n (fun l => { l with copy := none }) else s
    | none => s) s

/-- R361: an epoch is discarded with a cause. -/
def State.discardEpoch (s : State) (g seq cause : Nat) : State :=
  let s := s.closeEpoch g seq
  let s := ((s.bump Reg.BTL_NEPDISC).bump (Reg.BTL_NDPART + (cause - 1))).drop Reg.BTL_NEPPEND
  let s := (s.setBitR Reg.BTL_STK 4).record .pairMirrorDiscard g [g, seq, cause]
  let w := setFld (setFld (setFld (s.reg (Reg.BTL_MST g)) 31 30 2) 28 25 cause) 15 0 seq
  let s := (s.setReg (Reg.BTL_MST g) w).updEpochs g (fun x => { x with good := false })
  (if g = s.regF Reg.BTL_CFG 27 24 then s.updPair (fun p => { p with revCount := 0 }) else s).restate

/-- R360: the copy of an epoch on lane `n` has ended or can no longer come; with both gone it is discarded. -/
def State.endCopy (s : State) (n g seq : Nat) (crc : Bool) : State :=
  let s := match (s.lane n).copy with
    | some c => if c.group = g ∧ c.seq = seq then s.updLane n (fun l => { l with copy := none }) else s
    | none => s
  match s.pair.openEps.find? (fun o => o.group == g && o.seq == seq) with
  | none => s
  | some o =>
    let o := { o with ended := if o.ended.contains n then o.ended else o.ended ++ [n], crc := o.crc || crc }
    let s := s.updPair (fun p => { p with openEps := p.openEps.map (fun x => if x.group = g ∧ x.seq = seq then o else x) })
    if [0, 1].all (fun k => o.ended.contains k || ((s.lane k).copy.isNone && !(s.laneUp k))) then
      s.discardEpoch g seq (if o.crc then 2 else 1)
    else s

/-- R366: the first header of a group and sequence pair. -/
def State.newEpoch (s : State) (g seq len : Nat) : State :=
  if s.pair.received.contains (g, seq) then s
  else
    let s := (s.bump Reg.BTL_NEPRX).bump Reg.BTL_NEPPEND
    let last := (s.epochs g).lastRx
    let gap := match last with
      | some q => if q + 1 < seq then seq - q - 1 else 0
      | none => 0
    let s := s.bump Reg.BTL_NEPGAP gap
    let s := s.updEpochs g (fun x => { x with lastRx := some (max seq (last.getD 0)) })
    s.updPair (fun p => { p with received := p.received ++ [(g, seq)]
                                 openEps := p.openEps ++ [{ group := g, seq := seq, len := len, el := s.tb.el }] })

/-- EPOCH_HEADER_FRAME (R360, R366). -/
def execEpochHeaderFrame (lane : Fin 2) (frame : List Byte) (s : State) : Host.Outcome State Fault Refusal :=
  .next (
    let n := lane.val
    match s.takeFrame n 0x10 frame with
    | (s, none) => s
    | (s, some p) =>
      if s.solo then s
      else
        let w := wordsBE 8 p
        let g := bitsOf (lget w 0 0) 31 28
        let seq := lget w 1 0 + bitsOf (lget w 2 0) 15 0 * 2 ^ 32
        let len := lget w 3 0
        let others := s.pair.openEps.filter (fun o => !(o.group == g && o.seq == seq) && !(o.ended.contains n))
        let s := others.foldl (fun s o => s.endCopy n o.group o.seq false) s
        let s := s.newEpoch g seq len
        match s.pair.openEps.find? (fun o => o.group == g && o.seq == seq) with
        | some o =>
          if o.ended.contains n || (s.lane n).copy.isSome then s
          else s.updLane n (fun l => { l with copy := some { group := g, seq := seq, head := p, len := len, el := s.tb.el } })
        | none => s)

/-- EPOCH_BODY_FRAME (R357, R360): the bytes at the offset where the copy has come. -/
def execEpochBodyFrame (lane : Fin 2) (frame : List Byte) (s : State) : Host.Outcome State Fault Refusal :=
  .next (
    let n := lane.val
    match s.takeFrame n 0x11 frame with
    | (s, none) => s
    | (s, some p) =>
      match (s.lane n).copy with
      | none => s
      | some c =>
        if ofBE (p.take 4) = c.body.length then
          s.updLane n (fun l => { l with copy := some { c with body := c.body ++ p.drop 4 } })
        else s)

/-- R362: the back bank of a group: BANKA if DMA channel 3 owns it, otherwise BANKB; a bank into which an epoch is being
copied is not free. -/
def State.backBank (s : State) (g : Nat) : Option Nat :=
  [s.regF (Reg.BTL_MRX g) 29 24, s.regF (Reg.BTL_MRX g) 21 16].find? (fun b =>
    s.owner b == 0x3B && !(s.pair.applying.any (fun a => a.bank == b)))

/-- R361: the cause for which a complete copy is discarded, or 0. -/
def State.epochCause (s : State) (c : EpochCopy) (lhash : Word) : Nat :=
  let acc := s.reg Reg.BTL_LHACC
  if c.body.length ≠ 4 * c.len ∨ 8184 < c.len then 3
  else if lhash ≠ s.reg Reg.BTL_LHASH ∧ ¬(acc ≠ 0 ∧ lhash = acc) then 4
  else if !(s.regB (Reg.BTL_MRX c.group) 31) then 5
  else if s.hold && s.pair.tookStop != some (c.group, c.seq) then 6
  else if (match (s.epochs c.group).lastApp with
    | some q => decide (c.seq ≤ q)
    | none => false) then 7
  else if (s.backBank c.group).isNone then 8
  else 0

/-- The bank tag of an epoch being applied (R362). -/
def mirrorTag (b : Nat) : Nat := 0x700 + b

/-- R361, R362: an epoch with a complete copy is checked; one that passes is copied into the back bank. -/
def State.decideEpoch (s : State) (c : EpochCopy) (commit : List Byte) : State :=
  let lhash := wd (lget (wordsBE 8 c.head) 4 0)
  let cause := s.epochCause c lhash
  if cause ≠ 0 then s.discardEpoch c.group c.seq cause
  else
    let b := (s.backBank c.group).getD 0
    let alt := s.reg Reg.BTL_LHACC != 0 && lhash == s.reg Reg.BTL_LHACC
    let s := (s.closeEpoch c.group c.seq).updEpochs c.group (fun x => { x with lastApp := some c.seq })
    (s.updPair (fun p => { p with applying := p.applying ++
      [{ group := c.group, seq := c.seq, alt := alt, head := c.head, body := c.body, commit := commit, bank := b }] })).markBank b (mirrorTag b)

/-- EPOCH_COMMIT_FRAME (R360, R361): the copy is complete; its ECRC decides whether the epoch is decided from it. -/
def execEpochCommitFrame (lane : Fin 2) (frame : List Byte) (s : State) : Host.Outcome State Fault Refusal :=
  .next (
    let n := lane.val
    match s.takeFrame n 0x12 frame with
    | (s, none) => s
    | (s, some p) =>
      match (s.lane n).copy with
      | none => s
      | some c =>
        if ofBE (p.take 4) = (crc32c (c.head ++ c.body)).toNat then s.decideEpoch c p
        else s.endCopy n c.group c.seq true)

/-- EPOCH_COPY_TIMEOUT (R360): twice the maximum time of R359, 3 µs + 7 ns × L, has passed since the header. -/
def execEpochCopyTimeout (lane : Fin 2) (s : State) : Host.Outcome State Fault Refusal :=
  .next (
    let n := lane.val
    let limit := fun len => 3000 + 7 * (64 + 4 * len)
    match (s.lane n).copy with
    | some c => if decide (limit c.len < s.tb.el - c.el) then s.endCopy n c.group c.seq false else s
    | none =>
      match s.pair.openEps.find? (fun o => !(o.ended.contains n) && decide (limit o.len < s.tb.el - o.el)) with
      | some o => s.endCopy n o.group o.seq false
      | none => s)

/-- R365: the group's sequence is set by an applied epoch; the answer is the own full stop to compare with. -/
def State.alignSeq (s : State) (g seq : Nat) (pos : Word) : State × Option OwnStop :=
  let own := (s.epochs g).stops.find? (fun o => o.pos == pos)
  let fix := fun (s : State) (new : Nat) =>
    let s := (s.updGroup g (fun x => { x with seq := new })).setBitR Reg.BTL_STK 8
    let s := if (s.epochs g).corrected then s else s.record .pairSeqSet g [g, seq]
    s.updEpochs g (fun x => { x with corrected := true })
  match own with
  | some o =>
    if o.seq = seq then (s.updEpochs g (fun x => { x with corrected := false }), some o)
    else (fix s ((((s.group g).seq + seq + 2 ^ 48) - o.seq) % 2 ^ 48), none)
  | none => (fix s ((seq + 1) % 2 ^ 48), none)

/-- R368, R369: the digests of an applied epoch compared with the unit's own; the answer says whether all agreed. -/
def State.compareDigests (s : State) (g seq : Nat) (own : Option OwnStop) (din dout scrc : Word) : State × Option Nat :=
  match own with
  | none => (s.bump Reg.BTL_NNOCMP, none)
  | some o =>
    let d0 := o.din != din
    let d1 := o.dout != dout
    let d2 := o.scrc != scrc
    let agree := b2n (!d0) + 2 * b2n (!d1) + 4 * b2n (!d2)
    let s := if d0 then (s.bump Reg.BTL_NDIVIN).setBitR Reg.BTL_STK 5 else s
    let s := if d1 then (s.bump Reg.BTL_NDIVOUT).setBitR Reg.BTL_STK 6 else s
    let s := if d2 then (s.bump Reg.BTL_NDIVST).setBitR Reg.BTL_STK 7 else s
    if agree = 7 then ((s.bump Reg.BTL_NAGREE).updEpochs g (fun x => { x with agreed := true }), some agree)
    else
      let s := if (s.epochs g).agreed then s.record .pairDiverge g [g, seq, 7 - agree] else s
      (s.updEpochs g (fun x => { x with agreed := false }), some agree)

/-- EPOCH_APPLY (R362 to R369, R378): the oldest epoch being copied is in its bank, which passes to the host of MCL. -/
def execEpochApply (s : State) : Host.Outcome State Fault Refusal :=
  .next (
    match s.pair.applying with
    | [] => s
    | a :: rest =>
      let g := a.group
      let s := (s.updPair (fun p => { p with applying := rest })).unmarkTag (mirrorTag a.bank)
      let h := wordsBE 8 a.head
      let cm := wordsBE 8 a.commit
      let w0 := (setBit (wd (lget h 0 0)) 27 a.alt).toNat
      let words := [w0, lget h 1 0, lget h 2 0, lget h 3 0, lget h 4 0, lget cm 2 0, lget cm 3 0, lget h 7 0]
        ++ wordsBE (a.body.length / 4) a.body
      let s := (s.touch a.bank).storeWords (bankAddr a.bank 0) (words.map wd)
      let s := s.passBank a.bank (s.ownerOf (s.hostOf (s.regF (Reg.BTL_MRX g) 7 0)))
      let s := (s.bump Reg.BTL_NEPAPP).drop Reg.BTL_NEPPEND
      let (s, own) := s.alignSeq g a.seq (wd (lget h 7 0))
      let (s, res) := s.compareDigests g a.seq own (wd (lget cm 2 0)) (wd (lget cm 3 0)) (wd (lget cm 1 0))
      let w := setFld (setFld (setFld (s.reg (Reg.BTL_MST g)) 31 30 1) 28 25 0) 15 0 a.seq
      let w := setFld (setBit w 29 a.alt) 21 16 a.bank
      let w := match res with
        | some m => setFld w 24 22 m
        | none => w
      let s := s.setReg (Reg.BTL_MST g) w
      let ok := match res with
        | some m => m == 7
        | none => true
      let s := s.updEpochs g (fun x => { x with good := ok })
      let s := s.restate
      let s := if g = s.regF Reg.BTL_CFG 27 24 ∧ s.pairState = 2 then
          s.updPair (fun p => { p with revCount := if res == some 7 then p.revCount + 1 else 0 })
        else s
      (s.revertCheck).blockEvent 10 0)

/-! ### Pair-wide transactions -/

/-- The transaction of a group. -/
def State.txn (s : State) (g : Nat) : Option Txn := mget s.pair.txns g

/-- The transaction of a group set. -/
def State.setTxn (s : State) (g : Nat) (t : Txn) : State := s.updPair (fun p => { p with txns := mput p.txns g t })

/-- BTL_TXSTAT. -/
def State.txStat (s : State) (g tid st cause : Nat) : State :=
  s.setReg Reg.BTL_TXSTAT (wd (st * 2 ^ 29 + cause * 2 ^ 26 + g % 16 * 65536 + tid % 65536))

/-- R379: BTL_TXN as written. -/
def State.txnWrite (s : State) (v : Word) : State :=
  if bit v 31 then
    let g := fld v 19 16
    if (s.txn g).isSome then s.setBitR Reg.BTL_STK 11
    else (s.setTxn g { tid := fld v 15 0 }).txStat g (fld v 15 0) 1 0
  else s

/-- BTL_TXN (R379). -/
def execBtlTxn (p : Party) (v : Word) (s : State) : Host.Outcome State Fault Refusal :=
  .next (s.byParty p (fun s => s.txnWrite v))

/-- The peer is declared failed, or there is none (R381). -/
def State.peerGone (s : State) : Bool := !(s.regB Reg.BTL_STAT 23)

/-- R381: what the results known decide: (commit, cause of an abort). -/
def Txn.verdict (t : Txn) : Option (Bool × Nat) :=
  if !t.ok then some (false, 1)
  else match t.peer with
    | some (ok, crc) => if !ok then some (false, 2) else if crc != t.crc then some (false, 3) else some (true, 0)
    | none => none

/-- R381: the deciding unit decides as soon as it can, and sends TXDEC. -/
def State.txnDecide (s : State) (g : Nat) : State :=
  match s.txn g with
  | none => s
  | some t =>
    if t.stage != 2 || !t.decider || t.decision.isSome then s
    else
      let d := if s.peerGone then some (t.ok, if t.ok then 0 else 1) else t.verdict
      match d with
      | none => s
      | some d =>
        (s.setTxn g { t with decision := some d }).sendControl 5 g t.tid (t.seq % 2 ^ 32) 0 (b2n (!d.1))

/-- TXPREP (R381): the peer's prepare result and CRC. -/
def execTxprep (lane : Fin 2) (frame : List Byte) (s : State) : Host.Outcome State Fault Refusal :=
  .next (
    match s.takeControl lane.val 4 frame with
    | (s, none) => s
    | (s, some c) =>
      match s.txn c.group with
      | none => s
      | some t =>
        if t.tid = c.tid then (s.setTxn c.group { t with peer := some (c.result == 0, wd c.arg) }).txnDecide c.group else s)

/-- TXDEC (R382): the decider's decision. -/
def execTxdec (lane : Fin 2) (frame : List Byte) (s : State) : Host.Outcome State Fault Refusal :=
  .next (
    match s.takeControl lane.val 5 frame with
    | (s, none) => s
    | (s, some c) =>
      match s.txn c.group with
      | none => s
      | some t =>
        if t.tid = c.tid ∧ t.decider = false then
          let commit := c.result == 0
          let cause := if commit then 0 else match t.verdict with
            | some (false, k) => k
            | _ => 4
          s.setTxn c.group { t with decision := some (commit, cause) }
        else s)

/-- TXN_DECISION_TIMEOUT (R381): no TXPREP 100 µs before the next full stop of the group. -/
def execTxnDecisionTimeout (g : GroupNo) (s : State) : Host.Outcome State Fault Refusal :=
  .next (
    let near := s.groupAxis g.val != 0 || decide (turnDiff (s.group g.val).next s.tmbNs ≤ 100000)
    match s.txn g.val with
    | none => s
    | some t =>
      if t.stage == 2 && t.decider && t.decision.isNone && near && !s.peerGone then
        (s.setTxn g.val { t with decision := some (false, 4) }).sendControl 5 g.val t.tid (t.seq % 2 ^ 32) 0 1
      else s)

/-- R380: the prepare full stop of sequence `seq`: the set is frozen and TXPREP goes out; `ok` is the result of the
checks, `held` says that the unit held authority. -/
def State.txnPrepare (s : State) (g seq : Nat) (ok held : Bool) (set : List PendWrite) : State :=
  match s.txn g with
  | none => s
  | some t =>
    let crc := crc32c (set.foldr (fun w acc => registerBytes w ++ acc) [])
    let s := s.setTxn g { t with stage := 2, frozen := set, crc := crc, ok := ok, decider := held, seq := (seq + 1) % 2 ^ 48 }
    let s := (s.txStat g t.tid 2 0).sendControl 4 g t.tid (seq % 2 ^ 32) crc.toNat (b2n (!ok))
    s.txnDecide g

/-- R382, R383: the outcome at the commit full stop: the decision, or what stands for it. -/
def State.txnOutcome (s : State) (t : Txn) : Bool × Nat × Bool :=
  match t.decision with
  | some (c, k) => (c, k, false)
  | none =>
    if t.decider then (false, 4, false)
    else if s.peerGone then (t.ok, if t.ok then 0 else 1, false)
    else (false, 5, true)

/-- R382, R383: the transaction of a group ends; the answer is the set to commit. -/
def State.txnEnd (s : State) (g : Nat) : State × List PendWrite :=
  match s.txn g with
  | none => (s, [])
  | some t =>
    if t.stage != 2 then (s, [])
    else
      let (commit, cause, unc) := s.txnOutcome t
      let s := s.updPair (fun p => { p with txns := mdel p.txns g })
      if commit then ((s.txStat g t.tid 3 0).record .pairTxnCommit g [t.tid], t.frozen)
      else
        let s := ((s.txStat g t.tid 4 cause).setBitR Reg.BTL_STK 9).record .pairTxnAbort g [t.tid, cause]
        let s := if unc then ((s.setBitR Reg.BTL_STK 10).record .pairTxnUncertain g [t.tid]).restate else s
        (s, [])

/-! ### Takeover -/

/-- R370: a unit that qualifies takes over; one that holds nothing and does not qualify reports it. -/
def State.takeover (s : State) : State :=
  if s.hold then s
  else if s.mayHold && (s.pairState == 1 || s.pairState == 2) then
    let s := if s.pairState = 1 then s.record .pairTakeoverUnsync 0 [] else s
    let s := s.updPair (fun p => { p with takeover := true })
    if s.requesting then s else s.request
  else (s.setBitR Reg.BTL_STK 15).record .pairNoAuthority 0 []

/-- PEER_FAIL (R344, R360, R370, R377, R381): both paths have been silent for 8 µs. -/
def execPeerFail (s : State) : Host.Outcome State Fault Refusal :=
  .next (
    if s.pathMask == 0 && s.pair.seen && !s.pair.failed && !s.solo then
      let releasing := s.pair.relEl.isSome
      let s := s.clrBitR Reg.BTL_STAT 23
      let s := s.updPair (fun p => { p with
        relEl := none, hoRev := false, failed := true, seen := false, both12 := none, armSeq := none, hoSeq := none, hoNext := false
        toggling := p.toggling && (p.armEl.isNone || p.window.isSome), armEl := none })
      let s := s.record .pairPeerFail 0 []
      let s := s.pair.openEps.foldl (fun s o => [0, 1].foldl (fun s n => s.endCopy n o.group o.seq false) s) s
      let s := (List.range 16).foldl (fun s g => s.txnDecide g) s
      let s := if s.hold || releasing then s.handoverOutcome false 0 else s
      s.takeover
    else s)

end Sys2Proof.Machine
end

