-- ==== Sys2Proof/Machine/Field.lean ====
section
/-! DEFINITION. Machine/Field.lean: the isolated field groups: links and their frames, digital inputs, high-side
outputs, current loops (spec/15_field_io.md R418 to R441). -/
namespace Sys2Proof.Machine

/-! ### Frames (R418, R419) -/

/-- R418: a frame is valid for its group and direction. -/
def isoValid (g : Nat) (up : Bool) (w : Nat) : Bool :=
  bitsOf w 255 248 == 0xB4 && bitsOf w 247 246 == g && (w.testBit 245 == up) && bitsOf w 15 0 == crc16 w 256 240

/-- Channel `n` of a per-channel field of `wd` bits a channel whose channel 0 ends at bit `hi` (R419). -/
def chanField (w hi wd n : Nat) : Nat := bitsOf w (hi - n * wd) (hi - n * wd - (wd - 1))

/-! ### Digital inputs -/

/-- R430: input `n` is valid. -/
def State.inputValid (s : State) (n : Nat) : Bool :=
  s.regB (Reg.DIO_ICFG n) 31 && s.regB (Reg.DIO_LINK (n / 16)) 31 && mgetD s.field.diag n 0 == 0

/-- R430: the filtered levels and the validity as they now read; an invalid input reads 0. -/
def State.refreshInputs (s : State) : State :=
  let v := (List.range 32).foldl (fun m n => if s.inputValid n then m + 2 ^ n else m) 0
  let s := (s.setReg Reg.DIO_INVL (wd v)).setReg Reg.DIO_INL (s.field.acc &&& wd v)
  s.setReg Reg.DIO_ILIVE (s.reg Reg.DIO_INL)

/-- R430: input `n` reports `d`: 0 sound, 1 wire break, 2 short circuit, 3 stage fault. -/
def State.setDiag (s : State) (n d : Nat) : State :=
  let old := mgetD s.field.diag n 0
  if d = old then s
  else
    let s := s.updField (fun x => { x with diag := mput x.diag n d })
    let s := (s.putBitR Reg.DIO_IWB n (d == 1)).putBitR Reg.DIO_ISC n (decide (2 ≤ d))
    let s :=
      if d = 0 then s.contactSound n
      else
        let s := if old ≠ 0 then s
          else if d = 1 then (s.setBitR Reg.DIO_STK 2).record .dioWirebreak n [n]
          else (s.setBitR Reg.DIO_STK 3).record .dioShort n [n]
        s.contactFault n
    s.refreshInputs

/-- R432: an accepted change of input `n` to `level`. -/
def State.inputEvent (s : State) (n : Nat) (level : Bool) : State :=
  let ev := s.regF (Reg.DIO_ICFG n) 27 26
  if s.inputValid n && (if level then ev.testBit 0 else ev.testBit 1) then
    let lost := s.field.multi.contains n
    let t := mgetD s.field.edgeT n s.tb.t
    let w1 := (t / 2 ^ 32 % 65536) * 65536 + n * 256 + 2 * b2n level + b2n lost
    let s := if lost then s.bump Reg.DIO_NEVLOST else s
    let s := s.updField (fun x => { x with multi := x.multi.filter (fun q => q != n) })
    (s.produce 7 (n / 16) [wd t, wd w1]).blockEvent 6 n
  else s

/-- R427, R428: one frame's level of input `n`: `edge` and `multi` changes within the frame, the last at T `at`;
`first` for the first valid frame after a link loss. -/
def State.takeLevel (s : State) (n : Nat) (lev edge multi first : Bool) (at_ : Nat) : State :=
  let changed := edge || bit s.field.raw n != lev
  let q := if changed then 0 else mgetD s.field.quiet n 0 + 1
  let s := s.updField (fun x => { x with
    raw := setBit x.raw n lev
    rawEl := if changed then mput x.rawEl n s.tb.el else x.rawEl
    edgeT := if changed then mput x.edgeT n at_ else x.edgeT
    quiet := mput x.quiet n q
    multi := if multi && !(x.multi.contains n) then x.multi ++ [n] else x.multi })
  let filt := s.regF (Reg.DIO_ICFG n) 25 15
  let ok := first || filt == 0 || decide (filt * 1000 ≤ q * 512)
  if ok && bit s.field.acc n != lev then
    let s := s.updField (fun x => { x with acc := setBit x.acc n lev })
    if first then s else s.inputEvent n lev
  else s

/-- G0, G1 up-frame payload (R419). `start` is T at the beginning of the frame's samples. -/
def State.inputFrame (s : State) (g : Nat) (first : Bool) (w start : Nat) : State :=
  let s := (List.range 16).foldl (fun s c =>
    let s := s.takeLevel (16 * g + c) (w.testBit (231 - c)) (w.testBit (215 - c)) (w.testBit (199 - c)) first
      (start + 1000 * chanField w 183 3 c)
    s.setDiag (16 * g + c) (chanField w 135 2 c)) s
  let s := if g = 0 then s.setRegF Reg.DIO_VSENSE 15 0 (bitsOf w 103 92) else s.setRegF Reg.DIO_VSENSE 31 16 (bitsOf w 103 92)
  (s.updField (fun x => { x with temps := mput x.temps g (sext 8 (bitsOf w 91 84)) })).refreshInputs

/-! ### High-side outputs -/

/-- R435: output `k` reports OVL (0), OT (1) or OPEN (2); the first report of a sound channel is recorded. -/
def State.outReport (s : State) (k what : Nat) : State :=
  let d := Reg.DIO_ODIAG k
  let sound := s.regF d 31 29 == 0
  if s.regB d (31 - what) then s
  else
    let s := s.setBitR d (31 - what)
    if sound then (s.setBitR Reg.DIO_STK (4 + what)).record .dioOutFault k [k, what] else s

/-- R426: a pulse of output `k` runs now: from 12 µs after its trigger for its width. -/
def State.pulseOn (s : State) (k : Nat) : Bool :=
  s.field.pulses.any (fun p => p.out == k && decide (p.el + 12000 ≤ s.tb.el) && decide (s.tb.el < p.el + 12000 + 1000 * p.width))

/-- R422, R433, R435, R437: output `k` is commanded on at the field stage. -/
def State.outDriven (s : State) (k : Nat) : Bool :=
  let c := s.reg (Reg.DIO_OCFG k)
  let side := mgetD s.field.side 2 {}
  s.driven && !(s.regB (Reg.DIO_ODIAG k) 31) && !(s.regB (Reg.DIO_ODIAG k) 30) && !s.field.railLow &&
    (if s.isSafOut k then s.safOutOn k && !side.safe
     else if side.safe then bit c 31 && bit c 30
     else bit c 31 && (if bit c 28 then s.pulseOn k else bit s.field.outs k))

/-- DIO_OSTAT as it reads: the read-back, and the outputs commanded on. -/
def State.outStat (s : State) : Word :=
  wd (s.regF Reg.DIO_OSTAT 31 16 * 65536 + (List.range 16).foldl (fun m k => if s.outDriven k then m + 2 ^ k else m) 0)

/-- G2 up-frame payload (R419). -/
def State.outputFrame (s : State) (w : Nat) : State :=
  let s := (List.range 16).foldl (fun s k =>
    let s := s.putBitR Reg.DIO_OSTAT (16 + k) (w.testBit (231 - k))
    let s := if w.testBit (215 - k) then (s.outReport k 0).updField (fun x =>
        { x with ovlEl := if (mget x.ovlEl k).isSome then x.ovlEl else mput x.ovlEl k s.tb.el }) else s
    let s := if w.testBit (199 - k) then s.outReport k 1 else s.clrBitR (Reg.DIO_ODIAG k) 30
    let s := if w.testBit (183 - k) then s.outReport k 2 else s.clrBitR (Reg.DIO_ODIAG k) 29
    s.setRegF (Reg.DIO_ODIAG k) 5 0 (chanField w 167 6 k)) s
  let s := s.setReg Reg.DIO_FS (wd (bitsOf w 71 60 * 65536 + bitsOf w 59 48))
  s.updField (fun x => { x with temps := mput x.temps 2 (sext 8 (bitsOf w 47 40)) })

/-- R426: a trigger unit starts a pulse of `width` µs; the fifth in one frame is dropped. -/
def State.startPulse (s : State) (k width : Nat) : State :=
  if 4 ≤ s.field.pulseCount then s.bump Reg.DIO_NPLOST
  else s.updField (fun x => { x with
    pulseCount := x.pulseCount + 1
    pulses := (x.pulses.filter (fun p => decide (s.tb.el < p.el + 12000 + 1000 * p.width))) ++ [{ out := k, el := s.tb.el, width := width }] })

/-! ### Current loops -/

/-- G3 up-frame payload (R419, R439). -/
def State.loopFrame (s : State) (w : Nat) : State :=
  let s := (List.range 8).foldl (fun s c =>
    let s := s.setReg (Reg.CLO_RB c) (wd (chanField w 231 16 c * 32))
    let sf := w.testBit (103 - c)
    let s := if sf && !(s.regB Reg.CLO_CSTAT (24 + c)) then s.setBitR Reg.CLO_STK (24 + c) else s
    s.putBitR Reg.CLO_CSTAT (24 + c) sf) s
  s.updField (fun x => { x with temps := mput x.temps 3 (sext 8 (bitsOf w 95 88)) })

/-- The command of loop `c` at the field stage; a loop that is not enabled has none. -/
def State.loopCommand (s : State) (c : Nat) : Nat := if s.regB (Reg.CLO_CFG c) 31 then mgetD s.field.loops c 0 else 0

/-- R372, R422, R437: the current of loop `c` in link units: its command while the enables are driven and the rail carries
it, else none. -/
def State.loopCurrent (s : State) (c : Nat) : Nat := if s.driven && !s.field.railLow then s.loopCommand c else 0

/-! ### Links -/

/-- A field side changed. -/
def State.updSide (s : State) (g : Nat) (f : FieldSide → FieldSide) : State :=
  s.updField (fun x => { x with side := mput x.side g (f (mgetD x.side g {})) })

/-- R418, R419, R421: a valid up-frame. -/
def State.upFrame (s : State) (g w start : Nat) : State :=
  let l := Reg.DIO_LINK g
  let first := mgetD s.field.run g 0 == 0 && !(s.regB l 31)
  let s := s.updField (fun x => { x with run := mput x.run g (mgetD x.run g 0 + 1), upEl := mput x.upEl g s.tb.el })
  let safe := w.testBit 243
  let s := if safe && !(s.regB l 29) then (s.setBitR Reg.DIO_STK 1).record .fioSafeValues g [g] else s
  let s := (s.putBitR l 30 (w.testBit 244)).putBitR l 29 safe
  match g with
  | 2 => s.outputFrame w
  | 3 => s.loopFrame w
  | _ => s.inputFrame g first w start

/-- R421: a valid down-frame reaches the field side of G2 or G3; after four it leaves HELD or SAFE with the frame's
values. -/
def State.downFrame (s : State) (g w : Nat) : State :=
  let s := s.updSide g (fun d => { d with el := s.tb.el, run := d.run + 1 })
  let d := mgetD s.field.side g {}
  if (d.held || d.safe) && decide (4 ≤ d.run) then
    let s := s.updSide g (fun d => { d with held := false, safe := false })
    if g = 2 then s.updField (fun x => { x with outs := wd ((List.range 16).foldl (fun m k => if w.testBit (231 - k) then m + 2 ^ k else m) 0) })
    else s.updField (fun x => { x with loops := (List.range 8).map (fun c => (c, chanField w 231 16 c)) })
  else s

/-- ISO_FRAME (R418 to R421): a frame of 256 bits arrives on the link of group `g`, at the logic side (`up`) or at the
field side; `lat` is the age of its first sample. CRCERR of the group counts an invalid frame of either direction. -/
def execIsoFrame (g : Fin 4) (up : Bool) (w lat : Nat) (s : State) : Host.Outcome State Fault Refusal :=
  .next (
    let w := w % 2 ^ 256
    if isoValid g.val up w then
      if up then s.upFrame g.val w (s.tb.t - lat) else if 2 ≤ g.val then s.downFrame g.val w else s
    else
      let s := s.bumpF (Reg.DIO_LINK g.val) 15 0
      if up then s.updField (fun x => { x with run := mput x.run g.val 0 }) else s.updSide g.val (fun d => { d with run := 0 }))

/-- The link of group `g` is marked down (R420). -/
def State.linkDown (s : State) (g : Nat) : State :=
  let l := Reg.DIO_LINK g
  let s := s.updField (fun x => { x with run := mput x.run g 0 })
  let s := (((s.clrBitR l 31).bumpF l 23 16).setBitR Reg.DIO_STK 0).record .fioLinkLoss g [g]
  match g with
  | 2 => s.linkFault
  | 3 => s
  | _ => ((List.range 16).foldl (fun s c => s.contactFault (16 * g + c)) s).refreshInputs

/-- ISO_LINK_LOSS (R420): No valid frame for 16 µs marks a group's link down. -/
def execIsoLinkLoss (g : Fin 4) (s : State) : Host.Outcome State Fault Refusal :=
  .next (
    if s.regB (Reg.DIO_LINK g.val) 31 && decide (16000 ≤ s.tb.el - mgetD s.field.upEl g.val 0) then s.linkDown g.val else s)

/-- ISO_LINK_RESTORE (R420). -/
def execIsoLinkRestore (g : Fin 4) (s : State) : Host.Outcome State Fault Refusal :=
  .next (
    if !(s.regB (Reg.DIO_LINK g.val) 31) && decide (4 ≤ mgetD s.field.run g.val 0) then
      let s := (s.setBitR (Reg.DIO_LINK g.val) 31).record .fioLinkRestore g.val [g.val]
      if 2 ≤ g.val then s
      else ((List.range 16).foldl (fun s c =>
        if mgetD s.field.diag (16 * g.val + c) 0 = 0 then s.contactSound (16 * g.val + c) else s) s).refreshInputs
    else s)

/-- FIELD_HOLD (R421): no valid down-frame for 16 µs. -/
def execFieldHold (g : Fin 4) (s : State) : Host.Outcome State Fault Refusal :=
  .next (
    let d := mgetD s.field.side g.val {}
    if decide (2 ≤ g.val) && !d.held && decide (16000 ≤ s.tb.el - d.el) then s.updSide g.val (fun d => { d with held := true, run := 0 })
    else s)

/-- FIELD_SAFE (R421): LLT × 10 µs without a valid down-frame: each channel takes its safe value. -/
def execFieldSafe (g : Fin 4) (s : State) : Host.Outcome State Fault Refusal :=
  .next (
    let d := mgetD s.field.side g.val {}
    let llt := s.regF (if g.val = 2 then Reg.DIO_LLT else Reg.CLO_LLT) 13 0
    if decide (2 ≤ g.val) && !d.safe && decide (llt * 10000 ≤ s.tb.el - d.el) then
      let s := s.updSide g.val (fun d => { d with held := true, safe := true, run := 0 })
      if g.val = 2 then s.updField (fun x => { x with
        outs := wd ((List.range 16).foldl (fun m k => if s.regB (Reg.DIO_OCFG k) 30 then m + 2 ^ k else m) 0) })
      else s.updField (fun x => { x with loops := (List.range 8).map (fun c => (c, s.loopSafe c)) })
    else s)

/-- OUTPUT_APPLY (R423, R424): the field stage of G2 or G3 applies the next `k` publications, which one frame carried,
12 µs after the last of them. A field side that holds or is safe applies nothing. -/
def execOutputApply (g : Fin 4) (k : Fin 16) (s : State) : Host.Outcome State Fault Refusal :=
  .next (
    let mine := fun (p : FieldPub) => if g.val = 2 then p.loop.isNone else g.val == 3 && p.loop.isSome
    let now := (s.field.pubs.filter mine).take k.val
    match now.head?, now.getLast? with
    | some a, some z =>
      if now.length = k.val ∧ z.el - a.el < 5120 ∧ z.el + 11900 ≤ s.tb.el then
        let rest := (s.field.pubs.filter mine).drop k.val ++ s.field.pubs.filter (fun p => !mine p)
        let s := s.bump Reg.DIO_NAPLATE ((now.map (fun p => p.el)).eraseDups.length - 1)
        let s := s.updField (fun x => { x with pubs := rest })
        let d := mgetD s.field.side g.val {}
        if d.held || d.safe then s
        else s.updField (fun x => now.foldl (fun x p => match p.loop with
          | none => { x with outs := p.val }
          | some c => { x with loops := mput x.loops c (loopUnits p.val).1 }) x)
      else s
    | _, _ => s)

/-! ### Reports of the field sides -/

/-- R429: the input voltage `vin` lies below the wire-break threshold at sensor supply `vfs` (mV). -/
def State.belowBreak (s : State) (n vin vfs : Nat) : Bool :=
  let c := s.reg (Reg.DIO_ICFG n)
  let rsc := if bit c 28 then fld c 14 10 else 0
  decide (vin * 256 * (rsc * 100 + fld c 9 0 * 100 + 4700) < s.regF Reg.DIO_WBF 7 0 * vfs * 4700)

/-- WIRE_BREAK (R429): 10 ms below the threshold. -/
def execWireBreak (n : Fin 32) (vin vfs : Nat) (s : State) : Host.Outcome State Fault Refusal :=
  .next (if s.regB (Reg.DIO_ICFG n.val) 31 && s.regB (Reg.DIO_ICFG n.val) 29 && s.belowBreak n.val vin vfs then s.setDiag n.val 1 else s)

/-- SHORT_CIRCUIT (R429): 10 ms at or above V_FS − 1.0 V. -/
def execShortCircuit (n : Fin 32) (vin vfs : Nat) (s : State) : Host.Outcome State Fault Refusal :=
  .next (if s.regB (Reg.DIO_ICFG n.val) 31 && s.regB (Reg.DIO_ICFG n.val) 28 && decide (vfs ≤ vin + 1000) then s.setDiag n.val 2 else s)

/-- INPUT_FAULT_CLEAR (R429): 10 ms without the condition of the report. -/
def execInputFaultClear (n : Fin 32) (vin vfs : Nat) (s : State) : Host.Outcome State Fault Refusal :=
  .next (
    let gone := match mgetD s.field.diag n.val 0 with
      | 1 => !(s.belowBreak n.val vin vfs)
      | 2 => decide (vin + 1000 < vfs)
      | _ => true
    if gone then s.setDiag n.val 0 else s)

/-- OUTPUT_OVERLOAD (R434): 10 ms at the current limit. -/
def execOutputOverload (k : Fin 16) (s : State) : Host.Outcome State Fault Refusal :=
  .next (
    if s.regB (Reg.DIO_OCFG k.val) 31 || s.isSafOut k.val then
      (s.outReport k.val 0).updField (fun x => { x with ovlEl := mput x.ovlEl k.val s.tb.el })
    else s)

/-- OVERLOAD_RETRY (R434): with AUTOR = 1, 1 s after the overload. -/
def execOverloadRetry (k : Fin 16) (s : State) : Host.Outcome State Fault Refusal :=
  .next (
    if s.regB (Reg.DIO_ODIAG k.val) 31 && s.regB (Reg.DIO_OCFG k.val) 27
        && decide (1000000000 ≤ s.tb.el - mgetD s.field.ovlEl k.val 0) then
      (s.clrBitR (Reg.DIO_ODIAG k.val) 31).updField (fun x => { x with ovlEl := mdel x.ovlEl k.val })
    else s)

/-- R434: a write of DIO_ORST clears the latched overloads it names. -/
def State.orstWrite (s : State) (v : Word) : State :=
  (List.range 16).foldl (fun s k =>
    if bit v k then (s.clrBitR (Reg.DIO_ODIAG k) 31).updField (fun x => { x with ovlEl := mdel x.ovlEl k }) else s) s

/-- DIO_ORST (R434): A write clears latched overloads of outputs. -/
def execDioOrst (p : Party) (v : Word) (s : State) : Host.Outcome State Fault Refusal := .next (s.byParty p (fun s => s.orstWrite v))

/-- OUTPUT_OVERTEMP (R435): the junction temperature of output `k`, °C. -/
def execOutputOvertemp (k : Fin 16) (tj : Int) (s : State) : Host.Outcome State Fault Refusal :=
  .next (if 165 ≤ tj then s.outReport k.val 1 else if tj < 145 then s.clrBitR (Reg.DIO_ODIAG k.val) 30 else s)

/-- OUTPUT_OPEN_WIRE (R435): the voltage of an off output with OWEN = 1, in mV, for 100 ms. -/
def execOutputOpenWire (k : Fin 16) (mv : Nat) (s : State) : Host.Outcome State Fault Refusal :=
  .next (
    if s.regB (Reg.DIO_OCFG k.val) 29 && !(s.outDriven k.val) then
      if 2000 < mv then s.outReport k.val 2 else s.clrBitR (Reg.DIO_ODIAG k.val) 29
    else s)

/-- FIELD_SUPPLY_LOW (R437): FS_A (0) or FS_B (1), in mV, for 1 ms. -/
def execFieldSupplyLow (b : Fin 2) (mv : Nat) (s : State) : Host.Outcome State Fault Refusal :=
  .next (if mv < 18000 then (s.setBitR Reg.DIO_STK (7 + b.val)).record .fioFsLow b.val [b.val] else s)

/-- FIELD_RAIL_LOW (R437): the ORed rail, in mV: below 14.0 V every G2 output and G3 loop is off and reports a stage
fault, until the rail returns. -/
def execFieldRailLow (mv : Nat) (s : State) : Host.Outcome State Fault Refusal :=
  .next (
    let low := decide (mv < 14000)
    let s1 := s.updField (fun x => { x with railLow := low })
    let s2 := (List.range 16).foldl (fun s k => s.putBitR (Reg.DIO_ODIAG k) 28 low) s1
    (List.range 8).foldl (fun s c =>
      let s := if low && !(s.regB Reg.CLO_CSTAT (24 + c)) then s.setBitR Reg.CLO_STK (24 + c) else s
      s.putBitR Reg.CLO_CSTAT (24 + c) low) s2)

/-- R440: the checks of the loops run. -/
def State.loopChecks (s : State) : Bool :=
  s.driven && s.regB (Reg.DIO_LINK 3) 31 && decide (20000000 ≤ s.tb.el - s.pair.enEl)

/-- R440: loop `c` is open: a command of 1.0 mA or more reads back below 0.2 mA. -/
def State.loopOpenNow (s : State) (c : Nat) : Bool :=
  decide (2048 ≤ s.loopCommand c) && decide ((s.reg (Reg.CLO_RB c)).toNat * 10 < 131072)

/-- R440: the read-back of loop `c` differs from its command by more than 0.2 mA. -/
def State.loopOffNow (s : State) (c : Nat) : Bool :=
  decide (131072 < (((s.reg (Reg.CLO_RB c)).toNat : Int) - (s.loopCommand c * 32 : Nat)).natAbs * 10)

/-- R440: loop `c` reports OPEN (bit 8 + c) or COMPLIANCE (bit c). -/
def State.loopReport (s : State) (c pos : Nat) (n : RecName) : State :=
  let sound := !(s.regB Reg.CLO_CSTAT (8 + c)) && !(s.regB Reg.CLO_CSTAT c)
  let s := s.setBitR Reg.CLO_CSTAT pos
  if sound then (s.setBitR Reg.CLO_STK pos).record n c [c] else s

/-- LOOP_OPEN (R440): A commanded loop reading below 0.2 mA for 20 ms reports OPEN. -/
def execLoopOpen (c : Fin 8) (s : State) : Host.Outcome State Fault Refusal :=
  .next (if s.loopChecks && s.loopOpenNow c.val then s.loopReport c.val (8 + c.val) .cloOpen else s)

/-- LOOP_COMPLIANCE (R440): A loop off its command by 0.2 mA for 20 ms reports COMPLIANCE. -/
def execLoopCompliance (c : Fin 8) (s : State) : Host.Outcome State Fault Refusal :=
  .next (if s.loopChecks && !(s.loopOpenNow c.val) && s.loopOffNow c.val then s.loopReport c.val c.val .cloCompliance else s)

/-- LOOP_OK (R440): 20 ms without the condition of the report. -/
def execLoopOk (c : Fin 8) (s : State) : Host.Outcome State Fault Refusal :=
  .next (
    let openEnds := s.regB Reg.CLO_CSTAT (8 + c.val) && !(s.loopOpenNow c.val)
    let offEnds := s.regB Reg.CLO_CSTAT c.val && !(s.loopOffNow c.val)
    if openEnds || offEnds then
      let s := if openEnds then s.clrBitR Reg.CLO_CSTAT (8 + c.val) else s
      (if offEnds then s.clrBitR Reg.CLO_CSTAT c.val else s).record .cloLoopOk c.val [c.val]
    else s)

end Sys2Proof.Machine
end

