-- ==== Sys2Proof/Machine/Recorder.lean ====
section
/-! DEFINITION. Machine/Recorder.lean: the event recorder: store, areas, windows, freeze slots, dictionary
(spec/19_event_recorder.md R520 to R537, R588; LOG, spec/04_instruction_reference.md R131). -/
namespace Sys2Proof.Machine

/-- The recorder changed. -/
def State.updEvr (s : State) (f : Evr → Evr) : State := { s with evr := f s.evr }

/-- R520: the 16 words of a record. -/
def EvRecord.words (r : EvRecord) : List Word :=
  let pl := recPayload r.body
  let w := fun k => wd (ofBytesLE ((pl.drop (4 * k)).take 4))
  let head : List Word :=
    [wd r.seq, wd (r.seq / 2 ^ 32 % 65536 * 65536 + b2n r.utcv * 32768 + b2n r.hold * 16384 + b2n r.auth * 8192 + b2n r.frz * 4096 + r.addr % 256),
     wd r.optime, wd (r.pcc % 2 ^ 24 * 256), wd r.utc, wd (r.utc / 2 ^ 32), wd (recSource r.body % 65536 * 65536 + recCode r.body % 65536)]
  let ws := head ++ (List.range 8).map w
  ws ++ [crc32c (wordBytes ws)]

/-! ### Writing to the store -/

/-- R535: a slot that is filling takes the record of a sequence written (none: stated lost). -/
def FreezeSlot.fill (f : FreezeSlot) (seq : Nat) (r : Option EvRecord) : FreezeSlot :=
  let i : Int := (seq : Int) - f.first
  if f.state = 1 ∧ 0 ≤ i ∧ i < 1024 then
    let f := match r with
      | some r => { f with recs := mput f.recs i.toNat r }
      | none => f
    if i = 1023 then { f with state := 2 } else f
  else f

/-- The slots take a sequence, and their registers follow (R535). -/
def State.fillSlots (s : State) (seq : Nat) (r : Option EvRecord) : State :=
  (List.range 4).foldl (fun s k =>
    let f := mgetD s.evr.slots k {}
    let f' := f.fill seq r
    if f' = f then s
    else (s.updEvr (fun e => { e with slots := mput e.slots k f' })).setRegF (Reg.EVR_FST k) 31 30 f'.state) s

/-- R525: a record of part `part` has left the intake: EVR_INTAKE_LOST is accepted when that part has refused one. -/
def State.intakeLeft (s : State) (part : Nat) : State :=
  if s.evr.refusedParts.contains part && !(s.evr.intake.any (fun r => r.part == 2)) then
    let n := s.evr.refused
    (s.updEvr (fun e => { e with refused := 0, refusedParts := [] })).enter 2 (.unit .evrIntakeLost 0 [n]) 5
  else s

/-- R526, R530, R535: the oldest record of the intake is written. -/
def State.writeRecord (s : State) (r : EvRecord) : State :=
  let s := s.updEvr (fun e => { e with
    intake := e.intake.drop 1, head := r.seq
    circ := (mput e.circ r.seq r).filter (fun x => decide (r.seq < x.1 + 131072))
    perm := if e.clear ≤ r.seq ∧ r.seq < e.clear + 8192 then mput e.perm r.seq r else e.perm })
  let s := (s.bump Reg.EVR_NWR).drop Reg.EVR_NPEND
  let s := (s.setReg Reg.EVR_HEAD (wd r.seq)).setReg Reg.EVR_HEADH (wd (r.seq / 2 ^ 32 % 65536))
  (s.fillSlots r.seq (some r)).intakeLeft r.part

/-- R528: the oldest record of the intake leaves it as a lost sequence. -/
def State.loseRecord (s : State) (r : EvRecord) : State :=
  let s := s.updEvr (fun e => { e with intake := e.intake.drop 1, lost := e.lost ++ [r.seq] })
  let s := (s.bump Reg.EVR_NLOST).drop Reg.EVR_NPEND
  (s.fillSlots r.seq none).intakeLeft r.part

/-- RECORD_STORE_WRITE (R526): after a fault that ended the store, the sequence counts as lost (R528). -/
def execRecordStoreWrite (s : State) : Host.Outcome State Fault Refusal :=
  .next (
    match s.evr.intake with
    | [] => s
    | r :: _ => if s.evr.failed then s.loseRecord r else s.writeRecord r)

/-- STORE_WRITE_FAULT (R528): one fault loses the `n` oldest sequences of the intake; `block` is the failed storage block
of a fault that ends the store. -/
def execStoreWriteFault (n : Nat) (block : Option Nat) (s : State) : Host.Outcome State Fault Refusal :=
  .next (
    match s.evr.intake.take n with
    | [] => s
    | r :: rest =>
      let s := (r :: rest).foldl (fun s r => s.loseRecord r) s
      let s := (s.setBitR Reg.EVR_STK 2).record .evrGap 0 [r.seq, rest.length + 1, 0, 1]
      match block with
      | none => s
      | some b =>
        let s := (s.setBitR Reg.EVR_STK 3).record .evrStoreFail 0 [b]
        match s.evr.intake.getLast? with
        | some r =>
          if r.body = .unit .evrStoreFail 0 [b] then
            let s := s.updEvr (fun e => { e with intake := r :: e.intake.dropLast })
            (s.writeRecord r).updEvr (fun e => { e with failed := true })
          else s.updEvr (fun e => { e with failed := true })
        | none => s.updEvr (fun e => { e with failed := true }))

/-- The records of an area, by sequence (by index in a freeze slot). -/
def State.areaGet (s : State) (area key : Nat) : Option EvRecord :=
  match area with
  | 0 => mget s.evr.circ key
  | 1 => mget s.evr.perm key
  | k => mget (mgetD s.evr.slots (k - 2) {}).recs key

/-- The key by which an area holds a sequence. -/
def State.areaKey (s : State) (area seq : Nat) : Nat :=
  if area < 2 then seq else ((seq : Int) - (mgetD s.evr.slots (area - 2) {}).first).toNat

/-- A sequence removed from an area. -/
def State.areaDel (s : State) (area seq : Nat) : State :=
  match area with
  | 0 => s.updEvr (fun e => { e with circ := mdel e.circ seq })
  | 1 => s.updEvr (fun e => { e with perm := mdel e.perm seq })
  | k => s.updEvr (fun e =>
      let f := mgetD e.slots (k - 2) {}
      { e with slots := mput e.slots (k - 2) { f with recs := mdel f.recs (s.areaKey area seq) } })

/-- EVR_SCRUB (R528): the scrub has found consecutive stored records of an area whose CRC fails: they are stated lost. -/
def execEvrScrub (area : Fin 6) (first n : Nat) (s : State) : Host.Outcome State Fault Refusal :=
  .next (
    let a := area.val
    let hit := ((s.evr.circ ++ s.evr.perm ++ (mgetD s.evr.slots (a - 2) {}).recs).map (fun x => x.2.seq)).eraseDups.filter (fun q =>
      decide (first ≤ q) && decide (q < first + n) && (s.areaGet a (s.areaKey a q)).isSome)
    if hit.isEmpty then s
    else
      let fresh := hit.filter (fun q => !(s.evr.lost.contains q))
      let s := hit.foldl (fun s q => s.areaDel a q) s
      let s := s.updEvr (fun e => { e with lost := e.lost ++ fresh })
      let s := (s.drop Reg.EVR_NWR fresh.length).bump Reg.EVR_NLOST fresh.length
      (s.setBitR Reg.EVR_STK 2).record .evrGap 0 [first, n, a, 2])

/-- OPTIME_SAVE (R522). -/
def execOptimeSave (s : State) : Host.Outcome State Fault Refusal :=
  .next (s.updEvr (fun e => { e with savedOptime := e.optime, savedPcc := e.pcc }))

/-! ### Reading -/

/-- R532: EVR_CUR as a party writes it. -/
def State.curWrite (s : State) (p : Party) (v : Word) : State :=
  let k := partyNo p
  let area := fld v 30 28
  let count := fld v 27 23
  let start := s.preg k Reg.EVR_CURL
  let bad := count == 0 || decide (16 < count) || decide (6 ≤ area)
    || (decide (2 ≤ area) && decide (1024 < start.toNat + count))
  if bad then s.partyEsf p .lenErr
  else
    let from_ := if area < 2 then fld v 15 0 * 2 ^ 32 + start.toNat else start.toNat
    (s.setPreg k Reg.EVR_CUR (v &&& 0x7F80FFFF)).updEvr (fun e => { e with copying := mput e.copying k (area, count, from_) })

/-- EVR_CUR (R532). -/
def execEvrCur (p : Party) (v : Word) (s : State) : Host.Outcome State Fault Refusal :=
  .next (s.byParty p (fun s => s.curWrite p v))

/-- WINDOW_COPY_END (R533): `bad` marks the stored records whose CRC fails. -/
def execWindowCopyEnd (p : Party) (bad : Fin 65536) (s : State) : Host.Outcome State Fault Refusal :=
  .next (
    let k := partyNo p
    match mget s.evr.copying k with
    | none => s
    | some (area, count, start) =>
      let entry := fun i => s.areaGet area (start + i)
      let fails := fun i => (entry i).isSome && bad.val.testBit i
      let valid := (List.range count).foldl (fun m i => m + (if (entry i).isSome && !(fails i) then 2 ^ i else 0)) 0
      let wrong := (List.range count).foldl (fun m i => m + (if fails i then 2 ^ i else 0)) 0
      let wins := (List.range count).foldl (fun w i =>
        mput w (k * 16 + i) (match entry i with
          | some r => r.words
          | none => List.replicate 16 0)) s.evr.windows
      let s := s.updEvr (fun e => { e with windows := wins, copying := mdel e.copying k })
      (s.setPreg k Reg.EVR_WSTAT (wd (wrong * 65536 + valid))).setPreg k Reg.EVR_CUR (s.preg k Reg.EVR_CUR ||| bitMask 31))

/-- Word `w` of window entry `i` of a party. -/
def State.winWord (s : State) (k i w : Nat) : Word := lget (mgetD s.evr.windows (k * 16 + i) []) w 0

/-- R536: EVR_FREL as written. -/
def State.frelWrite (s : State) (v : Word) : State :=
  (List.range 4).foldl (fun s k =>
    if bit v k then (s.updEvr (fun e => { e with slots := mput e.slots k {} })).setRegF (Reg.EVR_FST k) 31 30 0 else s) s

/-- EVR_FREL (R536). -/
def execEvrFrel (p : Party) (v : Word) (s : State) : Host.Outcome State Fault Refusal :=
  .next (s.byParty p (fun s => s.frelWrite v))

/-- EVR_DSEL (R523, R588). -/
def execEvrDsel (p : Party) (v : Word) (s : State) : Host.Outcome State Fault Refusal :=
  .next (s.byParty p (fun s => s.updEvr (fun e => { e with dsel := fld v 15 0 })))

/-- R523, R588: the record of the selected code. -/
def State.dictEntry (s : State) : Option RecName := allRecs.find? (fun n => recCode (.unit n 0 []) == s.evr.dsel)

/-- Four characters as a word, the first in bits 7:0. -/
def charWord (l : List Nat) : Word := wd (lget l 0 0 % 256 + lget l 1 0 % 256 * 256 + lget l 2 0 % 256 * 65536 + lget l 3 0 % 256 * 2 ^ 24)

/-- R523: EVR_DNAMEw. -/
def State.dictName (s : State) (w : Nat) : Word :=
  match s.dictEntry with
  | some n => charWord ((((recText n).toList.map Char.toNat).drop (4 * w)).take 4)
  | none => 0

/-- R588: EVR_DFLDw. -/
def State.dictField (s : State) (w : Nat) : Word :=
  match s.dictEntry with
  | some _ => charWord ((List.range 4).map (fun i => (Config.dictChar s.evr.dsel (4 * w + i)).toNat))
  | none => 0

/-! ### LOG -/

/-- LOG (R122, R131). -/
def execLog (x : Guard) (pd : PredNo) (wa : RegNo) (p : Bool) (c : Nat) (q : BankUse) (s : State) : Host.Outcome State Fault Refusal :=
  let e := x.e.val
  let b := addrBank (s.w e wa.val)
  let n := 6 + s.lockExtra e + (if p then s.stallOf b q.stall else 0)
  .next (s.issueAt x (decide (c < 8192)) 6 1 n (n - 1) false (fun s =>
    let clause := match (s.eng e).run with
      | some r => r.clause
      | none => 0
    let w := s.w e wa.val
    let chk := s.checkOperand w 30 (s.ownerOf e)
    let (s, payload) :=
      if !p then (s, [])
      else if !chk.ok then (s.checkFlags e chk, [])
      else
        let a := bankAddr b (addrOff w)
        let (s, bad) := ((s.touch b).markUpset a 30 q.upset).noteParity a 30
        (s.esfIf e bad .parity, cellsGet s.banks.cells a 30)
    let (s, ok) := s.accept true (.program (0x8000 + c) (0xC000 + 256 * s.ownerOf e + clause) payload)
    (s.setP e pd.val ok, .pass 1)))

end Sys2Proof.Machine
end

