-- ==== Sys2Proof/Machine/Sha.lean ====
section
/-! DEFINITION. Machine/Sha.lean: SHA-256, which the image check and the authorisation tokens use
(spec/20_startup_reset_update.md R538, R539, R558). The spec names the function; its definition is FIPS 180-4:
PRESUMED, notes/assumptions/31.md. -/
namespace Sys2Proof.Machine

/-- The round constants. -/
def shaK : List Nat :=
  [0x428A2F98, 0x71374491, 0xB5C0FBCF, 0xE9B5DBA5, 0x3956C25B, 0x59F111F1, 0x923F82A4, 0xAB1C5ED5, 0xD807AA98, 0x12835B01, 0x243185BE, 0x550C7DC3, 0x72BE5D74, 0x80DEB1FE, 0x9BDC06A7, 0xC19BF174] ++
  [0xE49B69C1, 0xEFBE4786, 0x0FC19DC6, 0x240CA1CC, 0x2DE92C6F, 0x4A7484AA, 0x5CB0A9DC, 0x76F988DA, 0x983E5152, 0xA831C66D, 0xB00327C8, 0xBF597FC7, 0xC6E00BF3, 0xD5A79147, 0x06CA6351, 0x14292967] ++
  [0x27B70A85, 0x2E1B2138, 0x4D2C6DFC, 0x53380D13, 0x650A7354, 0x766A0ABB, 0x81C2C92E, 0x92722C85, 0xA2BFE8A1, 0xA81A664B, 0xC24B8B70, 0xC76C51A3, 0xD192E819, 0xD6990624, 0xF40E3585, 0x106AA070] ++
  [0x19A4C116, 0x1E376C08, 0x2748774C, 0x34B0BCB5, 0x391C0CB3, 0x4ED8AA4A, 0x5B9CCA4F, 0x682E6FF3, 0x748F82EE, 0x78A5636F, 0x84C87814, 0x8CC70208, 0x90BEFFFA, 0xA4506CEB, 0xBEF9A3F7, 0xC67178F2]

/-- The initial hash value. -/
def shaInit : List Nat := [0x6A09E667, 0xBB67AE85, 0x3C6EF372, 0xA54FF53A, 0x510E527F, 0x9B05688C, 0x1F83D9AB, 0x5BE0CD19]

/-- A 32-bit word rotated right. -/
def rotr (x n : Nat) : Nat := (x >>> n) ||| ((x <<< (32 - n)) % 2 ^ 32)

/-- The schedule of a block grown by one word; the list holds the newest word first. -/
def shaNext (w : List Nat) : List Nat :=
  let g := fun i => lget w i 0
  let a := g 14
  let b := g 1
  let s0 := (rotr a 7 ^^^ rotr a 18) ^^^ (a >>> 3)
  let s1 := (rotr b 17 ^^^ rotr b 19) ^^^ (b >>> 10)
  (g 15 + s0 + g 6 + s1) % 2 ^ 32 :: w

/-- The 64 words of a block's schedule. -/
def shaSchedule (block : List Nat) : List Nat := (((List.range 48).foldl (fun w _ => shaNext w) block.reverse)).reverse

/-- One round. -/
def shaRound (v : List Nat) (kw : Nat × Nat) : List Nat :=
  let g := fun i => lget v i 0
  let e := g 4
  let a := g 0
  let t1 := g 7 + ((rotr e 6 ^^^ rotr e 11) ^^^ rotr e 25) + ((e &&& g 5) ^^^ ((2 ^ 32 - 1 - e) &&& g 6)) + kw.1 + kw.2
  let t2 := ((rotr a 2 ^^^ rotr a 13) ^^^ rotr a 22) + (((a &&& g 1) ^^^ (a &&& g 2)) ^^^ (g 1 &&& g 2))
  [(t1 + t2) % 2 ^ 32, a, g 1, g 2, (g 3 + t1) % 2 ^ 32, e, g 5, g 6]

/-- The hash value after a block of 16 words. -/
def shaBlock (h : List Nat) (block : List Nat) : List Nat :=
  let v := (shaK.zip (shaSchedule block)).foldl shaRound h
  (h.zip v).map (fun p => (p.1 + p.2) % 2 ^ 32)

/-- The message padded to whole blocks. -/
def shaPad (m : List Byte) : List Byte :=
  let n := m.length
  m ++ [0x80] ++ List.replicate ((119 - n % 64) % 64) 0 ++ (bytesLE (8 * n) 8).reverse

/-- Words of four bytes, most significant first. -/
def shaWords : Nat → List Byte → List Nat
  | 0, _ => []
  | n + 1, l => match l with
    | [] => []
    | _ => ofBytesLE (l.take 4).reverse :: shaWords n (l.drop 4)

/-- SHA-256: 32 bytes, most significant first. -/
def sha256 (m : List Byte) : List Byte :=
  let p := shaPad m
  let ws := shaWords (p.length / 4) p
  let h := (List.range (p.length / 64)).foldl (fun h i => shaBlock h ((ws.drop (16 * i)).take 16)) shaInit
  h.foldr (fun w acc => (bytesLE w 4).reverse ++ acc) []

end Sys2Proof.Machine
end

