-- ==== Sys2Proof/Machine/Startup.lean ====
section
/-! DEFINITION. Machine/Startup.lean: power-up, self-test, images, address, resets, reset button, supplies and
temperatures (spec/20_startup_reset_update.md R538 to R555; spec/21_electrical_mechanical.md R563, R571, R572;
spec/01_installation_roles.md R13, R14). -/
namespace Sys2Proof.Machine

/-- Start-up state changed. -/
def State.updBoot (s : State) (f : Boot → Boot) : State := { s with boot := f s.boot }

/-! ### Images -/

/-- The byte address of an offset in a program slot. -/
def slotAddr (slot off : Nat) : Nat := slot * 67108864 + off

/-- R538: word `k` of the image in a slot. -/
def State.imageWord (s : State) (slot k : Nat) : Nat := ofBytesLE (cellsGet s.boot.flash (slotAddr slot (4 * k)) 4)

/-- R539: some enabled key slot verifies a signature over a digest. -/
def State.keyVerifies (s : State) (digest sig : List Byte) : Bool :=
  (List.range 4).any (fun k => s.regB (Reg.SEC_KEY k) 31 && Config.ecdsaOk (mgetD s.boot.keys k []) digest sig)

/-- R539, steps 1 to 3: the record of the step that fails. -/
def State.imageSteps (s : State) (slot : Nat) : Option RecName :=
  let w := fun k => s.imageWord slot k
  let len := w 2
  let reserved := (List.range 9).any (fun k => w (7 + k) != 0) || bitsOf (w 1) 7 1 != 0
  if w 0 != 0x9600C1A5 || decide (len < 4096) || decide (67108864 < len) || reserved then some .imageFormat
  else if bitsOf (w 1) 31 16 != s.regF Reg.SYS_ID 31 16 || bitsOf (w 1) 15 8 != s.regF Reg.SYS_ID 15 8 then some .imageIssue
  else
    let digest := sha256 (cellsGet s.boot.flash (slotAddr slot 0) (len - 64))
    let sig := cellsGet s.boot.flash (slotAddr slot (len - 64)) 64
    if s.keyVerifies digest sig && ofBytesLE ((digest.drop 28).reverse) == w 5 then none else some .imageSig

/-- The VALID bit of a slot after a check of steps 1 to 3. -/
def State.noteValid (s : State) (slot : Nat) : State := s.putBitR Reg.SYS_BOOT (4 + slot) (s.imageSteps slot).isNone

/-- R539: all four steps; `placed` is the verdict of the loader on R64. -/
def State.imageFails (s : State) (slot : Nat) (placed : Bool) : Option RecName :=
  match s.imageSteps slot with
  | some r => some r
  | none => if placed then none else some .imagePlace

/-- R541: service-only operation: no image runs (SYS_BOOT.RUN = 3). -/
def State.serviceOnly (s : State) : State := ((s.setBitR Reg.SYS_BOOT 6).setRegF Reg.SYS_BOOT 3 2 3).addHealth .serviceOnly

/-- R12, R538, R540: an image is chosen. -/
def State.chooseImage (s : State) (slot : Nat) (fallback : Bool) : State :=
  let s := (s.setRegF Reg.SYS_BOOT 3 2 slot).putBitR Reg.SYS_BOOT 7 fallback
  let s := s.putBitR Reg.SYS_STRAP 2 ((s.imageWord slot 1) % 2 == 1)
  let s := (s.setReg Reg.BTL_LHASH (wd (s.imageWord slot 3))).setReg Reg.BTL_LHACC (wd (s.imageWord slot 4))
  (s.setReg Reg.BTL_IMGH (wd (s.imageWord slot 5))).updBoot (fun b => { b with image := some slot })

/-! ### Resets -/

/-- What of the port registers survives a reset (R551, R537, R326): always-on and non-volatile values, and WARM,
since the OCXO runs on through a reset that keeps the logic powered. -/
def survives (a : Nat) : Option Word :=
  if a = Reg.SYS_RSTCAUSE then some 0xFFFFFFFF
  else if a = Reg.SYS_BTN then some 0xC000FFFF
  else if a = Reg.SYS_BOOT then some 0x00000033
  else if a = Reg.SYS_ADDR then some 0x0000FF00
  else if a = Reg.TMB_STAT then some 0x20000000
  else if (Reg.SEC_KEY 0 ≤ a ∧ a ≤ Reg.SEC_KEY 3) ∨ a = Reg.EVR_HEAD ∨ a = Reg.EVR_HEADH ∨ (0x8020 ≤ a ∧ a < 0x8028)
      ∨ (0x8060 ≤ a ∧ a < 0x8066) ∨ (0x8200 ≤ a ∧ a < 0x8280) then some 0xFFFFFFFF
  else none

/-- R551, R584: the unit re-initialised for a reset of cause `cause`: it starts again at t0 + 30 ms. -/
def State.restart (s : State) (cause : Nat) : State :=
  let regs := s.regs.filterMap (fun q => (survives q.1).map (fun m => (q.1, q.2 &&& m)))
  let gap := match s.evr.intake with
    | [] => s.boot.gapDue
    | r :: _ => some (r.seq, s.evr.intake.length)
  let stuck := s.regB Reg.SYS_BTN 31
  let e : Evr := { s.evr with intake := [], refused := 0, refusedParts := [], closed := false, holding := true, held := []
                              windows := [], copying := [], dsel := 0 }
  let b : Boot := { selIn := s.boot.selIn, soloIn := s.boot.soloIn, flash := s.boot.flash, keys := s.boot.keys
                    lostNow := s.boot.lostNow, gapDue := gap, ocxo := s.boot.ocxo + s.tb.el }
  let n : State := { pending := s.pending, free := s.free, out := s.out, regs := regs, evr := e, boot := b
                     health := s.health.filter (fun h => h == .dupAddr) }
  let n := n.setReg Reg.SYS_RSTCAUSE (wd (cause * 2 ^ 28 + min (s.regF Reg.SYS_RSTCAUSE 23 0 + 1) 16777215))
  let n := n.setReg Reg.SYS_STRAP (wd (b2n s.boot.soloIn * 2 + b2n s.boot.selIn))
  if stuck then ((n.setBitR Reg.SYS_STK 6).setBitR Reg.SYS_BTN 30).record .btnStuck 0 [] else n

/-- R553: an orderly reset request of a cause. -/
def State.orderlyReset (s : State) (cause : Nat) : State :=
  if s.boot.rstPend.isSome then s
  else if !s.hold || s.solo then
    (s.updBoot (fun b => { b with rstPend := some cause, rstEl := some s.tb.el })).setBitR Reg.SYS_BTN 29
  else if s.peerIn [1, 2] then
    ((s.updBoot (fun b => { b with rstPend := some cause })).setBitR Reg.SYS_BTN 29).updPair (fun p => { p with hoNext := true })
  else (s.setBitR Reg.SYS_STK 7).record .resetHeld 0 []

/-- R554: an immediate reset request of a cause. -/
def State.immediateReset (s : State) (cause : Nat) : State :=
  s.updBoot (fun b => { b with rstPend := some cause, rstEl := some s.tb.el })

/-- The cause of a reset that a party requests through SYS_RST. -/
def resetCause : Party → Nat
  | .eng _ => 4
  | .svc _ => 5

/-- R553: SYS_RST as written with MODE = 0. -/
def State.rstOrderly (s : State) (p : Party) (go : Bool) (code : Nat) : State :=
  if code ≠ 0xA5C3 then s.partyEsf p .lenErr else if go then s.orderlyReset (resetCause p) else s

/-- R554: SYS_RST as written with MODE = 1; from a clause only on a lockstep pair. -/
def State.rstImmediate (s : State) (p : Party) (go : Bool) (code : Nat) : State :=
  let barred := match p with
    | .eng e => !(s.locked e.val)
    | .svc _ => false
  if code ≠ 0xA5C3 ∨ barred = true then s.partyEsf p .lenErr else if go then s.immediateReset (resetCause p) else s

/-- SYS_RST_ORDERLY (R553). -/
def execSysRstOrderly (p : Party) (go : Bool) (code : Fin 65536) (s : State) : Host.Outcome State Fault Refusal :=
  .next (s.byParty p (fun s => s.rstOrderly p go code.val))

/-- SYS_RST_IMMEDIATE (R554). -/
def execSysRstImmediate (p : Party) (go : Bool) (code : Fin 65536) (s : State) : Host.Outcome State Fault Refusal :=
  .next (s.byParty p (fun s => s.rstImmediate p go code.val))

/-- UNIT_RESET (R551): a reset whose request stands and whose instant has come, or 1 ms without an alive pulse. -/
def execUnitReset (s : State) : Host.Outcome State Fault Refusal :=
  .next (
    match s.boot.rstPend, s.boot.rstEl with
    | some c, some t => if t ≤ s.tb.el then s.restart c else s
    | _, _ => if s.boot.stage == .running && decide (s.pair.pulseEl + 1000000 ≤ s.tb.el) then s.restart 2 else s)

/-! ### Power-up -/

/-- FEED_PRESENT (R544, R522): the first feed has counted as present. `railOff`: the always-on rail was off. A feed that
recovers within hold-up resets with cause POWERFAIL (R551). -/
def execFeedPresent (railOff : Bool) (s : State) : Host.Outcome State Fault Refusal :=
  .next (
    if s.boot.stage == .off && s.boot.holdReset.isEmpty || s.boot.powerFail then
      if railOff then
        let s := ((s.clrBitR Reg.SYS_BTN 30).setRegF Reg.SYS_BTN 15 0 0).clrBitR Reg.TMB_STAT 29
        let opt := max s.evr.savedOptime (match s.evr.circ.getLast? with
          | some x => x.2.optime
          | none => 0)
        let pcc := min (s.evr.savedPcc + 1) 16777215
        let s := ((s.updEvr (fun e => { e with optime := opt, pcc := pcc })).restart 0).updBoot (fun b => { b with ocxo := 0 })
        s.setReg Reg.SYS_RSTCAUSE 0
      else s.restart 7
    else s)

/-- R544, R346: once the image check has ended, the Burtair lanes train. -/
def State.trainLanes (s : State) : State :=
  if s.domainOut 11 then s else [0, 1].foldl (fun s n => s.setRegF (Reg.BTL_LANE n) 31 30 1) s

/-- SELF_TEST_END (R544, R584). -/
def execSelfTestEnd (pass : Bool) (s : State) : Host.Outcome State Fault Refusal :=
  .next (
    if s.boot.stage == .selftest then
      let s : State := { s with banks := { s.banks with cells := [], parity := [], dram := [], dramBad := [] } }
      if pass then s.updBoot (fun b => { b with stage := .images })
      else ((s.record .macroFail 0 []).serviceOnly.trainLanes).updBoot (fun b => { b with stage := .address })
    else s)

/-- IMAGE_CHECK_END (R540): `place0` and `place1` are the verdicts on code placement (R64). -/
def execImageCheckEnd (place0 place1 : Bool) (s : State) : Host.Outcome State Fault Refusal :=
  .next (
    if s.boot.stage == .images then
      let sel := s.regF Reg.SYS_BOOT 1 0 % 2
      let other := 1 - sel
      let place := fun k => if k = 0 then place0 else place1
      let s := s.noteValid sel
      let s := match s.imageFails sel (place sel) with
        | none => s.chooseImage sel false
        | some r =>
          let s := (s.record r 0 [sel]).noteValid other
          match s.imageFails other (place other) with
          | none => (s.chooseImage other true).record .imageFallback 0 [sel, other]
          | some r => (((s.record r 0 [other]).record .noImage 0 []).serviceOnly)
      s.trainLanes.updBoot (fun b => { b with stage := .address })
    else s)

/-- R544, R589: the records held since the restart are accepted, in order. -/
def State.flushHeld (s : State) : State :=
  let held := s.evr.held
  let s := s.updEvr (fun e => { e with holding := false, held := [] })
  let s := s.record .evrStart 0 [s.evr.head, s.evr.pcc]
  let s := match s.boot.gapDue with
    | some (q, n) =>
      let s := (s.record .evrGap 0 [q, n, 0, 3]).setBitR Reg.EVR_STK 2
      let s := s.updEvr (fun e => { e with lost := e.lost ++ (List.range n).map (fun i => q + i) })
      ((s.bump Reg.EVR_NLOST n).drop Reg.EVR_NPEND n).updBoot (fun b => { b with gapDue := none })
    | none => s
  let s := s.record .reset 0 [s.regF Reg.SYS_RSTCAUSE 31 28]
  held.foldl (fun s r => (s.accept false r).1) s

/-- R547: an address taken. -/
def State.takeAddress (s : State) (a : Nat) : State :=
  let old := s.regF Reg.SYS_ADDR 15 8
  let s := s.setRegF Reg.SYS_ADDR 7 0 a
  if a = old then s else (s.setRegF Reg.SYS_ADDR 15 8 a).record .addrTaken 0 [old, a]

/-- R548: no address. -/
def State.noAddress (s : State) : State := (s.record .noAddress 0 []).serviceOnly

/-- ADDRESS_TAKE (R547, R548, R589): the sense pins as read at the start. A unit that has been offered no address waits for one
until t0 + 1.2 s, 1.17 s after the reset, whose start is t0 + 30 ms (R551). -/
def execAddressTake (inPresent outPresent : Bool) (s : State) : Host.Outcome State Fault Refusal :=
  .next (
    if s.boot.stage == .address && (!inPresent || s.boot.chainGot.isSome || decide (1170000000 ≤ s.tb.el)) then
      let s := s.updBoot (fun b => { b with plugIn := inPresent })
      let s := (s.putBitR Reg.SYS_ADDR 31 (!inPresent)).putBitR Reg.SYS_ADDR 30 outPresent
      let stored := s.regF Reg.SYS_ADDR 15 8
      let long := fun (s : State) => (s.setBitR Reg.SYS_STK 3).noAddress
      let broken := fun (s : State) =>
        let s := (s.setBitR Reg.SYS_STK 2).record .chainBreak 0 []
        if stored = 0 then s.noAddress else s.setRegF Reg.SYS_ADDR 7 0 stored
      let s :=
        if !inPresent then s.takeAddress 1
        else match s.boot.chainGot with
          | some a => if a = 0 ∨ 62 < a then long s else s.takeAddress a
          | none => broken s
      let s := s.flushHeld
      s.updBoot (fun b => { b with stage := if s.regB Reg.SYS_BOOT 6 then .service else .loader, chainEl := s.tb.el })
    else s)

/-- PAIR_NEGOTIATION (R14, R544): the PAIR_SEL values of the exchanged heartbeats are compared; if they are alike the unit runs as
a standby unit. -/
def execPairNegotiation (s : State) : Host.Outcome State Fault Refusal :=
  .next (
    if s.solo || !(s.pair.ever.contains 0) then s
    else if bit s.pair.peerWord 31 == s.regB Reg.SYS_STRAP 0 then
      if s.pair.selConflict then s else ((s.updPair (fun p => { p with selConflict := true })).standDown).record .pairSelConflict 0 []
    else s.updPair (fun p => { p with selConflict := false }))

/-- POWER_FAIL (R543, R522, R529): both feeds below 16.0 V for 100 µs. -/
def execPowerFail (s : State) : Host.Outcome State Fault Refusal :=
  .next ((s.updEvr (fun e => { e with closed := true, savedOptime := e.optime, savedPcc := e.pcc })).updBoot
    (fun b => { b with powerFail := true }))

/-! ### Address chain -/

/-- R546: a chain frame. -/
def chainWord (a : Nat) : Word :=
  let top := 0xC5 * 256 + a % 256
  wd (top * 65536 + crc16 top 16 16)

/-- CHAIN_FRAME_SEND (R546): a unit without an address sends none. -/
def execChainFrameSend (s : State) : Host.Outcome State Fault Refusal :=
  .next (
    let a := s.regF Reg.SYS_ADDR 7 0
    if a = 0 then s else s.emit (.chain (chainWord (a + 1))))

/-- CHAIN_FRAME (R547, R549): a frame on CHAIN_IN; one that is not valid counts for nothing. -/
def execChainFrame (f : Word) (s : State) : Host.Outcome State Fault Refusal :=
  .next (
    let a := fld f 23 16
    if f = chainWord a then
      let n := match s.boot.chain with
        | some (q, n) => if q = a then n + 1 else 1
        | none => 1
      s.updBoot (fun b => { b with
        chain := some (a, n)
        chainGot := if 3 ≤ n then some (b.chainGot.getD a) else b.chainGot
        chainEl := s.tb.el, chainBroken := false
        chainChanged := b.chainChanged && a != s.regF Reg.SYS_ADDR 7 0
        chainOther := if a = s.regF Reg.SYS_ADDR 7 0 then none else some (b.chainOther.getD s.tb.el) })
    else s)

/-- CHAIN_BREAK (R549): no valid frame on a connected CHAIN_IN for 20 ms while the program runs. -/
def execChainBreak (s : State) : Host.Outcome State Fault Refusal :=
  .next (
    if s.boot.stage == .running && s.boot.plugIn && !s.boot.chainBroken && decide (s.boot.chainEl + 20000000 ≤ s.tb.el) then
      ((s.updBoot (fun b => { b with chainBroken := true })).setBitR Reg.SYS_STK 2).record .chainBreak 0 []
    else s)

/-- ADDR_CHANGE (R549): the frames carry another address for 100 ms. -/
def execAddrChange (s : State) : Host.Outcome State Fault Refusal :=
  .next (
    match s.boot.chainOther, s.boot.chain with
    | some t, some (a, _) =>
      if s.boot.stage == .running && !s.boot.chainChanged && decide (t + 100000000 ≤ s.tb.el) then
        ((s.updBoot (fun b => { b with chainChanged := true })).setBitR Reg.SYS_STK 4).record .addrChange 0 [s.regF Reg.SYS_ADDR 7 0, a]
      else s
    | _, _ => s)

/-- ADDR_DUPLICATE_END (R550): after a reset, 10 s without a telegram of the unit's own address. -/
def execAddrDuplicateEnd (s : State) : Host.Outcome State Fault Refusal :=
  .next (if s.boot.dupEl.isNone && decide (10000000000 ≤ s.tb.el) then s.dropHealth .dupAddr else s)

/-- STRAP_CHANGE (R13): the strap inputs read these levels. -/
def execStrapChange (sel solo : Bool) (s : State) : Host.Outcome State Fault Refusal :=
  .next (
    if sel = s.boot.selIn ∧ solo = s.boot.soloIn then s
    else ((s.updBoot (fun b => { b with selIn := sel, soloIn := solo })).setBitR Reg.SYS_STRAP 3).record .strapChange 0 [])

/-! ### Reset button -/

/-- BUTTON_RELEASE (R555): a press of `us` µs ends. -/
def execButtonRelease (us : Nat) (s : State) : Host.Outcome State Fault Refusal :=
  .next (
    if s.regB Reg.SYS_BTN 30 then s.clrBitR Reg.SYS_BTN 31
    else
      let s := s.clrBitR Reg.SYS_BTN 31
      if 100000 ≤ us ∧ us ≤ 5000000 then ((s.bumpF Reg.SYS_BTN 15 0).record .btnReset 0 []).orderlyReset 3 else s)

/-- BUTTON_STUCK (R555): a press has reached 5 s, or the button reads closed at a start. -/
def execButtonStuck (s : State) : Host.Outcome State Fault Refusal :=
  .next (
    if s.regB Reg.SYS_BTN 30 then s
    else (((s.setBitR Reg.SYS_STK 6).setBitR Reg.SYS_BTN 30).setBitR Reg.SYS_BTN 31).record .btnStuck 0 [])

/-- BUTTON_UNSTUCK (R555): the ignored button has read released for 1 s. -/
def execButtonUnstuck (s : State) : Host.Outcome State Fault Refusal :=
  .next (if s.regB Reg.SYS_BTN 30 then (s.clrBitR Reg.SYS_BTN 30).clrBitR Reg.SYS_BTN 31 else s)

/-! ### Supplies and temperatures -/

/-- R572: ENV_RANGE names a condition: 0 feed A high, 1 feed B high, 2 both feeds low, 3 THIGH, 4 TBOARD. -/
def State.envRange (s : State) (k : Nat) : State :=
  ((s.updBoot (fun b => { b with envOn := true })).setBitR Reg.SYS_ENVSTK 2).record .envRange 0 [k]

/-- The feed voltages as monitored, 10 mV. -/
def State.noteFeed (s : State) (feed cv : Nat) : State :=
  if feed = 0 then s.setRegF Reg.SYS_PWRMON 31 16 cv else s.setRegF Reg.SYS_PWRMON 15 0 cv

/-- FEED_LOW (R563): a feed below 18.0 V for 1 ms while the other is present. -/
def execFeedLow (feed : Fin 2) (cv : Fin 65536) (s : State) : Host.Outcome State Fault Refusal :=
  .next (
    let s := s.noteFeed feed.val cv.val
    if cv.val < 1800 ∧ s.boot.lowFeeds.contains feed.val = false then
      ((s.updBoot (fun b => { b with lowFeeds := b.lowFeeds ++ [feed.val] })).setBitR Reg.SYS_ENVSTK feed.val).record .feedLow feed.val [feed.val]
    else s)

/-- FEED_OK (R563): a low feed has been at or above 18.0 V for 1 s. -/
def execFeedOk (feed : Fin 2) (cv : Fin 65536) (s : State) : Host.Outcome State Fault Refusal :=
  .next (
    let s := s.noteFeed feed.val cv.val
    if 1800 ≤ cv.val ∧ s.boot.lowFeeds.contains feed.val = true then
      (s.updBoot (fun b => { b with lowFeeds := b.lowFeeds.filter (fun q => q != feed.val) })).record .feedOk feed.val [feed.val]
    else s)

/-- The hottest die sensor and the package sensor as monitored. -/
def State.noteTemp (s : State) (die pkg : Int) : State :=
  (s.setRegF Reg.SYS_TEMP 31 24 (wdi die).toNat).setRegF Reg.SYS_TEMP 23 16 (wdi pkg).toNat

/-- TEMP_HIGH (R571): 115 °C for 1 s. -/
def execTempHigh (die pkg : Int) (s : State) : Host.Outcome State Fault Refusal :=
  .next (
    let s := s.noteTemp die pkg
    if 115 ≤ max die pkg ∧ s.health.contains .tempHigh = false then
      (((s.setBitR Reg.SYS_ENVSTK 3).record .tempHigh 0 []).addHealth .tempHigh).envRange 3
    else s)

/-- TEMP_HIGH_END (R571): 105 °C or less for 10 s. -/
def execTempHighEnd (die pkg : Int) (s : State) : Host.Outcome State Fault Refusal :=
  .next (
    let s := s.noteTemp die pkg
    if max die pkg ≤ 105 ∧ s.health.contains .tempHigh = true then (s.record .tempHighEnd 0 []).dropHealth .tempHigh else s)

/-- TEMP_CRITICAL (R571): 125 °C for 10 ms: a safety fault with cause TEMP, HOLD cleared, AUTH_OUT stopped. -/
def execTempCritical (die pkg : Int) (s : State) : Host.Outcome State Fault Refusal :=
  .next (
    let s := s.noteTemp die pkg
    if 125 ≤ max die pkg then
      let s := ((s.setBitR Reg.SYS_ENVSTK 4).safetyFault 3).updPair (fun p => { p with toggling := false, window := none, waiting := false })
      s.loseHold
    else s)

/-- TBOARD (R571): the board sensor outside −30 °C to +85 °C for 1 s. -/
def execTboard (board : Int) (s : State) : Host.Outcome State Fault Refusal :=
  .next (
    let s := s.setRegF Reg.SYS_TEMP 15 8 (wdi board).toNat
    if board < -30 ∨ 85 < board then (s.setBitR Reg.SYS_ENVSTK 5).envRange 4 else s)

/-- ENV_RANGE (R572). -/
def execEnvRange (k : EnvCond) (s : State) : Host.Outcome State Fault Refusal :=
  .next (
    match k with
    | .feedHigh f cv =>
      let s := s.noteFeed f.val cv
      if 3200 < cv then (s.setBitR Reg.SYS_ENVSTK 6).envRange f.val else s
    | .bothLow a b =>
      let s := (s.noteFeed 0 a).noteFeed 1 b
      if a < 1800 ∧ b < 1800 then s.envRange 2 else s)

/-- ENV_RANGE_END (R572): no such condition has held for 1 s. -/
def execEnvRangeEnd (s : State) : Host.Outcome State Fault Refusal :=
  .next (
    if s.boot.envOn && !(s.health.contains .tempHigh) then
      (s.updBoot (fun b => { b with envOn := false })).record .envRangeEnd 0 []
    else s)

/-- R576: the lamps RUN, AUTH and FAULT: 0 off, 1 on, 2 flashing. -/
def State.lamps (s : State) : Nat × Nat × Nat :=
  (if s.boot.stage = .running then 1 else if s.boot.stage = .service then 2 else 0,
   if s.hold then 1 else if s.pair.armSeq.isSome then 2 else 0,
   if s.regB Reg.SAF_STAT 31 then 2 else if s.healthy then 0 else 1)

end Sys2Proof.Machine
end

