-- ==== Sys2Proof/Machine/Power.lean ====
section
/-! DEFINITION. Machine/Power.lean: clock domains, adaptive voltage, blocks switched off
(spec/02_architecture.md R48, R53 to R59). -/
namespace Sys2Proof.Machine

/-! ### Clock domains -/

/-- R48: the domains whose loss holds the unit in reset: FAB, SOLV, LOOP, PERI, TBC, REF. -/
def resetDomain (d : Nat) : Bool := decide (d < 4) || d == 14 || d == 16

/-- R48: a domain of the second kind is lost: what depends on it stops. -/
def State.domainLost (s : State) (d : Nat) : State :=
  if d = 4 ∨ d = 5 then s.gnbStop.record .gnbClock 0 []
  else if d = 6 then s.record .ethClock 0 []
  else if 7 ≤ d ∧ d ≤ 10 then
    let p := d - 7
    if s.regB (Reg.ETH_PSTAT p) 31 then
      ((s.clrBitR (Reg.ETH_PSTAT p) 31).setBitR Reg.ETH_STK 0).bump (Reg.ETH_NLINK p)
    else s
  else if d = 11 then [0, 1].foldl (fun s n => s.setRegF (Reg.BTL_LANE n) 31 30 0) s
  else if d = 12 then
    (List.range 4).foldl (fun s g => if s.regB (Reg.DIO_LINK g) 31 then s.linkDown g else s) s
  else if d = 13 then s.dfcStop.record .dfcClock 0 []
  else s.record .aonClock 0 []

/-- CLOCK_LOSS (R48): the clock monitor finds a domain lost. -/
def execClockLoss (d : Fin 17) (s : State) : Host.Outcome State Fault Refusal :=
  .next (
    let k := d.val
    if s.boot.lostNow.contains k then s
    else
      let s := s.updBoot (fun b => { b with lostNow := b.lostNow ++ [k] })
      if resetDomain k then
        if s.boot.stage = .off then s.updBoot (fun b => { b with holdReset := b.holdReset ++ [k] })
        else
          let s := s.silence.restart 1
          (s.updBoot (fun b => { b with stage := .off, holdReset := [k] })).record .clockLoss k [k]
      else (s.setBitR Reg.SYS_CLK_STK k).domainLost k)

/-- CLOCK_DOMAIN_RETURN (R48): a lost domain runs again within 1 %; one that holds the unit in reset has done so for
10 ms. -/
def execClockDomainReturn (d : Fin 17) (s : State) : Host.Outcome State Fault Refusal :=
  .next (
    let k := d.val
    if s.boot.lostNow.contains k then
      let s := s.updBoot (fun b => { b with lostNow := b.lostNow.filter (fun q => q != k) })
      if resetDomain k then
        let rest := s.boot.holdReset.filter (fun q => q != k)
        let s := s.updBoot (fun b => { b with holdReset := rest })
        if rest.isEmpty && s.boot.stage == .off then s.updBoot (fun b => { b with stage := .selftest }) else s
      else if k = 4 ∨ k = 5 then
        if s.boot.lostNow.any (fun q => q == 4 || q == 5) then s else s.updGnb (fun g => { g with stopped := false })
      else if k = 11 then [0, 1].foldl (fun s n => s.setRegF (Reg.BTL_LANE n) 31 30 1) s
      else if k = 13 then s.dfcReturn
      else s
    else s)

/-! ### Adaptive voltage -/

/-- R59: PWR_MARGIN as written. -/
def State.marginWrite (s : State) (v : Word) : State :=
  let lo := fld v 7 0
  let hi := fld v 15 8
  if lo < 2 ∨ hi ≤ lo then s.setBitR Reg.PWR_FLT_STK 3 else s.setReg Reg.PWR_MARGIN (v &&& 0xFFFF)

/-- PWR_MARGIN_WRITE (R59). -/
def execPwrMarginWrite (p : Party) (v : Word) (s : State) : Host.Outcome State Fault Refusal :=
  .next (s.byParty p (fun s => s.marginWrite v))

/-- R55: VCODE after an evaluation with margin `m`. -/
def nextVcode (v : Nat) (m lo : Int) (lower : Bool) : Nat :=
  if m < lo - 4 then min 50 (v + 4) else if m < lo then min 50 (v + 1) else if lower then v - 1 else v

/-- AVS_EVALUATION (R55 to R58): the worst monitor of an island reads `margin` taps. -/
def execAvsEvaluation (island : Fin 3) (margin : Int) (s : State) : Host.Outcome State Fault Refusal :=
  .next (
    if s.boot.stage != .running then s
    else
      let k := island.val
      let r := Reg.PWR_AVS k
      let lo : Int := s.regF Reg.PWR_MARGIN 7 0
      let hi : Int := s.regF Reg.PWR_MARGIN 15 8
      let c := mgetD s.boot.avs k {}
      let v := s.regF r 5 0
      let high := if hi ≤ margin then c.high + 1 else 0
      let low := if margin < lo ∧ v = 50 then c.low + 1 else 0
      let good := if lo ≤ margin then c.good + 1 else 0
      let lower := decide (16 ≤ high) && !(s.regB r 31)
      let s := (s.setRegF r 23 16 (wdi margin).toNat).setRegF r 5 0 (nextVcode v margin lo lower)
      let s := s.updBoot (fun b => { b with avs := mput b.avs k { high := if lower then 0 else high, low := low, good := good } })
      if decide (3 ≤ low) && !(s.regB r 30) then
        (((s.setBitR r 30).setBitR Reg.PWR_FLT_STK k).record .avsLimit k [k]).addHealth (.avsLimit k)
      else if decide (10000 ≤ good) && s.regB r 30 then
        ((s.clrBitR r 30).record .avsLimitEnd k [k]).dropHealth (.avsLimit k)
      else s)

/-! ### Blocks switched off -/

/-- The owner codes of a block. -/
def blockOwns (b o : Nat) : Bool :=
  match b with
  | 0 => o == 0x14
  | 1 => o == 0x10 || o == 0x11
  | 2 => o == 0x13
  | 3 => o == 0x12
  | _ => decide (0x20 ≤ o) && decide (o ≤ 0x2F)

/-- R53: what keeps a block from being switched off. The batches of the fusion engine are in flight in the solver and of the
fusion engine. -/
def State.blockBusy (s : State) (b : Nat) : Bool :=
  let route := (s.listed 0x0900 4 64).any (fun n =>
    let w := s.reg (Reg.MBK_RTS n)
    bit w 31 && (match b with
      | 0 => fld w 25 22 == 3
      | 2 => fld w 9 6 == 10
      | 3 => fld w 9 6 == 9
      | 4 => fld w 25 22 == 1
      | _ => false))
  let axis := (List.range 8).any (fun n =>
    n != 0 && (match b with
      | 2 => s.regF (Reg.SCH_AXSRC n) 6 4 == 2
      | 4 => s.regF (Reg.SCH_AXSRC n) 6 4 == 3
      | _ => false))
  let work := match b with
    | 1 => !(s.sol.batches.isEmpty) || s.opt.run.isSome || s.fus.prop || s.fus.upd.isSome
    | 2 => (List.range 13).any (fun k => s.regB (Reg.FUS_SCFG k) 31) || s.fus.prop || s.fus.upd.isSome
    | 3 => (List.range 64).any (fun k => s.regB (Reg.LPE_CFG k) 31)
    | _ => false
  (List.range 64).any (fun k => blockOwns b (s.owner k)) || route || axis || work

/-- R54: a block switched off: its registers and state return to their reset values. -/
def State.clearBlock (s : State) (b : Nat) : State :=
  let s : State := { s with regs := s.regs.filter (fun q => !(blockPorts b q.1))
                            priv := s.priv.filter (fun q => !(blockPorts b (q.1 % 65536)))
                            latches := s.latches.filter (fun q => !(blockPorts b (q.1 % 65536))) }
  match b with
  | 0 => { s with gnb := {} }
  | 1 => { s with sol := { next := s.sol.next }, opt := {} }
  | 2 => { s with fus := {}, wave := {} }
  | 3 => { s with lpe := {} }
  | _ => { s with dfc := {}, mains := {} }

/-- R53, R54: PWR_OFF as written. -/
def State.pwrOffWrite (s : State) (v : Word) : State :=
  let off := (List.range 5).filter (fun b => bit v b && !(s.regB Reg.PWR_OFF b))
  let on := (List.range 5).filter (fun b => !(bit v b) && s.regB Reg.PWR_OFF b)
  if off.any (fun b => s.blockBusy b) then s.setBitR Reg.PWR_FLT_STK 4
  else
    let s := off.foldl (fun s b => s.clearBlock b) s
    let s := s.updBoot (fun x => { x with powering := x.powering.filter (fun q => !(off.contains q.1)) ++ on.map (fun b => (b, s.tb.el)) })
    s.setReg Reg.PWR_OFF (v &&& 0x1F)

/-- PWR_OFF_WRITE (R53, R54). -/
def execPwrOffWrite (p : Party) (v : Word) (s : State) : Host.Outcome State Fault Refusal :=
  .next (s.byParty p (fun s => s.pwrOffWrite v))

end Sys2Proof.Machine
end

