-- ==== Sys2Proof/Machine/Serial.lean ====
section
/-! DEFINITION. Machine/Serial.lean: the serial channels (spec/16_filter_chains_encoders.md R462 to R473). -/
namespace Sys2Proof.Machine

/-- A serial channel. -/
def State.serCh (s : State) (k : Nat) : SerChannel := mgetD s.ser.chans k {}

/-- A serial channel changed. -/
def State.updSer (s : State) (k : Nat) (f : SerChannel → SerChannel) : State :=
  { s with ser := { s.ser with chans := mput s.ser.chans k (f (s.serCh k)) } }

/-- The bit time of a channel, ns: DIV PERI clocks of 10 ns (R462). -/
def State.serBit (s : State) (k : Nat) : Nat := s.regF (Reg.SER_DIV k) 15 0 * 10

/-- R462: the bits of a character. -/
def State.serCharBits (s : State) (k : Nat) : Nat :=
  let c := s.reg (Reg.SER_CFG k)
  1 + (if bit c 28 then 7 else 8) + (if fld c 27 26 = 0 then 0 else 1) + (if bit c 25 then 2 else 1)

/-- The message being sent. -/
def State.serSending (s : State) (k : Nat) : Option SerTx := (s.serCh k).txq.find? (fun m => m.start.isSome)

/-- R469, R470: the driver of a channel is enabled. -/
def State.serDriven (s : State) (k : Nat) : Bool :=
  let c := s.reg (Reg.SER_CFG k)
  if bit c 30 then (s.serSending k).isSome || decide (s.tb.el < (s.serCh k).drvEl)
  else (s.serSending k).isSome || bit c 31 && (!(bit c 29) || s.hold)

/-- SER_STAT as it reads. -/
def State.serStat (s : State) (k : Nat) : Word :=
  wd (b2n (s.serSending k).isSome * 2 ^ 31 + b2n (s.serCh k).cur.isSome * 2 ^ 30 + b2n (s.serDriven k) * 2 ^ 29
    + min (s.serCh k).txq.length 17 * 2 ^ 24)

/-! ### Receiving -/

/-- R464: the message being received ends; it waits for delivery. -/
def State.serEndMessage (s : State) (k : Nat) (m : SerMessage) : State :=
  s.updSer k (fun x => { x with cur := none, ended := x.ended ++ [m] })

/-- The receiver listens: not while the driver of a half-duplex line is enabled (R469). -/
def State.serListens (s : State) (k : Nat) : Bool :=
  s.regB (Reg.SER_CFG k) 31 && !(s.regB (Reg.SER_CFG k) 30 && s.serDriven k)

/-- SERIAL_CHARACTER (R463, R464, R466): a character with its parity and stop bits as read; its start bit fell `age` ns
ago. -/
def execSerialCharacter (k : Fin 4) (ch : Byte) (par stop : Bool) (age : Nat) (s : State) : Host.Outcome State Fault Refusal :=
  .next (
    let q := k.val
    let c := s.reg (Reg.SER_CFG q)
    let x := s.serCh q
    if !(s.serListens q) then s
    else
      let held := (x.ended.map (fun m => m.bytes.length)).foldl (· + ·) 0 + ((x.cur.map (fun m => m.bytes.length)).getD 0)
      let s := s.updSer q (fun x => { x with lastEl := s.tb.el })
      if 512 ≤ held then (s.bump (Reg.SER_NRXOVR q)).updSer q (fun x => { x with lost := true })
      else
        let b : Byte := if bit c 28 then ch &&& 0x7F else ch
        let ones := popcount b.toNat 8 + b2n par
        let perr := match fld c 27 26 with
          | 1 => ones % 2 == 1
          | 2 => ones % 2 == 0
          | _ => false
        let m := x.cur.getD { stamp := s.tb.t - age }
        let dlm := bit c 24 && b.toNat == fld c 23 16
        let full := decide (256 ≤ m.bytes.length + 1)
        let m := { m with bytes := m.bytes ++ [b], ferr := m.ferr || !stop, perr := m.perr || perr
                          dlm := dlm, trunc := full && !dlm }
        if dlm || full then s.serEndMessage q m else s.updSer q (fun x => { x with cur := some m }))

/-- R465: the element of a message. -/
def serElement (m : SerMessage) (ovr : Bool) : List Word :=
  let rec pack : Nat → List Byte → List Word
    | 0, _ => []
    | n + 1, bs => if bs.isEmpty then [] else wd (ofBytesLE (bs.take 4)) :: pack n (bs.drop 4)
  [wd (b2n m.ferr * 2 ^ 31 + b2n m.perr * 2 ^ 30 + b2n m.brk * 2 ^ 29 + b2n ovr * 2 ^ 28 + b2n m.trunc * 2 ^ 27 + b2n m.dlm * 2 ^ 26
      + m.bytes.length),
   wd m.stamp, wd (m.stamp / 2 ^ 32 % 65536 * 65536)] ++ pack 64 m.bytes

/-- R465 to R467: a message is delivered, or dropped for want of a route. -/
def State.serDeliver (s : State) (k : Nat) (m : SerMessage) : State :=
  let x := s.serCh k
  let bad := m.ferr || m.perr || m.brk || x.lost
  let s := if bad && !x.dirty then
      let set := fun (s : State) (c : Bool) b => if c then s.setBitR (Reg.SER_STK k) b else s
      ((set (set (set (set s m.ferr 1) m.perr 2) m.brk 3) x.lost 4)).record .serRxError k
        [k, b2n m.ferr + 2 * b2n m.perr + 4 * b2n m.brk + 8 * b2n x.lost]
    else s
  let s := s.bump (Reg.SER_NRXM k)
  if (s.routesOf 11 k).isEmpty then
    (s.bump (Reg.SER_NRXNR k)).updSer k (fun x => { x with dirty := bad })
  else
    let s := (s.bump (Reg.SER_NRXD k)).updSer k (fun x => { x with dirty := bad, lost := false })
    (s.deliverNow 11 k (serElement m x.lost)).blockEvent 12 k

/-- SERIAL_MESSAGE_END (R464, R465): the oldest message that has ended is delivered; with none, the line has been idle
for IDLE bit times and the message being received ends. -/
def execSerialMessageEnd (k : Fin 4) (s : State) : Host.Outcome State Fault Refusal :=
  .next (
    let q := k.val
    match (s.serCh q).ended with
    | m :: t => (s.updSer q (fun x => { x with ended := t })).serDeliver q m
    | [] =>
      match (s.serCh q).cur with
      | some m =>
        if s.regF (Reg.SER_CFG q) 15 8 * s.serBit q ≤ s.tb.el - (s.serCh q).lastEl then
          (s.updSer q (fun x => { x with cur := none })).serDeliver q m
        else s
      | none => s)

/-- SERIAL_BREAK (R463, R464): a break began `age` ns ago. -/
def execSerialBreak (k : Fin 4) (age : Nat) (s : State) : Host.Outcome State Fault Refusal :=
  .next (
    let q := k.val
    if s.serListens q then
      let m := (s.serCh q).cur.getD { stamp := s.tb.t - age }
      s.serEndMessage q { m with brk := true }
    else s)

/-! ### Transmitting -/

/-- R471: the ends of a published message. -/
inductive SerStatus where
  | sent | noauth | stale | refused | off
deriving DecidableEq, Repr

/-- R471: a published message ends: its counter; the first failure after a message that was sent sets its bit and is
recorded. A refused message always sets TXREF (R468). -/
def State.serStatus (s : State) (k : Nat) (st : SerStatus) : State :=
  let fail := fun (s : State) ctr b =>
    let s := s.bump ctr
    let s := if (s.serCh k).failed then s else (s.setBitR (Reg.SER_STK k) b).record .serTxFail k [k, b]
    s.updSer k (fun x => { x with failed := true })
  match st with
  | .sent => (s.bump (Reg.SER_NTXSENT k)).updSer k (fun x => { x with failed := false })
  | .noauth => fail s (Reg.SER_NTXNOAUTH k) 6
  | .stale => fail s (Reg.SER_NTXSTALE k) 7
  | .refused => fail (s.setBitR (Reg.SER_STK k) 5) (Reg.SER_NTXREF k) 5
  | .off => fail s (Reg.SER_NTXOFF k) 8

/-- R471: a message of the queue ends. -/
def State.serEnd (s : State) (k : Nat) (m : SerTx) (st : SerStatus) : State :=
  let s := s.updSer k (fun x => { x with txq := x.txq.filter (fun q => q.tag != m.tag) })
  ((s.drop (Reg.SER_NTXPEND k)).unmarkTag m.tag).serStatus k st

/-- R468: a message staged by SER_TXC is published at the full stop of group `g`. -/
def State.serPublish (s : State) (k g : Nat) (v : Word) : State :=
  let s := s.bump (Reg.SER_NTXP k)
  let len := fld v 28 21 + 1
  let bank := fld v 20 15
  let off := fld v 14 0
  if !(s.regB (Reg.SER_CFG k) 31) then s.serStatus k .off
  else if s.owner bank = 0x35 ∧ off % 4 = 0 ∧ off + len ≤ 32768 then
    let tag := 0x10000 + s.ser.next
    let s : State := { s with ser := { s.ser with next := s.ser.next + 1 } }
    let s := s.updSer k (fun x => { x with txq := x.txq ++ [{ addr := bankAddr bank off, len := len, group := g, tag := tag }] })
    (s.bump (Reg.SER_NTXPEND k)).markBank bank tag
  else s.serStatus k .refused

/-- R471: at a full stop of group `g` its messages that have not started end STALE. -/
def State.serStale (s : State) (g : Nat) : State :=
  (List.range 4).foldl (fun s k =>
    ((s.serCh k).txq.filter (fun m => m.group == g && m.start.isNone)).foldl (fun s m => s.serEnd k m .stale) s) s

/-- R471: a commit disables the channel or changes its mode or bit time. -/
def State.serOff (s : State) (k : Nat) : State := (s.serCh k).txq.foldl (fun s m => s.serEnd k m .off) s

/-- R469: a message follows the one before it after at least one bit time of idle line. -/
def State.serIdle (s : State) (k : Nat) : Bool :=
  match (s.serCh k).sentEl with
  | some e => decide (e + s.serBit k ≤ s.tb.el)
  | none => true

/-- SERIAL_TX_START (R469, R470): an idle channel takes the first message of its queue. -/
def execSerialTxStart (k : Fin 4) (s : State) : Host.Outcome State Fault Refusal :=
  .next (
    let q := k.val
    let c := s.reg (Reg.SER_CFG q)
    match (s.serCh q).txq with
    | [] => s
    | m :: _ =>
      if m.start.isSome || !(s.serIdle q) then s
      else if bit c 30 && (s.serCh q).cur.isSome then s
      else if bit c 29 && !s.hold then s.serEnd q m .noauth
      else s.updSer q (fun x => { x with txq := x.txq.map (fun y => if y.tag = m.tag then { y with start := some s.tb.el } else y) }))

/-- SERIAL_TX_SENT (R469, R471): the last stop bit of the message being sent. -/
def execSerialTxSent (k : Fin 4) (s : State) : Host.Outcome State Fault Refusal :=
  .next (
    let q := k.val
    match s.serSending q with
    | none => s
    | some m =>
      let due := m.start.getD 0 + m.len * s.serCharBits q * s.serBit q
      if due ≤ s.tb.el then
        let (s, _) := (s.touch (m.addr / 32768)).noteParity m.addr m.len
        let raw := cellsGet s.banks.cells m.addr m.len
        let bytes := if s.regB (Reg.SER_CFG q) 28 then raw.map (fun b => b &&& 0x7F) else raw
        let s := s.emit (.serial q bytes)
        let s := s.updSer q (fun x => { x with sentEl := some s.tb.el, drvEl := s.tb.el + s.regF (Reg.SER_CFG q) 7 0 * s.serBit q })
        s.serEnd q m .sent
      else s)

end Sys2Proof.Machine
end

