-- ==== Sys2Proof/Machine/Encoders.lean ====
section
/-! DEFINITION. Machine/Encoders.lean: the encoder channels (spec/16_filter_chains_encoders.md R455 to R460). -/
namespace Sys2Proof.Machine

/-- An encoder channel. -/
def State.encCh (s : State) (e : Nat) : EncChannel := mgetD s.enc e {}

/-- An encoder channel changed. -/
def State.updEnc (s : State) (e : Nat) (f : EncChannel → EncChannel) : State := { s with enc := mput s.enc e (f (s.encCh e)) }

/-- The channel is in SSI mode. -/
def State.encSsi (s : State) (e : Nat) : Bool := s.regB (Reg.ENC_CFG e) 30

/-- R458, R460: a fault of channel `e` with its bit of ENC_STK; the channel is invalid. -/
def State.encFault (s : State) (e b : Nat) : State :=
  let x := s.encCh e
  let s := if x.fault then s else (s.setBitR (Reg.ENC_STK e) b).record .encFault e [e, b]
  let s := (s.clrBitR (Reg.ENC_STAT e) 31).updEnc e (fun x => { x with fault := true, faultEl := s.tb.el, hist := [] })
  if s.encSsi e then s
  else if s.regB (Reg.ENC_CFG e) 29 then s.clrBitR (Reg.ENC_STAT e) 30
  else s.setBitR (Reg.ENC_STK e) 5

/-- The channel is valid from now on. -/
def State.encValid (s : State) (e : Nat) : State :=
  (s.setBitR (Reg.ENC_STAT e) 31).updEnc e (fun x => { x with fault := false, hist := if s.regB (Reg.ENC_STAT e) 31 then x.hist else [] })

/-- A commit enables channel `e`: an incremental channel counts from 0 and is valid; an SSI channel waits for its first
good read. -/
def State.encEnable (s : State) (e : Nat) : State :=
  let s := (s.setReg (Reg.ENC_STAT e) 0).updEnc e (fun x => { a := x.a, b := x.b, lastT := s.tb.t })
  if s.encSsi e then s else s.encValid e

/-- R456: the velocity at position `p` now, over the last VN intervals: Q15.16 rev/min. -/
def State.encVelocity (s : State) (e : Nat) (p : Word) : Word × State :=
  let vn := s.regF (Reg.ENC_CFG e) 11 8
  match if vn = 0 then some (p, s.tb.el) else (s.encCh e).hist[vn - 1]? with
  | none => (0, s)
  | some (q, el) =>
    let dt := s.tb.el - el
    if dt = 0 then s.freeValue
    else (sat32 (rquo (turnDiff p q * 60000000000) (dt * 65536)), s)

/-- R455: a valid sample of position `p` at T = `t`. -/
def State.encDeliver (s : State) (e : Nat) (p : Word) (t : Nat) : State :=
  let (v, s) := s.encVelocity e p
  let s := s.updEnc e (fun x => { x with hist := ((p, s.tb.el) :: x.hist).take 16 })
  let s := (s.setReg (Reg.ENC_POS e) p).setReg (Reg.ENC_VEL e) v
  (s.produce 2 e [p, v, wd t]).encoderAxes e

/-- R457: the position of counter `r`: r × 2^32 / CPR, rounded, modulo 2^32. -/
def encPos (r cpr : Nat) : Word := wdi (rquo ((r * 2 ^ 32 : Nat) : Int) cpr)

/-- ENCODER_SAMPLE (R455): an instant of the channel's grid, or the action of its trigger unit. -/
def execEncoderSample (e : Fin 8) (s : State) : Host.Outcome State Fault Refusal :=
  .next (
    let k := e.val
    let per := s.regF (Reg.ENC_SMP k) 19 0 * 1000
    let x := s.encCh k
    let trg := s.regB (Reg.ENC_SMP k) 31
    let now := if trg then x.due else per != 0 && decide (x.lastT / per < s.tb.t / per)
    if s.regB (Reg.ENC_CFG k) 31 && now then
      let t := if trg then s.tb.t else s.tb.t / per * per
      let s := s.updEnc k (fun x => { x with lastT := s.tb.t, due := false })
      if s.encSsi k then
        if x.read.isSome then (s.encFault k 4).updEnc k (fun x => { x with overrun := true })
        else s.updEnc k (fun x => { x with read := some (t, s.tb.el), overrun := false })
      else if s.regB (Reg.ENC_STAT k) 31 then s.encDeliver k (encPos x.r (s.reg (Reg.ENC_CPR k)).toNat) t
      else s
    else s)

/-- The place of the levels A, B in the quadrature sequence 00, 10, 11, 01. -/
def quadPhase (a b : Bool) : Nat := if a then (if b then 2 else 1) else (if b then 3 else 0)

/-- QUADRATURE_EDGE (R457, R458): the accepted levels of A and B become `a` and `b`. -/
def execQuadratureEdge (e : Fin 8) (a b : Bool) (s : State) : Host.Outcome State Fault Refusal :=
  .next (
    let k := e.val
    let x := s.encCh k
    let d := (quadPhase a b + 4 - quadPhase x.a x.b) % 4
    if !(s.regB (Reg.ENC_CFG k) 31) || s.encSsi k || d == 0 then s
    else
      let s := s.updEnc k (fun x => { x with a := a, b := b })
      if d = 2 then (s.bumpF (Reg.ENC_NERR k) 31 16).encFault k 1
      else
        let up := xor (d == 1) (s.regB (Reg.ENC_CFG k) 26)
        let cpr := (s.reg (Reg.ENC_CPR k)).toNat
        let r := if up then (if x.r + 1 < cpr then x.r + 1 else 0) else (if x.r = 0 then cpr - 1 else x.r - 1)
        (s.updEnc k (fun x => { x with r := r })).setReg (Reg.ENC_CNT k) (if up then s.reg (Reg.ENC_CNT k) + 1 else s.reg (Reg.ENC_CNT k) - 1))

/-- Z_EDGE (R458): a rising edge of Z. -/
def execZEdge (e : Fin 8) (s : State) : Host.Outcome State Fault Refusal :=
  .next (
    let k := e.val
    if s.regB (Reg.ENC_CFG k) 31 && !(s.encSsi k) && s.regB (Reg.ENC_CFG k) 29 then
      let zofs := (s.reg (Reg.ENC_ZOFS k)).toNat
      let cpr := (s.reg (Reg.ENC_CPR k)).toNat
      if s.regB (Reg.ENC_STAT k) 30 then
        let d := ((s.encCh k).r + cpr - zofs) % (max cpr 1)
        if s.regF (Reg.ENC_ZTOL k) 15 0 < min d (cpr - d) then
          let s := (s.setBitR (Reg.ENC_STK k) 2).bumpF (Reg.ENC_NERR k) 15 0
          (s.updEnc k (fun x => { x with r := zofs })).record .encZerr k [k]
        else s
      else ((s.updEnc k (fun x => { x with r := zofs })).setBitR (Reg.ENC_STAT k) 30).encValid k
    else s)

/-- ENCODER_LINE_FAULT (R458): an open or shorted pair of A, B or Z for 1 µs. -/
def execEncoderLineFault (e : Fin 8) (s : State) : Host.Outcome State Fault Refusal :=
  .next (if s.regB (Reg.ENC_CFG e.val) 31 && !(s.encSsi e.val) then s.encFault e.val 0 else s)

/-- ENCODER_FAULT_END (R458): with ZEN = 0, 10 ms without a fault. -/
def execEncoderFaultEnd (e : Fin 8) (s : State) : Host.Outcome State Fault Refusal :=
  .next (
    let x := s.encCh e.val
    if s.regB (Reg.ENC_CFG e.val) 31 && !(s.encSsi e.val) && !(s.regB (Reg.ENC_CFG e.val) 29) && x.fault
        && decide (10000000 ≤ s.tb.el - x.faultEl) then s.encValid e.val
    else s)

/-- A Gray code of `n` bits decoded. -/
def grayDecode (g n : Nat) : Nat := (List.range n).foldl (fun b i => b ^^^ (g >>> i)) 0 % 2 ^ n

/-- SSI_READ_END (R459): the burst of channel `e` ends with data bits `raw` and parity bit `par`; `low` says that DATA
read low before it. A read that met OVRN delivers nothing. -/
def execSsiReadEnd (e : Fin 8) (raw : Nat) (par low : Bool) (s : State) : Host.Outcome State Fault Refusal :=
  .next (
    let k := e.val
    match (s.encCh k).read with
    | none => s
    | some (t, _) =>
      let cfg := s.reg (Reg.ENC_CFG k)
      let n := fld cfg 25 21 + 1
      let w := raw % 2 ^ n
      let s := s.updEnc k (fun x => { x with read := none })
      if low then s.encFault k 0
      else if bit cfg 27 && popcount w n % 2 != b2n par then s.encFault k 3
      else if (s.encCh k).overrun then s
      else
        let s := (s.encValid k).setReg (Reg.ENC_CNT k) (wd w)
        let v := if bit cfg 28 then grayDecode w n else w
        let stb := fld cfg 20 16 + 1
        s.encDeliver k (wd (v % 2 ^ stb * 2 ^ (32 - stb))) t)

/-- R458: a write of ENC_HOME. -/
def State.encHomeWrite (s : State) (e : Nat) (v : Word) : State := if bit v 0 then s.clrBitR (Reg.ENC_STAT e) 30 else s

/-- ENC_HOME (R458): A write clears HOMED of a channel. -/
def execEncHome (p : Party) (e : Fin 8) (v : Word) (s : State) : Host.Outcome State Fault Refusal :=
  .next (s.byParty p (fun s => s.encHomeWrite e.val v))

end Sys2Proof.Machine
end

