-- ==== Sys2Proof/Machine/Trigger.lean ====
section
/-! DEFINITION. Machine/Trigger.lean: trigger units (spec/12_timebase.md R338, R333 to R335). -/
namespace Sys2Proof.Machine

/-- R338: the number of grid instants of unit `k` up to T = `t`: multiples of PER µs plus OFS µs. -/
def State.gridCount (s : State) (k t : Nat) : Nat :=
  let per := s.regF (Reg.TMB_TRGB k) 19 0 * 1000
  let ofs := s.regF (Reg.TMB_TRGC k) 19 0 * 1000
  (t + per - ofs) / per

/-- R338: unit `k` has fired and has not yet acted. -/
def State.trigFired (s : State) (k : Nat) : Bool :=
  if s.regB (Reg.TMB_TRGA k) 30 then s.sched.trigDue.contains k
  else s.regF (Reg.TMB_TRGB k) 19 0 != 0
    && decide (s.gridCount k (mgetD s.tb.trigLast k 0) < s.gridCount k s.tb.t)

/-- The fire is taken: one instant of the grid however many a step has passed (R333), or one compare fire. -/
def State.trigTake (s : State) (k : Nat) : State :=
  if s.regB (Reg.TMB_TRGA k) 30 then { s with sched := { s.sched with trigDue := s.sched.trigDue.erase k } }
  else s.updTb (fun b => { b with trigLast := mput b.trigLast k s.tb.t })

/-- R338, R426, R449, R455: the unit acts on its destination: a chain that waits takes its first bit, an encoder channel
samples, an output pulse starts. -/
def State.trigAct (s : State) (k : Nat) : State :=
  let a := s.reg (Reg.TMB_TRGA k)
  let d := fld a 19 16
  match fld a 23 20 with
  | 1 => s.chainTrigger d
  | 2 => s.updEnc (d % 8) (fun x => { x with due := true })
  | 3 => s.startPulse d (fld a 15 0)
  | _ => s

/-- TRIGGER_FIRE (R338). -/
def execTriggerFire (k : Fin 16) (s : State) : Host.Outcome State Fault Refusal :=
  .next (if s.regB (Reg.TMB_TRGA k.val) 31 && s.trigFired k.val then
    s.inStep (!(s.regB (Reg.TMB_TRGA k.val) 30)) 3 (fun s => (s.trigTake k.val).trigAct k.val) else s)

end Sys2Proof.Machine
end

