-- ==== Sys2Proof/Machine/Ports.lean ====
section
/-! DEFINITION. Machine/Ports.lean: port accesses (spec/02_architecture.md R30 to R33, R578, R579;
spec/04_instruction_reference.md R109; spec/01_installation_roles.md R25): what a party reads at a port, what a write of
a party does, GET, PUT, GETL, PUTL, and the writes to registers that have no row of their own. -/
namespace Sys2Proof.Machine

/-! ### Latency -/

/-- R30: the port is decoded by a block that is on. -/
def State.decoded (s : State) (a : Nat) : Bool := (regDesc a).isSome && !(s.portOff a)

/-- R30: the latency of a decoded access issued in FAB clock `c`; behind the port bridge 10 + w (R578). -/
def portLatency (a c : Nat) : Nat :=
  if a < 0x1400 ∨ (0x4000 ≤ a ∧ a < 0x4800) ∨ (0x5800 ≤ a ∧ a < 0x5C00) then 2
  else if a < 0x2000 then 4
  else if a < 0x4000 ∨ (0x5000 ≤ a ∧ a < 0x5400) then 6
  else 10 + (4 - c % 4) % 4

/-- The FAB clock in which the next instruction of engine `e` issues. -/
def State.issueClk (s : State) (e : Nat) : Nat :=
  match (s.eng e).run with
  | some r => r.start + r.count
  | none => s.clk

/-- R92, R109: the clocks an access of engine `e` takes: on a lockstep pair it acts as one issued 2 clocks later. -/
def State.accessClocks (s : State) (e a : Nat) (dec long : Bool) : Nat :=
  let x := s.lockExtra e
  (if dec then portLatency a (s.issueClk e + x) else 2) + b2n long + x

/-! ### Reading -/

/-- R25: the identity a counter belongs to: its first port and the span of its ports. -/
def identityOf (a : Nat) : Option (Nat × Nat) :=
  if 0x1410 ≤ a ∧ a < 0x1417 then some (0x1410, 7)
  else if 0x1810 ≤ a ∧ a < 0x1817 then some (0x1810, 7)
  else if a = 0x3804 ∨ a = 0x3805 then some (0x3804, 2)
  else if 0x4200 ≤ a ∧ a < 0x42D0 ∧ a % 16 < 13 then some (a / 16 * 16, 13)
  else if (0x5460 ≤ a ∧ a < 0x5464) ∨ (0x5468 ≤ a ∧ a < 0x5470) then some (0x5460, 16)
  else if 0x5C00 ≤ a ∧ a < 0x5C40 ∧ 5 ≤ a % 16 ∧ a % 16 < 8 then some (a / 16 * 16 + 5, 3)
  else if 0x5C00 ≤ a ∧ a < 0x5C40 ∧ 9 ≤ a % 16 then some (a / 16 * 16 + 9, 7)
  else if 0x7000 ≤ a ∧ a < 0x7C00 ∧ 0x20 ≤ a % 512 ∧ a % 512 < 0x23 then some (a / 512 * 512 + 0x20, 3)
  else if 0x7000 ≤ a ∧ a < 0x7C00 ∧ 0x24 ≤ a % 512 ∧ a % 512 < 0x27 then some (a / 512 * 512 + 0x24, 3)
  else if 0x7D00 ≤ a ∧ a < 0x8000 ∧ 3 ≤ (a - 0x7D00) % 12 ∧ (a - 0x7D00) % 12 < 7 then
    some (0x7D03 + (a - 0x7D00) / 12 * 12, 4)
  else if 0x8060 ≤ a ∧ a < 0x8064 then some (0x8060, 4)
  else none

/-- R25: a counter read through the latch of party `k`. -/
def State.latchRead (s : State) (k a base n : Nat) : Word × State :=
  let fresh := (s.reads a, { s with latches := mput s.latches (k * 65536 + base) (a, (List.range n).map (fun i => s.reads (base + i))) })
  match mget s.latches (k * 65536 + base) with
  | some (lead, vals) => if a = lead then fresh else (lget vals (a - base) 0, s)
  | none => fresh

/-- The execution of the clause a party runs. -/
def State.partyRun (s : State) : Party → Option Run
  | .eng e => (s.eng e.val).run
  | .svc _ => none

/-- What the reading clause latched at its trigger; another reader gets `d`. -/
def State.trigWord (s : State) (p : Party) (f : TrigInfo → Word) (d : Word) : Word :=
  match s.partyRun p with
  | some r => f r.trig
  | none => d

/-- SYS_CPSTAT of the selected group. -/
def State.cpStat (s : State) : Word :=
  let g := s.group (s.regF Reg.SYS_CPSEL 3 0)
  wd (g.commits % 65536 * 65536 + b2n g.conflict * 512 + b2n g.ovf * 256 + (pendRegs g.pend).length)

/-- SCH_CEXA to SCH_CEXD and SCH_CHOST of a clause: word `i` of the five. -/
def State.clauseWindow (s : State) (c i : Nat) : Word :=
  let x := s.counts c
  match i with
  | 0 => wd (x.ended * 65536 + x.budget)
  | 1 => wd (x.overrun * 65536 + x.diverge)
  | 2 => wd (x.illegal * 65536 + x.imem)
  | 3 => wd (x.starved * 65536 + x.trigLost)
  | _ =>
    let ready := s.sched.ready.any (fun r => r.clause == c)
    let running := (List.range 8).any (fun e => match (s.eng e).run with
      | some r => r.clause == c
      | none => false)
    wd (s.hostOf c * 65536 + (b2n ready + 2 * b2n running) * 16384 + x.last)

/-- SOL_TSTAT, SOL_TSUM and SOL_TDONE of a ticket: word `i` of the three. -/
def State.ticketWord (s : State) (t i : Nat) : Word :=
  match mget s.sol.tickets t with
  | none => 0
  | some k =>
    match i with
    | 0 => wd (2 ^ 31 + b2n k.complete * 2 ^ 30 + b2n k.seqr * 2 ^ 29 + k.count % 512 * 2 ^ 20 + k.final % 512 * 2048)
    | 1 => k.sum
    | _ => k.stamp

/-- The registers of which each party has one. -/
def perParty (a : Nat) : Bool :=
  a == Reg.SCH_CSEL || a == Reg.SOL_TSEL || a == Reg.EVR_CUR || a == Reg.EVR_CURL || a == Reg.EVR_WSTAT
    || a == Reg.TMB_NSHI || a == Reg.TMB_SEC || a == Reg.TMB_SECH || a == Reg.TMB_SUB
    || (decide (0x4400 ≤ a) && decide (a < 0x4443))

/-- Registers whose reading depends on who reads. -/
def State.partyView (s : State) (p : Party) (a : Nat) : Option Word :=
  let k := partyNo p
  if perParty a then some (s.preg k a)
  else if 0x0C02 ≤ a ∧ a ≤ 0x0C06 then some (s.clauseWindow (fld (s.preg k Reg.SCH_CSEL) 7 0) (a - 0x0C02))
  else if 0x1403 ≤ a ∧ a ≤ 0x1405 then some (s.ticketWord (fld (s.preg k Reg.SOL_TSEL) 5 0) (a - 0x1403))
  else if a = Reg.SCH_CJST then some (s.trigWord p TrigInfo.cjst 0)
  else if a = Reg.SOL_NTKT then some (s.trigWord p TrigInfo.ntkt 0xFFFFFFFF)
  else if a = Reg.DIO_INL then some (s.trigWord p TrigInfo.inl (s.reg a))
  else if a = Reg.DIO_INVL then some (s.trigWord p TrigInfo.invl (s.reg a))
  else if a = Reg.SAF_TVAL0 then some (s.trigWord p TrigInfo.tval0 (s.reg a))
  else if a = Reg.SAF_TVAL1 then some (s.trigWord p TrigInfo.tval1 (s.reg a))
  else if a = Reg.CLE_ESF then
    some (match p with
      | .eng e => (s.eng e.val).esf
      | .svc _ => 0)
  else if 0x8100 ≤ a ∧ a < 0x8200 then some (s.winWord k ((a - 0x8100) / 16) (a % 16))
  else none

/-- Registers formed from the state of their block, the same for every reader. -/
def State.blockView (s : State) (a : Nat) : Option Word :=
  if a = Reg.SYS_CPSTAT then some s.cpStat
  else if 0x5C00 ≤ a ∧ a < 0x5C40 ∧ a % 16 = 3 then some (s.serStat ((a - 0x5C00) / 16))
  else if a = Reg.DIO_OSTAT then some s.outStat
  else if a = Reg.BTL_STAT then some s.btlStat
  else if 0x7000 ≤ a ∧ a < 0x7C00 ∧ 0x40 ≤ a % 512 ∧ a % 512 < 0x60 then
    some (lget ((s.canCh ((a - 0x7000) / 512)).rx.headD []) (a % 512 - 0x40) 0)
  else if a = Reg.EVR_PFIRSTL then some (wd s.evr.clear)
  else if a = Reg.EVR_PFIRSTH then some (wd (s.evr.clear / 2 ^ 32 % 65536))
  else if a = Reg.EVR_OPT then some (wd s.evr.optime)
  else if a = Reg.EVR_PCC then some (wd (s.evr.pcc % 16777216))
  else if a = Reg.EVR_DSEL then some (wd (s.evr.dsel % 65536))
  else if 0x8050 ≤ a ∧ a < 0x8058 then some (s.dictName (a - 0x8050))
  else if 0x8070 ≤ a ∧ a < 0x8088 then some (s.dictField (a - 0x8070))
  else none

/-- What party `p` would read at a port now, no latch taken. -/
def State.readNow (s : State) (p : Party) (a : Nat) : Word :=
  ((s.partyView p a).orElse (fun _ => s.blockView a)).getD (s.reads a)

/-- R30, R32, R25, R319: what party `p` reads at a decoded port, and what the read leaves. -/
def State.readPort (s : State) (p : Party) (a : Nat) : Word × State :=
  match identityOf a with
  | some (base, n) => s.latchRead (partyNo p) a base n
  | none => (s.readNow p a, if a = Reg.TMB_NS then s.latchTime (partyNo p) else s)

/-! ### Writing -/

/-- R159: SCH_PLCTL as written. -/
def State.plctlWrite (s : State) (p : Party) (v : Word) : State :=
  let m := fld v 23 20
  let per := fld v 11 0
  if m = 0 ∨ 8 < m ∨ fld v 19 12 = 0 ∨ per < 10 ∨ 4000 < per then s.partyEsf p .lenErr
  else s.setReg Reg.SCH_PLCTL (v &&& 0xCFFFFFFF)

/-- SCH_PLCTL_WRITE (R159). -/
def execSchPlctlWrite (p : Party) (v : Word) (s : State) : Host.Outcome State Fault Refusal := .next (s.byParty p (fun s => s.plctlWrite p v))

/-- R40: SYS_CPDISC as written. -/
def State.cpdiscWrite (s : State) (v : Word) : State := if bit v 0 then s.discardSet (s.regF Reg.SYS_CPSEL 3 0) else s

/-- DISCARD (R40). -/
def execDiscard (p : Party) (v : Word) (s : State) : Host.Outcome State Fault Refusal :=
  .next (s.byParty p (fun s => s.cpdiscWrite v))

/-- R86: the largest count of clause `c` is cleared; an end of the clause in the same FAB clock is taken after the clear. -/
def State.clearMax (s : State) (c : Nat) : State :=
  let x := s.counts c
  s.setReg (Reg.CLE_CMAX c) (if x.endCount ≠ 0 ∧ x.endClk = s.clk then wd x.endCount else 0)

/-- CLE_CMAXCLR (R86): the largest count of a clause is cleared. -/
def execCleCmaxclr (p : Party) (v : Word) (s : State) : Host.Outcome State Fault Refusal :=
  .next (s.byParty p (fun s => s.clearMax (fld v 7 0)))

/-- R557: the highest level of an open service session. -/
def State.svcLevel (s : State) : Nat := (s.boot.sessions.map (fun q => q.2.level)).foldl max 0

/-- MBK_OWN_WRITE (R166). -/
def execMbkOwnWrite (p : Party) (v : Word) (s : State) : Host.Outcome State Fault Refusal :=
  .next (s.byParty p (fun s => s.mbkOwn p v s.svcLevel))

/-- R542: SEL of SYS_BOOT as the service protocol writes it at commissioner level; an engine's PUT is undecoded. -/
def State.bootWrite (s : State) (p : Party) (v : Word) : State :=
  match p with
  | .eng e => s.esf e.val .portUndec
  | .svc _ => if 2 ≤ s.svcLevel ∧ fld v 1 0 < 2 then s.setRegF Reg.SYS_BOOT 1 0 (fld v 1 0) else s

/-- SYS_BOOT_WRITE (R542). -/
def execSysBootWrite (p : Party) (v : Word) (s : State) : Host.Outcome State Fault Refusal :=
  .next (s.byParty p (fun s => s.bootWrite p v))

/-- SYS_RST as written (R553, R554). -/
def State.rstWrite (s : State) (p : Party) (v : Word) : State :=
  if bit v 30 then s.rstImmediate p (bit v 31) (fld v 15 0) else s.rstOrderly p (bit v 31) (fld v 15 0)

/-- SYS_CPSTAT as written: CONFLICT and OVF of the selected group clear, unless they are set in the same clock (R10). -/
def State.cpstatWrite (s : State) (v : Word) : State :=
  let v := v &&& ~~~(s.hotBits (cpKey (s.regF Reg.SYS_CPSEL 3 0)))
  s.updGroup (s.regF Reg.SYS_CPSEL 3 0) (fun g => { g with conflict := g.conflict && !(bit v 9), ovf := g.ovf && !(bit v 8) })

/-- A write to an immediate register as its access codes say (R8, spec/00_scope.md). A W1C bit that hardware sets in the same
FAB clock reads 1 afterwards (R10). -/
def State.plainWrite (s : State) (p : Party) (a : Nat) (v : Word) : State :=
  match regDesc a with
  | none => s
  | some d =>
    if perParty a then s.setPreg (partyNo p) a (writeFields d.fields (s.preg (partyNo p) a) v)
    else s.setReg a (writeFields d.fields (s.reg a) v ||| (s.reg a &&& s.hotBits a &&& d.w1c))

/-- The immediate registers of SYS, PWR, MBK, SCH and CLE whose writes act. -/
def State.pokeCore (s : State) (p : Party) (a : Nat) (v : Word) : Option State :=
  if a = Reg.SYS_BOOT then some (s.bootWrite p v)
  else if a = Reg.SYS_RST then some (s.rstWrite p v)
  else if a = Reg.SYS_CPSTAT then some (s.cpstatWrite v)
  else if a = Reg.SYS_CPDISC then some (s.cpdiscWrite v)
  else if a = Reg.PWR_MARGIN then some (s.marginWrite v)
  else if a = Reg.PWR_OFF then some (s.pwrOffWrite v)
  else if a = Reg.MBK_OWN then some (s.mbkOwn p v s.svcLevel)
  else if a = Reg.MBK_RETCTL then some (if fld v 15 0 = 0 then s.partyEsf p .lenErr else s.plainWrite p a v)
  else if a = Reg.MBK_DC 0 ∨ a = Reg.MBK_DC 1 ∨ a = Reg.MBK_DC 2 ∨ a = Reg.MBK_DC 3 then some (s.dmaStart p ((a - 0x0A02) / 4) v)
  else if a = Reg.SCH_PLCTL then some (s.plctlWrite p v)
  else if a = Reg.CLE_ESF then
    some (match p with
      | .eng e => s.updEng e.val (fun x => { x with esf := x.esf &&& ~~~v })
      | .svc _ => s)
  else if a = Reg.CLE_CMAXCLR then some (s.clearMax (fld v 7 0))
  else none

/-- The immediate registers of SOL, LPE, FUS, GNB, TMB, BTL and SAF whose writes act. -/
def State.pokeBlocks (s : State) (p : Party) (a : Nat) (v : Word) : Option State :=
  if a = Reg.SOL_TREL then some (s.solTrel v)
  else if a = Reg.LPE_ARM then some (s.lpeArm v)
  else if a = Reg.LPE_SWAP then some (s.lpeSwapReg p v)
  else if 0x2000 ≤ a ∧ a < 0x3000 ∧ 16 ≤ a % 64 then some (s.lpePage ((a - 0x2000) / 64) ((a % 64 - 16) / 24) ((a % 64 - 16) % 24) v)
  else if a = Reg.FUS_UPD then some (s.doFusUpd v)
  else if a = Reg.FUS_POST then some (s.doFusPost p v)
  else if a = Reg.GNB_ANT 0 ∨ a = Reg.GNB_ANT 1 then some (s.antWrite (a - 0x4802) v)
  else if a = Reg.GNB_ACQ then some (s.acqWrite p v)
  else if a = Reg.GNB_ACQCTL then some (s.acqctlWrite v)
  else if a = Reg.GNB_CN0MIN then some (s.cn0minWrite v)
  else if 0x4A00 ≤ a ∧ a < 0x4F00 ∧ a % 8 = 0 then some (s.chcfgWrite ((a - 0x4A00) / 8) v)
  else if 0x4A00 ≤ a ∧ a < 0x4F00 ∧ a % 8 = 1 then some (s.chloopWrite ((a - 0x4A00) / 8) v)
  else if a = Reg.TMB_GPOST then some (s.gpost v)
  else if a = Reg.BTL_STK then some ((s.plainWrite p a v).restate)
  else if a = Reg.BTL_HOREQ then some (s.horeqWrite v)
  else if a = Reg.BTL_TXN then some (s.txnWrite v)
  else if a = Reg.SAF_FACK then some (s.safFackWrite p v)
  else none

/-- The immediate registers of the blocks behind the port bridge whose writes act. -/
def State.pokePeri (s : State) (p : Party) (a : Nat) (v : Word) : Option State :=
  let n := (a - 0x7000) / 512
  let r := a % 512
  if a = Reg.DIO_ORST then some (s.orstWrite v)
  else if 0x6C00 ≤ a ∧ a < 0x6C80 ∧ a % 16 = 10 then some (s.encHomeWrite ((a - 0x6C00) / 16) v)
  else if 0x7000 ≤ a ∧ a < 0x7C00 ∧ r = 6 then some (s.recovWrite n v)
  else if 0x7000 ≤ a ∧ a < 0x7C00 ∧ r = 7 then some (s.cancelWrite n v)
  else if 0x7000 ≤ a ∧ a < 0x7C00 ∧ r = 0x12 then some (s.txcackWrite p n v)
  else if 0x7000 ≤ a ∧ a < 0x7C00 ∧ r = 0x14 then some (s.rxackWrite p n v)
  else if 0x7000 ≤ a ∧ a < 0x7C00 ∧ r = 0x16 then some (s.hpackWrite n v)
  else if a = Reg.EVR_CUR then some (s.curWrite p v)
  else if a = Reg.EVR_DSEL then some (s.updEvr (fun e => { e with dsel := fld v 15 0 }))
  else if a = Reg.EVR_FREL then some (s.frelWrite v)
  else none

/-- R32, R33: a write to a staged register: what its chapter refuses at the write, else an entry of the pending set. -/
def State.pokeStaged (s : State) (p : Party) (a : Nat) (v : Word) : State :=
  if a = Reg.OPT_FBLIM then s.optFblim p v
  else if a = Reg.LPE_SWAP then s.lpeSwapReg p v
  else if 0x0901 ≤ a ∧ a < 0x0A00 ∧ a % 4 = 1 ∧ ringBad v = true then s.partyEsf p .lenErr
  else s.stage p a v

/-- A write of party `p` to a decoded port. -/
def State.poke (s : State) (p : Party) (a : Nat) (v : Word) : State :=
  if isStaged a then s.pokeStaged p a v
  else
    match ((s.pokeCore p a v).orElse (fun _ => s.pokeBlocks p a v)).orElse (fun _ => s.pokePeri p a v) with
    | some t => t
    | none => s.plainWrite p a v

/-- R11, R386, R542: whether a write of party `p` to port `a` is decoded. -/
def State.writable (s : State) (p : Party) (a : Nat) : Bool :=
  s.decoded a && (match p with
    | .eng _ => a != Reg.SYS_BOOT && (!(decide (0x5800 ≤ a) && decide (a < 0x5C00)) || s.lockClause p)
    | .svc _ => true)

/-- R386: the service protocol's writes to SAF registers that are not staged are ignored. -/
def State.ignored (_s : State) (p : Party) (a : Nat) : Bool :=
  match p with
  | .eng _ => false
  | .svc _ => decide (0x5800 ≤ a) && decide (a < 0x5C00) && !(isStaged a)

/-- A write of party `p` to port `a`, decoded or not. -/
def State.writePort (s : State) (p : Party) (a : Nat) (v : Word) : State :=
  if s.writable p a then (if s.ignored p a then s else s.poke p a v) else s.partyEsf p .portUndec

/-- REGISTER_WRITE (R579): an engine writes only while it runs a clause. -/
def execRegisterWrite (p : Party) (addr : Fin 65536) (v : Word) (s : State) : Host.Outcome State Fault Refusal :=
  let mute := match p with
    | .eng e => (s.eng e.val).run.isNone
    | .svc _ => false
  .next (if mute then s else s.byParty p (fun s => s.writePort p addr.val v))

/-! ### GET, PUT, GETL, PUTL -/

/-- R109, R96: engine `e` reads port `a` into Wd. -/
def State.doGet (s : State) (e : EngineNo) (d a : Nat) : State :=
  if s.decoded a then
    let (v, t) := s.readPort (.eng e) a
    (t.setW e.val d v).esfIf e.val (classV a) .live
  else (s.setW e.val d 0).esf e.val .portUndec

/-- A read of opcode 16#0E or 16#10. -/
def State.getWith (s : State) (x : Guard) (wf : Bool) (d wa k : Nat) (long : Bool) : State :=
  let a := portAddr (s.w x.e.val wa) k
  let n := 1 + b2n long
  let cyc := s.accessClocks x.e.val a (s.decoded a) long
  s.issueAt x wf n n cyc (cyc - 1) true (fun s => (s.doGet x.e d a, .pass n))

/-- A write of opcode 16#0F or 16#11. -/
def State.putWith (s : State) (x : Guard) (wf : Bool) (ws wa k : Nat) (long : Bool) : State :=
  let a := portAddr (s.w x.e.val wa) k
  let n := 1 + b2n long
  let cyc := s.accessClocks x.e.val a (s.writable (.eng x.e) a) long
  s.issueAt x wf n n cyc (cyc - 1) false
    (fun s => (s.writePort (.eng x.e) a (s.w x.e.val ws), .pass n))

/-- GET (R109): Engine reads a port register, taking the block's access latency. -/
def execGet (x : Guard) (wd wa : RegNo) (k : Nat) (s : State) : Host.Outcome State Fault Refusal :=
  .next (s.getWith x (decide (k < 4096)) wd.val wa.val k false)

/-- PUT (R109): Engine writes a port register, immediately or into a pending set. -/
def execPut (x : Guard) (ws wa : RegNo) (k : Nat) (s : State) : Host.Outcome State Fault Refusal :=
  .next (s.putWith x (decide (k < 4096)) ws.val wa.val k false)

/-- GETL (R109): Engine reads a port register with a 16-bit offset in an extension word. -/
def execGetl (x : Guard) (wd wa : RegNo) (k : Nat) (s : State) : Host.Outcome State Fault Refusal :=
  .next (s.getWith x (decide (k < 65536)) wd.val wa.val k true)

/-- PUTL (R109): Engine writes a port register with a 16-bit offset in an extension word. -/
def execPutl (x : Guard) (ws wa : RegNo) (k : Nat) (s : State) : Host.Outcome State Fault Refusal :=
  .next (s.putWith x (decide (k < 65536)) ws.val wa.val k true)

/-- No LIVE is set for a read that R31 ends: it returns no value of the register (DESIGN CHOICE: R96 and R109 do not say;
notes/assumptions/58.md).

R31: engine `e` ends an access to port `a` that its block has not answered: a read returns 0, a write is dropped. -/
def State.doTimeout (s : State) (e : Nat) (read : Bool) (w a : Nat) : State :=
  ((if read then s.setW e w 0 else s).esf e .portTmo).record .portTimeout e [a]

/-- PORT_TIMEOUT (R31): the access of an executed GET, PUT (`long`: GETL, PUTL) of a decoded port ends after 64 clocks. -/
def execPortTimeout (x : Guard) (read : Bool) (w : RegNo) (addr : Fin 65536) (long : Bool) (s : State) :
    Host.Outcome State Fault Refusal :=
  .next (
    if s.decoded addr.val && (s.eng x.e.val).guard x then
      let n := 1 + b2n long
      s.issueAt x true n n (64 + b2n long + s.lockExtra x.e.val) (63 + b2n long + s.lockExtra x.e.val) false (fun s =>
        (s.doTimeout x.e.val read w.val addr.val, .pass n))
    else s)

/-! ### Snapshots of the recorder -/

/-- One snapshot port read into a freeze slot: EVR_FSNAPj into value `j` of slot `k` (R535). -/
def State.snapPort (s : State) (k j : Nat) : State :=
  if s.regB (Reg.EVR_FSNAP j) 31 then
    let a := s.regF (Reg.EVR_FSNAP j) 15 0
    s.setReg (Reg.EVR_FVAL k j) (if s.decoded a then s.readNow (.svc 0) a else 0)
  else s

/-- FREEZE_SNAPSHOT (R535). -/
def execFreezeSnapshot (k : Fin 4) (s : State) : Host.Outcome State Fault Refusal :=
  .next (
    let sl := mgetD s.evr.slots k.val {}
    if sl.snapDue then
      let s1 := s.updEvr (fun e => { e with slots := mput e.slots k.val { sl with snapDue := false } })
      (List.range 32).foldl (fun s j => s.snapPort k.val j) s1
    else s)

end Sys2Proof.Machine
end

