-- ==== Sys2Proof/Machine/Conflicts.lean ====
section
/-! DEFINITION. Machine/Conflicts.lean: the conflict check of a pending set (spec/02_architecture.md R39, R580, R582) and
the conditions that the block chapters add to it: R94, R137, R265, R290, R296, R310, R314, R329, R330, R338, R384, R387,
R416, R442, R461, R472, R476, R477, R482, R499, R518. -/
namespace Sys2Proof.Machine

/-- A condition of the conflict check that holds: the register reported, the ports `lo` to `hi` of the entry it concerns,
and a number that tells the conditions of one entry apart. -/
structure Clash where
  reg : Nat
  lo : Nat
  hi : Nat
  why : Nat
deriving DecidableEq, Repr

/-- The clash of an entry with ports `lo` to `hi`, reported on `reg`, when its condition holds. -/
def clashIf (c : Bool) (reg lo hi why : Nat) : List Clash := if c then [⟨reg, lo, hi, why⟩] else []

/-- A clash of a register that is an entry of its own. -/
def clash1 (c : Bool) (reg why : Nat) : List Clash := clashIf c reg reg reg why

/-- The value lies outside a range. -/
def outside (v lo hi : Nat) : Bool := decide (v < lo) || decide (hi < v)

/-- `v` divides `n`; 0 divides nothing. -/
def divides (v n : Nat) : Bool := v != 0 && n % v == 0

/-- The clashes of a list of entries. -/
def clashAll (l : List Nat) (f : Nat → List Clash) : List Clash := (l.map f).flatten

/-! ### Routes (R39, R580) -/

/-- The enabled routes. -/
def State.routesOn (s : State) : List Nat := (s.listed 0x0900 4 64).filter (fun n => s.regB (Reg.MBK_RTS n) 31)

/-- The destination of a route: class and index. -/
def State.routeDest (s : State) (n : Nat) : Nat × Nat := (s.regF (Reg.MBK_RTS n) 9 6, s.regF (Reg.MBK_RTS n) 5 0)

/-- Two enabled routes with one non-ring destination: reported on the second. -/
def State.routePairClashes (s : State) : List Clash :=
  clashAll s.routesOn (fun n =>
    clashIf ((s.routeDest n).1 != 8 && s.routesOn.any (fun m => decide (m < n) && s.routeDest m == s.routeDest n))
      (Reg.MBK_RTS n) (Reg.MBK_RTS n) (Reg.MBK_RTB n) 0)

/-- R580. -/
def State.routeClashes (s : State) : List Clash :=
  clashAll s.routesOn (fun n =>
    clashIf (routeBad (s.reg (Reg.MBK_RTS n)) (s.reg (Reg.MBK_RTB n))) (Reg.MBK_RTS n) (Reg.MBK_RTS n) (Reg.MBK_RTB n) 1)

/-! ### Scheduler and lockstep (R137, R94) -/

/-- R162: the largest index of a block-event class. -/
def eventMax (cls : Nat) : Nat :=
  match cls with
  | 3 => 31 | 4 => 47 | 5 => 15 | 6 => 31 | 7 => 15 | 8 => 63 | 9 => 63 | 12 => 3
  | _ => 0

/-- R137: the trigger of clause `c` is in conflict. -/
def State.triggerBad (s : State) (c : Nat) : Bool :=
  let v := s.reg (Reg.SCH_CDC c)
  let g := s.clauseGroup c
  match s.clauseType c with
  | 0 => s.groupAxis g != 0 || decide ((s.reg (Reg.SCH_GPER g)).toNat ≤ v.toNat)
  | 2 => decide (12 < fld v 31 28) || decide (eventMax (fld v 31 28) < fld v 15 0)
  | 3 => fld v 31 30 == 0 || (s.conjNames c).any (fun d => d == c || s.clauseGroup d != g)
  | _ => false

/-- R137: the engine of clause `c` is in conflict. -/
def State.engineBad (s : State) (c : Nat) : Bool :=
  let e := s.clauseEngine c
  if s.clauseLock c then e % 2 == 1 || !(s.locked e) else !(s.clauseFloat c) && s.locked e

/-- The enabled clauses. -/
def State.clausesOn (s : State) : List Nat := s.clauses.filter s.clauseEn

/-- R137, R158: a cluster with a float clause and fixed clauses of differing ENGINE that holds fixed clause `c`. -/
def State.clusterBad (s : State) (c : Nat) : Bool :=
  let k := s.clauseBset c
  let mem := s.clausesOn.filter (fun d => s.clauseBset d == k)
  k != 0 && !(s.clauseFloat c) && mem.any s.clauseFloat
    && mem.any (fun d => !(s.clauseFloat d) && s.clauseEngine d != s.clauseEngine c)

/-- The banks of a bank set, as a 64-bit mask. -/
def State.bankSet (s : State) (k : Nat) : Nat := (s.reg (Reg.SCH_BSL k)).toNat + (s.reg (Reg.SCH_BSH k)).toNat * 2 ^ 32

/-- R137: the bank sets that share a bank with set `k` while one of the two is named by a float clause. -/
def State.setsSharing (s : State) (k : Nat) : List Nat :=
  let floats := (s.clausesOn.filter s.clauseFloat).map s.clauseBset
  (List.range 16).filter (fun j =>
    j != 0 && j != k && (floats.contains j || floats.contains k) && (s.bankSet j &&& s.bankSet k) != 0)

/-- R137: the conditions of the scheduler; `addrs` are the registers that the set writes. -/
def State.schClashes (s : State) (addrs : List Nat) : List Clash :=
  clashAll [1, 2, 3, 4, 5, 6, 7] (fun n =>
    let src := s.regF (Reg.SCH_AXSRC n) 6 4
    clash1 (decide (4 < src) || (src != 1 && s.regF (Reg.SCH_AXSRC n) 2 0 != 0)) (Reg.SCH_AXSRC n) 2)
  ++ clashAll [1, 2, 3, 4, 5, 6, 7] (fun n =>
    clash1 (addrs.contains (Reg.SCH_AXSET n) && s.regF (Reg.SCH_AXSRC n) 6 4 != 4) (Reg.SCH_AXSET n) 3)
  ++ clashAll (s.groupList.filter s.groupEn) (fun g =>
    let per := (s.reg (Reg.SCH_GPER g)).toNat
    clashIf (outside per (if s.groupAxis g = 0 then 10000 else 1) 2147483648) (Reg.SCH_GPER g) (Reg.SCH_GAX g) (Reg.SCH_GFS g) 4
    ++ clashIf (decide (per ≤ (s.reg (Reg.SCH_GFS g)).toNat)) (Reg.SCH_GFS g) (Reg.SCH_GAX g) (Reg.SCH_GFS g) 5)
  ++ clashAll (List.range 16) (fun k =>
    if k = 0 then [] else (s.setsSharing k).map (fun j => ⟨Reg.SCH_BSL k, Reg.SCH_BSL k, Reg.SCH_BSH k, 64 + j⟩))
  ++ clashAll s.clausesOn (fun c =>
    let f := fun (b : Bool) (r w : Nat) => clashIf b r (Reg.SCH_CDA c) (Reg.SCH_CDC c) w
    f (decide (3 < s.clauseType c)) (Reg.SCH_CDA c) 6
    ++ f (s.engineBad c) (Reg.SCH_CDA c) 7
    ++ f (s.clusterBad c) (Reg.SCH_CDA c) 8
    ++ f (s.clauseBudget c == 0) (Reg.SCH_CDB c) 9
    ++ f (s.triggerBad c) (Reg.SCH_CDC c) 10)

/-- R94: a pair taken out of lockstep while an enabled clause with LOCK = 1 is assigned to it. -/
def lockClashes (old s : State) : List Clash :=
  clashAll [0, 1, 2, 3] (fun p =>
    clash1 (old.pairOn p && !(s.pairOn p) && s.clausesOn.any (fun c =>
      s.clauseLock c && (s.clauseEngine c / 2 == p || s.hostOf c / 2 == p))) Reg.CLE_LSCTL (11 + p))

/-! ### Loop engine (R265) -/

/-- R244, R265: source code `k` of slot `n` with parameter `v`; `sp`: it is the setpoint. -/
def sourceBad (n k : Nat) (v : Word) (sp : Bool) : Bool :=
  let x := v.toNat
  match k with
  | 0 => x != 0
  | 1 => x != 0
  | 2 => decide (15 < x)
  | 3 => decide (7 < x)
  | 4 => decide (7 < x)
  | 5 => decide (65535 < x)
  | 6 => decide (2097151 < x) || x % 4 != 0
  | 7 => fld v 31 14 != 0
  | 8 => decide (63 < x) || x == n
  | 9 => !sp || x != 0
  | _ => true

/-- The current-loop channel that a slot drives. -/
def State.drivenLoop (s : State) (n : Nat) : Option Nat :=
  let d := s.reg (Reg.LPE_DST n)
  if fld d 31 28 = 1 then some (fld d 2 0) else none

/-- R265: the conditions of the loop engine. -/
def State.lpeClashes (s : State) (addrs : List Nat) : List Clash :=
  clashAll s.loopSlots (fun n =>
    let f := fun (b : Bool) (r w : Nat) => clashIf b r (Reg.LPE_CFG n) (Reg.LPE_SAFE n) w
    let src := s.reg (Reg.LPE_SRC n)
    let per := s.regF (Reg.LPE_TRG n) 19 0
    let d := s.reg (Reg.LPE_DST n)
    f (s.regF (Reg.LPE_CFG n) 26 25 != 0 && s.reg (Reg.LPE_GRACE n) == 0) (Reg.LPE_CFG n) 0
    ++ f (!(s.regB (Reg.LPE_TRG n) 31) && (outside per 50 1000000 || !(divides per 1000000))) (Reg.LPE_TRG n) 1
    ++ f (sourceBad n (fld src 31 28) (s.reg (Reg.LPE_SPP n)) true) (Reg.LPE_SRC n) 2
    ++ f (sourceBad n (fld src 27 24) (s.reg (Reg.LPE_FBP n)) false) (Reg.LPE_SRC n) 3
    ++ f (sourceBad n (fld src 23 20) (s.reg (Reg.LPE_FFP n)) false) (Reg.LPE_SRC n) 4
    ++ f (decide (2 < fld d 31 28) || (fld d 31 28 == 2 && fld d 14 0 % 4 != 0)) (Reg.LPE_DST n) 5
    ++ f ((s.drivenLoop n).isSome && s.loopSlots.any (fun m => m != n && s.drivenLoop m == s.drivenLoop n)) (Reg.LPE_DST n) 6)
  ++ clash1 (outside (s.regF Reg.LPE_CTL 7 0) 2 48) Reg.LPE_CTL 7
  ++ clashAll (List.range 16) (fun g =>
    let ms := s.swapMembers g
    let other := fun m => (List.range 16).any (fun h => h != g && (s.swapMembers h).contains m)
    clashIf (ms.any other) (Reg.LPE_SGL g) (Reg.LPE_SGL g) (Reg.LPE_SGH g) 8
    ++ clashIf (!ms.isEmpty && !(ms.contains (s.regF (Reg.LPE_SGR g) 5 0))) (Reg.LPE_SGR g) (Reg.LPE_SGL g) (Reg.LPE_SGR g) 9)
  ++ clashAll (List.range 8) (fun c =>
    clash1 (addrs.contains (Reg.CLO_CMD c) && s.loopSlots.any (fun n => s.drivenLoop n == some c)) (Reg.CLO_CMD c) 10)

/-! ### Reference fusion (R290, R296), baseband (R310, R314), timebase (R329, R330, R338) -/

/-- R290, R296: the conditions of the fusion engine. -/
def State.fusClashes (s : State) : List Clash :=
  let nerr := s.regF Reg.FUS_CTL 28 24
  let fper := s.regF Reg.FUS_CTL 16 0
  let need := (2000000 * 16 + fper * 8192 - 1) / (fper * 8192) + 1
  clash1 (outside (s.regF Reg.FUS_DRLIM 11 0) 1 3600) Reg.FUS_DRLIM 0
  ++ (if s.regB Reg.FUS_CTL 31 then
      clash1 (outside fper 1000 20000 || !(divides fper 1000000)) Reg.FUS_CTL 1
      ++ clash1 (outside nerr 15 24) Reg.FUS_CTL 2
      ++ clash1 (outside (s.regF Reg.FUS_CTL 23 19) 16 28) Reg.FUS_CTL 3
      ++ clashIf (s.owner (addrBank (s.reg Reg.FUS_MODA)) != ownFus) Reg.FUS_MODA Reg.FUS_CTL Reg.FUS_MODA 4
      ++ clashIf (s.fusBanks.any (fun b => s.owner b != ownFus)) Reg.FUS_WSL Reg.FUS_CTL Reg.FUS_WSH 5
      ++ clashIf (fper != 0 && decide (s.fusBanks.length < need)) Reg.FUS_WSL Reg.FUS_CTL Reg.FUS_WSH 6
      ++ clashIf (s.regB Reg.FUS_WCTL 30 && !(s.regB Reg.FUS_CTL 30) && !s.solo) Reg.FUS_WCTL Reg.FUS_CTL Reg.FUS_WCTL 7
    else [])
  ++ clashAll ((List.range 13).filter (fun n => s.regB (Reg.FUS_SCFG n) 31)) (fun n =>
    let t := s.regF (Reg.FUS_SCFG n) 30 28
    let badState := fun v => v != 0 && (decide (v < 15) || decide (nerr ≤ v))
    clashIf (if n < 10 then decide (1 < t) else t != 2) (Reg.FUS_SCFG n) (Reg.FUS_SCFG n) (Reg.FUS_AEPS n) 8
    ++ clashIf (badState (s.regF (Reg.FUS_BIAS n) 9 5) || badState (s.regF (Reg.FUS_BIAS n) 4 0)) (Reg.FUS_BIAS n)
      (Reg.FUS_SCFG n) (Reg.FUS_AEPS n) 9)

/-- R310, R314: the conditions of the baseband. -/
def State.gnbClashes (s : State) : List Clash :=
  let ep := s.reg Reg.GNB_EPCTL
  let nav := s.reg Reg.GNB_NAVCTL
  clash1 (bit ep 31 && (outside (fld ep 15 0) 20 1000 || !(divides (fld ep 15 0) 1000))) Reg.GNB_EPCTL 0
  ++ clash1 (bit nav 31 && (fld nav 13 8 == fld nav 5 0 || s.owner (fld nav 13 8) != gnbOwner || s.owner (fld nav 5 0) != gnbOwner))
    Reg.GNB_NAVCTL 1

/-- R338: the number of destinations of a trigger-unit class. -/
def trigDests (cls : Nat) : Nat :=
  match cls with
  | 2 => 8
  | _ => 16

/-- The enabled trigger units. -/
def State.trigsOn (s : State) : List Nat := (s.listed 0x5030 4 16).filter (fun k => s.regB (Reg.TMB_TRGA k) 31)

/-- The destination of trigger unit `k`: class and index. -/
def State.trigDest (s : State) (k : Nat) : Nat × Nat := (s.regF (Reg.TMB_TRGA k) 23 20, s.regF (Reg.TMB_TRGA k) 19 16)

/-- An enabled trigger unit names this destination. -/
def State.trigNames (s : State) (cls idx : Nat) : Bool := s.trigsOn.any (fun k => s.trigDest k == (cls, idx))

/-- R329, R330, R338: the conditions of the timebase. -/
def State.tmbClashes (s : State) : List Clash :=
  let srv := s.reg Reg.TMB_SRV
  let ports := [fld srv 31 28, fld srv 27 24, fld srv 23 20].filter (fun c => decide (1 ≤ c) && decide (c ≤ 4))
  clash1 (ports.eraseDups.length != ports.length) Reg.TMB_SRV 0
  ++ clash1 (outside (s.regF Reg.TMB_PPS 31 23) 1 500) Reg.TMB_PPS 1
  ++ clashAll ((s.listed 0x5020 1 16).filter (fun k => s.regB (Reg.TMB_CAP k) 31)) (fun k =>
    clash1 (s.regF (Reg.TMB_CAP k) 3 0 == 15) (Reg.TMB_CAP k) 2)
  ++ clashAll s.trigsOn (fun k =>
    let f := fun (b : Bool) (r w : Nat) => clashIf b r (Reg.TMB_TRGA k) (Reg.TMB_TRGC k) w
    let per := s.regF (Reg.TMB_TRGB k) 19 0
    let d := s.trigDest k
    f (decide (3 < d.1) || decide (trigDests d.1 ≤ d.2)) (Reg.TMB_TRGA k) 3
    ++ f (d.1 != 0 && s.trigsOn.any (fun j => j != k && s.trigDest j == d)) (Reg.TMB_TRGA k) 4
    ++ f (outside per 1 1000000 || !(divides per 1000000)) (Reg.TMB_TRGB k) 5
    ++ f (decide (per ≤ s.regF (Reg.TMB_TRGC k) 19 0)) (Reg.TMB_TRGC k) 6)
  ++ clashAll ([0, 1, 2, 3].filter (fun p => s.regB (Reg.TMB_PTPC p) 31)) (fun p =>
    let v := s.reg (Reg.TMB_PTPC p)
    let bad := fun (hi lo : Nat) (a b : Int) => decide (sext 4 (fld v hi lo) < a) || decide (b < sext 4 (fld v hi lo))
    clash1 (bad 15 12 (-4) 1 || bad 11 8 (-4) 2 || bad 7 4 (-3) 3) (Reg.TMB_PTPC p) 7)

/-! ### Redundant pair (R384), safety block (R387, R416) -/

/-- R384: the conditions of the pair logic. -/
def btlClashes (old s : State) : List Clash :=
  let cfg := s.reg Reg.BTL_CFG
  let ring := fun b => s.isRing b || (List.range 16).any (fun k => k != 0 && (s.bankSet k).testBit b)
  clash1 (fld cfg 31 30 == 3) Reg.BTL_CFG 0
  ++ clash1 (outside (fld cfg 11 0) 1 3600) Reg.BTL_CFG 1
  ++ clash1 (bit cfg 29 && fld cfg 31 30 == 0) Reg.BTL_CFG 2
  ++ clashAll s.mirrorGroups (fun g =>
    let a := s.regF (Reg.BTL_MRX g) 29 24
    let b := s.regF (Reg.BTL_MRX g) 21 16
    clash1 (a == b) (Reg.BTL_MRX g) 3 ++ clash1 (ring a || ring b) (Reg.BTL_MRX g) 4)
  ++ clashAll (List.range 16) (fun g =>
    clash1 (old.regB (Reg.BTL_MRX g) 31 != s.regB (Reg.BTL_MRX g) 31 && (s.txn g).isSome) (Reg.BTL_MRX g) 5)

/-- R387: the clause of function `f` is in conflict. -/
def State.funClauseBad (s : State) (f : Nat) : Bool :=
  let c := s.regF (Reg.SAF_FA f) 15 8
  let g := s.clauseGroup c
  !(s.clauseLock c) || s.clauseType c != 0 || s.groupAxis g != 0 || decide ((s.reg (Reg.SCH_GPER g)).toNat < 1000000)

/-- R416: function `f` names an input pair, an output or a slot that is not enabled. -/
def State.funNamesBad (s : State) (f : Nat) : Bool :=
  (List.range 16).any (fun k => s.regB (Reg.SAF_FB f) k && !(s.regB (Reg.SAF_PCFG k) 31))
    || (List.range 16).any (fun k => s.regB (Reg.SAF_FB f) (16 + k) && !(s.isSafOut k))
    || (List.range 64).any (fun q => (if q < 32 then s.regB (Reg.SAF_FC f) q else s.regB (Reg.SAF_FD f) (q - 32)) && !(s.regB (Reg.SAF_TWD q) 31))

/-- R387, R416: the conditions of the safety block. -/
def State.safClashes (s : State) : List Clash :=
  clashAll ((List.range 16).filter (fun k => s.regB (Reg.SAF_PCFG k) 31)) (fun k =>
    clash1 (outside (s.regF (Reg.SAF_PCFG k) 23 16) 1 200 || outside (s.regF (Reg.SAF_PCFG k) 8 0) 4 500) (Reg.SAF_PCFG k) 0)
  ++ clashAll ((List.range 16).filter s.isSafOut) (fun k =>
    clash1 (outside (s.regF (Reg.SAF_OCFG k) 24 16) 100 400 || outside (s.regF (Reg.SAF_OCFG k) 15 0) 100 60000) (Reg.SAF_OCFG k) 1
    ++ clash1 (s.regB (Reg.SAF_OCFG k) 30 && (decide (8 ≤ k) || !(s.isSafOut (k + 8)))) (Reg.SAF_OCFG k) 2
    ++ clash1 (s.trigNames 3 k) (Reg.SAF_OCFG k) 3
    ++ clash1 (s.funsOfOut k).isEmpty (Reg.SAF_OCFG k) 4)
  ++ clashAll ((List.range 16).filter s.funOn) (fun f =>
    let g := fun (b : Bool) (r w : Nat) => clashIf b r (Reg.SAF_FA f) (Reg.SAF_FE f) w
    g (outside (s.regF (Reg.SAF_FA f) 27 16) 2 4095 || s.funClauseBad f) (Reg.SAF_FA f) 5
    ++ g (s.funNamesBad f) (Reg.SAF_FB f) 6
    ++ g (outside (s.regF (Reg.SAF_FE f) 12 0) 1 4320) (Reg.SAF_FE f) 7)

/-! ### Field groups (R442), filter chains, encoders (R461), serial channels (R472) -/

/-- R429, R442: the expected open-contact voltage of input `n` at a sensor supply of 32 V is not below the falling level of a
type 3 input, 7.0 V (the condition is met by every type 1 input, TYPE = 0). -/
def State.breakHigh (s : State) (n : Nat) : Bool :=
  let c := s.reg (Reg.DIO_ICFG n)
  let rsc := if bit c 28 then fld c 14 10 * 100 else 0
  decide (7000 * (rsc + fld c 9 0 * 100 + 4700) ≤ 32000 * 4700)

/-- R442: the conditions of DIO. -/
def State.dioClashes (s : State) : List Clash :=
  clash1 (outside (s.regF Reg.DIO_LLT 13 0) 5 10000) Reg.DIO_LLT 0
  ++ clash1 (s.regF Reg.DIO_WBF 7 0 == 0) Reg.DIO_WBF 1
  ++ clashAll ((s.listed 0x6040 1 32).filter (fun n => s.regB (Reg.DIO_ICFG n) 31)) (fun n =>
    let c := s.reg (Reg.DIO_ICFG n)
    clash1 (bit c 29 && (!(bit c 30) || fld c 9 0 == 0 || s.breakHigh n)) (Reg.DIO_ICFG n) 2
    ++ clash1 (bit c 28 && outside (fld c 14 10) 10 20) (Reg.DIO_ICFG n) 3)
  ++ clashAll ((List.range 16).filter (fun k => s.regB (Reg.DIO_OCFG k) 31)) (fun k =>
    clash1 (s.isSafOut k && s.regF (Reg.DIO_OCFG k) 30 28 != 0) (Reg.DIO_OCFG k) 4
    ++ clash1 (s.regB (Reg.DIO_OCFG k) 28 && !(s.trigNames 3 k)) (Reg.DIO_OCFG k) 5)
  ++ clashAll s.trigsOn (fun k =>
    clashIf ((s.trigDest k).1 == 3 && !(s.regB (Reg.DIO_OCFG (s.trigDest k).2) 28)) (Reg.TMB_TRGA k) (Reg.TMB_TRGA k) (Reg.TMB_TRGC k) 8)

/-- R442: the conditions of CLO. -/
def State.cloClashes (s : State) : List Clash :=
  clash1 (outside (s.regF Reg.CLO_LLT 13 0) 5 10000) Reg.CLO_LLT 0
  ++ clash1 (decide (360 < s.regF Reg.CLO_ALM 31 16) || outside (s.regF Reg.CLO_ALM 15 0) 2100 2300) Reg.CLO_ALM 1
  ++ clashAll ((List.range 8).filter (fun c => s.regB (Reg.CLO_CFG c) 31)) (fun c =>
    let v := sw (s.reg (Reg.CLO_SAFE c))
    clashIf (s.regF (Reg.CLO_CFG c) 29 28 == 3 && (decide (v < 0) || decide (1507328 < v))) (Reg.CLO_SAFE c) (Reg.CLO_SAFE c) (Reg.CLO_SAFE c) 2
    ++ clashIf (s.regF (Reg.CLO_CFG c) 29 28 == 3 && (decide (v < 0) || decide (1507328 < v))) (Reg.CLO_SAFE c) (Reg.CLO_CFG c) (Reg.CLO_CFG c) 3)

/-- R461: the conditions of DFC. -/
def State.dfcClashes (s : State) : List Clash :=
  clashAll ((List.range 16).filter (fun c => s.regB (Reg.DFC_CFG c) 31)) (fun c =>
    let f := fun (b : Bool) (r w : Nat) => clashIf b r (Reg.DFC_CFG c) (Reg.DFC_MINIT c) w
    let v := s.reg (Reg.DFC_CFG c)
    f (outside (fld v 26 24) 3 5 || outside (fld v 12 0) 16 4096) (Reg.DFC_CFG c) 0
    ++ f (!(bit v 29) && !(s.regB Reg.DFC_MCLK (4 * fld v 28 27 + 3))) (Reg.DFC_CFG c) 1
    ++ f (bit v 30 && !(s.trigNames 1 c)) (Reg.DFC_CFG c) 2
    ++ f (outside (s.regF (Reg.DFC_DL c) 28 24) 4 20) (Reg.DFC_DL c) 3)
  ++ clash1 (s.regB Reg.DFC_MPCFG 31 && !(s.regB (Reg.DFC_CFG (s.regF Reg.DFC_MPCFG 3 0)) 31)) Reg.DFC_MPCFG 4

/-- R461: the conditions of ENC. -/
def State.encClashes (s : State) : List Clash :=
  clashAll ((List.range 8).filter (fun e => s.regB (Reg.ENC_CFG e) 31)) (fun e =>
    let f := fun (b : Bool) (r w : Nat) => clashIf b r (Reg.ENC_CFG e) (Reg.ENC_ZTOL e) w
    let v := s.reg (Reg.ENC_CFG e)
    let bits := fld v 25 21 + 1
    let smp := s.reg (Reg.ENC_SMP e)
    let per := fld smp 19 0
    let cpr := (s.reg (Reg.ENC_CPR e)).toNat
    f (decide (8 < fld v 15 12) || decide (bits < 8) || decide (bits < fld v 20 16 + 1) || decide (fld v 7 0 < 25)) (Reg.ENC_CFG e) 0
    ++ f (decide (cpr < 4)) (Reg.ENC_CPR e) 1
    ++ f (decide (cpr ≤ (s.reg (Reg.ENC_ZOFS e)).toNat)) (Reg.ENC_ZOFS e) 2
    ++ f (!(bit smp 31) && (outside per 5 1000000 || !(divides per 1000000))) (Reg.ENC_SMP e) 3
    ++ f (bit smp 31 && !(s.trigNames 2 e)) (Reg.ENC_SMP e) 4
    ++ f (bit v 30 && decide (per * 1000 < (bits + b2n (bit v 27) + 1) * 2 * fld v 7 0 * 10 + 20000)) (Reg.ENC_SMP e) 5)

/-- R472: the conditions of SER. -/
def State.serClashes (s : State) : List Clash :=
  clashAll ([0, 1, 2, 3].filter (fun k => s.regB (Reg.SER_CFG k) 31)) (fun k =>
    let v := s.reg (Reg.SER_CFG k)
    let f := fun (b : Bool) (r w : Nat) => clashIf b r (Reg.SER_CFG k) (Reg.SER_TXC k) w
    f (fld v 27 26 == 3 || decide (fld v 15 8 < 2) || (bit v 24 && bit v 28 && decide (0x7F < fld v 23 16))) (Reg.SER_CFG k) 0
    ++ f (decide (s.regF (Reg.SER_DIV k) 15 0 < 10)) (Reg.SER_DIV k) 1)

/-! ### CAN FD (R476, R477, R482, R499), Ethernet (R518) -/

/-- R476, R499: the bit timing of channel `n` is in conflict: nominal, and data. -/
def State.canTimingBad (s : State) (n : Nat) : Bool × Bool :=
  let b := s.reg (Reg.CFD_NBT n)
  let d := s.reg (Reg.CFD_DBT n)
  let nq := 3 + fld b 15 8 + fld b 6 0
  let nb := fld b 31 23 + 1
  let dq := 3 + fld d 20 16 + fld d 3 0
  let db := fld d 31 27 + 1
  (decide (fld b 15 8 + 1 < 2) || decide (fld b 6 0 < fld b 22 16) || decide (nq < 8) || decide (nb * nq < 400),
   decide (fld d 3 0 < fld d 26 23) || decide (dq < 5) || decide (db * dq < 50)
     || (decide (db * dq < 400) && !(s.regB (Reg.CFD_TDC n) 31)))

/-- R482: the sum of the quotas of channel `n`. -/
def State.quotaSum (s : State) (n : Nat) : Nat :=
  ((List.range 16).map (fun g => s.regF (Reg.CFD_TXQ n (g / 4)) (8 * (g % 4) + 7) (8 * (g % 4)))).foldl (· + ·) 0

/-- R499: the conditions of the CAN channels. -/
def State.canClashes (s : State) : List Clash :=
  clashAll (List.range 6) (fun n =>
    let ctl := s.reg (Reg.CFD_CTL n)
    let r := s.reg (Reg.CFD_TXCR n)
    let mode := fld ctl 30 28
    let f := fun (b : Bool) (q w : Nat) => clashIf b q (Reg.CFD_CTL n) (Reg.CFD_TXCR n) w
    (if bit ctl 31 then
      f (decide (2 < mode) || (mode == 1 && decide (4 ≤ n)) || (mode == 2 && decide (n < 4))) (Reg.CFD_CTL n) 0
      ++ f (s.canTimingBad n).1 (Reg.CFD_NBT n) 1
      ++ f (s.canTimingBad n).2 (Reg.CFD_DBT n) 2
      ++ f (decide (63 < s.quotaSum n)) (Reg.CFD_TXQ n 0) 3
      ++ f (fld r 12 0 == 0 || fld r 12 0 % 4 != 0 || decide (8192 < fld r 25 13 + fld r 12 0) || s.owner (fld r 31 26) != 0x31)
        (Reg.CFD_TXCR n) 4
    else [])
    ++ clashAll ((s.listed (Reg.CFD_FID n 0) 2 32).filter (fun k => s.regB (Reg.CFD_FID n k) 31)) (fun k =>
      let id := s.reg (Reg.CFD_FID n k)
      let m := s.reg (Reg.CFD_FMSK n k)
      clashIf (fld m 31 30 == 3 || (!(bit id 30) && (fld id 17 0 != 0 || fld m 17 0 != 0))) (Reg.CFD_FID n k)
        (Reg.CFD_FID n k) (Reg.CFD_FMSK n k) 5))

/-- R518: two slots with the same STREAM and a source address in common. -/
def State.slotsMeet (s : State) (k j : Nat) : Bool :=
  let src := fun n => [s.regF (Reg.ETH_RSCFG n) 23 16, s.regF (Reg.ETH_RSCFG n) 15 8].filter (fun a => a != 0)
  s.regF (Reg.ETH_RSSTR k) 15 0 == s.regF (Reg.ETH_RSSTR j) 15 0 && (src k).any (fun a => (src j).contains a)

/-- R518: the conditions of the Ethernet block. -/
def State.ethClashes (s : State) : List Clash :=
  let on := (s.listed 0x7D00 12 64).filter (fun k => s.regB (Reg.ETH_RSCFG k) 31)
  clashAll [0, 1, 2, 3] (fun p =>
    clash1 (s.regB (Reg.ETH_PCFG p) 31 && s.regF (Reg.ETH_PCFG p) 30 29 == 3 && p != 2) (Reg.ETH_PCFG p) 0
    ++ clash1 (s.regB (Reg.TMB_PTPC p) 31 && !(s.regB (Reg.ETH_PCFG p) 31)) (Reg.ETH_PCFG p) 1)
  ++ clashAll ((s.listed 0x7C80 2 64).filter (fun k => s.regB (Reg.ETH_FLTA k) 31)) (fun k =>
    clashIf (s.regF (Reg.ETH_FLTA k) 26 25 == 3 || s.regF (Reg.ETH_FLTA k) 30 27 == 0) (Reg.ETH_FLTA k) (Reg.ETH_FLTA k) (Reg.ETH_FLTB k) 2)
  ++ clashAll on (fun k =>
    let v := s.reg (Reg.ETH_RSCFG k)
    let f := fun (b : Bool) (r w : Nat) => clashIf b r (Reg.ETH_RSCFG k) (Reg.ETH_RSSTR k) w
    f (fld v 23 16 == 0 || fld v 15 8 == fld v 23 16) (Reg.ETH_RSCFG k) 3
    ++ f (s.regF (Reg.ETH_RSSTR k) 15 0 == 0xFFFF) (Reg.ETH_RSSTR k) 4
    ++ f (on.any (fun j => j != k && s.slotsMeet k j)) (Reg.ETH_RSSTR k) 5)
  ++ clashAll ((s.listed 0x5900 1 64).filter (fun k => s.regB (Reg.SAF_TWD k) 31)) (fun k =>
    clash1 (!(s.regB (Reg.ETH_RSCFG k) 30)) (Reg.SAF_TWD k) 6)

/-! ### The check -/

/-- Every condition of the conflict check that holds in `s`, reached from `old` by a set that writes `addrs`: routes first
(R39), then the blocks in the order of their ports. -/
def clashes (old s : State) (addrs : List Nat) : List Clash :=
  s.routePairClashes ++ s.routeClashes ++ s.schClashes addrs ++ lockClashes old s ++ s.lpeClashes addrs ++ s.fusClashes
    ++ s.gnbClashes ++ s.tmbClashes ++ btlClashes old s ++ s.safClashes ++ s.serClashes ++ s.dioClashes ++ s.cloClashes
    ++ s.dfcClashes ++ s.encClashes ++ s.canClashes ++ s.ethClashes

/-- R39, R137: the first condition that the set contains, or that it would create against the values in force: one on an
entry that the set writes, or one that does not hold before the commit. -/
def firstClash (old s : State) (addrs : List Nat) : Option Clash :=
  let before := clashes old old []
  (clashes old s addrs).find? (fun c => addrs.any (fun a => decide (c.lo ≤ a) && decide (a ≤ c.hi)) || !(before.contains c))

end Sys2Proof.Machine
end

