-- ==== Sys2Proof/Machine/Placement.lean ====
section
/-! DEFINITION. Machine/Placement.lean: clusters, hosts, adaptive placement of clauses and loop slots
(spec/05_clauses_axes_fullstop.md R157 to R161, R583, R590; spec/03_programming_model.md R84;
spec/09_loop_engine.md R260, R261). -/
namespace Sys2Proof.Machine

/-- The scheduler changed. -/
def State.updSched (s : State) (f : Sched → Sched) : State := { s with sched := f s.sched }

/-! ### Clusters (R158) -/

/-- The clauses of the cluster of clause `c`. -/
def State.members (s : State) (c : Nat) : List Nat :=
  let k := s.clauseBset c
  if k = 0 then [c] else s.clauses.filter (fun d => s.clauseBset d == k)

/-- The lowest clause number of the cluster of clause `c`, by which the cluster is named. -/
def State.clusterHead (s : State) (c : Nat) : Nat := (s.members c).foldl min c

/-- The clusters that hold one of these clauses, each by its lowest clause, in ascending order. -/
def State.headsOf (s : State) (l : List Nat) : List Nat := (sortByKey id (l.map s.clusterHead)).eraseDups

/-- The ENGINE of a fixed clause of the cluster, where it includes one; an enabled one counts before a disabled one. -/
def State.pinned (s : State) (c : Nat) : Option Nat :=
  let fixed := (s.members c).filter (fun d => !(s.clauseFloat d))
  match fixed.find? s.clauseEn with
  | some d => some (s.clauseEngine d)
  | none => fixed.head?.map s.clauseEngine

/-- R158: the host that the descriptors give clause `d` of the cluster `c`. -/
def State.ruleHost (s : State) (c d : Nat) : Nat :=
  if s.clauseFloat d then (s.pinned c).getD (s.clauseEngine c) else s.clauseEngine d

/-- A clause of the cluster runs or is ready. -/
def State.clusterBusy (s : State) (c : Nat) : Bool :=
  (s.members c).any (fun d => s.sched.ready.any (fun r => r.clause == d)
    || s.engs.any (fun q => match q.2.run with
      | some r => r.clause == d
      | none => false))

/-- R161: clause `d` of bank set `k` moves to engine `e`; the banks of the set pass with it. -/
def State.moveClause (s : State) (k d e : Nat) : State :=
  let old := s.ownerOf (s.hostOf d)
  let s := s.updSched (fun x => { x with host := mput x.host d e })
  if k = 0 then s
  else (List.range 64).foldl (fun s b => if (s.bankSet k).testBit b && s.owner b == old then s.passBank b (s.ownerOf e) else s) s

/-- R161: the cluster `c` moves, each clause to the engine `dest` gives; the answer says whether anything moved. `ep` is the
placement epoch of the move. -/
def State.moveCluster (s : State) (ep c : Nat) (dest : Nat → Nat) : State × Bool :=
  let old := s.hostOf c
  let ms := (s.members c).filter (fun d => s.hostOf d != dest d)
  if ms.isEmpty then (s, false)
  else
    let s := ms.foldl (fun s d => s.moveClause (s.clauseBset c) d (dest d)) s
    (s.record .placeMigrate 0 [0, c, ep, old, dest c], true)

/-- R260, R261: slot `n` moves to a lane. -/
def State.moveSlot (s : State) (ep n lane : Nat) : State :=
  let old := s.laneOf n
  ((s.updSlot n (fun x => { x with lane := some lane })).slotStat n).record .placeMigrate 0 [1, n, ep, old, lane]

/-! ### The procedure of R160 -/

/-- The entry with the largest value, the lowest number among equals. -/
def largest (l : List (Nat × Nat)) : Option (Nat × Nat) :=
  l.foldl (fun b q => match b with
    | none => some q
    | some p => if p.2 < q.2 then some q else some p) none

/-- The entry with the smallest value, the lowest number among equals. -/
def smallest (l : List (Nat × Nat)) : Option (Nat × Nat) :=
  l.foldl (fun b q => match b with
    | none => some q
    | some p => if q.2 < p.2 then some q else some p) none

/-- R160: up to `n` moves between hosts whose loads are `load`; `items` are what may move: number, host, share. -/
def planMoves (thr : Nat) : Nat → SMap Nat → List (Nat × Nat × Nat) → List (Nat × Nat)
  | 0, _, _ => []
  | n + 1, load, items =>
    match largest load, smallest load with
    | some hi, some lo =>
      if hi.2 < lo.2 + thr then []
      else
        match largest ((items.filter (fun i => i.2.1 == hi.1 && decide (lo.2 + i.2.2 < hi.2))).map (fun i => (i.1, i.2.2))) with
        | none => []
        | some c =>
          (c.1, lo.1) :: planMoves thr n (mput (mput load hi.1 (hi.2 - c.2)) lo.1 (lo.2 + c.2))
            (items.map (fun i => if i.1 = c.1 then (i.1, lo.1, i.2.2) else i))
    | _, _ => []

/-- R84: each item (number, share) goes to the host of the smallest load, and its share is added there. -/
def planPlaces : SMap Nat → List (Nat × Nat) → List (Nat × Nat)
  | _, [] => []
  | load, i :: t =>
    match smallest load with
    | some lo => (i.1, lo.1) :: planPlaces (mput load lo.1 (lo.2 + i.2)) t
    | none => []

/-- R160: the engines that take part: those not in lockstep, or the pairs in lockstep as their even engines. -/
def State.placeable (s : State) (lock : Bool) : List Nat :=
  (List.range 8).filter (fun e =>
    if lock then e % 2 == 0 && s.locked e && !(s.eng e).oos && !(s.eng (e + 1)).oos else !(s.locked e) && !(s.eng e).oos)

/-- R590: 1024 times the clocks over those of the period, truncated. -/
def shareOf (n per : Nat) : Nat := if per = 0 then 0 else 1024 * n / per

/-- The share of a cluster in the last period. -/
def State.clusterShare (s : State) (c : Nat) : Nat :=
  shareOf (((s.members c).map (fun d => mgetD s.sched.lastBusy d 0)).foldl (· + ·) 0) s.sched.lastPer

/-- The clusters of float clauses, lockstep or not. A cluster counts while it holds an enabled clause: R84 and R160 act for
clauses that can run (DESIGN CHOICE: the rules do not say what a cluster of disabled clauses does; notes/assumptions/58.md). -/
def State.floatClusters (s : State) (lock : Bool) : List Nat :=
  (s.headsOf s.clausesOn).filter (fun c => (s.pinned c).isNone && s.clauseLock c == lock)

/-- The busy share of engine `e` in SCH_LOADe. -/
def State.engineLoad (s : State) (e : Nat) : Nat × Nat := (e, s.regF (Reg.SCH_LOAD e) 15 0)

/-- R160, R590: the moves of one pass, at most `n`. -/
def State.passMoves (s : State) (lock : Bool) (n : Nat) : List (Nat × Nat) :=
  planMoves (s.regF Reg.SCH_PLCTL 19 12) n ((s.placeable lock).map s.engineLoad)
    (((s.floatClusters lock).filter (fun c => !(s.clusterBusy c))).map (fun c => (c, s.hostOf c, s.clusterShare c)))

/-- Moves of clusters carried out. -/
def State.applyMoves (s : State) (ep : Nat) (l : List (Nat × Nat)) : State × Bool :=
  l.foldl (fun q m => let r := q.1.moveCluster ep m.1 (fun _ => m.2); (r.1, q.2 || r.2)) (s, false)

/-- The lanes in service with their loads in SCH_LLOAD. -/
def State.laneLoads (s : State) : List (Nat × Nat) :=
  ((List.range 4).filter (fun l => !(s.lpe.lanesOut.contains l))).map (fun l => (l, s.regF (Reg.SCH_LLOAD l) 15 0))

/-- The float slots that are enabled. -/
def State.floatSlots (s : State) : List Nat := s.loopSlots.filter (fun n => s.regB (Reg.LPE_CFG n) 29)

/-! ### What is due at a full stop -/

/-- R583: clusters that a commit has changed are re-placed as soon as none of their clauses runs or is ready. -/
def State.replaceDue (s : State) (ep : Nat) : State × Bool :=
  (s.headsOf s.sched.replace).foldl (fun q c =>
    let s := q.1
    if s.clusterBusy c then q
    else
      let r := s.moveCluster ep c (fun d => s.ruleHost c d)
      (r.1.updSched (fun x => { x with replace := x.replace.filter (fun d => s.clusterHead d != c) }), q.2 || r.2)) (s, false)

/-- R84: float clusters hosted on an engine out of service go to eligible engines. -/
def State.rescueClusters (s : State) (ep : Nat) (lock : Bool) : State × Bool :=
  let lost := (s.floatClusters lock).filter (fun c =>
    let e := s.hostOf c
    ((s.eng e).oos || (lock && (s.eng (e + 1)).oos)) && !(s.clusterBusy c))
  s.applyMoves ep (planPlaces ((s.placeable lock).map s.engineLoad) (lost.map (fun c => (c, s.clusterShare c))))

/-- R261: float slots on a failed lane go to the remaining lanes. -/
def State.rescueSlots (s : State) (ep : Nat) : State × Bool :=
  let l := planPlaces s.laneLoads ((s.floatSlots.filter (fun n => s.lpe.lanesOut.contains (s.laneOf n))).map (fun n => (n, (s.slot n).share)))
  (l.foldl (fun s m => s.moveSlot ep m.1 m.2) { s with lpe := { s.lpe with replace := [] } }, !l.isEmpty)

/-- R160: between two full stops: the clocks of the clauses that still run, and the idle shares of the interval that ends
now. -/
def State.tallyStop (s : State) : State :=
  let s := (List.range 8).foldl (fun s e => s.accountTo e s.clk) s
  let n := s.clk - s.sched.lastFs
  let idle := fun busy => shareOf (n - min n busy) n
  if n = 0 then s
  else
    let s := (List.range 8).foldl (fun s e => s.updEng e (fun x => { x with minIdle := min x.minIdle (idle x.busyFs), busyFs := 0 })) s
    s.updSched (fun x => { x with
      lastFs := s.clk, laneFs := []
      laneIdle := (List.range 4).foldl (fun m l => mput m l (min (mgetD m l 1024) (idle (mgetD x.laneFs l 0)))) x.laneIdle })

/-- The accounts of the period that ends are shown and begin again; the follower of a lockstep pair holds what its even engine
holds (R123). -/
def State.closePeriod (s : State) : State :=
  let per := s.clk - s.sched.evalClk
  let show_ := fun idle busy => wd (idle * 65536 + min 1024 (shareOf busy per))
  let held := fun e => s.eng (if e % 2 = 1 && s.locked e then e - 1 else e)
  let s := (List.range 8).foldl (fun s e =>
    (s.setReg (Reg.SCH_LOAD e) (show_ (held e).minIdle (held e).busyNow)).updEng e (fun x => { x with busyNow := 0, minIdle := 1024 })) s
  let s := (List.range 4).foldl (fun s l =>
    s.setReg (Reg.SCH_LLOAD l) (show_ (mgetD s.sched.laneIdle l 1024) (mgetD s.sched.laneBusy l 0))) s
  let s : State := { s with lpe := { s.lpe with slots := s.lpe.slots.map (fun q => (q.1, { q.2 with share := shareOf q.2.busy per, busy := 0 })) } }
  s.updSched (fun x => { x with evalElapsed := s.tb.el, evalClk := s.clk, lastBusy := x.clauseBusy, lastPer := per
                                clauseBusy := [], laneBusy := [], laneIdle := [] })

/-- R160, R590: the evaluation, at a full stop of PLGRP once PLPER has elapsed. -/
def State.evaluatePlacement (s : State) (g ep : Nat) : State × Bool :=
  let ctl := s.reg Reg.SCH_PLCTL
  if fld ctl 27 24 != g || decide (s.tb.el < s.sched.evalElapsed + fld ctl 11 0 * 10000000) then (s, false)
  else
    let s := s.closePeriod
    let n := fld ctl 23 20
    let l1 := if bit ctl 31 then s.passMoves false n else []
    let l2 := if bit ctl 31 then s.passMoves true (n - l1.length) else []
    let r := s.applyMoves ep (l1 ++ l2)
    let s := r.1
    let l3 := if bit ctl 30 then
        planMoves (fld ctl 19 12) n s.laneLoads (s.floatSlots.map (fun k => (k, s.laneOf k, (s.slot k).share)))
      else []
    (l3.foldl (fun s m => s.moveSlot ep m.1 m.2) s, r.2 || !l3.isEmpty)

/-- R150, step 7: the migrations due at a full stop of group `g`. The placement epoch advances once when anything moves. -/
def State.migrate (s : State) (g : Nat) : State :=
  let s := s.tallyStop
  let ep := ((s.reg Reg.SCH_PLEPOCH).toNat + 1) % 2 ^ 32
  let (s, a) := s.replaceDue ep
  let (s, b) := s.rescueClusters ep false
  let (s, c) := s.rescueClusters ep true
  let (s, d) := s.rescueSlots ep
  let (s, e) := s.evaluatePlacement g ep
  if a || b || c || d || e then s.setReg Reg.SCH_PLEPOCH (wd ep) else s

/-- R158, R260: the hosts at program start. -/
def State.initialHosts (s : State) : State :=
  s.clauses.foldl (fun s d => s.updSched (fun x => { x with host := mput x.host d (s.ruleHost (s.clusterHead d) d) })) s

end Sys2Proof.Machine
end

