-- ==== Sys2Proof/Machine/Commit.lean ====
section
/-! DEFINITION. Machine/Commit.lean: a pending set applied at a full stop (spec/02_architecture.md R34, R37, R39) and what
each block does when a staged register takes a new value. -/
namespace Sys2Proof.Machine

/-- The writes of a set in the order of R37. -/
def applyOrder (l : List PendWrite) : List PendWrite := sortByKey (fun w => orderKey w.clause w.disp w.ord) l

/-- R37: of the writes in order, for each register the last. -/
def standing : List PendWrite → List PendWrite
  | [] => []
  | w :: t => if t.any (fun x => x.addr == w.addr) then standing t else w :: standing t

/-- A staged register takes a committed value: its RW fields; a field that is WO stores nothing. -/
def State.storeStaged (s : State) (a : Nat) (v : Word) : State :=
  match regDesc a with
  | some d => s.setReg a (writeFields d.fields (s.reg a) v)
  | none => s

/-- The state with the writes in force, before the blocks act on them. -/
def State.storeSet (s : State) (l : List PendWrite) : State := l.foldl (fun s w => s.storeStaged w.addr w.val) s

/-! ### What the blocks do; `old` is the state before the commit -/

/-- The commit changed register `a`. -/
def changed (old s : State) (a : Nat) : Bool := old.reg a != s.reg a

/-- The commit set bit 31, EN, of register `a`. -/
def enabledNow (old s : State) (a : Nat) : Bool := !(old.regB a 31) && s.regB a 31

/-- R44: WPTR of route `n` restarts when the commit enables the route or changes its ring while it is enabled. -/
def State.routeHook (old s : State) (n : Nat) : State :=
  if s.regB (Reg.MBK_RTS n) 31 && (enabledNow old s (Reg.MBK_RTS n) || changed old s (Reg.MBK_RTB n)) then
    s.setRegF (Reg.MBK_RTC n) 12 0 0
  else s

/-- R146: compare unit `k` arms when the commit enables it or changes POS, AXIS or HYST, from the position in the commit
clock. -/
def State.compareHook (old s : State) (k : Nat) : State :=
  let c := s.reg (Reg.SCH_CMPC k)
  let b := old.reg (Reg.SCH_CMPC k)
  if bit c 31 && (!(bit b 31) || fld b 29 27 != fld c 29 27 || fld b 23 8 != fld c 23 8 || changed old s (Reg.SCH_CMPP k)) then
    let d := turnDiff (old.axisPos (fld c 29 27)) (s.reg (Reg.SCH_CMPP k))
    s.updSched (fun x => { x with cmp := mput x.cmp k ((mgetD x.cmp k {}).arm d) })
  else s

/-- R149, R156: a group that the commit enables, or whose AXIS, PERIOD, ORIGIN or FSOFF it changes, is set afresh; its
stall time counts from the commit that enables it. -/
def State.groupHook (old s : State) (g : Nat) : State :=
  let s := if enabledNow old s (Reg.SCH_GAX g) then s.updGroup g (fun x => { x with elapsed := s.tb.el }) else s
  if s.groupEn g && (enabledNow old s (Reg.SCH_GAX g) || old.groupAxis g != s.groupAxis g || changed old s (Reg.SCH_GPER g)
      || changed old s (Reg.SCH_GORG g) || changed old s (Reg.SCH_GFS g)) then s.armGroup g
  else s

/-- R141: a periodic trigger that the commit makes or moves takes its first instant ahead. -/
def State.triggerHook (old s : State) (c : Nat) : State :=
  let g := s.clauseGroup c
  let same := old.clauseEn c && old.clauseType c == s.clauseType c && old.clauseGroup c == g && !(changed old s (Reg.SCH_CDC c))
  if s.clauseEn c && s.clauseType c == 0 && !same then
    let per := (s.reg (Reg.SCH_GPER g)).toNat
    let next := firstAhead (s.reg (Reg.SCH_GORG g) + s.reg (Reg.SCH_CDC c)) per (s.axisPos (s.groupAxis g))
    s.updGroup g (fun x => { x with trigNext := mput x.trigNext c next })
  else s

/-- R583: a commit that changes ENGINE, FLOAT, LOCK or BSET of clause `c`: the clusters it leaves and joins keep their hosts
until they are re-placed. -/
def State.clauseHook (old s : State) (c : Nat) : State :=
  let s := State.triggerHook old s c
  if old.clauseEngine c == s.clauseEngine c && old.clauseFloat c == s.clauseFloat c && old.clauseLock c == s.clauseLock c
      && old.clauseBset c == s.clauseBset c then s
  else
    let touched := (c :: (old.members c ++ s.members c)).eraseDups
    s.updSched (fun x => { x with
      host := touched.foldl (fun m d => mput m d (old.hostOf d)) x.host
      replace := x.replace ++ touched.filter (fun d => !(x.replace.contains d)) })
/-- R142, R143: an axis whose source changes has no valid source until the new one delivers. -/
def State.axisHook (old s : State) (n : Nat) : State :=
  if old.regF (Reg.SCH_AXSRC n) 6 0 = s.regF (Reg.SCH_AXSRC n) 6 0 then s
  else s.updAxis n (fun a => { a with valid := false, lost := false })

/-- The hooks of MBK, SCH, CLE. -/
def State.hookCore (old s : State) (a : Nat) : State :=
  if a < 0x0C00 then State.routeHook old s ((a - 0x0900) / 4)
  else if 0x0C10 ≤ a ∧ a < 0x0C18 then State.axisHook old s (a - 0x0C10)
  else if 0x0C40 ≤ a ∧ a < 0x0C80 then State.compareHook old s ((a - 0x0C40) / 2)
  else if 0x0C80 ≤ a ∧ a < 0x0CE0 then State.groupHook old s ((a - 0x0C80) / 6)
  else if 0x0D00 ≤ a ∧ a < 0x1000 then State.clauseHook old s ((a - 0x0D00) / 3)
  else s

/-- R248: a commit that enables a slot starts it afresh; a commit that disables it ends its pending sample as a skip. A
slot's lane goes back to LANE when the commit changes LANE or FLOAT; a changed grid counts from the commit. -/
def State.slotHook (old s : State) (n : Nat) : State :=
  let c := s.reg (Reg.LPE_CFG n)
  let b := old.reg (Reg.LPE_CFG n)
  let s := if fld b 29 27 != fld c 29 27 then s.updSlot n (fun x => { x with lane := none }) else s
  let s := if changed old s (Reg.LPE_TRG n) then s.updSlot n (fun x => { x with lastInst := s.tb.t }) else s
  let s :=
    if enabledNow old s (Reg.LPE_CFG n) then
      s.updSlot n (fun x => { x with arm := true, mode := 0, lastInst := s.tb.t, feSince := none, frz := 0, skipped := false, samples := [] })
    else if bit b 31 && !(bit c 31) then s.skipSamples n (fun _ => true)
    else s
  s.slotStat n

/-- The hooks of LPE. -/
def State.hookLpe (old s : State) (a : Nat) : State :=
  if a < 0x3000 then State.slotHook old s ((a - 0x2000) / 64)
  else if a = Reg.LPE_ADJC then s.startAdjust
  else s

/-- The tag with which the fusion engine marks its banks in use (R296). -/
def fusTag : Nat := 0x400

/-- R296: the banks in force are marked in use while EN = 1 (those of its batches in flight until they complete, R183); a commit
that enables the engine starts it, one that disables it ends what it holds. -/
def State.fusHook (old s : State) : State :=
  let s := s.unmarkTag fusTag
  let s := if s.regB Reg.FUS_CTL 31 then
      (addrBank (s.reg Reg.FUS_MODA) :: s.fusBanks).foldl (fun s b => s.markBank b fusTag) s
    else s
  if enabledNow old s Reg.FUS_CTL then s.fusStart
  else if old.regB Reg.FUS_CTL 31 && !(s.regB Reg.FUS_CTL 31) then s.fusStop
  else s

/-- R325, R328: a commit of the source priorities chooses the source in use again; one of a PTP port, of the priorities or of the
domain the port states. -/
def State.tmbHook (old s : State) (a : Nat) : State :=
  if a = Reg.TMB_SRV then s.chooseSource
  else if a = Reg.TMB_PTPG then s.ptpHook (if old.regF a 6 0 = s.regF a 6 0 then [] else [0, 1, 2, 3])
  else s.ptpHook (if old.regB a 31 = s.regB a 31 then [] else [(a - 0x5080) / 4])

/-- R338: a trigger unit that a commit changes waits for its next instant. -/
def State.trigHook (s : State) (k : Nat) : State :=
  { s with tb := { s.tb with trigLast := mput s.tb.trigLast k s.tb.t },
           sched := { s.sched with trigDue := s.sched.trigDue.filter (fun u => u != k) } }

/-- The hooks of FUS, GNB and TMB. -/
def State.hookMid (old s : State) (a : Nat) : State :=
  if a = Reg.FUS_CTL ∨ a = Reg.FUS_MODA ∨ a = Reg.FUS_WSL ∨ a = Reg.FUS_WSH then State.fusHook old s
  else if a = Reg.GNB_EPCTL then { s with gnb := { s.gnb with lastT := s.tb.t } }
  else if a = Reg.GNB_NAVCTL then (if enabledNow old s a then s.navBegin false (s.regF a 13 8) else s)
  else if a = Reg.TMB_UTC then
    (if changed old s a then s.record .evrUtcChange 0 [old.regF a 15 0, s.regF a 15 0, b2n (s.regB a 31)] else s)
  else if a = Reg.TMB_SRV ∨ a = Reg.TMB_PTPG ∨ (0x5080 ≤ a ∧ a < 0x5090) then
    (if changed old s a then State.tmbHook old s a else s)
  else if 0x5030 ≤ a ∧ a < 0x5070 then (if changed old s a then s.trigHook ((a - 0x5030) / 4) else s)
  else s

/-- R352, R366: a commit that changes EN of BTL_MRXg: what the unit knows of the group's epochs begins afresh. -/
def State.mirrorHook (old s : State) (g : Nat) : State :=
  if old.regB (Reg.BTL_MRX g) 31 = s.regB (Reg.BTL_MRX g) 31 then s else (s.updEpochs g (fun _ => {})).restate

/-- R398: a safety output that a commit changes takes its windows from now on; a disabled one is off. -/
def State.safOutHook (old s : State) (k : Nat) : State :=
  let s := if changed old s (Reg.SAF_OCFG k) then s.updSaf (fun x => { x with winT := mput x.winT k s.tb.t }) else s
  if s.isSafOut k then s
  else (s.safOutOff k).updSaf (fun x => { x with window := mdel x.window k })

/-- R406, R409: watchdogs start when their function or slot is enabled. -/
def State.watchHook (old s : State) (a : Nat) : State :=
  if 0x5840 ≤ a ∧ a < 0x58C0 then
    (if a % 8 = 0 ∧ enabledNow old s a = true then
      s.updSaf (fun x => { x with wdEl := mput x.wdEl ((a - 0x5840) / 8) s.tb.el })
    else s)
  else if enabledNow old s a then
    s.updSaf (fun x => { x with slotEl := mput x.slotEl (a - 0x5900) s.tb.el, expired := x.expired.filter (fun q => q != a - 0x5900) })
  else s

/-- The hooks of BTL, SAF and SER. -/
def State.hookPair (old s : State) (a : Nat) : State :=
  if 0x5410 ≤ a ∧ a < 0x5430 then State.mirrorHook old s ((a - 0x5410) / 2)
  else if 0x5810 ≤ a ∧ a < 0x5820 then (s.evalPair (a - 0x5810)).redegrade
  else if 0x5820 ≤ a ∧ a < 0x5830 then (State.safOutHook old s (a - 0x5820)).redegrade
  else if 0x5840 ≤ a ∧ a < 0x5A00 then (State.watchHook old s a).redegrade
  else if 0x5C00 ≤ a ∧ a < 0x5C40 then
    let k := (a - 0x5C00) / 16
    let off := old.regB (Reg.SER_CFG k) 31 && (!(s.regB (Reg.SER_CFG k) 31) || old.regB (Reg.SER_CFG k) 30 != s.regB (Reg.SER_CFG k) 30
      || changed old s (Reg.SER_DIV k))
    if off then s.serOff k else s
  else s

/-- R447: a filter chain starts when the commit enables it or changes a field of DFC_CFGc, or DELAY. -/
def State.chainHook (old s : State) (c : Nat) : State :=
  if s.regB (Reg.DFC_CFG c) 31 && (changed old s (Reg.DFC_CFG c) || old.regF (Reg.DFC_DL c) 11 0 != s.regF (Reg.DFC_DL c) 11 0) then
    s.chainStart c
  else if s.regB (Reg.DFC_CFG c) 31 then s
  else s.chainInvalid c

/-- The hooks of the blocks behind the port bridge. -/
def State.hookPeri (old s : State) (a : Nat) : State :=
  if a = Reg.DIO_OUT then s.publishOut (s.reg a)
  else if 0x6040 ≤ a ∧ a < 0x6060 then s.refreshInputs
  else if 0x6400 ≤ a ∧ a < 0x6408 then s.publishLoop (a - 0x6400) (s.reg a)
  else if 0x6800 ≤ a ∧ a < 0x6880 then
    (if a % 8 ≤ 1 then State.chainHook old s ((a - 0x6800) / 8) else s)
  else if a = Reg.DFC_MPCFG then
    (if s.regB a 31 then (if changed old s a then s.mainsStart else s) else s.mainsInvalid)
  else if 0x6C00 ≤ a ∧ a < 0x6C80 then
    (if a % 16 = 0 ∧ enabledNow old s a = true then s.encEnable ((a - 0x6C00) / 16)
    else if a % 16 = 0 ∧ s.regB a 31 = false then s.clrBitR (Reg.ENC_STAT ((a - 0x6C00) / 16)) 31
    else s)
  else if 0x7000 ≤ a ∧ a < 0x7C00 then
    let n := (a - 0x7000) / 512
    if a % 512 = 0 then s.canConfigured n (old.reg a)
    else if a % 512 = 0x10 then
      (let s := s.canConfigured n (s.reg (Reg.CFD_CTL n))
       if changed old s a then s.canRingNew n else s)
    else s
  else if 0x7D00 ≤ a ∧ a < 0x8000 then
    let k := (a - 0x7D00) / 12
    if enabledNow old s (Reg.ETH_RSCFG k) || (changed old s (Reg.ETH_RSSTR k)) then
      s.updTel k (fun x => { x with windows := [], closed := [], bothRun := 0, began := none })
    else s
  else s

/-- What the commit of register `a` sets off. -/
def State.hook (old s : State) (a : Nat) : State :=
  if a < 0x1400 then State.hookCore old s a
  else if a < 0x4000 then State.hookLpe old s a
  else if a < 0x5400 then State.hookMid old s a
  else if a < 0x6000 then State.hookPair old s a
  else State.hookPeri old s a

/-- R168: a bank that a commit makes the ring of an enabled route, or brings into a kept-awake set, wakes. -/
def State.wakeKept (s : State) : State :=
  (List.range 64).foldl (fun s b => if s.bankAsleep b && (s.keptAwake b || s.isRing b) then s.startWake b else s) s

/-- R145: a committed write to SCH_AXSETn sets the position of a virtual axis in the FAB clock after the commit. -/
def State.axisSets (s : State) (l : List PendWrite) : State :=
  (l.filter (fun w => decide (0x0C28 ≤ w.addr) && decide (w.addr < 0x0C30) && s.regF (Reg.SCH_AXSRC (w.addr - 0x0C28)) 6 4 == 4)).foldl
    (fun s w => s.updNow (fun x => { x with sets := mput x.sets (w.addr - 0x0C28) w.val })) s

/-- R34: the writes `l` (one for each register, in the order of R37) come into force. A block that is off holds nothing (R54):
a write to it is lost. -/
def State.commitSet (s : State) (l : List PendWrite) : State :=
  let l := l.filter (fun w => !(s.portOff w.addr))
  let n := s.storeSet l
  ((l.foldl (fun t w => State.hook s t w.addr) n).wakeKept).axisSets l

/-- R39: the first conflict of a set of standing writes; an empty set has none. -/
def State.setClash (s : State) (l : List PendWrite) : Option Clash :=
  if l.isEmpty then none else firstClash s (s.storeSet l) (l.map PendWrite.addr)

end Sys2Proof.Machine
end

