-- ==== Sys2Proof/Machine/FullStop.lean ====
section
/-! DEFINITION. Machine/FullStop.lean: the full stop of an output group, forced and skipped full stops, the program start
(spec/05_clauses_axes_fullstop.md R149 to R156; spec/02_architecture.md R34 to R40; spec/13_redundant_pair.md R355, R379 to
R382; spec/18_ethernet_twin_telegrams.md R505; spec/20_startup_reset_update.md R545). -/
namespace Sys2Proof.Machine

/-! ### Steps 1 and 2: what still runs or waits -/

/-- R150, step 1: clauses of the group still running end OVERRUN. -/
def State.endRunning (s : State) (g : Nat) : State :=
  (List.range 8).foldl (fun s e =>
    match (s.eng e).run with
    | some r => if r.group = g then s.endClause e .overrun (s.countNow r) 0 else s
    | none => s) s

/-- R150, step 2: clauses of the group that are ready are dropped, counted in STARVED and recorded. -/
def State.dropReady (s : State) (g : Nat) : State :=
  let mine := s.sched.ready.filter (fun r => s.clauseGroup r.clause == g)
  let s := s.updSched (fun x => { x with ready := x.ready.filter (fun r => !(mine.contains r)) })
  mine.foldl (fun s r =>
    (s.updCounts r.clause (fun c => { c with starved := (c.starved + 1) % 65536 })).record .clauseStarved r.clause [r.clause]) s

/-! ### Step 3: the pending set -/

/-- R39: a set in conflict sets CONFLICT and is recorded with the first conflicting register. -/
def State.noteConflict (s : State) (g : Nat) (c : Clash) : State :=
  ((s.updGroup g (fun x => { x with conflict := true })).noteCp g 9).record .cpConflict 0 [g, c.reg]

/-- One more full stop at which the set was neither refused nor overflowed (SYS_CPSTAT). -/
def State.countCommit (s : State) (g : Nat) : State := s.updGroup g (fun x => { x with commits := (x.commits + 1) % 65536 })

/-- R39, R380: the check of the group's set against the values in force in `base`; the answer says whether it may commit. -/
def State.checkSet (s base : State) (g : Nat) (l : List PendWrite) : State × Bool :=
  if (s.group g).overflowed then (s, false)
  else
    match base.setClash l with
    | some c => (s.noteConflict g c, false)
    | none => (s.countCommit g, true)

/-- R39, R380: what group `g` brings to its full stop: the frozen set of a transaction whose commit full stop this is, and the
pending set, checked against the values the frozen set leaves; the answer: whether the set may commit. -/
def State.settleSet (s : State) (g : Nat) : State × List PendWrite × List PendWrite × Bool :=
  let (s, frozen) := s.txnEnd g
  let l := standing (applyOrder (s.setOf g))
  let (s, ok) := s.checkSet (s.storeSet frozen) g l
  (s, frozen, l, ok)

/-- R150, step 3: the frozen set, then the pending set come into force: at the prepare full stop of a transaction the set is
frozen, otherwise it commits. The writes of the full stop's own clock stay for the next (R35). `held`: HOLD before the full
stop. -/
def State.commitStep (s : State) (g seq : Nat) (held : Bool) (frozen l : List PendWrite) (ok : Bool) : State :=
  let keep := s.heldOver g
  let s := if frozen.isEmpty then s else s.commitSet frozen
  let marked := match s.txn g with
    | some t => t.stage == 1
    | none => false
  let s := s.updGroup g (fun x => { x with pend := keep, overflowed := x.overNext, overNext := false })
  if marked then s.txnPrepare g seq ok held l
  else if ok && !l.isEmpty then s.commitSet l
  else s

/-- What has come into force at the full stop, in order (R90, R367). -/
def State.committed (s : State) (g : Nat) (frozen l : List PendWrite) (ok : Bool) : List PendWrite :=
  let marked := match s.txn g with
    | some t => t.stage == 1
    | none => false
  if ok && !marked then frozen ++ l else frozen

/-! ### Step 4: publication -/

/-- R505: T at the full stop as a telegram's header shows it: for a group on AX0, T at N. -/
def State.stampT (s : State) (g : Nat) (pos : Word) : Nat :=
  if s.groupAxis g = 0 then (((s.tb.t : Int) - turnDiff s.tmbNs pos) % (2 ^ 64 : Nat)).toNat else s.tb.t

/-- R151: a staged output is handed to its block. -/
def State.publishItem (s : State) (g seq : Nat) (pos : Word) (held : Bool) : StagedItem → State
  | .swap grp first n => s.publishSwap grp first n
  | .telegram st safe pl =>
    let t := s.stampT g pos
    s.publishTelegram st safe (held || s.solo) seq t (t / 1000000000) pl
  | .can ch im => s.canPublish g seq ch im
  | .mirror _ => s
  | .safOn m => s.publishSafOn m (s.group g).offMask.toNat
  | .safRst m => s.publishSafRst m

/-- R468, R451: a committed write of GO = 1 to SER_TXCn or DFC_SWAPc is published. -/
def State.publishWrite (s : State) (g : Nat) (w : PendWrite) : State :=
  if !(bit w.val 31) then s
  else if 0x5C00 ≤ w.addr ∧ w.addr < 0x5C40 ∧ w.addr % 16 = 2 then s.serPublish ((w.addr - 0x5C00) / 16) g w.val
  else if 0x6800 ≤ w.addr ∧ w.addr < 0x6880 ∧ w.addr % 8 = 3 then s.publishFirSwap ((w.addr - 0x6800) / 8) (fld w.val 20 0)
  else s

/-- R90: the outputs of the executions that ended ENDED, in order. -/
def State.stagedOrder (s : State) (g : Nat) : List StagedOut :=
  sortByKey (fun o => orderKey (some o.clause) o.disp o.ord) (s.group g).staged

/-- R150, step 4: staged outputs and messages published, in the order of R90. -/
def State.publishStep (s : State) (g seq : Nat) (pos : Word) (held : Bool) (regs : List PendWrite) (outs : List StagedOut) : State :=
  let acts : List (Nat × Sum PendWrite StagedOut) :=
    regs.map (fun w => (orderKey w.clause w.disp w.ord, Sum.inl w))
      ++ outs.map (fun o => (orderKey (some o.clause) o.disp o.ord, Sum.inr o))
  (sortByKey (fun a => a.1) acts).foldl (fun s a => match a.2 with
    | .inl w => s.publishWrite g w
    | .inr o => s.publishItem g seq pos held o.item) s

/-! ### The full stop -/

/-- R150: what the unit carries out at a full stop of group `g` at position `pos`. What the commit brings into force governs
the next clock (R34): the check and the outcome of the set stand first, then all that acts with the values in force before
(steps 4 to 6; what other blocks do at a full stop, R263, R292), then the commit, the moves of step 7, the handbacks of the DMA
and of the baseband after them (R167, R175, R314) and the pair logic (R353, R354, R375). -/
def State.carryOut (s : State) (g : Nat) (pos : Word) : State :=
  let seq := (s.group g).seq
  let held := s.hold
  let s := ((s.endRunning g).dropReady g)
  let s := (s.canStale g).serStale g
  let (s, frozen, l, ok) := s.settleSet g
  let regs := s.committed g frozen l ok
  let outs := s.stagedOrder g
  let s := s.publishStep g seq pos held regs outs
  let s := s.mirrorStop g seq pos held regs outs
  let nav := s.reg Reg.GNB_NAVCTL
  let s := (s.fusionCapture g).loopSnapshot g
  let s := s.commitStep g seq held frozen l ok
  let s := s.updGroup g (fun x => { x with
    seq := (x.seq + 1) % 2 ^ 48, progress := [], conjFired := [], staged := [], stageNo := 0, offMask := 0, elapsed := s.tb.el
    due := false })
  ((((s.migrate g).dmaFullStop g).navFullStop nav g).pairStop g seq).acting 10

/-- N advances by PERIOD; after a step of T that skipped full stops of a group on AX0 it stands behind the latest of them
(R333). The answer is the position of this full stop. -/
def State.advanceN (s : State) (g : Nat) : State × Word :=
  let x := s.group g
  let per := (s.reg (Reg.SCH_GPER g)).toNat
  let late := turnDiff (s.axisPos (s.groupAxis g)) x.next
  let n := if s.groupAxis g = 0 ∧ per ≠ 0 ∧ 0 ≤ late then x.next + wdi (late / (per : Int) * (per : Int)) else x.next
  let next := n + wd per
  (s.updGroup g (fun x => { x with next := next, prev := turnDiff (s.axisPos (s.groupAxis g)) next }), n)

/-- FULL_STOP (R150, R152, R156): the axis of an enabled group has reached N; full stops of one FAB clock are carried out in
ascending group number. -/
def execFullStop (g : GroupNo) (s : State) : Host.Outcome State Fault Refusal :=
  .next (
    let x := s.group g.val
    if s.stopDue g.val && s.stopFirst g.val && !x.forcedInCycle then
      s.inStep (s.groupAxis g.val == 0) 1 fun s =>
      let (s, pos) := s.advanceN g.val
      let s := if x.stalled then (s.updGroup g.val (fun x => { x with stalled := false })).record .groupResume 0 [g.val] else s
      s.carryOut g.val pos
    else s)

/-- SKIPPED_FULL_STOP (R156): the axis reaches N of a cycle in which a forced full stop fell; only N advances. -/
def execSkippedFullStop (g : GroupNo) (s : State) : Host.Outcome State Fault Refusal :=
  .next (
    let x := s.group g.val
    if s.stopDue g.val && s.stopFirst g.val && x.forcedInCycle then
      s.inStep (s.groupAxis g.val == 0) 1 fun s => (s.advanceN g.val).1.updGroup g.val (fun x => { x with forcedInCycle := false, due := false })
    else s)

/-- FORCED_FULL_STOP (R156): STALL ms of elapsed time since the group's previous full stop. -/
def execForcedFullStop (g : GroupNo) (s : State) : Host.Outcome State Fault Refusal :=
  .next (
    let x := s.group g.val
    if s.forcedDue g.val && s.forcedFirst g.val && s.stopsTaken then
      let s := if x.stalled then s else s.record .groupStall 0 [g.val]
      let s := s.updGroup g.val (fun x => { x with forced := (x.forced + 1) % 256, stalled := true, forcedInCycle := true })
      s.carryOut g.val x.next
    else s)

/-! ### Program start -/

/-- R545, step 2: a staged register takes the image's value in the fields whose Reset column says "image". -/
def State.loadValue (s : State) (a : Nat) (v : Word) : State :=
  match regDesc a with
  | some d => if d.staged && d.img != 0 then s.setReg a ((resetWord a &&& ~~~(wd d.img)) ||| (v &&& wd d.img)) else s
  | none => s

/-- R545, step 1: the instruction memory of an engine. -/
def State.loadCode (s : State) (e : Nat) (ws : List Word) : State :=
  s.updEng e (fun x => { x with imem := ((ws.take 32768).zipIdx).map (fun p => (p.2, p.1)) })

/-- R15: a SOLO unit takes authority once its program has started. -/
def State.soloStart (s : State) : State :=
  if s.solo then
    let s := (s.updPair (fun p => { p with toggling := true })).gainHold
    if s.regB Reg.SYS_STRAP 2 then s else s.record .soloController 0 []
  else s

/-- PROGRAM_LOAD (R545, R158, R165): the loader writes code, values in force and bank owners from the image, and the
program starts in pair state SYNC; scheduling starts at the first axis tick after it. -/
def execProgramLoad (code : List (EngineNo × List Word)) (values : List (Nat × Word)) (owners : List (BankNo × Nat)) (s : State) :
    Host.Outcome State Fault Refusal :=
  .next (
    if s.boot.stage == .loader then
      let old := s
      let s := code.foldl (fun s c => s.loadCode c.1.val c.2) s
      let s := values.foldl (fun s q => s.loadValue q.1 q.2) s
      let s := s.updBoot (fun b => { b with imgVals := values.foldl (fun m q => mput m q.1 q.2) [] })
      let s := owners.foldl (fun s q => if s.ownerCode q.2 then s.passBank q.1.val q.2 else s) s
      let s := values.foldl (fun s q => State.hook old s q.1) s
      let s := s.initialHosts.updSched (fun x => { x with
        replace := [], evalElapsed := s.tb.el, evalClk := s.clk, lastFs := s.clk
        groups := x.groups.map (fun q => (q.1, { q.2 with pend := [], overflowed := false, seq := 0 })) })
      let s := (s.updBoot (fun b => { b with stage := .running })).updPair (fun p => { p with started := some s.tb.el })
      s.restate.wakeKept.soloStart
    else s)

/-! ### A block switched on again -/

/-- R9, R54: a block that is ready again holds the reset values: those of the image where the Reset column says so, with
which its entries start as at program start. -/
def State.readyBlock (s : State) (b : Nat) : State :=
  let old := s.clearBlock b
  let vals := s.boot.imgVals.filter (fun q => blockPorts b q.1)
  let s := vals.foldl (fun s q => s.loadValue q.1 q.2) old
  vals.foldl (fun s q => State.hook old s q.1) s

/-- BLOCK_POWER_READY (R54): 50 µs after the write that switched it on, the block is ready. -/
def execBlockPowerReady (b : Fin 5) (s : State) : Host.Outcome State Fault Refusal :=
  .next (
    if s.boot.powering.any (fun q => q.1 == b.val && decide (q.2 + 50000 ≤ s.tb.el)) then
      (s.updBoot (fun x => { x with powering := x.powering.filter (fun q => q.1 != b.val) })).readyBlock b.val
    else s)

end Sys2Proof.Machine
end

