-- ==== Sys2Proof/Machine/Control.lean ====
section
/-! DEFINITION. Machine/Control.lean: waits, the end of a clause, instruction-memory errors, lockstep divergence
(spec/03_programming_model.md R80 to R84, R91 to R93; spec/04_instruction_reference.md R118 to R120, R126). -/
namespace Sys2Proof.Machine

/-! ### Waits -/

/-- R119: the word JOIN writes. -/
def State.joinWord (s : State) (r : Run) (c1 : Nat) (c2 : Option Nat) : Word :=
  wd (joinCode (s.joinEnd r c1) + 16 * (match c2 with
    | some c => joinCode (s.joinEnd r c)
    | none => 0))

/-- R119: every named clause ended in ENDED. -/
def State.joinGood (s : State) (r : Run) (c1 : Nat) (c2 : Option Nat) : Bool :=
  s.joinEnd r c1 == some .ended && (match c2 with
    | some c => s.joinEnd r c == some .ended
    | none => true)

/-- The results of a wait whose condition holds (R118, R119, R126). -/
def State.waitDone (s : State) (e : Nat) (r : Run) : WaitFor → State
  | .axis pd _ _ => s.setP e pd true
  | .join wd pd c1 c2 => (s.setW e wd (s.joinWord r c1 c2)).setP e pd (s.joinGood r c1 c2)
  | .ticket wd pd t =>
    match mget s.sol.tickets t with
    | some k => ((s.setW e wd k.sum).setP e pd true).releaseTicket t
    | none => (s.setW e wd 0xFFFFFFFF).setP e pd false

/-- R80, R119: the results of a wait that times out: the predicate is cleared, WTMO and LIVE are set; JOIN writes its
codes. -/
def State.waitExpired (s : State) (e : Nat) (r : Run) (q : WaitFor) : State :=
  let s := match q with
    | .axis pd _ _ => s.setP e pd false
    | .join wd pd c1 c2 => (s.setW e wd (s.joinWord r c1 c2)).setP e pd false
    | .ticket _ pd _ => s.setP e pd false
  (s.esf e .wtmo).esf e .live

/-- The clocks a wait takes beyond those waited: F of R80, and on a lockstep pair the addition of R92 for WAIT.T. -/
def State.waitFixed (s : State) (e : Nat) (q : WaitFor) : Nat :=
  match q with
  | .axis .. => 3
  | .join .. => 3
  | .ticket .. => 5 + s.lockExtra e

/-- R80: a wait whose condition holds at issue retires; otherwise the engine holds the clause. -/
def State.startWait (s : State) (e timeout : Nat) (q : WaitFor) : State × Flow :=
  match (s.eng e).run with
  | none => (s, .hold)
  | some r =>
    if s.waitMet r q then (s.waitDone e r q, .pass 2)
    else (s.updEng e (fun y => { y with wait := some { fixed := s.waitFixed e q, timeout := timeout, cond := q } }), .hold)

/-- R80: a timeout that encodes: 1 to 2^24 − 1. -/
def timeoutWf (t : Nat) : Bool := decide (0 < t) && decide (t < 2 ^ 24)

/-- WAIT.AX (R118). -/
def execWaitAx (x : Guard) (pd : PredNo) (n : AxisNo) (wa : RegNo) (timeout : Nat) (s : State) : Host.Outcome State Fault Refusal :=
  .next (s.issueAt x (timeoutWf timeout) 2 2 3 0 true (fun s =>
    s.startWait x.e.val timeout (.axis pd.val n.val (s.w x.e.val wa.val))))

/-- JOIN (R119). -/
def execJoin (x : Guard) (wd : RegNo) (pd : PredNo) (c1 : ClauseNo) (c2 : Option ClauseNo) (timeout : Nat) (s : State) :
    Host.Outcome State Fault Refusal :=
  .next (s.issueAt x (timeoutWf timeout) 2 2 3 0 true (fun s =>
    s.startWait x.e.val timeout (.join wd.val pd.val c1.val (c2.map Fin.val))))

/-- WAIT.T (R126). -/
def execWaitT (x : Guard) (wd : RegNo) (pd : PredNo) (wa : RegNo) (timeout : Nat) (s : State) : Host.Outcome State Fault Refusal :=
  .next (s.issueAt x (timeoutWf timeout) 2 2 (5 + s.lockExtra x.e.val) (s.lockExtra x.e.val) false (fun s =>
    s.startWait x.e.val timeout (.ticket wd.val pd.val (s.w x.e.val wa.val).toNat)))

/-- A waiting engine leaves its wait. -/
def State.unwait (s : State) (e : Nat) : State :=
  (s.updEng e (fun x => { x with wait := none })).updNow (fun x => { x with met := mdel x.met e })

/-- R206: no engine of a lower number completes its WAIT.T on ticket `t`. -/
def State.ticketTurn (s : State) (e t : Nat) : Bool := (List.range e).all (fun k => !(s.ticketWaited k t))

/-- R80, R206: the wait of engine `e` may end with its condition, which first held `k` clocks after issue. -/
def State.waitEnds (s : State) (e k : Nat) (r : Run) (q : WaitCtx) : Bool :=
  s.firstMet e r q == some k && decide (k < q.timeout) && (match q.cond with
    | .ticket _ _ t => s.ticketTurn e t
    | _ => true)

/-- WAIT_CONDITION_MET (R80, R206): the condition of the wait holds for the first time, `k` clocks after issue. -/
def execWaitConditionMet (e : EngineNo) (k : Nat) (s : State) : Host.Outcome State Fault Refusal :=
  .next (
    match (s.eng e.val).run, (s.eng e.val).wait with
    | some r, some q =>
      if s.waitEnds e.val k r q then
        s.retire e.val (q.fixed + k) (fun s => ((s.waitDone e.val r q.cond).unwait e.val, .pass 2))
      else s
    | _, _ => s)

/-- R80: the clocks of the timeout have passed and the condition held in none of them. -/
def State.waitOver (s : State) (e : Nat) (r : Run) (q : WaitCtx) : Bool :=
  decide (waitFrom r q.cond + q.timeout ≤ s.clk) && (match mget s.now.met e with
    | some k => decide (q.timeout ≤ k)
    | none => true)

/-- WAIT_TIMEOUT (R80): the condition held in none of the timeout's clocks. -/
def execWaitTimeout (e : EngineNo) (s : State) : Host.Outcome State Fault Refusal :=
  .next (
    match (s.eng e.val).run, (s.eng e.val).wait with
    | some r, some q =>
      if s.waitOver e.val r q then
        s.retire e.val (q.fixed + q.timeout) (fun s => ((s.waitExpired e.val r q.cond).unwait e.val, .pass 2))
      else s
    | _, _ => s)

/-! ### Ends of a clause -/

/-- FSTOP (R120); on a lockstep pair it adds 2 clocks to the budget count (R92). -/
def execFstop (x : Guard) (s : State) : Host.Outcome State Fault Refusal :=
  .next (s.issueAt x true 1 1 (1 + s.lockExtra x.e.val) (s.lockExtra x.e.val) false (fun s => (s, .stop)))

/-- R132: a SAF word off a lockstep pair is handled as an undefined encoding. -/
def safOffPair (r : Run) (w0 : Word) : Bool := fld w0 27 22 == 0x28 && !r.lock

/-- ILLEGAL_FETCH (R83, R100): the fetched word decodes as no Sirwen instruction. -/
def execIllegalFetch (e : EngineNo) (w0 w1 : Word) (s : State) : Host.Outcome State Fault Refusal :=
  .next (
    match (s.eng e.val).run with
    | none => s
    | some r =>
      if (decodeSirwen e w0 w1).isNone || safOffPair r w0 then s.endClause e.val .illegal (s.countNow r) w0.toNat else s)

/-- CLAUSE_BUDGET (R81): the clock whose count equals BUDGET has ended without FSTOP. -/
def execClauseBudget (e : EngineNo) (s : State) : Host.Outcome State Fault Refusal :=
  .next (
    match (s.eng e.val).run with
    | none => s
    | some r => if r.budget ≤ s.countNow r then s.endClause e.val .budget r.budget 0 else s)

/-! ### Instruction memory (R84) -/

/-- An engine of pair `e / 2` is out of service. -/
def State.pairLost (s : State) (e : Nat) : Bool := (s.eng (2 * (e / 2))).oos || (s.eng (2 * (e / 2) + 1)).oos

/-- R84: an enabled clause that its descriptor ties to an engine out of service, or that needs a lockstep pair when none is
left. -/
def State.cannotRun (s : State) (c : Nat) : Bool :=
  let e := s.clauseEngine c
  if s.clauseLock c then
    if s.clauseFloat c then (s.placeable true).isEmpty else s.pairLost e
  else !(s.clauseFloat c) && (s.eng e).oos

/-- R84: engines have left service: the unit is unhealthy for every clause that can no longer run. -/
def State.engineHealth (s : State) : State :=
  s.clausesOn.foldl (fun s c => if s.cannotRun c then s.addHealth (.noEngine c) else s) s

/-- R84, R93: an engine takes no further clause until the unit is reset. -/
def State.retireEngine (s : State) (e : Nat) : State := s.updEng e (fun x => { x with oos := true })

/-- The engine that runs the clause which fetches from engine `e`: the lead of a lockstep pair for its follower. -/
def State.leadOf (s : State) (e : Nat) : Nat :=
  match (s.eng (2 * (e / 2))).run with
  | some r => if r.lock then 2 * (e / 2) else e
  | none => e

/-- IMEM_FAULT (R82, R84): an error in the word fetched. Uncorrectable, it ends the clause and the engine leaves service;
corrected, it sets IECC in the clause's flags and nothing else (CLE_ESF bit 11; DESIGN CHOICE that this row carries it,
notes/assumptions/49.md). -/
def execImemFault (e : EngineNo) (corrected : Bool) (s : State) : Host.Outcome State Fault Refusal :=
  .next (
    let l := s.leadOf e.val
    match (s.eng l).run with
    | none => s
    | some r =>
      if corrected then s.esf l .iecc
      else
        let pc := (s.eng l).pc
        (((s.endClause l .imemFault (s.countNow r) 0).record .imemUe e.val [e.val, pc]).retireEngine e.val).engineHealth)

/-- IMEM_SCRUB (R84): the scrub finds an uncorrectable error at word `a` of an engine; a clause that runs there runs on. -/
def execImemScrub (e : EngineNo) (a : Fin 32768) (s : State) : Host.Outcome State Fault Refusal :=
  .next (((s.record .imemUe e.val [e.val, a.val]).retireEngine e.val).engineHealth)

/-! ### Lockstep (R91, R93) -/

/-- The divergence counter of pair `p` advanced, wrapping. -/
def State.bumpDiv (s : State) (p : Nat) : State :=
  if p = 0 then s.bumpF Reg.CLE_LSDIV0 7 0 else s.bumpF Reg.CLE_LSSTAT (8 * p + 7) (8 * p)

/-- Both engines of pair `p` changed by `f`. -/
def State.updPairEngines (s : State) (p : Nat) (f : Engine → Engine) : State :=
  (s.updEng (2 * p) f).updEng (2 * p + 1) f

/-- R82, R92: the stores of pair `p` whose comparison has not passed are never released. -/
def State.dropHeld (s : State) (p : Nat) : State :=
  s.updNow (fun x => { x with held := x.held.filter (fun h => h.pair != p) })

/-- LOCKSTEP_DIVERGE (R91, R92, R93): the comparison of one instruction fails; the pair takes no clause while it tests
itself, and what it has not released is dropped. -/
def execLockstepDiverge (p : Fin 4) (s : State) : Host.Outcome State Fault Refusal :=
  .next (
    let e := 2 * p.val
    match (s.eng e).run with
    | none => s
    | some r =>
      if r.lock then
        let s := ((s.dropHeld p.val).endClause e .diverge (s.countNow r) 0).setBitR Reg.CLE_LSSTAT p.val
        let s := (s.bumpDiv p.val).updPairEngines p.val (fun x => { x with selftest := true })
        if s.safetyClause r.clause then s.safetyFault 0 else s
      else s)

/-- LOCKSTEP_SELFTEST_END (R93): 50 µs after the divergence the self-test ends; a pair that fails leaves service. -/
def execLockstepSelftestEnd (p : Fin 4) (pass : Bool) (s : State) : Host.Outcome State Fault Refusal :=
  .next (
    let x := s.eng (2 * p.val)
    if x.selftest && decide (x.endClk + 20000 ≤ s.clk) then
      let s := s.updPairEngines p.val (fun x => { x with selftest := false })
      if pass then s
      else
        let s := (s.setBitR Reg.CLE_LSSTAT (4 + p.val)).record .lockstepFail p.val [p.val]
        ((s.retireEngine (2 * p.val)).retireEngine (2 * p.val + 1)).engineHealth
    else s)

end Sys2Proof.Machine
end

