-- ==== Sys2Proof/Machine/LoadStore.lean ====
section
/-! DEFINITION. Machine/LoadStore.lean: LD and ST (spec/04_instruction_reference.md R107, R108;
spec/03_programming_model.md R65 to R68). -/
namespace Sys2Proof.Machine

/-- R108, R135: the clocks of a load or store form. -/
def memClocks : MemForm → Nat
  | .acc _ => 3
  | _ => 1

/-- R108: the value loaded from the `size` bytes `v`, into the form's register. -/
def State.loadInto (s : State) (e : Nat) (f : MemForm) (v : Nat) : State :=
  match f with
  | .byte sg r => s.setW e r.val (if sg then wdi (sext 8 v) else wd (v % 2 ^ 8))
  | .half sg r => s.setW e r.val (if sg then wdi (sext 16 v) else wd (v % 2 ^ 16))
  | .word r => s.setW e r.val (wd v)
  | .acc k => s.updEng e (fun x => x.setA k.val (BitVec.ofNat 72 v))

/-- R108: the bytes a store writes; an accumulator image repeats bit 71 in bytes 9 to 15. -/
def Engine.storeImage (x : Engine) (f : MemForm) : List Byte :=
  match f with
  | .byte _ r => bytesLE (x.w r.val).toNat 1
  | .half _ r => bytesLE (x.w r.val).toNat 2
  | .word r => bytesLE (x.w r.val).toNat 4
  | .acc k =>
    let a := x.a k.val
    bytesLE a.toNat 9 ++ List.replicate 7 (if a.toNat.testBit 71 then 0xFF else 0x00)

/-- R107: the sign-extend bit is undefined for stores and for words and accumulators (which the form cannot
hold), and the displacement is a signed byte. -/
def memWf (store : Bool) (f : MemForm) (d : Int) : Bool :=
  decide (-128 ≤ d) && decide (d < 128) &&
    (match f with
      | .byte sg _ => !(store && sg)
      | .half sg _ => !(store && sg)
      | _ => true)

/-- R65, R66: whether an engine's access is refused, and its flags. -/
def State.accessRefused (s : State) (e b off size : Nat) : Bool × Bool :=
  (misaligned off size, s.owner b != s.ownerOf e)

/-- The bytes of the lead's own stores that a lockstep pair has not yet released lie over those of the bank (R92). -/
def State.pairNum (s : State) (e a n : Nat) : Nat :=
  if s.locked e then
    ofBytesLE (cellsGet ((s.now.held.filter (fun h => h.pair == e / 2)).foldl (fun m h => cellsPut m h.addr h.bytes) s.banks.cells) a n)
  else s.bankNum a n

/-- R92: a store of engine `e`: a lockstep pair releases it 2 clocks after it has retired. -/
def State.storeOf (s : State) (e a : Nat) (bs : List Byte) : State :=
  if s.locked e then
    s.updNow (fun x => { x with held := x.held ++ [{ pair := e / 2, rel := s.clk + 2, addr := a, bytes := bs }] })
  else s.storeBytes a bs

/-- LD: the load, the flags of R65 to R67, the post-modify of R107 before the loaded value is written. An accumulator load
meets the words that hold its nine bytes, not those of the seven it ignores (DESIGN CHOICE: R67 and R108 do not say;
notes/assumptions/58.md). -/
def State.doLoad (s : State) (e : Nat) (f : MemForm) (wa : Nat) (u : Bool) (d : Int) (upset : List Nat) : State :=
  let w := s.w e wa
  let (b, off) := effAddr w u d (memSize f)
  let (mis, own) := s.accessRefused e b off (memSize f)
  let s1 := if u then s.setW e wa (postModify w d (memSize f)) else s
  let s2 := (s1.esfIf e mis .align).esfIf e own .own
  if mis || own then s2.loadInto e f 0
  else
    let n := min (memSize f) 9
    let (s3, bad) := (s2.markUpset (bankAddr b off) n upset).noteParity (bankAddr b off) n
    ((s3.esfIf e bad .parity).touch b).loadInto e f (s.pairNum e (bankAddr b off) n)

/-- ST: the store, the flags of R65 and R66, the post-modify of R107 after the value is read. -/
def State.doStore (s : State) (e : Nat) (f : MemForm) (wa : Nat) (u : Bool) (d : Int) : State :=
  let w := s.w e wa
  let (b, off) := effAddr w u d (memSize f)
  let (mis, own) := s.accessRefused e b off (memSize f)
  let image := (s.eng e).storeImage f
  let s1 := if u then s.setW e wa (postModify w d (memSize f)) else s
  let s2 := (s1.esfIf e mis .align).esfIf e own .own
  if mis || own then s2 else (s2.touch b).storeOf e (bankAddr b off) image

/-- The stall of a load or store: only an access that is made wakes its bank. -/
def State.memStall (s : State) (e : Nat) (f : MemForm) (wa : Nat) (u : Bool) (d : Int) (stall : Nat) : Nat :=
  let (b, off) := effAddr (s.w e wa) u d (memSize f)
  let (mis, own) := s.accessRefused e b off (memSize f)
  if mis || own then 0 else s.stallOf b stall

/-- LD (R107): Engine loads a byte, half-word, word or accumulator image from an owned bank. -/
def execLd (x : Guard) (f : MemForm) (wa : RegNo) (u : Bool) (d : Int) (q : BankUse) (s : State) :
    Host.Outcome State Fault Refusal :=
  let n := memClocks f + s.memStall x.e.val f wa.val u d q.stall
  .next (s.issueAt x (memWf false f d) (memClocks f) 1 n (n - 1) false
    (fun s => (s.doLoad x.e.val f wa.val u d q.upset, .pass 1)))

/-- ST (R108): Engine stores a byte, half-word, word or accumulator image into an owned bank. -/
def execSt (x : Guard) (f : MemForm) (wa : RegNo) (u : Bool) (d : Int) (stall : Nat) (s : State) :
    Host.Outcome State Fault Refusal :=
  let n := memClocks f + s.memStall x.e.val f wa.val u d stall
  .next (s.issueAt x (memWf true f d) (memClocks f) 1 n (n - 1) false
    (fun s => (s.doStore x.e.val f wa.val u d, .pass 1)))

end Sys2Proof.Machine
end

