-- ==== Sys2Proof/Machine/Service.lean ====
section
/-! DEFINITION. Machine/Service.lean: the Eweuc service protocol (spec/20_startup_reset_update.md R556 to R560;
spec/19_event_recorder.md R531). The checks of a request run in this order: session, level, length, what the command
itself refuses. -/
namespace Sys2Proof.Machine

/-! ### Requests and replies (R556) -/

/-- The status of a reply. -/
inductive SvcStatus where
  | ok | level | lenErr | refused | busy | noSession
deriving DecidableEq, Repr

/-- R556: the code of a status. -/
def svcCode : SvcStatus → Nat
  | .ok => 0 | .level => 1 | .lenErr => 2 | .refused => 3 | .busy => 4 | .noSession => 5

/-- R556: the one reply to a request. -/
def State.reply (s : State) (session tag cmd : Nat) (st : SvcStatus) (data : List Byte := []) : State :=
  s.etherOut (.service session tag cmd (svcCode st) data)

/-- R557: a request on a session restarts its 60 s; on a closed session it gets NO_SESSION. `act` gets the session's level
and answers the state, the status and the data of the reply. -/
def State.onSession (s : State) (session tag cmd : Nat) (act : State → Nat → State × SvcStatus × List Byte) : State :=
  match mget s.boot.sessions session with
  | none => s.reply session tag cmd .noSession
  | some q =>
    let s := s.updBoot (fun b => { b with sessions := mput b.sessions session { q with el := s.tb.el } })
    let r := act s q.level
    r.1.reply session tag cmd r.2.1 r.2.2

/-- A command that needs a level: below it the status is LEVEL and nothing changes. -/
def needLevel (need : Nat) (act : State → State × SvcStatus) (s : State) (lv : Nat) : State × SvcStatus × List Byte :=
  if lv < need then (s, .level, [])
  else
    let r := act s
    (r.1, r.2, [])

/-! ### Tokens (R558) -/

/-- A field of a token, most significant byte first. -/
def tokField (tok : List Byte) (i n : Nat) : Nat := ofBytesLE ((tok.drop i).take n).reverse

/-- R558: the token is laid out as the table says: three levels, flag bits 7:2 and the reserved bytes 0. -/
def tokLaidOut (tok : List Byte) : Bool :=
  tok.length == 96 && decide (tokField tok 9 1 ≤ 2) && decide (tokField tok 10 1 < 4) && tokField tok 11 5 == 0

/-- R558: the security block accepts the token for a requested level; `flag` is the flag bit a command needs. -/
def State.tokenOk (s : State) (tok : List Byte) (want : Nat) (flag : Option Nat) : Bool :=
  let sec := s.tb.t / 1000000000
  tokLaidOut tok
    && s.keyVerifies (sha256 (tok.take 32)) (tok.drop 32)
    && (tokField tok 8 1 == 0 || tokField tok 8 1 == s.regF Reg.SYS_ADDR 7 0)
    && decide (want ≤ tokField tok 9 1)
    && (match flag with
      | some i => (tokField tok 10 1).testBit i
      | none => true)
    && (s.regF Reg.TMB_STAT 31 30 == 0 || (decide (tokField tok 16 8 ≤ sec) && decide (sec ≤ tokField tok 24 8)))

/-! ### Sessions (R557) -/

/-- The number a new session gets. -/
def State.freshSession (s : State) : Nat :=
  let n := (s.boot.nextSession - 1) % 65535 + 1
  if (mget s.boot.sessions n).isSome then n % 65535 + 1 else n

/-- OPEN (R557): the reply carries the session in its data. -/
def execOpenSession (tag : Fin 65536) (s : State) : Host.Outcome State Fault Refusal :=
  .next (
    if 2 ≤ s.boot.sessions.length then s.reply 0 tag.val 1 .busy
    else
      let n := s.freshSession
      (s.updBoot (fun b => { b with sessions := mput b.sessions n { level := 0, el := s.tb.el }, nextSession := n + 1 })).reply
        0 tag.val 1 .ok (beBytes n 2))

/-- Another session is open at commissioner level. -/
def State.otherCommissioner (s : State) (session : Nat) : Bool :=
  s.boot.sessions.any (fun q => q.1 != session && q.2.level == 2)

/-- R557: the session rises to the level of the token. -/
def State.raise (s : State) (session : Nat) (tok : List Byte) : State × SvcStatus :=
  let lv := tokField tok 9 1
  if tok.length ≠ 96 then (s, .lenErr)
  else if !(s.tokenOk tok lv none) then (s.record .svcRefused 0 [tokField tok 0 8], .refused)
  else if lv == 2 && s.otherCommissioner session then (s, .busy)
  else
    ((s.updBoot (fun b => { b with
      sessions := mput b.sessions session { level := max lv (mgetD b.sessions session {}).level, el := s.tb.el } })).record
        .svcLevel 0 [tokField tok 0 8], .ok)

/-- LEVEL (R557, R558). -/
def execLevel (session tag : Fin 65536) (token : List Byte) (s : State) : Host.Outcome State Fault Refusal :=
  .next (s.onSession session.val tag.val 2 (needLevel 0 (fun s => s.raise session.val token)))

/-- CLOSE (R557). -/
def execClose (session tag : Fin 65536) (s : State) : Host.Outcome State Fault Refusal :=
  .next (s.onSession session.val tag.val 3 (needLevel 0 (fun s =>
    (s.updBoot (fun b => { b with sessions := mdel b.sessions session.val }), .ok))))

/-- SESSION_TIMEOUT (R557): 60 s after the session's last request. -/
def execSessionTimeout (session : Fin 65536) (s : State) : Host.Outcome State Fault Refusal :=
  .next (
    match mget s.boot.sessions session.val with
    | some q =>
      if q.el + 60000000000 ≤ s.tb.el then s.updBoot (fun b => { b with sessions := mdel b.sessions session.val }) else s
    | none => s)

/-! ### Port access -/

/-- The service protocol as a party; only staged writes look at the output group it names. -/
def svcReader : Party := .svc 0

/-- R556: ports read in order; an undecoded one reads 0. -/
def State.svcRead (s : State) : List Nat → State × List Byte
  | [] => (s, [])
  | a :: t =>
    let r := if s.decoded a then s.readPort svcReader a else (0, s)
    let q := r.2.svcRead t
    (q.1, beBytes r.1.toNat 4 ++ q.2)

/-- PGET (R556): 1 to 64 addresses. -/
def execPget (session tag : Fin 65536) (addrs : List (Fin 65536)) (s : State) : Host.Outcome State Fault Refusal :=
  .next (s.onSession session.val tag.val 4 (fun s _ =>
    if addrs.length = 0 ∨ 64 < addrs.length then (s, .lenErr, [])
    else
      let r := s.svcRead (addrs.map Fin.val)
      (r.1, .ok, r.2)))

/-- R556: the level a write needs: commissioner for staged SAF registers, MBK_OWN and SYS_BOOT. -/
def putLevel (a : Nat) : Nat :=
  if (decide (0x5800 ≤ a) && decide (a < 0x5C00) && isStaged a) || a == Reg.MBK_OWN || a == Reg.SYS_BOOT then 2 else 1

/-- PPUT (R556, R33): 1 to 64 writes, in order; in this FAB clock no access of an engine acts after them (R40). -/
def execPput (session tag : Fin 65536) (g : GroupNo) (pairs : List (Fin 65536 × Word)) (s : State) :
    Host.Outcome State Fault Refusal :=
  .next (s.onSession session.val tag.val 5 (fun s lv =>
    if lv < pairs.foldl (fun m q => max m (putLevel q.1.val)) 1 then (s, .level, [])
    else if pairs.length = 0 ∨ 64 < pairs.length then (s, .lenErr, [])
    else (pairs.foldl (fun s q => s.writePort (.svc g) q.1.val q.2) (s.acting (s.partyRank (.svc g))), .ok, [])))

/-! ### Images (R559) -/

/-- IMGW (R559): bytes of a slot that is not the running one; the slot's VALID bit clears. -/
def execImgw (session tag : Fin 65536) (slot : Fin 256) (off : Nat) (data : List Byte) (s : State) :
    Host.Outcome State Fault Refusal :=
  .next (s.onSession session.val tag.val 6 (needLevel 2 (fun s =>
    let k := slot.val
    if 2 ≤ k ∨ data.length = 0 ∨ 1016 < data.length ∨ 67108864 < off + data.length then (s, .lenErr)
    else if s.regF Reg.SYS_BOOT 3 2 = k then (s, .refused)
    else
      ((s.updBoot (fun b => { b with flash := cellsPut b.flash (slotAddr k off) data })).clrBitR Reg.SYS_BOOT (4 + k), .ok))))

/-- IMGCHK (R559): steps 1 to 3 of R539. -/
def execImgchk (session tag : Fin 65536) (slot : Fin 256) (s : State) : Host.Outcome State Fault Refusal :=
  .next (s.onSession session.val tag.val 7 (needLevel 2 (fun s =>
    let k := slot.val
    if 2 ≤ k then (s, .lenErr)
    else
      match s.imageSteps k with
      | some r => ((s.clrBitR Reg.SYS_BOOT (4 + k)).record r 0 [k], .refused)
      | none =>
        ((s.setBitR Reg.SYS_BOOT (4 + k)).record .imageLoaded 0
          [k, s.imageWord k 5, s.imageWord k 3, s.imageWord k 6], .ok))))

/-! ### Reset, clear, keys -/

/-- RESET (R551, R553, R554): an orderly reset has cause UPDATE while SEL differs from RUN. -/
def execReset (session tag : Fin 65536) (immediate : Bool) (s : State) : Host.Outcome State Fault Refusal :=
  .next (s.onSession session.val tag.val 8 (needLevel (if immediate then 2 else 1) (fun s =>
    if immediate then (s.immediateReset 5, .ok)
    else (s.orderlyReset (if s.regF Reg.SYS_BOOT 1 0 = s.regF Reg.SYS_BOOT 3 2 then 5 else 6), .ok))))

/-- R531: the permanent area begins anew with EVR_CLEAR, and every freeze slot is EMPTY. -/
def State.clearRecorder (s : State) (token client : Nat) : State :=
  let q := s.evr.nextSeq
  let s := s.record .evrClear 0 [s.evr.clear, token, client]
  (s.updEvr (fun e => { e with perm := [], clear := q })).frelWrite 0xF

/-- CLEAR (R531, R558): refused by level or by the security block, it writes EVR_CLEAR_REFUSED. -/
def execClear (session tag : Fin 65536) (client : Fin 256) (token : List Byte) (s : State) : Host.Outcome State Fault Refusal :=
  .next (s.onSession session.val tag.val 9 (fun s lv =>
    let id := tokField token 0 8
    if lv < 2 then (s.record .evrClearRefused 0 [id, 2], .level, [])
    else if token.length ≠ 96 then (s, .lenErr, [])
    else if s.tokenOk token 2 (some 0) then (s.clearRecorder id client.val, .ok, [])
    else (s.record .evrClearRefused 0 [id, 1], .refused, [])))

/-- KEY (R558, SEC_KEY): a public key enters a key slot. -/
def execKey (session tag : Fin 65536) (slot : Fin 256) (pub token : List Byte) (s : State) : Host.Outcome State Fault Refusal :=
  .next (s.onSession session.val tag.val 10 (needLevel 2 (fun s =>
    let k := slot.val
    if token.length ≠ 96 ∨ 4 ≤ k then (s, .lenErr)
    else if !(s.tokenOk token 2 (some 1)) then (s.record .svcRefused 0 [tokField token 0 8], .refused)
    else
      let fpr := ofBytesLE (((sha256 pub).drop 30).reverse)
      ((s.updBoot (fun b => { b with keys := mput b.keys k pub })).setReg (Reg.SEC_KEY k) (wd (2 ^ 31 + fpr)), .ok))))

/-! ### Images of a pair -/

/-- IMAGE_DIFF (R560): the peer's image hash has differed for 1 s. -/
def execImageDiff (s : State) : Host.Outcome State Fault Refusal :=
  .next (
    match s.boot.imgEl with
    | some t =>
      if !s.boot.imgNoted && !s.solo && decide (t + 1000000000 ≤ s.tb.el) then
        ((s.updBoot (fun b => { b with imgNoted := true })).setBitR Reg.SYS_STK 8).record .pairImageDiff 0
          [(s.reg Reg.BTL_IMGH).toNat, (s.reg Reg.BTL_PIMGH).toNat]
      else s
    | none => s)

end Sys2Proof.Machine
end

