-- ==== Sys2Proof/Machine/Dispatch.lean ====
section
/-! DEFINITION. Machine/Dispatch.lean: one arm per command, each one call of its meaning. -/
namespace Sys2Proof.Machine

def exec (i : Instr) (s : State) : Host.Outcome State Fault Refusal :=
  match i with
  | .add x wd wa wb w => Sys2Proof.Machine.execAdd x wd wa wb w s
  | .sub x wd wa wb w => Sys2Proof.Machine.execSub x wd wa wb w s
  | .neg x wd wa w => Sys2Proof.Machine.execNeg x wd wa w s
  | .abs x wd wa w => Sys2Proof.Machine.execAbs x wd wa w s
  | .asl x wd wa n w => Sys2Proof.Machine.execAsl x wd wa n w s
  | .asr x wd wa n => Sys2Proof.Machine.execAsr x wd wa n s
  | .lsl x wd wa n => Sys2Proof.Machine.execLsl x wd wa n s
  | .lsr x wd wa n => Sys2Proof.Machine.execLsr x wd wa n s
  | .and x wd wa wb => Sys2Proof.Machine.execAnd x wd wa wb s
  | .or x wd wa wb => Sys2Proof.Machine.execOr x wd wa wb s
  | .xor x wd wa wb => Sys2Proof.Machine.execXor x wd wa wb s
  | .not x wd wa => Sys2Proof.Machine.execNot x wd wa s
  | .min x wd wa wb => Sys2Proof.Machine.execMin x wd wa wb s
  | .max x wd wa wb => Sys2Proof.Machine.execMax x wd wa wb s
  | .cls x wd wa => Sys2Proof.Machine.execCls x wd wa s
  | .addi x wd wa k w => Sys2Proof.Machine.execAddi x wd wa k w s
  | .andi x wd wa k => Sys2Proof.Machine.execAndi x wd wa k s
  | .ori x wd wa k => Sys2Proof.Machine.execOri x wd wa k s
  | .xori x wd wa k => Sys2Proof.Machine.execXori x wd wa k s
  | .movs x wd k => Sys2Proof.Machine.execMovs x wd k s
  | .movhi x wd k => Sys2Proof.Machine.execMovhi x wd k s
  | .mul x wd wa wb sh w => Sys2Proof.Machine.execMul x wd wa wb sh w s
  | .mac x an wa wb w => Sys2Proof.Machine.execMac x an wa wb w s
  | .msu x an wa wb w => Sys2Proof.Machine.execMsu x an wa wb w s
  | .adda x an am w => Sys2Proof.Machine.execAdda x an am w s
  | .suba x an am w => Sys2Proof.Machine.execSuba x an am w s
  | .aclr x an => Sys2Proof.Machine.execAclr x an s
  | .mova x wd an sh w => Sys2Proof.Machine.execMova x wd an sh w s
  | .aload x an wa sh => Sys2Proof.Machine.execAload x an wa sh s
  | .sincos x wd we wa => Sys2Proof.Machine.execSincos x wd we wa s
  | .atan2 x wd wy wx => Sys2Proof.Machine.execAtan2 x wd wy wx s
  | .sqrt x wd wa sh => Sys2Proof.Machine.execSqrt x wd wa sh s
  | .rsqrt x wd wa sh => Sys2Proof.Machine.execRsqrt x wd wa sh s
  | .ld x f wa u d q => Sys2Proof.Machine.execLd x f wa u d q s
  | .st x f wa u d stall => Sys2Proof.Machine.execSt x f wa u d stall s
  | .get x wd wa k => Sys2Proof.Machine.execGet x wd wa k s
  | .put x ws wa k => Sys2Proof.Machine.execPut x ws wa k s
  | .getl x wd wa k => Sys2Proof.Machine.execGetl x wd wa k s
  | .putl x ws wa k => Sys2Proof.Machine.execPutl x ws wa k s
  | .cmp x pd wa wb cc => Sys2Proof.Machine.execCmp x pd wa wb cc s
  | .cmpi x pd wa cc k => Sys2Proof.Machine.execCmpi x pd wa cc k s
  | .plog x pd pa pb op => Sys2Proof.Machine.execPlog x pd pa pb op s
  | .br x d => Sys2Proof.Machine.execBr x d s
  | .call x d => Sys2Proof.Machine.execCall x d s
  | .ret x => Sys2Proof.Machine.execRet x s
  | .brt x wa n => Sys2Proof.Machine.execBrt x wa n s
  | .loop x c len => Sys2Proof.Machine.execLoop x c len s
  | .loopr x wa len => Sys2Proof.Machine.execLoopr x wa len s
  | .waitAx x pd n wa timeout => Sys2Proof.Machine.execWaitAx x pd n wa timeout s
  | .join x wd pd c1 c2 timeout => Sys2Proof.Machine.execJoin x wd pd c1 c2 timeout s
  | .waitConditionMet e k => Sys2Proof.Machine.execWaitConditionMet e k s
  | .waitTimeout e => Sys2Proof.Machine.execWaitTimeout e s
  | .fstop x => Sys2Proof.Machine.execFstop x s
  | .own x b o => Sys2Proof.Machine.execOwn x b o s
  | .submitSol x wd pd wa => Sys2Proof.Machine.execSubmitSol x wd pd wa s
  | .waitT x wd pd wa timeout => Sys2Proof.Machine.execWaitT x wd pd wa timeout s
  | .optRun x wd pd wa => Sys2Proof.Machine.execOptRun x wd pd wa s
  | .lpeSwap x pd wa n g => Sys2Proof.Machine.execLpeSwap x pd wa n g s
  | .mirPut x pd wa m q => Sys2Proof.Machine.execMirPut x pd wa m q s
  | .telSend x pd wa wb len q => Sys2Proof.Machine.execTelSend x pd wa wb len q s
  | .txq x pd wa wb q => Sys2Proof.Machine.execTxq x pd wa wb q s
  | .log x pd wa p c q => Sys2Proof.Machine.execLog x pd wa p c q s
  | .safOff x wa => Sys2Proof.Machine.execSafOff x wa s
  | .safOn x wa => Sys2Proof.Machine.execSafOn x wa s
  | .safRst x wa => Sys2Proof.Machine.execSafRst x wa s
  | .safGetin x wd => Sys2Proof.Machine.execSafGetin x wd s
  | .illegalFetch e w0 w1 => Sys2Proof.Machine.execIllegalFetch e w0 w1 s
  | .clauseBudget e => Sys2Proof.Machine.execClauseBudget e s
  | .imemFault e corrected => Sys2Proof.Machine.execImemFault e corrected s
  | .imemScrub e a => Sys2Proof.Machine.execImemScrub e a s
  | .lockstepDiverge p => Sys2Proof.Machine.execLockstepDiverge p s
  | .lockstepSelftestEnd p pass => Sys2Proof.Machine.execLockstepSelftestEnd p pass s
  | .portTimeout x read w addr long => Sys2Proof.Machine.execPortTimeout x read w addr long s
  | .registerWrite p addr v => Sys2Proof.Machine.execRegisterWrite p addr v s
  | .discard p v => Sys2Proof.Machine.execDiscard p v s
  | .cleCmaxclr p v => Sys2Proof.Machine.execCleCmaxclr p v s
  | .periodicTrigger c => Sys2Proof.Machine.execPeriodicTrigger c s
  | .compareFire k => Sys2Proof.Machine.execCompareFire k s
  | .conjunctionReady c => Sys2Proof.Machine.execConjunctionReady c s
  | .dispatch e delay => Sys2Proof.Machine.execDispatch e delay s
  | .fullStop g => Sys2Proof.Machine.execFullStop g s
  | .forcedFullStop g => Sys2Proof.Machine.execForcedFullStop g s
  | .skippedFullStop g => Sys2Proof.Machine.execSkippedFullStop g s
  | .axisTick => Sys2Proof.Machine.execAxisTick s
  | .axisLoss n => Sys2Proof.Machine.execAxisLoss n s
  | .axisRestore n => Sys2Proof.Machine.execAxisRestore n s
  | .schPlctlWrite p v => Sys2Proof.Machine.execSchPlctlWrite p v s
  | .clockLoss d => Sys2Proof.Machine.execClockLoss d s
  | .avsEvaluation island margin => Sys2Proof.Machine.execAvsEvaluation island margin s
  | .pwrOffWrite p v => Sys2Proof.Machine.execPwrOffWrite p v s
  | .blockPowerReady b => Sys2Proof.Machine.execBlockPowerReady b s
  | .pwrMarginWrite p v => Sys2Proof.Machine.execPwrMarginWrite p v s
  | .routeDelivery n => Sys2Proof.Machine.execRouteDelivery n s
  | .mbkOwnWrite p v => Sys2Proof.Machine.execMbkOwnWrite p v s
  | .bankRetentionEntry b => Sys2Proof.Machine.execBankRetentionEntry b s
  | .bankWake b => Sys2Proof.Machine.execBankWake b s
  | .dramScrub ce ue => Sys2Proof.Machine.execDramScrub ce ue s
  | .dmaStart p ch v => Sys2Proof.Machine.execDmaStart p ch v s
  | .dmaTransferComplete ch upset ce ue => Sys2Proof.Machine.execDmaTransferComplete ch upset ce ue s
  | .batchValidationEnd b => Sys2Proof.Machine.execBatchValidationEnd b s
  | .operationIssue => Sys2Proof.Machine.execOperationIssue s
  | .operationCommit batch entry upset => Sys2Proof.Machine.execOperationCommit batch entry upset s
  | .solverDeadline b => Sys2Proof.Machine.execSolverDeadline b s
  | .deadlineGraceExpiry b => Sys2Proof.Machine.execDeadlineGraceExpiry b s
  | .tileFault t ops => Sys2Proof.Machine.execTileFault t ops s
  | .tileSelftestEnd t pass => Sys2Proof.Machine.execTileSelftestEnd t pass s
  | .solTrel p v => Sys2Proof.Machine.execSolTrel p v s
  | .optValidationEnd => Sys2Proof.Machine.execOptValidationEnd s
  | .optIterationEnd => Sys2Proof.Machine.execOptIterationEnd s
  | .optRunComplete => Sys2Proof.Machine.execOptRunComplete s
  | .optFblimWrite p v => Sys2Proof.Machine.execOptFblimWrite p v s
  | .loopSample n => Sys2Proof.Machine.execLoopSample n s
  | .loopEvaluation lane => Sys2Proof.Machine.execLoopEvaluation lane s
  | .loopOutputInstant n => Sys2Proof.Machine.execLoopOutputInstant n s
  | .loopEscalationCheck n => Sys2Proof.Machine.execLoopEscalationCheck n s
  | .lpeArm p v => Sys2Proof.Machine.execLpeArm p v s
  | .lpeSwapWrite p v => Sys2Proof.Machine.execLpeSwapWrite p v s
  | .lpePageWrite p n page w v => Sys2Proof.Machine.execLpePageWrite p n page w v s
  | .laneFault lane => Sys2Proof.Machine.execLaneFault lane s
  | .frameInstant => Sys2Proof.Machine.execFrameInstant s
  | .fusUpd p v => Sys2Proof.Machine.execFusUpd p v s
  | .fusPost p v => Sys2Proof.Machine.execFusPost p v s
  | .fusionPropagationComplete => Sys2Proof.Machine.execFusionPropagationComplete s
  | .fusionUpdateComplete => Sys2Proof.Machine.execFusionUpdateComplete s
  | .imuSample valid inc => Sys2Proof.Machine.execImuSample valid inc s
  | .imuFault => Sys2Proof.Machine.execImuFault s
  | .imuRestore => Sys2Proof.Machine.execImuRestore s
  | .posUncertain => Sys2Proof.Machine.execPosUncertain s
  | .waveValid => Sys2Proof.Machine.execWaveValid s
  | .antEnableWrite p a v => Sys2Proof.Machine.execAntEnableWrite p a v s
  | .antOpen a ma => Sys2Proof.Machine.execAntOpen a ma s
  | .antOk a ma => Sys2Proof.Machine.execAntOk a ma s
  | .antShort a ma => Sys2Proof.Machine.execAntShort a ma s
  | .antRetry a ma => Sys2Proof.Machine.execAntRetry a ma s
  | .acqStart p v => Sys2Proof.Machine.execAcqStart p v s
  | .acqAbort p v => Sys2Proof.Machine.execAcqAbort p v s
  | .searchEntryStart => Sys2Proof.Machine.execSearchEntryStart s
  | .searchEntryEnd cells => Sys2Proof.Machine.execSearchEntryEnd cells s
  | .gnbChcfgWrite p ch v => Sys2Proof.Machine.execGnbChcfgWrite p ch v s
  | .gnbChloopWrite p ch v => Sys2Proof.Machine.execGnbChloopWrite p ch v s
  | .channelIntegration ch m cn0 pi pq slip sym => Sys2Proof.Machine.execChannelIntegration ch m cn0 pi pq slip sym s
  | .channelTrack ch => Sys2Proof.Machine.execChannelTrack ch s
  | .channelPullinTimeout ch => Sys2Proof.Machine.execChannelPullinTimeout ch s
  | .channelCode ch => Sys2Proof.Machine.execChannelCode ch s
  | .channelLost ch => Sys2Proof.Machine.execChannelLost ch s
  | .epochStrobe meas => Sys2Proof.Machine.execEpochStrobe meas s
  | .epochBlockDelivery => Sys2Proof.Machine.execEpochBlockDelivery s
  | .navSymbolEntry ch => Sys2Proof.Machine.execNavSymbolEntry ch s
  | .interferenceMeasurement a b peak freq agc => Sys2Proof.Machine.execInterferenceMeasurement a b peak freq agc s
  | .agcLimit a b => Sys2Proof.Machine.execAgcLimit a b s
  | .gnbAcqctlWrite p v => Sys2Proof.Machine.execGnbAcqctlWrite p v s
  | .gnbCn0minWrite p v => Sys2Proof.Machine.execGnbCn0minWrite p v s
  | .tmbNsRead p => Sys2Proof.Machine.execTmbNsRead p s
  | .servoOffset src o => Sys2Proof.Machine.execServoOffset src o s
  | .timeStep => Sys2Proof.Machine.execTimeStep s
  | .sourceLost src => Sys2Proof.Machine.execSourceLost src s
  | .sourceReturn src => Sys2Proof.Machine.execSourceReturn src s
  | .ocxoWarm => Sys2Proof.Machine.execOcxoWarm s
  | .ppsInEdge => Sys2Proof.Machine.execPpsInEdge s
  | .tmbGpost p v => Sys2Proof.Machine.execTmbGpost p v s
  | .ptpMessage port dom m => Sys2Proof.Machine.execPtpMessage port dom m s
  | .ppsOutEdge => Sys2Proof.Machine.execPpsOutEdge s
  | .ppsPulseEnd => Sys2Proof.Machine.execPpsPulseEnd s
  | .captureEdge k rising => Sys2Proof.Machine.execCaptureEdge k rising s
  | .triggerFire k => Sys2Proof.Machine.execTriggerFire k s
  | .ptpMessageInterval port t => Sys2Proof.Machine.execPtpMessageInterval port t s
  | .ethFrameReceived port f age => Sys2Proof.Machine.execEthFrameReceived port f age s
  | .twinTelegramCopy c age => Sys2Proof.Machine.execTwinTelegramCopy c age s
  | .telegramWindowClose slot seq => Sys2Proof.Machine.execTelegramWindowClose slot seq s
  | .ethLinkDown port unsent => Sys2Proof.Machine.execEthLinkDown port unsent s
  | .ethLinkUp port speed => Sys2Proof.Machine.execEthLinkUp port speed s
  | .safetyFault mv => Sys2Proof.Machine.execSafetyFault mv s
  | .safetySelftest pass => Sys2Proof.Machine.execSafetySelftest pass s
  | .contactChange n level => Sys2Proof.Machine.execContactChange n level s
  | .discrepancyTimeout k => Sys2Proof.Machine.execDiscrepancyTimeout k s
  | .contactFault n => Sys2Proof.Machine.execContactFault n s
  | .contactFaultClear n => Sys2Proof.Machine.execContactFaultClear n s
  | .testWindowOpen k => Sys2Proof.Machine.execTestWindowOpen k s
  | .testWindowEnd k readOff => Sys2Proof.Machine.execTestWindowEnd k readOff s
  | .readbackFail k on => Sys2Proof.Machine.execReadbackFail k on s
  | .degradedTimeExpiry f => Sys2Proof.Machine.execDegradedTimeExpiry f s
  | .safFack p v => Sys2Proof.Machine.execSafFack p v s
  | .clauseWatchdog f => Sys2Proof.Machine.execClauseWatchdog f s
  | .telegramWatchdog slot => Sys2Proof.Machine.execTelegramWatchdog slot s
  | .isoFrame g up w lat => Sys2Proof.Machine.execIsoFrame g up w lat s
  | .isoLinkLoss g => Sys2Proof.Machine.execIsoLinkLoss g s
  | .isoLinkRestore g => Sys2Proof.Machine.execIsoLinkRestore g s
  | .fieldHold g => Sys2Proof.Machine.execFieldHold g s
  | .fieldSafe g => Sys2Proof.Machine.execFieldSafe g s
  | .outputApply g k => Sys2Proof.Machine.execOutputApply g k s
  | .wireBreak n vin vfs => Sys2Proof.Machine.execWireBreak n vin vfs s
  | .shortCircuit n vin vfs => Sys2Proof.Machine.execShortCircuit n vin vfs s
  | .inputFaultClear n vin vfs => Sys2Proof.Machine.execInputFaultClear n vin vfs s
  | .outputOverload k => Sys2Proof.Machine.execOutputOverload k s
  | .overloadRetry k => Sys2Proof.Machine.execOverloadRetry k s
  | .dioOrst p v => Sys2Proof.Machine.execDioOrst p v s
  | .outputOvertemp k tj => Sys2Proof.Machine.execOutputOvertemp k tj s
  | .outputOpenWire k mv => Sys2Proof.Machine.execOutputOpenWire k mv s
  | .fieldSupplyLow b mv => Sys2Proof.Machine.execFieldSupplyLow b mv s
  | .fieldRailLow mv => Sys2Proof.Machine.execFieldRailLow mv s
  | .loopOpen c => Sys2Proof.Machine.execLoopOpen c s
  | .loopCompliance c => Sys2Proof.Machine.execLoopCompliance c s
  | .loopOk c => Sys2Proof.Machine.execLoopOk c s
  | .chainOutput c bits age => Sys2Proof.Machine.execChainOutput c bits age s
  | .mainsPhaseValid => Sys2Proof.Machine.execMainsPhaseValid s
  | .chainStuck c => Sys2Proof.Machine.execChainStuck c s
  | .chainClkloss c => Sys2Proof.Machine.execChainClkloss c s
  | .chainFaultEnd c cause => Sys2Proof.Machine.execChainFaultEnd c cause s
  | .encoderSample e => Sys2Proof.Machine.execEncoderSample e s
  | .quadratureEdge e a b => Sys2Proof.Machine.execQuadratureEdge e a b s
  | .zEdge e => Sys2Proof.Machine.execZEdge e s
  | .encoderLineFault e => Sys2Proof.Machine.execEncoderLineFault e s
  | .encoderFaultEnd e => Sys2Proof.Machine.execEncoderFaultEnd e s
  | .ssiReadEnd e raw par low => Sys2Proof.Machine.execSsiReadEnd e raw par low s
  | .encHome p e v => Sys2Proof.Machine.execEncHome p e v s
  | .serialCharacter k ch par stop age => Sys2Proof.Machine.execSerialCharacter k ch par stop age s
  | .serialMessageEnd k => Sys2Proof.Machine.execSerialMessageEnd k s
  | .serialBreak k age => Sys2Proof.Machine.execSerialBreak k age s
  | .serialTxStart k => Sys2Proof.Machine.execSerialTxStart k s
  | .serialTxSent k => Sys2Proof.Machine.execSerialTxSent k s
  | .canEntryEligible n => Sys2Proof.Machine.execCanEntryEligible n s
  | .canArbitration n => Sys2Proof.Machine.execCanArbitration n s
  | .canTxComplete n delay => Sys2Proof.Machine.execCanTxComplete n delay s
  | .canTxError n f => Sys2Proof.Machine.execCanTxError n f s
  | .canBusoff n => Sys2Proof.Machine.execCanBusoff n s
  | .cfdRecov p n v => Sys2Proof.Machine.execCfdRecov p n v s
  | .canBusoffRecovered n => Sys2Proof.Machine.execCanBusoffRecovered n s
  | .canModeSwitch n => Sys2Proof.Machine.execCanModeSwitch n s
  | .cfdCancel p n v => Sys2Proof.Machine.execCfdCancel p n v s
  | .canRecordWrite n => Sys2Proof.Machine.execCanRecordWrite n s
  | .cfdTxcack p n v => Sys2Proof.Machine.execCfdTxcack p n v s
  | .canFrameReceived n image age => Sys2Proof.Machine.execCanFrameReceived n image age s
  | .cfdRxack p n v => Sys2Proof.Machine.execCfdRxack p n v s
  | .cfdHpack p n v => Sys2Proof.Machine.execCfdHpack p n v s
  | .canReceiveError n by8 => Sys2Proof.Machine.execCanReceiveError n by8 s
  | .heartbeatSend => Sys2Proof.Machine.execHeartbeatSend s
  | .heartbeatFrame lane frame => Sys2Proof.Machine.execHeartbeatFrame lane frame s
  | .hbInEdge => Sys2Proof.Machine.execHbInEdge s
  | .alivePulseLoss => Sys2Proof.Machine.execAlivePulseLoss s
  | .peerFail => Sys2Proof.Machine.execPeerFail s
  | .peerAlive => Sys2Proof.Machine.execPeerAlive s
  | .pathLoss path => Sys2Proof.Machine.execPathLoss path s
  | .pathRestore path => Sys2Proof.Machine.execPathRestore path s
  | .laneTrained lane eq => Sys2Proof.Machine.execLaneTrained lane eq s
  | .laneDown lane => Sys2Proof.Machine.execLaneDown lane s
  | .eqLimit lane eq => Sys2Proof.Machine.execEqLimit lane eq s
  | .authInInactive => Sys2Proof.Machine.execAuthInInactive s
  | .authInActive => Sys2Proof.Machine.execAuthInActive s
  | .authorityRequest => Sys2Proof.Machine.execAuthorityRequest s
  | .arbitrationWindowEnd => Sys2Proof.Machine.execArbitrationWindowEnd s
  | .dualAuthority => Sys2Proof.Machine.execDualAuthority s
  | .pairBeaconSend => Sys2Proof.Machine.execPairBeaconSend s
  | .pairBeacon c => Sys2Proof.Machine.execPairBeacon c s
  | .epochHeaderFrame lane frame => Sys2Proof.Machine.execEpochHeaderFrame lane frame s
  | .epochBodyFrame lane frame => Sys2Proof.Machine.execEpochBodyFrame lane frame s
  | .epochCommitFrame lane frame => Sys2Proof.Machine.execEpochCommitFrame lane frame s
  | .epochCopyTimeout lane => Sys2Proof.Machine.execEpochCopyTimeout lane s
  | .epochApply => Sys2Proof.Machine.execEpochApply s
  | .epochTransmitEnd => Sys2Proof.Machine.execEpochTransmitEnd s
  | .hoPrep lane frame => Sys2Proof.Machine.execHoPrep lane frame s
  | .hoAck lane frame => Sys2Proof.Machine.execHoAck lane frame s
  | .revertReq lane frame => Sys2Proof.Machine.execRevertReq lane frame s
  | .txprep lane frame => Sys2Proof.Machine.execTxprep lane frame s
  | .txdec lane frame => Sys2Proof.Machine.execTxdec lane frame s
  | .btlHoreq p v => Sys2Proof.Machine.execBtlHoreq p v s
  | .handoverFail => Sys2Proof.Machine.execHandoverFail s
  | .revertHoldoffElapsed => Sys2Proof.Machine.execRevertHoldoffElapsed s
  | .btlTxn p v => Sys2Proof.Machine.execBtlTxn p v s
  | .txnDecisionTimeout g => Sys2Proof.Machine.execTxnDecisionTimeout g s
  | .freezeSnapshot k => Sys2Proof.Machine.execFreezeSnapshot k s
  | .recordStoreWrite => Sys2Proof.Machine.execRecordStoreWrite s
  | .storeWriteFault n block => Sys2Proof.Machine.execStoreWriteFault n block s
  | .evrScrub area first n => Sys2Proof.Machine.execEvrScrub area first n s
  | .optimeSave => Sys2Proof.Machine.execOptimeSave s
  | .evrCur p v => Sys2Proof.Machine.execEvrCur p v s
  | .windowCopyEnd p bad => Sys2Proof.Machine.execWindowCopyEnd p bad s
  | .evrFrel p v => Sys2Proof.Machine.execEvrFrel p v s
  | .evrDsel p v => Sys2Proof.Machine.execEvrDsel p v s
  | .feedPresent railOff => Sys2Proof.Machine.execFeedPresent railOff s
  | .selfTestEnd pass => Sys2Proof.Machine.execSelfTestEnd pass s
  | .imageCheckEnd place0 place1 => Sys2Proof.Machine.execImageCheckEnd place0 place1 s
  | .addressTake inPresent outPresent => Sys2Proof.Machine.execAddressTake inPresent outPresent s
  | .pairNegotiation => Sys2Proof.Machine.execPairNegotiation s
  | .programLoad code values owners => Sys2Proof.Machine.execProgramLoad code values owners s
  | .powerFail => Sys2Proof.Machine.execPowerFail s
  | .chainFrameSend => Sys2Proof.Machine.execChainFrameSend s
  | .chainFrame f => Sys2Proof.Machine.execChainFrame f s
  | .chainBreak => Sys2Proof.Machine.execChainBreak s
  | .addrChange => Sys2Proof.Machine.execAddrChange s
  | .addrDuplicateEnd => Sys2Proof.Machine.execAddrDuplicateEnd s
  | .strapChange sel solo => Sys2Proof.Machine.execStrapChange sel solo s
  | .unitReset => Sys2Proof.Machine.execUnitReset s
  | .sysRstOrderly p go code => Sys2Proof.Machine.execSysRstOrderly p go code s
  | .sysRstImmediate p go code => Sys2Proof.Machine.execSysRstImmediate p go code s
  | .buttonRelease us => Sys2Proof.Machine.execButtonRelease us s
  | .buttonStuck => Sys2Proof.Machine.execButtonStuck s
  | .buttonUnstuck => Sys2Proof.Machine.execButtonUnstuck s
  | .clockDomainReturn d => Sys2Proof.Machine.execClockDomainReturn d s
  | .feedLow feed cv => Sys2Proof.Machine.execFeedLow feed cv s
  | .feedOk feed cv => Sys2Proof.Machine.execFeedOk feed cv s
  | .tempHigh die pkg => Sys2Proof.Machine.execTempHigh die pkg s
  | .tempHighEnd die pkg => Sys2Proof.Machine.execTempHighEnd die pkg s
  | .tempCritical die pkg => Sys2Proof.Machine.execTempCritical die pkg s
  | .tboard board => Sys2Proof.Machine.execTboard board s
  | .envRange k => Sys2Proof.Machine.execEnvRange k s
  | .envRangeEnd => Sys2Proof.Machine.execEnvRangeEnd s
  | .openSession tag => Sys2Proof.Machine.execOpenSession tag s
  | .level session tag token => Sys2Proof.Machine.execLevel session tag token s
  | .close session tag => Sys2Proof.Machine.execClose session tag s
  | .pget session tag addrs => Sys2Proof.Machine.execPget session tag addrs s
  | .pput session tag g pairs => Sys2Proof.Machine.execPput session tag g pairs s
  | .imgw session tag slot off data => Sys2Proof.Machine.execImgw session tag slot off data s
  | .imgchk session tag slot => Sys2Proof.Machine.execImgchk session tag slot s
  | .reset session tag immediate => Sys2Proof.Machine.execReset session tag immediate s
  | .clear session tag client token => Sys2Proof.Machine.execClear session tag client token s
  | .key session tag slot pub token => Sys2Proof.Machine.execKey session tag slot pub token s
  | .sessionTimeout session => Sys2Proof.Machine.execSessionTimeout session s
  | .sysBootWrite p v => Sys2Proof.Machine.execSysBootWrite p v s
  | .imageDiff => Sys2Proof.Machine.execImageDiff s

end Sys2Proof.Machine
end

