-- ==== Sys2Proof/WellFormed.lean ====
section
/-! DEFINITION. WellFormed.lean: the operands a command may carry: what the encodings of spec/04_instruction_reference.md
admit, and the field widths of a received telegram. The meanings handle every other operand too, as an undefined
encoding (R100). -/
namespace Sys2Proof

/-- R100: PG = 0 with PN = 1 is undefined. -/
def Guard.wf (x : Guard) : Bool := !(x.pn && x.pg == 0)

/-- R104: an immediate shift count has five bits. -/
def ShiftCount.wf : ShiftCount → Bool
  | .imm n => decide (n < 32)
  | .reg _ => true

/-- A store has no sign-extending form (X is undefined for stores). -/
def MemForm.storeWf : MemForm → Bool
  | .byte sg _ => !sg
  | .half sg _ => !sg
  | .word _ => true
  | .acc _ => true

/-- R503: the widths of the fields of a twin telegram. -/
def TelCopy.wf (c : TelCopy) : Bool :=
  decide (c.stream < 65536) && decide (c.src < 256) && decide (c.seq < 2 ^ 32) && decide (c.payload.length ≤ 1024)

/-- The operands are ones the command can carry. -/
def Instr.wf : Instr → Bool
  | .add x _ _ _ _ => x.wf
  | .sub x _ _ _ _ => x.wf
  | .neg x _ _ _ => x.wf
  | .abs x _ _ _ => x.wf
  | .asl x _ _ n _ => x.wf && n.wf
  | .asr x _ _ n => x.wf && n.wf && n != .imm 0
  | .lsl x _ _ n => x.wf && n.wf
  | .lsr x _ _ n => x.wf && n.wf
  | .and x _ _ _ => x.wf
  | .or x _ _ _ => x.wf
  | .xor x _ _ _ => x.wf
  | .not x _ _ => x.wf
  | .min x _ _ _ => x.wf
  | .max x _ _ _ => x.wf
  | .cls x _ _ => x.wf
  | .addi x _ _ k _ => x.wf && decide (-1024 ≤ k) && decide (k < 1024)
  | .andi x _ _ k => x.wf && decide (k < 1024)
  | .ori x _ _ k => x.wf && decide (k < 1024)
  | .xori x _ _ k => x.wf && decide (k < 1024)
  | .movs x _ k => x.wf && decide (k < 65536)
  | .movhi x _ k => x.wf && decide (k < 65536)
  | .mul x _ _ _ sh _ => x.wf && decide (sh < 64)
  | .mac x _ _ _ _ => x.wf
  | .msu x _ _ _ _ => x.wf
  | .adda x _ _ _ => x.wf
  | .suba x _ _ _ => x.wf
  | .aclr x _ => x.wf
  | .mova x _ _ sh _ => x.wf && decide (sh < 64)
  | .aload x _ _ sh => x.wf && decide (sh < 40)
  | .sincos x _ _ _ => x.wf
  | .atan2 x _ _ _ => x.wf
  | .sqrt x _ _ sh => x.wf && decide (sh < 63)
  | .rsqrt x _ _ sh => x.wf && decide (sh < 95)
  | .ld x _ _ _ d q => x.wf && decide (-128 ≤ d) && decide (d < 128) && decide (q.stall ≤ 800)
  | .st x f _ _ d stall => x.wf && f.storeWf && decide (-128 ≤ d) && decide (d < 128) && decide (stall ≤ 800)
  | .get x _ _ k => x.wf && decide (k < 4096)
  | .put x _ _ k => x.wf && decide (k < 4096)
  | .getl x _ _ k => x.wf && decide (k < 65536)
  | .putl x _ _ k => x.wf && decide (k < 65536)
  | .cmp x _ _ _ _ => x.wf
  | .cmpi x _ _ _ k => x.wf && decide (-512 ≤ k) && decide (k < 512)
  | .plog x _ _ _ _ => x.wf
  | .br x d => x.wf && decide (0 < d) && decide (d < 32768)
  | .call x d => x.wf && decide (0 < d) && decide (d < 32768)
  | .ret x => x.wf
  | .brt x _ n => x.wf && decide (0 < n) && decide (n ≤ 256)
  | .loop x c len => x.wf && decide (0 < c) && decide (c ≤ 4096) && decide (0 < len) && decide (len ≤ 1024)
  | .loopr x _ len => x.wf && decide (0 < len) && decide (len ≤ 1024)
  | .waitAx x _ _ _ t => x.wf && decide (0 < t) && decide (t < 16777216)
  | .join x _ _ _ _ t => x.wf && decide (0 < t) && decide (t < 16777216)
  | .fstop x => x.wf
  | .own x _ o => x.wf && decide (o < 256)
  | .submitSol x _ _ _ => x.wf
  | .waitT x _ _ _ t => x.wf && decide (0 < t) && decide (t < 16777216)
  | .optRun x _ _ _ => x.wf
  | .lpeSwap x _ _ n g => x.wf && decide (0 < n) && decide (n ≤ 64) && (!g || n == 1)
  | .mirPut x _ _ m q => x.wf && decide (0 < m) && decide (m ≤ 4096) && decide (q.stall ≤ 800)
  | .telSend x _ _ _ len q => x.wf && decide (len < 2048) && decide (q.stall ≤ 800)
  | .txq x _ _ _ q => x.wf && decide (q.stall ≤ 800)
  | .log x _ _ _ c q => x.wf && decide (c < 8192) && decide (q.stall ≤ 800)
  | .safOff x _ => x.wf
  | .safOn x _ => x.wf
  | .safRst x _ => x.wf
  | .safGetin x _ => x.wf
  | .portTimeout x _ _ _ _ => x.wf
  | .twinTelegramCopy c _ => c.wf
  | .pairBeacon c => c.wf
  | .waitConditionMet .. | .waitTimeout .. | .illegalFetch .. | .clauseBudget .. | .imemFault .. | .imemScrub ..
  | .lockstepDiverge .. | .lockstepSelftestEnd .. | .registerWrite .. | .discard .. | .cleCmaxclr ..
  | .periodicTrigger .. | .compareFire .. | .conjunctionReady .. | .dispatch .. | .fullStop .. | .forcedFullStop ..
  | .skippedFullStop .. | .axisTick .. | .axisLoss .. | .axisRestore .. | .schPlctlWrite .. | .clockLoss ..
  | .avsEvaluation .. | .pwrOffWrite .. | .blockPowerReady .. | .pwrMarginWrite .. | .routeDelivery ..
  | .mbkOwnWrite .. | .bankRetentionEntry .. | .bankWake .. | .dramScrub .. | .dmaStart .. | .dmaTransferComplete ..
  | .batchValidationEnd .. | .operationIssue .. | .operationCommit .. | .solverDeadline .. | .deadlineGraceExpiry ..
  | .tileFault .. | .tileSelftestEnd .. | .solTrel .. | .optValidationEnd .. | .optIterationEnd ..
  | .optRunComplete .. | .optFblimWrite .. | .loopSample .. | .loopEvaluation .. | .loopOutputInstant ..
  | .loopEscalationCheck .. | .lpeArm .. | .lpeSwapWrite .. | .lpePageWrite .. | .laneFault .. | .frameInstant ..
  | .fusUpd .. | .fusPost .. | .fusionPropagationComplete .. | .fusionUpdateComplete .. | .imuSample ..
  | .imuFault .. | .imuRestore .. | .posUncertain .. | .waveValid .. | .antEnableWrite .. | .antOpen .. | .antOk ..
  | .antShort .. | .antRetry .. | .acqStart .. | .acqAbort .. | .searchEntryStart .. | .searchEntryEnd ..
  | .gnbChcfgWrite .. | .gnbChloopWrite .. | .channelIntegration .. | .channelTrack .. | .channelPullinTimeout ..
  | .channelCode .. | .channelLost .. | .epochStrobe .. | .epochBlockDelivery .. | .navSymbolEntry ..
  | .interferenceMeasurement .. | .agcLimit .. | .gnbAcqctlWrite .. | .gnbCn0minWrite .. | .tmbNsRead ..
  | .servoOffset .. | .timeStep .. | .sourceLost .. | .sourceReturn .. | .ocxoWarm .. | .ppsInEdge .. | .tmbGpost ..
  | .ptpMessage .. | .ppsOutEdge .. | .ppsPulseEnd .. | .captureEdge .. | .triggerFire .. | .ptpMessageInterval ..
  | .ethFrameReceived .. | .telegramWindowClose .. | .ethLinkDown .. | .ethLinkUp .. | .safetyFault ..
  | .safetySelftest .. | .contactChange .. | .discrepancyTimeout .. | .contactFault .. | .contactFaultClear ..
  | .testWindowOpen .. | .testWindowEnd .. | .readbackFail .. | .degradedTimeExpiry .. | .safFack ..
  | .clauseWatchdog .. | .telegramWatchdog .. | .isoFrame .. | .isoLinkLoss .. | .isoLinkRestore .. | .fieldHold ..
  | .fieldSafe .. | .outputApply .. | .wireBreak .. | .shortCircuit .. | .inputFaultClear .. | .outputOverload ..
  | .overloadRetry .. | .dioOrst .. | .outputOvertemp .. | .outputOpenWire .. | .fieldSupplyLow .. | .fieldRailLow ..
  | .loopOpen .. | .loopCompliance .. | .loopOk .. | .chainOutput .. | .mainsPhaseValid .. | .chainStuck ..
  | .chainClkloss .. | .chainFaultEnd .. | .encoderSample .. | .quadratureEdge .. | .zEdge .. | .encoderLineFault ..
  | .encoderFaultEnd .. | .ssiReadEnd .. | .encHome .. | .serialCharacter .. | .serialMessageEnd .. | .serialBreak ..
  | .serialTxStart .. | .serialTxSent .. | .canEntryEligible .. | .canArbitration .. | .canTxComplete ..
  | .canTxError .. | .canBusoff .. | .cfdRecov .. | .canBusoffRecovered .. | .canModeSwitch .. | .cfdCancel ..
  | .canRecordWrite .. | .cfdTxcack .. | .canFrameReceived .. | .cfdRxack .. | .cfdHpack .. | .canReceiveError ..
  | .heartbeatSend .. | .heartbeatFrame .. | .hbInEdge .. | .alivePulseLoss .. | .peerFail .. | .peerAlive ..
  | .pathLoss .. | .pathRestore .. | .laneTrained .. | .laneDown .. | .eqLimit .. | .authInInactive ..
  | .authInActive .. | .authorityRequest .. | .arbitrationWindowEnd .. | .dualAuthority .. | .pairBeaconSend ..
  | .epochHeaderFrame .. | .epochBodyFrame .. | .epochCommitFrame .. | .epochCopyTimeout .. | .epochApply ..
  | .epochTransmitEnd .. | .hoPrep .. | .hoAck .. | .revertReq .. | .txprep .. | .txdec .. | .btlHoreq ..
  | .handoverFail .. | .revertHoldoffElapsed .. | .btlTxn .. | .txnDecisionTimeout .. | .freezeSnapshot ..
  | .recordStoreWrite .. | .storeWriteFault .. | .evrScrub .. | .optimeSave .. | .evrCur .. | .windowCopyEnd ..
  | .evrFrel .. | .evrDsel .. | .feedPresent .. | .selfTestEnd .. | .imageCheckEnd .. | .addressTake ..
  | .pairNegotiation .. | .programLoad .. | .powerFail .. | .chainFrameSend .. | .chainFrame .. | .chainBreak ..
  | .addrChange .. | .addrDuplicateEnd .. | .strapChange .. | .unitReset .. | .sysRstOrderly .. | .sysRstImmediate ..
  | .buttonRelease .. | .buttonStuck .. | .buttonUnstuck .. | .clockDomainReturn .. | .feedLow .. | .feedOk ..
  | .tempHigh .. | .tempHighEnd .. | .tempCritical .. | .tboard .. | .envRange .. | .envRangeEnd .. | .openSession ..
  | .level .. | .close .. | .pget .. | .pput .. | .imgw .. | .imgchk .. | .reset .. | .clear .. | .key ..
  | .sessionTimeout .. | .sysBootWrite .. | .imageDiff .. => true

end Sys2Proof
end

