-- ==== Sys2Proof/Safety.lean ====
section
/-! DEFINITION. Safety.lean: the terms statements use: what a state reads as, when an engine executes an instruction,
what every run keeps. -/
namespace Sys2Proof.Machine

/-! ### Memory -/

/-- A byte of the banks, by bank × 2^15 + offset. -/
def State.byteAt (s : State) (a : Nat) : Byte := cellGet s.banks.cells a

/-- A byte of bulk memory. -/
def State.dramAt (s : State) (a : Nat) : Byte := cellGet s.banks.dram a

/-- Every byte of the banks and of bulk memory reads in `t` as in `s`. -/
def sameBytes (s t : State) : Prop := ∀ a, t.byteAt a = s.byteAt a ∧ t.dramAt a = s.dramAt a

/-- The byte stores of the unit (banks, bulk memory, program flash) are in canonical form. -/
def State.Canonical (s : State) : Prop :=
  cellsWf s.banks.cells = true ∧ cellsWf s.banks.dram = true ∧ cellsWf s.boot.flash = true

/-! ### Port registers -/

/-- The ports of the event recorder, whose counters any record moves. -/
def recorderPort (a : Nat) : Prop := 0x8000 ≤ a ∧ a < 0x8400

/-- Every port register outside `allow` and the recorder holds in `t` what it holds in `s`. -/
def sameRegs (s t : State) (allow : List Nat) : Prop := ∀ a, a ∉ allow → ¬ recorderPort a → t.reg a = s.reg a

/-! ### Lines -/

/-- One thing has left the unit, and nothing else. -/
def sent (s t : State) (o : OutItem) : Prop := t.out = s.out ++ [o]

/-! ### Engines -/

/-- R63, R99, R115: the engine of `x` runs `r`, is not waiting, and executes an instruction of `words` words and `n`
clocks that ends before the last clock of the budget. -/
def State.executes (s : State) (x : Guard) (r : Run) (words n : Nat) : Prop :=
  (s.eng x.e.val).run = some r ∧ (s.eng x.e.val).wait = none ∧ x.wf = true
    ∧ (s.eng x.e.val).guard x = true ∧ (s.eng x.e.val).splits words = false ∧ r.count + n < r.budget

/-- R63, R99: the engine of `x` runs `r`, is not waiting, and the instruction is guarded off for `n` clocks. -/
def State.guardedOff (s : State) (x : Guard) (r : Run) (n : Nat) : Prop :=
  (s.eng x.e.val).run = some r ∧ (s.eng x.e.val).wait = none ∧ x.wf = true
    ∧ (s.eng x.e.val).guard x = false ∧ r.count + n < r.budget

/-- R579, R123: the command of the engine of `x` acts `lead` FAB clocks after its issue, in state `s`: that clock has come from
`u`, in which the instruction issues, and it is the turn of a read (`rd`), or else of the engine, in it. The instruction
executes as `executes` says. -/
def State.reaches (u : State) (x : Guard) (r : Run) (words n lead : Nat) (rd : Bool) (s : State) : Prop :=
  let t := u.advanceTo (r.start + r.count + lead)
  let k := if rd then 0 else t.rankOf x.e.val
  u.executes x r words n ∧ t.clk = r.start + r.count + lead ∧ t.inTurn k = true ∧ s = t.acting k

/-- R40, R123: it is the turn of party `p` in this FAB clock. -/
def State.turnOf (s : State) (p : Party) : Bool := s.inTurn (s.partyRank p)

/-- The state in which an access of party `p` acts, in its turn. -/
def State.turned (s : State) (p : Party) : State := s.acting (s.partyRank p)

/-- R333: no step of T falls in this FAB clock. -/
def State.noStep (s : State) : Prop := s.now.step.2 = 0 ∨ s.now.step.1 ≠ s.clk

/-- R63, R81: engine `e` has retired an instruction of `words` words that took `n` clocks. -/
def State.retired (s : State) (e n words : Nat) : State := (s.charge e n).updEng e (fun y => y.pass words)

/-- R81: engine `e` has been charged `n` clocks by an instruction that set the program counter itself. -/
def State.branched (s : State) (e n : Nat) : State := s.charge e n

/-- R70: what .S and .W make of an exact 32-bit result, and whether SAT is set. -/
def exact32 (wrap : Bool) (x : Int) : Word × Bool :=
  if wrap then (BitVec.ofInt 32 x, false)
  else if 2147483647 < x then (0x7FFFFFFF, true)
  else if x < -2147483648 then (0x80000000, true)
  else (BitVec.ofInt 32 x, false)

/-- R70: what .S and .W make of an exact 72-bit result, and whether ASAT is set. -/
def exact72 (wrap : Bool) (x : Int) : Acc × Bool :=
  if wrap then (BitVec.ofInt 72 x, false)
  else if 2 ^ 71 - 1 < x then (BitVec.ofInt 72 (2 ^ 71 - 1), true)
  else if x < -2 ^ 71 then (BitVec.ofInt 72 (-2 ^ 71), true)
  else (BitVec.ofInt 72 x, false)

/-- The engine of `x` with Wd written and a flag set when the result calls for it. -/
def State.wrote (s : State) (x : Guard) (d : RegNo) (v : Word) (hit : Bool) (b : EsfBit) : State :=
  (s.setW x.e.val d.val v).esfIf x.e.val hit b

/-! ### What a run keeps -/

/-- A run is safe while the byte stores are canonical; every step keeps it. -/
def State.Inv (s : State) : Prop := s.Canonical

end Sys2Proof.Machine
end

