-- ==== Sys2Proof/Certificates/Slice0/Obligations.lean ====
section
/-! DEFINITION. Certificates/Slice0/Obligations.lean: the statements for the provers, by family. -/

open Sys2Proof Sys2Proof.Machine

/-! ### The queue -/

/-- A step takes the command at the front of the queue and is exec of it with the queue's rest. -/
def Obligations.StepRunsFront : Prop :=
  ∀ (s : State) (c : Instr) (rest : List Instr), s.pending = c :: rest → step s = exec c { s with pending := rest }

/-- On an empty queue one FAB clock passes (the model's choice, notes/assumptions/1.md): CLK advances by one in a unit that
is not held off, nothing leaves the queue, no engine executes, and with no lockstep store held back (R92) the banks stay. -/
def Obligations.IdleStepTicks : Prop :=
  ∀ s : State, s.pending = [] → s.boot.stage ≠ .off →
    ∃ t, step s = .next t ∧ t.clk = s.clk + 1 ∧ t.pending = [] ∧ t.engs = s.engs ∧ (s.now.held = [] → t.banks = s.banks)

/-! ### Arithmetic and logic instructions -/

/-- R70, R103: ADD, SUB, NEG, ABS and ADDI write the exact result, saturated or wrapped, set SAT only when a saturating
form saturates, and change nothing else but the engine's clocks and program counter. -/
def Obligations.ArithmeticResults : Prop :=
  (∀ (x : Guard) (d a b : RegNo) (w : Bool) (s : State) (r : Run), s.executes x r 1 1 →
    let q := exact32 w ((s.w x.e a).toInt + (s.w x.e b).toInt)
    exec (.add x d a b w) s = .next ((s.wrote x d q.1 q.2 .sat).retired x.e 1 1))
  ∧ (∀ (x : Guard) (d a b : RegNo) (w : Bool) (s : State) (r : Run), s.executes x r 1 1 →
    let q := exact32 w ((s.w x.e a).toInt - (s.w x.e b).toInt)
    exec (.sub x d a b w) s = .next ((s.wrote x d q.1 q.2 .sat).retired x.e 1 1))
  ∧ (∀ (x : Guard) (d a : RegNo) (w : Bool) (s : State) (r : Run), s.executes x r 1 1 →
    let q := exact32 w (-(s.w x.e a).toInt)
    exec (.neg x d a w) s = .next ((s.wrote x d q.1 q.2 .sat).retired x.e 1 1))
  ∧ (∀ (x : Guard) (d a : RegNo) (w : Bool) (s : State) (r : Run), s.executes x r 1 1 →
    let q := exact32 w (if (s.w x.e a).toInt < 0 then -(s.w x.e a).toInt else (s.w x.e a).toInt)
    exec (.abs x d a w) s = .next ((s.wrote x d q.1 q.2 .sat).retired x.e 1 1))
  ∧ (∀ (x : Guard) (d a : RegNo) (k : Int) (w : Bool) (s : State) (r : Run), s.executes x r 1 1 → -1024 ≤ k → k < 1024 →
    let q := exact32 w ((s.w x.e a).toInt + k)
    exec (.addi x d a k w) s = .next ((s.wrote x d q.1 q.2 .sat).retired x.e 1 1))

/-- R104: the shifts: ASL as R70, or everything shifted out at a count of 32 or more; ASR rounds as R69; LSL and LSR by 32
or more give 0. R103, R102: the logic, comparison and move instructions. -/
def Obligations.ShiftAndLogicResults : Prop :=
  ((∀ (x : Guard) (d a : RegNo) (n : ShiftCount) (w : Bool) (s : State) (r : Run), s.executes x r 1 1 → n.wf = true →
     let k := (s.eng x.e).shift n
     let q := exact32 w ((s.w x.e a).toInt * 2 ^ k)
     exec (.asl x d a n w) s = .next ((s.wrote x d q.1 q.2 .sat).retired x.e 1 1))
   ∧ (∀ (x : Guard) (d a : RegNo) (n : ShiftCount) (s : State) (r : Run), s.executes x r 1 1 → n.wf = true → n ≠ .imm 0 →
     exec (.asr x d a n) s =
       .next ((s.setW x.e d (BitVec.ofInt 32 (rdiv (s.w x.e a).toInt ((s.eng x.e).shift n)))).retired x.e 1 1))
   ∧ (∀ (x : Guard) (d a : RegNo) (n : ShiftCount) (s : State) (r : Run), s.executes x r 1 1 → n.wf = true →
     exec (.lsl x d a n) s = .next ((s.setW x.e d (s.w x.e a <<< (s.eng x.e).shift n)).retired x.e 1 1)
     ∧ exec (.lsr x d a n) s = .next ((s.setW x.e d (s.w x.e a >>> (s.eng x.e).shift n)).retired x.e 1 1)))
  ∧ ((∀ (x : Guard) (d a b : RegNo) (s : State) (r : Run), s.executes x r 1 1 →
       let va := s.w x.e a
       let vb := s.w x.e b
       let put := fun v => Host.Outcome.next ((s.setW x.e d v).retired x.e 1 1)
       exec (.and x d a b) s = put (va &&& vb) ∧ exec (.or x d a b) s = put (va ||| vb) ∧ exec (.xor x d a b) s = put (va ^^^ vb)
       ∧ exec (.not x d a) s = put (~~~ va)
       ∧ exec (.min x d a b) s = put (if va.toInt ≤ vb.toInt then va else vb)
       ∧ exec (.max x d a b) s = put (if va.toInt ≤ vb.toInt then vb else va))
     ∧ (∀ (x : Guard) (d a : RegNo) (k : Nat) (s : State) (r : Run), s.executes x r 1 1 → k < 1024 →
       let put := fun v => Host.Outcome.next ((s.setW x.e d v).retired x.e 1 1)
       exec (.andi x d a k) s = put (s.w x.e a &&& BitVec.ofNat 32 k) ∧ exec (.ori x d a k) s = put (s.w x.e a ||| BitVec.ofNat 32 k)
       ∧ exec (.xori x d a k) s = put (s.w x.e a ^^^ BitVec.ofNat 32 k))
     ∧ (∀ (x : Guard) (d a : RegNo) (s : State) (r : Run), s.executes x r 1 1 →
       ∃ n ≤ 31, exec (.cls x d a) s = .next ((s.setW x.e d (BitVec.ofNat 32 n)).retired x.e 1 1)
         ∧ (∀ i < n, bit (s.w x.e a) (30 - i) = bit (s.w x.e a) 31)
         ∧ (n < 31 → bit (s.w x.e a) (30 - n) ≠ bit (s.w x.e a) 31))
     ∧ (∀ (x : Guard) (d : RegNo) (k : Nat) (s : State) (r : Run), s.executes x r 1 1 → k < 65536 →
       exec (.movs x d k) s = .next ((s.setW x.e d ((BitVec.ofNat 16 k).signExtend 32)).retired x.e 1 1)
       ∧ exec (.movhi x d k) s =
           .next ((s.setW x.e d (BitVec.ofNat 16 k ++ (s.w x.e d).extractLsb' 0 16)).retired x.e 1 1)))

/-- R70, R105: products, accumulators and the moves between them. -/
def Obligations.AccumulatorResults : Prop :=
  (∀ (x : Guard) (d a b : RegNo) (sh : Nat) (w : Bool) (s : State) (r : Run), s.executes x r 1 2 → sh < 64 →
    let q := exact32 w (rdiv ((s.w x.e a).toInt * (s.w x.e b).toInt) sh)
    exec (.mul x d a b sh w) s = .next ((s.wrote x d q.1 q.2 .sat).retired x.e 2 1))
  ∧ (∀ (x : Guard) (n m : AccNo) (a b : RegNo) (w : Bool) (s : State) (r : Run), s.executes x r 1 1 →
    let y := s.eng x.e
    let put := fun (q : Acc × Bool) =>
      Host.Outcome.next (((s.updEng x.e (fun y => y.setA n q.1)).esfIf x.e q.2 .asat).retired x.e 1 1)
    exec (.mac x n a b w) s = put (exact72 w ((y.a n).toInt + (y.w a).toInt * (y.w b).toInt))
    ∧ exec (.msu x n a b w) s = put (exact72 w ((y.a n).toInt - (y.w a).toInt * (y.w b).toInt))
    ∧ exec (.adda x n m w) s = put (exact72 w ((y.a n).toInt + (y.a m).toInt))
    ∧ exec (.suba x n m w) s = put (exact72 w ((y.a n).toInt - (y.a m).toInt))
    ∧ exec (.aclr x n) s = put (0, false))
  ∧ (∀ (x : Guard) (d : RegNo) (n : AccNo) (sh : Nat) (w : Bool) (s : State) (r : Run), s.executes x r 1 2 → sh < 64 →
    let q := exact32 w (rdiv ((s.eng x.e).a n).toInt sh)
    exec (.mova x d n sh w) s = .next ((s.wrote x d q.1 q.2 .sat).retired x.e 2 1))
  ∧ (∀ (x : Guard) (n : AccNo) (a : RegNo) (sh : Nat) (s : State) (r : Run), s.executes x r 1 1 → sh < 40 →
    exec (.aload x n a sh) s =
      .next ((s.updEng x.e (fun y => y.setA n (BitVec.ofInt 72 ((s.w x.e a).toInt * 2 ^ sh)))).retired x.e 1 1))

/-- R69: division by 2^s, s ≥ 1, rounds to the nearest integer, and to the even one when two are equally near; for s = 0 the
value is x. -/
def Obligations.RoundHalfEven : Prop :=
  (∀ (v : Int) (n : Nat), 1 ≤ n →
    2 * (v - rdiv v n * 2 ^ n).natAbs ≤ 2 ^ n
    ∧ (2 * (v - rdiv v n * 2 ^ n).natAbs = 2 ^ n → rdiv v n % 2 = 0))
  ∧ ∀ v : Int, rdiv v 0 = v

/-- R72, R73, R106: the transcendental instructions take their fixed clocks; ATAN2 of (0, 0), SQRT of a negative number and
RSQRT of a number not positive give the value of the domain rule and set DOM. -/
def Obligations.TranscendentalResults : Prop :=
  (∀ (x : Guard) (d c a : RegNo) (s : State) (r : Run), s.executes x r 1 12 →
    ∃ vs vc : Word, exec (.sincos x d c a) s = .next (((s.setW x.e d vs).setW x.e c vc).retired x.e 12 1))
  ∧ (∀ (x : Guard) (d y a : RegNo) (s : State) (r : Run), s.executes x r 1 16 →
    ∃ v : Word, exec (.atan2 x d y a) s =
        .next ((s.wrote x d v (s.w x.e y == 0 && s.w x.e a == 0) .dom).retired x.e 16 1)
      ∧ (s.w x.e y = 0 → s.w x.e a = 0 → v = 0))
  ∧ (∀ (x : Guard) (d a : RegNo) (sh : Nat) (s : State) (r : Run), s.executes x r 1 10 → sh ≤ 62 →
    (s.w x.e a).toInt < 0 → exec (.sqrt x d a sh) s = .next ((s.wrote x d 0 true .dom).retired x.e 10 1))
  ∧ (∀ (x : Guard) (d a : RegNo) (sh : Nat) (s : State) (r : Run), s.executes x r 1 10 → sh ≤ 62 →
    0 ≤ (s.w x.e a).toInt → ∃ (v : Word) (hit : Bool),
      exec (.sqrt x d a sh) s = .next ((s.wrote x d v hit .sat).retired x.e 10 1)
      ∧ (hit = false → 4 * ((s.w x.e a).toNat * 2 ^ sh) ≤ (2 * v.toNat + 1) ^ 2))
  ∧ (∀ (x : Guard) (d a : RegNo) (sh : Nat) (s : State) (r : Run), s.executes x r 1 12 → sh ≤ 94 →
    (s.w x.e a).toInt ≤ 0 → exec (.rsqrt x d a sh) s = .next ((s.wrote x d 0x7FFFFFFF true .dom).retired x.e 12 1))
  ∧ (∀ (x : Guard) (d a : RegNo) (sh : Nat) (s : State) (r : Run), s.executes x r 1 12 → sh ≤ 94 →
    0 < (s.w x.e a).toInt → ∃ (v : Word) (hit : Bool),
      exec (.rsqrt x d a sh) s = .next ((s.wrote x d v hit .sat).retired x.e 12 1))

/-! ### Loads, stores, ports -/

/-- R65, R66, R107, R579: LD acts in the last clock of its count, in the state `s`. Of an owned bank at an aligned offset it
loads the bytes of the bank, with a lockstep pair's own stores over them, after the post-modify; a refused access writes 0
and sets ALIGN or OWN; a word in error, or one the read finds so, sets PARITY. A load changes no byte of memory. -/
def Obligations.LoadResults : Prop :=
  ∀ (x : Guard) (f : MemForm) (wa : RegNo) (u : Bool) (d : Int) (q : BankUse) (s0 s : State) (r : Run),
    let at_ := effAddr (s.w x.e wa) u d (memSize f)
    let a := bankAddr at_.1 at_.2
    let n := min (memSize f) 9
    let cyc := memClocks f + s0.memStall x.e f wa u d q.stall
    let s1 := if u then s.setW x.e wa (postModify (s.w x.e wa) d (memSize f)) else s
    let met := fun (k : Nat) => a / 4 ≤ k ∧ k ≤ (a + n - 1) / 4
    memWf false f d = true → s0.reaches x r 1 cyc (cyc - 1) false s →
    (at_.2 % memSize f = 0 → s.owner at_.1 = s.ownerOf x.e → s.badWords a n = [] → (∀ k ∈ q.upset, ¬ met k) →
      exec (.ld x f wa u d q) s0 =
        .next (((s1.touch at_.1).loadInto x.e f (s.pairNum x.e a n)).retired x.e cyc 1))
    ∧ (at_.2 % memSize f ≠ 0 ∨ s.owner at_.1 ≠ s.ownerOf x.e →
      exec (.ld x f wa u d q) s0 =
        .next (((((s1.esfIf x.e (at_.2 % memSize f != 0) .align).esfIf x.e (s.owner at_.1 != s.ownerOf x.e) .own)).loadInto x.e f 0).retired
          x.e cyc 1))
    ∧ (at_.2 % memSize f = 0 → s.owner at_.1 = s.ownerOf x.e → s.badWords a n ≠ [] ∨ (∃ k ∈ q.upset, met k) →
      ∃ t, exec (.ld x f wa u d q) s0 = .next t ∧ bit (t.eng x.e).esf 5 = true)
    ∧ (s.locked x.e = false → s.pairNum x.e a n = ofBytesLE (cellsGet s.banks.cells a n))
    ∧ ∃ t, exec (.ld x f wa u d q) s0 = .next t ∧ sameBytes s t

/-- R65, R66, R92, R108, R579: ST acts in the last clock of its count, in the state `s`. Into an owned bank at an aligned offset
it stores its bytes and no other, or on a lockstep pair hands them over for release 2 clocks later; a refused store changes
no byte and sets ALIGN or OWN. Only the address register may change, by the post-modify. R108: the bytes a store writes: the
low bytes of the register, least significant first; an accumulator image is 72 bits and seven bytes of its sign. -/
def Obligations.StoreResults : Prop :=
  (∀ (x : Guard) (f : MemForm) (wa : RegNo) (u : Bool) (d : Int) (stall : Nat) (s0 s : State) (r : Run),
     let at_ := effAddr (s.w x.e wa) u d (memSize f)
     let a := bankAddr at_.1 at_.2
     let cyc := memClocks f + s0.memStall x.e f wa u d stall
     let taken := at_.2 % memSize f = 0 ∧ s.owner at_.1 = s.ownerOf x.e
     memWf true f d = true → s.Canonical → s0.reaches x r 1 cyc (cyc - 1) false s →
     ∃ t, exec (.st x f wa u d stall) s0 = .next t
       ∧ (∀ k, k ≠ wa.val ∨ u = false → t.w x.e k = s.w x.e k)
       ∧ (u = true → wa ≠ 0 → t.w x.e wa = postModify (s.w x.e wa) d (memSize f))
       ∧ (∀ q, q < a ∨ a + memSize f ≤ q → t.byteAt q = s.byteAt q) ∧ (∀ q, t.dramAt q = s.dramAt q)
       ∧ (taken → s.locked x.e = false →
           ∀ k < memSize f, ((s.eng x.e).storeImage f)[k]? = some (t.byteAt (a + k)))
       ∧ (taken → s.locked x.e = true → sameBytes s t ∧ t.now.held = s.now.held
           ++ [{ pair := x.e.val / 2, rel := s.clk + 2, addr := a, bytes := (s.eng x.e).storeImage f }])
       ∧ (at_.2 % memSize f ≠ 0 → sameBytes s t ∧ t.now.held = s.now.held ∧ bit (t.eng x.e).esf 3 = true)
       ∧ (s.owner at_.1 ≠ s.ownerOf x.e → sameBytes s t ∧ t.now.held = s.now.held ∧ bit (t.eng x.e).esf 4 = true))
  ∧ (∀ (y : Engine),
       (∀ (sg : Bool) (r : RegNo), y.storeImage (.byte sg r) = [(y.w r).extractLsb' 0 8])
       ∧ (∀ (sg : Bool) (r : RegNo), y.storeImage (.half sg r) = [(y.w r).extractLsb' 0 8, (y.w r).extractLsb' 8 8])
       ∧ (∀ (r : RegNo), y.storeImage (.word r) =
           [(y.w r).extractLsb' 0 8, (y.w r).extractLsb' 8 8, (y.w r).extractLsb' 16 8, (y.w r).extractLsb' 24 8])
       ∧ (∀ (k : AccNo), (y.storeImage (.acc k)).length = 16
           ∧ (∀ i < 9, (y.storeImage (.acc k))[i]? = some ((y.a k).extractLsb' (8 * i) 8))
           ∧ (∀ i, 9 ≤ i → i < 16 → (y.storeImage (.acc k))[i]? = some (if (y.a k).msb then 0xFF else 0))))

/-- R30, R92, R109: GET, GETL, PUT and PUTL at a port that is not decoded take 2 clocks (GETL and PUTL one more, a lockstep
pair two more), read 0 or drop the write, and set PORT_UNDEC. R31: an access whose block does not answer ends after 64
clocks: a read returns 0, a write is dropped, PORT_TMO is set. -/
def Obligations.PortErrors : Prop :=
  (∀ (x : Guard) (d wa : RegNo) (k : Nat) (s0 s : State) (r : Run),
     let a := portAddr (s0.w x.e wa) k
     let n := 2 + s0.lockExtra x.e
     s0.decoded a = false → s.decoded a = false →
     (k < 4096 → s0.reaches x r 1 n (n - 1) true s →
       exec (.get x d wa k) s0 = .next (((s.setW x.e d 0).esf x.e .portUndec).retired x.e n 1))
     ∧ (k < 4096 → s0.reaches x r 1 n (n - 1) false s →
       exec (.put x d wa k) s0 = .next ((s.esf x.e .portUndec).retired x.e n 1))
     ∧ (k < 65536 → s0.reaches x r 2 (n + 1) n true s →
       exec (.getl x d wa k) s0 = .next (((s.setW x.e d 0).esf x.e .portUndec).retired x.e (n + 1) 2))
     ∧ (k < 65536 → s0.reaches x r 2 (n + 1) n false s →
       exec (.putl x d wa k) s0 = .next ((s.esf x.e .portUndec).retired x.e (n + 1) 2)))
  ∧ (∀ (x : Guard) (read long : Bool) (w : RegNo) (a : Fin 65536) (s0 s : State) (r : Run),
       let n := 64 + b2n long + s0.lockExtra x.e
       s0.decoded a = true → s0.reaches x r (1 + b2n long) n (n - 1) false s →
       ∃ t, exec (.portTimeout x read w a long) s0 = .next t
         ∧ bit (t.eng x.e).esf 7 = true ∧ (read = true → t.w x.e w = 0) ∧ (read = false → ∀ k, t.w x.e k = s.w x.e k)
         ∧ (∃ q, (t.eng x.e).run = some q ∧ q.count = r.count + n) ∧ sameBytes s t ∧ sameRegs s t [])

/-- R30, R96, R109, R579: GET and GETL of a decoded port that is no counter of an identity and not TMB_NS read it into Wd as it
stands in the act clock, the last of the block's latency, set LIVE for the ports of class V, and change nothing else. -/
def Obligations.PortReads : Prop :=
  ∀ (x : Guard) (d wa : RegNo) (k : Nat) (s0 s : State) (r : Run),
    let a := portAddr (s0.w x.e wa) k
    let n := fun (long : Bool) => s0.accessClocks x.e a true long
    let got := (s.setW x.e d (s.readNow (.eng x.e) a)).esfIf x.e (classV a) .live
    s0.decoded a = true → s.decoded a = true → identityOf a = none → a ≠ Reg.TMB_NS →
    (k < 4096 → s0.reaches x r 1 (n false) (n false - 1) true s → exec (.get x d wa k) s0 = .next (got.retired x.e (n false) 1))
    ∧ (k < 65536 → s0.reaches x r 2 (n true) (n true - 1) true s → exec (.getl x d wa k) s0 = .next (got.retired x.e (n true) 2))

/-- R32, R33, R35, R579: PUT and PUTL of a staged register change no register: the write joins, with its act clock, the pending
set of the running clause's group, in place of an earlier write of the same execution to the same register. -/
def Obligations.StagedWrites : Prop :=
  ∀ (x : Guard) (v wa : RegNo) (k : Nat) (s0 s : State) (r : Run),
    let a := portAddr (s0.w x.e wa) k
    let n := fun (long : Bool) => s0.accessClocks x.e a true long
    let joined := fun (t : State) =>
      (∀ q, t.reg q = s.reg q) ∧ (∀ q, q ≠ r.group → t.group q = s.group q)
      ∧ (t.group r.group).pend =
          (s.group r.group).pend.filter (fun p => !(p.addr == a && p.clause == some r.clause && p.disp == r.disp))
            ++ [{ clause := some r.clause, disp := r.disp, addr := a, val := s.w x.e v, clk := s.clk, ord := (s.group r.group).stageNo }]
    s0.writable (.eng x.e) a = true → s.writable (.eng x.e) a = true → isStaged a = true → a ≠ Reg.OPT_FBLIM → a ≠ Reg.LPE_SWAP →
    ¬ (0x0901 ≤ a ∧ a < 0x0A00 ∧ a % 4 = 1) → s.stopReal r.group = false → (s.group r.group).overflowed = false →
    (s.group r.group).pend.length < 128 →
    (k < 4096 → s0.reaches x r 1 (n false) (n false - 1) false s → ∃ t, exec (.put x v wa k) s0 = .next t ∧ joined t)
    ∧ (k < 65536 → s0.reaches x r 2 (n true) (n true - 1) false s → ∃ t, exec (.putl x v wa k) s0 = .next t ∧ joined t)

/-! ### Predicates, branches, loops -/


/-- R110, R111: CMP, CMPI and PLOG write one predicate and change nothing else but the engine's clocks and program counter. R60: W0 reads 0 and P0 reads 1 whatever is written to them, and a write to another register or predicate reads back. -/
def Obligations.PredicateResults : Prop :=
  (∀ (x : Guard) (pd : PredNo) (s : State) (r : Run), s.executes x r 1 1 →
     let put := fun (b : Bool) => Host.Outcome.next ((s.setP x.e pd b).retired x.e 1 1)
     (∀ (a b : RegNo), let va := s.w x.e a; let vb := s.w x.e b
       exec (.cmp x pd a b .eq) s = put (decide (va = vb)) ∧ exec (.cmp x pd a b .ne) s = put (decide (va ≠ vb))
       ∧ exec (.cmp x pd a b .lt) s = put (va.slt vb) ∧ exec (.cmp x pd a b .ge) s = put (vb.sle va)
       ∧ exec (.cmp x pd a b .le) s = put (va.sle vb) ∧ exec (.cmp x pd a b .gt) s = put (vb.slt va)
       ∧ exec (.cmp x pd a b .ltu) s = put (va.ult vb) ∧ exec (.cmp x pd a b .geu) s = put (vb.ule va)
       ∧ exec (.cmp x pd a b .leu) s = put (va.ule vb) ∧ exec (.cmp x pd a b .gtu) s = put (vb.ult va)
       ∧ exec (.cmp x pd a b .tlt) s = put (va - vb).msb ∧ exec (.cmp x pd a b .tge) s = put (!(va - vb).msb)
       ∧ exec (.cmp x pd a b .test) s = put (decide (va &&& vb ≠ 0)) ∧ exec (.cmp x pd a b .ntest) s = put (decide (va &&& vb = 0)))
     ∧ (∀ (a : RegNo) (c : Cond) (k : Int), -512 ≤ k → k < 512 →
         exec (.cmpi x pd a c k) s = put (condHolds c (s.w x.e a) (BitVec.ofInt 32 k)))
     ∧ (∀ (p q : PredNo), let vp := (s.eng x.e).p p; let vq := (s.eng x.e).p q
       exec (.plog x pd p q .and) s = put (vp && vq) ∧ exec (.plog x pd p q .or) s = put (vp || vq)
       ∧ exec (.plog x pd p q .xor) s = put (xor vp vq) ∧ exec (.plog x pd p q .andn) s = put (vp && !vq)))
  ∧ (∀ (y : Engine), y.w 0 = 0 ∧ y.p 0 = true ∧ (∀ v, y.setW 0 v = y) ∧ (∀ b, y.setP 0 b = y)
       ∧ (∀ (k q : Nat) (v : Word), k ≠ 0 → (y.setW k v).w q = if q = k then v else y.w q)
       ∧ (∀ (k q : Nat) (b : Bool), k ≠ 0 → (y.setP k b).p q = if q = k then b else y.p q))

/-- R112, R113, R114, R116, R117: a taken branch goes forward and closes the loops it leaves, CALL pushes the word after it and
opens a level, RET returns to it and resumes the loops below; BRT branches by the entry
of its table that Wa selects, and passes the table when Wa is not below N. -/
def Obligations.BranchResults : Prop :=
  (∀ (x : Guard) (s : State) (r : Run), s.executes x r 1 2 →
    let y := s.eng x.e
    (∀ d, 0 < d → d < 32768 → y.pc + d ≤ 32767 →
      ∃ t, exec (.br x d) s = .next t ∧ (t.eng x.e).pc = y.pc + d ∧ (t.eng x.e).regs = y.regs
        ∧ (t.eng x.e).loops = y.loops.dropWhile (fun l => !(decide (l.first ≤ y.pc + d) && decide (y.pc + d ≤ l.last))))
    ∧ (∀ d, 0 < d → d < 32768 → y.pc + d ≤ 32767 → y.calls.length ≤ 4 →
      ∃ t, exec (.call x d) s = .next t ∧ (t.eng x.e).pc = y.pc + d ∧ (t.eng x.e).calls = ⟨some (y.pc + 1), []⟩ :: y.calls)
    ∧ (∀ ra inner c rest, y.calls = ⟨some ra, inner⟩ :: c :: rest → (∀ l ∈ c.loops.head?, l.last + 1 ≠ ra) → 0 < ra → ra < 32768 →
      ∃ t, exec (.ret x) s = .next t ∧ (t.eng x.e).pc = ra ∧ (t.eng x.e).calls = c :: rest))
  ∧ (∀ (x : Guard) (wa : RegNo) (n : Nat) (s : State) (r : Run), s.executes x r 1 3 → 0 < n → n ≤ 256 →
    let y := s.eng x.e
    let i := (s.w x.e wa).toNat
    let entry := mgetD y.imem ((y.pc + 1 + i) % 32768) 0
    (i < n → entry.toNat < 65536 → n ≤ entry.toNat → y.pc + 1 + entry.toNat ≤ 32767 →
      ∃ t, exec (.brt x wa n) s = .next t ∧ (t.eng x.e).pc = y.pc + 1 + entry.toNat ∧ (t.eng x.e).regs = y.regs)
    ∧ (n ≤ i → exec (.brt x wa n) s = .next (s.retired x.e 3 (n + 1))))

/-- R78, R79, R115: LOOP and LOOPR open a loop of the next words; LOOPR with a count of 0 or above 4096 sets LEN_ERR and
passes the body. After the last word of a body the loop runs again from its first word while iterations remain; the last
iteration closes it and goes on. -/
def Obligations.LoopResults : Prop :=
  (∀ (x : Guard) (wa : RegNo) (c len : Nat) (s : State) (r : Run), s.executes x r 1 1 → 0 < len → len ≤ 1024 →
    let y := s.eng x.e
    let opens := fun (t : State) (c : Nat) => (t.eng x.e).pc = (y.pc + 1) % 32768
      ∧ (t.eng x.e).loops = { first := y.pc + 1, last := y.pc + len, left := c - 1 } :: y.loops
    let k := (s.w x.e wa).toNat
    y.depth < 4 → (∀ l ∈ y.loops.head?, y.pc + len ≤ l.last) →
    (0 < c → c ≤ 4096 → ∃ t, exec (.loop x c len) s = .next t ∧ opens t c)
    ∧ (0 < k → k ≤ 4096 → ∃ t, exec (.loopr x wa len) s = .next t ∧ opens t k)
    ∧ (k = 0 ∨ 4096 < k → exec (.loopr x wa len) s = .next ((s.esf x.e .lenErr).retired x.e 1 (len + 1))))
  ∧ (∀ (y : Engine) (l : LoopCtx) (rest : List LoopCtx), y.loops = l :: rest → l.last = y.pc →
    (0 < l.left → (y.pass 1).pc = l.first ∧ (y.pass 1).loops = { l with left := l.left - 1 } :: rest)
    ∧ (l.left = 0 → (∀ q ∈ rest.head?, q.last ≠ y.pc) → (y.pass 1).pc = (y.pc + 1) % 32768 ∧ (y.pass 1).loops = rest))


/-! ### Waits and the ends of a clause -/

/-- R80, R118, R119, R126: a wait whose condition holds in its issue clock (on a lockstep pair WAIT.T acts 2 clocks later, R92)
writes its results and takes its fixed clocks; otherwise the engine holds the clause with the wait. R80, R119: a wait ends
with its results when its condition holds first, `k` clocks after issue, and with the predicate cleared, WTMO and LIVE set
when the timeout's clocks have passed without it. -/
def Obligations.WaitResults : Prop :=
  (∀ (x : Guard) (wd : RegNo) (pd : PredNo) (wa : RegNo) (timeout : Nat) (s0 s : State) (r : Run),
     0 < timeout → timeout < 2 ^ 24 →
     (s0.reaches x r 2 3 0 true s →
       (∀ (n : AxisNo), (n = 0 ∨ s.regF (Reg.SCH_AXSRC n) 6 4 ≠ 0) → (s.axisPos n - s.w x.e wa).msb = false →
         exec (.waitAx x pd n wa timeout) s0 = .next ((s.setP x.e pd true).retired x.e 3 2))
       ∧ (∀ (n : AxisNo), (s.axisPos n - s.w x.e wa).msb = true →
         exec (.waitAx x pd n wa timeout) s0 =
           .next (s.updEng x.e (fun y => { y with wait := some ⟨3, timeout, .axis pd n (s.w x.e wa)⟩ })))
       ∧ (∀ (c : ClauseNo) (st : EndState), c.val ≠ r.clause → (s.group r.group).seq = r.seq →
         (s.group r.group).endOf c = some st →
         exec (.join x wd pd c none timeout) s0 =
           .next (((s.setW x.e wd (BitVec.ofNat 32 st.code)).setP x.e pd (st == .ended)).retired x.e 3 2))
       ∧ (∀ (c : ClauseNo), c.val = r.clause →
         exec (.join x wd pd c none timeout) s0 =
           .next (s.updEng x.e (fun y => { y with wait := some ⟨3, timeout, .join wd pd c none⟩ }))))
     ∧ (∀ (k : Ticket), s0.reaches x r 2 (5 + s0.lockExtra x.e) (s0.lockExtra x.e) false s →
       mget s.sol.tickets (s.w x.e wa).toNat = some k → k.complete = true →
       ∃ t, exec (.waitT x wd pd wa timeout) s0 = .next t ∧ mget t.sol.tickets (s.w x.e wa).toNat = none
         ∧ (pd ≠ 0 → (t.eng x.e).p pd = true) ∧ (wd ≠ 0 → t.w x.e wd = k.sum)))
  ∧ (∀ (e : EngineNo) (s : State) (r : Run) (q : WaitCtx) (pd : PredNo) (n : AxisNo) (target : Word),
       (s.eng e).run = some r → (s.eng e).wait = some q → q.cond = .axis pd n target →
       (∀ (k : Nat), k < q.timeout → r.count + (q.fixed + k) < r.budget →
         mget s.now.met e = some k
           ∨ (mget s.now.met e = none ∧ (n = 0 ∨ s.regF (Reg.SCH_AXSRC n) 6 4 ≠ 0) ∧ (s.axisPos n - target).msb = false
               ∧ s.clk = r.start + r.count + k) →
         exec (.waitConditionMet e k) s = .next (((s.setP e pd true).unwait e).retired e (q.fixed + k) 2))
       ∧ (r.start + r.count + q.timeout ≤ s.clk → mget s.now.met e = none → r.count + (q.fixed + q.timeout) < r.budget →
         exec (.waitTimeout e) s =
           .next (((((s.setP e pd false).esf e .wtmo).esf e .live).unwait e).retired e (q.fixed + q.timeout) 2)))

/-- R76, R81, R82, R83, R100, R120: FSTOP ends the clause ENDED, an undefined encoding ILLEGAL, the last clock of the budget
BUDGET: the engine runs nothing, the flags join CLE_CFLG and CLE_EFLG, the end state is counted and joins the cycle. What an
execution that did not end ENDED has staged is discarded (R36), shown for BUDGET. -/
def Obligations.ClauseEnds : Prop :=
  ∀ (e : EngineNo) (s : State) (r : Run), (s.eng e).run = some r → r.clause < 256 →
    let ends := fun (t : State) (st : EndState) (flags : Word) =>
      (t.eng e).run = none ∧ (t.eng e).wait = none
      ∧ t.reg (Reg.CLE_CFLG r.clause) = s.reg (Reg.CLE_CFLG r.clause) ||| flags
      ∧ t.reg (Reg.CLE_EFLG e) = s.reg (Reg.CLE_EFLG e) ||| flags
      ∧ (t.counts r.clause).last = st.code
      ∧ (t.group r.group).progress = (s.group r.group).progress ++ [(r.clause, st)]
    (∀ (x : Guard) (s0 : State), x.e = e → s0.reaches x r 1 (1 + s0.lockExtra e) (s0.lockExtra e) false s →
      ∃ t, exec (.fstop x) s0 = .next t ∧ ends t .ended (s.eng e).esf
        ∧ (t.counts r.clause).ended = ((s.counts r.clause).ended + 1) % 65536)
    ∧ (∀ (w0 w1 : Word), decodeSirwen e w0 w1 = none →
      ∃ t, exec (.illegalFetch e w0 w1) s = .next t ∧ ends t .illegal ((s.eng e).esf ||| 0x8000)
        ∧ (t.counts r.clause).illegal = ((s.counts r.clause).illegal + 1) % 65536)
    ∧ (r.budget ≤ s.countNow r →
      ∃ t, exec (.clauseBudget e) s = .next t ∧ ends t .budget ((s.eng e).esf ||| 0x1000)
        ∧ (t.counts r.clause).budget = ((s.counts r.clause).budget + 1) % 65536
        ∧ (t.group r.group).pend = (s.group r.group).pend.filter (fun p => !(p.clause == some r.clause && p.disp == r.disp))
        ∧ (t.group r.group).staged = (s.group r.group).staged.filter (fun p => !(p.clause == r.clause && p.disp == r.disp)))

/-- R84, R91, R93: an uncorrectable error in instruction memory takes the engine out of service, at a fetch ending the clause
IMEM_FAULT, and a corrected one only sets IECC (that this row carries it is the model's choice, notes/assumptions/49.md); a
lockstep divergence ends the clause and the pair tests itself; a pair that fails its self-test, 50 µs on, leaves
service. -/
def Obligations.EnginesLeaveService : Prop :=
  (∀ (e : EngineNo) (a : Fin 32768) (s : State), ∃ t, exec (.imemScrub e a) s = .next t ∧ (t.eng e).oos = true
      ∧ (t.eng e).run = (s.eng e).run ∧ ∀ q, q ≠ e.val → t.eng q = s.eng q)
  ∧ (∀ (e : EngineNo) (s : State) (r : Run), (s.eng (s.leadOf e)).run = some r →
      (∃ t, exec (.imemFault e false) s = .next t ∧ (t.eng e).oos = true ∧ (t.eng (s.leadOf e)).run = none
        ∧ (t.counts r.clause).imem = ((s.counts r.clause).imem + 1) % 65536)
      ∧ exec (.imemFault e true) s = .next (s.esf (s.leadOf e) .iecc))
  ∧ (∀ (p : Fin 4) (s : State) (r : Run), (s.eng (2 * p)).run = some r → r.lock = true →
      ∃ t, exec (.lockstepDiverge p) s = .next t ∧ (t.eng (2 * p)).run = none
        ∧ (t.eng (2 * p)).selftest = true ∧ (t.eng (2 * p + 1)).selftest = true
        ∧ (t.counts r.clause).diverge = ((s.counts r.clause).diverge + 1) % 65536)
  ∧ (∀ (p : Fin 4) (pass : Bool) (s : State), (s.eng (2 * p)).selftest = true → (s.eng (2 * p)).endClk + 20000 ≤ s.clk →
      ∃ t, exec (.lockstepSelftestEnd p pass) s = .next t ∧ (t.eng (2 * p)).selftest = false
        ∧ (t.eng (2 * p + 1)).selftest = false
        ∧ (pass = false → (t.eng (2 * p)).oos = true ∧ (t.eng (2 * p + 1)).oos = true ∧ t.regB Reg.CLE_LSSTAT (4 + p) = true))

/-- R63, R99: an instruction whose guard is false takes its clocks and passes its words (BRT its table also, R114); nothing else changes. R81: an instruction that would end after the budget's last clock does not retire: the clause ends BUDGET with the
registers as they were; one that ends with it retires, and the clause ends BUDGET. -/
def Obligations.GuardAndBudget : Prop :=
  (∀ (x : Guard) (d a : RegNo) (s : State) (r : Run),
     (s.guardedOff x r 1 → (∀ (b : RegNo) (w : Bool), exec (.add x d a b w) s = .next (s.retired x.e 1 1))
       ∧ exec (.fstop x) s = .next (s.retired x.e 1 1)
       ∧ (∀ k < 4096, exec (.put x d a k) s = .next (s.retired x.e 1 1)))
     ∧ (s.guardedOff x r 2 → (∀ k < 4, exec (.br x (k + 1)) s = .next (s.retired x.e 2 1))
       ∧ (∀ (pd : PredNo) (n : AxisNo), exec (.waitAx x pd n a 1) s = .next (s.retired x.e 2 2))
       ∧ (∀ k < 65536, exec (.putl x d a k) s = .next (s.retired x.e 2 2)))
     ∧ (s.guardedOff x r 3 → ∀ n, 0 < n → n ≤ 256 → exec (.brt x a n) s = .next (s.retired x.e 3 (n + 1)))
     ∧ (s.guardedOff x r 4 → ∀ (pd : PredNo), exec (.submitSol x d pd a) s = .next (s.retired x.e 4 1)))
  ∧ (∀ (x : Guard) (d a b : RegNo) (s : State) (r : Run), (s.eng x.e).run = some r → (s.eng x.e).wait = none → x.wf = true →
       (s.eng x.e).guard x = true →
       (r.budget < r.count + 1 → ∃ t, exec (.add x d a b true) s = .next t ∧ (t.eng x.e).run = none ∧ (t.eng x.e).regs = (s.eng x.e).regs
           ∧ (t.counts r.clause).last = 1)
       ∧ (r.budget = r.count + 1 → ∃ t, exec (.add x d a b true) s = .next t ∧ (t.eng x.e).run = none ∧ (t.counts r.clause).last = 1
           ∧ (d ≠ 0 → t.w x.e d = s.w x.e a + s.w x.e b)))

/-! ### Block commands of an engine -/

/-- R121, R579: OWN, in the last clock of its count, passes a bank the running engine owns to a defined owner, and sets OWN
otherwise. -/
def Obligations.OwnResults : Prop :=
  ∀ (x : Guard) (b : BankNo) (o : Nat) (s0 s : State) (r : Run),
    let n := 2 + s0.lockExtra x.e
    o < 256 → s0.reaches x r 1 n (n - 1) false s →
    (s.owner b = s.ownerOf x.e → s.ownerCode o = true →
      ∃ t, exec (.own x b o) s0 = .next t ∧ t.owner b = o ∧ (∀ q, q ≠ b.val → t.owner q = s.owner q) ∧ sameBytes s t
        ∧ (t.eng x.e).esf = (s.eng x.e).esf ∧ (∀ q, t.w x.e q = s.w x.e q) ∧ (t.eng x.e).pred = (s.eng x.e).pred
        ∧ sameRegs s t [] ∧ t.ownerOf x.e = s.ownerOf x.e
        ∧ ∃ q, (t.eng x.e).run = some q ∧ q.count = r.count + n)
    ∧ (s.owner b ≠ s.ownerOf x.e ∨ s.ownerCode o = false →
      exec (.own x b o) s0 = .next ((s.esf x.e .own).retired x.e n 1))

/-- R122, R124, R205: SUBMIT.SOL of a descriptor that passes its checks takes the first free ticket, counts its operations and
marks its banks; with no ticket free it answers 16#FFFFFFFF and clears the predicate. R122, R125, R236: OPT.RUN of a
descriptor that passes its checks starts the idle sequencer under the first free ticket; a busy sequencer, or one whose run
completed in this clock, refuses it. -/
def Obligations.Submissions : Prop :=
  ∀ (x : Guard) (d : RegNo) (p : PredNo) (wa : RegNo) (s0 s : State) (r : Run),
    let w := s.w x.e wa
    let count := fld (s.bankWord (addrBank w) (addrOff w)) 31 23
    s0.reaches x r 1 (4 + s0.lockExtra x.e) (3 + s0.lockExtra x.e) false s → addrOff w % 4 = 0 →
    (s.owner (addrBank w) = ownSol → 0 < count → count ≤ 256 → addrOff w + 4 * (8 + 16 * count) ≤ 32768 →
      (∀ k, s.freeTicket = some k →
        ∃ t, exec (.submitSol x d p wa) s0 = .next t ∧ (p ≠ 0 → (t.eng x.e).p p = true) ∧ (d ≠ 0 → t.w x.e d = BitVec.ofNat 32 k)
          ∧ mget t.sol.tickets k = some { count := count }
          ∧ t.reg Reg.SOL_NSUB = s.reg Reg.SOL_NSUB + BitVec.ofNat 32 count
          ∧ t.reg Reg.SOL_NPEND = s.reg Reg.SOL_NPEND + BitVec.ofNat 32 count
          ∧ (∃ y, mget t.sol.batches s.sol.next = some y ∧ y.ticket = k ∧ y.count = count ∧ y.clause = r.clause)
          ∧ t.bankInUse (addrBank w) = true ∧ sameBytes s t)
      ∧ (s.freeTicket = none →
        ∃ t, exec (.submitSol x d p wa) s0 = .next t ∧ (p ≠ 0 → (t.eng x.e).p p = false) ∧ (d ≠ 0 → t.w x.e d = 0xFFFFFFFF)
          ∧ t.regB Reg.SOL_STK 0 = true ∧ t.reg Reg.SOL_TFULL = s.reg Reg.SOL_TFULL + 1 ∧ t.sol = s.sol))
    ∧ (s.owner (addrBank w) = ownOpt → addrOff w + 80 ≤ 32768 → s.optSizeBad (s.optHdr (addrBank w) (addrOff w)) = false →
      (∀ k, s.opt.run = none → s.opt.endClk ≠ some s.clk → s.freeTicket = some k →
        ∃ t, exec (.optRun x d p wa) s0 = .next t ∧ (p ≠ 0 → (t.eng x.e).p p = true) ∧ (d ≠ 0 → t.w x.e d = BitVec.ofNat 32 k)
          ∧ (∃ q, t.opt.run = some q ∧ q.ticket = k ∧ q.clause = r.clause ∧ q.phase = .check ∧ q.done = 0)
          ∧ t.regB Reg.OPT_STAT 31 = true ∧ t.bankInUse (addrBank w) = true)
      ∧ (s.opt.run ≠ none ∨ s.opt.endClk = some s.clk →
        ∃ t, exec (.optRun x d p wa) s0 = .next t ∧ (p ≠ 0 → (t.eng x.e).p p = false) ∧ (d ≠ 0 → t.w x.e d = 0xFFFFFFFF)
          ∧ t.regB Reg.OPT_STK 6 = true ∧ t.reg Reg.OPT_NBUSY = s.reg Reg.OPT_NBUSY + 1 ∧ t.opt = s.opt))

/-- R88, R122, R127, R128, R129, R130: LPE.SWAP, MIR.PUT, TEL.SEND and TXQ whose operands pass their checks set the predicate and
stage one output of the running execution. R131: LOG of code `c` hands the recorder a record of the program and answers in
the predicate whether it was taken. Each acts in the last clock of its count, in the state `s` (R579). -/
def Obligations.StagedOutputsAndLogs : Prop :=
  (∀ (x : Guard) (pd : PredNo) (wa wb : RegNo) (q : BankUse) (s0 s : State) (r : Run), pd ≠ 0 →
     let w := s.w x.e wa
     let a := bankAddr (addrBank w) (addrOff w)
     let wait := s0.lockExtra x.e + s0.stallOf (addrBank w) q.stall
     let acts := fun (words n : Nat) => s0.reaches x r words n (n - 1) false s
     let stages := fun (t : State) (item : StagedItem) => (t.eng x.e).p pd = true
       ∧ (t.group r.group).staged = (s.group r.group).staged ++ [{ clause := r.clause, disp := r.disp, item := item, ord := (s.group r.group).stageNo }]
       ∧ sameBytes s t
     let ready := fun (n : Nat) => addrOff w % 4 = 0 ∧ addrOff w + n ≤ 32768 ∧ s.owner (addrBank w) = s.ownerOf x.e
     (∀ n, 0 < n → n ≤ 64 → acts 1 (2 + s0.lockExtra x.e) → s.swapFits r.group (.swap false (fld w 5 0) n) = true →
       ∃ t, exec (.lpeSwap x pd wa n false) s0 = .next t ∧ stages t (.swap false (fld w 5 0) n))
     ∧ (∀ m, 0 < m → m ≤ 4096 → acts 1 (4 + ceilDiv m 4 + wait) → ready (4 * m) → s.segmentFits r.group m = true →
       ∃ t, exec (.mirPut x pd wa m q) s0 = .next t
         ∧ stages t (.mirror (BitVec.ofNat 32 (fld w 20 0) :: BitVec.ofNat 32 (m - 1) :: s.bankWords a m)))
     ∧ (∀ n, n ≤ 1024 → acts 2 (5 + ceilDiv n 16 + wait) → ready n → bit (s.w x.e wb) 16 = false →
       s.telegramFits r.group (fld (s.w x.e wb) 15 0) n = true →
       ∃ t, exec (.telSend x pd wa wb n q) s0 = .next t
         ∧ stages t (.telegram (fld (s.w x.e wb) 15 0) false (cellsGet s.banks.cells a n)))
     ∧ (acts 1 (6 + wait) → ready 72 → (s.w x.e wb).toNat < 6 → bit (s.bankWord (addrBank w) (addrOff w)) 30 = true →
       s.canStaged r.group (s.w x.e wb).toNat < s.canQuota r.group (s.w x.e wb).toNat →
       ∃ t, exec (.txq x pd wa wb q) s0 = .next t ∧ stages t (.can (s.w x.e wb).toNat (s.bankWords a 18))))
  ∧ (∀ (x : Guard) (pd : PredNo) (wa : RegNo) (c : Nat) (q : BankUse) (s0 s : State) (r : Run), pd ≠ 0 → c < 8192 →
       s0.reaches x r 1 (6 + s0.lockExtra x.e) (5 + s0.lockExtra x.e) false s → s.evr.closed = false →
       ∃ t, exec (.log x pd wa false c q) s0 = .next t ∧ sameBytes s t
         ∧ (s.evr.intake = [] → (t.eng x.e).p pd = true
             ∧ ∃ z ∈ t.evr.intake, z.seq = s.evr.nextSeq
                 ∧ z.body = .program (0x8000 + c) (0xC000 + 256 * s.ownerOf x.e + r.clause) [])
         ∧ (256 ≤ (s.evr.intake.filter (fun z => z.part == 0)).length → (t.eng x.e).p pd = false ∧ t.evr.intake = s.evr.intake))

/-- R132 to R134: SAF.OFF switches the named safety outputs off at once and joins the mask of every group, SAF.ON and SAF.RST are
staged, SAF.GETIN reads the pair states of the trigger; each acts in the last clock of its count (R579). Off a lockstep pair
each is an undefined encoding. -/
def Obligations.SafetyInstructions : Prop :=
  ∀ (x : Guard) (wa : RegNo) (s0 s : State) (r : Run),
    (r.lock = true → s0.reaches x r 1 4 3 false s →
      let stages := fun (t : State) (item : StagedItem) => (t.group r.group).staged = (s.group r.group).staged
          ++ [{ clause := r.clause, disp := r.disp, item := item, ord := (s.group r.group).stageNo }]
      (∃ t, exec (.safOff x wa) s0 = .next t
        ∧ (∀ g < 16, (t.group g).offMask = (s.group g).offMask ||| BitVec.ofNat 32 (fld (s.w x.e wa) 15 0))
        ∧ t.saf.clauses.contains r.clause = true
        ∧ (∀ k < 16, bit (s.w x.e wa) k = true → s.isSafOut k = true → t.regB Reg.SAF_STAT k = false))
      ∧ (∃ t, exec (.safOn x wa) s0 = .next t ∧ stages t (.safOn (s.w x.e wa)))
      ∧ (∃ t, exec (.safRst x wa) s0 = .next t ∧ stages t (.safRst (s.w x.e wa)))
      ∧ (∃ t, exec (.safGetin x wa) s0 = .next t ∧ (wa ≠ 0 → t.w x.e wa = r.trig.getin)))
    ∧ (r.lock = false → s0.executes x r 1 1 →
      (∃ t, exec (.safOff x wa) s0 = .next t ∧ (t.eng x.e).run = none ∧ (t.counts r.clause).last = 4)
      ∧ (∃ t, exec (.safOn x wa) s0 = .next t ∧ (t.eng x.e).run = none ∧ (t.counts r.clause).last = 4))

/-! ### Register writes -/

/-- R8, R32, R33, R35, R40, R86, R159, R542: a write acts in the party's turn. A staged write of the service protocol joins the
set of its group and changes no register; DISCARD empties the selected set, in the clock of a full stop that of the next
one; CLE_CMAXCLR clears one count, before an end of the clause in the same clock; SCH_PLCTL takes a legal value and refuses
another; SYS_BOOT takes SEL from a commissioner. -/
def Obligations.RegisterWrites : Prop :=
  (∀ (g : GroupNo) (a : Fin 65536) (v : Word) (s : State), s.turnOf (.svc g) = true →
    (s.decoded a = true → isStaged a = true → a.val ≠ Reg.OPT_FBLIM → a.val ≠ Reg.LPE_SWAP →
      ¬ (0x0901 ≤ a.val ∧ a.val < 0x0A00 ∧ a.val % 4 = 1) → s.stopReal g = false → (s.group g).overflowed = false →
      (s.group g).pend.length < 128 →
      ∃ t, exec (.registerWrite (.svc g) a v) s = .next t ∧ (∀ q, t.reg q = s.reg q)
        ∧ (t.group g).pend = (s.group g).pend.filter (fun p => !(p.addr == a.val && p.clause == none && p.disp == 0))
            ++ [{ clause := none, disp := 0, addr := a, val := v, clk := s.clk, ord := (s.group g).stageNo }])
    ∧ (s.decoded a = false → exec (.registerWrite (.svc g) a v) s = .next (s.turned (.svc g))))
  ∧ (∀ (p : Party) (v : Word) (s : State), s.turnOf p = true →
    (let g := s.regF Reg.SYS_CPSEL 3 0
     bit v 0 = true → ∃ t, exec (.discard p v) s = .next t ∧ (∀ q, q ≠ g → t.group q = s.group q) ∧ (∀ q, t.reg q = s.reg q)
       ∧ (s.stopReal g = false → (t.group g).pend = [] ∧ (t.group g).overflowed = false)
       ∧ (s.stopReal g = true → (t.group g).pend = (s.group g).pend.filter (fun w => decide (w.clk < (s.group g).dueClk))))
    ∧ (let c := s.counts (fld v 7 0)
       ∃ t, exec (.cleCmaxclr p v) s = .next t ∧ (∀ q, q ≠ Reg.CLE_CMAX (fld v 7 0) → t.reg q = s.reg q)
         ∧ t.reg (Reg.CLE_CMAX (fld v 7 0)) = if c.endCount ≠ 0 ∧ c.endClk = s.clk then BitVec.ofNat 32 c.endCount else 0)
    ∧ (1 ≤ fld v 23 20 → fld v 23 20 ≤ 8 → fld v 19 12 ≠ 0 → 10 ≤ fld v 11 0 → fld v 11 0 ≤ 4000 →
      ∃ t, exec (.schPlctlWrite p v) s = .next t ∧ t.reg Reg.SCH_PLCTL = v &&& 0xCFFFFFFF)
    ∧ (4000 < fld v 11 0 → ∃ t, exec (.schPlctlWrite p v) s = .next t ∧ t.reg Reg.SCH_PLCTL = s.reg Reg.SCH_PLCTL))
  ∧ (∀ (g : GroupNo) (v : Word) (s : State), s.turnOf (.svc g) = true → 2 ≤ s.svcLevel → fld v 1 0 < 2 →
    ∃ t, exec (.sysBootWrite (.svc g) v) s = .next t ∧ t.regF Reg.SYS_BOOT 1 0 = fld v 1 0)

/-! ### Clauses, axes, full stops -/

/-- R138, R141, R148, R154: a trigger makes an enabled clause of an enabled group ready with the value that goes into W3; a
clause already ready counts it as lost. A compare unit's fire is taken in the order of clock and unit, a conjunction in a
clock after the last of its ends. -/
def Obligations.TriggersMakeReady : Prop :=
  ∀ (c : ClauseNo) (s : State), s.clauseEn c = true → s.groupEn (s.clauseGroup c) = true →
    let g := s.clauseGroup c
    let idle := s.sched.ready.any (fun r => r.clause == c.val) = false
    (∀ at_, mget (s.group g).trigNext c = some at_ → s.sched.on = true → s.clauseType c = 0 → s.groupAxis g = 0 →
      (s.tmbNs - at_).msb = false → s.noStep →
      ∃ t, exec (.periodicTrigger c) s = .next t ∧ mget (t.group g).trigNext c = some (at_ + s.reg (Reg.SCH_GPER g))
        ∧ (idle → ∃ q, t.sched.ready = s.sched.ready ++ [q] ∧ q.clause = c.val ∧ q.trig.w3 = at_)
        ∧ (¬ idle → t.sched.ready = s.sched.ready ∧ (t.counts c).trigLost = ((s.counts c).trigLost + 1) % 65536))
    ∧ (∀ (k : Fin 32), s.clauseType c = 1 → s.regF (Reg.SCH_CDC c) 4 0 = k → s.regB (Reg.SCH_CMPC k) 31 = true →
      (mgetD s.sched.cmp k {}).fire = true → s.fireFirst k = true → s.noStep →
      ∃ t, exec (.compareFire k) s = .next t ∧ (mgetD t.sched.cmp k {}).fire = false
        ∧ t.regF (Reg.SCH_CMPC k) 7 0 = (s.regF (Reg.SCH_CMPC k) 7 0 + 1) % 256
        ∧ ∃ q ∈ t.sched.ready, q.clause = c.val ∧ (idle → q.trig.w3 = s.reg (Reg.SCH_CMPP k)))
    ∧ (∀ (ends : List EndState), s.clauseType c = 3 → s.conjNames c ≠ [] → (s.conjNames c).map (s.group g).endOf = ends.map some →
      (∀ n ∈ s.conjNames c, (s.counts n).endClk < s.clk) → (s.group g).conjFired.contains c.val = false →
      ∃ t, exec (.conjunctionReady c) s = .next t ∧ (t.group g).conjFired = (s.group g).conjFired ++ [c.val]
        ∧ (idle → ∃ q, t.sched.ready = s.sched.ready ++ [q] ∧ q.clause = c.val ∧ q.trig.cjst = cjstWord ends))

/-- R61, R139: a dispatch takes the ready clause of the highest priority: W1 its number, W2 the group's sequence, W3 the
trigger's value, every other register, predicate, accumulator and flag 0. -/
def Obligations.DispatchResults : Prop :=
  ∀ (e : EngineNo) (delay : Fin 3) (s : State) (r : ReadyEntry), s.idle e = true → s.sched.on = true → s.pickReady e = some r →
    (∃ t, exec (.dispatch e delay) s = .next t
      ∧ t.w e 1 = BitVec.ofNat 32 r.clause ∧ t.w e 2 = BitVec.ofNat 32 (s.group (s.clauseGroup r.clause)).seq ∧ t.w e 3 = r.trig.w3
      ∧ (∀ k, 3 < k → t.w e k = 0) ∧ (∀ k, k ≠ 0 → (t.eng e).p k = false) ∧ (∀ k, (t.eng e).a k = 0) ∧ (t.eng e).esf = 0
      ∧ (t.eng e).pc = s.clauseEntry r.clause
      ∧ (∃ q, (t.eng e).run = some q ∧ q.clause = r.clause ∧ q.count = 0 ∧ q.budget = s.clauseBudget r.clause)
      ∧ t.sched.ready = s.sched.ready.filter (fun q => q.clause != r.clause))
    ∧ (∀ q ∈ s.sched.ready, s.canTake e q.clause = true → s.clausePrio q.clause ≤ s.clausePrio r.clause)

/-- R142, R143, R145, R545, R591: an axis tick advances the virtual axes by their rates, but for one that has taken SETPOS in
this tick, and starts scheduling in a running unit; an axis whose source stops being valid is lost and takes its source's value again when it returns. -/
def Obligations.AxisResults : Prop :=
  (∀ (s : State), s.tb.lastTick < s.tb.t / 1000 →
    ∃ t, exec .axisTick s = .next t ∧ t.tb.lastTick = s.tb.t / 1000 ∧ (s.boot.stage = .running → t.sched.on = true)
      ∧ ∀ n, 1 ≤ n → n < 8 → s.regF (Reg.SCH_AXSRC n) 6 4 = 4 → mget s.now.ticked n ≠ some (s.tb.t / 1000) → (t.axis n).pos = (s.axis n).pos + s.reg (Reg.SCH_AXRATE n))
  ∧ (∀ (n : AxisNo) (s : State), n ≠ 0 → s.regF (Reg.SCH_AXSRC n) 6 4 ≠ 0 → s.regF (Reg.SCH_AXSRC n) 6 4 ≠ 4 →
    (s.axis n).valid = true → s.axisSourceValid n = false →
    ∃ t, exec (.axisLoss n) s = .next t ∧ (t.axis n).valid = false ∧ (t.axis n).lost = true ∧ t.regB Reg.SCH_AXSTK n = true
      ∧ (t.axis n).pos = (s.axis n).pos)
  ∧ (∀ (n : AxisNo) (s : State), n ≠ 0 → (s.axis n).lost = true → s.axisSourceValid n = true →
    ∃ t, exec (.axisRestore n) s = .next t ∧ (t.axis n).valid = true ∧ (t.axis n).lost = false ∧ (t.axis n).pos = s.axisSourcePos n)

/-- R35, R150, R152, R156: a full stop, the first of those due, ends the group's running clauses, empties its set but for the
writes of its own clock, and its staged outputs, and advances its sequence; a forced one leaves the group stalled, and the
position it stood in for is skipped. -/
def Obligations.FullStopResults : Prop :=
  ∀ (g : GroupNo) (s : State), s.boot.stage = .running → s.sched.on = true → s.groupEn g = true →
    let x := s.group g
    let done := fun (t : State) => (t.group g).seq = (x.seq + 1) % 2 ^ 48 ∧ (t.group g).staged = []
      ∧ (t.group g).progress = [] ∧ (t.group g).offMask = 0 ∧ (t.group g).due = false
      ∧ (∀ e < 8, ∀ r, (t.eng e).run = some r → r.group ≠ g.val)
    (x.due = true → s.stopFirst g = true → s.noStep →
      (x.forcedInCycle = false → ∃ t, exec (.fullStop g) s = .next t ∧ done t ∧ (t.group g).stalled = false
        ∧ (t.group g).overflowed = x.overNext ∧ (∀ w ∈ (t.group g).pend, w ∈ x.pend ∧ x.dueClk ≤ w.clk))
      ∧ (x.forcedInCycle = true → ∃ t, exec (.skippedFullStop g) s = .next t ∧ (t.group g).seq = x.seq ∧ (t.group g).pend = x.pend
        ∧ (t.group g).forcedInCycle = false ∧ (t.group g).due = false
        ∧ (s.groupAxis g ≠ 0 → (t.group g).next = x.next + s.reg (Reg.SCH_GPER g))))
    ∧ (x.due = false → s.regF (Reg.SCH_GAX g) 15 0 ≠ 0 → x.elapsed + s.regF (Reg.SCH_GAX g) 15 0 * 1000000 ≤ s.tb.el →
      s.forcedFirst g = true → s.stopsTaken = true →
      ∃ t, exec (.forcedFullStop g) s = .next t ∧ done t ∧ (t.group g).stalled = true ∧ (t.group g).forced = (x.forced + 1) % 256
        ∧ (t.group g).pend = [])

/-! ### Power and clocks -/

/-- R48, R53 to R59: clock loss and return, the voltage steps of an island, the margin register, blocks switched off and on. A
block switched off loses its registers, and its ports are not decoded until it is ready again, 50 µs after the write that
switches it on. -/
def Obligations.PowerResults : Prop :=
  (∀ (d : Fin 17) (s : State), s.boot.lostNow.contains d.val = false →
    (resetDomain d = false → ∃ t, exec (.clockLoss d) s = .next t ∧ t.regB Reg.SYS_CLK_STK d = true ∧ t.boot.lostNow.contains d.val = true
        ∧ t.boot.stage = s.boot.stage)
    ∧ (resetDomain d = true → s.boot.stage ≠ .off →
      ∃ t, exec (.clockLoss d) s = .next t ∧ t.boot.stage = .off ∧ t.boot.holdReset = [d.val]
        ∧ t.regF Reg.SYS_RSTCAUSE 31 28 = 1 ∧ t.engs = []))
  ∧ (∀ (d : Fin 17) (s : State), s.boot.lostNow.contains d.val = true →
    (resetDomain d = true → s.boot.stage = .off → s.boot.holdReset = [d.val] →
      ∃ t, exec (.clockDomainReturn d) s = .next t ∧ t.boot.stage = .selftest ∧ t.boot.lostNow.contains d.val = false)
    ∧ (resetDomain d = false → ∃ t, exec (.clockDomainReturn d) s = .next t ∧ t.boot.lostNow.contains d.val = false
        ∧ t.boot.stage = s.boot.stage))
  ∧ (∀ (k : Fin 3) (m : Int) (s : State), s.boot.stage = .running →
    let lo : Int := s.regF Reg.PWR_MARGIN 7 0
    let hi : Int := s.regF Reg.PWR_MARGIN 15 8
    let v := s.regF (Reg.PWR_AVS k) 5 0
    ∃ t, exec (.avsEvaluation k m) s = .next t
      ∧ (m < lo - 4 → t.regF (Reg.PWR_AVS k) 5 0 = min 50 (v + 4))
      ∧ (lo - 4 ≤ m → m < lo → t.regF (Reg.PWR_AVS k) 5 0 = min 50 (v + 1))
      ∧ (lo ≤ m → m < hi → t.regF (Reg.PWR_AVS k) 5 0 = v)
      ∧ (lo ≤ m → hi ≤ m → (mgetD s.boot.avs k {}).high = 15 → s.regB (Reg.PWR_AVS k) 31 = false → t.regF (Reg.PWR_AVS k) 5 0 = v - 1)
      ∧ (0 ≤ m → m < 256 → (t.regF (Reg.PWR_AVS k) 23 16 : Int) = m))
  ∧ (∀ (p : Party) (v : Word) (s : State), s.turnOf p = true →
    (2 ≤ fld v 7 0 → fld v 7 0 < fld v 15 8 →
      ∃ t, exec (.pwrMarginWrite p v) s = .next t ∧ t.reg Reg.PWR_MARGIN = v &&& 0xFFFF)
    ∧ (fld v 7 0 < 2 ∨ fld v 15 8 ≤ fld v 7 0 →
      ∃ t, exec (.pwrMarginWrite p v) s = .next t ∧ t.reg Reg.PWR_MARGIN = s.reg Reg.PWR_MARGIN ∧ t.regB Reg.PWR_FLT_STK 3 = true)
    ∧ ((∀ b < 5, bit v b = true → s.regB Reg.PWR_OFF b = false → s.blockBusy b = false) →
      ∃ t, exec (.pwrOffWrite p v) s = .next t ∧ t.reg Reg.PWR_OFF = v &&& 0x1F
        ∧ (∀ b < 5, bit v b = true → s.regB Reg.PWR_OFF b = false →
            ∀ a, blockPorts b a = true → t.reg a = resetWord a ∧ t.decoded a = false)
        ∧ (∀ b < 5, bit v b = false → s.regB Reg.PWR_OFF b = true → (b, s.tb.el) ∈ t.boot.powering))
    ∧ (∀ b < 5, bit v b = true → s.regB Reg.PWR_OFF b = false → s.blockBusy b = true →
      ∃ t, exec (.pwrOffWrite p v) s = .next t ∧ t.reg Reg.PWR_OFF = s.reg Reg.PWR_OFF ∧ t.regB Reg.PWR_FLT_STK 4 = true))
  ∧ (∀ (b : Fin 5) (el : Nat) (s : State), (b.val, el) ∈ s.boot.powering → el + 50000 ≤ s.tb.el →
    ∃ t, exec (.blockPowerReady b) s = .next t ∧ (∀ q ∈ t.boot.powering, q.1 ≠ b.val)
      ∧ ((∀ q ∈ s.boot.imgVals, blockPorts b q.1 = false) → ∀ a, blockPorts b a = true → t.reg a = resetWord a))

/-! ### Banks, bulk memory, routes -/

/-- R43, R44: an element for a ring is written at WPTR, which advances; one that the route does not carry is dropped and
counted. -/
def Obligations.RouteResults : Prop :=
  ∀ (n : Fin 64) (el : List Word) (rest : List (Nat × List Word)) (s : State), takeRoute n s.banks.routeQ = some (el, rest) →
    let rts := s.reg (Reg.MBK_RTS n)
    let rtb := s.reg (Reg.MBK_RTB n)
    let p := s.regF (Reg.MBK_RTC n) 12 0
    (∀ w, el = [w] → s.Canonical → bit rts 31 = true → routeBad rts rtb = false → fld rts 9 6 = 8 →
      s.owner (fld rtb 31 26) = sourceOwner (fld rts 25 22) (fld rts 21 16) → p < fld rtb 12 0 →
      ∃ t, exec (.routeDelivery n) s = .next t ∧ t.banks.routeQ = rest
        ∧ t.bankWord (fld rtb 31 26) (4 * (fld rtb 25 13 + p)) = w
        ∧ (∀ a, a < bankAddr (fld rtb 31 26) (4 * (fld rtb 25 13 + p)) ∨ bankAddr (fld rtb 31 26) (4 * (fld rtb 25 13 + p)) + 4 ≤ a →
            t.byteAt a = s.byteAt a)
        ∧ t.regF (Reg.MBK_RTC n) 12 0 = (p + 1) % fld rtb 12 0)
    ∧ (bit rts 31 = false → ∃ t, exec (.routeDelivery n) s = .next t ∧ t.banks.routeQ = rest ∧ sameBytes s t
        ∧ t.regF (Reg.MBK_RTC n) 31 16 = (s.regF (Reg.MBK_RTC n) 31 16 + 1) % 65536)

/-- R164, R166, R168, R169, R172: MBK_OWN passes a bank or refuses; banks rest and wake; a DRAM scrub counts what it corrected
and makes the unit unhealthy by what it could not. -/
def Obligations.BankResults : Prop :=
  (∀ (p : Party) (v : Word) (s : State),
    let b := fld v 21 16
    s.turnOf p = true →
    let allowed := match p with
      | .eng e => ¬ (s.owner b < 8) ∨ s.owner b = s.ownerOf e
      | .svc _ => 8 ≤ s.owner b ∧ 2 ≤ s.svcLevel
    (allowed → s.ownerCode (fld v 15 8) = true → s.isRing b = false → s.dmaHolds b = false → s.bankInUse b = false →
      ∃ t, exec (.mbkOwnWrite p v) s = .next t ∧ t.owner b = fld v 15 8 ∧ (∀ q, q ≠ b → t.owner q = s.owner q) ∧ sameBytes s t)
    ∧ (s.bankInUse b = true → ∃ t, exec (.mbkOwnWrite p v) s = .next t ∧ (∀ q, t.owner q = s.owner q) ∧ t.regB Reg.MBK_STK 0 = true))
  ∧ (∀ (b : BankNo) (s : State), s.regB Reg.MBK_RETCTL 31 = true → s.restOwner (s.owner b) = true → s.keptAwake b = false →
    s.isRing b = false → mget s.banks.power b = none → mgetD s.banks.lastUse b 0 + 400 * s.regF Reg.MBK_RETCTL 15 0 ≤ s.clk →
    ∃ t, exec (.bankRetentionEntry b) s = .next t ∧ t.bankAsleep b = true ∧ sameBytes s t)
  ∧ (∀ (b : BankNo) (s : State), s.bankAsleep b = true → ∃ t, exec (.bankWake b) s = .next t ∧ t.bankAsleep b = false ∧ sameBytes s t)
  ∧ (∀ (ce : Nat) (s : State), ce ≠ 0 → ∃ t, exec (.dramScrub ce []) s = .next t ∧ t.regB Reg.MBK_STK 2 = true
      ∧ t.regF Reg.MBK_ECC 31 16 = (s.regF Reg.MBK_ECC 31 16 + ce) % 65536 ∧ t.health = s.health ∧ sameBytes s t)
  ∧ (∀ (a : Nat) (s : State), ∃ t, exec (.dramScrub 0 [a]) s = .next t ∧ t.regB Reg.MBK_STK 3 = true ∧ t.healthy = false
      ∧ t.banks.dramBad.contains a = true)

/-- R173, R174: a DMA transfer that is accepted waits, one that is refused leaves the channel's transfer; at its end its bytes
stand at the destination, and no other byte has changed. -/
def Obligations.DmaResults : Prop :=
  (∀ (p : Party) (ch : Fin 4) (v : Word) (s : State),
    let len := s.regF (Reg.MBK_DB ch) 31 19 + 1
    let bank := s.regF (Reg.MBK_DB ch) 18 13
    s.turnOf p = true → bit v 31 = true → ch ≠ 3 →
    (fld v 30 29 = 0 → fld v 24 21 ≠ 0 → s.regF (Reg.MBK_DB ch) 12 0 + len ≤ 8192 →
      s.regF (Reg.MBK_DA ch) 28 0 / 4 * 4 + 4 * len ≤ 536870912 → (s.dmaCh ch).pending = false → s.owner bank = 0x38 + ch →
      ∃ t, exec (.dmaStart p ch v) s = .next t ∧ (t.dmaCh ch).pending = true ∧ (t.dmaCh ch).complete = false
        ∧ (t.dmaCh ch).len = len ∧ (t.dmaCh ch).bank = bank ∧ (t.dmaCh ch).left = fld v 24 21 ∧ sameBytes s t)
    ∧ ((s.dmaCh ch).pending = true → ∃ t, exec (.dmaStart p ch v) s = .next t ∧ (t.dmaCh ch).len = (s.dmaCh ch).len
        ∧ (t.dmaCh ch).left = (s.dmaCh ch).left ∧ (t.dmaCh ch).refusedNow = true))
  ∧ (∀ (ch : Fin 4) (upset : List Nat) (ce : Nat) (ue : List Nat) (s : State), s.Canonical → (s.dmaCh ch).pending = true → (s.dmaCh ch).complete = false →
    let c := s.dmaCh ch
    let here := bankAddr c.bank (4 * c.woff)
    (c.dir = 0 → ∃ t, exec (.dmaTransferComplete ch upset ce ue) s = .next t ∧ (t.dmaCh ch).complete = true
        ∧ (∀ i < 4 * c.len, t.byteAt (here + i) = s.dramAt (c.far + i))
        ∧ (∀ a, a < here ∨ here + 4 * c.len ≤ a → t.byteAt a = s.byteAt a) ∧ (∀ a, t.dramAt a = s.dramAt a))
    ∧ (c.dir = 1 → ∃ t, exec (.dmaTransferComplete ch upset ce ue) s = .next t ∧ (t.dmaCh ch).complete = true
        ∧ (∀ i < 4 * c.len, t.dramAt (c.far + i) = s.byteAt (here + i))
        ∧ (∀ a, a < c.far ∨ c.far + 4 * c.len ≤ a → t.dramAt a = s.dramAt a) ∧ (∀ a, t.byteAt a = s.byteAt a)))

/-! ### Solver and sequencer -/

/-- R181, R182, R188, R189, R198 to R202, R205, R206: a batch that is validated keeps its operations or ends refused, an eligible
operation issues, a commit no later than 2 µs after the deadline makes an operation final, the deadline and its grace end
what remains, a tile fault starts a self-test, SOL_TREL releases a complete ticket that no engine waits on. (A batch of the
sequencer or the fusion engine may be followed at its completion by the next of its job, under the next number.) -/
def Obligations.SolverResults : Prop :=
  (∀ (b : Nat) (x : Batch) (s : State), s.batch b = some x → x.valid = false →
    (s.batchFault x = none → s.batchDue x = false →
      ∃ t y, exec (.batchValidationEnd b) s = .next t ∧ t.batch b = some y ∧ y.valid = true ∧ y.ops.length = x.count
        ∧ (∀ o ∈ y.ops, o.st = .waiting) ∧ sameBytes s t)
    ∧ (∀ f, s.batchFault x = some f → ∃ t, exec (.batchValidationEnd b) s = .next t ∧ (b ≠ s.sol.next → t.batch b = none)
        ∧ t.regB Reg.SOL_STK 1 = true))
  ∧ (∀ (b i : Nat) (x : Batch) (o : SolOp) (s : State), s.sol.batches = [(b, x)] → x.valid = true → x.dead = false →
    s.batchDue x = false → x.ops[i]? = some o → x.ready i = true → (∀ k < i, x.ready k = false) → s.regF Reg.SOL_INFL 7 0 < 64 →
    ∃ t, exec .operationIssue s = .next t ∧ t.regF Reg.SOL_INFL 7 0 = s.regF Reg.SOL_INFL 7 0 + 1
      ∧ t.batch b = some { x with ops := lset x.ops i { o with st := .flight } })
  ∧ (∀ (b i : Nat) (upset : List Nat) (x : Batch) (o : SolOp) (s : State), s.batch b = some x → x.ops[i]? = some o → o.st = .flight →
    s.pastDue x ≤ 2000 →
    ∃ t, exec (.operationCommit b i upset) s = .next t ∧ t.regF Reg.SOL_INFL 7 0 = s.regF Reg.SOL_INFL 7 0 - 1
      ∧ (b ≠ s.sol.next → ∀ y, t.batch b = some y → ∃ p, y.ops[i]? = some p ∧ p.st = .final))
  ∧ (∀ (b : Nat) (x : Batch) (s : State), s.batch b = some x → x.valid = true → x.dead = false → s.batchDue x = true →
    ∃ t, exec (.solverDeadline b) s = .next t
      ∧ (b ≠ s.sol.next → ∀ y, t.batch b = some y → y.dead = true ∧ ∀ p ∈ y.ops, p.st ≠ .waiting))
  ∧ (∀ (b : Nat) (x : Batch) (s : State), s.batch b = some x → x.dead = true → 2000 ≤ s.pastDue x →
    ∃ t, exec (.deadlineGraceExpiry b) s = .next t ∧ (b ≠ s.sol.next → t.batch b = none))
  ∧ (∀ (k : Fin 4) (ops : List (Nat × Nat)) (s : State), s.regB Reg.SOL_TILE k = false → s.sol.testing.contains k.val = false →
    ∃ t, exec (.tileFault k ops) s = .next t ∧ t.sol.testing.contains k.val = true ∧ t.regB Reg.SOL_STK 5 = true
      ∧ t.regF Reg.SOL_TILE (9 + 6 * k) (4 + 6 * k) = (s.regF Reg.SOL_TILE (9 + 6 * k) (4 + 6 * k) + 1) % 64)
  ∧ (∀ (k : Fin 4) (pass : Bool) (s : State), s.sol.testing.contains k.val = true →
    ∃ t, exec (.tileSelftestEnd k pass) s = .next t ∧ t.sol.testing.contains k.val = false
      ∧ (pass = false → t.regB Reg.SOL_TILE k = true ∧ t.healthy = false))
  ∧ (∀ (p : Party) (v : Word) (s : State), s.turnOf p = true → s.portOff Reg.SOL_TREL = false →
    let n := fld v 5 0
    (∀ k, mget s.sol.tickets n = some k → k.complete = true → (∀ e < 8, s.ticketWaited e n = false) →
      ∃ t, exec (.solTrel p v) s = .next t ∧ mget t.sol.tickets n = none ∧ t.freeTicket ≠ some n ∧ sameRegs s t [])
    ∧ (mget s.sol.tickets n = none →
      ∃ t, exec (.solTrel p v) s = .next t ∧ t.sol = s.sol ∧ t.regB Reg.SOL_STK 6 = true))

/-- R212, R220 to R223, R232, R235: a run is validated and begins its first iteration, or is refused; an iteration whose batches
have all completed with no saturation gives the next iterate, one with a fault ends the iterating with ITFAIL, one cut by
the deadline with DLN; the run ends counted by its outcome. OPT_FBLIM is staged unless its limit is 0. -/
def Obligations.SequencerResults : Prop :=
  (∀ (r : OptRun) (s : State), s.opt.run = some r →
    let h := s.optHdr r.bank r.off
    let q := s.job 1
    (r.phase = .check → s.optFault h = none → r.done = 0 → 0 < h.iter → s.optDue h = false →
      ∃ t z, exec .optValidationEnd s = .next t ∧ t.opt.run = some z ∧ z.phase = .iterate ∧ z.done = 0
        ∧ z.cur = s.optBegin h r.grant ∧ t.regF Reg.OPT_STAT 17 12 = 1)
    ∧ (r.phase = .check → ∀ k, s.optFault h = some k →
      ∃ t, exec .optValidationEnd s = .next t ∧ t.opt.run = none ∧ t.regB Reg.OPT_STK 1 = true
        ∧ t.reg Reg.OPT_NREF = s.reg Reg.OPT_NREF + 1)
    ∧ (r.phase = .iterate → q.busy = false → q.late = false →
      (q.bad = false → r.next.2 = false →
        ∃ t z, exec .optIterationEnd s = .next t ∧ t.opt.run = some z ∧ z.done = r.done + 1 ∧ z.cur = r.next.1
          ∧ z.macs = r.macs + q.macs ∧ (h.iter ≤ r.done + 1 ∨ s.optDue h = true → z.phase = .publish)
          ∧ (r.done + 1 < h.iter → s.optDue h = false → z.phase = .iterate))
      ∧ (q.bad = true ∨ r.next.2 = true →
        ∃ t z, exec .optIterationEnd s = .next t ∧ t.opt.run = some z ∧ z.done = r.done ∧ z.itfail = true ∧ z.phase = .publish))
    ∧ (r.phase = .iterate → q.busy = false → q.late = true →
      ∃ t z, exec .optIterationEnd s = .next t ∧ t.opt.run = some z ∧ z.done = r.done ∧ z.dln = true ∧ z.phase = .publish)
    ∧ (r.phase = .publish → q.busy = false →
      ∃ t, exec .optRunComplete s = .next t ∧ t.opt.run = none ∧ t.opt.endClk = some s.clk ∧ t.regB Reg.OPT_STAT 31 = false
        ∧ (∀ p, r.best = some p → p.iter = h.iter → t.reg Reg.OPT_NSOLV = s.reg Reg.OPT_NSOLV + 1)
        ∧ (∀ p, r.best = some p → p.iter ≠ h.iter → t.reg Reg.OPT_NEARLY = s.reg Reg.OPT_NEARLY + 1)
        ∧ (r.best = none → h.warm = true → t.reg Reg.OPT_NWARM = s.reg Reg.OPT_NWARM + 1)
        ∧ (r.best = none → h.warm = false → t.reg Reg.OPT_NZERO = s.reg Reg.OPT_NZERO + 1)))
  ∧ (∀ (g : GroupNo) (v : Word) (s : State), s.turnOf (.svc g) = true → s.portOff Reg.OPT_FBLIM = false →
    (fld v 7 0 = 0 → exec (.optFblimWrite (.svc g) v) s = .next (s.turned (.svc g)))
    ∧ (fld v 7 0 ≠ 0 → s.stopReal g = false → (s.group g).overflowed = false → (s.group g).pend = [] →
      ∃ t, exec (.optFblimWrite (.svc g) v) s = .next t ∧ (∀ q, t.reg q = s.reg q)
        ∧ (t.group g).pend = [{ clause := none, disp := 0, addr := Reg.OPT_FBLIM, val := v, clk := s.clk, ord := (s.group g).stageNo }]))

/-! ### Loop engine -/

/-- R239 to R243, R248, R249, R257, R261: a slot samples at its grid instants, a lane evaluates the earliest pending sample, the
output is published at its instant, or the sample is skipped when no lane has evaluated it, a reaction past GRACE escalates
to the safe value; the commands of a slot and the loss of a lane. -/
def Obligations.LoopSlotResults : Prop :=
  (∀ (n : Fin 64) (s : State),
    let per := s.regF (Reg.LPE_TRG n) 19 0 * 1000
    s.regB (Reg.LPE_CFG n) 31 = true → s.regB (Reg.LPE_TRG n) 31 = false → 0 < per → (s.slot n).lastInst < s.tb.t / per * per → s.noStep →
    ∃ t m, exec (.loopSample n) s = .next t ∧ (t.slot n).samples = (s.slot n).samples ++ [m] ∧ m.el = s.tb.el ∧ m.result = none
      ∧ m.lane = s.laneOf n ∧ (t.slot n).arm = false ∧ (t.slot n).lastInst = s.tb.t / per * per)
  ∧ (∀ (lane : Fin 4) (n : Nat) (x : LoopSlot) (m : LoopSample) (s : State), s.lpe.lanesOut.contains lane.val = false →
    s.laneNext lane = some (n, x, m) →
    ∃ t, exec (.loopEvaluation lane) s = .next t ∧ sameRegs s t []
      ∧ (t.slot n).samples = (s.slot n).samples.map (fun q => if q = m then { m with result := some (s.evaluate n x m) } else q))
  ∧ (∀ (n : Fin 64) (m : LoopSample) (rest : List LoopSample) (s : State), (s.slot n).samples = m :: rest →
    m.el + s.regF Reg.LPE_CTL 7 0 * 1000 ≤ s.tb.el →
    (∀ r, m.result = some r → (s.slot n).mode ≠ 2 →
      ∃ t, exec (.loopOutputInstant n) s = .next t ∧ t.reg (Reg.LPE_OUT n) = BitVec.ofInt 32 r.u ∧ t.reg (Reg.LPE_ERR n) = BitVec.ofInt 32 r.e
        ∧ (t.slot n).samples = rest ∧ (t.slot n).mode = r.mode ∧ (t.slot n).st = r.st ∧ (t.slot n).com = r.st
        ∧ t.reg Reg.LPE_NEVAL = s.reg Reg.LPE_NEVAL + 1)
    ∧ (m.result = none → ∃ t, exec (.loopOutputInstant n) s = .next t ∧ (t.slot n).samples = rest ∧ (t.slot n).skipped = true
        ∧ t.reg (Reg.LPE_OUT n) = s.reg (Reg.LPE_OUT n) ∧ t.regB (Reg.LPE_STK n) 9 = true
        ∧ t.reg Reg.LPE_NSKIP = s.reg Reg.LPE_NSKIP + 1))
  ∧ (∀ (n : Fin 64) (s : State), s.regB (Reg.LPE_CFG n) 31 = true → (s.slot n).mode = 1 →
    (s.reg (Reg.LPE_GRACE n)).toNat * 1000 ≤ s.tb.el - (s.slot n).reactEl →
    ∃ t, exec (.loopEscalationCheck n) s = .next t ∧ (t.slot n).mode = 2 ∧ t.reg (Reg.LPE_OUT n) = s.reg (Reg.LPE_SAFE n))
  ∧ (∀ (p : Party) (v : Word) (s : State), s.turnOf p = true → s.portOff Reg.LPE_ARM = false → s.regB (Reg.LPE_CFG (fld v 5 0)) 31 = true →
    ∃ t, exec (.lpeArm p v) s = .next t ∧ (t.slot (fld v 5 0)).arm = true ∧ sameRegs s t [])
  ∧ (∀ (g : GroupNo) (v : Word) (s : State), s.turnOf (.svc g) = true → s.portOff Reg.LPE_SWAP = false → bit v 31 = false →
    s.swapFits g (.swap false (fld v 5 0) (fld v 13 8 + 1)) = true →
    ∃ t, exec (.lpeSwapWrite (.svc g) v) s = .next t ∧ (t.group g).staged = (s.group g).staged
      ++ [{ clause := 256, disp := 0, item := .swap false (fld v 5 0) (fld v 13 8 + 1), ord := (s.group g).stageNo }])
  ∧ (∀ (p : Party) (n : Fin 64) (page : Fin 2) (w : Fin 24) (v : Word) (s : State), s.turnOf p = true →
    s.portOff (Reg.LPE_PAGE n page w) = false →
    ((s.slot n).page ≠ page.val → ∃ t, exec (.lpePageWrite p n page w v) s = .next t ∧ t.reg (Reg.LPE_PAGE n page w) = v
        ∧ sameRegs s t [Reg.LPE_PAGE n page w])
    ∧ ((s.slot n).page = page.val → ∃ t, exec (.lpePageWrite p n page w v) s = .next t ∧ t.regB (Reg.LPE_STK n) 13 = true
        ∧ sameRegs s t [Reg.LPE_STK n]))
  ∧ (∀ (lane : Fin 4) (s : State), s.lpe.lanesOut.contains lane.val = false →
    ∃ t, exec (.laneFault lane) s = .next t ∧ t.lpe.lanesOut.contains lane.val = true ∧ t.regB Reg.LPE_GSTK 1 = true)

/-- R245, steps 7 and 10: an evaluation in normal mode keeps the integrator and, with no slew limit, the output within the
limits of the page. -/
def Obligations.LoopOutputsAreLimited : Prop :=
  ∀ (s : State) (n : Fin 64) (x : LoopSlot) (m : LoopSample),
    let w := fun k => (s.page n m.page k).toInt
    let r := s.evaluate n x m
    x.mode ≠ 2 → r.mode = 0 →
    (w 4 ≤ w 5 → w 4 * 2 ^ 30 ≤ r.st.i ∧ r.st.i ≤ w 5 * 2 ^ 30)
    ∧ (w 20 ≤ w 21 → w 22 = 0 → w 20 ≤ r.u ∧ r.u ≤ w 21)

/-! ### Fusion -/

/-- R267, R268, R271, R278 to R281, R285, R289, R291: an element posted into a slot, a frame, the ends of a propagation and an
update batch, the inertial unit's faults, dead reckoning and the wave tracker. -/
def Obligations.FusionResults : Prop :=
  (∀ (p : Party) (v : Word) (s : State), s.turnOf p = true → s.portOff Reg.FUS_POST = false →
    let k := fld v 12 8
    let n := fld v 6 0
    (k ≤ 12 → n ≠ 0 → n = elemLen (s.rfType k) (s.preg (partyNo p) (Reg.FUS_PBUF 0)) → s.fusOn = true → s.regB (Reg.FUS_SCFG k) 31 = true →
      ∃ t, exec (.fusPost p v) s = .next t
        ∧ (t.rf k).held = some ((List.range n).map (fun i => s.preg (partyNo p) (Reg.FUS_PBUF i)), s.tb.el)
        ∧ t.reg (Reg.FUS_NRECV k) = s.reg (Reg.FUS_NRECV k) + 1
        ∧ ((s.rf k).held = none → t.reg (Reg.FUS_NPEND k) = s.reg (Reg.FUS_NPEND k) + 1)
        ∧ ((s.rf k).held ≠ none → t.reg (Reg.FUS_REJ_OVW k) = s.reg (Reg.FUS_REJ_OVW k) + 1))
    ∧ (12 < k → ∃ t, exec (.fusPost p v) s = .next t ∧ t.regB Reg.FUS_STK 0 = true ∧ t.fus = s.fus))
  ∧ (∀ (p : Party) (v : Word) (s : State), s.turnOf p = true → s.portOff Reg.FUS_UPD = false → s.fusOn = true →
    s.regB Reg.FUS_CTL 29 = true →
    (s.fus.upd ≠ none → ∃ t, exec (.fusUpd p v) s = .next t ∧ t.fus.heldUpd = some v ∧ t.fus.upd = s.fus.upd)
    ∧ (∀ e, s.fus.upd = none → s.fus.queue = [e] → turnDiff (BitVec.ofNat 32 (e.frame * s.fper)) v ≤ 0 →
      ∃ t, exec (.fusUpd p v) s = .next t ∧ t.fus.queue = []))
  ∧ (∀ (s : State),
    let per := s.fper
    s.fusOn = true → 0 < per → s.fus.lastInst < s.tb.t / per * per → s.noStep →
    ∃ t, exec .frameInstant s = .next t ∧ t.fus.frame = s.tb.t / per ∧ t.fus.lastInst = s.tb.t / per * per ∧ t.fus.prop = true)
  ∧ (∀ (s : State), s.fus.prop = true → (s.job 2).busy = false →
    ∃ t, exec .fusionPropagationComplete s = .next t ∧ t.fus.prop = false
      ∧ ((s.job 2).late = false → (s.job 2).bad = false → t.fus.psel = 1 - s.fus.propSel)
      ∧ ((s.job 2).late = true ∨ (s.job 2).bad = true → t.fus.psel = s.fus.psel ∧ t.regB Reg.FUS_STK 5 = true))
  ∧ (∀ (u : FusUpdate) (s : State), s.fus.upd = some u → s.fus.heldUpd = none → s.fus.owed = 0 → (s.job 3).busy = false →
    ∃ t, exec .fusionUpdateComplete s = .next t ∧ t.fus.upd = none ∧ t.reg Reg.FUS_DIGEST = crc32c (digestBytes u.used)
      ∧ ((s.job 3).late = false → (s.job 3).bad = false → t.fus.psel = 1 - u.psel)
      ∧ ((s.job 3).late = true ∨ (s.job 3).bad = true → t.fus.nom = s.fus.nom ∧ t.regB Reg.FUS_STK 5 = true))
  ∧ (∀ (inc : List Word) (s : State), s.fus.imuTick < s.tb.t / 1000000 →
    (∃ t, exec (.imuSample true inc) s = .next t ∧ t.fus.imuLast = inc.take 6 ∧ t.fus.imuBad = 0 ∧ t.fus.imuGood = s.fus.imuGood + 1)
    ∧ (∃ t, exec (.imuSample false inc) s = .next t ∧ t.fus.imuLast = s.fus.imuLast ∧ t.fus.imuBad = s.fus.imuBad + 1 ∧ t.fus.imuGood = 0))
  ∧ (∀ (s : State), 20 ≤ s.fus.imuBad → s.fus.imuf = false →
    ∃ t, exec .imuFault s = .next t ∧ t.fus.imuf = true ∧ t.regB Reg.FUS_STK 4 = true ∧ sameRegs s t [Reg.FUS_STK])
  ∧ (∀ (s : State), s.fus.imuf = true → 1000 ≤ s.fus.imuGood → ∃ t, exec .imuRestore s = .next t ∧ t.fus.imuf = false ∧ sameRegs s t [])
  ∧ (∀ (s : State), s.fusOn = true → s.fus.posunc = false → s.regF Reg.FUS_DRLIM 11 0 * 1000 ≤ s.fusDrt →
    ∃ t, exec .posUncertain s = .next t ∧ t.fus.posunc = true ∧ t.regB Reg.FUS_STK 2 = true)
  ∧ (∀ (e : Nat) (s : State), s.fus.wave.okEl = some e → 20000000000 ≤ s.tb.el - e →
    ∃ t, exec .waveValid s = .next t ∧ t.fus.wvalid = true ∧ t.wave.valid = true ∧ sameRegs s t [])

/-! ### Satellite baseband -/

/-- R299, R302 to R305, R315, R316: antenna supplies, search lists, the interference monitor and the thresholds. -/
def Obligations.GnssSearchResults : Prop :=
  (∀ (p : Party) (a : Fin 2) (v : Word) (s : State), s.turnOf p = true → s.portOff (Reg.GNB_ANT a) = false →
    (bit v 31 = true → s.regB (Reg.GNB_ANT a) 31 = false → ∃ t, exec (.antEnableWrite p a v) s = .next t ∧ t.antState a = 1)
    ∧ (bit v 31 = false → ∃ t, exec (.antEnableWrite p a v) s = .next t ∧ t.antState a = 0 ∧ t.regB (Reg.GNB_ANT a) 31 = false))
  ∧ (∀ (a : Fin 2) (ma : Nat) (s : State),
    (s.antState a = 1 → ma < 3 → ∃ t, exec (.antOpen a ma) s = .next t ∧ t.antState a = 2 ∧ t.regB Reg.GNB_STK 2 = true)
    ∧ (s.antState a = 2 → 3 ≤ ma → ∃ t, exec (.antOk a ma) s = .next t ∧ t.antState a = 1)
    ∧ (s.antState a = 1 ∨ s.antState a = 2 → 130 < ma → ∃ t, exec (.antShort a ma) s = .next t ∧ t.antState a = 3
        ∧ t.regB Reg.GNB_STK 2 = true)
    ∧ (s.antState a = 3 → 1000000000 ≤ s.tb.el - (mgetD s.gnb.ants a {}).shortEl →
      (ma ≤ 130 → ∃ t, exec (.antRetry a ma) s = .next t ∧ t.antState a = 1)
      ∧ (130 < ma → (mgetD s.gnb.ants a {}).fails = 4 → ∃ t, exec (.antRetry a ma) s = .next t ∧ t.antState a = 4)
      ∧ (130 < ma → (mgetD s.gnb.ants a {}).fails < 4 → ∃ t, exec (.antRetry a ma) s = .next t ∧ t.antState a = 3
          ∧ (mgetD t.gnb.ants a {}).fails = (mgetD s.gnb.ants a {}).fails + 1)))
  ∧ (∀ (p : Party) (v : Word) (s : State), s.turnOf p = true → s.portOff Reg.GNB_ACQ = false →
    let off := fld v 14 0 / 4 * 4
    (s.gnb.acq = none → fld v 30 26 ≠ 0 → fld v 30 26 ≤ 16 → off + 32 * fld v 30 26 ≤ 32768 → s.owner (fld v 20 15) = gnbOwner →
      ∃ t, exec (.acqStart p v) s = .next t ∧ t.gnb.acq = some { bank := fld v 20 15, off := off, count := fld v 30 26 }
        ∧ t.regB Reg.GNB_ACQSTAT 31 = true ∧ t.bankInUse (fld v 20 15) = true)
    ∧ (∀ q, s.gnb.acq = some q → ∃ t, exec (.acqAbort p v) s = .next t ∧ t.gnb.acq = none ∧ t.regB Reg.GNB_ACQSTAT 31 = false
        ∧ t.regB Reg.GNB_ACQSTAT 30 = true))
  ∧ (∀ (q : AcqList) (s : State), s.gnb.acq = some q → q.active = none → s.gnb.stopped = false →
    let ws := s.bankWords (bankAddr q.bank (q.off + 32 * q.cur)) 4
    acqEntryOk ws = true → ∃ t, exec .searchEntryStart s = .next t
      ∧ t.gnb.acq = some { q with active := some ws, snap := s.tmbNs, el := s.tb.el })
  ∧ (∀ (q : AcqList) (w0 w1 f0 step : Word) (cells : List AcqCell) (s : State), s.gnb.acq = some q →
    q.active = some [w0, w1, f0, step] → acqTime w0 ≤ s.tb.el - q.el → s.Canonical →
    let a := bankAddr q.bank (q.off + 32 * q.cur + 16)
    let l := (List.range (fld w0 16 9)).flatMap (binCells w0 w1 f0 step cells)
    ∃ t p, exec (.searchEntryEnd cells) s = .next t
      ∧ (l ≠ [] → p ∈ l ∧ ∀ c ∈ l, c.sum < p.sum ∨ (c.sum = p.sum ∧ p.bin ≤ c.bin))
      ∧ (l = [] → p.code = fld w1 31 16 * 65536 ∧ p.bin = 0)
      ∧ t.bankWords a 4 = [BitVec.ofNat 32 p.code, BitVec.ofNat 32 (acqMetric p.sum l * 65536 + p.bin),
          (if s.regF Reg.GNB_ACQCTL 31 16 ≤ acqMetric p.sum l then 0x40000000 else 0x80000000), q.snap]
      ∧ (∀ b, b < a ∨ a + 16 ≤ b → t.byteAt b = s.byteAt b)
      ∧ (q.cur + 1 < q.count → t.gnb.acq = some { q with cur := q.cur + 1, active := none }) ∧ (q.count ≤ q.cur + 1 → t.gnb.acq = none))
  ∧ (∀ (a b : Fin 2) (peak agc : Nat) (freq : Int) (s : State),
    let k := 2 * a.val + b.val
    ∃ t, exec (.interferenceMeasurement a b peak freq agc) s = .next t ∧ t.regF (Reg.GNB_INT k) 31 24 = min peak 255
      ∧ (s.regF Reg.GNB_ACQCTL 15 8 ≤ min peak 255 → 2 ≤ (mgetD s.gnb.mons k {}).above → (mgetD s.gnb.mons k {}).flag = false →
          (mgetD t.gnb.mons k {}).flag = true ∧ t.regB Reg.GNB_STK 3 = true))
  ∧ (∀ (a b : Fin 2) (s : State), ∃ t, exec (.agcLimit a b) s = .next t ∧ t.regB Reg.GNB_STK 4 = true ∧ sameRegs s t [Reg.GNB_STK])
  ∧ (∀ (p : Party) (v : Word) (s : State), s.turnOf p = true → s.portOff Reg.GNB_ACQCTL = false → fld v 31 16 ≠ 0 → 3 ≤ fld v 15 8 → fld v 15 8 ≤ 60 →
    ∃ t, exec (.gnbAcqctlWrite p v) s = .next t ∧ t.reg Reg.GNB_ACQCTL = v &&& 0xFFFFFF00)
  ∧ (∀ (p : Party) (v : Word) (s : State), s.turnOf p = true → s.portOff Reg.GNB_CN0MIN = false →
    (1000 ≤ fld v 15 0 → fld v 15 0 ≤ 4500 → ∃ t, exec (.gnbCn0minWrite p v) s = .next t ∧ t.reg Reg.GNB_CN0MIN = v &&& 0xFFFF)
    ∧ (4500 < fld v 15 0 → ∃ t, exec (.gnbCn0minWrite p v) s = .next t ∧ t.reg Reg.GNB_CN0MIN = s.reg Reg.GNB_CN0MIN
        ∧ t.regB Reg.GNB_STK 5 = true))

/-- R306 to R314: tracking channels start, integrate, track, fall back and are lost; epochs are numbered and their blocks
delivered; navigation symbols are collected or lost. -/
def Obligations.GnssChannelResults : Prop :=
  (∀ (p : Party) (c : Fin 160) (v : Word) (s : State), s.turnOf p = true → s.portOff (Reg.GNB_CHCFG c) = false →
    prnOk (fld v 29 26) (fld v 25 18) = true → fld v 17 15 ≤ 4 → 2 ≤ fld v 14 10 → fld v 14 10 < fld v 9 5 →
    (bit v 31 = false → ∃ t, exec (.gnbChcfgWrite p c v) s = .next t ∧ t.chanState c = 0 ∧ t.reg (Reg.GNB_CHCFG c) = v &&& 0xFFFFFFE0)
    ∧ (bit v 31 = true → tintMs (fld v 17 15) ≤ maxTint (fld v 29 26) → (turnDiff s.tmbNs (s.reg (Reg.GNB_CHT c))).natAbs ≤ 1000000000 →
      s.regB (Reg.GNB_CHCFG c) 31 = false →
      ∃ t, exec (.gnbChcfgWrite p c v) s = .next t ∧ t.chanState c = 1 ∧ t.reg (Reg.GNB_CHCFG c) = v &&& 0xFFFFFFE0))
  ∧ (∀ (p : Party) (c : Fin 160) (v : Word) (s : State), s.turnOf p = true → s.portOff (Reg.GNB_CHLOOP c) = false →
    (fld v 31 24 ≠ 0 → 4 ≤ fld v 23 16 → fld v 23 16 ≤ 200 → fld v 15 8 ≠ 0 → fld v 7 0 ≠ 0 →
      ∃ t, exec (.gnbChloopWrite p c v) s = .next t ∧ t.reg (Reg.GNB_CHLOOP c) = v)
    ∧ (200 < fld v 23 16 → ∃ t, exec (.gnbChloopWrite p c v) s = .next t ∧ t.reg (Reg.GNB_CHLOOP c) = s.reg (Reg.GNB_CHLOOP c)
        ∧ t.regB Reg.GNB_STK 1 = true))
  ∧ (∀ (c : Fin 160) (m : GnbMeas) (cn0 : Nat) (pi pq : Int) (slip sym : Bool) (s : State), s.chanState c ≠ 0 → s.chanState c ≠ 4 →
    ∃ t, exec (.channelIntegration c m cn0 pi pq slip sym) s = .next t ∧ (t.chan c).meas = m
      ∧ (t.chan c).loop = s.reg (Reg.GNB_CHLOOP c) ∧ t.regF (Reg.GNB_CHST c) 15 0 = min cn0 65535
      ∧ t.chanState c = s.chanState c)
  ∧ (∀ (c : Fin 160) (s : State),
    (s.chanState c = 3 ∨ (s.chanState c = 1 ∧ s.tb.el - (s.chan c).startEl < 2000000000) → 100000000 ≤ s.tb.el - (s.chan c).stateEl →
      ∃ t, exec (.channelTrack c) s = .next t ∧ t.chanState c = 2)
    ∧ (s.chanState c = 1 → 2000000000 ≤ s.tb.el - (s.chan c).startEl →
      (∃ t, exec (.channelPullinTimeout c) s = .next t ∧ t.chanState c = 4) ∧ ∃ t, exec (.channelTrack c) s = .next t ∧ t.chanState c = 4)
    ∧ (s.chanState c = 2 → s.regF Reg.GNB_CN0MIN 15 0 ≤ s.regF (Reg.GNB_CHST c) 15 0 →
      ∃ t, exec (.channelCode c) s = .next t ∧ t.chanState c = 3 ∧ (t.chan c).slip = true)
    ∧ (∀ e, s.chanState c = 2 ∨ s.chanState c = 3 → (s.chan c).lowEl = some e → fld (s.chan c).loop 7 0 * 100000000 ≤ s.tb.el - e →
      ∃ t, exec (.channelLost c) s = .next t ∧ t.chanState c = 4))
  ∧ (∀ (meas : List (Nat × GnbMeas)) (s : State),
    let per := s.regF Reg.GNB_EPCTL 15 0 * 1000000
    s.regB Reg.GNB_EPCTL 31 = true → 0 < per → s.gnb.stopped = false → s.gnb.lastT / per < s.tb.t / per → s.noStep →
    ∃ t block, exec (.epochStrobe meas) s = .next t ∧ t.reg Reg.GNB_EPSEQ = s.reg Reg.GNB_EPSEQ + 1 ∧ t.gnb.lastT = s.tb.t
      ∧ t.gnb.blocks = s.gnb.blocks ++ [block] ∧ block.head? = some (s.reg Reg.GNB_EPSEQ + 1) ∧ block.length % 8 = 0)
  ∧ (∀ (b : List Word) (rest : List (List Word)) (s : State), s.gnb.blocks = b :: rest →
    ∃ t, exec .epochBlockDelivery s = .next t ∧ t.gnb.blocks = rest)
  ∧ (∀ (c : Fin 160) (e : Nat × List Bool) (s : State), s.regB Reg.GNB_NAVCTL 31 = true → (s.chan c).syms = [e] →
    (e.2.length = 32 → s.gnb.navCount < 2047 → s.owner s.navBank = gnbOwner → s.Canonical →
      ∃ t, exec (.navSymbolEntry c) s = .next t ∧ t.gnb.navCount = s.gnb.navCount + 1 ∧ (t.chan c).syms = []
        ∧ t.bankWord s.navBank (16 + 16 * s.gnb.navCount + 4) = BitVec.ofNat 32 e.1
        ∧ t.bankWord s.navBank 0 = BitVec.ofNat 32 (s.gnb.navCount + 1))
    ∧ (e.2.length = 32 → 2047 ≤ s.gnb.navCount →
      ∃ t, exec (.navSymbolEntry c) s = .next t ∧ (t.chan c).syms = []
        ∧ t.reg Reg.GNB_NAVLOST = s.reg Reg.GNB_NAVLOST + 32 ∧ t.gnb.navLost = s.gnb.navLost + 32)
    ∧ (e.2.length < 32 → ∃ t, exec (.navSymbolEntry c) s = .next t ∧ (t.chan c).syms = [e] ∧ sameBytes s t ∧ sameRegs s t []))

/-! ### Timebase -/

/-- R319, R321 to R324, R326, R327: reading T latches its parts for the reading party; offsets reach the servo, whose rate stays
in its range; a pending step is taken at the second boundary; sources are lost and return. -/
def Obligations.TimeCountResults : Prop :=
  (∀ (p : Party) (s : State), s.inTurn 0 = true → ∃ t, exec (.tmbNsRead p) s = .next t
      ∧ t.preg (partyNo p) Reg.TMB_NSHI = BitVec.ofNat 32 (s.tb.t / 2 ^ 32)
      ∧ t.preg (partyNo p) Reg.TMB_SEC = BitVec.ofNat 32 (s.tb.t / 1000000000)
      ∧ t.preg (partyNo p) Reg.TMB_SUB = BitVec.ofNat 32 (s.tb.t % 1000000000) ∧ t.tb = s.tb ∧ t.regs = s.regs)
  ∧ (∀ (src : Nat) (o : Int) (s : State), src ≠ 0 → src = s.srcInUse → s.tb.step = none →
    (o.natAbs ≤ s.regF Reg.TMB_STEPTHR 15 0 * 1000 → ∃ t, exec (.servoOffset src o) s = .next t ∧ t.reg Reg.TMB_OFS = sat32 o
        ∧ t.reg Reg.TMB_FADJ = BitVec.ofInt 32 t.tb.rate ∧ -128000000 ≤ t.tb.rate ∧ t.tb.rate ≤ 128000000 ∧ t.tb.step = none ∧ t.tb.t = s.tb.t)
    ∧ (s.regF Reg.TMB_STEPTHR 15 0 * 1000 < o.natAbs → s.tb.everLocked = false → s.tb.fresh = true →
      ∃ t d, exec (.servoOffset src o) s = .next t ∧ t.tb.step = some d ∧ d % 4 = 0 ∧ (d + o).natAbs ≤ 2
        ∧ t.tb.rate = s.tb.rate ∧ t.tb.t = s.tb.t))
  ∧ (∀ (d : Int) (s : State),
    let b := (s.tb.t + (tbcAdvance s.tb.acc s.tb.rate).1) / 1000000000
    s.tb.step = some d → s.tb.t / 1000000000 < b →
    ∃ t, exec .timeStep s = .next t ∧ (t.tb.t : Int) = ((b * 1000000000 : Nat) + d) % 2 ^ 64 ∧ t.tb.step = none
      ∧ (d.natAbs < 0x40000000 → t.regB Reg.TMB_STK 0 = true ∧ t.reg Reg.TMB_NSTEP = s.reg Reg.TMB_NSTEP + 1))
  ∧ (∀ (src : Nat) (s : State), s.tb.valid.contains src = true → s.sourceSilent src = true →
    ∃ t, exec (.sourceLost src) s = .next t ∧ t.tb.valid.contains src = false
      ∧ (s.tb.valid = [src] → src ≠ 0 → src = s.srcInUse → s.tbState = 2 → s.regB Reg.TMB_STAT 29 = true →
          t.tbState = 3 ∧ t.srcInUse = 0 ∧ t.regB Reg.TMB_STK 1 = true ∧ t.regB Reg.TMB_STK 2 = true))
  ∧ (∀ (src : Nat) (s : State), 1 ≤ src → src ≤ 6 → s.tb.valid.contains src = false → s.sourceSilent src = false →
    ∃ t, exec (.sourceReturn src) s = .next t ∧ t.tb.valid.contains src = true
      ∧ (s.srcInUse = 0 → s.regF Reg.TMB_SRV 31 28 = src → t.srcInUse = src ∧ t.tbState = 1))
  ∧ (∀ (s : State), 180000000000 ≤ s.boot.ocxo + s.tb.el → ∃ t, exec .ocxoWarm s = .next t ∧ t.regB Reg.TMB_STAT 29 = true ∧ sameRegs s t [Reg.TMB_STAT])
  ∧ (∀ (s : State),
    (s.tb.ppsInEl = none → ∃ t, exec .ppsInEdge s = .next t ∧ t.reg Reg.TMB_NPPSBAD = s.reg Reg.TMB_NPPSBAD + 1 ∧ t.tb.ppsInEl = some s.tb.el)
    ∧ (∀ e, s.tb.ppsInEl = some e → 999000000 ≤ s.tb.el - e → s.tb.el - e ≤ 1001000000 → s.srcInUse = 6 → s.tb.step = none →
      ∃ t, exec .ppsInEdge s = .next t ∧ t.reg Reg.TMB_OFS = sat32 (ppsOffset s.tb.t (s.regF Reg.TMB_PPS 22 0))))
  ∧ (∀ (p : Party) (v : Word) (s : State), s.turnOf p = true →
    (1000000000 < turnDiff s.tmbNs v → ∃ t, exec (.tmbGpost p v) s = .next t ∧ t.regB Reg.TMB_STK 4 = true ∧ t.tb = s.tb)
    ∧ (turnDiff s.tmbNs v ≤ 1000000000 → ∃ t, exec (.tmbGpost p v) s = .next t ∧ t.tb.lastGpost = some s.tb.el))

/-- R328 to R331, R337, R338: the second pulse and its end, captures, trigger units, and the messages of the precision time
protocol. -/
def Obligations.TimeSignalResults : Prop :=
  (∀ (s : State), s.tb.ppsLast < s.tb.t / 1000000000 → s.noStep →
    (s.tb.ppsEl = none → ∃ t, exec .ppsOutEdge s = .next t ∧ t.tb.ppsHigh = true ∧ t.tb.ppsEl = some s.tb.el
        ∧ t.tb.ppsLast = s.tb.t / 1000000000)
    ∧ (∀ e, s.tb.ppsEl = some e → s.tb.el - e < 500000000 →
      ∃ t, exec .ppsOutEdge s = .next t ∧ t.tb.ppsEl = some e ∧ t.reg Reg.TMB_NOMIT = s.reg Reg.TMB_NOMIT + 1 ∧ t.regB Reg.TMB_STK 3 = true))
  ∧ (∀ (e : Nat) (s : State), s.tb.ppsEl = some e → s.tb.ppsHigh = true → s.regF Reg.TMB_PPS 31 23 * 1000000 ≤ s.tb.el - e →
    ∃ t, exec .ppsPulseEnd s = .next t ∧ t.tb.ppsHigh = false ∧ t.regs = s.regs)
  ∧ (∀ (k : Fin 16) (rising : Bool) (s : State), s.regB (Reg.TMB_CAP k) 31 = true →
    s.regB (Reg.TMB_CAP k) (if rising then 4 else 5) = true → s.regF (Reg.TMB_CAP k) 3 0 ≠ 0 →
    (mget s.tb.capture k = none → ∃ t, exec (.captureEdge k rising) s = .next t ∧ mget t.tb.capture k = some { last := some s.tb.el, lost := false }
        ∧ ∃ w, t.banks.routeQ = s.banks.routeQ ++ (s.routesOf 6 k).map (fun n => (n, [s.tmbNs, w])))
    ∧ (∀ e l, mget s.tb.capture k = some { last := some e, lost := l } → s.tb.el - e < 1000 →
      ∃ t, exec (.captureEdge k rising) s = .next t ∧ t.reg Reg.TMB_NCAPLOST = s.reg Reg.TMB_NCAPLOST + 1
        ∧ mget t.tb.capture k = some { last := some s.tb.el, lost := true } ∧ t.banks = s.banks))
  ∧ (∀ (k : Fin 16) (s : State), s.regB (Reg.TMB_TRGA k) 31 = true → s.regB (Reg.TMB_TRGA k) 30 = true →
    s.sched.trigDue.contains k.val = true → s.regF (Reg.TMB_TRGA k) 23 20 = 2 →
    ∃ t, exec (.triggerFire k) s = .next t ∧ t.sched.trigDue = s.sched.trigDue.erase k
      ∧ (t.encCh (s.regF (Reg.TMB_TRGA k) 19 16 % 8)).due = true)
  ∧ (∀ (p : Fin 4) (dom : Nat) (s : State), s.regB (Reg.TMB_PTPC p) 31 = true → s.domainOut (7 + p) = false →
    (dom ≠ s.regF Reg.TMB_PTPG 6 0 → ∀ m, exec (.ptpMessage p dom m) s = .next s)
    ∧ (dom = s.regF Reg.TMB_PTPG 6 0 →
      (∀ ds, (mgetD s.tb.ptp p {}).gm = 0 → ∃ t, exec (.ptpMessage p dom (.announce ds)) s = .next t ∧ (mgetD t.tb.ptp p {}).best = ds)
      ∧ (∀ d, s.regB (Reg.TMB_PTPC p) 28 = false → ∃ t, exec (.ptpMessage p dom (.delayResp d)) s = .next t
          ∧ t.regF (Reg.TMB_PTPS p) 27 0 = min d 0xFFFFFFF ∧ (mgetD t.tb.ptp p {}).delayKnown = true)
      ∧ (s.regB (Reg.ETH_PSTAT p) 31 = true → s.domainOut 6 = false → ∃ t, exec (.ptpMessage p dom (.management true)) s = .next t
          ∧ sent s t (.ptp p 13 0 dom (s.regB (Reg.TMB_PTPC p) 27) []))))
  ∧ (∀ (p : Fin 4) (s : State), s.regB (Reg.TMB_PTPC p) 31 = true →
    let x := mgetD s.tb.ptp p {}
    let udp := s.regB (Reg.TMB_PTPC p) 27
    let dom := s.regF Reg.TMB_PTPG 6 0
    (∃ t, exec (.ptpMessageInterval p .announceReceipt) s = .next t ∧ (mgetD t.tb.ptp p {}).best = [])
    ∧ (s.regF (Reg.TMB_PTPS p) 31 28 = 6 → s.regB (Reg.ETH_PSTAT p) 31 = true → s.domainOut 6 = false →
      (s.silentFor (ptpInterval (s.regF (Reg.TMB_PTPC p) 15 12)) x.syncSent = true →
        ∃ t, exec (.ptpMessageInterval p .sync) s = .next t ∧ (mgetD t.tb.ptp p {}).syncSent = some s.tb.el
          ∧ t.out = s.out ++ (if s.regB (Reg.TMB_PTPC p) 29 then [.ptp p 0 x.syncSeq dom udp [s.tb.t]]
              else [.ptp p 0 x.syncSeq dom udp [], .ptp p 8 x.syncSeq dom udp [s.tb.t]]))
      ∧ (s.silentFor (ptpInterval (s.regF (Reg.TMB_PTPC p) 7 4)) x.annSent = true →
        ∃ t, exec (.ptpMessageInterval p .announce) s = .next t ∧ (mgetD t.tb.ptp p {}).annSent = some s.tb.el
          ∧ sent s t (.ptp p 11 x.annSeq dom udp s.ptpAnnounced))))

/-! ### Ethernet -/

/-- R506, R507, R510 to R512, R550, R587: a received frame is counted and sorted, a copy of a telegram joins its window or is
delivered, a window closes, a link goes and comes. -/
def Obligations.EthernetResults : Prop :=
  (∀ (p : Fin 4) (f : EthFrame) (age : Nat) (s : State), s.regB (Reg.ETH_PCFG p) 31 = true → s.regB (Reg.ETH_PSTAT p) 31 = true →
    (f.kind = .badFcs → ∃ t, exec (.ethFrameReceived p f age) s = .next t ∧ t.reg (Reg.ETH_NFCS p) = s.reg (Reg.ETH_NFCS p) + 1
        ∧ sameRegs s t [Reg.ETH_NFCS p])
    ∧ (f.kind = .other → s.filterFor p f = none → ∃ t, exec (.ethFrameReceived p f age) s = .next t
        ∧ t.reg (Reg.ETH_NRX p) = s.reg (Reg.ETH_NRX p) + 1 ∧ t.reg (Reg.ETH_NNOFLT p) = s.reg (Reg.ETH_NNOFLT p) + 1
        ∧ sameRegs s t [Reg.ETH_NRX p, Reg.ETH_NNOFLT p])
    ∧ (∀ c, f.kind = .twin c true → p.val < 2 → c.src = s.regF Reg.SYS_ADDR 7 0 →
      ∃ t, exec (.ethFrameReceived p f age) s = .next t ∧ t.healthy = false ∧ t.regB Reg.SYS_STK 5 = true ∧ t.regB Reg.ETH_STK 4 = true))
  ∧ (∀ (c : TelCopy) (age : Nat) (s : State),
    (s.slotFor c.stream c.src = none → ∃ t, exec (.twinTelegramCopy c age) s = .next t
        ∧ t.reg (Reg.ETH_NNOSLOT c.lan) = s.reg (Reg.ETH_NNOSLOT c.lan) + 1 ∧ t.eth = s.eth)
    ∧ (∀ k, s.slotFor c.stream c.src = some k → c.safe = false → s.slotSafe k = false → (s.tel k).windows = [] → (s.tel k).began = none →
      (s.tel k).closed = [] →
      (c.auth = true → ∃ t, exec (.twinTelegramCopy c age) s = .next t ∧ (t.tel k).payload = c.payload ∧ (t.tel k).delEl = some s.tb.el
          ∧ t.reg (Reg.ETH_NDEL k) = s.reg (Reg.ETH_NDEL k) + 1 ∧ t.reg (Reg.ETH_LAST k) = BitVec.ofNat 32 c.seq)
      ∧ (c.auth = false → ∃ t, exec (.twinTelegramCopy c age) s = .next t
          ∧ (t.tel k).windows = [{ seq := c.seq, el := s.tb.el, copies := [(c, s.tb.t - age)] }]
          ∧ t.reg (Reg.ETH_NDEL k) = s.reg (Reg.ETH_NDEL k))))
  ∧ (∀ (k : Fin 64) (w : TelWindow) (s : State), (s.tel k).windows = [w] → 500000 ≤ s.tb.el - w.el →
    ∃ t, exec (.telegramWindowClose k w.seq) s = .next t ∧ (t.tel k).windows = [])
  ∧ (∀ (p : Fin 4) (unsent : Nat) (s : State), s.regB (Reg.ETH_PSTAT p) 31 = true →
    ∃ t, exec (.ethLinkDown p unsent) s = .next t ∧ t.regB (Reg.ETH_PSTAT p) 31 = false ∧ t.regB Reg.ETH_STK 0 = true
      ∧ t.reg (Reg.ETH_NLINK p) = s.reg (Reg.ETH_NLINK p) + 1
      ∧ t.reg (Reg.ETH_NTXLD p) = s.reg (Reg.ETH_NTXLD p) + BitVec.ofNat 32 unsent)
  ∧ (∀ (p : Fin 4) (speed : Fin 3) (s : State), s.regB (Reg.ETH_PCFG p) 31 = true →
    (s.domainOut (7 + p) = true → exec (.ethLinkUp p speed) s = .next s)
    ∧ (s.domainOut (7 + p) = false → ∃ t, exec (.ethLinkUp p speed) s = .next t ∧ t.regB (Reg.ETH_PSTAT p) 31 = true ∧ sameRegs s t [Reg.ETH_PSTAT p]
      ∧ (s.regF (Reg.ETH_PCFG p) 30 29 = 1 → t.regF (Reg.ETH_PSTAT p) 30 29 = 1)))


/-! ### Safety functions -/

/-- R391 to R394, R397 to R401: contacts change, disagree, fail and recover; test windows open and end; a read-back that
fails latches an output fault and switches the output off. -/
def Obligations.SafetyInputsAndOutputs : Prop :=
  (∀ (n : Fin 32) (level : Bool) (s : State),
    let k := n.val % 16
    s.regB (Reg.SAF_PCFG k) 31 = true → bit s.field.raw n = level → bit s.saf.lev n ≠ level →
    s.regF (Reg.SAF_PCFG k) 23 16 * 100000 ≤ s.tb.el - mgetD s.field.rawEl n 0 →
    ∃ t, exec (.contactChange n level) s = .next t ∧ t.saf.lev = setBit s.saf.lev n level
      ∧ (s.regB Reg.SAF_PSTAT (16 + k) = false → s.contactBad k = false → s.contactBad (16 + k) = false →
          t.regB Reg.SAF_PSTAT k = ((bit t.saf.lev k != false) && (bit t.saf.lev (16 + k) != s.regB (Reg.SAF_PCFG k) 30))))
  ∧ (∀ (k : Fin 16) (e : Nat) (s : State), mget s.saf.mixEl k = some e → s.regF (Reg.SAF_PCFG k) 8 0 * 1000000 ≤ s.tb.el - e →
    ∃ t, exec (.discrepancyTimeout k) s = .next t ∧ t.regB Reg.SAF_PSTAT (16 + k) = true
      ∧ t.regB Reg.SAF_STK 2 = true ∧ t.reg Reg.SAF_NDISC = s.reg Reg.SAF_NDISC + 1 ∧ mget t.saf.mixEl k = none)
  ∧ (∀ (n : Fin 32) (s : State), s.regB (Reg.SAF_PCFG (n % 16)) 31 = true → s.contactBad n = false →
    (mgetD s.field.diag n 0 ≠ 0 ∨ s.regB (Reg.DIO_LINK (n / 16)) 31 = false) →
    ∃ t, exec (.contactFault n) s = .next t ∧ t.regB Reg.SAF_PFLT n = true ∧ mget t.saf.soundEl n = none ∧ t.field = s.field)
  ∧ (∀ (n : Fin 32) (s : State), s.contactBad n = true → s.contactClean n = false →
    (∃ t, exec (.contactFault n) s = .next t ∧ t.regB Reg.SAF_PFLT n = true ∧ mget t.saf.soundEl n = none ∧ t.regs = s.regs)
    ∧ exec (.contactFaultClear n) s = .next s)
  ∧ (∀ (n : Fin 32) (e g : Nat) (s : State), s.contactBad n = true → s.contactClean n = true → mget s.saf.soundEl n = some e → mget s.saf.agreeEl (n % 16) = some g →
    100000000 ≤ s.tb.el - e → 100000000 ≤ s.tb.el - g →
    ∃ t, exec (.contactFaultClear n) s = .next t ∧ t.regB Reg.SAF_PFLT n = false ∧ t.saf.lev = s.saf.lev)
  ∧ (∀ (k : Fin 16) (s : State), s.isSafOut k = true → mget s.saf.window k = none →
    s.windowIndex k (mgetD s.saf.winT k 0) < s.windowIndex k s.tb.t →
    ∃ t, exec (.testWindowOpen k) s = .next t ∧ mget t.saf.window k = some s.tb.el ∧ t.safOutOn k = false ∧ t.regs = s.regs)
  ∧ (∀ (k : Fin 16) (off : Bool) (e : Nat) (s : State), mget s.saf.window k = some e → s.regF (Reg.SAF_OCFG k) 24 16 * 1000 ≤ s.tb.el - e →
    ∃ t, exec (.testWindowEnd k off) s = .next t ∧ mget t.saf.window k = none ∧ t.saf.waiton.contains k.val = false
      ∧ (s.hold = false ∨ off = true → t.regs = s.regs)
      ∧ (s.hold = true → off = false → s.regB Reg.SAF_OFLT k = false → t.regB Reg.SAF_OFLT k = true
          ∧ t.reg Reg.SAF_NTPFAIL = s.reg Reg.SAF_NTPFAIL + 1 ∧ t.regB Reg.SAF_STK 3 = true ∧ t.regB Reg.SAF_STAT k = false))
  ∧ (∀ (k : Fin 16) (s : State), s.hold = true → s.isSafOut k = true → mget s.saf.window k = none → s.regB Reg.SAF_OFLT k = false →
    ∃ t, exec (.readbackFail k (s.safOutOn k)) s = .next t ∧ t.regB Reg.SAF_OFLT k = true
      ∧ t.reg Reg.SAF_NTPFAIL = s.reg Reg.SAF_NTPFAIL + 1 ∧ t.regB Reg.SAF_STAT k = false
      ∧ (∀ f, f < 16 → (∀ q, s.partner k = some q → s.regB Reg.SAF_OFLT q = true) → s.funOn f = true →
          s.regB (Reg.SAF_FB f) (16 + k) = true ∨ (∃ q, s.partner k = some q ∧ s.regB (Reg.SAF_FB f) (16 + q) = true) → t.funSafe f = true))

/-- R389, R404 to R406, R409: a safety fault, the ways into the safe state, and the acknowledgement out of it. -/
def Obligations.SafetyFunctions : Prop :=
  (∀ (mv : Nat) (s : State), (mv < 800 ∨ 900 < mv → ∃ t, exec (.safetyFault mv) s = .next t ∧ t.regB Reg.SAF_STAT 31 = true
        ∧ t.healthy = false ∧ ∀ k, k < 16 → s.isSafOut k = true → t.regB Reg.SAF_STAT k = false)
    ∧ (800 ≤ mv → mv ≤ 900 → exec (.safetyFault mv) s = .next s))
  ∧ (∀ (s : State), (∃ t, exec (.safetySelftest false) s = .next t ∧ t.regB Reg.SAF_STAT 31 = true ∧ t.healthy = false
        ∧ ∀ k, k < 16 → s.isSafOut k = true → t.regB Reg.SAF_STAT k = false)
    ∧ exec (.safetySelftest true) s = .next s)
  ∧ (∀ (f : Fin 16) (e : Nat) (s : State), mget s.saf.degEl f = some e → s.funOn f = true → s.funSafe f = false →
    s.regF (Reg.SAF_FE f) 12 0 * 60000000000 ≤ s.tb.el - e →
    ∃ t, exec (.degradedTimeExpiry f) s = .next t ∧ t.funSafe f = true ∧ t.reg Reg.SAF_NDEGEXP = s.reg Reg.SAF_NDEGEXP + 1
      ∧ ∀ k, k < 16 → s.regB (Reg.SAF_FB f) (16 + k) = true → s.isSafOut k = true → t.regB Reg.SAF_STAT k = false)
  ∧ (∀ (f : Fin 16) (s : State), s.funOn f = true → s.funSafe f = false →
    s.regF (Reg.SAF_FA f) 27 16 * 1000000 ≤ s.tb.el - mgetD s.saf.wdEl f 0 →
    ∃ t, exec (.clauseWatchdog f) s = .next t ∧ t.funSafe f = true ∧ t.regB Reg.SAF_STK 7 = true
      ∧ ∀ k, k < 16 → s.regB (Reg.SAF_FB f) (16 + k) = true → s.isSafOut k = true → t.regB Reg.SAF_STAT k = false)
  ∧ (∀ (k : Fin 64) (s : State), s.regB (Reg.SAF_TWD k) 31 = true → s.saf.expired.contains k.val = false →
    s.regF (Reg.SAF_TWD k) 15 0 * 100000 ≤ s.tb.el - mgetD s.saf.slotEl k 0 →
    ∃ t, exec (.telegramWatchdog k) s = .next t ∧ t.saf.expired.contains k.val = true
      ∧ t.regB (slotBit Reg.SAF_TVAL0 Reg.SAF_TVAL1 k).1 (slotBit Reg.SAF_TVAL0 Reg.SAF_TVAL1 k).2 = false
      ∧ t.reg Reg.SAF_NTELTMO = s.reg Reg.SAF_NTELTMO + 1 ∧ ∀ f, f ∈ s.funsOfSlot k → t.funSafe f = true)
  ∧ (∀ (e : Fin 8) (r : Run) (f : Fin 16) (s : State), (s.eng e).run = some r → r.lock = true → s.safetyClause r.clause = true →
    s.turnOf (.eng e) = true → s.funOn f = true →
    (s.degradedOf f = [] → (∀ k, k < 16 → s.regB (Reg.SAF_FB f) (16 + k) = true → s.regB Reg.SAF_OFLT k = false) →
      (∀ q, q ∈ s.saf.expired → f.val ∉ s.funsOfSlot q) →
      ∃ t, exec (.safFack (.eng e) (bitMask f)) s = .next t ∧ t.funSafe f = false ∧ mget t.saf.wdEl f = some s.tb.el
        ∧ sameRegs s t [Reg.SAF_FSTAT, Reg.SAF_STK])
    ∧ ((∃ q, q ∈ s.saf.expired ∧ f.val ∈ s.funsOfSlot q) → ∃ t, exec (.safFack (.eng e) (bitMask f)) s = .next t
        ∧ t.funSafe f = s.funSafe f ∧ t.reg Reg.SAF_NRSTREF = s.reg Reg.SAF_NRSTREF + 1 ∧ t.regB Reg.SAF_STK 1 = true
        ∧ sameRegs s t [Reg.SAF_NRSTREF, Reg.SAF_STK]))


/-! ### Field I/O -/

/-- R418 to R424, R429, R430: frames of the isolation links, a link lost and restored, the field side holding and going to its
safe values, a publication applied, and the reports of the inputs. -/
def Obligations.FieldLinksAndInputs : Prop :=
  (∀ (g : Fin 4) (w lat : Nat) (s : State), w < 2 ^ 256 →
    (isoValid g true w = true → ∃ t, exec (.isoFrame g true w lat) s = .next t ∧ mget t.field.upEl g = some s.tb.el
        ∧ mget t.field.run g = some (mgetD s.field.run g 0 + 1)
        ∧ t.regB (Reg.DIO_LINK g) 30 = w.testBit 244 ∧ t.regB (Reg.DIO_LINK g) 29 = w.testBit 243
        ∧ (g.val < 2 → ∀ c, c < 16 → mgetD t.field.diag (16 * g.val + c) 0 = chanField w 135 2 c ∧ bit t.field.raw (16 * g.val + c) = w.testBit (231 - c))
        ∧ (g = 2 → ∀ k, k < 16 → t.regB Reg.DIO_OSTAT (16 + k) = w.testBit (231 - k))
        ∧ (g = 3 → ∀ c, c < 8 → t.reg (Reg.CLO_RB c) = BitVec.ofNat 32 (chanField w 231 16 c * 32)))
    ∧ (isoValid g true w = false → ∃ t, exec (.isoFrame g true w lat) s = .next t
        ∧ t.regF (Reg.DIO_LINK g) 15 0 = (s.regF (Reg.DIO_LINK g) 15 0 + 1) % 65536 ∧ mget t.field.run g = some 0
        ∧ sameRegs s t [Reg.DIO_LINK g])
    ∧ (isoValid g false w = false → ∃ t, exec (.isoFrame g false w lat) s = .next t
        ∧ t.regF (Reg.DIO_LINK g) 15 0 = (s.regF (Reg.DIO_LINK g) 15 0 + 1) % 65536 ∧ (mgetD t.field.side g {}).run = 0
        ∧ sameRegs s t [Reg.DIO_LINK g])
    ∧ (2 ≤ g.val → isoValid g false w = true → ∃ t, exec (.isoFrame g false w lat) s = .next t
        ∧ (mgetD t.field.side g {}).el = s.tb.el ∧ (mgetD t.field.side g {}).run = (mgetD s.field.side g {}).run + 1 ∧ t.regs = s.regs))
  ∧ (∀ (g : Fin 4) (s : State),
    (s.regB (Reg.DIO_LINK g) 31 = true → 16000 ≤ s.tb.el - mgetD s.field.upEl g 0 →
      ∃ t, exec (.isoLinkLoss g) s = .next t ∧ t.regB (Reg.DIO_LINK g) 31 = false ∧ t.regB Reg.DIO_STK 0 = true ∧ mgetD t.field.run g 0 = 0
        ∧ t.regF (Reg.DIO_LINK g) 23 16 = (s.regF (Reg.DIO_LINK g) 23 16 + 1) % 256
        ∧ (g = 2 → s.hold = true → ∀ k, k < 16 → s.isSafOut k = true → t.regB Reg.SAF_OFLT k = true))
    ∧ (s.regB (Reg.DIO_LINK g) 31 = false → 4 ≤ mgetD s.field.run g 0 →
      ∃ t, exec (.isoLinkRestore g) s = .next t ∧ t.regB (Reg.DIO_LINK g) 31 = true
        ∧ sameRegs s t [Reg.DIO_LINK g, Reg.DIO_INVL, Reg.DIO_INL, Reg.DIO_ILIVE]))
  ∧ (∀ (g : Fin 4) (s : State), 2 ≤ g.val →
    ((mgetD s.field.side g {}).held = false → 16000 ≤ s.tb.el - (mgetD s.field.side g {}).el →
      ∃ t, exec (.fieldHold g) s = .next t ∧ (mgetD t.field.side g {}).held = true ∧ t.field.outs = s.field.outs
        ∧ t.field.loops = s.field.loops ∧ t.regs = s.regs)
    ∧ ((mgetD s.field.side g {}).safe = false →
        s.regF (if g = 2 then Reg.DIO_LLT else Reg.CLO_LLT) 13 0 * 10000 ≤ s.tb.el - (mgetD s.field.side g {}).el →
      ∃ t, exec (.fieldSafe g) s = .next t ∧ (mgetD t.field.side g {}).safe = true ∧ t.regs = s.regs
        ∧ (g = 2 → ∀ k, k < 16 → bit t.field.outs k = s.regB (Reg.DIO_OCFG k) 30)
        ∧ (g = 3 → ∀ c, c < 8 → mget t.field.loops c = some (s.loopSafe c))))
  ∧ (∀ (g : Fin 4) (p : FieldPub) (rest : List FieldPub) (s : State), s.field.pubs = p :: rest → p.el + 11900 ≤ s.tb.el →
    (mgetD s.field.side g {}).held = false → (mgetD s.field.side g {}).safe = false →
    (g = 2 → p.loop = none → ∃ t, exec (.outputApply g 1) s = .next t ∧ t.field.outs = p.val ∧ t.field.loops = s.field.loops ∧ sameRegs s t [])
    ∧ (g = 3 → ∀ c, p.loop = some c → ∃ t, exec (.outputApply g 1) s = .next t ∧ mget t.field.loops c = some (loopUnits p.val).1
        ∧ t.field.outs = s.field.outs ∧ sameRegs s t []))
  ∧ (∀ (n : Fin 32) (vin vfs : Nat) (s : State),
    (s.regB (Reg.DIO_ICFG n) 31 = true → s.regB (Reg.DIO_ICFG n) 29 = true → s.belowBreak n vin vfs = true → mgetD s.field.diag n 0 = 0 →
      ∃ t, exec (.wireBreak n vin vfs) s = .next t ∧ t.regB Reg.DIO_IWB n = true ∧ t.inputValid n = false ∧ t.regB Reg.DIO_STK 2 = true
        ∧ t.regB Reg.DIO_INVL n = false ∧ t.regB Reg.DIO_INL n = false)
    ∧ (s.regB (Reg.DIO_ICFG n) 31 = true → s.regB (Reg.DIO_ICFG n) 28 = true → vfs ≤ vin + 1000 → mgetD s.field.diag n 0 = 0 →
      ∃ t, exec (.shortCircuit n vin vfs) s = .next t ∧ t.regB Reg.DIO_ISC n = true ∧ t.inputValid n = false ∧ t.regB Reg.DIO_STK 3 = true)
    ∧ (s.belowBreak n vin vfs = false → mgetD s.field.diag n 0 = 1 →
      ∃ t, exec (.inputFaultClear n vin vfs) s = .next t ∧ mgetD t.field.diag n 0 = 0 ∧ t.regB Reg.DIO_IWB n = false)
    ∧ (vin + 1000 < vfs → mgetD s.field.diag n 0 = 2 →
      ∃ t, exec (.inputFaultClear n vin vfs) s = .next t ∧ mgetD t.field.diag n 0 = 0 ∧ t.regB Reg.DIO_ISC n = false))

/-- R433 to R437, R440: overloads and their ends, overtemperature, an open wire, the supplies, and the checks of the loops. -/
def Obligations.OutputsAndLoops : Prop :=
  (∀ (k : Fin 16) (s : State),
    (s.regB (Reg.DIO_OCFG k) 31 = true ∨ s.isSafOut k = true →
      ∃ t, exec (.outputOverload k) s = .next t ∧ t.regB (Reg.DIO_ODIAG k) 31 = true ∧ t.outDriven k = false ∧ mget t.field.ovlEl k = some s.tb.el
        ∧ sameRegs s t [Reg.DIO_ODIAG k, Reg.DIO_STK])
    ∧ (∀ e, s.regB (Reg.DIO_ODIAG k) 31 = true → s.regB (Reg.DIO_OCFG k) 27 = true → mget s.field.ovlEl k = some e → 1000000000 ≤ s.tb.el - e →
      ∃ t, exec (.overloadRetry k) s = .next t ∧ t.regB (Reg.DIO_ODIAG k) 31 = false ∧ mget t.field.ovlEl k = none ∧ sameRegs s t [Reg.DIO_ODIAG k])
    ∧ (∀ tj : Int, (165 ≤ tj → ∃ t, exec (.outputOvertemp k tj) s = .next t ∧ t.regB (Reg.DIO_ODIAG k) 30 = true ∧ t.outDriven k = false)
        ∧ (145 ≤ tj → tj < 165 → exec (.outputOvertemp k tj) s = .next s)
        ∧ (tj < 145 → ∃ t, exec (.outputOvertemp k tj) s = .next t ∧ t.regB (Reg.DIO_ODIAG k) 30 = false ∧ sameRegs s t [Reg.DIO_ODIAG k]))
    ∧ (∀ mv : Nat, s.regB (Reg.DIO_OCFG k) 29 = true → s.outDriven k = false →
        (2000 < mv → ∃ t, exec (.outputOpenWire k mv) s = .next t ∧ t.regB (Reg.DIO_ODIAG k) 29 = true)
        ∧ (mv ≤ 2000 → ∃ t, exec (.outputOpenWire k mv) s = .next t ∧ t.regB (Reg.DIO_ODIAG k) 29 = false ∧ sameRegs s t [Reg.DIO_ODIAG k])))
  ∧ (∀ (p : Party) (v : Word) (s : State), s.turnOf p = true → ∃ t, exec (.dioOrst p v) s = .next t
      ∧ (∀ k, k < 16 → (bit v k = true → t.regB (Reg.DIO_ODIAG k) 31 = false ∧ mget t.field.ovlEl k = none)
          ∧ (bit v k = false → t.reg (Reg.DIO_ODIAG k) = s.reg (Reg.DIO_ODIAG k)))
      ∧ sameRegs s t ((List.range 16).map Reg.DIO_ODIAG))
  ∧ (∀ (b : Fin 2) (mv : Nat) (s : State),
    (mv < 18000 → ∃ t, exec (.fieldSupplyLow b mv) s = .next t ∧ t.regB Reg.DIO_STK (7 + b) = true ∧ sameRegs s t [Reg.DIO_STK])
    ∧ (18000 ≤ mv → exec (.fieldSupplyLow b mv) s = .next s))
  ∧ (∀ (mv : Nat) (s : State), ∃ t, exec (.fieldRailLow mv) s = .next t ∧ t.field.railLow = decide (mv < 14000)
      ∧ (∀ k, k < 16 → t.regB (Reg.DIO_ODIAG k) 28 = decide (mv < 14000) ∧ (mv < 14000 → t.outDriven k = false))
      ∧ (∀ c, c < 8 → t.regB Reg.CLO_CSTAT (24 + c) = decide (mv < 14000) ∧ (mv < 14000 → t.loopCurrent c = 0)))
  ∧ (∀ (c : Fin 8) (s : State),
    (s.loopChecks = true → s.loopOpenNow c = true → ∃ t, exec (.loopOpen c) s = .next t ∧ t.regB Reg.CLO_CSTAT (8 + c) = true
        ∧ sameRegs s t [Reg.CLO_CSTAT, Reg.CLO_STK])
    ∧ (s.loopChecks = true → s.loopOpenNow c = false → s.loopOffNow c = true → ∃ t, exec (.loopCompliance c) s = .next t
        ∧ t.regB Reg.CLO_CSTAT c = true ∧ sameRegs s t [Reg.CLO_CSTAT, Reg.CLO_STK])
    ∧ (s.regB Reg.CLO_CSTAT (8 + c) = true ∨ s.regB Reg.CLO_CSTAT c = true → s.loopOpenNow c = false → s.loopOffNow c = false →
      ∃ t, exec (.loopOk c) s = .next t ∧ t.regB Reg.CLO_CSTAT (8 + c) = false ∧ t.regB Reg.CLO_CSTAT c = false ∧ sameRegs s t [Reg.CLO_CSTAT]))


/-! ### Filter chains, encoders, serial channels -/

/-- R445 to R451, R454 to R459: an output of a chain, chain faults, the mains tracker; positions of an encoder by edges, by the
index and by SSI, and its faults. -/
def Obligations.ChainAndEncoderResults : Prop :=
  (∀ (c : Fin 16) (bits : List Bool) (age : Nat) (s : State),
    let y := (s.chain c).compute (s.reg (Reg.DFC_CFG c)) (s.reg (Reg.DFC_DL c)) bits
    s.regB (Reg.DFC_CFG c) 31 = true → (s.chain c).faults = [] → s.regB (Reg.DFC_STAT c) 29 = false → bits ≠ [] →
    bits.length = s.regF (Reg.DFC_CFG c) 12 0 → (s.chain c).swap = none → s.domainOut 13 = false → s.chainDelayed c age = true →
    (∀ q, (s.chain c).settle = q + 1 → ∃ t, exec (.chainOutput c bits age) s = .next t ∧ (t.chain c).settle = q
        ∧ (t.chain c).xs = y.1.xs ∧ (t.chain c).ints = y.1.ints ∧ sameRegs s t [Reg.DFC_CNT c, Reg.DFC_STK c]
        ∧ t.regF (Reg.DFC_CNT c) 31 16 = (s.regF (Reg.DFC_CNT c) 31 16 + 1) % 65536)
    ∧ ((s.chain c).settle = 0 → ∃ t, exec (.chainOutput c bits age) s = .next t ∧ t.reg (Reg.DFC_OUT c) = y.2.1
        ∧ t.regB (Reg.DFC_STAT c) 31 = true ∧ t.regB (Reg.DFC_STAT c) 30 = false ∧ (t.chain c).m = y.1.m
        ∧ t.regF (Reg.DFC_CNT c) 15 0 = (s.regF (Reg.DFC_CNT c) 15 0 + 1) % 65536))
  ∧ (∀ (e : Nat) (s : State), s.dfc.okEl = some e → s.regB Reg.DFC_MPCFG 31 = true → 1000000000 ≤ s.tb.el - e →
    ∃ t, exec .mainsPhaseValid s = .next t ∧ t.regB Reg.DFC_MPSTAT 31 = true ∧ t.mains.valid = true ∧ sameRegs s t [Reg.DFC_MPSTAT])
  ∧ (∀ (c : Fin 16) (s : State), s.regB (Reg.DFC_CFG c) 31 = true →
    ((s.chain c).faults = [] → ∃ t, exec (.chainStuck c) s = .next t ∧ (t.chain c).faults = [0] ∧ t.regB (Reg.DFC_STAT c) 31 = false
        ∧ t.regB (Reg.DFC_STK c) 1 = true)
    ∧ (s.regB (Reg.DFC_CFG c) 29 = true ∨ s.dfc.stopped = true → (s.chain c).faults = [] →
        ∃ t, exec (.chainClkloss c) s = .next t ∧ (t.chain c).faults = [1] ∧ t.regB (Reg.DFC_STAT c) 31 = false
          ∧ t.regB (Reg.DFC_STK c) 2 = true))
  ∧ (∀ (c : Fin 16) (cause : Fin 2) (s : State), (s.chain c).faults = [cause.val] →
    cause.val = 0 ∨ s.regB (Reg.DFC_CFG c) 29 = true ∨ s.dfc.stopped = false →
    ∃ t, exec (.chainFaultEnd c cause) s = .next t ∧ (t.chain c).faults = [] ∧ t.regB (Reg.DFC_STAT c) 30 = true
      ∧ (t.chain c).settle = s.regF (Reg.DFC_CFG c) 26 24 + 32 ∧ (t.chain c).xs = [])
  ∧ (∀ (e : Fin 8) (s : State), s.regB (Reg.ENC_CFG e) 31 = true → s.regB (Reg.ENC_SMP e) 31 = false →
    s.regF (Reg.ENC_SMP e) 19 0 ≠ 0 →
    (s.encCh e).lastT / (s.regF (Reg.ENC_SMP e) 19 0 * 1000) < s.tb.t / (s.regF (Reg.ENC_SMP e) 19 0 * 1000) →
    (s.encSsi e = false → s.regB (Reg.ENC_STAT e) 31 = true → ∃ t, exec (.encoderSample e) s = .next t
        ∧ t.reg (Reg.ENC_POS e) = encPos (s.encCh e).r (s.reg (Reg.ENC_CPR e)).toNat ∧ (t.encCh e).lastT = s.tb.t
        ∧ ∀ q el, s.regF (Reg.ENC_CFG e) 11 8 ≠ 0 → (s.encCh e).hist[s.regF (Reg.ENC_CFG e) 11 8 - 1]? = some (q, el) → el < s.tb.el →
            t.reg (Reg.ENC_VEL e) = sat32 (rquo (turnDiff (t.reg (Reg.ENC_POS e)) q * 60000000000) (((s.tb.el - el) * 65536 : Nat))))
    ∧ (s.encSsi e = true → (s.encCh e).read = none → ∃ t, exec (.encoderSample e) s = .next t
        ∧ ((t.encCh e).read.map (fun q => q.2)) = some s.tb.el ∧ t.regs = s.regs)
    ∧ (s.encSsi e = true → (s.encCh e).read.isSome = true → ∃ t, exec (.encoderSample e) s = .next t ∧ (t.encCh e).fault = true
        ∧ t.regB (Reg.ENC_STAT e) 31 = false))
  ∧ (∀ (e : Fin 8) (a b : Bool) (s : State), s.regB (Reg.ENC_CFG e) 31 = true → s.encSsi e = false →
    let d := (quadPhase a b + 4 - quadPhase (s.encCh e).a (s.encCh e).b) % 4
    (d = 1 → s.regB (Reg.ENC_CFG e) 26 = false → ∃ t, exec (.quadratureEdge e a b) s = .next t
        ∧ t.reg (Reg.ENC_CNT e) = s.reg (Reg.ENC_CNT e) + 1 ∧ (t.encCh e).a = a ∧ (t.encCh e).b = b ∧ sameRegs s t [Reg.ENC_CNT e]
        ∧ (t.encCh e).r = if (s.encCh e).r + 1 < (s.reg (Reg.ENC_CPR e)).toNat then (s.encCh e).r + 1 else 0)
    ∧ (d = 3 → s.regB (Reg.ENC_CFG e) 26 = false → ∃ t, exec (.quadratureEdge e a b) s = .next t
        ∧ t.reg (Reg.ENC_CNT e) = s.reg (Reg.ENC_CNT e) - 1 ∧ sameRegs s t [Reg.ENC_CNT e]
        ∧ (t.encCh e).r = if (s.encCh e).r = 0 then (s.reg (Reg.ENC_CPR e)).toNat - 1 else (s.encCh e).r - 1)
    ∧ (d = 2 → ∃ t, exec (.quadratureEdge e a b) s = .next t ∧ (t.encCh e).r = (s.encCh e).r ∧ t.regB (Reg.ENC_STAT e) 31 = false
        ∧ t.regF (Reg.ENC_NERR e) 31 16 = (s.regF (Reg.ENC_NERR e) 31 16 + 1) % 65536))
  ∧ (∀ (e : Fin 8) (s : State), s.regB (Reg.ENC_CFG e) 31 = true → s.encSsi e = false → s.regB (Reg.ENC_CFG e) 29 = true →
    s.regB (Reg.ENC_STAT e) 30 = false →
    ∃ t, exec (.zEdge e) s = .next t ∧ (t.encCh e).r = (s.reg (Reg.ENC_ZOFS e)).toNat ∧ t.regB (Reg.ENC_STAT e) 30 = true
      ∧ t.regB (Reg.ENC_STAT e) 31 = true ∧ (t.encCh e).fault = false)
  ∧ (∀ (e : Fin 8) (s : State), s.regB (Reg.ENC_CFG e) 31 = true → s.encSsi e = false →
    (∃ t, exec (.encoderLineFault e) s = .next t ∧ t.regB (Reg.ENC_STAT e) 31 = false ∧ (t.encCh e).fault = true
      ∧ (s.regB (Reg.ENC_CFG e) 29 = true → t.regB (Reg.ENC_STAT e) 30 = false))
    ∧ (s.regB (Reg.ENC_CFG e) 29 = false → (s.encCh e).fault = true → 10000000 ≤ s.tb.el - (s.encCh e).faultEl →
      ∃ t, exec (.encoderFaultEnd e) s = .next t ∧ t.regB (Reg.ENC_STAT e) 31 = true ∧ (t.encCh e).fault = false))
  ∧ (∀ (e : Fin 8) (raw : Nat) (par : Bool) (at_ el : Nat) (s : State), (s.encCh e).read = some (at_, el) →
    (s.regB (Reg.ENC_CFG e) 27 = false → (s.encCh e).overrun = false → ∃ t, exec (.ssiReadEnd e raw par false) s = .next t ∧ t.regB (Reg.ENC_STAT e) 31 = true
        ∧ t.reg (Reg.ENC_CNT e) = BitVec.ofNat 32 (raw % 2 ^ (s.regF (Reg.ENC_CFG e) 25 21 + 1)) ∧ (t.encCh e).read = none
        ∧ (s.regB (Reg.ENC_CFG e) 28 = false → t.reg (Reg.ENC_POS e) = BitVec.ofNat 32 (raw % 2 ^ (s.regF (Reg.ENC_CFG e) 25 21 + 1)
            % 2 ^ (s.regF (Reg.ENC_CFG e) 20 16 + 1) * 2 ^ (32 - (s.regF (Reg.ENC_CFG e) 20 16 + 1)))))
    ∧ (∃ t, exec (.ssiReadEnd e raw par true) s = .next t ∧ t.regB (Reg.ENC_STAT e) 31 = false ∧ (t.encCh e).fault = true
        ∧ t.reg (Reg.ENC_POS e) = s.reg (Reg.ENC_POS e)))
  ∧ (∀ (p : Party) (e : Fin 8) (v : Word) (s : State), s.turnOf p = true →
    (bit v 0 = true → ∃ t, exec (.encHome p e v) s = .next t ∧ t.regB (Reg.ENC_STAT e) 30 = false ∧ t.enc = s.enc
        ∧ sameRegs s t [Reg.ENC_STAT e])
    ∧ (bit v 0 = false → exec (.encHome p e v) s = .next (s.turned p)))

/-- R463 to R471: characters form a message, a message ends and is delivered, a break ends it; a message of the queue starts and
ends SENT, or ends NOAUTH. -/
def Obligations.SerialResults : Prop :=
  (∀ (k : Fin 4) (ch : Byte) (par stop : Bool) (age : Nat) (s : State), s.serListens k = true → (s.serCh k).ended = [] →
    s.regB (Reg.SER_CFG k) 28 = false →
    (∀ m, (s.serCh k).cur = some m → m.bytes.length < 255 → s.regB (Reg.SER_CFG k) 24 = false →
      ∃ t m', exec (.serialCharacter k ch par stop age) s = .next t ∧ (t.serCh k).cur = some m' ∧ m'.bytes = m.bytes ++ [ch]
        ∧ m'.stamp = m.stamp ∧ m'.ferr = (m.ferr || !stop) ∧ t.regs = s.regs)
    ∧ ((s.serCh k).cur = none → s.regB (Reg.SER_CFG k) 24 = true → ch.toNat = s.regF (Reg.SER_CFG k) 23 16 →
      ∃ t m', exec (.serialCharacter k ch par stop age) s = .next t ∧ (t.serCh k).cur = none ∧ (t.serCh k).ended = [m']
        ∧ m'.bytes = [ch] ∧ m'.dlm = true ∧ m'.stamp = s.tb.t - age ∧ m'.ferr = !stop)
    ∧ (∀ m, (s.serCh k).cur = some m → 512 ≤ m.bytes.length →
      ∃ t, exec (.serialCharacter k ch par stop age) s = .next t ∧ (t.serCh k).cur = some m ∧ (t.serCh k).lost = true
        ∧ t.reg (Reg.SER_NRXOVR k) = s.reg (Reg.SER_NRXOVR k) + 1))
  ∧ (∀ (k : Fin 4) (m : SerMessage) (s : State),
    (∀ l, (s.serCh k).ended = m :: l → ∃ t, exec (.serialMessageEnd k) s = .next t ∧ (t.serCh k).ended = l
        ∧ t.reg (Reg.SER_NRXM k) = s.reg (Reg.SER_NRXM k) + 1
        ∧ (s.routesOf 11 k = [] → t.reg (Reg.SER_NRXNR k) = s.reg (Reg.SER_NRXNR k) + 1)
        ∧ (s.routesOf 11 k ≠ [] → t.reg (Reg.SER_NRXD k) = s.reg (Reg.SER_NRXD k) + 1))
    ∧ ((s.serCh k).ended = [] → (s.serCh k).cur = some m → s.regF (Reg.SER_CFG k) 15 8 * s.serBit k ≤ s.tb.el - (s.serCh k).lastEl →
      ∃ t, exec (.serialMessageEnd k) s = .next t ∧ (t.serCh k).cur = none ∧ t.reg (Reg.SER_NRXM k) = s.reg (Reg.SER_NRXM k) + 1))
  ∧ (∀ (k : Fin 4) (age : Nat) (s : State), s.serListens k = true →
    ∃ t m', exec (.serialBreak k age) s = .next t ∧ (t.serCh k).cur = none ∧ (t.serCh k).ended = (s.serCh k).ended ++ [m'] ∧ m'.brk = true
      ∧ t.regs = s.regs)
  ∧ (∀ (k : Fin 4) (m : SerTx) (l : List SerTx) (s : State), (s.serCh k).txq = m :: l → m.start = none →
    (s.serCh k).cur = none ∨ s.regB (Reg.SER_CFG k) 30 = false →
    (s.serIdle k = false → exec (.serialTxStart k) s = .next s)
    ∧ (s.serIdle k = true → s.regB (Reg.SER_CFG k) 29 = false ∨ s.hold = true → ∃ t, exec (.serialTxStart k) s = .next t
        ∧ t.serSending k = some { m with start := some s.tb.el } ∧ t.regs = s.regs)
    ∧ (s.serIdle k = true → s.regB (Reg.SER_CFG k) 29 = true → s.hold = false → ∃ t, exec (.serialTxStart k) s = .next t
        ∧ t.reg (Reg.SER_NTXNOAUTH k) = s.reg (Reg.SER_NTXNOAUTH k) + 1 ∧ t.reg (Reg.SER_NTXPEND k) = s.reg (Reg.SER_NTXPEND k) - 1
        ∧ (t.serCh k).txq = l.filter (fun q => q.tag != m.tag)))
  ∧ (∀ (k : Fin 4) (m : SerTx) (e : Nat) (s : State), s.serSending k = some m → m.start = some e →
    e + m.len * s.serCharBits k * s.serBit k ≤ s.tb.el → s.regB (Reg.SER_CFG k) 28 = false →
    ∃ t, exec (.serialTxSent k) s = .next t ∧ sent s t (.serial k (cellsGet s.banks.cells m.addr m.len))
      ∧ t.reg (Reg.SER_NTXSENT k) = s.reg (Reg.SER_NTXSENT k) + 1 ∧ t.reg (Reg.SER_NTXPEND k) = s.reg (Reg.SER_NTXPEND k) - 1
      ∧ (t.serCh k).txq = (s.serCh k).txq.filter (fun q => q.tag != m.tag))

/-! ### CAN FD -/

/-- R478, R479, R483 to R488, R490, R491: entries become eligible, are offered, complete, fail, are cancelled, and leave
completion records; bus-off and recovery. -/
def Obligations.CanTransmitResults : Prop :=
  (∀ (n : Fin 6) (s : State), ∃ t, exec (.canEntryEligible n) s = .next t ∧ t.regs = s.regs
      ∧ (∀ e, e ∈ (s.canCh n).queue → e.el + 500 ≤ s.tb.el → { e with eligible := true } ∈ (t.canCh n).queue)
      ∧ (∀ e, e ∈ (s.canCh n).queue → s.tb.el < e.el + 500 → e ∈ (t.canCh n).queue))
  ∧ (∀ (n : Fin 6) (s : State), s.canSends n = true → s.canEff n = 0 → s.canSending n = none →
    (∀ e, e ∈ (s.canCh n).queue → e.eligible = true →
      ∃ t b, exec (.canArbitration n) s = .next t ∧ t.canSending n = some { b with started := true, att := b.att + 1, sof := some s.tb.t }
        ∧ b ∈ (s.canCh n).queue ∧ b.eligible = true ∧ arbField b.image ≤ arbField e.image ∧ t.regs = s.regs)
    ∧ ((∀ e, e ∈ (s.canCh n).queue → e.eligible = false) → exec (.canArbitration n) s = .next s))
  ∧ (∀ (n : Fin 6) (delay : Nat) (e : CanEntry) (s : State), s.canSending n = some e →
    ∃ t, exec (.canTxComplete n delay) s = .next t ∧ sent s t (.can n e.image)
      ∧ (t.canCh n).queue = (s.canCh n).queue.filter (fun q => q.no != e.no) ∧ (t.canCh n).tec = (s.canCh n).tec - 1
      ∧ t.reg (Reg.CFD_NST n (if e.cancelled then 1 else 0)) = s.reg (Reg.CFD_NST n (if e.cancelled then 1 else 0)) + 1)
  ∧ (∀ (n : Fin 6) (f : CanFail) (e : CanEntry) (s : State), s.canSending n = some e →
    let t0 := (s.canCh n).tec
    (e.cancelled = false → bit (e.image.head?.getD 0) 27 = false → (f = .dataBit → e.coll = 0) →
      ∃ t, exec (.canTxError n f) s = .next t ∧ (∀ q, q ∈ (t.canCh n).queue → q.no = e.no → q.started = false)
        ∧ (t.canCh n).queue.length = (s.canCh n).queue.length
        ∧ (t.canCh n).tec = if f = .arbitration then t0 else t0 + 8)
    ∧ (e.cancelled = true → ∃ t, exec (.canTxError n f) s = .next t ∧ t.reg (Reg.CFD_NST n 2) = s.reg (Reg.CFD_NST n 2) + 1
        ∧ (t.canCh n).queue = (s.canCh n).queue.filter (fun q => q.no != e.no))
    ∧ (e.cancelled = false → bit (e.image.head?.getD 0) 27 = true → ∃ t, exec (.canTxError n f) s = .next t
        ∧ t.reg (Reg.CFD_NST n 3) = s.reg (Reg.CFD_NST n 3) + 1 ∧ (t.canCh n).queue = (s.canCh n).queue.filter (fun q => q.no != e.no)))
  ∧ (∀ (n : Fin 6) (s : State), s.regB (Reg.CFD_CTL n) 31 = true → s.canBus n < 2 → 256 ≤ (s.canCh n).tec →
    ∃ t, exec (.canBusoff n) s = .next t ∧ t.canBus n = (if s.regB (Reg.CFD_CTL n) 25 then 3 else 2) ∧ (t.canCh n).queue = []
      ∧ t.regB (Reg.CFD_STK n) 1 = true ∧ t.reg (Reg.CFD_NST n 7) = s.reg (Reg.CFD_NST n 7) + BitVec.ofNat 32 (s.canCh n).queue.length)
  ∧ (∀ (p : Party) (n : Fin 6) (v : Word) (s : State), s.turnOf p = true →
    (bit v 0 = true → s.canBus n = 2 → ∃ t, exec (.cfdRecov p n v) s = .next t ∧ t.canBus n = 3 ∧ sameRegs s t [Reg.CFD_STAT n])
    ∧ (bit v 0 = false ∨ s.canBus n ≠ 2 → exec (.cfdRecov p n v) s = .next (s.turned p)))
  ∧ (∀ (n : Fin 6) (s : State),
    (s.canBus n = 3 → ∃ t, exec (.canBusoffRecovered n) s = .next t ∧ t.canBus n = 0 ∧ (t.canCh n).tec = 0 ∧ (t.canCh n).rec_ = 0
        ∧ sameRegs s t [Reg.CFD_STAT n])
    ∧ (s.regB (Reg.CFD_CTL n) 31 = true → s.canSending n = none → ∃ t, exec (.canModeSwitch n) s = .next t ∧ t.canMode n = s.canEff n
        ∧ sameRegs s t [Reg.CFD_STAT n])
    ∧ (∀ by8 : Bool, s.regB (Reg.CFD_CTL n) 31 = true → s.canBus n < 2 → ∃ t, exec (.canReceiveError n by8) s = .next t
        ∧ (t.canCh n).rec_ = min ((s.canCh n).rec_ + if by8 then 8 else 1) 255 ∧ sameRegs s t [Reg.CFD_STAT n, Reg.CFD_STK n]))
  ∧ (∀ (p : Party) (n : Fin 6) (v : Word) (s : State), s.turnOf p = true →
    ((s.canCh n).queue = [] → ∃ t, exec (.cfdCancel p n v) s = .next t ∧ t.regB (Reg.CFD_STK n) 5 = true ∧ sameRegs s t [Reg.CFD_STK n])
    ∧ (bit v 16 = true → (∀ e, e ∈ (s.canCh n).queue → e.started = false) → (s.canCh n).queue ≠ [] →
      ∃ t, exec (.cfdCancel p n v) s = .next t ∧ (t.canCh n).queue = []
        ∧ t.reg (Reg.CFD_NST n 2) = s.reg (Reg.CFD_NST n 2) + BitVec.ofNat 32 (s.canCh n).queue.length))
  ∧ (∀ (n : Fin 6) (r : List Word) (l : List (List Word)) (s : State), (s.canCh n).store = r :: l → (s.canCh n).unack < s.canRing n →
    ∃ t, exec (.canRecordWrite n) s = .next t ∧ (t.canCh n).store = l ∧ (t.canCh n).unack = (s.canCh n).unack + 1
      ∧ t.reg (Reg.CFD_NTXC n) = s.reg (Reg.CFD_NTXC n) + 1 ∧ t.reg (Reg.CFD_TXCW n) = BitVec.ofNat 32 l.length
      ∧ (s.Canonical → r.length = 4 → t.bankWords (bankAddr (s.regF (Reg.CFD_TXCR n) 31 26)
          (4 * (s.regF (Reg.CFD_TXCR n) 25 13 + 4 * (s.canCh n).wptr))) 4 = r))
  ∧ (∀ (p : Party) (n : Fin 6) (v : Word) (s : State), s.turnOf p = true →
    (0 < fld v 10 0 → fld v 10 0 ≤ (s.canCh n).unack → ∃ t, exec (.cfdTxcack p n v) s = .next t
        ∧ (t.canCh n).unack = (s.canCh n).unack - fld v 10 0 ∧ sameRegs s t [Reg.CFD_TXCST n])
    ∧ (fld v 10 0 = 0 ∨ (s.canCh n).unack < fld v 10 0 → ∃ t, exec (.cfdTxcack p n v) s = .next t ∧ t.can = s.can ∧ t.priv = s.priv))

/-- R493 to R496: a received frame is sorted by the filters into the queue, a buffer or rejected; acknowledgements free them. -/
def Obligations.CanReceiveResults : Prop :=
  (∀ (n : Fin 6) (image : List Word) (age : Nat) (s : State), s.regB (Reg.CFD_CTL n) 31 = true → s.canBus n < 2 →
    bit (image.head?.getD 0) 30 = false ∨ s.regB (Reg.CFD_CTL n) 27 = true →
    (∀ f, s.canFilter n image = some f → s.regF (Reg.CFD_FMSK n f) 31 30 = 0 → (s.canCh n).rx.length < 128 →
      ∃ t, exec (.canFrameReceived n image age) s = .next t ∧ (t.canCh n).rx = (s.canCh n).rx ++ [rxEntry image (s.tb.t - age) f false]
        ∧ t.reg (Reg.CFD_NRX n) = s.reg (Reg.CFD_NRX n) + 1 ∧ t.reg (Reg.CFD_NRXW n) = s.reg (Reg.CFD_NRXW n) + 1
        ∧ t.reg (Reg.CFD_RXSTAT n) = BitVec.ofNat 32 ((s.canCh n).rx.length + 1))
    ∧ (∀ f, s.canFilter n image = some f → s.regF (Reg.CFD_FMSK n f) 31 30 = 0 → 128 ≤ (s.canCh n).rx.length →
      ∃ t, exec (.canFrameReceived n image age) s = .next t ∧ (t.canCh n).rx = (s.canCh n).rx
        ∧ t.reg (Reg.CFD_NRXLOST n) = s.reg (Reg.CFD_NRXLOST n) + 1 ∧ t.regB (Reg.CFD_STK n) 3 = true)
    ∧ (∀ f, s.canFilter n image = some f → s.regF (Reg.CFD_FMSK n f) 31 30 = 1 → s.regB (Reg.CFD_HPSTAT n) (f % 8) = false →
      ∃ t, exec (.canFrameReceived n image age) s = .next t ∧ t.regB (Reg.CFD_HPSTAT n) (f % 8) = true
        ∧ (t.canCh n).rx = (s.canCh n).rx ∧ t.reg (Reg.CFD_NRXW n) = s.reg (Reg.CFD_NRXW n) + 1
        ∧ (∀ i w, (rxEntry image (s.tb.t - age) f false)[i]? = some w → t.reg (Reg.CFD_HPB n (f % 8) i) = w))
    ∧ (s.canFilter n image = none → s.regB (Reg.CFD_CTL n) 23 = false →
      ∃ t, exec (.canFrameReceived n image age) s = .next t ∧ t.reg (Reg.CFD_NRXREJ n) = s.reg (Reg.CFD_NRXREJ n) + 1
        ∧ (t.canCh n).rx = (s.canCh n).rx ∧ sameRegs s t [Reg.CFD_NRXREJ n, Reg.CFD_STAT n, Reg.CFD_STK n]))
  ∧ (∀ (p : Party) (n : Fin 6) (v : Word) (s : State), s.turnOf p = true →
    (0 < fld v 7 0 → fld v 7 0 ≤ (s.canCh n).rx.length → ∃ t, exec (.cfdRxack p n v) s = .next t
        ∧ (t.canCh n).rx = (s.canCh n).rx.drop (fld v 7 0)
        ∧ t.reg (Reg.CFD_RXSTAT n) = BitVec.ofNat 32 ((s.canCh n).rx.length - fld v 7 0) ∧ sameRegs s t [Reg.CFD_RXSTAT n])
    ∧ (fld v 7 0 = 0 ∨ (s.canCh n).rx.length < fld v 7 0 → ∃ t, exec (.cfdRxack p n v) s = .next t ∧ t.can = s.can ∧ t.priv = s.priv)
    ∧ (∃ t, exec (.cfdHpack p n v) s = .next t ∧ (∀ b, b < 8 → t.regB (Reg.CFD_HPSTAT n) b = (s.regB (Reg.CFD_HPSTAT n) b && !bit v b))
        ∧ t.can = s.can ∧ sameRegs s t [Reg.CFD_HPSTAT n]))


/-! ### Redundant pair -/

/-- R340 to R346: heartbeats leave and arrive, the hardwired path, a peer failed and alive again, paths and lanes lost and
restored. What counts as an alive path is the model's reading (notes/assumptions/18.md). -/
def Obligations.PairLinkResults : Prop :=
  (∀ (s : State),
    (s.pair.quiet = false → s.solo = false → s.tb.el - s.pair.pulseEl ≤ 2000 → ∃ t, exec .heartbeatSend s = .next t
        ∧ t.out = s.out ++ s.lanesUp.map (fun n => .pairFrame n (frameBytes 1 n (s.lane n).fseq s.hbPayload))
        ∧ t.pair.hbCnt = (s.pair.hbCnt + 1) % 2 ^ 32 ∧ t.regs = s.regs)
    ∧ (s.pair.quiet = true ∨ s.solo = true ∨ 2000 < s.tb.el - s.pair.pulseEl → exec .heartbeatSend s = .next s))
  ∧ (∀ (lane : Fin 2) (f p : List Byte) (s : State), s.laneUp lane = true →
    (frameParse f = some (1, p) → s.solo = true → exec (.heartbeatFrame lane f) s = .next s)
    ∧ (frameParse f = some (1, p) → s.solo = false → ∃ t, exec (.heartbeatFrame lane f) s = .next t ∧ (t.lane lane).hbEl = some s.tb.el
        ∧ t.pathAlive (2 + lane) = true ∧ t.pair.peerWord = BitVec.ofNat 32 (lget (wordsBE 4 p) 0 0)
        ∧ t.regF Reg.BTL_STAT 15 8 = fld t.pair.peerWord 15 8 ∧ t.regF Reg.BTL_STAT 7 4 = fld t.pair.peerWord 27 24
        ∧ t.regB Reg.BTL_STAT 24 = bit t.pair.peerWord 29 ∧ t.regB Reg.BTL_STAT 20 = bit t.pair.peerWord 30
        ∧ t.reg Reg.BTL_PIMGH = BitVec.ofNat 32 (lget (wordsBE 4 p) 2 0) ∧ t.hold = s.hold ∧ sameRegs s t [Reg.BTL_STAT, Reg.BTL_PIMGH])
    ∧ (frameParse f = none → ∃ t, exec (.heartbeatFrame lane f) s = .next t ∧ sameRegs s t [Reg.BTL_LANE lane]
        ∧ t.regF (Reg.BTL_LANE lane) 15 0 = (s.regF (Reg.BTL_LANE lane) 15 0 + 1) % 65536))
  ∧ (∀ (s : State), (s.solo = false → ∃ t, exec .hbInEdge s = .next t ∧ t.pathAlive 1 = true ∧ t.pair.seen = true ∧ t.regs = s.regs)
    ∧ (s.solo = true → exec .hbInEdge s = .next s))
  ∧ (∀ (s : State), s.pair.quiet = false → s.solo = false → 2000 < s.tb.el - s.pair.pulseEl →
    ∃ t, exec .alivePulseLoss s = .next t ∧ t.pair.quiet = true ∧ t.pair.toggling = false ∧ t.requesting = false ∧ t.pair.relEl = none
      ∧ t.hold = false ∧ t.driven = false)
  ∧ (∀ (s : State), s.pathMask = 0 → s.pair.seen = true → s.pair.failed = false → s.solo = false →
    (∃ t, exec .peerFail s = .next t ∧ t.pair.failed = true ∧ t.regB Reg.BTL_STAT 23 = false ∧ t.hold = s.hold)
    ∧ (s.mayRequest = true → s.pairState = 1 ∨ s.pairState = 2 → s.pair.openEps = [] →
        ∃ t, exec .peerFail s = .next t ∧ t.pair.waiting = true ∧ t.pair.takeover = true))
  ∧ (∀ (s : State), s.pathAlive 0 = true → s.pathAlive 1 = true → s.regB Reg.BTL_STAT 23 = false → s.solo = false →
    s.pathSince 0 + 100000000 ≤ s.tb.el → s.pathSince 1 + 100000000 ≤ s.tb.el →
    ∃ t, exec .peerAlive s = .next t ∧ t.regB Reg.BTL_STAT 23 = true ∧ t.pair.failed = false ∧ sameRegs s t [Reg.BTL_STAT])
  ∧ (∀ (k : Fin 4) (s : State),
    (s.pathAlive k = false → s.pathAlive (otherPath k) = true → s.pair.ever.contains k.val = true ∨ 8000 ≤ s.tb.el →
      s.pair.lost.contains k.val = false →
      s.solo = false → ∃ t, exec (.pathLoss k) s = .next t ∧ t.pair.lost.contains k.val = true
        ∧ t.regB Reg.BTL_STK (if k.val < 2 then 0 else 1) = true ∧ sameRegs s t [Reg.BTL_STK])
    ∧ (s.pair.lost.contains k.val = true → s.pathAlive k = true → s.pathSince k + 1000000000 ≤ s.tb.el →
      ∃ t, exec (.pathRestore k) s = .next t ∧ t.pair.lost.contains k.val = false ∧ sameRegs s t []))
  ∧ (∀ (lane : Fin 2) (eq : Fin 256) (s : State),
    (s.regF (Reg.BTL_LANE lane) 31 30 = 1 → s.domainOut 11 = false → ∃ t, exec (.laneTrained lane eq) s = .next t ∧ t.laneUp lane = true
        ∧ t.regF (Reg.BTL_LANE lane) 23 16 = eq ∧ sameRegs s t [Reg.BTL_LANE lane])
    ∧ (s.laneUp lane = true → 16 < ((s.lane lane).errs.filter (fun e => decide (s.tb.el - e < 1000000))).length →
      ∃ t, exec (.laneDown lane) s = .next t ∧ t.regF (Reg.BTL_LANE lane) 31 30 = 1 ∧ (t.lane lane).errs = []
        ∧ sameRegs s t [Reg.BTL_LANE lane])
    ∧ (0 < eq.val → eq.val < 255 → exec (.eqLimit lane eq) s = .next s)
    ∧ (s.laneUp lane = true → eq.val = 0 ∨ eq.val = 255 → ∃ t, exec (.eqLimit lane eq) s = .next t ∧ t.regB Reg.BTL_STK 13 = true
        ∧ t.regF (Reg.BTL_LANE lane) 23 16 = eq ∧ sameRegs s t [Reg.BTL_LANE lane, Reg.BTL_STK]))

/-- R347 to R351, R375 to R378: the interlock, requests and their window, dual authority and beacons, planned handover from
HO_PREP to its success or failure, and revert. Corners of HOLD and NHANDO are the model's reading (notes/assumptions/19.md). -/
def Obligations.AuthorityResults : Prop :=
  (∀ (s : State),
    (s.pair.waiting = true → s.barred = true → ∃ t, exec .authorityRequest s = .next t ∧ t.pair.waiting = false ∧ t.pair.window = s.pair.window
        ∧ t.pair.toggling = s.pair.toggling ∧ t.regs = s.regs)
    ∧ (s.pair.waiting = true → s.barred = false → s.pair.authIn = false → ∃ t, exec .authorityRequest s = .next t ∧ t.pair.window = some s.tb.el
        ∧ t.pair.toggling = true ∧ t.pair.waiting = false ∧ t.regs = s.regs)
    ∧ (s.pair.authIn = true → s.barred = false → exec .authorityRequest s = .next s))
  ∧ (∀ (w : Nat) (s : State), s.pair.window = some w → w + 2000 ≤ s.tb.el → s.hold = false →
    (s.barred = false → ∃ t, exec .arbitrationWindowEnd s = .next t ∧ t.hold = true ∧ t.pair.window = none
      ∧ (s.pair.takeover = true → t.reg Reg.BTL_NTAKE = s.reg Reg.BTL_NTAKE + 1))
    ∧ (s.barred = true → ∃ t, exec .arbitrationWindowEnd s = .next t ∧ t.hold = false ∧ t.requesting = s.pair.waiting
        ∧ t.pair.toggling = false ∧ t.regs = s.regs))
  ∧ (∀ (s : State),
    (s.pair.authIn = false → ∃ t, exec .authInActive s = .next t ∧ t.pair.authIn = true ∧ (s.solo = false → t.driven = false)
        ∧ (s.pair.window.isSome = true → s.regB Reg.SYS_STRAP 0 = true → t.pair.window = none ∧ t.pair.toggling = false ∧ t.pair.waiting = true))
    ∧ (s.pair.authIn = true → s.pair.armEl = none → s.pair.waiting = false → ∃ t, exec .authInInactive s = .next t ∧ t.pair.authIn = false
        ∧ t.driven = s.hold ∧ t.hold = s.hold)
    ∧ (s.pair.authIn = true → s.pair.armEl = none → s.pair.waiting = true → s.barred = false → ∃ t, exec .authInInactive s = .next t
        ∧ t.pair.window = some s.tb.el ∧ t.pair.toggling = true)
    ∧ (s.pair.authIn = true → s.pair.armEl.isSome = true → s.pair.armSeq.isSome = true → s.hold = false → s.barred = false →
      ∃ t, exec .authInInactive s = .next t ∧ t.hold = true ∧ t.reg Reg.BTL_NHANDO = s.reg Reg.BTL_NHANDO + 1 ∧ t.pair.armSeq = none))
  ∧ (∀ (s : State), s.hold = true → s.solo = false → s.pair.authIn = true → s.pair.dualNoted = false → s.pair.authInEl + 2000 < s.tb.el →
    ∃ t, exec .dualAuthority s = .next t ∧ t.regB Reg.BTL_STK 3 = true ∧ t.hold = !(s.regB Reg.SYS_STRAP 0)
      ∧ (s.regB Reg.SYS_STRAP 0 = true → t.pair.toggling = false))
  ∧ (∀ (s : State),
    (s.solo = true → exec .pairBeaconSend s = .next s)
    ∧ (s.solo = false → s.domainOut 6 = false → s.regB (Reg.ETH_PCFG 0) 31 = true → s.regB (Reg.ETH_PSTAT 0) 31 = true →
        s.regB (Reg.ETH_PCFG 1) 31 = true → s.regB (Reg.ETH_PSTAT 1) 31 = true →
      ∃ t a b, exec .pairBeaconSend s = .next t ∧ t.out = s.out ++ [.telegram a (telFrame (s.telTag 0) a), .telegram b (telFrame (s.telTag 1) b)] ∧ a.lan = 0 ∧ b.lan = 1
        ∧ a.stream = 0xFFFF ∧ b.stream = 0xFFFF ∧ a.payload = s.hbPayload.take 8 ∧ b.payload = s.hbPayload.take 8 ∧ a.auth = s.hold))
  ∧ (∀ (c : TelCopy) (s : State),
    (c.src = s.regF Reg.SYS_ADDR 7 0 → ∃ t, exec (.pairBeacon c) s = .next t ∧ t.healthy = false ∧ t.regB Reg.SYS_STK 5 = true)
    ∧ (c.src ≠ s.regF Reg.SYS_ADDR 7 0 → c.stream = 0xFFFF → s.hold = true → s.solo = false → s.pair.failed = true → s.pathMask = 0 →
        c.src = s.regF Reg.BTL_STAT 15 8 → s.pair.beaconSeq ≠ some c.seq → (c.payload.head?.map (fun b => b.toNat.testBit 5)) = some true →
      (s.pair.beacons = 0 → ∃ t, exec (.pairBeacon c) s = .next t ∧ t.pair.beacons = 1 ∧ t.pair.beaconSeq = some c.seq ∧ t.hold = true)
      ∧ (1 ≤ s.pair.beacons → ∃ t, exec (.pairBeacon c) s = .next t ∧ t.regB Reg.BTL_STK 3 = true
          ∧ t.hold = !(s.regB Reg.SYS_STRAP 0))))
  ∧ (∀ (lane : Fin 2) (f p : List Byte) (s : State), s.laneUp lane = true → s.solo = false → frameParse f = some (0x20, p) →
    let c := readControl p
    (1 - lane.val, [c.cmd, c.group, c.tid, c.seq]) ∉ s.pair.control →
    (c.cmd = 1 → s.barred = true → ∃ t, exec (.hoPrep lane f) s = .next t ∧ t.pair.armSeq = s.pair.armSeq ∧ t.out = s.out ∧ t.regs = s.regs)
    ∧ (c.cmd = 1 → s.healthy = true → s.hold = false → s.barred = false → s.pairState = 1 ∨ s.pairState = 2 →
      ∃ t, exec (.hoPrep lane f) s = .next t ∧ t.pair.armSeq = some c.seq ∧ t.pair.armGroup = c.group ∧ t.regs = s.regs
        ∧ t.out.length = s.out.length + s.lanesUp.length)
    ∧ (c.cmd = 2 → s.hold = true → s.pair.hoSeq = some c.seq → ∃ t, exec (.hoAck lane f) s = .next t ∧ t.pair.hoAck = true ∧ t.regs = s.regs)
    ∧ (c.cmd = 2 → s.pair.hoSeq ≠ some c.seq → ∃ t, exec (.hoAck lane f) s = .next t ∧ t.pair.hoAck = s.pair.hoAck ∧ t.regs = s.regs)
    ∧ (c.cmd = 3 → s.hold = true → s.pair.hoSeq = none → ∃ t, exec (.revertReq lane f) s = .next t
        ∧ t.pair.hoSeq = some s.handoverSeq ∧ t.pair.hoRev = true ∧ t.pair.hoAck = false ∧ t.regs = s.regs))
  ∧ (∀ (p : Party) (v : Word) (s : State), s.turnOf p = true →
    (bit v 0 = true → s.hold = true → s.solo = false → s.pair.hoSeq = none → ∃ t, exec (.btlHoreq p v) s = .next t
        ∧ t.pair.hoSeq = some s.handoverSeq ∧ t.pair.hoAck = false ∧ t.regs = s.regs ∧ t.out.length = s.out.length + s.lanesUp.length)
    ∧ (bit v 0 = false ∨ s.hold = false → exec (.btlHoreq p v) s = .next (s.turned p)))
  ∧ (∀ (e : Nat) (s : State), e + 20000 ≤ s.tb.el →
    (s.pair.armEl = some e → s.hold = false → ∃ t, exec .handoverFail s = .next t ∧ t.pair.toggling = false ∧ t.pair.armSeq = none
        ∧ t.regB Reg.BTL_STK 12 = true ∧ t.hold = false)
    ∧ (s.pair.armEl = none → s.pair.relEl = some e → ∃ t, exec .handoverFail s = .next t ∧ t.pair.relEl = none
        ∧ t.pair.waiting = (s.pair.waiting || s.mayHold)))
  ∧ (∀ (s : State),
    (s.revertReady = true → s.pair.revSent = false → bit s.pair.peerWord 29 = true → ∃ t, exec .revertHoldoffElapsed s = .next t
        ∧ t.pair.revSent = true ∧ t.out.length = s.out.length + s.lanesUp.length ∧ t.regs = s.regs)
    ∧ (s.revertReady = false → exec .revertHoldoffElapsed s = .next s))

/-- R357 to R369, R379 to R382: an epoch leaves, arrives frame by frame, is decided, applied or discarded; a pair-wide
transaction is marked, learns the peer's result and its decision. -/
def Obligations.MirrorResults : Prop :=
  (∀ (e : TxEpoch) (l : List TxEpoch) (s : State), s.pair.txq = e :: l →
    ∃ t, exec .epochTransmitEnd s = .next t ∧ t.pair.txq = l ∧ t.regs = s.regs
      ∧ ∀ n, n ∈ s.lanesUp → .pairFrame n (frameBytes 0x10 n (s.lane n).fseq e.head) ∈ t.out)
  ∧ (∀ (lane : Fin 2) (f p : List Byte) (s : State), s.laneUp lane = true → s.solo = false →
    (frameParse f = some (0x10, p) →
      let g := bitsOf (lget (wordsBE 8 p) 0 0) 31 28
      let q := lget (wordsBE 8 p) 1 0 + bitsOf (lget (wordsBE 8 p) 2 0) 15 0 * 2 ^ 32
      s.pair.openEps = [] → (s.lane lane).copy = none → s.pair.received.contains (g, q) = false →
      ∃ t, exec (.epochHeaderFrame lane f) s = .next t ∧ t.reg Reg.BTL_NEPRX = s.reg Reg.BTL_NEPRX + 1
        ∧ t.reg Reg.BTL_NEPPEND = s.reg Reg.BTL_NEPPEND + 1
        ∧ (t.lane lane).copy = some { group := g, seq := q, head := p, len := lget (wordsBE 8 p) 3 0, el := s.tb.el })
    ∧ (∀ c, frameParse f = some (0x11, p) → (s.lane lane).copy = some c → ofBE (p.take 4) = c.body.length →
      ∃ t, exec (.epochBodyFrame lane f) s = .next t ∧ (t.lane lane).copy = some { c with body := c.body ++ p.drop 4 } ∧ t.regs = s.regs)
    ∧ (∀ c, frameParse f = some (0x12, p) → (s.lane lane).copy = some c → c.group < 16 →
      ofBE (p.take 4) = (crc32c (c.head ++ c.body)).toNat →
      let cause := s.epochCause c (BitVec.ofNat 32 (lget (wordsBE 8 c.head) 4 0))
      (cause = 0 → ∃ t a, exec (.epochCommitFrame lane f) s = .next t ∧ t.pair.applying = s.pair.applying ++ [a] ∧ a.group = c.group
          ∧ a.seq = c.seq ∧ a.body = c.body ∧ some a.bank = s.backBank c.group ∧ (t.epochs c.group).lastApp = some c.seq
          ∧ (t.lane lane).copy = none)
      ∧ (cause ≠ 0 → ∃ t, exec (.epochCommitFrame lane f) s = .next t ∧ t.reg Reg.BTL_NEPDISC = s.reg Reg.BTL_NEPDISC + 1
          ∧ t.reg Reg.BTL_NEPPEND = s.reg Reg.BTL_NEPPEND - 1 ∧ t.regF (Reg.BTL_MST c.group) 31 30 = 2
          ∧ t.regF (Reg.BTL_MST c.group) 28 25 = cause ∧ t.regB Reg.BTL_STK 4 = true ∧ t.pair.applying = s.pair.applying)))
  ∧ (∀ (lane : Fin 2) (c : EpochCopy) (s : State), (s.lane lane).copy = some c → 3000 + 7 * (64 + 4 * c.len) < s.tb.el - c.el →
    ∃ t, exec (.epochCopyTimeout lane) s = .next t ∧ (t.lane lane).copy = none)
  ∧ (∀ (a : EpochApply) (l : List EpochApply) (s : State), s.pair.applying = a :: l → a.group < 16 →
    ∃ t, exec .epochApply s = .next t ∧ t.pair.applying = l ∧ t.reg Reg.BTL_NEPAPP = s.reg Reg.BTL_NEPAPP + 1
      ∧ t.reg Reg.BTL_NEPPEND = s.reg Reg.BTL_NEPPEND - 1 ∧ t.regF (Reg.BTL_MST a.group) 31 30 = 1
      ∧ t.owner a.bank = s.ownerOf (s.hostOf (s.regF (Reg.BTL_MRX a.group) 7 0)))
  ∧ (∀ (p : Party) (v : Word) (s : State), s.turnOf p = true → bit v 31 = true →
    (s.txn (fld v 19 16) = none → ∃ t x, exec (.btlTxn p v) s = .next t ∧ t.txn (fld v 19 16) = some x ∧ x.tid = fld v 15 0 ∧ x.stage = 1
        ∧ t.regF Reg.BTL_TXSTAT 31 29 = 1 ∧ t.regF Reg.BTL_TXSTAT 15 0 = fld v 15 0 ∧ sameRegs s t [Reg.BTL_TXSTAT])
    ∧ (s.txn (fld v 19 16) ≠ none → ∃ t, exec (.btlTxn p v) s = .next t ∧ t.regB Reg.BTL_STK 11 = true ∧ t.pair = s.pair
        ∧ sameRegs s t [Reg.BTL_STK]))
  ∧ (∀ (lane : Fin 2) (f p : List Byte) (x : Txn) (s : State), s.laneUp lane = true → s.solo = false → frameParse f = some (0x20, p) →
    let c := readControl p
    (1 - lane.val, [c.cmd, c.group, c.tid, c.seq]) ∉ s.pair.control → s.txn c.group = some x → x.tid = c.tid →
    (c.cmd = 4 → ∃ t y, exec (.txprep lane f) s = .next t ∧ t.txn c.group = some y ∧ y.peer = some (c.result == 0, BitVec.ofNat 32 c.arg)
        ∧ (x.stage = 2 → x.decider = true → x.decision = none → s.peerGone = false → y.decision = { x with peer := y.peer }.verdict))
    ∧ (c.cmd = 5 → x.decider = false → ∃ t y, exec (.txdec lane f) s = .next t ∧ t.txn c.group = some y
        ∧ (y.decision.map (fun d => d.1)) = some (c.result == 0) ∧ t.regs = s.regs))
  ∧ (∀ (g : Fin 16) (x : Txn) (s : State), s.txn g = some x → x.stage = 2 → x.decider = true → x.decision = none → s.peerGone = false →
    s.groupAxis g ≠ 0 ∨ turnDiff (s.group g).next s.tmbNs ≤ 100000 →
    ∃ t y, exec (.txnDecisionTimeout g) s = .next t ∧ t.txn g = some y ∧ y.decision = some (false, 4)
      ∧ t.out.length = s.out.length + s.lanesUp.length ∧ t.regs = s.regs)


/-! ### Event recorder -/

/-- R520, R522, R526, R528, R532, R533, R535, R536, R588: a record of the intake is written or stated lost, a scrub removes what
fails, a window is asked for and filled, a freeze slot takes its snapshot and is released. -/
def Obligations.RecorderResults : Prop :=
  (∀ (r : EvRecord) (l : List EvRecord) (s : State), s.evr.intake = r :: l → s.evr.refusedParts = [] →
    (s.evr.failed = false → ∃ t, exec .recordStoreWrite s = .next t ∧ t.evr.intake = l ∧ t.evr.head = r.seq
        ∧ mget t.evr.circ r.seq = some r ∧ t.reg Reg.EVR_HEAD = BitVec.ofNat 32 r.seq
        ∧ t.reg Reg.EVR_NWR = s.reg Reg.EVR_NWR + 1 ∧ t.reg Reg.EVR_NPEND = s.reg Reg.EVR_NPEND - 1 ∧ sameRegs s t [])
    ∧ (s.evr.failed = true → ∃ t, exec .recordStoreWrite s = .next t ∧ t.evr.intake = l ∧ t.evr.lost = s.evr.lost ++ [r.seq]
        ∧ t.evr.circ = s.evr.circ ∧ t.reg Reg.EVR_NLOST = s.reg Reg.EVR_NLOST + 1 ∧ t.reg Reg.EVR_NPEND = s.reg Reg.EVR_NPEND - 1)
    ∧ (∃ t, exec (.storeWriteFault 1 none) s = .next t ∧ t.evr.lost = s.evr.lost ++ [r.seq] ∧ t.evr.circ = s.evr.circ
        ∧ t.regB Reg.EVR_STK 2 = true ∧ t.reg Reg.EVR_NLOST = s.reg Reg.EVR_NLOST + 1))
  ∧ (∀ (q : Nat) (r : EvRecord) (s : State), mget s.evr.circ q = some r → r.seq = q → q ∉ s.evr.lost →
    ∃ t, exec (.evrScrub 0 q 1) s = .next t ∧ mget t.evr.circ q = none ∧ q ∈ t.evr.lost ∧ t.regB Reg.EVR_STK 2 = true
      ∧ t.reg Reg.EVR_NLOST = s.reg Reg.EVR_NLOST + 1 ∧ t.reg Reg.EVR_NWR = s.reg Reg.EVR_NWR - 1)
  ∧ (∀ (s : State), ∃ t, exec .optimeSave s = .next t ∧ t.evr.savedOptime = s.evr.optime ∧ t.evr.savedPcc = s.evr.pcc
      ∧ t.regs = s.regs)
  ∧ (∀ (p : Party) (v : Word) (s : State), s.turnOf p = true →
    let start := (s.preg (partyNo p) Reg.EVR_CURL).toNat
    (1 ≤ fld v 27 23 → fld v 27 23 ≤ 16 → fld v 30 28 < 2 → ∃ t, exec (.evrCur p v) s = .next t
        ∧ mget t.evr.copying (partyNo p) = some (fld v 30 28, fld v 27 23, fld v 15 0 * 2 ^ 32 + start)
        ∧ bit (t.preg (partyNo p) Reg.EVR_CUR) 31 = false ∧ t.regs = s.regs)
    ∧ (fld v 27 23 = 0 ∨ 16 < fld v 27 23 ∨ 6 ≤ fld v 30 28 → ∃ t, exec (.evrCur p v) s = .next t ∧ t.evr = s.evr ∧ t.priv = s.priv))
  ∧ (∀ (p : Party) (bad : Fin 65536) (area count start : Nat) (s : State), mget s.evr.copying (partyNo p) = some (area, count, start) →
    count ≤ 16 →
    ∃ t, exec (.windowCopyEnd p bad) s = .next t ∧ mget t.evr.copying (partyNo p) = none
      ∧ bit (t.preg (partyNo p) Reg.EVR_CUR) 31 = true
      ∧ (∀ i, i < count → bit (t.preg (partyNo p) Reg.EVR_WSTAT) i = ((s.areaGet area (start + i)).isSome && !bad.val.testBit i)
          ∧ (∀ r w, s.areaGet area (start + i) = some r → t.winWord (partyNo p) i w = lget r.words w 0)))
  ∧ (∀ (k : Fin 4) (s : State), (mgetD s.evr.slots k {}).snapDue = true →
    ∃ t, exec (.freezeSnapshot k) s = .next t ∧ (mgetD t.evr.slots k {}).snapDue = false
      ∧ (∀ j, j < 32 → s.regB (Reg.EVR_FSNAP j) 31 = true → s.decoded (s.regF (Reg.EVR_FSNAP j) 15 0) = false → t.reg (Reg.EVR_FVAL k j) = 0)
      ∧ (∀ j, j < 32 → s.regB (Reg.EVR_FSNAP j) 31 = false → t.reg (Reg.EVR_FVAL k j) = s.reg (Reg.EVR_FVAL k j)))
  ∧ (∀ (p : Party) (v : Word) (s : State), s.turnOf p = true →
    (∃ t, exec (.evrFrel p v) s = .next t ∧ (∀ k, k < 4 → (bit v k = true → mget t.evr.slots k = some {} ∧ t.regF (Reg.EVR_FST k) 31 30 = 0)
        ∧ (bit v k = false → mget t.evr.slots k = mget s.evr.slots k)) ∧ t.evr.circ = s.evr.circ)
    ∧ (∃ t, exec (.evrDsel p v) s = .next t ∧ t.evr.dsel = fld v 15 0 ∧ t.regs = s.regs))

/-! ### Start-up, resets, supplies -/

/-- R13, R14, R539 to R549, R589: from the first feed through self-test, image choice and address to the program's start; the
chain of addresses. -/
def Obligations.StartupResults : Prop :=
  (∀ (s : State), s.boot.powerFail = true → (∃ t, exec (.feedPresent true) s = .next t ∧ t.reg Reg.SYS_RSTCAUSE = 0
        ∧ t.evr.pcc = min (s.evr.savedPcc + 1) 16777215 ∧ t.boot.stage = .selftest ∧ t.engs = [])
    ∧ (∃ t, exec (.feedPresent false) s = .next t ∧ t.regF Reg.SYS_RSTCAUSE 31 28 = 7 ∧ t.boot.stage = .selftest))
  ∧ (∀ (s : State), s.boot.stage = .selftest →
    (∃ t, exec (.selfTestEnd true) s = .next t ∧ t.boot.stage = .images ∧ (∀ a, t.byteAt a = 0 ∧ t.dramAt a = 0) ∧ t.regs = s.regs)
    ∧ (∃ t, exec (.selfTestEnd false) s = .next t ∧ t.boot.stage = .address ∧ t.regB Reg.SYS_BOOT 6 = true ∧ t.healthy = false))
  ∧ (∀ (place0 place1 : Bool) (s : State), s.boot.stage = .images →
    let sel := s.regF Reg.SYS_BOOT 1 0 % 2
    let place := fun k => if k = 0 then place0 else place1
    ∃ t, exec (.imageCheckEnd place0 place1) s = .next t ∧ t.boot.stage = .address
      ∧ (s.imageFails sel (place sel) = none → t.boot.image = some sel ∧ t.regF Reg.SYS_BOOT 3 2 = sel ∧ t.regB Reg.SYS_BOOT 7 = false)
      ∧ (s.imageFails sel (place sel) ≠ none → s.imageFails (1 - sel) (place (1 - sel)) = none →
          t.boot.image = some (1 - sel) ∧ t.regF Reg.SYS_BOOT 3 2 = 1 - sel ∧ t.regB Reg.SYS_BOOT 7 = true)
      ∧ (s.imageFails sel (place sel) ≠ none → s.imageFails (1 - sel) (place (1 - sel)) ≠ none →
          t.boot.image = s.boot.image ∧ t.regF Reg.SYS_BOOT 3 2 = 3 ∧ t.regB Reg.SYS_BOOT 6 = true ∧ t.healthy = false))
  ∧ (∀ (outPresent : Bool) (s : State), s.boot.stage = .address →
    (∃ t, exec (.addressTake false outPresent) s = .next t ∧ t.regF Reg.SYS_ADDR 7 0 = 1 ∧ t.evr.holding = false
        ∧ (s.regB Reg.SYS_BOOT 6 = false → t.boot.stage = .loader) ∧ (s.regB Reg.SYS_BOOT 6 = true → t.boot.stage = .service))
    ∧ (∀ a, s.boot.chainGot = some a → 1 ≤ a → a ≤ 62 → ∃ t, exec (.addressTake true outPresent) s = .next t
        ∧ t.regF Reg.SYS_ADDR 7 0 = a ∧ t.regF Reg.SYS_ADDR 15 8 = a ∧ t.evr.holding = false)
    ∧ (s.boot.chainGot = none → s.tb.el < 1170000000 → exec (.addressTake true outPresent) s = .next s)
    ∧ (s.boot.chainGot = none → 1170000000 ≤ s.tb.el → s.regF Reg.SYS_ADDR 15 8 = 0 → ∃ t, exec (.addressTake true outPresent) s = .next t
        ∧ t.boot.stage = .service ∧ t.healthy = false))
  ∧ (∀ (s : State), s.solo = false → s.pair.ever.contains 0 = true →
    (bit s.pair.peerWord 31 = s.regB Reg.SYS_STRAP 0 → s.pair.selConflict = false → ∃ t, exec .pairNegotiation s = .next t
        ∧ t.pair.selConflict = true ∧ t.hold = false ∧ t.requesting = false ∧ t.pair.toggling = false ∧ t.driven = false)
    ∧ (bit s.pair.peerWord 31 ≠ s.regB Reg.SYS_STRAP 0 → ∃ t, exec .pairNegotiation s = .next t ∧ t.pair.selConflict = false
        ∧ t.regs = s.regs))
  ∧ (∀ (code : List (EngineNo × List Word)) (values : List (Nat × Word)) (owners : List (BankNo × Nat)) (s : State), s.boot.stage = .loader →
    ∃ t, exec (.programLoad code values owners) s = .next t ∧ t.boot.stage = .running ∧ t.pair.started.isSome = true)
  ∧ (∀ (e : EngineNo) (ws : List Word) (b : BankNo) (o : Nat) (s : State), s.boot.stage = .loader → ws.length ≤ 32768 → s.ownerCode o = true →
    ∃ t, exec (.programLoad [(e, ws)] [] [(b, o)]) s = .next t ∧ t.owner b = o ∧ ∀ i, mget (t.eng e).imem i = ws[i]?)
  ∧ (∀ (s : State), ∃ t, exec .powerFail s = .next t ∧ t.evr.closed = true ∧ t.evr.savedOptime = s.evr.optime ∧ t.boot.powerFail = true
      ∧ t.regs = s.regs)
  ∧ (∀ (s : State), s.regF Reg.SYS_ADDR 7 0 ≠ 0 → ∃ t, exec .chainFrameSend s = .next t
      ∧ sent s t (.chain (chainWord (s.regF Reg.SYS_ADDR 7 0 + 1))) ∧ t.regs = s.regs)
  ∧ (∀ (a : Nat) (s : State), a < 256 →
    ∃ t n, exec (.chainFrame (chainWord a)) s = .next t ∧ t.boot.chain = some (a, n) ∧ t.boot.chainEl = s.tb.el
      ∧ (∀ k, s.boot.chain = some (a, k) → n = k + 1)
      ∧ (3 ≤ n → t.boot.chainGot = some (s.boot.chainGot.getD a)) ∧ t.regs = s.regs)
  ∧ (∀ (s : State), s.boot.stage = .running → s.boot.plugIn = true → s.boot.chainBroken = false → s.boot.chainEl + 20000000 ≤ s.tb.el →
    ∃ t, exec .chainBreak s = .next t ∧ t.regB Reg.SYS_STK 2 = true ∧ t.boot.chainBroken = true ∧ sameRegs s t [Reg.SYS_STK])
  ∧ (∀ (e a n : Nat) (s : State), s.boot.chainOther = some e → s.boot.chain = some (a, n) → s.boot.stage = .running →
    s.boot.chainChanged = false → e + 100000000 ≤ s.tb.el →
    ∃ t, exec .addrChange s = .next t ∧ t.regB Reg.SYS_STK 4 = true ∧ sameRegs s t [Reg.SYS_STK])
  ∧ (∀ (s : State), s.boot.dupEl = none → 10000000000 ≤ s.tb.el → ∃ t, exec .addrDuplicateEnd s = .next t
      ∧ t.health.contains .dupAddr = false ∧ t.regs = s.regs)
  ∧ (∀ (sel solo : Bool) (s : State),
    (sel ≠ s.boot.selIn ∨ solo ≠ s.boot.soloIn → ∃ t, exec (.strapChange sel solo) s = .next t ∧ t.regB Reg.SYS_STRAP 3 = true
        ∧ t.solo = s.solo ∧ t.boot.selIn = sel ∧ t.boot.soloIn = solo ∧ sameRegs s t [Reg.SYS_STRAP])
    ∧ (sel = s.boot.selIn → solo = s.boot.soloIn → exec (.strapChange sel solo) s = .next s))

/-- R551, R553 to R555, R563, R571, R572: resets asked for and carried out, the button, the feeds, the temperatures. -/
def Obligations.ResetAndSupplyResults : Prop :=
  (∀ (c e : Nat) (s : State), s.boot.rstPend = some c → s.boot.rstEl = some e → e ≤ s.tb.el → c < 16 →
    ∃ t, exec .unitReset s = .next t ∧ t.regF Reg.SYS_RSTCAUSE 31 28 = c
      ∧ t.regF Reg.SYS_RSTCAUSE 23 0 = min (s.regF Reg.SYS_RSTCAUSE 23 0 + 1) 16777215
      ∧ t.boot.stage = .selftest ∧ t.engs = [] ∧ t.hold = false ∧ t.clk = 0 ∧ t.boot.flash = s.boot.flash ∧ t.pending = s.pending)
  ∧ (∀ (p : Party) (code : Fin 65536) (s : State), s.turnOf p = true →
    (code = 0xA5C3 → s.boot.rstPend = none → s.hold = false ∨ s.solo = true → ∃ t, exec (.sysRstOrderly p true code) s = .next t
        ∧ t.boot.rstPend = some (resetCause p) ∧ t.boot.rstEl = some s.tb.el ∧ t.regB Reg.SYS_BTN 29 = true ∧ sameRegs s t [Reg.SYS_BTN])
    ∧ (code = 0xA5C3 → s.boot.rstPend = none → s.hold = true → s.solo = false → s.peerIn [1, 2] = true →
        ∃ t, exec (.sysRstOrderly p true code) s = .next t ∧ t.boot.rstPend = some (resetCause p) ∧ t.boot.rstEl = s.boot.rstEl
          ∧ t.pair.hoNext = true)
    ∧ (code = 0xA5C3 → s.boot.rstPend = none → s.hold = true → s.solo = false → s.peerIn [1, 2] = false →
        ∃ t, exec (.sysRstOrderly p true code) s = .next t ∧ t.boot = s.boot ∧ t.regB Reg.SYS_STK 7 = true)
    ∧ (code ≠ 0xA5C3 → ∃ t u, exec (.sysRstOrderly p true code) s = .next t ∧ t.boot = s.boot
        ∧ exec (.sysRstImmediate p true code) s = .next u ∧ u.boot = s.boot)
    ∧ (∀ g : GroupNo, p = .svc g → code = 0xA5C3 → ∃ t, exec (.sysRstImmediate (.svc g) true code) s = .next t ∧ t.boot.rstPend = some 5
        ∧ t.boot.rstEl = some s.tb.el ∧ t.regs = s.regs)
    ∧ (∀ e : EngineNo, p = .eng e → code = 0xA5C3 → s.locked e = true → ∃ t, exec (.sysRstImmediate (.eng e) true code) s = .next t
        ∧ t.boot.rstPend = some 4 ∧ t.boot.rstEl = some s.tb.el ∧ t.regs = s.regs))
  ∧ (∀ (us : Nat) (s : State), s.regB Reg.SYS_BTN 30 = false →
    (100000 ≤ us → us ≤ 5000000 → s.boot.rstPend = none → s.hold = false → ∃ t, exec (.buttonRelease us) s = .next t
        ∧ t.boot.rstPend = some 3 ∧ t.regF Reg.SYS_BTN 15 0 = (s.regF Reg.SYS_BTN 15 0 + 1) % 65536)
    ∧ (us < 100000 → ∃ t, exec (.buttonRelease us) s = .next t ∧ t.boot = s.boot ∧ sameRegs s t [Reg.SYS_BTN])
    ∧ (∃ t, exec .buttonStuck s = .next t ∧ t.regB Reg.SYS_BTN 30 = true ∧ t.regB Reg.SYS_STK 6 = true
        ∧ sameRegs s t [Reg.SYS_BTN, Reg.SYS_STK]))
  ∧ (∀ (s : State), s.regB Reg.SYS_BTN 30 = true → ∃ t, exec .buttonUnstuck s = .next t ∧ t.regB Reg.SYS_BTN 30 = false
      ∧ t.regB Reg.SYS_BTN 31 = false ∧ sameRegs s t [Reg.SYS_BTN])
  ∧ (∀ (f : Fin 2) (cv : Fin 65536) (s : State),
    (cv.val < 1800 → s.boot.lowFeeds.contains f.val = false → ∃ t, exec (.feedLow f cv) s = .next t ∧ t.regB Reg.SYS_ENVSTK f = true
        ∧ t.boot.lowFeeds.contains f.val = true ∧ sameRegs s t [Reg.SYS_ENVSTK, Reg.SYS_PWRMON])
    ∧ (1800 ≤ cv.val → s.boot.lowFeeds.contains f.val = true → ∃ t, exec (.feedOk f cv) s = .next t
        ∧ t.boot.lowFeeds.contains f.val = false ∧ sameRegs s t [Reg.SYS_PWRMON]))
  ∧ (∀ (die pkg : Int) (s : State),
    (115 ≤ max die pkg → s.health.contains .tempHigh = false → ∃ t, exec (.tempHigh die pkg) s = .next t ∧ t.healthy = false
        ∧ t.regB Reg.SYS_ENVSTK 3 = true ∧ t.regB Reg.SYS_ENVSTK 2 = true ∧ sameRegs s t [Reg.SYS_ENVSTK, Reg.SYS_TEMP])
    ∧ (max die pkg ≤ 105 → s.health.contains .tempHigh = true → ∃ t, exec (.tempHighEnd die pkg) s = .next t
        ∧ t.health.contains .tempHigh = false ∧ sameRegs s t [Reg.SYS_TEMP])
    ∧ (125 ≤ max die pkg → ∃ t, exec (.tempCritical die pkg) s = .next t ∧ t.regB Reg.SAF_STAT 31 = true ∧ t.hold = false
        ∧ t.pair.toggling = false ∧ t.healthy = false ∧ t.regB Reg.SYS_ENVSTK 4 = true))
  ∧ (∀ (b : Int) (s : State),
    (b < -30 ∨ 85 < b → ∃ t, exec (.tboard b) s = .next t ∧ t.regB Reg.SYS_ENVSTK 5 = true ∧ sameRegs s t [Reg.SYS_ENVSTK, Reg.SYS_TEMP])
    ∧ (-30 ≤ b → b ≤ 85 → ∃ t, exec (.tboard b) s = .next t ∧ sameRegs s t [Reg.SYS_TEMP]))
  ∧ (∀ (s : State),
    (∀ (f : Fin 2) (cv : Nat), 3200 < cv → ∃ t, exec (.envRange (.feedHigh f cv)) s = .next t ∧ t.regB Reg.SYS_ENVSTK 6 = true
        ∧ t.regB Reg.SYS_ENVSTK 2 = true ∧ t.boot.envOn = true)
    ∧ (∀ a b : Nat, a < 1800 → b < 1800 → ∃ t, exec (.envRange (.bothLow a b)) s = .next t ∧ t.regB Reg.SYS_ENVSTK 2 = true
        ∧ t.boot.envOn = true)
    ∧ (s.boot.envOn = true → s.health.contains .tempHigh = false → ∃ t, exec .envRangeEnd s = .next t ∧ t.boot.envOn = false
        ∧ sameRegs s t []))


/-! ### Service protocol -/

/-- R531, R542, R556 to R560: sessions open, rise, close and time out; every request gets one reply; reads, writes, images,
resets, clearing and keys need their level. What a signature verifies to is open, so the statement gives both outcomes.
The level that CLEAR and KEY need and the data of replies are the model's reading (notes/assumptions/23.md). -/
def Obligations.ServiceResults : Prop :=
  (∀ (tag : Fin 65536) (s : State), s.domainOut 6 = false →
    (s.boot.sessions.length < 2 → ∃ t n, exec (.openSession tag) s = .next t ∧ mget s.boot.sessions n = none
        ∧ mget t.boot.sessions n = some { level := 0, el := s.tb.el } ∧ sent s t (.service 0 tag 1 0 (beBytes n 2)) ∧ t.regs = s.regs)
    ∧ (2 ≤ s.boot.sessions.length → ∃ t, exec (.openSession tag) s = .next t ∧ t.boot = s.boot ∧ sent s t (.service 0 tag 1 4 [])
        ∧ t.regs = s.regs))
  ∧ (∀ (k tag : Fin 65536) (s : State), s.domainOut 6 = false → mget s.boot.sessions k = none →
    ∃ t, exec (.close k tag) s = .next t ∧ sent s t (.service k tag 3 5 []) ∧ t.boot = s.boot ∧ t.regs = s.regs)
  ∧ (∀ (k tag : Fin 65536) (q : Session) (s : State), mget s.boot.sessions k = some q → s.domainOut 6 = false →
    (∃ t, exec (.close k tag) s = .next t ∧ mget t.boot.sessions k = none ∧ sent s t (.service k tag 3 0 []) ∧ t.regs = s.regs)
    ∧ (q.el + 60000000000 ≤ s.tb.el → ∃ t, exec (.sessionTimeout k) s = .next t ∧ mget t.boot.sessions k = none ∧ t.out = s.out
        ∧ t.regs = s.regs)
    ∧ (∀ tok : List Byte, tok.length = 96 → s.otherCommissioner k = false →
      ∃ t, exec (.level k tag tok) s = .next t
        ∧ (s.tokenOk tok (tokField tok 9 1) none = true → sent s t (.service k tag 2 0 [])
            ∧ mget t.boot.sessions k = some { level := max (tokField tok 9 1) q.level, el := s.tb.el })
        ∧ (s.tokenOk tok (tokField tok 9 1) none = false → sent s t (.service k tag 2 3 [])
            ∧ mget t.boot.sessions k = some { level := q.level, el := s.tb.el }) ∧ sameRegs s t [])
    ∧ (∀ l : List (Fin 65536), 1 ≤ l.length → l.length ≤ 64 → (∀ a, a ∈ l → s.decoded a.val = false) →
      ∃ t, exec (.pget k tag l) s = .next t ∧ sent s t (.service k tag 4 0 (List.replicate (4 * l.length) 0)) ∧ t.regs = s.regs)
    ∧ (∀ (g : GroupNo) (a : Fin 65536) (v : Word), putLevel a ≤ q.level → 1 ≤ q.level → s.decoded a = true → isStaged a = true →
      a.val ≠ Reg.OPT_FBLIM → a.val ≠ Reg.LPE_SWAP → ¬ (0x0901 ≤ a.val ∧ a.val < 0x0A00 ∧ a.val % 4 = 1) →
      s.stopReal g = false → (s.group g).overflowed = false → (s.group g).pend.length < 128 →
      ∃ t, exec (.pput k tag g [(a, v)]) s = .next t ∧ sent s t (.service k tag 5 0 []) ∧ (∀ r, t.reg r = s.reg r)
        ∧ { clause := none, disp := 0, addr := a.val, val := v, clk := s.clk, ord := (s.group g).stageNo } ∈ (t.group g).pend)
    ∧ (∀ (g : GroupNo) (l : List (Fin 65536 × Word)), q.level = 0 →
      ∃ t, exec (.pput k tag g l) s = .next t ∧ sent s t (.service k tag 5 1 []) ∧ t.regs = s.regs)
    ∧ (∀ (slot : Fin 256) (off : Nat) (data : List Byte), 2 ≤ q.level → s.Canonical → slot.val < 2 → data ≠ [] → data.length ≤ 1016 →
      off + data.length ≤ 67108864 →
      (s.regF Reg.SYS_BOOT 3 2 ≠ slot → ∃ t, exec (.imgw k tag slot off data) s = .next t ∧ sent s t (.service k tag 6 0 [])
          ∧ cellsGet t.boot.flash (slotAddr slot off) data.length = data ∧ t.regB Reg.SYS_BOOT (4 + slot) = false
          ∧ (∀ a, a < slotAddr slot off ∨ slotAddr slot off + data.length ≤ a → cellGet t.boot.flash a = cellGet s.boot.flash a))
      ∧ (s.regF Reg.SYS_BOOT 3 2 = slot → ∃ t, exec (.imgw k tag slot off data) s = .next t ∧ sent s t (.service k tag 6 3 [])
          ∧ t.boot.flash = s.boot.flash))
    ∧ (∀ slot : Fin 256, 2 ≤ q.level → slot.val < 2 → ∃ t, exec (.imgchk k tag slot) s = .next t
        ∧ t.regB Reg.SYS_BOOT (4 + slot) = (s.imageSteps slot).isNone
        ∧ sent s t (.service k tag 7 (if (s.imageSteps slot).isNone then 0 else 3) []) ∧ sameRegs s t [Reg.SYS_BOOT])
    ∧ (2 ≤ q.level → ∃ t, exec (.reset k tag true) s = .next t ∧ t.boot.rstPend = some 5 ∧ t.boot.rstEl = some s.tb.el
        ∧ sent s t (.service k tag 8 0 []))
    ∧ (1 ≤ q.level → s.boot.rstPend = none → s.hold = false → ∃ t, exec (.reset k tag false) s = .next t
        ∧ t.boot.rstPend = some (if s.regF Reg.SYS_BOOT 1 0 = s.regF Reg.SYS_BOOT 3 2 then 5 else 6) ∧ sent s t (.service k tag 8 0 []))
    ∧ (∀ (client : Fin 256) (tok : List Byte), 2 ≤ q.level → tok.length = 96 → ∃ t, exec (.clear k tag client tok) s = .next t
        ∧ (s.tokenOk tok 2 (some 0) = true → t.evr.perm = [] ∧ t.evr.clear = s.evr.nextSeq ∧ sent s t (.service k tag 9 0 [])
            ∧ ∀ j, j < 4 → mget t.evr.slots j = some {})
        ∧ (s.tokenOk tok 2 (some 0) = false → t.evr.perm = s.evr.perm ∧ sent s t (.service k tag 9 3 [])))
    ∧ (∀ (slot : Fin 256) (pub tok : List Byte), 2 ≤ q.level → tok.length = 96 → slot.val < 4 → ∃ t, exec (.key k tag slot pub tok) s = .next t
        ∧ (s.tokenOk tok 2 (some 1) = true → mget t.boot.keys slot = some pub ∧ t.regB (Reg.SEC_KEY slot) 31 = true
            ∧ sent s t (.service k tag 10 0 []))
        ∧ (s.tokenOk tok 2 (some 1) = false → t.boot.keys = s.boot.keys ∧ sent s t (.service k tag 10 3 [])))
    ∧ (∀ (client : Fin 256) (tok : List Byte), q.level < 2 → ∃ t, exec (.clear k tag client tok) s = .next t
        ∧ sent s t (.service k tag 9 1 []) ∧ t.evr.perm = s.evr.perm))
  ∧ (∀ (e : Nat) (s : State), s.boot.imgEl = some e → s.boot.imgNoted = false → s.solo = false → e + 1000000000 ≤ s.tb.el →
    ∃ t, exec .imageDiff s = .next t ∧ t.regB Reg.SYS_STK 8 = true ∧ t.boot.imgNoted = true ∧ sameRegs s t [Reg.SYS_STK])


/-! ### The whole machine -/

/-- Every command answers a next state, whatever the state: the model has no stop. No command touches the queue. -/
def Obligations.EveryCommandAnswers : Prop :=
  ∀ (i : Instr) (s : State), ∃ t, exec i s = .next t ∧ t.pending = s.pending

/-- Every step keeps the byte stores (banks, bulk memory, program flash) in canonical form, from every state. -/
def Obligations.InvariantKept : Prop :=
  ∀ s t : State, s.Inv → step s = .next t → t.Inv

/-- R139, R165, R545, R584: right after reset the queue is empty and the invariant holds, every port register holds its Reset
column, every bank belongs to DMA channel 0, memory reads 0, no engine runs a clause and no group is in force.
That fields of the image, of straps and of storage read 0 until their step of the start is the model's choice
(notes/assumptions/2.md). -/
def Obligations.ResetState : Prop :=
  State.reset.Inv ∧ State.reset.pending = [] ∧ (∀ a, State.reset.reg a = resetWord a) ∧ (∀ b, State.reset.owner b = 0x38)
    ∧ (∀ a, State.reset.byteAt a = 0 ∧ State.reset.dramAt a = 0) ∧ (∀ e, (State.reset.eng e).run = none)
    ∧ (∀ g, g < 16 → State.reset.groupEn g = false) ∧ State.reset.hold = false ∧ State.reset.boot.stage = .selftest
end

