-- ==== Sys2Proof/Laws/Map.lean ====
section
/-! SUPPORT. Laws/Map.lean: what a sparse table and a replaced list element read as. -/
namespace Sys2Proof.Machine

/-! ### Sparse tables -/

@[simp] theorem mget_nil {α : Type} (k : Nat) : mget ([] : SMap α) k = none := rfl

@[simp] theorem mget_mput_same {α : Type} (m : SMap α) (k : Nat) (v : α) : mget (mput m k v) k = some v := by
  induction m with
  | nil => simp [mput, mget]
  | cons p t ih =>
    obtain ⟨q, w⟩ := p
    unfold mput
    by_cases h1 : k < q
    · simp [h1, mget]
    · by_cases h2 : k = q
      · simp [h2, mget]
      · have h3 : ¬ q = k := fun h => h2 h.symm
        simp [h1, h2, mget, h3, ih]

theorem mget_mput_ne {α : Type} (m : SMap α) {k q : Nat} (v : α) (h : q ≠ k) : mget (mput m k v) q = mget m q := by
  induction m with
  | nil => simp [mput, mget, Ne.symm h]
  | cons p t ih =>
    obtain ⟨j, w⟩ := p
    unfold mput
    by_cases h1 : k < j
    · simp [h1, mget, Ne.symm h]
    · by_cases h2 : k = j
      · subst h2; simp [mget, Ne.symm h]
      · simp only [h1, h2, if_false]
        by_cases h3 : j = q
        · simp [mget, h3]
        · simp [mget, h3, ih]

/-- What a written table reads as. -/
theorem mget_mput {α : Type} (m : SMap α) (k q : Nat) (v : α) : mget (mput m k v) q = if q = k then some v else mget m q := by
  by_cases h : q = k
  · subst h; simp
  · simp [h, mget_mput_ne m v h]

@[simp] theorem mgetD_mput_same {α : Type} (m : SMap α) (k : Nat) (v d : α) : mgetD (mput m k v) k d = v := by simp [mgetD]

theorem mgetD_mput_ne {α : Type} (m : SMap α) {k q : Nat} (v d : α) (h : q ≠ k) : mgetD (mput m k v) q d = mgetD m q d := by
  simp [mgetD, mget_mput_ne m v h]

theorem mgetD_mput {α : Type} (m : SMap α) (k q : Nat) (v d : α) : mgetD (mput m k v) q d = if q = k then v else mgetD m q d := by
  by_cases h : q = k
  · subst h; simp
  · simp [h, mgetD_mput_ne m v d h]

@[simp] theorem mget_mdel_same {α : Type} (m : SMap α) (k : Nat) : mget (mdel m k) k = none := by
  induction m with
  | nil => rfl
  | cons p t ih =>
    obtain ⟨q, w⟩ := p
    unfold mdel
    by_cases h : q = k
    · simp [h, ih]
    · simp [h, mget, ih]

theorem mget_mdel_ne {α : Type} (m : SMap α) {k q : Nat} (h : q ≠ k) : mget (mdel m k) q = mget m q := by
  induction m with
  | nil => rfl
  | cons p t ih =>
    obtain ⟨j, w⟩ := p
    unfold mdel
    by_cases h1 : j = k
    · subst h1; simp [mget, Ne.symm h, ih]
    · rw [if_neg h1]
      by_cases h2 : j = q
      · simp [mget, h2]
      · simp [mget, h2, ih]

/-! ### Lists -/

@[simp] theorem length_lset {α : Type} (l : List α) (i : Nat) (v : α) : (lset l i v).length = l.length := by
  induction l generalizing i with
  | nil => rfl
  | cons h t ih => cases i with
    | zero => rfl
    | succ i => simp [lset, ih]

theorem getElem?_lset {α : Type} (l : List α) (i j : Nat) (v : α) :
    (lset l i v)[j]? = if j = i ∧ i < l.length then some v else l[j]? := by
  induction l generalizing i j with
  | nil => simp [lset]
  | cons h t ih =>
    cases i with
    | zero => cases j <;> simp [lset]
    | succ i => cases j <;> simp [lset, ih]

/-- A property that every element of a fold's list preserves holds at its end. -/
theorem foldl_keeps {α σ : Type} (P : σ → Prop) (f : σ → α → σ) (l : List α) (s : σ) (h : P s)
    (hf : ∀ s a, a ∈ l → P s → P (f s a)) : P (l.foldl f s) := by
  induction l generalizing s with
  | nil => exact h
  | cons a t ih =>
    exact ih (f s a) (hf s a (by simp) h) (fun s b hb => hf s b (by simp [hb]))

/-- What the least number that satisfies `p` is. -/
theorem findFrom_some {p : Nat → Bool} {n i k : Nat} (h : findFrom p n i = some k) :
    i ≤ k ∧ k < i + n ∧ p k = true ∧ ∀ j, i ≤ j → j < k → p j = false := by
  induction n generalizing i with
  | zero => simp [findFrom] at h
  | succ n ih =>
    unfold findFrom at h
    by_cases hp : p i = true
    · simp [hp] at h; subst h; exact ⟨Nat.le_refl _, by omega, hp, by intros; omega⟩
    · simp [hp] at h
      obtain ⟨h1, h2, h3, h4⟩ := ih h
      refine ⟨by omega, by omega, h3, fun j hj hk => ?_⟩
      by_cases hji : j = i
      · subst hji; simpa using hp
      · exact h4 j (by omega) hk

end Sys2Proof.Machine
end

