-- ==== Sys2Proof/Laws/State.lean ====
section
/-! SUPPORT. Laws/State.lean: for each named update of the state, what it leaves in every field (and, for the tables, what
the reader of the table answers after it). -/
namespace Sys2Proof.Machine

-- the linters cost more than these one-line proofs
set_option linter.all false

variable (s : State)

/-! ### setReg -/

@[simp] theorem State.setReg_pending (a : Nat) (v : Word) : (s.setReg a v).pending = s.pending := rfl
@[simp] theorem State.setReg_clk (a : Nat) (v : Word) : (s.setReg a v).clk = s.clk := rfl
@[simp] theorem State.setReg_free (a : Nat) (v : Word) : (s.setReg a v).free = s.free := rfl
@[simp] theorem State.setReg_now (a : Nat) (v : Word) : (s.setReg a v).now = s.now := rfl
@[simp] theorem State.setReg_regs (a : Nat) (v : Word) : (s.setReg a v).regs = mput s.regs a v := rfl
@[simp] theorem State.setReg_priv (a : Nat) (v : Word) : (s.setReg a v).priv = s.priv := rfl
@[simp] theorem State.setReg_latches (a : Nat) (v : Word) : (s.setReg a v).latches = s.latches := rfl
@[simp] theorem State.setReg_engs (a : Nat) (v : Word) : (s.setReg a v).engs = s.engs := rfl
@[simp] theorem State.setReg_sched (a : Nat) (v : Word) : (s.setReg a v).sched = s.sched := rfl
@[simp] theorem State.setReg_tb (a : Nat) (v : Word) : (s.setReg a v).tb = s.tb := rfl
@[simp] theorem State.setReg_wave (a : Nat) (v : Word) : (s.setReg a v).wave = s.wave := rfl
@[simp] theorem State.setReg_mains (a : Nat) (v : Word) : (s.setReg a v).mains = s.mains := rfl
@[simp] theorem State.setReg_banks (a : Nat) (v : Word) : (s.setReg a v).banks = s.banks := rfl
@[simp] theorem State.setReg_sol (a : Nat) (v : Word) : (s.setReg a v).sol = s.sol := rfl
@[simp] theorem State.setReg_opt (a : Nat) (v : Word) : (s.setReg a v).opt = s.opt := rfl
@[simp] theorem State.setReg_lpe (a : Nat) (v : Word) : (s.setReg a v).lpe = s.lpe := rfl
@[simp] theorem State.setReg_field (a : Nat) (v : Word) : (s.setReg a v).field = s.field := rfl
@[simp] theorem State.setReg_gnb (a : Nat) (v : Word) : (s.setReg a v).gnb = s.gnb := rfl
@[simp] theorem State.setReg_dfc (a : Nat) (v : Word) : (s.setReg a v).dfc = s.dfc := rfl
@[simp] theorem State.setReg_enc (a : Nat) (v : Word) : (s.setReg a v).enc = s.enc := rfl
@[simp] theorem State.setReg_ser (a : Nat) (v : Word) : (s.setReg a v).ser = s.ser := rfl
@[simp] theorem State.setReg_can (a : Nat) (v : Word) : (s.setReg a v).can = s.can := rfl
@[simp] theorem State.setReg_fus (a : Nat) (v : Word) : (s.setReg a v).fus = s.fus := rfl
@[simp] theorem State.setReg_eth (a : Nat) (v : Word) : (s.setReg a v).eth = s.eth := rfl
@[simp] theorem State.setReg_saf (a : Nat) (v : Word) : (s.setReg a v).saf = s.saf := rfl
@[simp] theorem State.setReg_pair (a : Nat) (v : Word) : (s.setReg a v).pair = s.pair := rfl
@[simp] theorem State.setReg_evr (a : Nat) (v : Word) : (s.setReg a v).evr = s.evr := rfl
@[simp] theorem State.setReg_boot (a : Nat) (v : Word) : (s.setReg a v).boot = s.boot := rfl
@[simp] theorem State.setReg_out (a : Nat) (v : Word) : (s.setReg a v).out = s.out := rfl
@[simp] theorem State.setReg_health (a : Nat) (v : Word) : (s.setReg a v).health = s.health := rfl

/-! ### setPreg -/

@[simp] theorem State.setPreg_pending (p a : Nat) (v : Word) : (s.setPreg p a v).pending = s.pending := rfl
@[simp] theorem State.setPreg_clk (p a : Nat) (v : Word) : (s.setPreg p a v).clk = s.clk := rfl
@[simp] theorem State.setPreg_free (p a : Nat) (v : Word) : (s.setPreg p a v).free = s.free := rfl
@[simp] theorem State.setPreg_now (p a : Nat) (v : Word) : (s.setPreg p a v).now = s.now := rfl
@[simp] theorem State.setPreg_regs (p a : Nat) (v : Word) : (s.setPreg p a v).regs = s.regs := rfl
@[simp] theorem State.setPreg_priv (p a : Nat) (v : Word) : (s.setPreg p a v).priv = mput s.priv (p * 65536 + a) v := rfl
@[simp] theorem State.setPreg_latches (p a : Nat) (v : Word) : (s.setPreg p a v).latches = s.latches := rfl
@[simp] theorem State.setPreg_engs (p a : Nat) (v : Word) : (s.setPreg p a v).engs = s.engs := rfl
@[simp] theorem State.setPreg_sched (p a : Nat) (v : Word) : (s.setPreg p a v).sched = s.sched := rfl
@[simp] theorem State.setPreg_tb (p a : Nat) (v : Word) : (s.setPreg p a v).tb = s.tb := rfl
@[simp] theorem State.setPreg_wave (p a : Nat) (v : Word) : (s.setPreg p a v).wave = s.wave := rfl
@[simp] theorem State.setPreg_mains (p a : Nat) (v : Word) : (s.setPreg p a v).mains = s.mains := rfl
@[simp] theorem State.setPreg_banks (p a : Nat) (v : Word) : (s.setPreg p a v).banks = s.banks := rfl
@[simp] theorem State.setPreg_sol (p a : Nat) (v : Word) : (s.setPreg p a v).sol = s.sol := rfl
@[simp] theorem State.setPreg_opt (p a : Nat) (v : Word) : (s.setPreg p a v).opt = s.opt := rfl
@[simp] theorem State.setPreg_lpe (p a : Nat) (v : Word) : (s.setPreg p a v).lpe = s.lpe := rfl
@[simp] theorem State.setPreg_field (p a : Nat) (v : Word) : (s.setPreg p a v).field = s.field := rfl
@[simp] theorem State.setPreg_gnb (p a : Nat) (v : Word) : (s.setPreg p a v).gnb = s.gnb := rfl
@[simp] theorem State.setPreg_dfc (p a : Nat) (v : Word) : (s.setPreg p a v).dfc = s.dfc := rfl
@[simp] theorem State.setPreg_enc (p a : Nat) (v : Word) : (s.setPreg p a v).enc = s.enc := rfl
@[simp] theorem State.setPreg_ser (p a : Nat) (v : Word) : (s.setPreg p a v).ser = s.ser := rfl
@[simp] theorem State.setPreg_can (p a : Nat) (v : Word) : (s.setPreg p a v).can = s.can := rfl
@[simp] theorem State.setPreg_fus (p a : Nat) (v : Word) : (s.setPreg p a v).fus = s.fus := rfl
@[simp] theorem State.setPreg_eth (p a : Nat) (v : Word) : (s.setPreg p a v).eth = s.eth := rfl
@[simp] theorem State.setPreg_saf (p a : Nat) (v : Word) : (s.setPreg p a v).saf = s.saf := rfl
@[simp] theorem State.setPreg_pair (p a : Nat) (v : Word) : (s.setPreg p a v).pair = s.pair := rfl
@[simp] theorem State.setPreg_evr (p a : Nat) (v : Word) : (s.setPreg p a v).evr = s.evr := rfl
@[simp] theorem State.setPreg_boot (p a : Nat) (v : Word) : (s.setPreg p a v).boot = s.boot := rfl
@[simp] theorem State.setPreg_out (p a : Nat) (v : Word) : (s.setPreg p a v).out = s.out := rfl
@[simp] theorem State.setPreg_health (p a : Nat) (v : Word) : (s.setPreg p a v).health = s.health := rfl

/-! ### setEng -/

@[simp] theorem State.setEng_pending (e : Nat) (x : Engine) : (s.setEng e x).pending = s.pending := rfl
@[simp] theorem State.setEng_clk (e : Nat) (x : Engine) : (s.setEng e x).clk = s.clk := rfl
@[simp] theorem State.setEng_free (e : Nat) (x : Engine) : (s.setEng e x).free = s.free := rfl
@[simp] theorem State.setEng_now (e : Nat) (x : Engine) : (s.setEng e x).now = s.now := rfl
@[simp] theorem State.setEng_regs (e : Nat) (x : Engine) : (s.setEng e x).regs = s.regs := rfl
@[simp] theorem State.setEng_priv (e : Nat) (x : Engine) : (s.setEng e x).priv = s.priv := rfl
@[simp] theorem State.setEng_latches (e : Nat) (x : Engine) : (s.setEng e x).latches = s.latches := rfl
@[simp] theorem State.setEng_engs (e : Nat) (x : Engine) : (s.setEng e x).engs = mput s.engs e x := rfl
@[simp] theorem State.setEng_sched (e : Nat) (x : Engine) : (s.setEng e x).sched = s.sched := rfl
@[simp] theorem State.setEng_tb (e : Nat) (x : Engine) : (s.setEng e x).tb = s.tb := rfl
@[simp] theorem State.setEng_wave (e : Nat) (x : Engine) : (s.setEng e x).wave = s.wave := rfl
@[simp] theorem State.setEng_mains (e : Nat) (x : Engine) : (s.setEng e x).mains = s.mains := rfl
@[simp] theorem State.setEng_banks (e : Nat) (x : Engine) : (s.setEng e x).banks = s.banks := rfl
@[simp] theorem State.setEng_sol (e : Nat) (x : Engine) : (s.setEng e x).sol = s.sol := rfl
@[simp] theorem State.setEng_opt (e : Nat) (x : Engine) : (s.setEng e x).opt = s.opt := rfl
@[simp] theorem State.setEng_lpe (e : Nat) (x : Engine) : (s.setEng e x).lpe = s.lpe := rfl
@[simp] theorem State.setEng_field (e : Nat) (x : Engine) : (s.setEng e x).field = s.field := rfl
@[simp] theorem State.setEng_gnb (e : Nat) (x : Engine) : (s.setEng e x).gnb = s.gnb := rfl
@[simp] theorem State.setEng_dfc (e : Nat) (x : Engine) : (s.setEng e x).dfc = s.dfc := rfl
@[simp] theorem State.setEng_enc (e : Nat) (x : Engine) : (s.setEng e x).enc = s.enc := rfl
@[simp] theorem State.setEng_ser (e : Nat) (x : Engine) : (s.setEng e x).ser = s.ser := rfl
@[simp] theorem State.setEng_can (e : Nat) (x : Engine) : (s.setEng e x).can = s.can := rfl
@[simp] theorem State.setEng_fus (e : Nat) (x : Engine) : (s.setEng e x).fus = s.fus := rfl
@[simp] theorem State.setEng_eth (e : Nat) (x : Engine) : (s.setEng e x).eth = s.eth := rfl
@[simp] theorem State.setEng_saf (e : Nat) (x : Engine) : (s.setEng e x).saf = s.saf := rfl
@[simp] theorem State.setEng_pair (e : Nat) (x : Engine) : (s.setEng e x).pair = s.pair := rfl
@[simp] theorem State.setEng_evr (e : Nat) (x : Engine) : (s.setEng e x).evr = s.evr := rfl
@[simp] theorem State.setEng_boot (e : Nat) (x : Engine) : (s.setEng e x).boot = s.boot := rfl
@[simp] theorem State.setEng_out (e : Nat) (x : Engine) : (s.setEng e x).out = s.out := rfl
@[simp] theorem State.setEng_health (e : Nat) (x : Engine) : (s.setEng e x).health = s.health := rfl

/-! ### updEng -/

@[simp] theorem State.updEng_pending (e : Nat) (f : Engine → Engine) : (s.updEng e f).pending = s.pending := rfl
@[simp] theorem State.updEng_clk (e : Nat) (f : Engine → Engine) : (s.updEng e f).clk = s.clk := rfl
@[simp] theorem State.updEng_free (e : Nat) (f : Engine → Engine) : (s.updEng e f).free = s.free := rfl
@[simp] theorem State.updEng_now (e : Nat) (f : Engine → Engine) : (s.updEng e f).now = s.now := rfl
@[simp] theorem State.updEng_regs (e : Nat) (f : Engine → Engine) : (s.updEng e f).regs = s.regs := rfl
@[simp] theorem State.updEng_priv (e : Nat) (f : Engine → Engine) : (s.updEng e f).priv = s.priv := rfl
@[simp] theorem State.updEng_latches (e : Nat) (f : Engine → Engine) : (s.updEng e f).latches = s.latches := rfl
@[simp] theorem State.updEng_engs (e : Nat) (f : Engine → Engine) : (s.updEng e f).engs = mput s.engs e (f (s.eng e)) := rfl
@[simp] theorem State.updEng_sched (e : Nat) (f : Engine → Engine) : (s.updEng e f).sched = s.sched := rfl
@[simp] theorem State.updEng_tb (e : Nat) (f : Engine → Engine) : (s.updEng e f).tb = s.tb := rfl
@[simp] theorem State.updEng_wave (e : Nat) (f : Engine → Engine) : (s.updEng e f).wave = s.wave := rfl
@[simp] theorem State.updEng_mains (e : Nat) (f : Engine → Engine) : (s.updEng e f).mains = s.mains := rfl
@[simp] theorem State.updEng_banks (e : Nat) (f : Engine → Engine) : (s.updEng e f).banks = s.banks := rfl
@[simp] theorem State.updEng_sol (e : Nat) (f : Engine → Engine) : (s.updEng e f).sol = s.sol := rfl
@[simp] theorem State.updEng_opt (e : Nat) (f : Engine → Engine) : (s.updEng e f).opt = s.opt := rfl
@[simp] theorem State.updEng_lpe (e : Nat) (f : Engine → Engine) : (s.updEng e f).lpe = s.lpe := rfl
@[simp] theorem State.updEng_field (e : Nat) (f : Engine → Engine) : (s.updEng e f).field = s.field := rfl
@[simp] theorem State.updEng_gnb (e : Nat) (f : Engine → Engine) : (s.updEng e f).gnb = s.gnb := rfl
@[simp] theorem State.updEng_dfc (e : Nat) (f : Engine → Engine) : (s.updEng e f).dfc = s.dfc := rfl
@[simp] theorem State.updEng_enc (e : Nat) (f : Engine → Engine) : (s.updEng e f).enc = s.enc := rfl
@[simp] theorem State.updEng_ser (e : Nat) (f : Engine → Engine) : (s.updEng e f).ser = s.ser := rfl
@[simp] theorem State.updEng_can (e : Nat) (f : Engine → Engine) : (s.updEng e f).can = s.can := rfl
@[simp] theorem State.updEng_fus (e : Nat) (f : Engine → Engine) : (s.updEng e f).fus = s.fus := rfl
@[simp] theorem State.updEng_eth (e : Nat) (f : Engine → Engine) : (s.updEng e f).eth = s.eth := rfl
@[simp] theorem State.updEng_saf (e : Nat) (f : Engine → Engine) : (s.updEng e f).saf = s.saf := rfl
@[simp] theorem State.updEng_pair (e : Nat) (f : Engine → Engine) : (s.updEng e f).pair = s.pair := rfl
@[simp] theorem State.updEng_evr (e : Nat) (f : Engine → Engine) : (s.updEng e f).evr = s.evr := rfl
@[simp] theorem State.updEng_boot (e : Nat) (f : Engine → Engine) : (s.updEng e f).boot = s.boot := rfl
@[simp] theorem State.updEng_out (e : Nat) (f : Engine → Engine) : (s.updEng e f).out = s.out := rfl
@[simp] theorem State.updEng_health (e : Nat) (f : Engine → Engine) : (s.updEng e f).health = s.health := rfl

/-! ### emit -/

@[simp] theorem State.emit_pending (o : OutItem) : (s.emit o).pending = s.pending := rfl
@[simp] theorem State.emit_clk (o : OutItem) : (s.emit o).clk = s.clk := rfl
@[simp] theorem State.emit_free (o : OutItem) : (s.emit o).free = s.free := rfl
@[simp] theorem State.emit_now (o : OutItem) : (s.emit o).now = s.now := rfl
@[simp] theorem State.emit_regs (o : OutItem) : (s.emit o).regs = s.regs := rfl
@[simp] theorem State.emit_priv (o : OutItem) : (s.emit o).priv = s.priv := rfl
@[simp] theorem State.emit_latches (o : OutItem) : (s.emit o).latches = s.latches := rfl
@[simp] theorem State.emit_engs (o : OutItem) : (s.emit o).engs = s.engs := rfl
@[simp] theorem State.emit_sched (o : OutItem) : (s.emit o).sched = s.sched := rfl
@[simp] theorem State.emit_tb (o : OutItem) : (s.emit o).tb = s.tb := rfl
@[simp] theorem State.emit_wave (o : OutItem) : (s.emit o).wave = s.wave := rfl
@[simp] theorem State.emit_mains (o : OutItem) : (s.emit o).mains = s.mains := rfl
@[simp] theorem State.emit_banks (o : OutItem) : (s.emit o).banks = s.banks := rfl
@[simp] theorem State.emit_sol (o : OutItem) : (s.emit o).sol = s.sol := rfl
@[simp] theorem State.emit_opt (o : OutItem) : (s.emit o).opt = s.opt := rfl
@[simp] theorem State.emit_lpe (o : OutItem) : (s.emit o).lpe = s.lpe := rfl
@[simp] theorem State.emit_field (o : OutItem) : (s.emit o).field = s.field := rfl
@[simp] theorem State.emit_gnb (o : OutItem) : (s.emit o).gnb = s.gnb := rfl
@[simp] theorem State.emit_dfc (o : OutItem) : (s.emit o).dfc = s.dfc := rfl
@[simp] theorem State.emit_enc (o : OutItem) : (s.emit o).enc = s.enc := rfl
@[simp] theorem State.emit_ser (o : OutItem) : (s.emit o).ser = s.ser := rfl
@[simp] theorem State.emit_can (o : OutItem) : (s.emit o).can = s.can := rfl
@[simp] theorem State.emit_fus (o : OutItem) : (s.emit o).fus = s.fus := rfl
@[simp] theorem State.emit_eth (o : OutItem) : (s.emit o).eth = s.eth := rfl
@[simp] theorem State.emit_saf (o : OutItem) : (s.emit o).saf = s.saf := rfl
@[simp] theorem State.emit_pair (o : OutItem) : (s.emit o).pair = s.pair := rfl
@[simp] theorem State.emit_evr (o : OutItem) : (s.emit o).evr = s.evr := rfl
@[simp] theorem State.emit_boot (o : OutItem) : (s.emit o).boot = s.boot := rfl
@[simp] theorem State.emit_out (o : OutItem) : (s.emit o).out = s.out ++ [o] := rfl
@[simp] theorem State.emit_health (o : OutItem) : (s.emit o).health = s.health := rfl

/-! ### setOwner -/

@[simp] theorem State.setOwner_pending (b o : Nat) : (s.setOwner b o).pending = s.pending := rfl
@[simp] theorem State.setOwner_clk (b o : Nat) : (s.setOwner b o).clk = s.clk := rfl
@[simp] theorem State.setOwner_free (b o : Nat) : (s.setOwner b o).free = s.free := rfl
@[simp] theorem State.setOwner_now (b o : Nat) : (s.setOwner b o).now = s.now := rfl
@[simp] theorem State.setOwner_regs (b o : Nat) : (s.setOwner b o).regs = s.regs := rfl
@[simp] theorem State.setOwner_priv (b o : Nat) : (s.setOwner b o).priv = s.priv := rfl
@[simp] theorem State.setOwner_latches (b o : Nat) : (s.setOwner b o).latches = s.latches := rfl
@[simp] theorem State.setOwner_engs (b o : Nat) : (s.setOwner b o).engs = s.engs := rfl
@[simp] theorem State.setOwner_sched (b o : Nat) : (s.setOwner b o).sched = s.sched := rfl
@[simp] theorem State.setOwner_tb (b o : Nat) : (s.setOwner b o).tb = s.tb := rfl
@[simp] theorem State.setOwner_wave (b o : Nat) : (s.setOwner b o).wave = s.wave := rfl
@[simp] theorem State.setOwner_mains (b o : Nat) : (s.setOwner b o).mains = s.mains := rfl
@[simp] theorem State.setOwner_sol (b o : Nat) : (s.setOwner b o).sol = s.sol := rfl
@[simp] theorem State.setOwner_opt (b o : Nat) : (s.setOwner b o).opt = s.opt := rfl
@[simp] theorem State.setOwner_lpe (b o : Nat) : (s.setOwner b o).lpe = s.lpe := rfl
@[simp] theorem State.setOwner_field (b o : Nat) : (s.setOwner b o).field = s.field := rfl
@[simp] theorem State.setOwner_gnb (b o : Nat) : (s.setOwner b o).gnb = s.gnb := rfl
@[simp] theorem State.setOwner_dfc (b o : Nat) : (s.setOwner b o).dfc = s.dfc := rfl
@[simp] theorem State.setOwner_enc (b o : Nat) : (s.setOwner b o).enc = s.enc := rfl
@[simp] theorem State.setOwner_ser (b o : Nat) : (s.setOwner b o).ser = s.ser := rfl
@[simp] theorem State.setOwner_can (b o : Nat) : (s.setOwner b o).can = s.can := rfl
@[simp] theorem State.setOwner_fus (b o : Nat) : (s.setOwner b o).fus = s.fus := rfl
@[simp] theorem State.setOwner_eth (b o : Nat) : (s.setOwner b o).eth = s.eth := rfl
@[simp] theorem State.setOwner_saf (b o : Nat) : (s.setOwner b o).saf = s.saf := rfl
@[simp] theorem State.setOwner_pair (b o : Nat) : (s.setOwner b o).pair = s.pair := rfl
@[simp] theorem State.setOwner_evr (b o : Nat) : (s.setOwner b o).evr = s.evr := rfl
@[simp] theorem State.setOwner_boot (b o : Nat) : (s.setOwner b o).boot = s.boot := rfl
@[simp] theorem State.setOwner_out (b o : Nat) : (s.setOwner b o).out = s.out := rfl
@[simp] theorem State.setOwner_health (b o : Nat) : (s.setOwner b o).health = s.health := rfl

/-! ### touch -/

@[simp] theorem State.touch_pending (b : Nat) : (s.touch b).pending = s.pending := rfl
@[simp] theorem State.touch_clk (b : Nat) : (s.touch b).clk = s.clk := rfl
@[simp] theorem State.touch_free (b : Nat) : (s.touch b).free = s.free := rfl
@[simp] theorem State.touch_now (b : Nat) : (s.touch b).now = s.now := rfl
@[simp] theorem State.touch_regs (b : Nat) : (s.touch b).regs = s.regs := rfl
@[simp] theorem State.touch_priv (b : Nat) : (s.touch b).priv = s.priv := rfl
@[simp] theorem State.touch_latches (b : Nat) : (s.touch b).latches = s.latches := rfl
@[simp] theorem State.touch_engs (b : Nat) : (s.touch b).engs = s.engs := rfl
@[simp] theorem State.touch_sched (b : Nat) : (s.touch b).sched = s.sched := rfl
@[simp] theorem State.touch_tb (b : Nat) : (s.touch b).tb = s.tb := rfl
@[simp] theorem State.touch_wave (b : Nat) : (s.touch b).wave = s.wave := rfl
@[simp] theorem State.touch_mains (b : Nat) : (s.touch b).mains = s.mains := rfl
@[simp] theorem State.touch_sol (b : Nat) : (s.touch b).sol = s.sol := rfl
@[simp] theorem State.touch_opt (b : Nat) : (s.touch b).opt = s.opt := rfl
@[simp] theorem State.touch_lpe (b : Nat) : (s.touch b).lpe = s.lpe := rfl
@[simp] theorem State.touch_field (b : Nat) : (s.touch b).field = s.field := rfl
@[simp] theorem State.touch_gnb (b : Nat) : (s.touch b).gnb = s.gnb := rfl
@[simp] theorem State.touch_dfc (b : Nat) : (s.touch b).dfc = s.dfc := rfl
@[simp] theorem State.touch_enc (b : Nat) : (s.touch b).enc = s.enc := rfl
@[simp] theorem State.touch_ser (b : Nat) : (s.touch b).ser = s.ser := rfl
@[simp] theorem State.touch_can (b : Nat) : (s.touch b).can = s.can := rfl
@[simp] theorem State.touch_fus (b : Nat) : (s.touch b).fus = s.fus := rfl
@[simp] theorem State.touch_eth (b : Nat) : (s.touch b).eth = s.eth := rfl
@[simp] theorem State.touch_saf (b : Nat) : (s.touch b).saf = s.saf := rfl
@[simp] theorem State.touch_pair (b : Nat) : (s.touch b).pair = s.pair := rfl
@[simp] theorem State.touch_evr (b : Nat) : (s.touch b).evr = s.evr := rfl
@[simp] theorem State.touch_boot (b : Nat) : (s.touch b).boot = s.boot := rfl
@[simp] theorem State.touch_out (b : Nat) : (s.touch b).out = s.out := rfl
@[simp] theorem State.touch_health (b : Nat) : (s.touch b).health = s.health := rfl

/-! ### storeBytes -/

@[simp] theorem State.storeBytes_pending (a : Nat) (bs : List Byte) : (s.storeBytes a bs).pending = s.pending := rfl
@[simp] theorem State.storeBytes_clk (a : Nat) (bs : List Byte) : (s.storeBytes a bs).clk = s.clk := rfl
@[simp] theorem State.storeBytes_free (a : Nat) (bs : List Byte) : (s.storeBytes a bs).free = s.free := rfl
@[simp] theorem State.storeBytes_now (a : Nat) (bs : List Byte) : (s.storeBytes a bs).now = s.now := rfl
@[simp] theorem State.storeBytes_regs (a : Nat) (bs : List Byte) : (s.storeBytes a bs).regs = s.regs := rfl
@[simp] theorem State.storeBytes_priv (a : Nat) (bs : List Byte) : (s.storeBytes a bs).priv = s.priv := rfl
@[simp] theorem State.storeBytes_latches (a : Nat) (bs : List Byte) : (s.storeBytes a bs).latches = s.latches := rfl
@[simp] theorem State.storeBytes_engs (a : Nat) (bs : List Byte) : (s.storeBytes a bs).engs = s.engs := rfl
@[simp] theorem State.storeBytes_sched (a : Nat) (bs : List Byte) : (s.storeBytes a bs).sched = s.sched := rfl
@[simp] theorem State.storeBytes_tb (a : Nat) (bs : List Byte) : (s.storeBytes a bs).tb = s.tb := rfl
@[simp] theorem State.storeBytes_wave (a : Nat) (bs : List Byte) : (s.storeBytes a bs).wave = s.wave := rfl
@[simp] theorem State.storeBytes_mains (a : Nat) (bs : List Byte) : (s.storeBytes a bs).mains = s.mains := rfl
@[simp] theorem State.storeBytes_sol (a : Nat) (bs : List Byte) : (s.storeBytes a bs).sol = s.sol := rfl
@[simp] theorem State.storeBytes_opt (a : Nat) (bs : List Byte) : (s.storeBytes a bs).opt = s.opt := rfl
@[simp] theorem State.storeBytes_lpe (a : Nat) (bs : List Byte) : (s.storeBytes a bs).lpe = s.lpe := rfl
@[simp] theorem State.storeBytes_field (a : Nat) (bs : List Byte) : (s.storeBytes a bs).field = s.field := rfl
@[simp] theorem State.storeBytes_gnb (a : Nat) (bs : List Byte) : (s.storeBytes a bs).gnb = s.gnb := rfl
@[simp] theorem State.storeBytes_dfc (a : Nat) (bs : List Byte) : (s.storeBytes a bs).dfc = s.dfc := rfl
@[simp] theorem State.storeBytes_enc (a : Nat) (bs : List Byte) : (s.storeBytes a bs).enc = s.enc := rfl
@[simp] theorem State.storeBytes_ser (a : Nat) (bs : List Byte) : (s.storeBytes a bs).ser = s.ser := rfl
@[simp] theorem State.storeBytes_can (a : Nat) (bs : List Byte) : (s.storeBytes a bs).can = s.can := rfl
@[simp] theorem State.storeBytes_fus (a : Nat) (bs : List Byte) : (s.storeBytes a bs).fus = s.fus := rfl
@[simp] theorem State.storeBytes_eth (a : Nat) (bs : List Byte) : (s.storeBytes a bs).eth = s.eth := rfl
@[simp] theorem State.storeBytes_saf (a : Nat) (bs : List Byte) : (s.storeBytes a bs).saf = s.saf := rfl
@[simp] theorem State.storeBytes_pair (a : Nat) (bs : List Byte) : (s.storeBytes a bs).pair = s.pair := rfl
@[simp] theorem State.storeBytes_evr (a : Nat) (bs : List Byte) : (s.storeBytes a bs).evr = s.evr := rfl
@[simp] theorem State.storeBytes_boot (a : Nat) (bs : List Byte) : (s.storeBytes a bs).boot = s.boot := rfl
@[simp] theorem State.storeBytes_out (a : Nat) (bs : List Byte) : (s.storeBytes a bs).out = s.out := rfl
@[simp] theorem State.storeBytes_health (a : Nat) (bs : List Byte) : (s.storeBytes a bs).health = s.health := rfl

/-! ### updGroup -/

@[simp] theorem State.updGroup_pending (g : Nat) (f : Group → Group) : (s.updGroup g f).pending = s.pending := rfl
@[simp] theorem State.updGroup_clk (g : Nat) (f : Group → Group) : (s.updGroup g f).clk = s.clk := rfl
@[simp] theorem State.updGroup_free (g : Nat) (f : Group → Group) : (s.updGroup g f).free = s.free := rfl
@[simp] theorem State.updGroup_now (g : Nat) (f : Group → Group) : (s.updGroup g f).now = s.now := rfl
@[simp] theorem State.updGroup_regs (g : Nat) (f : Group → Group) : (s.updGroup g f).regs = s.regs := rfl
@[simp] theorem State.updGroup_priv (g : Nat) (f : Group → Group) : (s.updGroup g f).priv = s.priv := rfl
@[simp] theorem State.updGroup_latches (g : Nat) (f : Group → Group) : (s.updGroup g f).latches = s.latches := rfl
@[simp] theorem State.updGroup_engs (g : Nat) (f : Group → Group) : (s.updGroup g f).engs = s.engs := rfl
@[simp] theorem State.updGroup_tb (g : Nat) (f : Group → Group) : (s.updGroup g f).tb = s.tb := rfl
@[simp] theorem State.updGroup_wave (g : Nat) (f : Group → Group) : (s.updGroup g f).wave = s.wave := rfl
@[simp] theorem State.updGroup_mains (g : Nat) (f : Group → Group) : (s.updGroup g f).mains = s.mains := rfl
@[simp] theorem State.updGroup_banks (g : Nat) (f : Group → Group) : (s.updGroup g f).banks = s.banks := rfl
@[simp] theorem State.updGroup_sol (g : Nat) (f : Group → Group) : (s.updGroup g f).sol = s.sol := rfl
@[simp] theorem State.updGroup_opt (g : Nat) (f : Group → Group) : (s.updGroup g f).opt = s.opt := rfl
@[simp] theorem State.updGroup_lpe (g : Nat) (f : Group → Group) : (s.updGroup g f).lpe = s.lpe := rfl
@[simp] theorem State.updGroup_field (g : Nat) (f : Group → Group) : (s.updGroup g f).field = s.field := rfl
@[simp] theorem State.updGroup_gnb (g : Nat) (f : Group → Group) : (s.updGroup g f).gnb = s.gnb := rfl
@[simp] theorem State.updGroup_dfc (g : Nat) (f : Group → Group) : (s.updGroup g f).dfc = s.dfc := rfl
@[simp] theorem State.updGroup_enc (g : Nat) (f : Group → Group) : (s.updGroup g f).enc = s.enc := rfl
@[simp] theorem State.updGroup_ser (g : Nat) (f : Group → Group) : (s.updGroup g f).ser = s.ser := rfl
@[simp] theorem State.updGroup_can (g : Nat) (f : Group → Group) : (s.updGroup g f).can = s.can := rfl
@[simp] theorem State.updGroup_fus (g : Nat) (f : Group → Group) : (s.updGroup g f).fus = s.fus := rfl
@[simp] theorem State.updGroup_eth (g : Nat) (f : Group → Group) : (s.updGroup g f).eth = s.eth := rfl
@[simp] theorem State.updGroup_saf (g : Nat) (f : Group → Group) : (s.updGroup g f).saf = s.saf := rfl
@[simp] theorem State.updGroup_pair (g : Nat) (f : Group → Group) : (s.updGroup g f).pair = s.pair := rfl
@[simp] theorem State.updGroup_evr (g : Nat) (f : Group → Group) : (s.updGroup g f).evr = s.evr := rfl
@[simp] theorem State.updGroup_boot (g : Nat) (f : Group → Group) : (s.updGroup g f).boot = s.boot := rfl
@[simp] theorem State.updGroup_out (g : Nat) (f : Group → Group) : (s.updGroup g f).out = s.out := rfl
@[simp] theorem State.updGroup_health (g : Nat) (f : Group → Group) : (s.updGroup g f).health = s.health := rfl

/-! ### updCounts -/

@[simp] theorem State.updCounts_pending (c : Nat) (f : ClauseCounts → ClauseCounts) : (s.updCounts c f).pending = s.pending := rfl
@[simp] theorem State.updCounts_clk (c : Nat) (f : ClauseCounts → ClauseCounts) : (s.updCounts c f).clk = s.clk := rfl
@[simp] theorem State.updCounts_free (c : Nat) (f : ClauseCounts → ClauseCounts) : (s.updCounts c f).free = s.free := rfl
@[simp] theorem State.updCounts_now (c : Nat) (f : ClauseCounts → ClauseCounts) : (s.updCounts c f).now = s.now := rfl
@[simp] theorem State.updCounts_regs (c : Nat) (f : ClauseCounts → ClauseCounts) : (s.updCounts c f).regs = s.regs := rfl
@[simp] theorem State.updCounts_priv (c : Nat) (f : ClauseCounts → ClauseCounts) : (s.updCounts c f).priv = s.priv := rfl
@[simp] theorem State.updCounts_latches (c : Nat) (f : ClauseCounts → ClauseCounts) : (s.updCounts c f).latches = s.latches := rfl
@[simp] theorem State.updCounts_engs (c : Nat) (f : ClauseCounts → ClauseCounts) : (s.updCounts c f).engs = s.engs := rfl
@[simp] theorem State.updCounts_tb (c : Nat) (f : ClauseCounts → ClauseCounts) : (s.updCounts c f).tb = s.tb := rfl
@[simp] theorem State.updCounts_wave (c : Nat) (f : ClauseCounts → ClauseCounts) : (s.updCounts c f).wave = s.wave := rfl
@[simp] theorem State.updCounts_mains (c : Nat) (f : ClauseCounts → ClauseCounts) : (s.updCounts c f).mains = s.mains := rfl
@[simp] theorem State.updCounts_banks (c : Nat) (f : ClauseCounts → ClauseCounts) : (s.updCounts c f).banks = s.banks := rfl
@[simp] theorem State.updCounts_sol (c : Nat) (f : ClauseCounts → ClauseCounts) : (s.updCounts c f).sol = s.sol := rfl
@[simp] theorem State.updCounts_opt (c : Nat) (f : ClauseCounts → ClauseCounts) : (s.updCounts c f).opt = s.opt := rfl
@[simp] theorem State.updCounts_lpe (c : Nat) (f : ClauseCounts → ClauseCounts) : (s.updCounts c f).lpe = s.lpe := rfl
@[simp] theorem State.updCounts_field (c : Nat) (f : ClauseCounts → ClauseCounts) : (s.updCounts c f).field = s.field := rfl
@[simp] theorem State.updCounts_gnb (c : Nat) (f : ClauseCounts → ClauseCounts) : (s.updCounts c f).gnb = s.gnb := rfl
@[simp] theorem State.updCounts_dfc (c : Nat) (f : ClauseCounts → ClauseCounts) : (s.updCounts c f).dfc = s.dfc := rfl
@[simp] theorem State.updCounts_enc (c : Nat) (f : ClauseCounts → ClauseCounts) : (s.updCounts c f).enc = s.enc := rfl
@[simp] theorem State.updCounts_ser (c : Nat) (f : ClauseCounts → ClauseCounts) : (s.updCounts c f).ser = s.ser := rfl
@[simp] theorem State.updCounts_can (c : Nat) (f : ClauseCounts → ClauseCounts) : (s.updCounts c f).can = s.can := rfl
@[simp] theorem State.updCounts_fus (c : Nat) (f : ClauseCounts → ClauseCounts) : (s.updCounts c f).fus = s.fus := rfl
@[simp] theorem State.updCounts_eth (c : Nat) (f : ClauseCounts → ClauseCounts) : (s.updCounts c f).eth = s.eth := rfl
@[simp] theorem State.updCounts_saf (c : Nat) (f : ClauseCounts → ClauseCounts) : (s.updCounts c f).saf = s.saf := rfl
@[simp] theorem State.updCounts_pair (c : Nat) (f : ClauseCounts → ClauseCounts) : (s.updCounts c f).pair = s.pair := rfl
@[simp] theorem State.updCounts_evr (c : Nat) (f : ClauseCounts → ClauseCounts) : (s.updCounts c f).evr = s.evr := rfl
@[simp] theorem State.updCounts_boot (c : Nat) (f : ClauseCounts → ClauseCounts) : (s.updCounts c f).boot = s.boot := rfl
@[simp] theorem State.updCounts_out (c : Nat) (f : ClauseCounts → ClauseCounts) : (s.updCounts c f).out = s.out := rfl
@[simp] theorem State.updCounts_health (c : Nat) (f : ClauseCounts → ClauseCounts) : (s.updCounts c f).health = s.health := rfl

/-! ### updAxis -/

@[simp] theorem State.updAxis_pending (n : Nat) (f : Axis → Axis) : (s.updAxis n f).pending = s.pending := rfl
@[simp] theorem State.updAxis_clk (n : Nat) (f : Axis → Axis) : (s.updAxis n f).clk = s.clk := rfl
@[simp] theorem State.updAxis_free (n : Nat) (f : Axis → Axis) : (s.updAxis n f).free = s.free := rfl
@[simp] theorem State.updAxis_now (n : Nat) (f : Axis → Axis) : (s.updAxis n f).now = s.now := rfl
@[simp] theorem State.updAxis_regs (n : Nat) (f : Axis → Axis) : (s.updAxis n f).regs = s.regs := rfl
@[simp] theorem State.updAxis_priv (n : Nat) (f : Axis → Axis) : (s.updAxis n f).priv = s.priv := rfl
@[simp] theorem State.updAxis_latches (n : Nat) (f : Axis → Axis) : (s.updAxis n f).latches = s.latches := rfl
@[simp] theorem State.updAxis_engs (n : Nat) (f : Axis → Axis) : (s.updAxis n f).engs = s.engs := rfl
@[simp] theorem State.updAxis_tb (n : Nat) (f : Axis → Axis) : (s.updAxis n f).tb = s.tb := rfl
@[simp] theorem State.updAxis_wave (n : Nat) (f : Axis → Axis) : (s.updAxis n f).wave = s.wave := rfl
@[simp] theorem State.updAxis_mains (n : Nat) (f : Axis → Axis) : (s.updAxis n f).mains = s.mains := rfl
@[simp] theorem State.updAxis_banks (n : Nat) (f : Axis → Axis) : (s.updAxis n f).banks = s.banks := rfl
@[simp] theorem State.updAxis_sol (n : Nat) (f : Axis → Axis) : (s.updAxis n f).sol = s.sol := rfl
@[simp] theorem State.updAxis_opt (n : Nat) (f : Axis → Axis) : (s.updAxis n f).opt = s.opt := rfl
@[simp] theorem State.updAxis_lpe (n : Nat) (f : Axis → Axis) : (s.updAxis n f).lpe = s.lpe := rfl
@[simp] theorem State.updAxis_field (n : Nat) (f : Axis → Axis) : (s.updAxis n f).field = s.field := rfl
@[simp] theorem State.updAxis_gnb (n : Nat) (f : Axis → Axis) : (s.updAxis n f).gnb = s.gnb := rfl
@[simp] theorem State.updAxis_dfc (n : Nat) (f : Axis → Axis) : (s.updAxis n f).dfc = s.dfc := rfl
@[simp] theorem State.updAxis_enc (n : Nat) (f : Axis → Axis) : (s.updAxis n f).enc = s.enc := rfl
@[simp] theorem State.updAxis_ser (n : Nat) (f : Axis → Axis) : (s.updAxis n f).ser = s.ser := rfl
@[simp] theorem State.updAxis_can (n : Nat) (f : Axis → Axis) : (s.updAxis n f).can = s.can := rfl
@[simp] theorem State.updAxis_fus (n : Nat) (f : Axis → Axis) : (s.updAxis n f).fus = s.fus := rfl
@[simp] theorem State.updAxis_eth (n : Nat) (f : Axis → Axis) : (s.updAxis n f).eth = s.eth := rfl
@[simp] theorem State.updAxis_saf (n : Nat) (f : Axis → Axis) : (s.updAxis n f).saf = s.saf := rfl
@[simp] theorem State.updAxis_pair (n : Nat) (f : Axis → Axis) : (s.updAxis n f).pair = s.pair := rfl
@[simp] theorem State.updAxis_evr (n : Nat) (f : Axis → Axis) : (s.updAxis n f).evr = s.evr := rfl
@[simp] theorem State.updAxis_boot (n : Nat) (f : Axis → Axis) : (s.updAxis n f).boot = s.boot := rfl
@[simp] theorem State.updAxis_out (n : Nat) (f : Axis → Axis) : (s.updAxis n f).out = s.out := rfl
@[simp] theorem State.updAxis_health (n : Nat) (f : Axis → Axis) : (s.updAxis n f).health = s.health := rfl

/-! ### dropHealth -/

@[simp] theorem State.dropHealth_pending (h : HealthCause) : (s.dropHealth h).pending = s.pending := rfl
@[simp] theorem State.dropHealth_clk (h : HealthCause) : (s.dropHealth h).clk = s.clk := rfl
@[simp] theorem State.dropHealth_free (h : HealthCause) : (s.dropHealth h).free = s.free := rfl
@[simp] theorem State.dropHealth_now (h : HealthCause) : (s.dropHealth h).now = s.now := rfl
@[simp] theorem State.dropHealth_regs (h : HealthCause) : (s.dropHealth h).regs = s.regs := rfl
@[simp] theorem State.dropHealth_priv (h : HealthCause) : (s.dropHealth h).priv = s.priv := rfl
@[simp] theorem State.dropHealth_latches (h : HealthCause) : (s.dropHealth h).latches = s.latches := rfl
@[simp] theorem State.dropHealth_engs (h : HealthCause) : (s.dropHealth h).engs = s.engs := rfl
@[simp] theorem State.dropHealth_sched (h : HealthCause) : (s.dropHealth h).sched = s.sched := rfl
@[simp] theorem State.dropHealth_tb (h : HealthCause) : (s.dropHealth h).tb = s.tb := rfl
@[simp] theorem State.dropHealth_wave (h : HealthCause) : (s.dropHealth h).wave = s.wave := rfl
@[simp] theorem State.dropHealth_mains (h : HealthCause) : (s.dropHealth h).mains = s.mains := rfl
@[simp] theorem State.dropHealth_banks (h : HealthCause) : (s.dropHealth h).banks = s.banks := rfl
@[simp] theorem State.dropHealth_sol (h : HealthCause) : (s.dropHealth h).sol = s.sol := rfl
@[simp] theorem State.dropHealth_opt (h : HealthCause) : (s.dropHealth h).opt = s.opt := rfl
@[simp] theorem State.dropHealth_lpe (h : HealthCause) : (s.dropHealth h).lpe = s.lpe := rfl
@[simp] theorem State.dropHealth_field (h : HealthCause) : (s.dropHealth h).field = s.field := rfl
@[simp] theorem State.dropHealth_gnb (h : HealthCause) : (s.dropHealth h).gnb = s.gnb := rfl
@[simp] theorem State.dropHealth_dfc (h : HealthCause) : (s.dropHealth h).dfc = s.dfc := rfl
@[simp] theorem State.dropHealth_enc (h : HealthCause) : (s.dropHealth h).enc = s.enc := rfl
@[simp] theorem State.dropHealth_ser (h : HealthCause) : (s.dropHealth h).ser = s.ser := rfl
@[simp] theorem State.dropHealth_can (h : HealthCause) : (s.dropHealth h).can = s.can := rfl
@[simp] theorem State.dropHealth_fus (h : HealthCause) : (s.dropHealth h).fus = s.fus := rfl
@[simp] theorem State.dropHealth_eth (h : HealthCause) : (s.dropHealth h).eth = s.eth := rfl
@[simp] theorem State.dropHealth_saf (h : HealthCause) : (s.dropHealth h).saf = s.saf := rfl
@[simp] theorem State.dropHealth_pair (h : HealthCause) : (s.dropHealth h).pair = s.pair := rfl
@[simp] theorem State.dropHealth_evr (h : HealthCause) : (s.dropHealth h).evr = s.evr := rfl
@[simp] theorem State.dropHealth_boot (h : HealthCause) : (s.dropHealth h).boot = s.boot := rfl
@[simp] theorem State.dropHealth_out (h : HealthCause) : (s.dropHealth h).out = s.out := rfl

/-! ### setT -/

@[simp] theorem State.setT_pending (t : Nat) : (s.setT t).pending = s.pending := rfl
@[simp] theorem State.setT_clk (t : Nat) : (s.setT t).clk = s.clk := rfl
@[simp] theorem State.setT_free (t : Nat) : (s.setT t).free = s.free := rfl
@[simp] theorem State.setT_now (t : Nat) : (s.setT t).now = s.now := rfl
@[simp] theorem State.setT_regs (t : Nat) : (s.setT t).regs = s.regs := rfl
@[simp] theorem State.setT_priv (t : Nat) : (s.setT t).priv = s.priv := rfl
@[simp] theorem State.setT_latches (t : Nat) : (s.setT t).latches = s.latches := rfl
@[simp] theorem State.setT_engs (t : Nat) : (s.setT t).engs = s.engs := rfl
@[simp] theorem State.setT_sched (t : Nat) : (s.setT t).sched = s.sched := rfl
@[simp] theorem State.setT_tb (t : Nat) : (s.setT t).tb = { s.tb with t := t % 2 ^ 64 } := rfl
@[simp] theorem State.setT_wave (t : Nat) : (s.setT t).wave = s.wave := rfl
@[simp] theorem State.setT_mains (t : Nat) : (s.setT t).mains = s.mains := rfl
@[simp] theorem State.setT_banks (t : Nat) : (s.setT t).banks = s.banks := rfl
@[simp] theorem State.setT_sol (t : Nat) : (s.setT t).sol = s.sol := rfl
@[simp] theorem State.setT_opt (t : Nat) : (s.setT t).opt = s.opt := rfl
@[simp] theorem State.setT_lpe (t : Nat) : (s.setT t).lpe = s.lpe := rfl
@[simp] theorem State.setT_field (t : Nat) : (s.setT t).field = s.field := rfl
@[simp] theorem State.setT_gnb (t : Nat) : (s.setT t).gnb = s.gnb := rfl
@[simp] theorem State.setT_dfc (t : Nat) : (s.setT t).dfc = s.dfc := rfl
@[simp] theorem State.setT_enc (t : Nat) : (s.setT t).enc = s.enc := rfl
@[simp] theorem State.setT_ser (t : Nat) : (s.setT t).ser = s.ser := rfl
@[simp] theorem State.setT_can (t : Nat) : (s.setT t).can = s.can := rfl
@[simp] theorem State.setT_fus (t : Nat) : (s.setT t).fus = s.fus := rfl
@[simp] theorem State.setT_eth (t : Nat) : (s.setT t).eth = s.eth := rfl
@[simp] theorem State.setT_saf (t : Nat) : (s.setT t).saf = s.saf := rfl
@[simp] theorem State.setT_pair (t : Nat) : (s.setT t).pair = s.pair := rfl
@[simp] theorem State.setT_evr (t : Nat) : (s.setT t).evr = s.evr := rfl
@[simp] theorem State.setT_boot (t : Nat) : (s.setT t).boot = s.boot := rfl
@[simp] theorem State.setT_out (t : Nat) : (s.setT t).out = s.out := rfl
@[simp] theorem State.setT_health (t : Nat) : (s.setT t).health = s.health := rfl

/-! ### updPair -/

@[simp] theorem State.updPair_pending (f : Pair → Pair) : (s.updPair f).pending = s.pending := rfl
@[simp] theorem State.updPair_clk (f : Pair → Pair) : (s.updPair f).clk = s.clk := rfl
@[simp] theorem State.updPair_free (f : Pair → Pair) : (s.updPair f).free = s.free := rfl
@[simp] theorem State.updPair_now (f : Pair → Pair) : (s.updPair f).now = s.now := rfl
@[simp] theorem State.updPair_regs (f : Pair → Pair) : (s.updPair f).regs = s.regs := rfl
@[simp] theorem State.updPair_priv (f : Pair → Pair) : (s.updPair f).priv = s.priv := rfl
@[simp] theorem State.updPair_latches (f : Pair → Pair) : (s.updPair f).latches = s.latches := rfl
@[simp] theorem State.updPair_engs (f : Pair → Pair) : (s.updPair f).engs = s.engs := rfl
@[simp] theorem State.updPair_sched (f : Pair → Pair) : (s.updPair f).sched = s.sched := rfl
@[simp] theorem State.updPair_tb (f : Pair → Pair) : (s.updPair f).tb = s.tb := rfl
@[simp] theorem State.updPair_wave (f : Pair → Pair) : (s.updPair f).wave = s.wave := rfl
@[simp] theorem State.updPair_mains (f : Pair → Pair) : (s.updPair f).mains = s.mains := rfl
@[simp] theorem State.updPair_banks (f : Pair → Pair) : (s.updPair f).banks = s.banks := rfl
@[simp] theorem State.updPair_sol (f : Pair → Pair) : (s.updPair f).sol = s.sol := rfl
@[simp] theorem State.updPair_opt (f : Pair → Pair) : (s.updPair f).opt = s.opt := rfl
@[simp] theorem State.updPair_lpe (f : Pair → Pair) : (s.updPair f).lpe = s.lpe := rfl
@[simp] theorem State.updPair_field (f : Pair → Pair) : (s.updPair f).field = s.field := rfl
@[simp] theorem State.updPair_gnb (f : Pair → Pair) : (s.updPair f).gnb = s.gnb := rfl
@[simp] theorem State.updPair_dfc (f : Pair → Pair) : (s.updPair f).dfc = s.dfc := rfl
@[simp] theorem State.updPair_enc (f : Pair → Pair) : (s.updPair f).enc = s.enc := rfl
@[simp] theorem State.updPair_ser (f : Pair → Pair) : (s.updPair f).ser = s.ser := rfl
@[simp] theorem State.updPair_can (f : Pair → Pair) : (s.updPair f).can = s.can := rfl
@[simp] theorem State.updPair_fus (f : Pair → Pair) : (s.updPair f).fus = s.fus := rfl
@[simp] theorem State.updPair_eth (f : Pair → Pair) : (s.updPair f).eth = s.eth := rfl
@[simp] theorem State.updPair_saf (f : Pair → Pair) : (s.updPair f).saf = s.saf := rfl
@[simp] theorem State.updPair_pair (f : Pair → Pair) : (s.updPair f).pair = f s.pair := rfl
@[simp] theorem State.updPair_evr (f : Pair → Pair) : (s.updPair f).evr = s.evr := rfl
@[simp] theorem State.updPair_boot (f : Pair → Pair) : (s.updPair f).boot = s.boot := rfl
@[simp] theorem State.updPair_out (f : Pair → Pair) : (s.updPair f).out = s.out := rfl
@[simp] theorem State.updPair_health (f : Pair → Pair) : (s.updPair f).health = s.health := rfl

/-! ### updSched -/

@[simp] theorem State.updSched_pending (f : Sched → Sched) : (s.updSched f).pending = s.pending := rfl
@[simp] theorem State.updSched_clk (f : Sched → Sched) : (s.updSched f).clk = s.clk := rfl
@[simp] theorem State.updSched_free (f : Sched → Sched) : (s.updSched f).free = s.free := rfl
@[simp] theorem State.updSched_now (f : Sched → Sched) : (s.updSched f).now = s.now := rfl
@[simp] theorem State.updSched_regs (f : Sched → Sched) : (s.updSched f).regs = s.regs := rfl
@[simp] theorem State.updSched_priv (f : Sched → Sched) : (s.updSched f).priv = s.priv := rfl
@[simp] theorem State.updSched_latches (f : Sched → Sched) : (s.updSched f).latches = s.latches := rfl
@[simp] theorem State.updSched_engs (f : Sched → Sched) : (s.updSched f).engs = s.engs := rfl
@[simp] theorem State.updSched_sched (f : Sched → Sched) : (s.updSched f).sched = f s.sched := rfl
@[simp] theorem State.updSched_tb (f : Sched → Sched) : (s.updSched f).tb = s.tb := rfl
@[simp] theorem State.updSched_wave (f : Sched → Sched) : (s.updSched f).wave = s.wave := rfl
@[simp] theorem State.updSched_mains (f : Sched → Sched) : (s.updSched f).mains = s.mains := rfl
@[simp] theorem State.updSched_banks (f : Sched → Sched) : (s.updSched f).banks = s.banks := rfl
@[simp] theorem State.updSched_sol (f : Sched → Sched) : (s.updSched f).sol = s.sol := rfl
@[simp] theorem State.updSched_opt (f : Sched → Sched) : (s.updSched f).opt = s.opt := rfl
@[simp] theorem State.updSched_lpe (f : Sched → Sched) : (s.updSched f).lpe = s.lpe := rfl
@[simp] theorem State.updSched_field (f : Sched → Sched) : (s.updSched f).field = s.field := rfl
@[simp] theorem State.updSched_gnb (f : Sched → Sched) : (s.updSched f).gnb = s.gnb := rfl
@[simp] theorem State.updSched_dfc (f : Sched → Sched) : (s.updSched f).dfc = s.dfc := rfl
@[simp] theorem State.updSched_enc (f : Sched → Sched) : (s.updSched f).enc = s.enc := rfl
@[simp] theorem State.updSched_ser (f : Sched → Sched) : (s.updSched f).ser = s.ser := rfl
@[simp] theorem State.updSched_can (f : Sched → Sched) : (s.updSched f).can = s.can := rfl
@[simp] theorem State.updSched_fus (f : Sched → Sched) : (s.updSched f).fus = s.fus := rfl
@[simp] theorem State.updSched_eth (f : Sched → Sched) : (s.updSched f).eth = s.eth := rfl
@[simp] theorem State.updSched_saf (f : Sched → Sched) : (s.updSched f).saf = s.saf := rfl
@[simp] theorem State.updSched_pair (f : Sched → Sched) : (s.updSched f).pair = s.pair := rfl
@[simp] theorem State.updSched_evr (f : Sched → Sched) : (s.updSched f).evr = s.evr := rfl
@[simp] theorem State.updSched_boot (f : Sched → Sched) : (s.updSched f).boot = s.boot := rfl
@[simp] theorem State.updSched_out (f : Sched → Sched) : (s.updSched f).out = s.out := rfl
@[simp] theorem State.updSched_health (f : Sched → Sched) : (s.updSched f).health = s.health := rfl

/-! ### updEvr -/

@[simp] theorem State.updEvr_pending (f : Evr → Evr) : (s.updEvr f).pending = s.pending := rfl
@[simp] theorem State.updEvr_clk (f : Evr → Evr) : (s.updEvr f).clk = s.clk := rfl
@[simp] theorem State.updEvr_free (f : Evr → Evr) : (s.updEvr f).free = s.free := rfl
@[simp] theorem State.updEvr_now (f : Evr → Evr) : (s.updEvr f).now = s.now := rfl
@[simp] theorem State.updEvr_regs (f : Evr → Evr) : (s.updEvr f).regs = s.regs := rfl
@[simp] theorem State.updEvr_priv (f : Evr → Evr) : (s.updEvr f).priv = s.priv := rfl
@[simp] theorem State.updEvr_latches (f : Evr → Evr) : (s.updEvr f).latches = s.latches := rfl
@[simp] theorem State.updEvr_engs (f : Evr → Evr) : (s.updEvr f).engs = s.engs := rfl
@[simp] theorem State.updEvr_sched (f : Evr → Evr) : (s.updEvr f).sched = s.sched := rfl
@[simp] theorem State.updEvr_tb (f : Evr → Evr) : (s.updEvr f).tb = s.tb := rfl
@[simp] theorem State.updEvr_wave (f : Evr → Evr) : (s.updEvr f).wave = s.wave := rfl
@[simp] theorem State.updEvr_mains (f : Evr → Evr) : (s.updEvr f).mains = s.mains := rfl
@[simp] theorem State.updEvr_banks (f : Evr → Evr) : (s.updEvr f).banks = s.banks := rfl
@[simp] theorem State.updEvr_sol (f : Evr → Evr) : (s.updEvr f).sol = s.sol := rfl
@[simp] theorem State.updEvr_opt (f : Evr → Evr) : (s.updEvr f).opt = s.opt := rfl
@[simp] theorem State.updEvr_lpe (f : Evr → Evr) : (s.updEvr f).lpe = s.lpe := rfl
@[simp] theorem State.updEvr_field (f : Evr → Evr) : (s.updEvr f).field = s.field := rfl
@[simp] theorem State.updEvr_gnb (f : Evr → Evr) : (s.updEvr f).gnb = s.gnb := rfl
@[simp] theorem State.updEvr_dfc (f : Evr → Evr) : (s.updEvr f).dfc = s.dfc := rfl
@[simp] theorem State.updEvr_enc (f : Evr → Evr) : (s.updEvr f).enc = s.enc := rfl
@[simp] theorem State.updEvr_ser (f : Evr → Evr) : (s.updEvr f).ser = s.ser := rfl
@[simp] theorem State.updEvr_can (f : Evr → Evr) : (s.updEvr f).can = s.can := rfl
@[simp] theorem State.updEvr_fus (f : Evr → Evr) : (s.updEvr f).fus = s.fus := rfl
@[simp] theorem State.updEvr_eth (f : Evr → Evr) : (s.updEvr f).eth = s.eth := rfl
@[simp] theorem State.updEvr_saf (f : Evr → Evr) : (s.updEvr f).saf = s.saf := rfl
@[simp] theorem State.updEvr_pair (f : Evr → Evr) : (s.updEvr f).pair = s.pair := rfl
@[simp] theorem State.updEvr_evr (f : Evr → Evr) : (s.updEvr f).evr = f s.evr := rfl
@[simp] theorem State.updEvr_boot (f : Evr → Evr) : (s.updEvr f).boot = s.boot := rfl
@[simp] theorem State.updEvr_out (f : Evr → Evr) : (s.updEvr f).out = s.out := rfl
@[simp] theorem State.updEvr_health (f : Evr → Evr) : (s.updEvr f).health = s.health := rfl

/-! ### updSaf -/

@[simp] theorem State.updSaf_pending (f : Saf → Saf) : (s.updSaf f).pending = s.pending := rfl
@[simp] theorem State.updSaf_clk (f : Saf → Saf) : (s.updSaf f).clk = s.clk := rfl
@[simp] theorem State.updSaf_free (f : Saf → Saf) : (s.updSaf f).free = s.free := rfl
@[simp] theorem State.updSaf_now (f : Saf → Saf) : (s.updSaf f).now = s.now := rfl
@[simp] theorem State.updSaf_regs (f : Saf → Saf) : (s.updSaf f).regs = s.regs := rfl
@[simp] theorem State.updSaf_priv (f : Saf → Saf) : (s.updSaf f).priv = s.priv := rfl
@[simp] theorem State.updSaf_latches (f : Saf → Saf) : (s.updSaf f).latches = s.latches := rfl
@[simp] theorem State.updSaf_engs (f : Saf → Saf) : (s.updSaf f).engs = s.engs := rfl
@[simp] theorem State.updSaf_sched (f : Saf → Saf) : (s.updSaf f).sched = s.sched := rfl
@[simp] theorem State.updSaf_tb (f : Saf → Saf) : (s.updSaf f).tb = s.tb := rfl
@[simp] theorem State.updSaf_wave (f : Saf → Saf) : (s.updSaf f).wave = s.wave := rfl
@[simp] theorem State.updSaf_mains (f : Saf → Saf) : (s.updSaf f).mains = s.mains := rfl
@[simp] theorem State.updSaf_banks (f : Saf → Saf) : (s.updSaf f).banks = s.banks := rfl
@[simp] theorem State.updSaf_sol (f : Saf → Saf) : (s.updSaf f).sol = s.sol := rfl
@[simp] theorem State.updSaf_opt (f : Saf → Saf) : (s.updSaf f).opt = s.opt := rfl
@[simp] theorem State.updSaf_lpe (f : Saf → Saf) : (s.updSaf f).lpe = s.lpe := rfl
@[simp] theorem State.updSaf_field (f : Saf → Saf) : (s.updSaf f).field = s.field := rfl
@[simp] theorem State.updSaf_gnb (f : Saf → Saf) : (s.updSaf f).gnb = s.gnb := rfl
@[simp] theorem State.updSaf_dfc (f : Saf → Saf) : (s.updSaf f).dfc = s.dfc := rfl
@[simp] theorem State.updSaf_enc (f : Saf → Saf) : (s.updSaf f).enc = s.enc := rfl
@[simp] theorem State.updSaf_ser (f : Saf → Saf) : (s.updSaf f).ser = s.ser := rfl
@[simp] theorem State.updSaf_can (f : Saf → Saf) : (s.updSaf f).can = s.can := rfl
@[simp] theorem State.updSaf_fus (f : Saf → Saf) : (s.updSaf f).fus = s.fus := rfl
@[simp] theorem State.updSaf_eth (f : Saf → Saf) : (s.updSaf f).eth = s.eth := rfl
@[simp] theorem State.updSaf_saf (f : Saf → Saf) : (s.updSaf f).saf = f s.saf := rfl
@[simp] theorem State.updSaf_pair (f : Saf → Saf) : (s.updSaf f).pair = s.pair := rfl
@[simp] theorem State.updSaf_evr (f : Saf → Saf) : (s.updSaf f).evr = s.evr := rfl
@[simp] theorem State.updSaf_boot (f : Saf → Saf) : (s.updSaf f).boot = s.boot := rfl
@[simp] theorem State.updSaf_out (f : Saf → Saf) : (s.updSaf f).out = s.out := rfl
@[simp] theorem State.updSaf_health (f : Saf → Saf) : (s.updSaf f).health = s.health := rfl

/-! ### updOpt -/

@[simp] theorem State.updOpt_pending (f : Sequencer → Sequencer) : (s.updOpt f).pending = s.pending := rfl
@[simp] theorem State.updOpt_clk (f : Sequencer → Sequencer) : (s.updOpt f).clk = s.clk := rfl
@[simp] theorem State.updOpt_free (f : Sequencer → Sequencer) : (s.updOpt f).free = s.free := rfl
@[simp] theorem State.updOpt_now (f : Sequencer → Sequencer) : (s.updOpt f).now = s.now := rfl
@[simp] theorem State.updOpt_regs (f : Sequencer → Sequencer) : (s.updOpt f).regs = s.regs := rfl
@[simp] theorem State.updOpt_priv (f : Sequencer → Sequencer) : (s.updOpt f).priv = s.priv := rfl
@[simp] theorem State.updOpt_latches (f : Sequencer → Sequencer) : (s.updOpt f).latches = s.latches := rfl
@[simp] theorem State.updOpt_engs (f : Sequencer → Sequencer) : (s.updOpt f).engs = s.engs := rfl
@[simp] theorem State.updOpt_sched (f : Sequencer → Sequencer) : (s.updOpt f).sched = s.sched := rfl
@[simp] theorem State.updOpt_tb (f : Sequencer → Sequencer) : (s.updOpt f).tb = s.tb := rfl
@[simp] theorem State.updOpt_wave (f : Sequencer → Sequencer) : (s.updOpt f).wave = s.wave := rfl
@[simp] theorem State.updOpt_mains (f : Sequencer → Sequencer) : (s.updOpt f).mains = s.mains := rfl
@[simp] theorem State.updOpt_banks (f : Sequencer → Sequencer) : (s.updOpt f).banks = s.banks := rfl
@[simp] theorem State.updOpt_sol (f : Sequencer → Sequencer) : (s.updOpt f).sol = s.sol := rfl
@[simp] theorem State.updOpt_opt (f : Sequencer → Sequencer) : (s.updOpt f).opt = f s.opt := rfl
@[simp] theorem State.updOpt_lpe (f : Sequencer → Sequencer) : (s.updOpt f).lpe = s.lpe := rfl
@[simp] theorem State.updOpt_field (f : Sequencer → Sequencer) : (s.updOpt f).field = s.field := rfl
@[simp] theorem State.updOpt_gnb (f : Sequencer → Sequencer) : (s.updOpt f).gnb = s.gnb := rfl
@[simp] theorem State.updOpt_dfc (f : Sequencer → Sequencer) : (s.updOpt f).dfc = s.dfc := rfl
@[simp] theorem State.updOpt_enc (f : Sequencer → Sequencer) : (s.updOpt f).enc = s.enc := rfl
@[simp] theorem State.updOpt_ser (f : Sequencer → Sequencer) : (s.updOpt f).ser = s.ser := rfl
@[simp] theorem State.updOpt_can (f : Sequencer → Sequencer) : (s.updOpt f).can = s.can := rfl
@[simp] theorem State.updOpt_fus (f : Sequencer → Sequencer) : (s.updOpt f).fus = s.fus := rfl
@[simp] theorem State.updOpt_eth (f : Sequencer → Sequencer) : (s.updOpt f).eth = s.eth := rfl
@[simp] theorem State.updOpt_saf (f : Sequencer → Sequencer) : (s.updOpt f).saf = s.saf := rfl
@[simp] theorem State.updOpt_pair (f : Sequencer → Sequencer) : (s.updOpt f).pair = s.pair := rfl
@[simp] theorem State.updOpt_evr (f : Sequencer → Sequencer) : (s.updOpt f).evr = s.evr := rfl
@[simp] theorem State.updOpt_boot (f : Sequencer → Sequencer) : (s.updOpt f).boot = s.boot := rfl
@[simp] theorem State.updOpt_out (f : Sequencer → Sequencer) : (s.updOpt f).out = s.out := rfl
@[simp] theorem State.updOpt_health (f : Sequencer → Sequencer) : (s.updOpt f).health = s.health := rfl

/-! ### updSol -/

@[simp] theorem State.updSol_pending (f : Solver → Solver) : (s.updSol f).pending = s.pending := rfl
@[simp] theorem State.updSol_clk (f : Solver → Solver) : (s.updSol f).clk = s.clk := rfl
@[simp] theorem State.updSol_free (f : Solver → Solver) : (s.updSol f).free = s.free := rfl
@[simp] theorem State.updSol_now (f : Solver → Solver) : (s.updSol f).now = s.now := rfl
@[simp] theorem State.updSol_regs (f : Solver → Solver) : (s.updSol f).regs = s.regs := rfl
@[simp] theorem State.updSol_priv (f : Solver → Solver) : (s.updSol f).priv = s.priv := rfl
@[simp] theorem State.updSol_latches (f : Solver → Solver) : (s.updSol f).latches = s.latches := rfl
@[simp] theorem State.updSol_engs (f : Solver → Solver) : (s.updSol f).engs = s.engs := rfl
@[simp] theorem State.updSol_sched (f : Solver → Solver) : (s.updSol f).sched = s.sched := rfl
@[simp] theorem State.updSol_tb (f : Solver → Solver) : (s.updSol f).tb = s.tb := rfl
@[simp] theorem State.updSol_wave (f : Solver → Solver) : (s.updSol f).wave = s.wave := rfl
@[simp] theorem State.updSol_mains (f : Solver → Solver) : (s.updSol f).mains = s.mains := rfl
@[simp] theorem State.updSol_banks (f : Solver → Solver) : (s.updSol f).banks = s.banks := rfl
@[simp] theorem State.updSol_sol (f : Solver → Solver) : (s.updSol f).sol = f s.sol := rfl
@[simp] theorem State.updSol_opt (f : Solver → Solver) : (s.updSol f).opt = s.opt := rfl
@[simp] theorem State.updSol_lpe (f : Solver → Solver) : (s.updSol f).lpe = s.lpe := rfl
@[simp] theorem State.updSol_field (f : Solver → Solver) : (s.updSol f).field = s.field := rfl
@[simp] theorem State.updSol_gnb (f : Solver → Solver) : (s.updSol f).gnb = s.gnb := rfl
@[simp] theorem State.updSol_dfc (f : Solver → Solver) : (s.updSol f).dfc = s.dfc := rfl
@[simp] theorem State.updSol_enc (f : Solver → Solver) : (s.updSol f).enc = s.enc := rfl
@[simp] theorem State.updSol_ser (f : Solver → Solver) : (s.updSol f).ser = s.ser := rfl
@[simp] theorem State.updSol_can (f : Solver → Solver) : (s.updSol f).can = s.can := rfl
@[simp] theorem State.updSol_fus (f : Solver → Solver) : (s.updSol f).fus = s.fus := rfl
@[simp] theorem State.updSol_eth (f : Solver → Solver) : (s.updSol f).eth = s.eth := rfl
@[simp] theorem State.updSol_saf (f : Solver → Solver) : (s.updSol f).saf = s.saf := rfl
@[simp] theorem State.updSol_pair (f : Solver → Solver) : (s.updSol f).pair = s.pair := rfl
@[simp] theorem State.updSol_evr (f : Solver → Solver) : (s.updSol f).evr = s.evr := rfl
@[simp] theorem State.updSol_boot (f : Solver → Solver) : (s.updSol f).boot = s.boot := rfl
@[simp] theorem State.updSol_out (f : Solver → Solver) : (s.updSol f).out = s.out := rfl
@[simp] theorem State.updSol_health (f : Solver → Solver) : (s.updSol f).health = s.health := rfl

/-! ### updBoot -/

@[simp] theorem State.updBoot_pending (f : Boot → Boot) : (s.updBoot f).pending = s.pending := rfl
@[simp] theorem State.updBoot_clk (f : Boot → Boot) : (s.updBoot f).clk = s.clk := rfl
@[simp] theorem State.updBoot_free (f : Boot → Boot) : (s.updBoot f).free = s.free := rfl
@[simp] theorem State.updBoot_now (f : Boot → Boot) : (s.updBoot f).now = s.now := rfl
@[simp] theorem State.updBoot_regs (f : Boot → Boot) : (s.updBoot f).regs = s.regs := rfl
@[simp] theorem State.updBoot_priv (f : Boot → Boot) : (s.updBoot f).priv = s.priv := rfl
@[simp] theorem State.updBoot_latches (f : Boot → Boot) : (s.updBoot f).latches = s.latches := rfl
@[simp] theorem State.updBoot_engs (f : Boot → Boot) : (s.updBoot f).engs = s.engs := rfl
@[simp] theorem State.updBoot_sched (f : Boot → Boot) : (s.updBoot f).sched = s.sched := rfl
@[simp] theorem State.updBoot_tb (f : Boot → Boot) : (s.updBoot f).tb = s.tb := rfl
@[simp] theorem State.updBoot_wave (f : Boot → Boot) : (s.updBoot f).wave = s.wave := rfl
@[simp] theorem State.updBoot_mains (f : Boot → Boot) : (s.updBoot f).mains = s.mains := rfl
@[simp] theorem State.updBoot_banks (f : Boot → Boot) : (s.updBoot f).banks = s.banks := rfl
@[simp] theorem State.updBoot_sol (f : Boot → Boot) : (s.updBoot f).sol = s.sol := rfl
@[simp] theorem State.updBoot_opt (f : Boot → Boot) : (s.updBoot f).opt = s.opt := rfl
@[simp] theorem State.updBoot_lpe (f : Boot → Boot) : (s.updBoot f).lpe = s.lpe := rfl
@[simp] theorem State.updBoot_field (f : Boot → Boot) : (s.updBoot f).field = s.field := rfl
@[simp] theorem State.updBoot_gnb (f : Boot → Boot) : (s.updBoot f).gnb = s.gnb := rfl
@[simp] theorem State.updBoot_dfc (f : Boot → Boot) : (s.updBoot f).dfc = s.dfc := rfl
@[simp] theorem State.updBoot_enc (f : Boot → Boot) : (s.updBoot f).enc = s.enc := rfl
@[simp] theorem State.updBoot_ser (f : Boot → Boot) : (s.updBoot f).ser = s.ser := rfl
@[simp] theorem State.updBoot_can (f : Boot → Boot) : (s.updBoot f).can = s.can := rfl
@[simp] theorem State.updBoot_fus (f : Boot → Boot) : (s.updBoot f).fus = s.fus := rfl
@[simp] theorem State.updBoot_eth (f : Boot → Boot) : (s.updBoot f).eth = s.eth := rfl
@[simp] theorem State.updBoot_saf (f : Boot → Boot) : (s.updBoot f).saf = s.saf := rfl
@[simp] theorem State.updBoot_pair (f : Boot → Boot) : (s.updBoot f).pair = s.pair := rfl
@[simp] theorem State.updBoot_evr (f : Boot → Boot) : (s.updBoot f).evr = s.evr := rfl
@[simp] theorem State.updBoot_boot (f : Boot → Boot) : (s.updBoot f).boot = f s.boot := rfl
@[simp] theorem State.updBoot_out (f : Boot → Boot) : (s.updBoot f).out = s.out := rfl
@[simp] theorem State.updBoot_health (f : Boot → Boot) : (s.updBoot f).health = s.health := rfl

/-! ### updTb -/

@[simp] theorem State.updTb_pending (f : Timebase → Timebase) : (s.updTb f).pending = s.pending := rfl
@[simp] theorem State.updTb_clk (f : Timebase → Timebase) : (s.updTb f).clk = s.clk := rfl
@[simp] theorem State.updTb_free (f : Timebase → Timebase) : (s.updTb f).free = s.free := rfl
@[simp] theorem State.updTb_now (f : Timebase → Timebase) : (s.updTb f).now = s.now := rfl
@[simp] theorem State.updTb_regs (f : Timebase → Timebase) : (s.updTb f).regs = s.regs := rfl
@[simp] theorem State.updTb_priv (f : Timebase → Timebase) : (s.updTb f).priv = s.priv := rfl
@[simp] theorem State.updTb_latches (f : Timebase → Timebase) : (s.updTb f).latches = s.latches := rfl
@[simp] theorem State.updTb_engs (f : Timebase → Timebase) : (s.updTb f).engs = s.engs := rfl
@[simp] theorem State.updTb_sched (f : Timebase → Timebase) : (s.updTb f).sched = s.sched := rfl
@[simp] theorem State.updTb_tb (f : Timebase → Timebase) : (s.updTb f).tb = f s.tb := rfl
@[simp] theorem State.updTb_wave (f : Timebase → Timebase) : (s.updTb f).wave = s.wave := rfl
@[simp] theorem State.updTb_mains (f : Timebase → Timebase) : (s.updTb f).mains = s.mains := rfl
@[simp] theorem State.updTb_banks (f : Timebase → Timebase) : (s.updTb f).banks = s.banks := rfl
@[simp] theorem State.updTb_sol (f : Timebase → Timebase) : (s.updTb f).sol = s.sol := rfl
@[simp] theorem State.updTb_opt (f : Timebase → Timebase) : (s.updTb f).opt = s.opt := rfl
@[simp] theorem State.updTb_lpe (f : Timebase → Timebase) : (s.updTb f).lpe = s.lpe := rfl
@[simp] theorem State.updTb_field (f : Timebase → Timebase) : (s.updTb f).field = s.field := rfl
@[simp] theorem State.updTb_gnb (f : Timebase → Timebase) : (s.updTb f).gnb = s.gnb := rfl
@[simp] theorem State.updTb_dfc (f : Timebase → Timebase) : (s.updTb f).dfc = s.dfc := rfl
@[simp] theorem State.updTb_enc (f : Timebase → Timebase) : (s.updTb f).enc = s.enc := rfl
@[simp] theorem State.updTb_ser (f : Timebase → Timebase) : (s.updTb f).ser = s.ser := rfl
@[simp] theorem State.updTb_can (f : Timebase → Timebase) : (s.updTb f).can = s.can := rfl
@[simp] theorem State.updTb_fus (f : Timebase → Timebase) : (s.updTb f).fus = s.fus := rfl
@[simp] theorem State.updTb_eth (f : Timebase → Timebase) : (s.updTb f).eth = s.eth := rfl
@[simp] theorem State.updTb_saf (f : Timebase → Timebase) : (s.updTb f).saf = s.saf := rfl
@[simp] theorem State.updTb_pair (f : Timebase → Timebase) : (s.updTb f).pair = s.pair := rfl
@[simp] theorem State.updTb_evr (f : Timebase → Timebase) : (s.updTb f).evr = s.evr := rfl
@[simp] theorem State.updTb_boot (f : Timebase → Timebase) : (s.updTb f).boot = s.boot := rfl
@[simp] theorem State.updTb_out (f : Timebase → Timebase) : (s.updTb f).out = s.out := rfl
@[simp] theorem State.updTb_health (f : Timebase → Timebase) : (s.updTb f).health = s.health := rfl

/-! ### updField -/

@[simp] theorem State.updField_pending (f : FieldIo → FieldIo) : (s.updField f).pending = s.pending := rfl
@[simp] theorem State.updField_clk (f : FieldIo → FieldIo) : (s.updField f).clk = s.clk := rfl
@[simp] theorem State.updField_free (f : FieldIo → FieldIo) : (s.updField f).free = s.free := rfl
@[simp] theorem State.updField_now (f : FieldIo → FieldIo) : (s.updField f).now = s.now := rfl
@[simp] theorem State.updField_regs (f : FieldIo → FieldIo) : (s.updField f).regs = s.regs := rfl
@[simp] theorem State.updField_priv (f : FieldIo → FieldIo) : (s.updField f).priv = s.priv := rfl
@[simp] theorem State.updField_latches (f : FieldIo → FieldIo) : (s.updField f).latches = s.latches := rfl
@[simp] theorem State.updField_engs (f : FieldIo → FieldIo) : (s.updField f).engs = s.engs := rfl
@[simp] theorem State.updField_sched (f : FieldIo → FieldIo) : (s.updField f).sched = s.sched := rfl
@[simp] theorem State.updField_tb (f : FieldIo → FieldIo) : (s.updField f).tb = s.tb := rfl
@[simp] theorem State.updField_wave (f : FieldIo → FieldIo) : (s.updField f).wave = s.wave := rfl
@[simp] theorem State.updField_mains (f : FieldIo → FieldIo) : (s.updField f).mains = s.mains := rfl
@[simp] theorem State.updField_banks (f : FieldIo → FieldIo) : (s.updField f).banks = s.banks := rfl
@[simp] theorem State.updField_sol (f : FieldIo → FieldIo) : (s.updField f).sol = s.sol := rfl
@[simp] theorem State.updField_opt (f : FieldIo → FieldIo) : (s.updField f).opt = s.opt := rfl
@[simp] theorem State.updField_lpe (f : FieldIo → FieldIo) : (s.updField f).lpe = s.lpe := rfl
@[simp] theorem State.updField_field (f : FieldIo → FieldIo) : (s.updField f).field = f s.field := rfl
@[simp] theorem State.updField_gnb (f : FieldIo → FieldIo) : (s.updField f).gnb = s.gnb := rfl
@[simp] theorem State.updField_dfc (f : FieldIo → FieldIo) : (s.updField f).dfc = s.dfc := rfl
@[simp] theorem State.updField_enc (f : FieldIo → FieldIo) : (s.updField f).enc = s.enc := rfl
@[simp] theorem State.updField_ser (f : FieldIo → FieldIo) : (s.updField f).ser = s.ser := rfl
@[simp] theorem State.updField_can (f : FieldIo → FieldIo) : (s.updField f).can = s.can := rfl
@[simp] theorem State.updField_fus (f : FieldIo → FieldIo) : (s.updField f).fus = s.fus := rfl
@[simp] theorem State.updField_eth (f : FieldIo → FieldIo) : (s.updField f).eth = s.eth := rfl
@[simp] theorem State.updField_saf (f : FieldIo → FieldIo) : (s.updField f).saf = s.saf := rfl
@[simp] theorem State.updField_pair (f : FieldIo → FieldIo) : (s.updField f).pair = s.pair := rfl
@[simp] theorem State.updField_evr (f : FieldIo → FieldIo) : (s.updField f).evr = s.evr := rfl
@[simp] theorem State.updField_boot (f : FieldIo → FieldIo) : (s.updField f).boot = s.boot := rfl
@[simp] theorem State.updField_out (f : FieldIo → FieldIo) : (s.updField f).out = s.out := rfl
@[simp] theorem State.updField_health (f : FieldIo → FieldIo) : (s.updField f).health = s.health := rfl

/-! ### updFus -/

@[simp] theorem State.updFus_pending (f : Fusion → Fusion) : (s.updFus f).pending = s.pending := rfl
@[simp] theorem State.updFus_clk (f : Fusion → Fusion) : (s.updFus f).clk = s.clk := rfl
@[simp] theorem State.updFus_free (f : Fusion → Fusion) : (s.updFus f).free = s.free := rfl
@[simp] theorem State.updFus_now (f : Fusion → Fusion) : (s.updFus f).now = s.now := rfl
@[simp] theorem State.updFus_regs (f : Fusion → Fusion) : (s.updFus f).regs = s.regs := rfl
@[simp] theorem State.updFus_priv (f : Fusion → Fusion) : (s.updFus f).priv = s.priv := rfl
@[simp] theorem State.updFus_latches (f : Fusion → Fusion) : (s.updFus f).latches = s.latches := rfl
@[simp] theorem State.updFus_engs (f : Fusion → Fusion) : (s.updFus f).engs = s.engs := rfl
@[simp] theorem State.updFus_sched (f : Fusion → Fusion) : (s.updFus f).sched = s.sched := rfl
@[simp] theorem State.updFus_tb (f : Fusion → Fusion) : (s.updFus f).tb = s.tb := rfl
@[simp] theorem State.updFus_wave (f : Fusion → Fusion) : (s.updFus f).wave = s.wave := rfl
@[simp] theorem State.updFus_mains (f : Fusion → Fusion) : (s.updFus f).mains = s.mains := rfl
@[simp] theorem State.updFus_banks (f : Fusion → Fusion) : (s.updFus f).banks = s.banks := rfl
@[simp] theorem State.updFus_sol (f : Fusion → Fusion) : (s.updFus f).sol = s.sol := rfl
@[simp] theorem State.updFus_opt (f : Fusion → Fusion) : (s.updFus f).opt = s.opt := rfl
@[simp] theorem State.updFus_lpe (f : Fusion → Fusion) : (s.updFus f).lpe = s.lpe := rfl
@[simp] theorem State.updFus_field (f : Fusion → Fusion) : (s.updFus f).field = s.field := rfl
@[simp] theorem State.updFus_gnb (f : Fusion → Fusion) : (s.updFus f).gnb = s.gnb := rfl
@[simp] theorem State.updFus_dfc (f : Fusion → Fusion) : (s.updFus f).dfc = s.dfc := rfl
@[simp] theorem State.updFus_enc (f : Fusion → Fusion) : (s.updFus f).enc = s.enc := rfl
@[simp] theorem State.updFus_ser (f : Fusion → Fusion) : (s.updFus f).ser = s.ser := rfl
@[simp] theorem State.updFus_can (f : Fusion → Fusion) : (s.updFus f).can = s.can := rfl
@[simp] theorem State.updFus_fus (f : Fusion → Fusion) : (s.updFus f).fus = f s.fus := rfl
@[simp] theorem State.updFus_eth (f : Fusion → Fusion) : (s.updFus f).eth = s.eth := rfl
@[simp] theorem State.updFus_saf (f : Fusion → Fusion) : (s.updFus f).saf = s.saf := rfl
@[simp] theorem State.updFus_pair (f : Fusion → Fusion) : (s.updFus f).pair = s.pair := rfl
@[simp] theorem State.updFus_evr (f : Fusion → Fusion) : (s.updFus f).evr = s.evr := rfl
@[simp] theorem State.updFus_boot (f : Fusion → Fusion) : (s.updFus f).boot = s.boot := rfl
@[simp] theorem State.updFus_out (f : Fusion → Fusion) : (s.updFus f).out = s.out := rfl
@[simp] theorem State.updFus_health (f : Fusion → Fusion) : (s.updFus f).health = s.health := rfl

/-! ### updGnb -/

@[simp] theorem State.updGnb_pending (f : Gnb → Gnb) : (s.updGnb f).pending = s.pending := rfl
@[simp] theorem State.updGnb_clk (f : Gnb → Gnb) : (s.updGnb f).clk = s.clk := rfl
@[simp] theorem State.updGnb_free (f : Gnb → Gnb) : (s.updGnb f).free = s.free := rfl
@[simp] theorem State.updGnb_now (f : Gnb → Gnb) : (s.updGnb f).now = s.now := rfl
@[simp] theorem State.updGnb_regs (f : Gnb → Gnb) : (s.updGnb f).regs = s.regs := rfl
@[simp] theorem State.updGnb_priv (f : Gnb → Gnb) : (s.updGnb f).priv = s.priv := rfl
@[simp] theorem State.updGnb_latches (f : Gnb → Gnb) : (s.updGnb f).latches = s.latches := rfl
@[simp] theorem State.updGnb_engs (f : Gnb → Gnb) : (s.updGnb f).engs = s.engs := rfl
@[simp] theorem State.updGnb_sched (f : Gnb → Gnb) : (s.updGnb f).sched = s.sched := rfl
@[simp] theorem State.updGnb_tb (f : Gnb → Gnb) : (s.updGnb f).tb = s.tb := rfl
@[simp] theorem State.updGnb_wave (f : Gnb → Gnb) : (s.updGnb f).wave = s.wave := rfl
@[simp] theorem State.updGnb_mains (f : Gnb → Gnb) : (s.updGnb f).mains = s.mains := rfl
@[simp] theorem State.updGnb_banks (f : Gnb → Gnb) : (s.updGnb f).banks = s.banks := rfl
@[simp] theorem State.updGnb_sol (f : Gnb → Gnb) : (s.updGnb f).sol = s.sol := rfl
@[simp] theorem State.updGnb_opt (f : Gnb → Gnb) : (s.updGnb f).opt = s.opt := rfl
@[simp] theorem State.updGnb_lpe (f : Gnb → Gnb) : (s.updGnb f).lpe = s.lpe := rfl
@[simp] theorem State.updGnb_field (f : Gnb → Gnb) : (s.updGnb f).field = s.field := rfl
@[simp] theorem State.updGnb_gnb (f : Gnb → Gnb) : (s.updGnb f).gnb = f s.gnb := rfl
@[simp] theorem State.updGnb_dfc (f : Gnb → Gnb) : (s.updGnb f).dfc = s.dfc := rfl
@[simp] theorem State.updGnb_enc (f : Gnb → Gnb) : (s.updGnb f).enc = s.enc := rfl
@[simp] theorem State.updGnb_ser (f : Gnb → Gnb) : (s.updGnb f).ser = s.ser := rfl
@[simp] theorem State.updGnb_can (f : Gnb → Gnb) : (s.updGnb f).can = s.can := rfl
@[simp] theorem State.updGnb_fus (f : Gnb → Gnb) : (s.updGnb f).fus = s.fus := rfl
@[simp] theorem State.updGnb_eth (f : Gnb → Gnb) : (s.updGnb f).eth = s.eth := rfl
@[simp] theorem State.updGnb_saf (f : Gnb → Gnb) : (s.updGnb f).saf = s.saf := rfl
@[simp] theorem State.updGnb_pair (f : Gnb → Gnb) : (s.updGnb f).pair = s.pair := rfl
@[simp] theorem State.updGnb_evr (f : Gnb → Gnb) : (s.updGnb f).evr = s.evr := rfl
@[simp] theorem State.updGnb_boot (f : Gnb → Gnb) : (s.updGnb f).boot = s.boot := rfl
@[simp] theorem State.updGnb_out (f : Gnb → Gnb) : (s.updGnb f).out = s.out := rfl
@[simp] theorem State.updGnb_health (f : Gnb → Gnb) : (s.updGnb f).health = s.health := rfl

/-! ### updCan -/

@[simp] theorem State.updCan_pending (k : Nat) (f : CanChannel → CanChannel) : (s.updCan k f).pending = s.pending := rfl
@[simp] theorem State.updCan_clk (k : Nat) (f : CanChannel → CanChannel) : (s.updCan k f).clk = s.clk := rfl
@[simp] theorem State.updCan_free (k : Nat) (f : CanChannel → CanChannel) : (s.updCan k f).free = s.free := rfl
@[simp] theorem State.updCan_now (k : Nat) (f : CanChannel → CanChannel) : (s.updCan k f).now = s.now := rfl
@[simp] theorem State.updCan_regs (k : Nat) (f : CanChannel → CanChannel) : (s.updCan k f).regs = s.regs := rfl
@[simp] theorem State.updCan_priv (k : Nat) (f : CanChannel → CanChannel) : (s.updCan k f).priv = s.priv := rfl
@[simp] theorem State.updCan_latches (k : Nat) (f : CanChannel → CanChannel) : (s.updCan k f).latches = s.latches := rfl
@[simp] theorem State.updCan_engs (k : Nat) (f : CanChannel → CanChannel) : (s.updCan k f).engs = s.engs := rfl
@[simp] theorem State.updCan_sched (k : Nat) (f : CanChannel → CanChannel) : (s.updCan k f).sched = s.sched := rfl
@[simp] theorem State.updCan_tb (k : Nat) (f : CanChannel → CanChannel) : (s.updCan k f).tb = s.tb := rfl
@[simp] theorem State.updCan_wave (k : Nat) (f : CanChannel → CanChannel) : (s.updCan k f).wave = s.wave := rfl
@[simp] theorem State.updCan_mains (k : Nat) (f : CanChannel → CanChannel) : (s.updCan k f).mains = s.mains := rfl
@[simp] theorem State.updCan_banks (k : Nat) (f : CanChannel → CanChannel) : (s.updCan k f).banks = s.banks := rfl
@[simp] theorem State.updCan_sol (k : Nat) (f : CanChannel → CanChannel) : (s.updCan k f).sol = s.sol := rfl
@[simp] theorem State.updCan_opt (k : Nat) (f : CanChannel → CanChannel) : (s.updCan k f).opt = s.opt := rfl
@[simp] theorem State.updCan_lpe (k : Nat) (f : CanChannel → CanChannel) : (s.updCan k f).lpe = s.lpe := rfl
@[simp] theorem State.updCan_field (k : Nat) (f : CanChannel → CanChannel) : (s.updCan k f).field = s.field := rfl
@[simp] theorem State.updCan_gnb (k : Nat) (f : CanChannel → CanChannel) : (s.updCan k f).gnb = s.gnb := rfl
@[simp] theorem State.updCan_dfc (k : Nat) (f : CanChannel → CanChannel) : (s.updCan k f).dfc = s.dfc := rfl
@[simp] theorem State.updCan_enc (k : Nat) (f : CanChannel → CanChannel) : (s.updCan k f).enc = s.enc := rfl
@[simp] theorem State.updCan_ser (k : Nat) (f : CanChannel → CanChannel) : (s.updCan k f).ser = s.ser := rfl
@[simp] theorem State.updCan_fus (k : Nat) (f : CanChannel → CanChannel) : (s.updCan k f).fus = s.fus := rfl
@[simp] theorem State.updCan_eth (k : Nat) (f : CanChannel → CanChannel) : (s.updCan k f).eth = s.eth := rfl
@[simp] theorem State.updCan_saf (k : Nat) (f : CanChannel → CanChannel) : (s.updCan k f).saf = s.saf := rfl
@[simp] theorem State.updCan_pair (k : Nat) (f : CanChannel → CanChannel) : (s.updCan k f).pair = s.pair := rfl
@[simp] theorem State.updCan_evr (k : Nat) (f : CanChannel → CanChannel) : (s.updCan k f).evr = s.evr := rfl
@[simp] theorem State.updCan_boot (k : Nat) (f : CanChannel → CanChannel) : (s.updCan k f).boot = s.boot := rfl
@[simp] theorem State.updCan_out (k : Nat) (f : CanChannel → CanChannel) : (s.updCan k f).out = s.out := rfl
@[simp] theorem State.updCan_health (k : Nat) (f : CanChannel → CanChannel) : (s.updCan k f).health = s.health := rfl

/-! ### updEnc -/

@[simp] theorem State.updEnc_pending (k : Nat) (f : EncChannel → EncChannel) : (s.updEnc k f).pending = s.pending := rfl
@[simp] theorem State.updEnc_clk (k : Nat) (f : EncChannel → EncChannel) : (s.updEnc k f).clk = s.clk := rfl
@[simp] theorem State.updEnc_free (k : Nat) (f : EncChannel → EncChannel) : (s.updEnc k f).free = s.free := rfl
@[simp] theorem State.updEnc_now (k : Nat) (f : EncChannel → EncChannel) : (s.updEnc k f).now = s.now := rfl
@[simp] theorem State.updEnc_regs (k : Nat) (f : EncChannel → EncChannel) : (s.updEnc k f).regs = s.regs := rfl
@[simp] theorem State.updEnc_priv (k : Nat) (f : EncChannel → EncChannel) : (s.updEnc k f).priv = s.priv := rfl
@[simp] theorem State.updEnc_latches (k : Nat) (f : EncChannel → EncChannel) : (s.updEnc k f).latches = s.latches := rfl
@[simp] theorem State.updEnc_engs (k : Nat) (f : EncChannel → EncChannel) : (s.updEnc k f).engs = s.engs := rfl
@[simp] theorem State.updEnc_sched (k : Nat) (f : EncChannel → EncChannel) : (s.updEnc k f).sched = s.sched := rfl
@[simp] theorem State.updEnc_tb (k : Nat) (f : EncChannel → EncChannel) : (s.updEnc k f).tb = s.tb := rfl
@[simp] theorem State.updEnc_wave (k : Nat) (f : EncChannel → EncChannel) : (s.updEnc k f).wave = s.wave := rfl
@[simp] theorem State.updEnc_mains (k : Nat) (f : EncChannel → EncChannel) : (s.updEnc k f).mains = s.mains := rfl
@[simp] theorem State.updEnc_banks (k : Nat) (f : EncChannel → EncChannel) : (s.updEnc k f).banks = s.banks := rfl
@[simp] theorem State.updEnc_sol (k : Nat) (f : EncChannel → EncChannel) : (s.updEnc k f).sol = s.sol := rfl
@[simp] theorem State.updEnc_opt (k : Nat) (f : EncChannel → EncChannel) : (s.updEnc k f).opt = s.opt := rfl
@[simp] theorem State.updEnc_lpe (k : Nat) (f : EncChannel → EncChannel) : (s.updEnc k f).lpe = s.lpe := rfl
@[simp] theorem State.updEnc_field (k : Nat) (f : EncChannel → EncChannel) : (s.updEnc k f).field = s.field := rfl
@[simp] theorem State.updEnc_gnb (k : Nat) (f : EncChannel → EncChannel) : (s.updEnc k f).gnb = s.gnb := rfl
@[simp] theorem State.updEnc_dfc (k : Nat) (f : EncChannel → EncChannel) : (s.updEnc k f).dfc = s.dfc := rfl
@[simp] theorem State.updEnc_ser (k : Nat) (f : EncChannel → EncChannel) : (s.updEnc k f).ser = s.ser := rfl
@[simp] theorem State.updEnc_can (k : Nat) (f : EncChannel → EncChannel) : (s.updEnc k f).can = s.can := rfl
@[simp] theorem State.updEnc_fus (k : Nat) (f : EncChannel → EncChannel) : (s.updEnc k f).fus = s.fus := rfl
@[simp] theorem State.updEnc_eth (k : Nat) (f : EncChannel → EncChannel) : (s.updEnc k f).eth = s.eth := rfl
@[simp] theorem State.updEnc_saf (k : Nat) (f : EncChannel → EncChannel) : (s.updEnc k f).saf = s.saf := rfl
@[simp] theorem State.updEnc_pair (k : Nat) (f : EncChannel → EncChannel) : (s.updEnc k f).pair = s.pair := rfl
@[simp] theorem State.updEnc_evr (k : Nat) (f : EncChannel → EncChannel) : (s.updEnc k f).evr = s.evr := rfl
@[simp] theorem State.updEnc_boot (k : Nat) (f : EncChannel → EncChannel) : (s.updEnc k f).boot = s.boot := rfl
@[simp] theorem State.updEnc_out (k : Nat) (f : EncChannel → EncChannel) : (s.updEnc k f).out = s.out := rfl
@[simp] theorem State.updEnc_health (k : Nat) (f : EncChannel → EncChannel) : (s.updEnc k f).health = s.health := rfl

/-! ### updChain -/

@[simp] theorem State.updChain_pending (k : Nat) (f : Chain → Chain) : (s.updChain k f).pending = s.pending := rfl
@[simp] theorem State.updChain_clk (k : Nat) (f : Chain → Chain) : (s.updChain k f).clk = s.clk := rfl
@[simp] theorem State.updChain_free (k : Nat) (f : Chain → Chain) : (s.updChain k f).free = s.free := rfl
@[simp] theorem State.updChain_now (k : Nat) (f : Chain → Chain) : (s.updChain k f).now = s.now := rfl
@[simp] theorem State.updChain_regs (k : Nat) (f : Chain → Chain) : (s.updChain k f).regs = s.regs := rfl
@[simp] theorem State.updChain_priv (k : Nat) (f : Chain → Chain) : (s.updChain k f).priv = s.priv := rfl
@[simp] theorem State.updChain_latches (k : Nat) (f : Chain → Chain) : (s.updChain k f).latches = s.latches := rfl
@[simp] theorem State.updChain_engs (k : Nat) (f : Chain → Chain) : (s.updChain k f).engs = s.engs := rfl
@[simp] theorem State.updChain_sched (k : Nat) (f : Chain → Chain) : (s.updChain k f).sched = s.sched := rfl
@[simp] theorem State.updChain_tb (k : Nat) (f : Chain → Chain) : (s.updChain k f).tb = s.tb := rfl
@[simp] theorem State.updChain_wave (k : Nat) (f : Chain → Chain) : (s.updChain k f).wave = s.wave := rfl
@[simp] theorem State.updChain_mains (k : Nat) (f : Chain → Chain) : (s.updChain k f).mains = s.mains := rfl
@[simp] theorem State.updChain_banks (k : Nat) (f : Chain → Chain) : (s.updChain k f).banks = s.banks := rfl
@[simp] theorem State.updChain_sol (k : Nat) (f : Chain → Chain) : (s.updChain k f).sol = s.sol := rfl
@[simp] theorem State.updChain_opt (k : Nat) (f : Chain → Chain) : (s.updChain k f).opt = s.opt := rfl
@[simp] theorem State.updChain_lpe (k : Nat) (f : Chain → Chain) : (s.updChain k f).lpe = s.lpe := rfl
@[simp] theorem State.updChain_field (k : Nat) (f : Chain → Chain) : (s.updChain k f).field = s.field := rfl
@[simp] theorem State.updChain_gnb (k : Nat) (f : Chain → Chain) : (s.updChain k f).gnb = s.gnb := rfl
@[simp] theorem State.updChain_enc (k : Nat) (f : Chain → Chain) : (s.updChain k f).enc = s.enc := rfl
@[simp] theorem State.updChain_ser (k : Nat) (f : Chain → Chain) : (s.updChain k f).ser = s.ser := rfl
@[simp] theorem State.updChain_can (k : Nat) (f : Chain → Chain) : (s.updChain k f).can = s.can := rfl
@[simp] theorem State.updChain_fus (k : Nat) (f : Chain → Chain) : (s.updChain k f).fus = s.fus := rfl
@[simp] theorem State.updChain_eth (k : Nat) (f : Chain → Chain) : (s.updChain k f).eth = s.eth := rfl
@[simp] theorem State.updChain_saf (k : Nat) (f : Chain → Chain) : (s.updChain k f).saf = s.saf := rfl
@[simp] theorem State.updChain_pair (k : Nat) (f : Chain → Chain) : (s.updChain k f).pair = s.pair := rfl
@[simp] theorem State.updChain_evr (k : Nat) (f : Chain → Chain) : (s.updChain k f).evr = s.evr := rfl
@[simp] theorem State.updChain_boot (k : Nat) (f : Chain → Chain) : (s.updChain k f).boot = s.boot := rfl
@[simp] theorem State.updChain_out (k : Nat) (f : Chain → Chain) : (s.updChain k f).out = s.out := rfl
@[simp] theorem State.updChain_health (k : Nat) (f : Chain → Chain) : (s.updChain k f).health = s.health := rfl

/-! ### updTel -/

@[simp] theorem State.updTel_pending (k : Nat) (f : TelSlot → TelSlot) : (s.updTel k f).pending = s.pending := rfl
@[simp] theorem State.updTel_clk (k : Nat) (f : TelSlot → TelSlot) : (s.updTel k f).clk = s.clk := rfl
@[simp] theorem State.updTel_free (k : Nat) (f : TelSlot → TelSlot) : (s.updTel k f).free = s.free := rfl
@[simp] theorem State.updTel_now (k : Nat) (f : TelSlot → TelSlot) : (s.updTel k f).now = s.now := rfl
@[simp] theorem State.updTel_regs (k : Nat) (f : TelSlot → TelSlot) : (s.updTel k f).regs = s.regs := rfl
@[simp] theorem State.updTel_priv (k : Nat) (f : TelSlot → TelSlot) : (s.updTel k f).priv = s.priv := rfl
@[simp] theorem State.updTel_latches (k : Nat) (f : TelSlot → TelSlot) : (s.updTel k f).latches = s.latches := rfl
@[simp] theorem State.updTel_engs (k : Nat) (f : TelSlot → TelSlot) : (s.updTel k f).engs = s.engs := rfl
@[simp] theorem State.updTel_sched (k : Nat) (f : TelSlot → TelSlot) : (s.updTel k f).sched = s.sched := rfl
@[simp] theorem State.updTel_tb (k : Nat) (f : TelSlot → TelSlot) : (s.updTel k f).tb = s.tb := rfl
@[simp] theorem State.updTel_wave (k : Nat) (f : TelSlot → TelSlot) : (s.updTel k f).wave = s.wave := rfl
@[simp] theorem State.updTel_mains (k : Nat) (f : TelSlot → TelSlot) : (s.updTel k f).mains = s.mains := rfl
@[simp] theorem State.updTel_banks (k : Nat) (f : TelSlot → TelSlot) : (s.updTel k f).banks = s.banks := rfl
@[simp] theorem State.updTel_sol (k : Nat) (f : TelSlot → TelSlot) : (s.updTel k f).sol = s.sol := rfl
@[simp] theorem State.updTel_opt (k : Nat) (f : TelSlot → TelSlot) : (s.updTel k f).opt = s.opt := rfl
@[simp] theorem State.updTel_lpe (k : Nat) (f : TelSlot → TelSlot) : (s.updTel k f).lpe = s.lpe := rfl
@[simp] theorem State.updTel_field (k : Nat) (f : TelSlot → TelSlot) : (s.updTel k f).field = s.field := rfl
@[simp] theorem State.updTel_gnb (k : Nat) (f : TelSlot → TelSlot) : (s.updTel k f).gnb = s.gnb := rfl
@[simp] theorem State.updTel_dfc (k : Nat) (f : TelSlot → TelSlot) : (s.updTel k f).dfc = s.dfc := rfl
@[simp] theorem State.updTel_enc (k : Nat) (f : TelSlot → TelSlot) : (s.updTel k f).enc = s.enc := rfl
@[simp] theorem State.updTel_ser (k : Nat) (f : TelSlot → TelSlot) : (s.updTel k f).ser = s.ser := rfl
@[simp] theorem State.updTel_can (k : Nat) (f : TelSlot → TelSlot) : (s.updTel k f).can = s.can := rfl
@[simp] theorem State.updTel_fus (k : Nat) (f : TelSlot → TelSlot) : (s.updTel k f).fus = s.fus := rfl
@[simp] theorem State.updTel_saf (k : Nat) (f : TelSlot → TelSlot) : (s.updTel k f).saf = s.saf := rfl
@[simp] theorem State.updTel_pair (k : Nat) (f : TelSlot → TelSlot) : (s.updTel k f).pair = s.pair := rfl
@[simp] theorem State.updTel_evr (k : Nat) (f : TelSlot → TelSlot) : (s.updTel k f).evr = s.evr := rfl
@[simp] theorem State.updTel_boot (k : Nat) (f : TelSlot → TelSlot) : (s.updTel k f).boot = s.boot := rfl
@[simp] theorem State.updTel_out (k : Nat) (f : TelSlot → TelSlot) : (s.updTel k f).out = s.out := rfl
@[simp] theorem State.updTel_health (k : Nat) (f : TelSlot → TelSlot) : (s.updTel k f).health = s.health := rfl

/-! ### updSlot -/

@[simp] theorem State.updSlot_pending (k : Nat) (f : LoopSlot → LoopSlot) : (s.updSlot k f).pending = s.pending := rfl
@[simp] theorem State.updSlot_clk (k : Nat) (f : LoopSlot → LoopSlot) : (s.updSlot k f).clk = s.clk := rfl
@[simp] theorem State.updSlot_free (k : Nat) (f : LoopSlot → LoopSlot) : (s.updSlot k f).free = s.free := rfl
@[simp] theorem State.updSlot_now (k : Nat) (f : LoopSlot → LoopSlot) : (s.updSlot k f).now = s.now := rfl
@[simp] theorem State.updSlot_regs (k : Nat) (f : LoopSlot → LoopSlot) : (s.updSlot k f).regs = s.regs := rfl
@[simp] theorem State.updSlot_priv (k : Nat) (f : LoopSlot → LoopSlot) : (s.updSlot k f).priv = s.priv := rfl
@[simp] theorem State.updSlot_latches (k : Nat) (f : LoopSlot → LoopSlot) : (s.updSlot k f).latches = s.latches := rfl
@[simp] theorem State.updSlot_engs (k : Nat) (f : LoopSlot → LoopSlot) : (s.updSlot k f).engs = s.engs := rfl
@[simp] theorem State.updSlot_sched (k : Nat) (f : LoopSlot → LoopSlot) : (s.updSlot k f).sched = s.sched := rfl
@[simp] theorem State.updSlot_tb (k : Nat) (f : LoopSlot → LoopSlot) : (s.updSlot k f).tb = s.tb := rfl
@[simp] theorem State.updSlot_wave (k : Nat) (f : LoopSlot → LoopSlot) : (s.updSlot k f).wave = s.wave := rfl
@[simp] theorem State.updSlot_mains (k : Nat) (f : LoopSlot → LoopSlot) : (s.updSlot k f).mains = s.mains := rfl
@[simp] theorem State.updSlot_banks (k : Nat) (f : LoopSlot → LoopSlot) : (s.updSlot k f).banks = s.banks := rfl
@[simp] theorem State.updSlot_sol (k : Nat) (f : LoopSlot → LoopSlot) : (s.updSlot k f).sol = s.sol := rfl
@[simp] theorem State.updSlot_opt (k : Nat) (f : LoopSlot → LoopSlot) : (s.updSlot k f).opt = s.opt := rfl
@[simp] theorem State.updSlot_field (k : Nat) (f : LoopSlot → LoopSlot) : (s.updSlot k f).field = s.field := rfl
@[simp] theorem State.updSlot_gnb (k : Nat) (f : LoopSlot → LoopSlot) : (s.updSlot k f).gnb = s.gnb := rfl
@[simp] theorem State.updSlot_dfc (k : Nat) (f : LoopSlot → LoopSlot) : (s.updSlot k f).dfc = s.dfc := rfl
@[simp] theorem State.updSlot_enc (k : Nat) (f : LoopSlot → LoopSlot) : (s.updSlot k f).enc = s.enc := rfl
@[simp] theorem State.updSlot_ser (k : Nat) (f : LoopSlot → LoopSlot) : (s.updSlot k f).ser = s.ser := rfl
@[simp] theorem State.updSlot_can (k : Nat) (f : LoopSlot → LoopSlot) : (s.updSlot k f).can = s.can := rfl
@[simp] theorem State.updSlot_fus (k : Nat) (f : LoopSlot → LoopSlot) : (s.updSlot k f).fus = s.fus := rfl
@[simp] theorem State.updSlot_eth (k : Nat) (f : LoopSlot → LoopSlot) : (s.updSlot k f).eth = s.eth := rfl
@[simp] theorem State.updSlot_saf (k : Nat) (f : LoopSlot → LoopSlot) : (s.updSlot k f).saf = s.saf := rfl
@[simp] theorem State.updSlot_pair (k : Nat) (f : LoopSlot → LoopSlot) : (s.updSlot k f).pair = s.pair := rfl
@[simp] theorem State.updSlot_evr (k : Nat) (f : LoopSlot → LoopSlot) : (s.updSlot k f).evr = s.evr := rfl
@[simp] theorem State.updSlot_boot (k : Nat) (f : LoopSlot → LoopSlot) : (s.updSlot k f).boot = s.boot := rfl
@[simp] theorem State.updSlot_out (k : Nat) (f : LoopSlot → LoopSlot) : (s.updSlot k f).out = s.out := rfl
@[simp] theorem State.updSlot_health (k : Nat) (f : LoopSlot → LoopSlot) : (s.updSlot k f).health = s.health := rfl

/-! ### updSer -/

@[simp] theorem State.updSer_pending (k : Nat) (f : SerChannel → SerChannel) : (s.updSer k f).pending = s.pending := rfl
@[simp] theorem State.updSer_clk (k : Nat) (f : SerChannel → SerChannel) : (s.updSer k f).clk = s.clk := rfl
@[simp] theorem State.updSer_free (k : Nat) (f : SerChannel → SerChannel) : (s.updSer k f).free = s.free := rfl
@[simp] theorem State.updSer_now (k : Nat) (f : SerChannel → SerChannel) : (s.updSer k f).now = s.now := rfl
@[simp] theorem State.updSer_regs (k : Nat) (f : SerChannel → SerChannel) : (s.updSer k f).regs = s.regs := rfl
@[simp] theorem State.updSer_priv (k : Nat) (f : SerChannel → SerChannel) : (s.updSer k f).priv = s.priv := rfl
@[simp] theorem State.updSer_latches (k : Nat) (f : SerChannel → SerChannel) : (s.updSer k f).latches = s.latches := rfl
@[simp] theorem State.updSer_engs (k : Nat) (f : SerChannel → SerChannel) : (s.updSer k f).engs = s.engs := rfl
@[simp] theorem State.updSer_sched (k : Nat) (f : SerChannel → SerChannel) : (s.updSer k f).sched = s.sched := rfl
@[simp] theorem State.updSer_tb (k : Nat) (f : SerChannel → SerChannel) : (s.updSer k f).tb = s.tb := rfl
@[simp] theorem State.updSer_wave (k : Nat) (f : SerChannel → SerChannel) : (s.updSer k f).wave = s.wave := rfl
@[simp] theorem State.updSer_mains (k : Nat) (f : SerChannel → SerChannel) : (s.updSer k f).mains = s.mains := rfl
@[simp] theorem State.updSer_banks (k : Nat) (f : SerChannel → SerChannel) : (s.updSer k f).banks = s.banks := rfl
@[simp] theorem State.updSer_sol (k : Nat) (f : SerChannel → SerChannel) : (s.updSer k f).sol = s.sol := rfl
@[simp] theorem State.updSer_opt (k : Nat) (f : SerChannel → SerChannel) : (s.updSer k f).opt = s.opt := rfl
@[simp] theorem State.updSer_lpe (k : Nat) (f : SerChannel → SerChannel) : (s.updSer k f).lpe = s.lpe := rfl
@[simp] theorem State.updSer_field (k : Nat) (f : SerChannel → SerChannel) : (s.updSer k f).field = s.field := rfl
@[simp] theorem State.updSer_gnb (k : Nat) (f : SerChannel → SerChannel) : (s.updSer k f).gnb = s.gnb := rfl
@[simp] theorem State.updSer_dfc (k : Nat) (f : SerChannel → SerChannel) : (s.updSer k f).dfc = s.dfc := rfl
@[simp] theorem State.updSer_enc (k : Nat) (f : SerChannel → SerChannel) : (s.updSer k f).enc = s.enc := rfl
@[simp] theorem State.updSer_can (k : Nat) (f : SerChannel → SerChannel) : (s.updSer k f).can = s.can := rfl
@[simp] theorem State.updSer_fus (k : Nat) (f : SerChannel → SerChannel) : (s.updSer k f).fus = s.fus := rfl
@[simp] theorem State.updSer_eth (k : Nat) (f : SerChannel → SerChannel) : (s.updSer k f).eth = s.eth := rfl
@[simp] theorem State.updSer_saf (k : Nat) (f : SerChannel → SerChannel) : (s.updSer k f).saf = s.saf := rfl
@[simp] theorem State.updSer_pair (k : Nat) (f : SerChannel → SerChannel) : (s.updSer k f).pair = s.pair := rfl
@[simp] theorem State.updSer_evr (k : Nat) (f : SerChannel → SerChannel) : (s.updSer k f).evr = s.evr := rfl
@[simp] theorem State.updSer_boot (k : Nat) (f : SerChannel → SerChannel) : (s.updSer k f).boot = s.boot := rfl
@[simp] theorem State.updSer_out (k : Nat) (f : SerChannel → SerChannel) : (s.updSer k f).out = s.out := rfl
@[simp] theorem State.updSer_health (k : Nat) (f : SerChannel → SerChannel) : (s.updSer k f).health = s.health := rfl

/-! ### setDma -/

@[simp] theorem State.setDma_pending (n : Nat) (c : DmaChan) : (s.setDma n c).pending = s.pending := rfl
@[simp] theorem State.setDma_clk (n : Nat) (c : DmaChan) : (s.setDma n c).clk = s.clk := rfl
@[simp] theorem State.setDma_free (n : Nat) (c : DmaChan) : (s.setDma n c).free = s.free := rfl
@[simp] theorem State.setDma_now (n : Nat) (c : DmaChan) : (s.setDma n c).now = s.now := rfl
@[simp] theorem State.setDma_regs (n : Nat) (c : DmaChan) : (s.setDma n c).regs = s.regs := rfl
@[simp] theorem State.setDma_priv (n : Nat) (c : DmaChan) : (s.setDma n c).priv = s.priv := rfl
@[simp] theorem State.setDma_latches (n : Nat) (c : DmaChan) : (s.setDma n c).latches = s.latches := rfl
@[simp] theorem State.setDma_engs (n : Nat) (c : DmaChan) : (s.setDma n c).engs = s.engs := rfl
@[simp] theorem State.setDma_sched (n : Nat) (c : DmaChan) : (s.setDma n c).sched = s.sched := rfl
@[simp] theorem State.setDma_tb (n : Nat) (c : DmaChan) : (s.setDma n c).tb = s.tb := rfl
@[simp] theorem State.setDma_wave (n : Nat) (c : DmaChan) : (s.setDma n c).wave = s.wave := rfl
@[simp] theorem State.setDma_mains (n : Nat) (c : DmaChan) : (s.setDma n c).mains = s.mains := rfl
@[simp] theorem State.setDma_sol (n : Nat) (c : DmaChan) : (s.setDma n c).sol = s.sol := rfl
@[simp] theorem State.setDma_opt (n : Nat) (c : DmaChan) : (s.setDma n c).opt = s.opt := rfl
@[simp] theorem State.setDma_lpe (n : Nat) (c : DmaChan) : (s.setDma n c).lpe = s.lpe := rfl
@[simp] theorem State.setDma_field (n : Nat) (c : DmaChan) : (s.setDma n c).field = s.field := rfl
@[simp] theorem State.setDma_gnb (n : Nat) (c : DmaChan) : (s.setDma n c).gnb = s.gnb := rfl
@[simp] theorem State.setDma_dfc (n : Nat) (c : DmaChan) : (s.setDma n c).dfc = s.dfc := rfl
@[simp] theorem State.setDma_enc (n : Nat) (c : DmaChan) : (s.setDma n c).enc = s.enc := rfl
@[simp] theorem State.setDma_ser (n : Nat) (c : DmaChan) : (s.setDma n c).ser = s.ser := rfl
@[simp] theorem State.setDma_can (n : Nat) (c : DmaChan) : (s.setDma n c).can = s.can := rfl
@[simp] theorem State.setDma_fus (n : Nat) (c : DmaChan) : (s.setDma n c).fus = s.fus := rfl
@[simp] theorem State.setDma_eth (n : Nat) (c : DmaChan) : (s.setDma n c).eth = s.eth := rfl
@[simp] theorem State.setDma_saf (n : Nat) (c : DmaChan) : (s.setDma n c).saf = s.saf := rfl
@[simp] theorem State.setDma_pair (n : Nat) (c : DmaChan) : (s.setDma n c).pair = s.pair := rfl
@[simp] theorem State.setDma_evr (n : Nat) (c : DmaChan) : (s.setDma n c).evr = s.evr := rfl
@[simp] theorem State.setDma_boot (n : Nat) (c : DmaChan) : (s.setDma n c).boot = s.boot := rfl
@[simp] theorem State.setDma_out (n : Nat) (c : DmaChan) : (s.setDma n c).out = s.out := rfl
@[simp] theorem State.setDma_health (n : Nat) (c : DmaChan) : (s.setDma n c).health = s.health := rfl

/-! ### markBank -/

@[simp] theorem State.markBank_pending (b t : Nat) : (s.markBank b t).pending = s.pending := rfl
@[simp] theorem State.markBank_clk (b t : Nat) : (s.markBank b t).clk = s.clk := rfl
@[simp] theorem State.markBank_free (b t : Nat) : (s.markBank b t).free = s.free := rfl
@[simp] theorem State.markBank_now (b t : Nat) : (s.markBank b t).now = s.now := rfl
@[simp] theorem State.markBank_regs (b t : Nat) : (s.markBank b t).regs = s.regs := rfl
@[simp] theorem State.markBank_priv (b t : Nat) : (s.markBank b t).priv = s.priv := rfl
@[simp] theorem State.markBank_latches (b t : Nat) : (s.markBank b t).latches = s.latches := rfl
@[simp] theorem State.markBank_engs (b t : Nat) : (s.markBank b t).engs = s.engs := rfl
@[simp] theorem State.markBank_sched (b t : Nat) : (s.markBank b t).sched = s.sched := rfl
@[simp] theorem State.markBank_tb (b t : Nat) : (s.markBank b t).tb = s.tb := rfl
@[simp] theorem State.markBank_wave (b t : Nat) : (s.markBank b t).wave = s.wave := rfl
@[simp] theorem State.markBank_mains (b t : Nat) : (s.markBank b t).mains = s.mains := rfl
@[simp] theorem State.markBank_sol (b t : Nat) : (s.markBank b t).sol = s.sol := rfl
@[simp] theorem State.markBank_opt (b t : Nat) : (s.markBank b t).opt = s.opt := rfl
@[simp] theorem State.markBank_lpe (b t : Nat) : (s.markBank b t).lpe = s.lpe := rfl
@[simp] theorem State.markBank_field (b t : Nat) : (s.markBank b t).field = s.field := rfl
@[simp] theorem State.markBank_gnb (b t : Nat) : (s.markBank b t).gnb = s.gnb := rfl
@[simp] theorem State.markBank_dfc (b t : Nat) : (s.markBank b t).dfc = s.dfc := rfl
@[simp] theorem State.markBank_enc (b t : Nat) : (s.markBank b t).enc = s.enc := rfl
@[simp] theorem State.markBank_ser (b t : Nat) : (s.markBank b t).ser = s.ser := rfl
@[simp] theorem State.markBank_can (b t : Nat) : (s.markBank b t).can = s.can := rfl
@[simp] theorem State.markBank_fus (b t : Nat) : (s.markBank b t).fus = s.fus := rfl
@[simp] theorem State.markBank_eth (b t : Nat) : (s.markBank b t).eth = s.eth := rfl
@[simp] theorem State.markBank_saf (b t : Nat) : (s.markBank b t).saf = s.saf := rfl
@[simp] theorem State.markBank_pair (b t : Nat) : (s.markBank b t).pair = s.pair := rfl
@[simp] theorem State.markBank_evr (b t : Nat) : (s.markBank b t).evr = s.evr := rfl
@[simp] theorem State.markBank_boot (b t : Nat) : (s.markBank b t).boot = s.boot := rfl
@[simp] theorem State.markBank_out (b t : Nat) : (s.markBank b t).out = s.out := rfl
@[simp] theorem State.markBank_health (b t : Nat) : (s.markBank b t).health = s.health := rfl

/-! ### unmarkTag -/

@[simp] theorem State.unmarkTag_pending (t : Nat) : (s.unmarkTag t).pending = s.pending := rfl
@[simp] theorem State.unmarkTag_clk (t : Nat) : (s.unmarkTag t).clk = s.clk := rfl
@[simp] theorem State.unmarkTag_free (t : Nat) : (s.unmarkTag t).free = s.free := rfl
@[simp] theorem State.unmarkTag_now (t : Nat) : (s.unmarkTag t).now = s.now := rfl
@[simp] theorem State.unmarkTag_regs (t : Nat) : (s.unmarkTag t).regs = s.regs := rfl
@[simp] theorem State.unmarkTag_priv (t : Nat) : (s.unmarkTag t).priv = s.priv := rfl
@[simp] theorem State.unmarkTag_latches (t : Nat) : (s.unmarkTag t).latches = s.latches := rfl
@[simp] theorem State.unmarkTag_engs (t : Nat) : (s.unmarkTag t).engs = s.engs := rfl
@[simp] theorem State.unmarkTag_sched (t : Nat) : (s.unmarkTag t).sched = s.sched := rfl
@[simp] theorem State.unmarkTag_tb (t : Nat) : (s.unmarkTag t).tb = s.tb := rfl
@[simp] theorem State.unmarkTag_wave (t : Nat) : (s.unmarkTag t).wave = s.wave := rfl
@[simp] theorem State.unmarkTag_mains (t : Nat) : (s.unmarkTag t).mains = s.mains := rfl
@[simp] theorem State.unmarkTag_sol (t : Nat) : (s.unmarkTag t).sol = s.sol := rfl
@[simp] theorem State.unmarkTag_opt (t : Nat) : (s.unmarkTag t).opt = s.opt := rfl
@[simp] theorem State.unmarkTag_lpe (t : Nat) : (s.unmarkTag t).lpe = s.lpe := rfl
@[simp] theorem State.unmarkTag_field (t : Nat) : (s.unmarkTag t).field = s.field := rfl
@[simp] theorem State.unmarkTag_gnb (t : Nat) : (s.unmarkTag t).gnb = s.gnb := rfl
@[simp] theorem State.unmarkTag_dfc (t : Nat) : (s.unmarkTag t).dfc = s.dfc := rfl
@[simp] theorem State.unmarkTag_enc (t : Nat) : (s.unmarkTag t).enc = s.enc := rfl
@[simp] theorem State.unmarkTag_ser (t : Nat) : (s.unmarkTag t).ser = s.ser := rfl
@[simp] theorem State.unmarkTag_can (t : Nat) : (s.unmarkTag t).can = s.can := rfl
@[simp] theorem State.unmarkTag_fus (t : Nat) : (s.unmarkTag t).fus = s.fus := rfl
@[simp] theorem State.unmarkTag_eth (t : Nat) : (s.unmarkTag t).eth = s.eth := rfl
@[simp] theorem State.unmarkTag_saf (t : Nat) : (s.unmarkTag t).saf = s.saf := rfl
@[simp] theorem State.unmarkTag_pair (t : Nat) : (s.unmarkTag t).pair = s.pair := rfl
@[simp] theorem State.unmarkTag_evr (t : Nat) : (s.unmarkTag t).evr = s.evr := rfl
@[simp] theorem State.unmarkTag_boot (t : Nat) : (s.unmarkTag t).boot = s.boot := rfl
@[simp] theorem State.unmarkTag_out (t : Nat) : (s.unmarkTag t).out = s.out := rfl
@[simp] theorem State.unmarkTag_health (t : Nat) : (s.unmarkTag t).health = s.health := rfl

/-! ### produce -/

@[simp] theorem State.produce_pending (c i : Nat) (el : List Word) : (s.produce c i el).pending = s.pending := rfl
@[simp] theorem State.produce_clk (c i : Nat) (el : List Word) : (s.produce c i el).clk = s.clk := rfl
@[simp] theorem State.produce_free (c i : Nat) (el : List Word) : (s.produce c i el).free = s.free := rfl
@[simp] theorem State.produce_now (c i : Nat) (el : List Word) : (s.produce c i el).now = s.now := rfl
@[simp] theorem State.produce_regs (c i : Nat) (el : List Word) : (s.produce c i el).regs = s.regs := rfl
@[simp] theorem State.produce_priv (c i : Nat) (el : List Word) : (s.produce c i el).priv = s.priv := rfl
@[simp] theorem State.produce_latches (c i : Nat) (el : List Word) : (s.produce c i el).latches = s.latches := rfl
@[simp] theorem State.produce_engs (c i : Nat) (el : List Word) : (s.produce c i el).engs = s.engs := rfl
@[simp] theorem State.produce_sched (c i : Nat) (el : List Word) : (s.produce c i el).sched = s.sched := rfl
@[simp] theorem State.produce_tb (c i : Nat) (el : List Word) : (s.produce c i el).tb = s.tb := rfl
@[simp] theorem State.produce_wave (c i : Nat) (el : List Word) : (s.produce c i el).wave = s.wave := rfl
@[simp] theorem State.produce_mains (c i : Nat) (el : List Word) : (s.produce c i el).mains = s.mains := rfl
@[simp] theorem State.produce_sol (c i : Nat) (el : List Word) : (s.produce c i el).sol = s.sol := rfl
@[simp] theorem State.produce_opt (c i : Nat) (el : List Word) : (s.produce c i el).opt = s.opt := rfl
@[simp] theorem State.produce_lpe (c i : Nat) (el : List Word) : (s.produce c i el).lpe = s.lpe := rfl
@[simp] theorem State.produce_field (c i : Nat) (el : List Word) : (s.produce c i el).field = s.field := rfl
@[simp] theorem State.produce_gnb (c i : Nat) (el : List Word) : (s.produce c i el).gnb = s.gnb := rfl
@[simp] theorem State.produce_dfc (c i : Nat) (el : List Word) : (s.produce c i el).dfc = s.dfc := rfl
@[simp] theorem State.produce_enc (c i : Nat) (el : List Word) : (s.produce c i el).enc = s.enc := rfl
@[simp] theorem State.produce_ser (c i : Nat) (el : List Word) : (s.produce c i el).ser = s.ser := rfl
@[simp] theorem State.produce_can (c i : Nat) (el : List Word) : (s.produce c i el).can = s.can := rfl
@[simp] theorem State.produce_fus (c i : Nat) (el : List Word) : (s.produce c i el).fus = s.fus := rfl
@[simp] theorem State.produce_eth (c i : Nat) (el : List Word) : (s.produce c i el).eth = s.eth := rfl
@[simp] theorem State.produce_saf (c i : Nat) (el : List Word) : (s.produce c i el).saf = s.saf := rfl
@[simp] theorem State.produce_pair (c i : Nat) (el : List Word) : (s.produce c i el).pair = s.pair := rfl
@[simp] theorem State.produce_evr (c i : Nat) (el : List Word) : (s.produce c i el).evr = s.evr := rfl
@[simp] theorem State.produce_boot (c i : Nat) (el : List Word) : (s.produce c i el).boot = s.boot := rfl
@[simp] theorem State.produce_out (c i : Nat) (el : List Word) : (s.produce c i el).out = s.out := rfl
@[simp] theorem State.produce_health (c i : Nat) (el : List Word) : (s.produce c i el).health = s.health := rfl

/-! ### updNow -/

@[simp] theorem State.updNow_pending (f : Timing → Timing) : (s.updNow f).pending = s.pending := rfl
@[simp] theorem State.updNow_clk (f : Timing → Timing) : (s.updNow f).clk = s.clk := rfl
@[simp] theorem State.updNow_free (f : Timing → Timing) : (s.updNow f).free = s.free := rfl
@[simp] theorem State.updNow_now (f : Timing → Timing) : (s.updNow f).now = f s.now := rfl
@[simp] theorem State.updNow_regs (f : Timing → Timing) : (s.updNow f).regs = s.regs := rfl
@[simp] theorem State.updNow_priv (f : Timing → Timing) : (s.updNow f).priv = s.priv := rfl
@[simp] theorem State.updNow_latches (f : Timing → Timing) : (s.updNow f).latches = s.latches := rfl
@[simp] theorem State.updNow_engs (f : Timing → Timing) : (s.updNow f).engs = s.engs := rfl
@[simp] theorem State.updNow_sched (f : Timing → Timing) : (s.updNow f).sched = s.sched := rfl
@[simp] theorem State.updNow_tb (f : Timing → Timing) : (s.updNow f).tb = s.tb := rfl
@[simp] theorem State.updNow_wave (f : Timing → Timing) : (s.updNow f).wave = s.wave := rfl
@[simp] theorem State.updNow_mains (f : Timing → Timing) : (s.updNow f).mains = s.mains := rfl
@[simp] theorem State.updNow_banks (f : Timing → Timing) : (s.updNow f).banks = s.banks := rfl
@[simp] theorem State.updNow_sol (f : Timing → Timing) : (s.updNow f).sol = s.sol := rfl
@[simp] theorem State.updNow_opt (f : Timing → Timing) : (s.updNow f).opt = s.opt := rfl
@[simp] theorem State.updNow_lpe (f : Timing → Timing) : (s.updNow f).lpe = s.lpe := rfl
@[simp] theorem State.updNow_field (f : Timing → Timing) : (s.updNow f).field = s.field := rfl
@[simp] theorem State.updNow_gnb (f : Timing → Timing) : (s.updNow f).gnb = s.gnb := rfl
@[simp] theorem State.updNow_dfc (f : Timing → Timing) : (s.updNow f).dfc = s.dfc := rfl
@[simp] theorem State.updNow_enc (f : Timing → Timing) : (s.updNow f).enc = s.enc := rfl
@[simp] theorem State.updNow_ser (f : Timing → Timing) : (s.updNow f).ser = s.ser := rfl
@[simp] theorem State.updNow_can (f : Timing → Timing) : (s.updNow f).can = s.can := rfl
@[simp] theorem State.updNow_fus (f : Timing → Timing) : (s.updNow f).fus = s.fus := rfl
@[simp] theorem State.updNow_eth (f : Timing → Timing) : (s.updNow f).eth = s.eth := rfl
@[simp] theorem State.updNow_saf (f : Timing → Timing) : (s.updNow f).saf = s.saf := rfl
@[simp] theorem State.updNow_pair (f : Timing → Timing) : (s.updNow f).pair = s.pair := rfl
@[simp] theorem State.updNow_evr (f : Timing → Timing) : (s.updNow f).evr = s.evr := rfl
@[simp] theorem State.updNow_boot (f : Timing → Timing) : (s.updNow f).boot = s.boot := rfl
@[simp] theorem State.updNow_out (f : Timing → Timing) : (s.updNow f).out = s.out := rfl
@[simp] theorem State.updNow_health (f : Timing → Timing) : (s.updNow f).health = s.health := rfl

/-! ### acting -/

@[simp] theorem State.acting_pending (k : Nat) : (s.acting k).pending = s.pending := rfl
@[simp] theorem State.acting_clk (k : Nat) : (s.acting k).clk = s.clk := rfl
@[simp] theorem State.acting_free (k : Nat) : (s.acting k).free = s.free := rfl
@[simp] theorem State.acting_now (k : Nat) : (s.acting k).now = { s.now with acted := (s.clk, k) } := rfl
@[simp] theorem State.acting_regs (k : Nat) : (s.acting k).regs = s.regs := rfl
@[simp] theorem State.acting_priv (k : Nat) : (s.acting k).priv = s.priv := rfl
@[simp] theorem State.acting_latches (k : Nat) : (s.acting k).latches = s.latches := rfl
@[simp] theorem State.acting_engs (k : Nat) : (s.acting k).engs = s.engs := rfl
@[simp] theorem State.acting_sched (k : Nat) : (s.acting k).sched = s.sched := rfl
@[simp] theorem State.acting_tb (k : Nat) : (s.acting k).tb = s.tb := rfl
@[simp] theorem State.acting_wave (k : Nat) : (s.acting k).wave = s.wave := rfl
@[simp] theorem State.acting_mains (k : Nat) : (s.acting k).mains = s.mains := rfl
@[simp] theorem State.acting_banks (k : Nat) : (s.acting k).banks = s.banks := rfl
@[simp] theorem State.acting_sol (k : Nat) : (s.acting k).sol = s.sol := rfl
@[simp] theorem State.acting_opt (k : Nat) : (s.acting k).opt = s.opt := rfl
@[simp] theorem State.acting_lpe (k : Nat) : (s.acting k).lpe = s.lpe := rfl
@[simp] theorem State.acting_field (k : Nat) : (s.acting k).field = s.field := rfl
@[simp] theorem State.acting_gnb (k : Nat) : (s.acting k).gnb = s.gnb := rfl
@[simp] theorem State.acting_dfc (k : Nat) : (s.acting k).dfc = s.dfc := rfl
@[simp] theorem State.acting_enc (k : Nat) : (s.acting k).enc = s.enc := rfl
@[simp] theorem State.acting_ser (k : Nat) : (s.acting k).ser = s.ser := rfl
@[simp] theorem State.acting_can (k : Nat) : (s.acting k).can = s.can := rfl
@[simp] theorem State.acting_fus (k : Nat) : (s.acting k).fus = s.fus := rfl
@[simp] theorem State.acting_eth (k : Nat) : (s.acting k).eth = s.eth := rfl
@[simp] theorem State.acting_saf (k : Nat) : (s.acting k).saf = s.saf := rfl
@[simp] theorem State.acting_pair (k : Nat) : (s.acting k).pair = s.pair := rfl
@[simp] theorem State.acting_evr (k : Nat) : (s.acting k).evr = s.evr := rfl
@[simp] theorem State.acting_boot (k : Nat) : (s.acting k).boot = s.boot := rfl
@[simp] theorem State.acting_out (k : Nat) : (s.acting k).out = s.out := rfl
@[simp] theorem State.acting_health (k : Nat) : (s.acting k).health = s.health := rfl

/-! ### orBits -/

@[simp] theorem State.orBits_pending (a : Nat) (m : Word) : (s.orBits a m).pending = s.pending := rfl
@[simp] theorem State.orBits_clk (a : Nat) (m : Word) : (s.orBits a m).clk = s.clk := rfl
@[simp] theorem State.orBits_free (a : Nat) (m : Word) : (s.orBits a m).free = s.free := rfl
@[simp] theorem State.orBits_regs (a : Nat) (m : Word) : (s.orBits a m).regs = mput s.regs a (s.reg a ||| m) := rfl
@[simp] theorem State.orBits_priv (a : Nat) (m : Word) : (s.orBits a m).priv = s.priv := rfl
@[simp] theorem State.orBits_latches (a : Nat) (m : Word) : (s.orBits a m).latches = s.latches := rfl
@[simp] theorem State.orBits_engs (a : Nat) (m : Word) : (s.orBits a m).engs = s.engs := rfl
@[simp] theorem State.orBits_sched (a : Nat) (m : Word) : (s.orBits a m).sched = s.sched := rfl
@[simp] theorem State.orBits_tb (a : Nat) (m : Word) : (s.orBits a m).tb = s.tb := rfl
@[simp] theorem State.orBits_wave (a : Nat) (m : Word) : (s.orBits a m).wave = s.wave := rfl
@[simp] theorem State.orBits_mains (a : Nat) (m : Word) : (s.orBits a m).mains = s.mains := rfl
@[simp] theorem State.orBits_banks (a : Nat) (m : Word) : (s.orBits a m).banks = s.banks := rfl
@[simp] theorem State.orBits_sol (a : Nat) (m : Word) : (s.orBits a m).sol = s.sol := rfl
@[simp] theorem State.orBits_opt (a : Nat) (m : Word) : (s.orBits a m).opt = s.opt := rfl
@[simp] theorem State.orBits_lpe (a : Nat) (m : Word) : (s.orBits a m).lpe = s.lpe := rfl
@[simp] theorem State.orBits_field (a : Nat) (m : Word) : (s.orBits a m).field = s.field := rfl
@[simp] theorem State.orBits_gnb (a : Nat) (m : Word) : (s.orBits a m).gnb = s.gnb := rfl
@[simp] theorem State.orBits_dfc (a : Nat) (m : Word) : (s.orBits a m).dfc = s.dfc := rfl
@[simp] theorem State.orBits_enc (a : Nat) (m : Word) : (s.orBits a m).enc = s.enc := rfl
@[simp] theorem State.orBits_ser (a : Nat) (m : Word) : (s.orBits a m).ser = s.ser := rfl
@[simp] theorem State.orBits_can (a : Nat) (m : Word) : (s.orBits a m).can = s.can := rfl
@[simp] theorem State.orBits_fus (a : Nat) (m : Word) : (s.orBits a m).fus = s.fus := rfl
@[simp] theorem State.orBits_eth (a : Nat) (m : Word) : (s.orBits a m).eth = s.eth := rfl
@[simp] theorem State.orBits_saf (a : Nat) (m : Word) : (s.orBits a m).saf = s.saf := rfl
@[simp] theorem State.orBits_pair (a : Nat) (m : Word) : (s.orBits a m).pair = s.pair := rfl
@[simp] theorem State.orBits_evr (a : Nat) (m : Word) : (s.orBits a m).evr = s.evr := rfl
@[simp] theorem State.orBits_boot (a : Nat) (m : Word) : (s.orBits a m).boot = s.boot := rfl
@[simp] theorem State.orBits_out (a : Nat) (m : Word) : (s.orBits a m).out = s.out := rfl
@[simp] theorem State.orBits_health (a : Nat) (m : Word) : (s.orBits a m).health = s.health := rfl

/-! ### Readers of the tables -/

theorem State.reg_setReg (a b : Nat) (v : Word) : (s.setReg a v).reg b = if b = a then v else s.reg b := by
  simp [State.reg, mgetD_mput]

@[simp] theorem State.reg_setReg_same (a : Nat) (v : Word) : (s.setReg a v).reg a = v := by simp [State.reg_setReg]

theorem State.reg_setReg_ne {a b : Nat} (v : Word) (h : b ≠ a) : (s.setReg a v).reg b = s.reg b := by simp [State.reg_setReg, h]

theorem State.reg_orBits (a b : Nat) (m : Word) : (s.orBits a m).reg b = if b = a then s.reg a ||| m else s.reg b := by
  show (s.setReg a (s.reg a ||| m)).reg b = _
  exact State.reg_setReg s a b _

theorem State.reg_orBits_ne {a b : Nat} (m : Word) (h : b ≠ a) : (s.orBits a m).reg b = s.reg b := by simp [State.reg_orBits, h]

theorem State.eng_setEng (e q : Nat) (x : Engine) : (s.setEng e x).eng q = if q = e then x else s.eng q := by
  simp [State.eng, mgetD_mput]

@[simp] theorem State.eng_setEng_same (e : Nat) (x : Engine) : (s.setEng e x).eng e = x := by simp [State.eng_setEng]

@[simp] theorem State.eng_updEng_same (e : Nat) (f : Engine → Engine) : (s.updEng e f).eng e = f (s.eng e) := by
  simp [State.updEng]

theorem State.eng_updEng_ne {e q : Nat} (f : Engine → Engine) (h : q ≠ e) : (s.updEng e f).eng q = s.eng q := by
  simp [State.updEng, State.eng_setEng, h]

theorem State.group_updGroup (g q : Nat) (f : Group → Group) :
    (s.updGroup g f).group q = if q = g then f (s.group g) else s.group q := by
  simp [State.updGroup, State.group, mgetD_mput]

@[simp] theorem State.group_updGroup_same (g : Nat) (f : Group → Group) : (s.updGroup g f).group g = f (s.group g) := by
  simp [State.group_updGroup]

theorem State.counts_updCounts (c q : Nat) (f : ClauseCounts → ClauseCounts) :
    (s.updCounts c f).counts q = if q = c then f (s.counts c) else s.counts q := by
  simp [State.updCounts, State.counts, mgetD_mput]

theorem State.axis_updAxis (n q : Nat) (f : Axis → Axis) :
    (s.updAxis n f).axis q = if q = n then f (s.axis n) else s.axis q := by
  simp [State.updAxis, State.axis, mgetD_mput]

theorem State.owner_setOwner (b q o : Nat) : (s.setOwner b o).owner q = if q = b then o else s.owner q := by
  simp [State.setOwner, State.owner, mgetD_mput]

/-! ### Readers under updates of other fields -/

@[simp] theorem State.reg_setPreg (q : Nat) (p a : Nat) (v : Word) : (s.setPreg p a v).reg q = s.reg q := rfl
@[simp] theorem State.reg_setEng (q : Nat) (e : Nat) (x : Engine) : (s.setEng e x).reg q = s.reg q := rfl
@[simp] theorem State.reg_updEng (q : Nat) (e : Nat) (f : Engine → Engine) : (s.updEng e f).reg q = s.reg q := rfl
@[simp] theorem State.reg_emit (q : Nat) (o : OutItem) : (s.emit o).reg q = s.reg q := rfl
@[simp] theorem State.reg_setOwner (q : Nat) (b o : Nat) : (s.setOwner b o).reg q = s.reg q := rfl
@[simp] theorem State.reg_touch (q : Nat) (b : Nat) : (s.touch b).reg q = s.reg q := rfl
@[simp] theorem State.reg_storeBytes (q : Nat) (a : Nat) (bs : List Byte) : (s.storeBytes a bs).reg q = s.reg q := rfl
@[simp] theorem State.reg_updGroup (q : Nat) (g : Nat) (f : Group → Group) : (s.updGroup g f).reg q = s.reg q := rfl
@[simp] theorem State.reg_updCounts (q : Nat) (c : Nat) (f : ClauseCounts → ClauseCounts) : (s.updCounts c f).reg q = s.reg q := rfl
@[simp] theorem State.reg_updAxis (q : Nat) (n : Nat) (f : Axis → Axis) : (s.updAxis n f).reg q = s.reg q := rfl
@[simp] theorem State.reg_dropHealth (q : Nat) (h : HealthCause) : (s.dropHealth h).reg q = s.reg q := rfl
@[simp] theorem State.reg_setT (q : Nat) (t : Nat) : (s.setT t).reg q = s.reg q := rfl
@[simp] theorem State.reg_updPair (q : Nat) (f : Pair → Pair) : (s.updPair f).reg q = s.reg q := rfl
@[simp] theorem State.reg_updSched (q : Nat) (f : Sched → Sched) : (s.updSched f).reg q = s.reg q := rfl
@[simp] theorem State.reg_updEvr (q : Nat) (f : Evr → Evr) : (s.updEvr f).reg q = s.reg q := rfl
@[simp] theorem State.reg_updSaf (q : Nat) (f : Saf → Saf) : (s.updSaf f).reg q = s.reg q := rfl
@[simp] theorem State.reg_updOpt (q : Nat) (f : Sequencer → Sequencer) : (s.updOpt f).reg q = s.reg q := rfl
@[simp] theorem State.reg_updSol (q : Nat) (f : Solver → Solver) : (s.updSol f).reg q = s.reg q := rfl
@[simp] theorem State.reg_updBoot (q : Nat) (f : Boot → Boot) : (s.updBoot f).reg q = s.reg q := rfl
@[simp] theorem State.reg_updTb (q : Nat) (f : Timebase → Timebase) : (s.updTb f).reg q = s.reg q := rfl
@[simp] theorem State.reg_updField (q : Nat) (f : FieldIo → FieldIo) : (s.updField f).reg q = s.reg q := rfl
@[simp] theorem State.reg_updFus (q : Nat) (f : Fusion → Fusion) : (s.updFus f).reg q = s.reg q := rfl
@[simp] theorem State.reg_updGnb (q : Nat) (f : Gnb → Gnb) : (s.updGnb f).reg q = s.reg q := rfl
@[simp] theorem State.reg_updCan (q : Nat) (k : Nat) (f : CanChannel → CanChannel) : (s.updCan k f).reg q = s.reg q := rfl
@[simp] theorem State.reg_updEnc (q : Nat) (k : Nat) (f : EncChannel → EncChannel) : (s.updEnc k f).reg q = s.reg q := rfl
@[simp] theorem State.reg_updChain (q : Nat) (k : Nat) (f : Chain → Chain) : (s.updChain k f).reg q = s.reg q := rfl
@[simp] theorem State.reg_updTel (q : Nat) (k : Nat) (f : TelSlot → TelSlot) : (s.updTel k f).reg q = s.reg q := rfl
@[simp] theorem State.reg_updSlot (q : Nat) (k : Nat) (f : LoopSlot → LoopSlot) : (s.updSlot k f).reg q = s.reg q := rfl
@[simp] theorem State.reg_updSer (q : Nat) (k : Nat) (f : SerChannel → SerChannel) : (s.updSer k f).reg q = s.reg q := rfl
@[simp] theorem State.reg_setDma (q : Nat) (n : Nat) (c : DmaChan) : (s.setDma n c).reg q = s.reg q := rfl
@[simp] theorem State.reg_markBank (q : Nat) (b t : Nat) : (s.markBank b t).reg q = s.reg q := rfl
@[simp] theorem State.reg_unmarkTag (q : Nat) (t : Nat) : (s.unmarkTag t).reg q = s.reg q := rfl
@[simp] theorem State.reg_produce (q : Nat) (c i : Nat) (el : List Word) : (s.produce c i el).reg q = s.reg q := rfl
@[simp] theorem State.eng_setReg (q : Nat) (a : Nat) (v : Word) : (s.setReg a v).eng q = s.eng q := rfl
@[simp] theorem State.eng_setPreg (q : Nat) (p a : Nat) (v : Word) : (s.setPreg p a v).eng q = s.eng q := rfl
@[simp] theorem State.eng_emit (q : Nat) (o : OutItem) : (s.emit o).eng q = s.eng q := rfl
@[simp] theorem State.eng_setOwner (q : Nat) (b o : Nat) : (s.setOwner b o).eng q = s.eng q := rfl
@[simp] theorem State.eng_touch (q : Nat) (b : Nat) : (s.touch b).eng q = s.eng q := rfl
@[simp] theorem State.eng_storeBytes (q : Nat) (a : Nat) (bs : List Byte) : (s.storeBytes a bs).eng q = s.eng q := rfl
@[simp] theorem State.eng_updGroup (q : Nat) (g : Nat) (f : Group → Group) : (s.updGroup g f).eng q = s.eng q := rfl
@[simp] theorem State.eng_updCounts (q : Nat) (c : Nat) (f : ClauseCounts → ClauseCounts) : (s.updCounts c f).eng q = s.eng q := rfl
@[simp] theorem State.eng_updAxis (q : Nat) (n : Nat) (f : Axis → Axis) : (s.updAxis n f).eng q = s.eng q := rfl
@[simp] theorem State.eng_dropHealth (q : Nat) (h : HealthCause) : (s.dropHealth h).eng q = s.eng q := rfl
@[simp] theorem State.eng_setT (q : Nat) (t : Nat) : (s.setT t).eng q = s.eng q := rfl
@[simp] theorem State.eng_updPair (q : Nat) (f : Pair → Pair) : (s.updPair f).eng q = s.eng q := rfl
@[simp] theorem State.eng_updSched (q : Nat) (f : Sched → Sched) : (s.updSched f).eng q = s.eng q := rfl
@[simp] theorem State.eng_updEvr (q : Nat) (f : Evr → Evr) : (s.updEvr f).eng q = s.eng q := rfl
@[simp] theorem State.eng_updSaf (q : Nat) (f : Saf → Saf) : (s.updSaf f).eng q = s.eng q := rfl
@[simp] theorem State.eng_updOpt (q : Nat) (f : Sequencer → Sequencer) : (s.updOpt f).eng q = s.eng q := rfl
@[simp] theorem State.eng_updSol (q : Nat) (f : Solver → Solver) : (s.updSol f).eng q = s.eng q := rfl
@[simp] theorem State.eng_updBoot (q : Nat) (f : Boot → Boot) : (s.updBoot f).eng q = s.eng q := rfl
@[simp] theorem State.eng_updTb (q : Nat) (f : Timebase → Timebase) : (s.updTb f).eng q = s.eng q := rfl
@[simp] theorem State.eng_updField (q : Nat) (f : FieldIo → FieldIo) : (s.updField f).eng q = s.eng q := rfl
@[simp] theorem State.eng_updFus (q : Nat) (f : Fusion → Fusion) : (s.updFus f).eng q = s.eng q := rfl
@[simp] theorem State.eng_updGnb (q : Nat) (f : Gnb → Gnb) : (s.updGnb f).eng q = s.eng q := rfl
@[simp] theorem State.eng_updCan (q : Nat) (k : Nat) (f : CanChannel → CanChannel) : (s.updCan k f).eng q = s.eng q := rfl
@[simp] theorem State.eng_updEnc (q : Nat) (k : Nat) (f : EncChannel → EncChannel) : (s.updEnc k f).eng q = s.eng q := rfl
@[simp] theorem State.eng_updChain (q : Nat) (k : Nat) (f : Chain → Chain) : (s.updChain k f).eng q = s.eng q := rfl
@[simp] theorem State.eng_updTel (q : Nat) (k : Nat) (f : TelSlot → TelSlot) : (s.updTel k f).eng q = s.eng q := rfl
@[simp] theorem State.eng_updSlot (q : Nat) (k : Nat) (f : LoopSlot → LoopSlot) : (s.updSlot k f).eng q = s.eng q := rfl
@[simp] theorem State.eng_updSer (q : Nat) (k : Nat) (f : SerChannel → SerChannel) : (s.updSer k f).eng q = s.eng q := rfl
@[simp] theorem State.eng_setDma (q : Nat) (n : Nat) (c : DmaChan) : (s.setDma n c).eng q = s.eng q := rfl
@[simp] theorem State.eng_markBank (q : Nat) (b t : Nat) : (s.markBank b t).eng q = s.eng q := rfl
@[simp] theorem State.eng_unmarkTag (q : Nat) (t : Nat) : (s.unmarkTag t).eng q = s.eng q := rfl
@[simp] theorem State.eng_produce (q : Nat) (c i : Nat) (el : List Word) : (s.produce c i el).eng q = s.eng q := rfl
@[simp] theorem State.group_setReg (q : Nat) (a : Nat) (v : Word) : (s.setReg a v).group q = s.group q := rfl
@[simp] theorem State.group_setPreg (q : Nat) (p a : Nat) (v : Word) : (s.setPreg p a v).group q = s.group q := rfl
@[simp] theorem State.group_setEng (q : Nat) (e : Nat) (x : Engine) : (s.setEng e x).group q = s.group q := rfl
@[simp] theorem State.group_updEng (q : Nat) (e : Nat) (f : Engine → Engine) : (s.updEng e f).group q = s.group q := rfl
@[simp] theorem State.group_emit (q : Nat) (o : OutItem) : (s.emit o).group q = s.group q := rfl
@[simp] theorem State.group_setOwner (q : Nat) (b o : Nat) : (s.setOwner b o).group q = s.group q := rfl
@[simp] theorem State.group_touch (q : Nat) (b : Nat) : (s.touch b).group q = s.group q := rfl
@[simp] theorem State.group_storeBytes (q : Nat) (a : Nat) (bs : List Byte) : (s.storeBytes a bs).group q = s.group q := rfl
@[simp] theorem State.group_dropHealth (q : Nat) (h : HealthCause) : (s.dropHealth h).group q = s.group q := rfl
@[simp] theorem State.group_setT (q : Nat) (t : Nat) : (s.setT t).group q = s.group q := rfl
@[simp] theorem State.group_updPair (q : Nat) (f : Pair → Pair) : (s.updPair f).group q = s.group q := rfl
@[simp] theorem State.group_updEvr (q : Nat) (f : Evr → Evr) : (s.updEvr f).group q = s.group q := rfl
@[simp] theorem State.group_updSaf (q : Nat) (f : Saf → Saf) : (s.updSaf f).group q = s.group q := rfl
@[simp] theorem State.group_updOpt (q : Nat) (f : Sequencer → Sequencer) : (s.updOpt f).group q = s.group q := rfl
@[simp] theorem State.group_updSol (q : Nat) (f : Solver → Solver) : (s.updSol f).group q = s.group q := rfl
@[simp] theorem State.group_updBoot (q : Nat) (f : Boot → Boot) : (s.updBoot f).group q = s.group q := rfl
@[simp] theorem State.group_updTb (q : Nat) (f : Timebase → Timebase) : (s.updTb f).group q = s.group q := rfl
@[simp] theorem State.group_updField (q : Nat) (f : FieldIo → FieldIo) : (s.updField f).group q = s.group q := rfl
@[simp] theorem State.group_updFus (q : Nat) (f : Fusion → Fusion) : (s.updFus f).group q = s.group q := rfl
@[simp] theorem State.group_updGnb (q : Nat) (f : Gnb → Gnb) : (s.updGnb f).group q = s.group q := rfl
@[simp] theorem State.group_updCan (q : Nat) (k : Nat) (f : CanChannel → CanChannel) : (s.updCan k f).group q = s.group q := rfl
@[simp] theorem State.group_updEnc (q : Nat) (k : Nat) (f : EncChannel → EncChannel) : (s.updEnc k f).group q = s.group q := rfl
@[simp] theorem State.group_updChain (q : Nat) (k : Nat) (f : Chain → Chain) : (s.updChain k f).group q = s.group q := rfl
@[simp] theorem State.group_updTel (q : Nat) (k : Nat) (f : TelSlot → TelSlot) : (s.updTel k f).group q = s.group q := rfl
@[simp] theorem State.group_updSlot (q : Nat) (k : Nat) (f : LoopSlot → LoopSlot) : (s.updSlot k f).group q = s.group q := rfl
@[simp] theorem State.group_updSer (q : Nat) (k : Nat) (f : SerChannel → SerChannel) : (s.updSer k f).group q = s.group q := rfl
@[simp] theorem State.group_setDma (q : Nat) (n : Nat) (c : DmaChan) : (s.setDma n c).group q = s.group q := rfl
@[simp] theorem State.group_markBank (q : Nat) (b t : Nat) : (s.markBank b t).group q = s.group q := rfl
@[simp] theorem State.group_unmarkTag (q : Nat) (t : Nat) : (s.unmarkTag t).group q = s.group q := rfl
@[simp] theorem State.group_produce (q : Nat) (c i : Nat) (el : List Word) : (s.produce c i el).group q = s.group q := rfl
@[simp] theorem State.counts_setReg (q : Nat) (a : Nat) (v : Word) : (s.setReg a v).counts q = s.counts q := rfl
@[simp] theorem State.counts_setPreg (q : Nat) (p a : Nat) (v : Word) : (s.setPreg p a v).counts q = s.counts q := rfl
@[simp] theorem State.counts_setEng (q : Nat) (e : Nat) (x : Engine) : (s.setEng e x).counts q = s.counts q := rfl
@[simp] theorem State.counts_updEng (q : Nat) (e : Nat) (f : Engine → Engine) : (s.updEng e f).counts q = s.counts q := rfl
@[simp] theorem State.counts_emit (q : Nat) (o : OutItem) : (s.emit o).counts q = s.counts q := rfl
@[simp] theorem State.counts_setOwner (q : Nat) (b o : Nat) : (s.setOwner b o).counts q = s.counts q := rfl
@[simp] theorem State.counts_touch (q : Nat) (b : Nat) : (s.touch b).counts q = s.counts q := rfl
@[simp] theorem State.counts_storeBytes (q : Nat) (a : Nat) (bs : List Byte) : (s.storeBytes a bs).counts q = s.counts q := rfl
@[simp] theorem State.counts_dropHealth (q : Nat) (h : HealthCause) : (s.dropHealth h).counts q = s.counts q := rfl
@[simp] theorem State.counts_setT (q : Nat) (t : Nat) : (s.setT t).counts q = s.counts q := rfl
@[simp] theorem State.counts_updPair (q : Nat) (f : Pair → Pair) : (s.updPair f).counts q = s.counts q := rfl
@[simp] theorem State.counts_updEvr (q : Nat) (f : Evr → Evr) : (s.updEvr f).counts q = s.counts q := rfl
@[simp] theorem State.counts_updSaf (q : Nat) (f : Saf → Saf) : (s.updSaf f).counts q = s.counts q := rfl
@[simp] theorem State.counts_updOpt (q : Nat) (f : Sequencer → Sequencer) : (s.updOpt f).counts q = s.counts q := rfl
@[simp] theorem State.counts_updSol (q : Nat) (f : Solver → Solver) : (s.updSol f).counts q = s.counts q := rfl
@[simp] theorem State.counts_updBoot (q : Nat) (f : Boot → Boot) : (s.updBoot f).counts q = s.counts q := rfl
@[simp] theorem State.counts_updTb (q : Nat) (f : Timebase → Timebase) : (s.updTb f).counts q = s.counts q := rfl
@[simp] theorem State.counts_updField (q : Nat) (f : FieldIo → FieldIo) : (s.updField f).counts q = s.counts q := rfl
@[simp] theorem State.counts_updFus (q : Nat) (f : Fusion → Fusion) : (s.updFus f).counts q = s.counts q := rfl
@[simp] theorem State.counts_updGnb (q : Nat) (f : Gnb → Gnb) : (s.updGnb f).counts q = s.counts q := rfl
@[simp] theorem State.counts_updCan (q : Nat) (k : Nat) (f : CanChannel → CanChannel) : (s.updCan k f).counts q = s.counts q := rfl
@[simp] theorem State.counts_updEnc (q : Nat) (k : Nat) (f : EncChannel → EncChannel) : (s.updEnc k f).counts q = s.counts q := rfl
@[simp] theorem State.counts_updChain (q : Nat) (k : Nat) (f : Chain → Chain) : (s.updChain k f).counts q = s.counts q := rfl
@[simp] theorem State.counts_updTel (q : Nat) (k : Nat) (f : TelSlot → TelSlot) : (s.updTel k f).counts q = s.counts q := rfl
@[simp] theorem State.counts_updSlot (q : Nat) (k : Nat) (f : LoopSlot → LoopSlot) : (s.updSlot k f).counts q = s.counts q := rfl
@[simp] theorem State.counts_updSer (q : Nat) (k : Nat) (f : SerChannel → SerChannel) : (s.updSer k f).counts q = s.counts q := rfl
@[simp] theorem State.counts_setDma (q : Nat) (n : Nat) (c : DmaChan) : (s.setDma n c).counts q = s.counts q := rfl
@[simp] theorem State.counts_markBank (q : Nat) (b t : Nat) : (s.markBank b t).counts q = s.counts q := rfl
@[simp] theorem State.counts_unmarkTag (q : Nat) (t : Nat) : (s.unmarkTag t).counts q = s.counts q := rfl
@[simp] theorem State.counts_produce (q : Nat) (c i : Nat) (el : List Word) : (s.produce c i el).counts q = s.counts q := rfl
@[simp] theorem State.axis_setReg (q : Nat) (a : Nat) (v : Word) : (s.setReg a v).axis q = s.axis q := rfl
@[simp] theorem State.axis_setPreg (q : Nat) (p a : Nat) (v : Word) : (s.setPreg p a v).axis q = s.axis q := rfl
@[simp] theorem State.axis_setEng (q : Nat) (e : Nat) (x : Engine) : (s.setEng e x).axis q = s.axis q := rfl
@[simp] theorem State.axis_updEng (q : Nat) (e : Nat) (f : Engine → Engine) : (s.updEng e f).axis q = s.axis q := rfl
@[simp] theorem State.axis_emit (q : Nat) (o : OutItem) : (s.emit o).axis q = s.axis q := rfl
@[simp] theorem State.axis_setOwner (q : Nat) (b o : Nat) : (s.setOwner b o).axis q = s.axis q := rfl
@[simp] theorem State.axis_touch (q : Nat) (b : Nat) : (s.touch b).axis q = s.axis q := rfl
@[simp] theorem State.axis_storeBytes (q : Nat) (a : Nat) (bs : List Byte) : (s.storeBytes a bs).axis q = s.axis q := rfl
@[simp] theorem State.axis_dropHealth (q : Nat) (h : HealthCause) : (s.dropHealth h).axis q = s.axis q := rfl
@[simp] theorem State.axis_setT (q : Nat) (t : Nat) : (s.setT t).axis q = s.axis q := rfl
@[simp] theorem State.axis_updPair (q : Nat) (f : Pair → Pair) : (s.updPair f).axis q = s.axis q := rfl
@[simp] theorem State.axis_updEvr (q : Nat) (f : Evr → Evr) : (s.updEvr f).axis q = s.axis q := rfl
@[simp] theorem State.axis_updSaf (q : Nat) (f : Saf → Saf) : (s.updSaf f).axis q = s.axis q := rfl
@[simp] theorem State.axis_updOpt (q : Nat) (f : Sequencer → Sequencer) : (s.updOpt f).axis q = s.axis q := rfl
@[simp] theorem State.axis_updSol (q : Nat) (f : Solver → Solver) : (s.updSol f).axis q = s.axis q := rfl
@[simp] theorem State.axis_updBoot (q : Nat) (f : Boot → Boot) : (s.updBoot f).axis q = s.axis q := rfl
@[simp] theorem State.axis_updTb (q : Nat) (f : Timebase → Timebase) : (s.updTb f).axis q = s.axis q := rfl
@[simp] theorem State.axis_updField (q : Nat) (f : FieldIo → FieldIo) : (s.updField f).axis q = s.axis q := rfl
@[simp] theorem State.axis_updFus (q : Nat) (f : Fusion → Fusion) : (s.updFus f).axis q = s.axis q := rfl
@[simp] theorem State.axis_updGnb (q : Nat) (f : Gnb → Gnb) : (s.updGnb f).axis q = s.axis q := rfl
@[simp] theorem State.axis_updCan (q : Nat) (k : Nat) (f : CanChannel → CanChannel) : (s.updCan k f).axis q = s.axis q := rfl
@[simp] theorem State.axis_updEnc (q : Nat) (k : Nat) (f : EncChannel → EncChannel) : (s.updEnc k f).axis q = s.axis q := rfl
@[simp] theorem State.axis_updChain (q : Nat) (k : Nat) (f : Chain → Chain) : (s.updChain k f).axis q = s.axis q := rfl
@[simp] theorem State.axis_updTel (q : Nat) (k : Nat) (f : TelSlot → TelSlot) : (s.updTel k f).axis q = s.axis q := rfl
@[simp] theorem State.axis_updSlot (q : Nat) (k : Nat) (f : LoopSlot → LoopSlot) : (s.updSlot k f).axis q = s.axis q := rfl
@[simp] theorem State.axis_updSer (q : Nat) (k : Nat) (f : SerChannel → SerChannel) : (s.updSer k f).axis q = s.axis q := rfl
@[simp] theorem State.axis_setDma (q : Nat) (n : Nat) (c : DmaChan) : (s.setDma n c).axis q = s.axis q := rfl
@[simp] theorem State.axis_markBank (q : Nat) (b t : Nat) : (s.markBank b t).axis q = s.axis q := rfl
@[simp] theorem State.axis_unmarkTag (q : Nat) (t : Nat) : (s.unmarkTag t).axis q = s.axis q := rfl
@[simp] theorem State.axis_produce (q : Nat) (c i : Nat) (el : List Word) : (s.produce c i el).axis q = s.axis q := rfl
@[simp] theorem State.owner_setReg (q : Nat) (a : Nat) (v : Word) : (s.setReg a v).owner q = s.owner q := rfl
@[simp] theorem State.owner_setPreg (q : Nat) (p a : Nat) (v : Word) : (s.setPreg p a v).owner q = s.owner q := rfl
@[simp] theorem State.owner_setEng (q : Nat) (e : Nat) (x : Engine) : (s.setEng e x).owner q = s.owner q := rfl
@[simp] theorem State.owner_updEng (q : Nat) (e : Nat) (f : Engine → Engine) : (s.updEng e f).owner q = s.owner q := rfl
@[simp] theorem State.owner_emit (q : Nat) (o : OutItem) : (s.emit o).owner q = s.owner q := rfl
@[simp] theorem State.owner_updGroup (q : Nat) (g : Nat) (f : Group → Group) : (s.updGroup g f).owner q = s.owner q := rfl
@[simp] theorem State.owner_updCounts (q : Nat) (c : Nat) (f : ClauseCounts → ClauseCounts) : (s.updCounts c f).owner q = s.owner q := rfl
@[simp] theorem State.owner_updAxis (q : Nat) (n : Nat) (f : Axis → Axis) : (s.updAxis n f).owner q = s.owner q := rfl
@[simp] theorem State.owner_dropHealth (q : Nat) (h : HealthCause) : (s.dropHealth h).owner q = s.owner q := rfl
@[simp] theorem State.owner_setT (q : Nat) (t : Nat) : (s.setT t).owner q = s.owner q := rfl
@[simp] theorem State.owner_updPair (q : Nat) (f : Pair → Pair) : (s.updPair f).owner q = s.owner q := rfl
@[simp] theorem State.owner_updSched (q : Nat) (f : Sched → Sched) : (s.updSched f).owner q = s.owner q := rfl
@[simp] theorem State.owner_updEvr (q : Nat) (f : Evr → Evr) : (s.updEvr f).owner q = s.owner q := rfl
@[simp] theorem State.owner_updSaf (q : Nat) (f : Saf → Saf) : (s.updSaf f).owner q = s.owner q := rfl
@[simp] theorem State.owner_updOpt (q : Nat) (f : Sequencer → Sequencer) : (s.updOpt f).owner q = s.owner q := rfl
@[simp] theorem State.owner_updSol (q : Nat) (f : Solver → Solver) : (s.updSol f).owner q = s.owner q := rfl
@[simp] theorem State.owner_updBoot (q : Nat) (f : Boot → Boot) : (s.updBoot f).owner q = s.owner q := rfl
@[simp] theorem State.owner_updTb (q : Nat) (f : Timebase → Timebase) : (s.updTb f).owner q = s.owner q := rfl
@[simp] theorem State.owner_updField (q : Nat) (f : FieldIo → FieldIo) : (s.updField f).owner q = s.owner q := rfl
@[simp] theorem State.owner_updFus (q : Nat) (f : Fusion → Fusion) : (s.updFus f).owner q = s.owner q := rfl
@[simp] theorem State.owner_updGnb (q : Nat) (f : Gnb → Gnb) : (s.updGnb f).owner q = s.owner q := rfl
@[simp] theorem State.owner_updCan (q : Nat) (k : Nat) (f : CanChannel → CanChannel) : (s.updCan k f).owner q = s.owner q := rfl
@[simp] theorem State.owner_updEnc (q : Nat) (k : Nat) (f : EncChannel → EncChannel) : (s.updEnc k f).owner q = s.owner q := rfl
@[simp] theorem State.owner_updChain (q : Nat) (k : Nat) (f : Chain → Chain) : (s.updChain k f).owner q = s.owner q := rfl
@[simp] theorem State.owner_updTel (q : Nat) (k : Nat) (f : TelSlot → TelSlot) : (s.updTel k f).owner q = s.owner q := rfl
@[simp] theorem State.owner_updSlot (q : Nat) (k : Nat) (f : LoopSlot → LoopSlot) : (s.updSlot k f).owner q = s.owner q := rfl
@[simp] theorem State.owner_updSer (q : Nat) (k : Nat) (f : SerChannel → SerChannel) : (s.updSer k f).owner q = s.owner q := rfl
@[simp] theorem State.byteAt_setReg (q : Nat) (a : Nat) (v : Word) : (s.setReg a v).byteAt q = s.byteAt q := rfl
@[simp] theorem State.byteAt_setPreg (q : Nat) (p a : Nat) (v : Word) : (s.setPreg p a v).byteAt q = s.byteAt q := rfl
@[simp] theorem State.byteAt_setEng (q : Nat) (e : Nat) (x : Engine) : (s.setEng e x).byteAt q = s.byteAt q := rfl
@[simp] theorem State.byteAt_updEng (q : Nat) (e : Nat) (f : Engine → Engine) : (s.updEng e f).byteAt q = s.byteAt q := rfl
@[simp] theorem State.byteAt_emit (q : Nat) (o : OutItem) : (s.emit o).byteAt q = s.byteAt q := rfl
@[simp] theorem State.byteAt_updGroup (q : Nat) (g : Nat) (f : Group → Group) : (s.updGroup g f).byteAt q = s.byteAt q := rfl
@[simp] theorem State.byteAt_updCounts (q : Nat) (c : Nat) (f : ClauseCounts → ClauseCounts) : (s.updCounts c f).byteAt q = s.byteAt q := rfl
@[simp] theorem State.byteAt_updAxis (q : Nat) (n : Nat) (f : Axis → Axis) : (s.updAxis n f).byteAt q = s.byteAt q := rfl
@[simp] theorem State.byteAt_dropHealth (q : Nat) (h : HealthCause) : (s.dropHealth h).byteAt q = s.byteAt q := rfl
@[simp] theorem State.byteAt_updPair (q : Nat) (f : Pair → Pair) : (s.updPair f).byteAt q = s.byteAt q := rfl
@[simp] theorem State.dramAt_setReg (q : Nat) (a : Nat) (v : Word) : (s.setReg a v).dramAt q = s.dramAt q := rfl
@[simp] theorem State.dramAt_setPreg (q : Nat) (p a : Nat) (v : Word) : (s.setPreg p a v).dramAt q = s.dramAt q := rfl
@[simp] theorem State.dramAt_setEng (q : Nat) (e : Nat) (x : Engine) : (s.setEng e x).dramAt q = s.dramAt q := rfl
@[simp] theorem State.dramAt_updEng (q : Nat) (e : Nat) (f : Engine → Engine) : (s.updEng e f).dramAt q = s.dramAt q := rfl
@[simp] theorem State.dramAt_emit (q : Nat) (o : OutItem) : (s.emit o).dramAt q = s.dramAt q := rfl
@[simp] theorem State.dramAt_updGroup (q : Nat) (g : Nat) (f : Group → Group) : (s.updGroup g f).dramAt q = s.dramAt q := rfl
@[simp] theorem State.dramAt_updCounts (q : Nat) (c : Nat) (f : ClauseCounts → ClauseCounts) : (s.updCounts c f).dramAt q = s.dramAt q := rfl
@[simp] theorem State.dramAt_updAxis (q : Nat) (n : Nat) (f : Axis → Axis) : (s.updAxis n f).dramAt q = s.dramAt q := rfl
@[simp] theorem State.dramAt_dropHealth (q : Nat) (h : HealthCause) : (s.dropHealth h).dramAt q = s.dramAt q := rfl
@[simp] theorem State.dramAt_updPair (q : Nat) (f : Pair → Pair) : (s.updPair f).dramAt q = s.dramAt q := rfl
@[simp] theorem State.byteAt_setOwner (q : Nat) (b o : Nat) : (s.setOwner b o).byteAt q = s.byteAt q := rfl
@[simp] theorem State.dramAt_setOwner (q : Nat) (b o : Nat) : (s.setOwner b o).dramAt q = s.dramAt q := rfl
@[simp] theorem State.byteAt_touch (q : Nat) (b : Nat) : (s.touch b).byteAt q = s.byteAt q := rfl
@[simp] theorem State.dramAt_touch (q : Nat) (b : Nat) : (s.touch b).dramAt q = s.dramAt q := rfl
@[simp] theorem State.byteAt_setDma (q : Nat) (n : Nat) (c : DmaChan) : (s.setDma n c).byteAt q = s.byteAt q := rfl
@[simp] theorem State.dramAt_setDma (q : Nat) (n : Nat) (c : DmaChan) : (s.setDma n c).dramAt q = s.dramAt q := rfl
@[simp] theorem State.byteAt_markBank (q : Nat) (b t : Nat) : (s.markBank b t).byteAt q = s.byteAt q := rfl
@[simp] theorem State.dramAt_markBank (q : Nat) (b t : Nat) : (s.markBank b t).dramAt q = s.dramAt q := rfl
@[simp] theorem State.byteAt_unmarkTag (q : Nat) (t : Nat) : (s.unmarkTag t).byteAt q = s.byteAt q := rfl
@[simp] theorem State.dramAt_unmarkTag (q : Nat) (t : Nat) : (s.unmarkTag t).dramAt q = s.dramAt q := rfl
@[simp] theorem State.byteAt_produce (q : Nat) (c i : Nat) (el : List Word) : (s.produce c i el).byteAt q = s.byteAt q := rfl
@[simp] theorem State.dramAt_produce (q : Nat) (c i : Nat) (el : List Word) : (s.produce c i el).dramAt q = s.dramAt q := rfl
@[simp] theorem State.owner_touch (q : Nat) (b : Nat) : (s.touch b).owner q = s.owner q := rfl
@[simp] theorem State.owner_storeBytes (q : Nat) (a : Nat) (bs : List Byte) : (s.storeBytes a bs).owner q = s.owner q := rfl
@[simp] theorem State.owner_setDma (q : Nat) (n : Nat) (c : DmaChan) : (s.setDma n c).owner q = s.owner q := rfl
@[simp] theorem State.owner_markBank (q : Nat) (b t : Nat) : (s.markBank b t).owner q = s.owner q := rfl
@[simp] theorem State.owner_unmarkTag (q : Nat) (t : Nat) : (s.unmarkTag t).owner q = s.owner q := rfl
@[simp] theorem State.owner_produce (q : Nat) (c i : Nat) (el : List Word) : (s.produce c i el).owner q = s.owner q := rfl
@[simp] theorem State.reg_updNow (q : Nat) (f : Timing → Timing) : (s.updNow f).reg q = s.reg q := rfl
@[simp] theorem State.reg_acting (q : Nat) (k : Nat) : (s.acting k).reg q = s.reg q := rfl
@[simp] theorem State.eng_updNow (q : Nat) (f : Timing → Timing) : (s.updNow f).eng q = s.eng q := rfl
@[simp] theorem State.eng_acting (q : Nat) (k : Nat) : (s.acting k).eng q = s.eng q := rfl
@[simp] theorem State.eng_orBits (q : Nat) (a : Nat) (m : Word) : (s.orBits a m).eng q = s.eng q := rfl
@[simp] theorem State.group_updNow (q : Nat) (f : Timing → Timing) : (s.updNow f).group q = s.group q := rfl
@[simp] theorem State.group_acting (q : Nat) (k : Nat) : (s.acting k).group q = s.group q := rfl
@[simp] theorem State.group_orBits (q : Nat) (a : Nat) (m : Word) : (s.orBits a m).group q = s.group q := rfl
@[simp] theorem State.counts_updNow (q : Nat) (f : Timing → Timing) : (s.updNow f).counts q = s.counts q := rfl
@[simp] theorem State.counts_acting (q : Nat) (k : Nat) : (s.acting k).counts q = s.counts q := rfl
@[simp] theorem State.counts_orBits (q : Nat) (a : Nat) (m : Word) : (s.orBits a m).counts q = s.counts q := rfl
@[simp] theorem State.axis_updNow (q : Nat) (f : Timing → Timing) : (s.updNow f).axis q = s.axis q := rfl
@[simp] theorem State.axis_acting (q : Nat) (k : Nat) : (s.acting k).axis q = s.axis q := rfl
@[simp] theorem State.axis_orBits (q : Nat) (a : Nat) (m : Word) : (s.orBits a m).axis q = s.axis q := rfl
@[simp] theorem State.owner_updNow (q : Nat) (f : Timing → Timing) : (s.updNow f).owner q = s.owner q := rfl
@[simp] theorem State.owner_acting (q : Nat) (k : Nat) : (s.acting k).owner q = s.owner q := rfl
@[simp] theorem State.owner_orBits (q : Nat) (a : Nat) (m : Word) : (s.orBits a m).owner q = s.owner q := rfl
@[simp] theorem State.byteAt_updNow (q : Nat) (f : Timing → Timing) : (s.updNow f).byteAt q = s.byteAt q := rfl
@[simp] theorem State.byteAt_acting (q : Nat) (k : Nat) : (s.acting k).byteAt q = s.byteAt q := rfl
@[simp] theorem State.byteAt_orBits (q : Nat) (a : Nat) (m : Word) : (s.orBits a m).byteAt q = s.byteAt q := rfl
@[simp] theorem State.dramAt_updNow (q : Nat) (f : Timing → Timing) : (s.updNow f).dramAt q = s.dramAt q := rfl
@[simp] theorem State.dramAt_acting (q : Nat) (k : Nat) : (s.acting k).dramAt q = s.dramAt q := rfl
@[simp] theorem State.dramAt_orBits (q : Nat) (a : Nat) (m : Word) : (s.orBits a m).dramAt q = s.dramAt q := rfl

end Sys2Proof.Machine
end

