-- ==== Sys2Proof/Laws/Engine.lean ====
section
/-! SUPPORT. Laws/Engine.lean: what issuing, retiring and charging an instruction do, said once for every instruction. -/
namespace Sys2Proof.Machine

/-! ### Results -/

/-- The 32-bit result of an instruction in the terms of Safety.lean. -/
theorem res32_eq (w : Bool) (v : Int) : res32 w v = exact32 w v := by
  cases w
  · simp only [res32, exact32, sat32, satTo, satHit, smax, smin, wdi]
    by_cases h1 : 2147483647 < v
    · simp [h1]
    · by_cases h2 : v < -2147483648 <;> simp [h1, h2]
  · simp [res32, exact32, wdi]

/-! ### Issuing -/

/-- R99: a guard that is not P0 negated is defined. -/
theorem guard_defined {x : Guard} (h : x.wf = true) : (x.pg.val == 0 && x.pn) = false := by
  have key : ∀ (pn : Bool) (pg : PredNo), (!(pn && pg == 0)) = true → (pg.val == 0 && pn) = false := by decide
  exact key x.pn x.pg h

/-- R63, R99, R115: an instruction whose guard holds retires. -/
theorem issue_executes {s : State} {x : Guard} {r : Run} {words cyc off : Nat} (h : s.executes x r words cyc)
    (act : State → State × Flow) : s.issue x true off words cyc act = s.retire x.e.val cyc act := by
  obtain ⟨h1, h2, h3, h4, h5, _⟩ := h
  have h3' := guard_defined h3
  simp [State.issue, h1, h2, h3', h4, h5]

/-- R82: inside the budget an instruction that passes on leaves the state its meaning gives, charged and moved on. -/
theorem retire_pass {s : State} {x : Guard} {r : Run} {words cyc : Nat} (h : s.executes x r words cyc)
    (act : State → State × Flow) (w : Nat) (t : State) (ht : act s = (t, .pass w)) :
    s.retire x.e.val cyc act = t.retired x.e.val cyc w := by
  obtain ⟨h1, _, _, _, _, h6⟩ := h
  have h7 : ¬ r.budget < r.count + cyc := by omega
  have h8 : r.count + cyc ≠ r.budget := by omega
  simp [State.retire, h1, h7, ht, h8, State.retired]

/-- A meaning of one word that executes. -/
theorem issue1_executes {s : State} {x : Guard} {r : Run} {cyc : Nat} (h : s.executes x r 1 cyc) (act : State → State) :
    s.issue1 x true cyc act = (act s).retired x.e.val cyc 1 := by
  simp only [State.issue1, issue_executes h]
  exact retire_pass h _ 1 _ rfl

/-- R99: an instruction that is guarded off only takes its clocks and passes on. -/
theorem issue_guardedOff {s : State} {x : Guard} {r : Run} {words cyc off : Nat} (h : s.guardedOff x r off)
    (act : State → State × Flow) : s.issue x true off words cyc act = s.retired x.e.val off words := by
  obtain ⟨h1, h2, h3, h4, h6⟩ := h
  have h3' := guard_defined h3
  have h7 : ¬ r.budget < r.count + off := by omega
  have h8 : r.count + off ≠ r.budget := by omega
  simp [State.issue, h1, h2, h3', h4, State.retire, h7, h8, State.retired]

/-- R83, R99: guard P0 negated, or an undefined word, ends the clause ILLEGAL. -/
theorem issue_illegal {s : State} {x : Guard} {r : Run} {words cyc off : Nat} {wf : Bool} (h1 : (s.eng x.e.val).run = some r)
    (h2 : (s.eng x.e.val).wait = none) (h : (!wf || (x.pg.val == 0 && x.pn)) = true) (act : State → State × Flow) :
    s.issue x wf off words cyc act = s.endClause x.e.val .illegal (r.count + 1) (s.fetched x.e.val) := by
  simp only [State.issue, h1, h2, h]; rfl

/-- An engine that runs no clause issues nothing. -/
theorem issue_noRun {s : State} {x : Guard} (h : (s.eng x.e.val).run = none) (wf : Bool) (off words cyc : Nat)
    (act : State → State × Flow) : s.issue x wf off words cyc act = s := by simp [State.issue, h]

/-- An engine that waits issues nothing. -/
theorem issue_waiting {s : State} {x : Guard} (h : (s.eng x.e.val).wait.isSome = true) (wf : Bool) (off words cyc : Nat)
    (act : State → State × Flow) : s.issue x wf off words cyc act = s := by
  simp only [State.issue, h]; split <;> simp

/-! ### Charging and ending -/

/-- Charging clocks moves only the run's count, the account of the engine and that of the clause. -/
theorem charge_regs (s : State) (e n : Nat) : (s.charge e n).regs = s.regs := by
  unfold State.charge; split <;> rfl

@[simp] theorem reg_charge (s : State) (e n a : Nat) : (s.charge e n).reg a = s.reg a := by
  simp [State.reg, charge_regs]

@[simp] theorem banks_charge (s : State) (e n : Nat) : (s.charge e n).banks = s.banks := by
  unfold State.charge; split <;> rfl

@[simp] theorem pending_charge (s : State) (e n : Nat) : (s.charge e n).pending = s.pending := by
  unfold State.charge; split <;> rfl

@[simp] theorem boot_charge (s : State) (e n : Nat) : (s.charge e n).boot = s.boot := by
  unfold State.charge; split <;> rfl

@[simp] theorem reg_retired (s : State) (e n w a : Nat) : (s.retired e n w).reg a = s.reg a := by simp [State.retired]

@[simp] theorem banks_retired (s : State) (e n w : Nat) : (s.retired e n w).banks = s.banks := by simp [State.retired]

theorem eng_charge_ne {s : State} {e q : Nat} (n : Nat) (h : q ≠ e) : (s.charge e n).eng q = s.eng q := by
  unfold State.charge
  split
  · rfl
  · exact State.eng_setEng s e q _ ▸ if_neg h

/-- An instruction leaves every other engine as it was. -/
theorem eng_retired_ne {s : State} {e q : Nat} (n w : Nat) (h : q ≠ e) : (s.retired e n w).eng q = s.eng q := by
  simp [State.retired, State.eng_updEng_ne _ _ h, eng_charge_ne n h]

end Sys2Proof.Machine
end

