-- ==== Sys2Proof/Laws/Clock.lean ====
section
/-! SUPPORT. Laws/Clock.lean: what a FAB clock leaves alone, and what an instruction that acts in a clock after its issue
does. -/
namespace Sys2Proof.Machine

/-- Engines, start-up, queue and clock of `t` are those of `s`. -/
structure State.Aside (s t : State) : Prop where
  engs : t.engs = s.engs
  boot : t.boot = s.boot
  pending : t.pending = s.pending
  clk : t.clk = s.clk

theorem State.Aside.refl (s : State) : s.Aside s := ⟨rfl, rfl, rfl, rfl⟩

theorem State.Aside.trans {s t u : State} (h : s.Aside t) (k : t.Aside u) : s.Aside u :=
  ⟨k.engs.trans h.engs, k.boot.trans h.boot, k.pending.trans h.pending, k.clk.trans h.clk⟩

/-- `trans`, the last part first. -/
theorem State.Aside.after {s t u : State} (k : t.Aside u) (h : s.Aside t) : s.Aside u := h.trans k

theorem State.Aside.foldl {α : Type} {s : State} {f : State → α → State} {l : List α} (h : ∀ (u : State) (a : α), u.Aside (f u a)) :
    s.Aside (l.foldl f s) :=
  foldl_keeps s.Aside f l s (State.Aside.refl s) (fun u a _ k => k.trans (h u a))

theorem State.Aside.ite {s a b : State} {c : Prop} [Decidable c] (h : s.Aside a) (k : s.Aside b) : s.Aside (if c then a else b) := by
  split <;> assumption

/-- An update of fields other than these. -/
theorem State.Aside.same {s t : State} (a : t.engs = s.engs) (b : t.boot = s.boot) (c : t.pending = s.pending) (d : t.clk = s.clk) :
    s.Aside t := ⟨a, b, c, d⟩

theorem aside_setReg (s : State) (a : Nat) (v : Word) : s.Aside (s.setReg a v) := .same rfl rfl rfl rfl

theorem aside_setBitR (s : State) (a i : Nat) : s.Aside (s.setBitR a i) := .same rfl rfl rfl rfl

theorem aside_bump (s : State) (a n : Nat) : s.Aside (s.bump a n) := .same rfl rfl rfl rfl

theorem aside_updNow (s : State) (f : Timing → Timing) : s.Aside (s.updNow f) := .same rfl rfl rfl rfl

theorem aside_updTb (s : State) (f : Timebase → Timebase) : s.Aside (s.updTb f) := .same rfl rfl rfl rfl

theorem aside_setT (s : State) (t : Nat) : s.Aside (s.setT t) := .same rfl rfl rfl rfl

theorem aside_updGroup (s : State) (g : Nat) (f : Group → Group) : s.Aside (s.updGroup g f) := .same rfl rfl rfl rfl

theorem aside_updField (s : State) (f : FieldIo → FieldIo) : s.Aside (s.updField f) := .same rfl rfl rfl rfl

/-! ### Records -/

theorem aside_enter (fuel : Nat) : ∀ (s : State) (part : Nat) (b : RecBody), s.Aside (s.enter part b fuel) := by
  induction fuel with
  | zero => exact fun s _ _ => .refl s
  | succ n ih =>
    intro s part b
    unfold State.enter
    extract_lets -lift +onlyGivenNames hit slot r src s1 s2
    have h2 : s.Aside s2 := .same rfl rfl rfl rfl
    clear_value s2 s1 r slot
    cases slot with
    | none => exact .ite (.after (aside_setBitR _ _ _) (.after (aside_bump _ _ _) h2)) h2
    | some k =>
      dsimp only
      generalize State.intakePart _ false = o
      cases o with
      | some q => exact .after (ih _ _ _) (h2.trans (.same rfl rfl rfl rfl))
      | none => exact .after (aside_setBitR _ _ _) (.after (aside_bump _ _ _) (h2.trans (.same rfl rfl rfl rfl)))

theorem aside_record (s : State) (n : RecName) (el : Nat) (items : List Nat) : s.Aside (s.record n el items) := by
  unfold State.record State.accept
  split
  · exact .same rfl rfl rfl rfl
  · split
    · exact .refl s
    · split
      · exact aside_enter 5 s _ _
      · exact .same rfl rfl rfl rfl

/-! ### The time count and the axes -/

theorem aside_evalAxis (s : State) (n : Nat) (jump : Bool) : s.Aside (s.evalAxis n jump) := by
  unfold State.evalAxis
  extract_lets -lift +onlyGivenNames pos t
  have h : s.Aside t := .foldl fun _ _ => .same rfl rfl rfl rfl
  exact .after (.foldl fun _ _ => aside_updGroup _ _ _) h

theorem aside_armGroup (s : State) (g : Nat) : s.Aside (s.armGroup g) := .same rfl rfl rfl rfl

theorem aside_moveAxis (s : State) (n : Nat) (pos : Word) : s.Aside (s.moveAxis n pos) := by
  unfold State.moveAxis
  extract_lets -lift +onlyGivenNames old d jump s1 s2 s3
  have h1 : s.Aside s1 := .same rfl rfl rfl rfl
  have h2 : s.Aside s2 := .ite (.after (aside_setBitR _ _ _) h1) h1
  have h3 : s.Aside s3 := .ite (.after (aside_record _ _ _ _) (.after (aside_setBitR _ _ _) h2)) h2
  exact .after (aside_evalAxis _ _ _) h3

theorem aside_jumpFusion (s : State) : s.Aside s.jumpFusion := by
  have h : s.Aside (s.fus.queue.foldl (fun s q => (s.drop (Reg.FUS_NPEND q.slot)).bump (Reg.FUS_NLATE q.slot)) s) :=
    .foldl fun _ _ => .same rfl rfl rfl rfl
  exact ⟨h.engs, h.boot, h.pending, h.clk⟩

theorem aside_regridTriggers (s : State) : s.Aside s.regridTriggers := .same rfl rfl rfl rfl

theorem aside_applyStep (s : State) (old boundary : Nat) (d : Int) : s.Aside (s.applyStep old boundary d) := by
  unfold State.applyStep
  extract_lets -lift +onlyGivenNames t' jump s1 src s2 s3 s4 s5
  have h1 : s.Aside s1 := .after (aside_updNow _ _) (.after (aside_updTb _ _) (aside_setT _ _))
  have h2 : s.Aside s2 := h1.trans (.same rfl rfl rfl rfl)
  have h3 : s.Aside s3 := .after (aside_setReg _ _ _) h2
  have h4 : s.Aside s4 := .after (aside_record _ _ _ _) (.after (aside_setBitR _ _ _) (.after (aside_bump _ _ _) h3))
  have h5 : s.Aside s5 := .ite (.after (aside_setBitR _ _ _) h4) h4
  clear_value s5
  split
  · exact .after (aside_jumpFusion _) (.after (aside_regridTriggers _) (.after (.foldl fun _ _ => aside_armGroup _ _)
      (.after (aside_evalAxis _ _ _) (.after (aside_record _ _ _ _) (.after (aside_setBitR _ _ _) h5)))))
  · extract_lets -lift +onlyGivenNames s6
    have h6 : s.Aside s6 := .after (aside_evalAxis _ _ _) h5
    clear_value s6
    refine .ite (.after (.foldl fun u c => ?_) h6) h6
    dsimp only
    split
    · exact .refl u
    · exact .ite (aside_updGroup _ _ _) (.refl u)

theorem aside_tbcClock (s : State) : s.Aside s.tbcClock := by
  have h : ∀ u : State, s.Aside u → ∀ t, s.Aside ((u.setT t).evalAxis 0 false) :=
    fun u h t => .after (aside_evalAxis _ _ _) (.after (aside_setT _ _) h)
  unfold State.tbcClock
  split
  extract_lets -lift +onlyGivenNames t t' el' s1
  have h1 : s.Aside s1 := aside_updTb _ _
  clear_value s1
  split
  · exact .ite (.after (aside_applyStep _ _ _ _) h1) (h _ h1 _)
  · exact h _ h1 _

/-! ### One FAB clock -/

theorem aside_noteWaits (s : State) : s.Aside s.noteWaits := by
  refine .foldl fun u x => ?_
  split
  · split
    · exact aside_updNow _ _
    · exact .refl u
  · exact .refl u

theorem aside_noteHeld (s : State) : s.Aside s.noteHeld := .ite (aside_updNow _ _) (.refl s)

theorem aside_releaseStores (s : State) : s.Aside s.releaseStores :=
  .after (aside_updNow _ _) (.foldl fun _ _ => .same rfl rfl rfl rfl)

theorem aside_countSeconds (s : State) (el : Nat) : s.Aside (s.countSeconds el) := .ite (.refl s) (.same rfl rfl rfl rfl)

theorem aside_sendFrames (s : State) (el : Nat) : s.Aside (s.sendFrames el) :=
  .ite (.refl s) (.after (aside_updField _ _) (.foldl fun _ _ => .same rfl rfl rfl rfl))

theorem aside_landSets (s : State) (ticked : Bool) : s.Aside (s.landSets ticked) :=
  .after (aside_updNow _ _) (.foldl fun _ _ => .after (aside_updNow _ _) (aside_moveAxis _ _ _))

/-- A FAB clock of a unit that is not held off advances CLK by one, and leaves engines, start-up and queue alone. -/
theorem tick_aside {s : State} (h : s.boot.stage ≠ .off) :
    s.tick.engs = s.engs ∧ s.tick.boot = s.boot ∧ s.tick.pending = s.pending ∧ s.tick.clk = s.clk + 1 := by
  have key : ({ s.noteWaits with clk := s.clk + 1 } : State).Aside s.tick := by
    unfold State.tick
    rw [if_neg h]
    extract_lets -lift +onlyGivenNames n c t
    have hc : ({ n with clk := s.clk + 1 } : State).Aside c :=
      .after (aside_releaseStores _) (.after (aside_updNow _ _) (aside_noteHeld _))
    have ht : ({ n with clk := s.clk + 1 } : State).Aside t :=
      .ite hc (.after (aside_sendFrames _ _) (.after (aside_countSeconds _ _) (.after (aside_tbcClock _) hc)))
    exact .after (aside_landSets _ _) ht
  have n := aside_noteWaits s
  exact ⟨key.engs.trans n.engs, key.boot.trans n.boot, key.pending.trans n.pending, key.clk⟩

/-- Any number of FAB clocks leaves engines, start-up and queue alone. -/
theorem ticks_aside (n : Nat) : ∀ s : State,
    (State.ticks n s).engs = s.engs ∧ (State.ticks n s).boot = s.boot ∧ (State.ticks n s).pending = s.pending := by
  induction n with
  | zero => exact fun _ => ⟨rfl, rfl, rfl⟩
  | succ n ih =>
    intro s
    by_cases h : s.boot.stage = .off
    · have e : s.tick = s := by simp [State.tick, h]
      simp only [State.ticks, e]; exact ih s
    · obtain ⟨a, b, c, _⟩ := tick_aside h
      obtain ⟨a', b', c'⟩ := ih s.tick
      exact ⟨a'.trans a, b'.trans b, c'.trans c⟩

theorem eng_advanceTo (s : State) (c e : Nat) : (s.advanceTo c).eng e = s.eng e := by
  simp [State.advanceTo, State.eng, (ticks_aside _ s).1]

/-! ### Acting in a later clock -/

/-- What `reaches` gives in the clock of the action: the instruction executes there as where it issued. -/
theorem reaches_executes {u s : State} {x : Guard} {r : Run} {words n lead : Nat} {rd : Bool}
    (h : u.reaches x r words n lead rd s) : s.executes x r words n := by
  obtain ⟨h1, _, _, rfl⟩ := h
  simpa [State.executes, eng_advanceTo] using h1

/-- R579: an instruction that reaches its act clock in its turn retires there. -/
theorem issueAt_reaches {u s : State} {x : Guard} {r : Run} {words cyc lead off : Nat} {rd : Bool}
    (h : u.reaches x r words cyc lead rd s) (act : State → State × Flow) :
    u.issueAt x true off words cyc lead rd act = s.retire x.e.val cyc act := by
  have ex := reaches_executes h
  obtain ⟨⟨h1, h2, h3, h4, h5, h6⟩, hc, ht, rfl⟩ := h
  have h3' := guard_defined h3
  have h7 : r.count + cyc ≤ r.budget := by omega
  simp only [State.issueAt, h1, h2, h3', h4, h5, h7, hc, ht]
  simpa using issue_executes ex act

end Sys2Proof.Machine
end

