-- ==== Sys2Proof/Laws/Memory.lean ====
section
/-! SUPPORT. Laws/Memory.lean: a byte store reads back what was written and nothing else changes, and every memory
operation keeps the canonical form. -/
namespace Sys2Proof.Machine

/-! ### One byte -/

theorem cellGet_cellPut (m : List Host.Cell) (a q : Nat) (v : Byte) (h : cellsWf m = true) :
    cellGet (cellPut m a v) q = if q = a then v else cellGet m q := by
  induction m with
  | nil =>
    have hn : (if a = q then v else 0) = if q = a then v else cellGet [] q := by
      by_cases hq : q = a
      · simp [hq]
      · simp [hq, Ne.symm hq, cellGet]
    unfold cellPut
    split
    · rename_i hv; subst hv; simp [cellGet]
    · exact hn
  | cons c t ih =>
    obtain ⟨k, b⟩ := c
    simp only [cellsWf, Bool.and_eq_true, List.all_eq_true, decide_eq_true_eq] at h
    obtain ⟨⟨-, hlt⟩, hw⟩ := h
    have absent : ∀ a, a ≤ k → cellGet t a = 0 := by
      intro a ha
      clear ih hw
      induction t with
      | nil => rfl
      | cons d t ih =>
        have hd := hlt d (by simp)
        have : ¬ d.1 = a := by omega
        simp only [cellGet, this, if_false]
        exact ih (fun x hx => hlt x (by simp [hx]))
    unfold cellPut
    by_cases h1 : a < k
    · have h2 : ¬ k = a := by omega
      by_cases hq : q = a
      · subst hq
        by_cases hv : v = 0#8
        · subst hv; simp [h1, cellGet, h2, absent q (by omega)]
        · simp [h1, hv, cellGet]
      · by_cases hv : v = 0#8
        · simp [h1, hv, cellGet, hq]
        · simp [h1, hv, cellGet, hq, Ne.symm hq]
    · by_cases h2 : a = k
      · subst h2
        by_cases hq : q = a
        · subst hq
          by_cases hv : v = 0#8
          · subst hv; simp [absent q (Nat.le_refl _)]
          · simp [hv, cellGet]
        · by_cases hv : v = 0#8
          · simp [hv, cellGet, hq, Ne.symm hq]
          · simp [hv, cellGet, hq, Ne.symm hq]
      · simp only [h1, h2, if_false]
        by_cases hk : k = q
        · have : ¬ q = a := by omega
          simp [cellGet, hk, this]
        · simp [cellGet, hk, ih hw]

theorem cellPut_mem (m : List Host.Cell) (a : Nat) (v : Byte) (c : Host.Cell) (h : c ∈ cellPut m a v) : c = (a, v) ∨ c ∈ m := by
  induction m with
  | nil =>
    unfold cellPut at h
    split at h <;> simp_all
  | cons d t ih =>
    obtain ⟨k, b⟩ := d
    unfold cellPut at h
    split at h
    · split at h <;> simp_all
    · split at h
      · split at h <;> simp_all
        rcases h with h | h <;> simp [h]
      · simp at h
        rcases h with h | h
        · simp [h]
        · rcases ih h with h | h <;> simp [h]

/-- A write of one byte keeps the canonical form. -/
theorem cellsWf_cellPut (m : List Host.Cell) (a : Nat) (v : Byte) (h : cellsWf m = true) : cellsWf (cellPut m a v) = true := by
  induction m with
  | nil =>
    unfold cellPut
    split
    · rfl
    · rename_i hv; simpa [cellsWf] using hv
  | cons c t ih =>
    obtain ⟨k, b⟩ := c
    have h0 := h
    simp only [cellsWf, Bool.and_eq_true, List.all_eq_true, decide_eq_true_eq] at h
    obtain ⟨⟨hb, hlt⟩, hw⟩ := h
    unfold cellPut
    split
    · rename_i hak
      split
      · exact h0
      · rename_i hv
        simp only [cellsWf, Bool.and_eq_true, List.all_eq_true, decide_eq_true_eq, List.mem_cons]
        refine ⟨⟨by simpa using hv, ?_⟩, ⟨hb, hlt⟩, hw⟩
        rintro c (rfl | hc)
        · exact hak
        · exact Nat.lt_trans hak (hlt c hc)
    · split
      · rename_i hak
        subst hak
        split
        · exact hw
        · rename_i hv
          simp only [cellsWf, Bool.and_eq_true, List.all_eq_true, decide_eq_true_eq]
          exact ⟨⟨by simpa using hv, hlt⟩, hw⟩
      · simp only [cellsWf, Bool.and_eq_true, List.all_eq_true, decide_eq_true_eq]
        refine ⟨⟨hb, fun c hc => ?_⟩, ih hw⟩
        rcases cellPut_mem t a v c hc with rfl | hc
        · show k < a; omega
        · exact hlt c hc

/-! ### Several bytes -/

theorem cellsWf_cellsPut (m : List Host.Cell) (a : Nat) (bs : List Byte) (h : cellsWf m = true) : cellsWf (cellsPut m a bs) = true := by
  induction bs generalizing m a with
  | nil => exact h
  | cons b t ih => exact ih _ _ (cellsWf_cellPut m a b h)

/-- What a byte store reads as after bytes are written from `a` on. -/
theorem cellGet_cellsPut (m : List Host.Cell) (a q : Nat) (bs : List Byte) (h : cellsWf m = true) :
    cellGet (cellsPut m a bs) q = if a ≤ q ∧ q < a + bs.length then bs.getD (q - a) 0 else cellGet m q := by
  induction bs generalizing m a with
  | nil =>
    have h1 : ¬(a ≤ q ∧ q < a + ([] : List Byte).length) := by simp only [List.length_nil]; omega
    rw [if_neg h1]; rfl
  | cons b t ih =>
    simp only [cellsPut, ih _ _ (cellsWf_cellPut m a b h), cellGet_cellPut m a q b h, List.length_cons]
    by_cases h1 : a + 1 ≤ q ∧ q < a + 1 + t.length
    · have h2 : a ≤ q ∧ q < a + (t.length + 1) := by omega
      have h3 : q - a = (q - (a + 1)) + 1 := by omega
      simp [h1, h2, h3]
    · by_cases h4 : q = a
      · subst h4
        have h5 : q ≤ q ∧ q < q + (t.length + 1) := by omega
        rw [if_neg h1, if_pos rfl, if_pos h5, Nat.sub_self]; rfl
      · have h2 : ¬ (a ≤ q ∧ q < a + (t.length + 1)) := by omega
        simp only [h1, h2, h4, if_false]

/-- Outside the bytes written nothing changes. -/
theorem cellGet_cellsPut_out (m : List Host.Cell) (a q : Nat) (bs : List Byte) (h : cellsWf m = true) (hq : q < a ∨ a + bs.length ≤ q) :
    cellGet (cellsPut m a bs) q = cellGet m q := by
  rw [cellGet_cellsPut m a q bs h, if_neg (by omega)]

/-- What has been written reads back. -/
theorem cellsGet_cellsPut (m : List Host.Cell) (a : Nat) (bs : List Byte) (h : cellsWf m = true) :
    cellsGet (cellsPut m a bs) a bs.length = bs := by
  apply List.ext_getElem
  · simp [cellsGet]
  · intro i h1 h2
    simp only [cellsGet, List.getElem_map, List.getElem_range, cellGet_cellsPut m a _ bs h]
    rw [if_pos (by omega)]
    simp [List.getD, h2]

@[simp] theorem length_cellsGet (m : List Host.Cell) (a n : Nat) : (cellsGet m a n).length = n := by simp [cellsGet]

/-! ### The stores of the unit -/

/-- Reset memory is canonical. -/
theorem reset_canonical : State.reset.Canonical := by unfold State.Canonical; decide

/-- A store into the banks keeps the canonical form of every byte store. -/
theorem storeBytes_canonical (s : State) (a : Nat) (bs : List Byte) (h : s.Canonical) : (s.storeBytes a bs).Canonical :=
  ⟨cellsWf_cellsPut _ _ _ h.1, h.2.1, h.2.2⟩

theorem storeWords_canonical (s : State) (a : Nat) (ws : List Word) (h : s.Canonical) : (s.storeWords a ws).Canonical :=
  storeBytes_canonical s a _ h

/-- What the banks read as after a store: its bytes there, and everything else as before. -/
theorem storeBytes_byteAt (s : State) (a q : Nat) (bs : List Byte) (h : s.Canonical) :
    (s.storeBytes a bs).byteAt q = if a ≤ q ∧ q < a + bs.length then bs.getD (q - a) 0 else s.byteAt q :=
  cellGet_cellsPut _ _ _ _ h.1

@[simp] theorem storeBytes_dramAt (s : State) (a q : Nat) (bs : List Byte) : (s.storeBytes a bs).dramAt q = s.dramAt q := rfl

/-- Two states whose stores are the same lists read the same bytes. -/
theorem sameBytes_of_eq {s t : State} (h1 : t.banks.cells = s.banks.cells) (h2 : t.banks.dram = s.banks.dram) : sameBytes s t := by
  intro a; simp [State.byteAt, State.dramAt, h1, h2]

end Sys2Proof.Machine
end

