-- ==== Sys2Proof/Tests/Slice0.lean ====
section
/-! SUPPORT. Tests/Slice0.lean: the operand check refuses what the encodings do not admit; for each statement of
Obligations.lean that has hypotheses, concrete states and operands that meet them, clause by clause, at the ends of the
ranges; a few results of single commands against values worked out from the spec. -/
namespace Sys2Proof.Tests
open Sys2Proof Sys2Proof.Machine

set_option Elab.async false

/-! ### States to start from -/

/-- The always-true guard on engine 0. -/
def g0 : Guard := { e := 0, pn := false, pg := 0 }

/-- The guard P1: false while P1 is 0. -/
def g1 : Guard := { e := 0, pn := false, pg := 1 }

/-- An execution of clause 1, group 0, whose budget is `n` clocks. -/
def rb (n : Nat) : Run :=
  { clause := 1, group := 0, disp := 1, seq := 0, budget := n, lock := false, start := 0, count := 0, trig := {} }

/-- The unit after reset with engine 0 running it. -/
def runs (n : Nat) (y : Engine := {}) (s : State := {}) : State := s.setEng 0 { y with run := some (rb n) }

/-- Port registers set in turn. -/
def rs (l : List (Nat × Word)) (s : State := {}) : State := l.foldl (fun s p => s.setReg p.1 p.2) s

/-- The next state of a command; the state itself were there none. -/
def after (c : Instr) (s : State) : State :=
  match exec c s with
  | .next t => t
  | _ => s

/-- A state at elapsed time and T of `n` ns. -/
def atNs (n : Nat) (s : State := {}) : State := { s with tb := { s.tb with el := n, t := n } }

/-- The state in which the command of engine 0 acts, `lead` FAB clocks after its issue in `u` (its execution is at clock 0), in
the turn of a read (`rd`) or of the engine. -/
def acts (u : State) (lead : Nat) (rd : Bool) : State :=
  let t := u.advanceTo lead
  t.acting (if rd then 0 else t.rankOf 0)

/-- FAB clock `n`. -/
def clk (n : Nat) (s : State) : State := { s with clk := n }

/-! ### The queue, arithmetic, logic -/

theorem witness_StepRunsFront : ({ pending := [.axisTick] } : State).pending = .axisTick :: [] := by decide

theorem witness_IdleStepTicks : ({} : State).pending = [] ∧ ({} : State).boot.stage ≠ .off := by decide

theorem witness_ArithmeticResults :
    (runs 2).executes g0 (rb 2) 1 1 ∧ ((-1024 : Int) ≤ -1024 ∧ (-1024 : Int) < 1024) ∧ (-1024 : Int) ≤ 1023 ∧ (1023 : Int) < 1024 := by
  unfold State.executes; decide +kernel

theorem witness_ShiftAndLogicResults :
    (runs 2).executes g0 (rb 2) 1 1 ∧ (ShiftCount.imm 31).wf = true ∧ ShiftCount.imm 31 ≠ .imm 0 ∧ (ShiftCount.reg 1).wf = true
      ∧ ShiftCount.reg 1 ≠ .imm 0 ∧ (1023 : Nat) < 1024 ∧ (65535 : Nat) < 65536 := by
  unfold State.executes; decide +kernel

theorem witness_AccumulatorResults :
    (runs 3).executes g0 (rb 3) 1 2 ∧ (runs 2).executes g0 (rb 2) 1 1 ∧ (63 : Nat) < 64 ∧ (39 : Nat) < 40 := by
  unfold State.executes; decide +kernel

theorem witness_RoundHalfEven : 2 * ((5 : Int) - rdiv 5 1 * 2 ^ 1).natAbs = 2 ^ 1 ∧ 1 ≤ 1 := by decide

theorem witness_TranscendentalResults :
    (runs 13 { regs := [(1, 0)] }).executes g0 (rb 13) 1 12 ∧ (runs 17).executes g0 (rb 17) 1 16 ∧ (runs 17).w 0 1 = 0
      ∧ (runs 11 { regs := [(1, 0xFFFFFFFF)] }).executes g0 (rb 11) 1 10
      ∧ ((runs 11 { regs := [(1, 0xFFFFFFFF)] }).w 0 1).toInt < 0 ∧ 0 ≤ ((runs 11 { regs := [(1, 0)] }).w 0 1).toInt
      ∧ ((runs 13).w 0 1).toInt ≤ 0 ∧ 0 < ((runs 13 { regs := [(1, 1)] }).w 0 1).toInt ∧ (62 : Nat) ≤ 62 ∧ (94 : Nat) ≤ 94 := by
  unfold State.executes; decide +kernel

/-! ### Loads, stores, ports, predicates, branches, loops -/

/-- Engine 0 owns bank 0. -/
def owned (b : Nat) (o : Nat) (s : State := {}) : State := s.setOwner b o

theorem witness_LoadResults :
    let f : MemForm := .acc 0
    let q : BankUse := { upset := [0] }
    let u := fun (w : Word) => clk 2 (runs 100 { regs := [(1, w)] } (owned 0 0))
    let bad : State := { u 0 with banks := { (u 0).banks with parity := [0] } }
    let s := fun w => acts (u w) 2 false
    memWf false f (-128) = true ∧ memWf false f 127 = true ∧ memClocks f + (u 0).memStall 0 f 1 true 0 0 = 3
      ∧ (u 0).reaches g0 (rb 100) 1 3 2 false (s 0) ∧ (u 8).reaches g0 (rb 100) 1 3 2 false (s 8)
      ∧ (u 0x8000).reaches g0 (rb 100) 1 3 2 false (s 0x8000) ∧ bad.reaches g0 (rb 100) 1 3 2 false (acts bad 2 false)
      ∧ (effAddr ((s 0).w 0 1) true 0 16).2 % 16 = 0 ∧ (s 0).owner 0 = (s 0).ownerOf 0 ∧ (s 0).badWords (bankAddr 0 0) 9 = []
      ∧ (0 ∈ q.upset ∧ bankAddr 0 0 / 4 ≤ 0 ∧ 0 ≤ (bankAddr 0 0 + 9 - 1) / 4) ∧ (s 0).locked 0 = false
      ∧ (effAddr ((s 8).w 0 1) true 0 16).2 % 16 ≠ 0 ∧ (s 0x8000).owner (effAddr ((s 0x8000).w 0 1) true 0 16).1 ≠ (s 0x8000).ownerOf 0
      ∧ (acts bad 2 false).badWords (bankAddr 0 0) 9 ≠ [] := by
  unfold State.reaches State.executes; decide +kernel

theorem witness_StoreResults :
    let f : MemForm := .word 2
    let u := fun (w : Word) => (runs 100 { regs := [(1, w)] } (owned 0 0))
    let pair := rs [(Reg.CLE_LSCTL, 1)] (u 0)
    let s := fun w => acts (u w) 0 false
    memWf true f (-128) = true ∧ memWf true f 127 = true ∧ (s 32764).Canonical ∧ memClocks f + (u 32764).memStall 0 f 1 true 0 0 = 1
      ∧ (u 32764).reaches g0 (rb 100) 1 1 0 false (s 32764) ∧ (u 2).reaches g0 (rb 100) 1 1 0 false (s 2)
      ∧ (u 0x8000).reaches g0 (rb 100) 1 1 0 false (s 0x8000)
      ∧ (effAddr ((s 32764).w 0 1) true 0 4).2 % 4 = 0 ∧ (s 32764).owner 0 = (s 32764).ownerOf 0 ∧ (s 32764).locked 0 = false
      ∧ (pair.locked 0 = true ∧ memClocks f + pair.memStall 0 f 1 true 0 0 = 1 ∧ pair.reaches g0 (rb 100) 1 1 0 false (acts pair 0 false)
          ∧ (acts pair 0 false).owner 0 = (acts pair 0 false).ownerOf 0)
      ∧ (effAddr ((s 2).w 0 1) true 0 4).2 % 4 ≠ 0 ∧ (s 0x8000).owner 1 ≠ (s 0x8000).ownerOf 0 := by
  unfold State.reaches State.executes State.Canonical; decide +kernel

theorem witness_PortErrors :
    let u := fun n => runs (n + 1) { regs := [(1, 0x0300)] }
    let late := fun n => clk (n - 1) (runs (n + 1))
    (u 2).decoded (portAddr ((u 2).w 0 1) 0) = false ∧ (acts (u 2) 1 true).decoded (portAddr 0x0300 0) = false
      ∧ (4095 : Nat) < 4096 ∧ (65535 : Nat) < 65536 ∧ (u 2).lockExtra 0 = 0
      ∧ (u 2).reaches g0 (rb 3) 1 2 1 true (acts (u 2) 1 true) ∧ (u 2).reaches g0 (rb 3) 1 2 1 false (acts (u 2) 1 false)
      ∧ (u 3).reaches g0 (rb 4) 2 3 2 true (acts (u 3) 2 true) ∧ (u 3).reaches g0 (rb 4) 2 3 2 false (acts (u 3) 2 false)
      ∧ (late 64).decoded 0 = true ∧ (late 64).reaches g0 (rb 65) 1 64 63 false (acts (late 64) 63 false)
      ∧ (late 65).reaches g0 (rb 66) 2 65 64 false (acts (late 65) 64 false) := by
  unfold State.reaches State.executes; decide +kernel

theorem witness_PortReads :
    let u := runs 40 { regs := [(1, Reg.SYS_STRAP)] }
    let n := fun long => u.accessClocks 0 Reg.SYS_STRAP true long
    let v := fun long => clk (n long - 1) u
    let s := fun long => acts (v long) (n long - 1) true
    portAddr (u.w 0 1) 0 = Reg.SYS_STRAP ∧ (v false).reaches g0 (rb 40) 1 (n false) (n false - 1) true (s false)
      ∧ (v true).reaches g0 (rb 40) 2 (n true) (n true - 1) true (s true) ∧ u.decoded Reg.SYS_STRAP = true
      ∧ (s false).decoded Reg.SYS_STRAP = true ∧ identityOf Reg.SYS_STRAP = none ∧ Reg.SYS_STRAP ≠ Reg.TMB_NS := by
  unfold State.reaches State.executes; decide +kernel

theorem witness_StagedWrites :
    let a := Reg.SCH_CDA 255
    let u := runs 40 { regs := [(1, BitVec.ofNat 32 a)] }
    let n := fun long => u.accessClocks 0 a true long
    let v := fun long => clk (n long - 1) u
    let s := fun long => acts (v long) (n long - 1) false
    portAddr (u.w 0 1) 0 = a ∧ u.writable (.eng 0) a = true ∧ (s true).writable (.eng 0) a = true ∧ isStaged a = true
      ∧ a ≠ Reg.OPT_FBLIM ∧ a ≠ Reg.LPE_SWAP ∧ ¬ (0x0901 ≤ a ∧ a < 0x0A00 ∧ a % 4 = 1) ∧ (s true).stopReal 0 = false
      ∧ ((s true).group 0).overflowed = false ∧ ((s true).group 0).pend.length < 128
      ∧ (v false).reaches g0 (rb 40) 1 (n false) (n false - 1) false (s false)
      ∧ (v true).reaches g0 (rb 40) 2 (n true) (n true - 1) false (s true) := by
  unfold State.reaches State.executes; decide +kernel

theorem witness_PredicateResults :
    (runs 2).executes g0 (rb 2) 1 1 ∧ (-512 : Int) ≤ -512 ∧ (511 : Int) < 512 ∧ (31 : Nat) ≠ 0 := by
  unfold State.executes; decide +kernel

theorem witness_BranchResults :
    (runs 3 { pc := 32766 }).executes g0 (rb 3) 1 2 ∧ (0 : Nat) < 1 ∧ (32766 + 1 : Nat) ≤ 32767
      ∧ (runs 3 { pc := 0, calls := [⟨some 1, []⟩, ⟨some 1, []⟩, ⟨some 1, []⟩, ⟨none, []⟩] }).executes g0 (rb 3) 1 2
      ∧ ({ calls := [⟨some 1, []⟩, ⟨some 1, []⟩, ⟨some 1, []⟩, ⟨none, []⟩] } : Engine).calls.length ≤ 4
      ∧ (∀ l ∈ (⟨none, [⟨0, 7, 1⟩]⟩ : CallCtx).loops.head?, l.last + 1 ≠ 32767)
      ∧ (runs 4 { imem := [(1, 1)] }).executes g0 (rb 4) 1 3 ∧ (mgetD ([(1, 1)] : SMap Word) 1 0).toNat < 65536
      ∧ ((runs 4).w 0 1).toNat < 1 ∧ 1 ≤ ((runs 4 { regs := [(1, 1)] }).w 0 1).toNat := by
  unfold State.executes; decide +kernel

theorem witness_LoopResults :
    (runs 2).executes g0 (rb 2) 1 1 ∧ ({ calls := [⟨none, [⟨0, 1024, 1⟩, ⟨0, 1024, 1⟩, ⟨0, 1024, 1⟩]⟩] } : Engine).depth < 4
      ∧ (∀ l ∈ ({ calls := [⟨none, [⟨0, 1024, 1⟩]⟩] } : Engine).loops.head?, 0 + 1024 ≤ l.last)
      ∧ ((runs 2 { regs := [(1, 4096)] }).w 0 1).toNat ≤ 4096 ∧ 4096 < ((runs 2 { regs := [(1, 4097)] }).w 0 1).toNat
      ∧ ((runs 2).w 0 1).toNat = 0 ∧ ({ pc := 5, calls := [⟨none, [⟨1, 5, 0⟩, ⟨0, 6, 0⟩]⟩] } : Engine).loops = ⟨1, 5, 0⟩ :: [⟨0, 6, 0⟩]
      ∧ (∀ q ∈ ([⟨0, 6, 0⟩] : List LoopCtx).head?, q.last ≠ 5) := by
  unfold State.executes; decide +kernel

theorem witness_WaitResults :
    let sem : State := { sched := { groups := [(0, { progress := [(2, .ended)] })] } }
    let tick : State := { sol := { tickets := [(0, { complete := true })] } }
    let near := runs 4
    let far := runs 4 { regs := [(1, 1)] }
    let held := runs 100 { wait := some ⟨3, 5, .axis 1 0 0⟩ }
    let noted : State := { held with now := { met := [(0, 2)] } }
    0 < 1 ∧ 16777215 < 2 ^ 24 ∧ near.reaches g0 (rb 4) 2 3 0 true (acts near 0 true) ∧ far.reaches g0 (rb 4) 2 3 0 true (acts far 0 true)
      ∧ ((acts near 0 true).axisPos 0 - (acts near 0 true).w 0 1).msb = false ∧ ((acts far 0 true).axisPos 0 - (acts far 0 true).w 0 1).msb = true
      ∧ (runs 4 {} sem).reaches g0 (rb 4) 2 3 0 true (acts (runs 4 {} sem) 0 true) ∧ ((acts (runs 4 {} sem) 0 true).group 0).seq = (rb 4).seq
      ∧ ((acts (runs 4 {} sem) 0 true).group 0).endOf 2 = some .ended ∧ (2 : Nat) ≠ (rb 4).clause ∧ (1 : Nat) = (rb 4).clause
      ∧ (runs 6 {} tick).reaches g0 (rb 6) 2 5 0 false (acts (runs 6 {} tick) 0 false) ∧ (runs 6 {} tick).lockExtra 0 = 0
      ∧ mget (acts (runs 6 {} tick) 0 false).sol.tickets 0 = some { complete := true }
      ∧ (held.eng 0).run = some (rb 100) ∧ (held.eng 0).wait = some ⟨3, 5, .axis 1 0 0⟩
      ∧ mget (clk 4 held).now.met 0 = none ∧ ((clk 4 held).axisPos 0 - 0).msb = false ∧ (clk 4 held).clk = 0 + 0 + 4 ∧ mget noted.now.met 0 = some 2
      ∧ 4 < 5 ∧ (rb 100).count + (3 + 4) < (rb 100).budget ∧ 0 + 0 + 5 ≤ (clk 5 held).clk ∧ mget (clk 5 held).now.met 0 = none
      ∧ (rb 100).count + (3 + 5) < (rb 100).budget := by
  unfold State.reaches State.executes; decide +kernel

theorem witness_ClauseEnds :
    ((runs 2).eng 0).run = some (rb 2) ∧ (rb 2).clause < 256
      ∧ ((acts (runs 2) 0 false).eng 0).run = some (rb 2) ∧ (runs 2).lockExtra 0 = 0 ∧ (runs 2).reaches g0 (rb 2) 1 1 0 false (acts (runs 2) 0 false)
      ∧ decodeSirwen 0 0xFFFFFFFF 0 = none ∧ (rb 2).budget ≤ { runs 2 with clk := 2 }.countNow (rb 2) := by
  unfold State.reaches State.executes; decide +kernel

theorem witness_EnginesLeaveService :
    let l : Run := { rb 9 with lock := true }
    let s : State := ({} : State).setEng 0 { run := some l }
    let q : State := { (({} : State).setEng 6 { selftest := true }) with clk := 20000 }
    (s.eng (s.leadOf 0)).run = some l ∧ (s.eng (2 * 0)).run = some l ∧ l.lock = true
      ∧ (q.eng (2 * 3)).selftest = true ∧ (q.eng (2 * 3)).endClk + 20000 ≤ q.clk := by decide +kernel

theorem witness_GuardAndBudget :
    (runs 2).guardedOff g1 (rb 2) 1 ∧ (runs 3).guardedOff g1 (rb 3) 2 ∧ (runs 5).guardedOff g1 (rb 5) 4
      ∧ ((runs 1).eng 0).run = some (rb 1) ∧ ((runs 1).eng 0).guard g0 = true ∧ g0.wf = true ∧ (rb 0).budget < (rb 0).count + 1
      ∧ ((runs 0).eng 0).wait = none ∧ (rb 1).budget = (rb 1).count + 1 := by
  unfold State.guardedOff; decide +kernel

theorem witness_OwnResults :
    let u := clk 1 (runs 3 {} (owned 63 0))
    let s := acts u 1 false
    u.lockExtra 0 = 0 ∧ u.reaches g0 (rb 3) 1 2 1 false s ∧ s.owner 63 = s.ownerOf 0 ∧ s.ownerCode 0x3B = true ∧ s.ownerCode 0x3C = false
      ∧ s.owner 0 ≠ s.ownerOf 0 ∧ (255 : Nat) < 256 := by
  unfold State.reaches State.executes; decide +kernel

theorem witness_Submissions :
    let put := fun (b o : Nat) (w : Word) (at_ : Nat) => clk 3 (runs 5 { regs := [(1, BitVec.ofNat 32 (b * 32768 + at_))] }
      ((owned b o).storeWords (bankAddr b at_) [w]))
    let u := put 2 ownSol 0x00800000 32672
    let full : State := { u with sol := { tickets := (List.range 64).map (fun k => (k, {})) } }
    let s := acts u 3 false
    u.lockExtra 0 = 0 ∧ u.reaches g0 (rb 5) 1 4 3 false s ∧ addrOff (s.w 0 1) = 32672 ∧ addrOff (s.w 0 1) % 4 = 0
      ∧ s.owner (addrBank (s.w 0 1)) = ownSol ∧ fld (s.bankWord 2 32672) 31 23 = 1 ∧ 32672 + 4 * (8 + 16 * 1) ≤ 32768
      ∧ s.freeTicket = some 0 ∧ (acts full 3 false).freeTicket = none ∧ full.reaches g0 (rb 5) 1 4 3 false (acts full 3 false) := by
  unfold State.reaches State.executes; decide +kernel

/-- A sequencer descriptor that passes every check: one state, one input, one step, one iteration, its blocks in bank 0 and
its workspace in banks 1 and 2, all with the sequencer. -/
def descr (s : State := {}) : State :=
  (owned 2 ownOpt (owned 1 ownOpt (owned 0 ownOpt s))).storeWords 0
    [0x04104001, 0, 0, 1, 1, 1, 0x00400020, 0x100, 0x140, 0x180, 0, 0, 0x1C0, 0, 0x400, 6, 0, 0, 0, 0]

theorem witness_Submissions_sequencer :
    let u := clk 3 (runs 5 { regs := [(1, 0)] } (descr {}))
    let s := acts u 3 false
    let busy : State := { u with opt := { run := some { clause := 1, seq := 0, ticket := 0, bank := 0, off := 0, grant := 0, limit := 0, start := 0 } } }
    let ended : State := { u with opt := { endClk := some 3 } }
    u.lockExtra 0 = 0 ∧ u.reaches g0 (rb 5) 1 4 3 false s ∧ addrOff (s.w 0 1) % 4 = 0 ∧ s.owner (addrBank (s.w 0 1)) = ownOpt
      ∧ addrOff (s.w 0 1) + 80 ≤ 32768 ∧ s.optSizeBad (s.optHdr 0 0) = false ∧ s.opt.run = none ∧ s.opt.endClk ≠ some s.clk
      ∧ s.freeTicket = some 0 ∧ busy.reaches g0 (rb 5) 1 4 3 false (acts busy 3 false) ∧ (acts busy 3 false).opt.run ≠ none
      ∧ (acts busy 3 false).optSizeBad ((acts busy 3 false).optHdr 0 0) = false
      ∧ ended.reaches g0 (rb 5) 1 4 3 false (acts ended 3 false) ∧ (acts ended 3 false).opt.endClk = some (acts ended 3 false).clk := by
  unfold State.reaches State.executes; decide +kernel

/-- Engine 0 in clock n − 1 of an instruction of `n` clocks that issued at clock 0. -/
def blockCmd (n : Nat) : State :=
  clk (n - 1) (runs (n + 1) { regs := [(1, 0), (2, 0)] }
    ((owned 0 0 (rs [(Reg.BTL_MRX 0, 0x80000000), (Reg.CFD_TXQ 0 0, 1)])).storeWords 0 [0x40000000]))

theorem witness_StagedOutputsAndLogs :
    let u := blockCmd
    let s := fun n => acts (u n) (n - 1) false
    (1 : Nat) ≠ 0 ∧ (u 2).lockExtra 0 + (u 2).stallOf (addrBank ((u 2).w 0 1)) 0 = 0
      ∧ (u 2).reaches g0 (rb 3) 1 2 1 false (s 2) ∧ (s 2).swapFits 0 (.swap false (fld ((s 2).w 0 1) 5 0) 64) = true
      ∧ 4 + ceilDiv 4096 4 = 1028 ∧ (u 1028).reaches g0 (rb 1029) 1 1028 1027 false (s 1028)
      ∧ addrOff ((s 1028).w 0 1) % 4 = 0 ∧ addrOff ((s 1028).w 0 1) + 4 * 4096 ≤ 32768 ∧ (s 1028).owner 0 = (s 1028).ownerOf 0
      ∧ (s 1028).segmentFits 0 4096 = true := by
  unfold State.reaches State.executes; decide +kernel

theorem witness_StagedOutputsAndLogs_telegrams :
    let u := blockCmd
    let s := fun n => acts (u n) (n - 1) false
    let full : State := { u 6 with evr := { intake := List.replicate 256 ⟨1, false, false, false, false, 0, 0, 0, 0, 0, .program 0 0 []⟩ } }
    5 + ceilDiv 1024 16 = 69 ∧ (u 69).reaches g0 (rb 70) 2 69 68 false (s 69)
      ∧ addrOff ((s 69).w 0 1) + 1024 ≤ 32768 ∧ (s 69).owner 0 = (s 69).ownerOf 0
      ∧ bit ((s 69).w 0 2) 16 = false ∧ (s 69).telegramFits 0 (fld ((s 69).w 0 2) 15 0) 1024 = true
      ∧ (u 6).reaches g0 (rb 7) 1 6 5 false (s 6) ∧ ((s 6).w 0 2).toNat < 6
      ∧ bit ((s 6).bankWord 0 0) 30 = true ∧ (s 6).canStaged 0 0 < (s 6).canQuota 0 0
      ∧ (8191 : Nat) < 8192 ∧ (s 6).evr.closed = false ∧ (s 6).evr.intake = []
      ∧ full.reaches g0 (rb 7) 1 6 5 false (acts full 5 false) ∧ (acts full 5 false).evr.closed = false
      ∧ 256 ≤ ((acts full 5 false).evr.intake.filter (fun q => q.part == 0)).length := by
  unfold State.reaches State.executes; decide +kernel

theorem witness_SafetyInstructions :
    let l : Run := { rb 5 with lock := true }
    let u : State := clk 3 ((rs [(Reg.SAF_OCFG 15, 0x80000000)]).setEng 0 { run := some l, regs := [(1, 0x8001)] })
    l.lock = true ∧ u.reaches g0 l 1 4 3 false (acts u 3 false) ∧ bit ((acts u 3 false).w 0 1) 15 = true
      ∧ (rb 5).lock = false ∧ (runs 2).executes g0 (rb 2) 1 1 ∧ (acts u 3 false).isSafOut 15 = true := by
  unfold State.reaches State.executes; decide +kernel

/-! ### Register writes, clauses, full stops, power, banks -/

theorem witness_RegisterWrites :
    let a : Fin 65536 := 0x0D00
    let s : State := {}
    let due : State := rs [(Reg.SCH_GAX 0, 0x80000000)] { sched := { on := true, groups := [(0, { due := true })] }, boot := { stage := .running } }
    s.turnOf (.svc 15) = true ∧ s.turnOf (.eng 7) = true ∧ s.decoded a = true ∧ isStaged a = true ∧ a.val ≠ Reg.OPT_FBLIM ∧ a.val ≠ Reg.LPE_SWAP
      ∧ ¬ (0x0901 ≤ a.val ∧ a.val < 0x0A00 ∧ a.val % 4 = 1) ∧ s.stopReal 15 = false ∧ (s.group 15).overflowed = false ∧ (s.group 15).pend.length < 128
      ∧ s.decoded 0x0300 = false ∧ bit 1 0 = true ∧ due.stopReal 0 = true ∧ due.turnOf (.eng 0) = true ∧ due.regF Reg.SYS_CPSEL 3 0 = 0
      ∧ ({ s with sched := { counts := [(255, { endCount := 5 })] } } : State).counts (fld 255 7 0) = { endCount := 5 }
      ∧ (1 ≤ fld 0x0010100A 23 20 ∧ fld 0x0010100A 23 20 ≤ 8 ∧ fld 0x0010100A 19 12 ≠ 0 ∧ 10 ≤ fld 0x0010100A 11 0 ∧ fld 0x0010100A 11 0 ≤ 4000)
      ∧ (fld 0x00801FA0 23 20 ≤ 8 ∧ fld 0x00801FA0 11 0 = 4000) ∧ 4000 < fld 0x00801FA1 11 0
      ∧ 2 ≤ ({ boot := { sessions := [(1, { level := 2 })] } } : State).svcLevel ∧ fld 1 1 0 < 2 := by decide +kernel

theorem witness_TriggersMakeReady :
    let s : State := rs [(Reg.SCH_CDA 1, 0x80000000), (Reg.SCH_GAX 0, 0x80000000)]
      { sched := { on := true, groups := [(0, { trigNext := [(1, 0)] })] } }
    let c : State := rs [(Reg.SCH_CDA 1, 0x90000000), (Reg.SCH_CDC 1, 31), (Reg.SCH_CMPC 31, 0x80000000), (Reg.SCH_GAX 0, 0x80000000)]
      { sched := { cmp := [(31, { fire := true })] } }
    let j : State := rs [(Reg.SCH_CDA 1, 0xB0000000), (Reg.SCH_CDC 1, 0xC0020304), (Reg.SCH_GAX 0, 0x80000000)]
      { clk := 1, sched := { groups := [(0, { progress := [(2, .ended), (3, .budget), (4, .ended)] })] } }
    s.clauseEn 1 = true ∧ s.groupEn (s.clauseGroup 1) = true ∧ s.sched.ready.any (fun r => r.clause == 1) = false
      ∧ mget (s.group 0).trigNext 1 = some 0 ∧ s.clauseType 1 = 0 ∧ s.groupAxis 0 = 0 ∧ (s.tmbNs - 0).msb = false ∧ s.noStep ∧ s.sched.on = true
      ∧ c.clauseEn 1 = true ∧ c.groupEn (c.clauseGroup 1) = true ∧ c.clauseType 1 = 1 ∧ c.regF (Reg.SCH_CDC 1) 4 0 = 31
      ∧ c.regB (Reg.SCH_CMPC 31) 31 = true ∧ (mgetD c.sched.cmp 31 {}).fire = true ∧ c.fireFirst 31 = true ∧ c.noStep
      ∧ j.clauseEn 1 = true ∧ j.groupEn (j.clauseGroup 1) = true ∧ j.clauseType 1 = 3 ∧ j.conjNames 1 ≠ []
      ∧ (j.conjNames 1).map (j.group 0).endOf = [EndState.ended, .budget, .ended].map some
      ∧ (∀ n ∈ j.conjNames 1, (j.counts n).endClk < j.clk) ∧ (j.group 0).conjFired.contains 1 = false := by
  unfold State.noStep; decide +kernel

theorem witness_DispatchResults :
    let s : State := { sched := { on := true, ready := [⟨255, {}⟩] } }
    s.idle 0 = true ∧ s.sched.on = true ∧ s.pickReady 0 = some ⟨255, {}⟩ := by decide +kernel

theorem witness_AxisResults :
    let s : State := rs [(Reg.SCH_AXSRC 7, 0x40)] (atNs 1000)
    let l : State := rs [(Reg.SCH_AXSRC 1, 0x10)] { sched := { axes := [(1, { valid := true })] } }
    let r : State := rs [(Reg.SCH_AXSRC 1, 0x40)] { sched := { axes := [(1, { lost := true })] } }
    s.tb.lastTick < s.tb.t / 1000 ∧ s.regF (Reg.SCH_AXSRC 7) 6 4 = 4 ∧ mget s.now.ticked 7 ≠ some (s.tb.t / 1000) ∧ l.regF (Reg.SCH_AXSRC 1) 6 4 ≠ 0
      ∧ l.regF (Reg.SCH_AXSRC 1) 6 4 ≠ 4 ∧ (l.axis 1).valid = true ∧ l.axisSourceValid 1 = false
      ∧ (r.axis 1).lost = true ∧ r.axisSourceValid 1 = true := by decide +kernel

theorem witness_FullStopResults :
    let s := fun (x : Group) => rs [(Reg.SCH_GAX 15, 0x80000001)] { sched := { on := true, groups := [(15, x)] }, boot := { stage := .running }, tb := { el := 1000000 } }
    (s {}).boot.stage = .running ∧ (s {}).sched.on = true ∧ (s {}).groupEn 15 = true ∧ (s { due := true }).stopFirst 15 = true ∧ (s {}).noStep
      ∧ (s { due := true, forcedInCycle := true }).stopFirst 15 = true ∧ (s {}).forcedFirst 15 = true ∧ (s {}).stopsTaken = true ∧ ((s {}).group 15).due = false
      ∧ ((s { due := true }).group 15).due = true ∧ ((s { due := true }).group 15).forcedInCycle = false
      ∧ (s {}).regF (Reg.SCH_GAX 15) 15 0 ≠ 0 ∧ ((s {}).group 15).elapsed + (s {}).regF (Reg.SCH_GAX 15) 15 0 * 1000000 ≤ (s {}).tb.el
      ∧ ((s { due := true, forcedInCycle := true }).group 15).forcedInCycle = true := by
  unfold State.noStep; decide +kernel

theorem witness_PowerResults :
    let run : State := rs [(Reg.PWR_MARGIN, 0x6432)] { boot := { stage := .running, avs := [(2, { high := 15 })] } }
    let off : State := { boot := { stage := .off, holdReset := [0], lostNow := [0] } }
    let gone : State := { boot := { lostNow := [6] } }
    ({} : State).boot.lostNow.contains 6 = false ∧ resetDomain 6 = false ∧ resetDomain 0 = true ∧ ({} : State).boot.stage ≠ .off
      ∧ off.boot.lostNow.contains 0 = true ∧ off.boot.stage = .off ∧ off.boot.holdReset = [0] ∧ gone.boot.lostNow.contains 6 = true
      ∧ run.boot.stage = .running ∧ (45 : Int) < (run.regF Reg.PWR_MARGIN 7 0 : Nat) - 4 ∧ ((run.regF Reg.PWR_MARGIN 7 0 : Nat) : Int) - 4 ≤ 46
      ∧ (46 : Int) < (run.regF Reg.PWR_MARGIN 7 0 : Nat) ∧ ((run.regF Reg.PWR_MARGIN 7 0 : Nat) : Int) ≤ 99
      ∧ (mgetD run.boot.avs 2 {}).high = 15 ∧ run.regB (Reg.PWR_AVS 2) 31 = false ∧ ({} : State).turnOf (.svc 0) = true
      ∧ (∀ q ∈ ({ boot := { powering := [(4, 0)] }, tb := { el := 50000 } } : State).boot.imgVals, blockPorts 4 q.1 = false)
      ∧ (99 : Int) < (run.regF Reg.PWR_MARGIN 15 8 : Nat) ∧ 2 ≤ fld 0x0302 7 0 ∧ fld 0x0302 7 0 < fld 0x0302 15 8 ∧ fld 0x0202 15 8 ≤ fld 0x0202 7 0
      ∧ (∀ b < 5, bit 0x1F b = true → ({} : State).regB Reg.PWR_OFF b = false → ({} : State).blockBusy b = false)
      ∧ (4 < 5 ∧ bit 0x10 4 = true ∧ (rs [(Reg.MBK_RTS 0, 0x80400000)]).regB Reg.PWR_OFF 4 = false
          ∧ (rs [(Reg.MBK_RTS 0, 0x80400000)]).blockBusy 4 = true)
      ∧ (4, 0) ∈ ({ boot := { powering := [(4, 0)] }, tb := { el := 50000 } } : State).boot.powering
      ∧ 0 + 50000 ≤ ({ tb := { el := 50000 } } : State).tb.el := by decide +kernel

theorem witness_RouteResults :
    let rts : Word := 0x81800200
    let rtb : Word := 0xFC000002
    let s : State := rs [(Reg.MBK_RTS 63, rts), (Reg.MBK_RTB 63, rtb), (Reg.MBK_RTC 63, 1)]
      (owned 63 (sourceOwner (fld rts 25 22) (fld rts 21 16)) { banks := { routeQ := [(63, [7])] } })
    takeRoute 63 s.banks.routeQ = some ([7], []) ∧ s.Canonical ∧ bit (s.reg (Reg.MBK_RTS 63)) 31 = true ∧ routeBad rts rtb = false
      ∧ fld rts 9 6 = 8 ∧ s.owner (fld rtb 31 26) = sourceOwner (fld rts 25 22) (fld rts 21 16)
      ∧ s.regF (Reg.MBK_RTC 63) 12 0 < fld rtb 12 0 ∧ bit (({} : State).reg (Reg.MBK_RTS 63)) 31 = false := by
  unfold State.Canonical; decide +kernel

theorem witness_BankResults :
    let rest : State := rs [(Reg.MBK_RETCTL, 0x80000001)] (owned 63 0 { clk := 400 })
    let asleep : State := { banks := { power := [(63, .retention)] } }
    let used : State := { banks := { inUse := [(63, 0)] } }
    let comm : State := { boot := { sessions := [(1, { level := 2 })] } }
    let v : Word := 0x003F0000
    ({} : State).turnOf (.eng 7) = true ∧ ({} : State).turnOf (.svc 0) = true ∧ ¬ (({} : State).owner (fld v 21 16) < 8) ∧ (8 ≤ comm.owner (fld v 21 16) ∧ 2 ≤ comm.svcLevel)
      ∧ (owned 63 0).owner (fld v 21 16) = (owned 63 0).ownerOf 0
      ∧ ({} : State).ownerCode (fld v 15 8) = true ∧ ({} : State).isRing 63 = false ∧ ({} : State).dmaHolds 63 = false
      ∧ ({} : State).bankInUse 63 = false ∧ used.bankInUse (fld v 21 16) = true
      ∧ rest.regB Reg.MBK_RETCTL 31 = true ∧ rest.restOwner (rest.owner 63) = true ∧ rest.keptAwake 63 = false ∧ rest.isRing 63 = false
      ∧ mget rest.banks.power 63 = none ∧ mgetD rest.banks.lastUse 63 0 + 400 * rest.regF Reg.MBK_RETCTL 15 0 ≤ rest.clk
      ∧ asleep.bankAsleep 63 = true ∧ (1 : Nat) ≠ 0 := by decide +kernel

theorem witness_DmaResults :
    let v : Word := 0x80200000
    let s : State := rs [(Reg.MBK_DB 0, 0xFFF80000)] (owned 0 0x38)
    let busy : State := { banks := { dma := [(2, { pending := true, len := 1 })] } }
    s.turnOf (.eng 0) = true ∧ busy.turnOf (.svc 15) = true ∧ bit v 31 = true ∧ fld v 30 29 = 0 ∧ fld v 24 21 ≠ 0 ∧ s.regF (Reg.MBK_DB 0) 31 19 + 1 = 8192
      ∧ s.regF (Reg.MBK_DB 0) 12 0 + (s.regF (Reg.MBK_DB 0) 31 19 + 1) ≤ 8192
      ∧ s.regF (Reg.MBK_DA 0) 28 0 / 4 * 4 + 4 * (s.regF (Reg.MBK_DB 0) 31 19 + 1) ≤ 536870912 ∧ (s.dmaCh 0).pending = false
      ∧ s.owner (s.regF (Reg.MBK_DB 0) 18 13) = 0x38 + 0 ∧ (busy.dmaCh 2).pending = true ∧ busy.Canonical
      ∧ (busy.dmaCh 2).complete = false ∧ (busy.dmaCh 2).dir = 0
      ∧ ({ banks := { dma := [(2, { pending := true, dir := 1 })] } } : State).dmaCh 2 = { pending := true, dir := 1 } := by
  unfold State.Canonical; decide +kernel

/-! ### Solver, sequencer, loop engine -/

/-- A batch of one SCALE of a one by one matrix: descriptor in bank 2, matrix in bank 3. -/
def oneOp : Batch :=
  { clause := 1, seq := 0, ticket := 0, bank := 2, off := 0, count := 1, prio := 0, dlen := false, deadline := 0, nen := false,
    arel := false, ncl := 0 }

/-- The batch accepted, `w` the first word of its header. -/
def withBatch (x : Batch) (w : Word) : State :=
  (owned 3 ownSol (owned 2 ownSol { sol := { next := 1, batches := [(0, x)], tickets := [(0, { count := 1 })] } })).storeWords (bankAddr 2 0)
    [w, 0, 0, 0, 0, 0, 0, 0, 0x34000001, 0, 0x0C000001, 0x02080000, 0, 0, 0x0C000001, 0x02080000]

theorem witness_SolverResults :
    let s := withBatch oneOp 0x00800000
    let bad := withBatch oneOp 0x00800100
    let o : SolOp := { words := [0x34000001, 0, 0x0C000001, 0x02080000, 0, 0, 0x0C000001, 0x02080000] }
    let v : Batch := { oneOp with valid := true, ops := [o] }
    let f : Batch := { oneOp with valid := true, ops := [{ o with st := .flight }] }
    let d : Batch := { v with dlen := true }
    let g : Batch := { d with dead := true }
    s.batch 0 = some oneOp ∧ oneOp.valid = false ∧ s.batchFault oneOp = none ∧ s.batchDue oneOp = false
      ∧ bad.batchFault oneOp = some (0, false, 0) ∧ (withBatch v 0).sol.batches = [(0, v)] ∧ v.valid = true ∧ v.dead = false
      ∧ (withBatch v 0).batchDue v = false ∧ v.ops[0]? = some o ∧ v.ready 0 = true ∧ (∀ k < 0, v.ready k = false)
      ∧ (rs [(Reg.SOL_INFL, 63)] (withBatch v 0)).regF Reg.SOL_INFL 7 0 < 64
      ∧ (withBatch f 0).batch 0 = some f ∧ (f.ops[0]?.map SolOp.st) = some .flight ∧ (withBatch f 0).pastDue f ≤ 2000
      ∧ 2000 ≤ (clk 0 { withBatch g 0 with tb := { t := 3000 } }).pastDue g ∧ g.dead = true
      ∧ (withBatch d 0).batch 0 = some d ∧ (withBatch d 0).batchDue d = true
      ∧ s.regB Reg.SOL_TILE 3 = false ∧ s.sol.testing.contains 3 = false
      ∧ ({ sol := { testing := [3] } } : State).sol.testing.contains 3 = true ∧ s.portOff Reg.SOL_TREL = false ∧ s.turnOf (.eng 0) = true ∧ (∀ e < 8, s.ticketWaited e 63 = false)
      ∧ mget ({ sol := { tickets := [(63, { complete := true })] } } : State).sol.tickets (fld 63 5 0) = some { complete := true }
      ∧ mget ({} : State).sol.tickets (fld 63 5 0) = none := by decide +kernel

/-- A run of the descriptor at bank 0, offset 0. -/
def optRun0 : OptRun :=
  { clause := 1, seq := 0, ticket := 0, bank := 0, off := 0, grant := 2, limit := 0, start := 0 }

/-- The run in the sequencer. -/
def withRun (r : OptRun) (s : State := {}) : State := { descr s with opt := { run := some r } }

theorem witness_SequencerResults :
    let bad : State := owned 2 0 (withRun optRun0)
    let it := { optRun0 with phase := .iterate }
    let withJob := fun (q : JobState) (r : OptRun) => withRun r { sol := { jobs := [(1, q)] } }
    let h := (withRun optRun0).optHdr 0 0
    let p : OptPass := { iter := 1, rp := 0, cm := 0, plan := {} }
    (withRun optRun0).opt.run = some optRun0 ∧ optRun0.phase = .check ∧ (withRun optRun0).optFault h = none ∧ optRun0.done = 0
      ∧ 0 < h.iter ∧ (withRun optRun0).optDue h = false ∧ bad.optFault (bad.optHdr 0 0) = some 15
      ∧ it.phase = .iterate ∧ ((withRun it).job 1).busy = false ∧ ((withRun it).job 1).late = false ∧ ((withRun it).job 1).bad = false
      ∧ it.next.2 = false ∧ h.iter ≤ it.done + 1 ∧ it.done + 1 < { h with iter := 2 }.iter
      ∧ ((withJob { bad := true } it).job 1).bad = true ∧ ((withJob { late := true } it).job 1).late = true
      ∧ { it with phase := .publish }.phase = .publish ∧ h.warm = false ∧ { it with phase := .publish, best := some p }.best = some p
      ∧ p.iter = h.iter ∧ { p with iter := 0 }.iter ≠ h.iter ∧ (((withRun optRun0).storeWords 4 [0x10000000]).optHdr 0 0).warm = true ∧ ({} : State).turnOf (.svc 15) = true ∧ ({} : State).stopReal 15 = false
      ∧ ({} : State).portOff Reg.OPT_FBLIM = false ∧ fld 0xFFFFFF00 7 0 = 0 ∧ fld 1 7 0 ≠ 0
      ∧ (({} : State).group 15).overflowed = false ∧ (({} : State).group 15).pend = [] := by decide +kernel

/-- Slot 63 enabled with a period of 1 µs. -/
def slotOn (x : LoopSlot) (s : State := {}) : State :=
  rs [(Reg.LPE_CFG 63, 0x80000000), (Reg.LPE_TRG 63, 1), (Reg.LPE_GRACE 63, 1), (Reg.LPE_CTL, 5)] { s with lpe := { slots := [(63, x)] } }

theorem witness_LoopSlotResults :
    let m : LoopSample := { el := 0, lane := 3, sp := 0, fb := 0, ff := 0, lossAny := false, fbValid := true, ffValid := true, page := 0 }
    let r : LoopResult := { st := {}, u := 1, e := 2, flags := 0, mode := 0, feSince := none, frz := 0 }
    let s := slotOn {} (atNs 1000)
    let p := slotOn { samples := [m] } (atNs 5000)
    let q := slotOn { samples := [{ m with result := some r }] } (atNs 5000)
    let e := slotOn { mode := 1 } (atNs 1000)
    s.regB (Reg.LPE_CFG 63) 31 = true ∧ s.regB (Reg.LPE_TRG 63) 31 = false ∧ 0 < s.regF (Reg.LPE_TRG 63) 19 0 * 1000
      ∧ (s.slot 63).lastInst < s.tb.t / (s.regF (Reg.LPE_TRG 63) 19 0 * 1000) * (s.regF (Reg.LPE_TRG 63) 19 0 * 1000)
      ∧ s.noStep ∧ s.turnOf (.eng 0) = true ∧ s.turnOf (.svc 15) = true ∧ p.lpe.lanesOut.contains 3 = false ∧ p.laneNext 3 = some (63, { samples := [m] }, m)
      ∧ (p.slot 63).samples = m :: [] ∧ m.el + p.regF Reg.LPE_CTL 7 0 * 1000 ≤ p.tb.el ∧ m.result = none
      ∧ (q.slot 63).samples = { m with result := some r } :: [] ∧ (q.slot 63).mode ≠ 2
      ∧ e.regB (Reg.LPE_CFG 63) 31 = true ∧ (e.slot 63).mode = 1 ∧ (e.reg (Reg.LPE_GRACE 63)).toNat * 1000 ≤ e.tb.el - (e.slot 63).reactEl
      ∧ s.portOff Reg.LPE_ARM = false ∧ s.regB (Reg.LPE_CFG (fld 63 5 0)) 31 = true ∧ s.portOff Reg.LPE_SWAP = false
      ∧ bit 0x3F00 31 = false ∧ s.swapFits 15 (.swap false (fld 0x3F00 5 0) (fld 0x3F00 13 8 + 1)) = true
      ∧ s.portOff (Reg.LPE_PAGE 63 1 23) = false ∧ (s.slot 63).page ≠ 1 ∧ (s.slot 63).page = 0 := by
  unfold State.noStep; decide +kernel

theorem witness_LoopOutputsAreLimited :
    let m : LoopSample := { el := 0, lane := 0, sp := 0, fb := 0, ff := 0, lossAny := false, fbValid := true, ffValid := true, page := 1 }
    let s := rs [(Reg.LPE_PAGE 63 1 5, 1), (Reg.LPE_PAGE 63 1 21, 1)] (slotOn {})
    ({} : LoopSlot).mode ≠ 2 ∧ (s.evaluate 63 {} m).mode = 0 ∧ (s.page 63 1 4).toInt ≤ (s.page 63 1 5).toInt
      ∧ (s.page 63 1 20).toInt ≤ (s.page 63 1 21).toInt ∧ (s.page 63 1 22).toInt = 0 := by decide +kernel

/-! ### Fusion, satellite baseband -/

theorem witness_FusionResults :
    let on : State := rs [(Reg.FUS_CTL, 0xA0000001), (Reg.FUS_SCFG 12, 0x80000000)] (atNs 1000)
    let v : Word := 0x00000C04
    let e : FusEntry := { frame := 0, slot := 0, words := [], tm := 0, slip := false }
    let u : FusUpdate := { accepted := [], used := [e] }
    let at1 := fun (f : Fusion) => ({ on with fus := f } : State)
    on.portOff Reg.FUS_POST = false ∧ fld v 12 8 ≤ 12 ∧ fld v 6 0 ≠ 0
      ∧ fld v 6 0 = elemLen (on.rfType 12) (on.preg (partyNo (.eng 7)) (Reg.FUS_PBUF 0)) ∧ on.fusOn = true
      ∧ on.regB (Reg.FUS_SCFG 12) 31 = true ∧ 12 < fld 0x0D04 12 8
      ∧ on.portOff Reg.FUS_UPD = false ∧ on.regB Reg.FUS_CTL 29 = true ∧ (at1 { upd := some u }).fus.upd ≠ none
      ∧ (at1 { queue := [e] }).fus.upd = none ∧ (at1 { queue := [e] }).fus.queue = [e]
      ∧ turnDiff (BitVec.ofNat 32 (e.frame * on.fper)) 0 ≤ 0
      ∧ 0 < on.fper ∧ on.fus.lastInst < on.tb.t / on.fper * on.fper ∧ (at1 { prop := true }).fus.prop = true ∧ ((at1 { prop := true }).job 2).busy = false
      ∧ (let late := ({ at1 { prop := true } with sol := { jobs := [(2, { late := true }), (3, { bad := true })] } } : State)
         (late.job 2).busy = false ∧ (late.job 2).late = true ∧ (late.job 3).busy = false ∧ (late.job 3).bad = true)
      ∧ (at1 { upd := some u }).fus.heldUpd = none ∧ (at1 { upd := some u }).fus.owed = 0 ∧ ((at1 { upd := some u }).job 3).busy = false
      ∧ on.noStep ∧ on.turnOf (.eng 7) = true ∧ on.turnOf (.svc 15) = true
      ∧ (atNs 1000000).fus.imuTick < (atNs 1000000).tb.t / 1000000
      ∧ 20 ≤ (at1 { imuBad := 20 }).fus.imuBad ∧ (at1 { imuBad := 20 }).fus.imuf = false
      ∧ (at1 { imuf := true, imuGood := 1000 }).fus.imuf = true ∧ 1000 ≤ (at1 { imuf := true, imuGood := 1000 }).fus.imuGood
      ∧ (rs [(Reg.FUS_CTL, 0x80000001), (Reg.FUS_DRLIM, 1)] (atNs 1000000000)).fusOn = true ∧ on.fus.posunc = false
      ∧ (rs [(Reg.FUS_CTL, 0x80000001), (Reg.FUS_DRLIM, 1)] (atNs 1000000000)).regF Reg.FUS_DRLIM 11 0 * 1000
          ≤ (rs [(Reg.FUS_CTL, 0x80000001), (Reg.FUS_DRLIM, 1)] (atNs 1000000000)).fusDrt
      ∧ ({ fus := { wave := { okEl := some 0 } }, tb := { el := 20000000000 } } : State).fus.wave.okEl = some 0
      ∧ 20000000000 ≤ ({ fus := { wave := { okEl := some 0 } }, tb := { el := 20000000000 } } : State).tb.el - 0 := by
  unfold State.noStep; decide +kernel

theorem witness_GnssSearchResults :
    let on : State := rs [(Reg.GNB_ANT 1, 0x81000000)]
    let open1 : State := rs [(Reg.GNB_ANT 1, 0x82000000)]
    let short : State := rs [(Reg.GNB_ANT 1, 0x83000000)] (atNs 1000000000)
    let four : State := { short with gnb := { ants := [(1, { fails := 4 })] } }
    let own := owned 63 gnbOwner
    let v : Word := 0x401FFE00
    let w0 : Word := 0x00080210
    let q : AcqList := { bank := 63, off := 0, count := 1 }
    let s : State := { (owned 63 gnbOwner (atNs 1000000000)) with gnb := { acq := some q } }
    let ready := s.storeWords (bankAddr 63 0) [w0, 0, 0, 1]
    let act : AcqList := { q with active := some [w0, 0, 0, 1] }
    let mon : State := rs [(Reg.GNB_ACQCTL, 0x00010300)] { gnb := { mons := [(3, { above := 2 })] } }
    ({} : State).turnOf (.eng 7) = true ∧ ({} : State).portOff (Reg.GNB_ANT 1) = false ∧ bit 0x80000000 31 = true ∧ ({} : State).regB (Reg.GNB_ANT 1) 31 = false ∧ bit 0 31 = false
      ∧ on.antState 1 = 1 ∧ (2 : Nat) < 3 ∧ open1.antState 1 = 2 ∧ (130 : Nat) < 131 ∧ short.antState 1 = 3
      ∧ 1000000000 ≤ short.tb.el - (mgetD short.gnb.ants 1 {}).shortEl ∧ (mgetD four.gnb.ants 1 {}).fails = 4
      ∧ four.antState 1 = 3 ∧ (mgetD short.gnb.ants 1 {}).fails < 4
      ∧ own.portOff Reg.GNB_ACQ = false ∧ own.gnb.acq = none ∧ fld v 30 26 = 16 ∧ fld v 14 0 / 4 * 4 + 32 * 16 = 32768
      ∧ own.owner (fld v 20 15) = gnbOwner ∧ s.gnb.acq = some q ∧ q.active = none ∧ s.gnb.stopped = false
      ∧ ready.bankWords (bankAddr 63 0) 4 = [w0, 0, 0, 1] ∧ acqEntryOk [w0, 0, 0, 1] = true
      ∧ act.active = some (w0 :: [0, 0, 1]) ∧ acqTime w0 ≤ s.tb.el - act.el ∧ (List.range (fld w0 16 9)).flatMap (binCells w0 0 0 1 []) = []
      ∧ (List.range (fld w0 16 9)).flatMap (binCells w0 0 0 1 [⟨binFreq w0 0 1 0, 0, [1]⟩]) ≠ [] ∧ s.Canonical ∧ act.count ≤ act.cur + 1
      ∧ (0 : Nat) + 1 < { act with count := 2 }.count
      ∧ mon.regF Reg.GNB_ACQCTL 15 8 ≤ min 3 255 ∧ 2 ≤ (mgetD mon.gnb.mons 3 {}).above ∧ (mgetD mon.gnb.mons 3 {}).flag = false
      ∧ on.portOff Reg.GNB_ACQCTL = false ∧ fld 0x00010300 31 16 ≠ 0 ∧ 3 ≤ fld 0x00010300 15 8 ∧ fld 0x00013C00 15 8 = 60
      ∧ on.portOff Reg.GNB_CN0MIN = false ∧ fld 1000 15 0 = 1000 ∧ fld 4500 15 0 ≤ 4500 ∧ 4500 < fld 4501 15 0 := by
  unfold State.Canonical; decide +kernel

theorem witness_GnssChannelResults :
    let v : Word := 0x80040860
    let ok : Word := 0x32040203
    let st := fun (n : Word) (x : GnbChannel) (t : Nat) =>
      rs [(Reg.GNB_CHST 159, n <<< 29), (Reg.GNB_CHCFG 159, v), (Reg.GNB_NAVCTL, 0x80000000), (Reg.GNB_CN0MIN, 0)]
        (owned 0 gnbOwner { tb := { el := t, t := t }, gnb := { chans := [(159, x)] } })
    let full : Nat × List Bool := (7, List.replicate 32 true)
    let part : Nat × List Bool := (7, [true])
    let ep : State := rs [(Reg.GNB_EPCTL, 0x80000001)] (atNs 1000000)
    ({} : State).turnOf (.svc 0) = true ∧ ({} : State).portOff (Reg.GNB_CHCFG 159) = false ∧ prnOk (fld v 29 26) (fld v 25 18) = true ∧ fld v 17 15 ≤ 4 ∧ 2 ≤ fld v 14 10
      ∧ fld v 14 10 < fld v 9 5 ∧ bit v 31 = true ∧ bit (v &&& 0x7FFFFFFF) 31 = false ∧ tintMs (fld v 17 15) ≤ maxTint (fld v 29 26)
      ∧ (turnDiff ({} : State).tmbNs (({} : State).reg (Reg.GNB_CHT 159))).natAbs ≤ 1000000000
      ∧ ({} : State).regB (Reg.GNB_CHCFG 159) 31 = false
      ∧ ({} : State).portOff (Reg.GNB_CHLOOP 159) = false ∧ fld ok 31 24 ≠ 0 ∧ 4 ≤ fld ok 23 16 ∧ fld ok 23 16 ≤ 200 ∧ fld ok 15 8 ≠ 0
      ∧ fld ok 7 0 ≠ 0 ∧ 200 < fld 0x00C90000 23 16
      ∧ (st 1 {} 100000000).chanState 159 = 1 ∧ 100000000 ≤ (st 1 {} 100000000).tb.el - ((st 1 {} 100000000).chan 159).stateEl
      ∧ (st 3 {} 100000000).chanState 159 = 3 ∧ (st 1 {} 100000000).tb.el - ((st 1 {} 100000000).chan 159).startEl < 2000000000 ∧ 2000000000 ≤ (st 1 {} 2000000000).tb.el - ((st 1 {} 2000000000).chan 159).startEl
      ∧ (st 2 {} 0).chanState 159 = 2 ∧ (st 2 {} 0).regF Reg.GNB_CN0MIN 15 0 ≤ (st 2 {} 0).regF (Reg.GNB_CHST 159) 15 0
      ∧ ((st 2 { lowEl := some 0 } 25500000000).chan 159).lowEl = some 0
      ∧ fld ((st 2 {} 25500000000).chan 159).loop 7 0 * 100000000 ≤ (st 2 {} 25500000000).tb.el - 0
      ∧ ep.regB Reg.GNB_EPCTL 31 = true ∧ 0 < ep.regF Reg.GNB_EPCTL 15 0 * 1000000 ∧ ep.gnb.stopped = false ∧ ep.noStep
      ∧ ep.gnb.lastT / (ep.regF Reg.GNB_EPCTL 15 0 * 1000000) < ep.tb.t / (ep.regF Reg.GNB_EPCTL 15 0 * 1000000)
      ∧ ({ gnb := { blocks := [[1]] } } : State).gnb.blocks = [1] :: []
      ∧ (st 2 {} 0).regB Reg.GNB_NAVCTL 31 = true ∧ ((st 2 { syms := [full] } 0).chan 159).syms = [full] ∧ full.2.length = 32
      ∧ ((st 2 { syms := [part] } 0).chan 159).syms = [part] ∧ part.2.length < 32 ∧ (st 2 {} 0).Canonical
      ∧ (st 2 {} 0).gnb.navCount < 2047 ∧ (st 2 {} 0).owner (st 2 {} 0).navBank = gnbOwner
      ∧ 2047 ≤ ({ gnb := { navCount := 2047 } } : State).gnb.navCount := by
  unfold State.noStep State.Canonical; decide +kernel

/-! ### Timebase, Ethernet -/

theorem witness_TimeCountResults :
    let use := fun (src thr : Word) (tb : Timebase) => (rs [(Reg.TMB_STAT, src <<< 26 ||| 0x20000000), (Reg.TMB_STEPTHR, thr)] { tb := tb } : State)
    let step : State := { tb := { t := 1999999999, acc := 0, step := some (-4) } }
    let gone := use 5 0 { valid := [5], el := 2000000000 }
    let hold := (gone.setRegF Reg.TMB_STAT 31 30 2)
    ({} : State).inTurn 0 = true ∧ ({} : State).turnOf (.svc 0) = true ∧ (5 : Nat) ≠ 0 ∧ 5 = (use 5 100 {}).srcInUse ∧ (use 5 100 {}).tb.step = none
      ∧ (100000 : Int).natAbs ≤ (use 5 100 {}).regF Reg.TMB_STEPTHR 15 0 * 1000
      ∧ (use 5 100 {}).regF Reg.TMB_STEPTHR 15 0 * 1000 < (-100001 : Int).natAbs
      ∧ (use 5 100 {}).tb.everLocked = false ∧ (use 5 100 {}).tb.fresh = true
      ∧ step.tb.step = some (-4) ∧ step.tb.t / 1000000000 < (step.tb.t + (tbcAdvance step.tb.acc step.tb.rate).1) / 1000000000
      ∧ ((-4 : Int).natAbs < 0x40000000)
      ∧ gone.tb.valid.contains 5 = true ∧ gone.sourceSilent 5 = true ∧ hold.tb.valid = [5] ∧ 5 = hold.srcInUse ∧ hold.tbState = 2
      ∧ hold.regB Reg.TMB_STAT 29 = true ∧ hold.sourceSilent 5 = true
      ∧ 1 ≤ 6 ∧ ({} : State).tb.valid.contains 6 = false ∧ ({ tb := { ppsInEl := some 0 } } : State).sourceSilent 6 = false
      ∧ 180000000000 ≤ ({ tb := { el := 180000000000 } } : State).boot.ocxo + ({ tb := { el := 180000000000 } } : State).tb.el ∧ ({} : State).srcInUse = 0
      ∧ (rs [(Reg.TMB_SRV, 0x60000000)]).regF Reg.TMB_SRV 31 28 = 6
      ∧ ({} : State).tb.ppsInEl = none ∧ (use 6 0 { ppsInEl := some 0, el := 999000000 }).srcInUse = 6
      ∧ (use 6 0 { ppsInEl := some 0, el := 999000000 }).tb.ppsInEl = some 0 ∧ 999000000 ≤ (999000000 - 0 : Nat)
      ∧ (1001000000 - 0 : Nat) ≤ 1001000000
      ∧ 1000000000 < turnDiff (({ tb := { t := 1000000001 } } : State).tmbNs) 0
      ∧ turnDiff (({ tb := { t := 1000000000 } } : State).tmbNs) 0 ≤ 1000000000 := by decide +kernel

theorem witness_TimeSignalResults :
    let s := atNs 1000000000
    let early : State := { (atNs 1499999999) with tb := { (atNs 1499999999).tb with ppsEl := some 1000000000 } }
    let high : State := rs [(Reg.TMB_PPS, 0x05000000)] { tb := { el := 10000000, ppsEl := some 0, ppsHigh := true } }
    let cap := fun (tb : Timebase) => (rs [(Reg.TMB_CAP 15, 0x80000031)] { tb := tb } : State)
    let ptp : State := rs [(Reg.TMB_PTPC 3, 0x80000000), (Reg.TMB_PTPS 3, 0x60000000), (Reg.ETH_PSTAT 3, 0x80000000)]
    let trg : State := rs [(Reg.TMB_TRGA 15, 0xC0270000)] { sched := { trigDue := [15] } }
    s.tb.ppsLast < s.tb.t / 1000000000 ∧ s.noStep ∧ early.noStep ∧ s.tb.ppsEl = none ∧ early.tb.ppsEl = some 1000000000 ∧ early.tb.ppsLast < early.tb.t / 1000000000
      ∧ early.tb.el - 1000000000 < 500000000
      ∧ high.tb.ppsEl = some 0 ∧ high.tb.ppsHigh = true ∧ high.regF Reg.TMB_PPS 31 23 * 1000000 ≤ high.tb.el - 0
      ∧ (cap {}).regB (Reg.TMB_CAP 15) 31 = true ∧ (cap {}).regB (Reg.TMB_CAP 15) (if true then 4 else 5) = true
      ∧ (cap {}).regB (Reg.TMB_CAP 15) (if false then 4 else 5) = true ∧ (cap {}).regF (Reg.TMB_CAP 15) 3 0 ≠ 0 ∧ mget (cap {}).tb.capture 15 = none
      ∧ mget (cap { capture := [(15, { last := some 0 })], el := 999 }).tb.capture 15 = some { last := some 0, lost := false }
      ∧ (999 - 0 : Nat) < 1000
      ∧ trg.regB (Reg.TMB_TRGA 15) 31 = true ∧ trg.regB (Reg.TMB_TRGA 15) 30 = true ∧ trg.sched.trigDue.contains 15 = true
      ∧ trg.regF (Reg.TMB_TRGA 15) 23 20 = 2 ∧ ptp.domainOut (7 + 3) = false ∧ ptp.domainOut 6 = false ∧ ptp.regB (Reg.ETH_PSTAT 3) 31 = true
      ∧ ptp.regB (Reg.TMB_PTPC 3) 31 = true ∧ ptp.regF Reg.TMB_PTPG 6 0 = 0 ∧ 127 ≠ ptp.regF Reg.TMB_PTPG 6 0 ∧ (mgetD ptp.tb.ptp 3 {}).gm = 0
      ∧ ptp.silentFor (ptpInterval (ptp.regF (Reg.TMB_PTPC 3) 15 12)) (mgetD ptp.tb.ptp 3 {}).syncSent = true
      ∧ ptp.silentFor (ptpInterval (ptp.regF (Reg.TMB_PTPC 3) 7 4)) (mgetD ptp.tb.ptp 3 {}).annSent = true ∧ ptp.regF (Reg.TMB_PTPS 3) 31 28 = 6
      ∧ ptp.regB (Reg.TMB_PTPC 3) 28 = false := by
  unfold State.noStep; decide +kernel

/-- A telegram copy of stream 1 from source 2. -/
def tel1 : TelCopy :=
  { lan := 0, stream := 1, src := 2, unitB := false, auth := true, safe := false, seq := 7, stamp := 0, secl := 0, payload := [1] }

theorem witness_EthernetResults :
    let up : State := rs [(Reg.ETH_PCFG 1, 0xA0000000), (Reg.ETH_PSTAT 1, 0x80000000), (Reg.SYS_ADDR, 2)]
    let frame := fun k => ({ kind := k, etype := 0, udp := none, mac := 0, bytes := [] } : EthFrame)
    let sl : State := rs [(Reg.ETH_RSCFG 63, 0x80020000), (Reg.ETH_RSSTR 63, 1)]
    let w : TelWindow := { seq := 7, el := 0 }
    let win : State := { eth := { slots := [(63, { windows := [w] })] }, tb := { el := 500000 } }
    up.regB (Reg.ETH_PCFG 1) 31 = true ∧ up.regB (Reg.ETH_PSTAT 1) 31 = true ∧ (frame .badFcs).kind = .badFcs
      ∧ (frame .other).kind = .other ∧ up.filterFor 1 (frame .other) = none ∧ (frame (.twin tel1 true)).kind = .twin tel1 true
      ∧ (1 : Nat) < 2 ∧ tel1.src = up.regF Reg.SYS_ADDR 7 0
      ∧ ({} : State).slotFor tel1.stream tel1.src = none ∧ sl.slotFor tel1.stream tel1.src = some 63 ∧ tel1.safe = false
      ∧ sl.slotSafe 63 = false ∧ (sl.tel 63).windows = [] ∧ (sl.tel 63).began = none ∧ (sl.tel 63).closed = [] ∧ tel1.auth = true
      ∧ { tel1 with auth := false }.auth = false ∧ (win.tel 63).windows = [w] ∧ 500000 ≤ win.tb.el - w.el
      ∧ up.regF (Reg.ETH_PCFG 1) 30 29 = 1 ∧ up.domainOut (7 + 1) = false
      ∧ ({ up with boot := { lostNow := [8] } } : State).domainOut (7 + 1) = true := by decide +kernel

/-! ### Safety functions -/

theorem witness_SafetyInputsAndOutputs :
    let p := fun (f : FieldIo) (sf : Saf) => (rs [(Reg.SAF_PCFG 15, 0x80020001)] { field := f, saf := sf, tb := { el := 1000000 } } : State)
    let out : State := rs [(Reg.SAF_OCFG 15, 0x80010001), (Reg.SAF_STAT, 0x8000), (Reg.BTL_STAT, 0x02000000)]
      { tb := { t := 1000000, el := 1000 }, saf := { window := [] } }
    let win : State := { out with saf := { window := [(15, 0)] } }
    (p { raw := 0x80000000 } {}).regB (Reg.SAF_PCFG (31 % 16)) 31 = true ∧ bit (p { raw := 0x80000000 } {}).field.raw 31 = true
      ∧ bit (p {} {}).saf.lev 31 ≠ true ∧ (p {} {}).regF (Reg.SAF_PCFG (31 % 16)) 23 16 * 100000 ≤ (p {} {}).tb.el - mgetD (p {} {}).field.rawEl 31 0
      ∧ (p {} {}).regB Reg.SAF_PSTAT 31 = false ∧ (p {} {}).contactBad 15 = false ∧ (p {} {}).contactBad 31 = false
      ∧ mget (p {} { mixEl := [(15, 0)] }).saf.mixEl 15 = some 0
      ∧ (p {} {}).regF (Reg.SAF_PCFG 15) 8 0 * 1000000 ≤ (p {} {}).tb.el - 0
      ∧ mgetD (p { diag := [(31, 1)] } {}).field.diag 31 0 ≠ 0 ∧ (p {} {}).regB (Reg.DIO_LINK (31 / 16)) 31 = false
      ∧ (let b : State := rs [(Reg.SAF_PFLT, 0x80000000), (Reg.DIO_LINK 1, 0x80000000)] { saf := { soundEl := [(31, 0)], agreeEl := [(15, 0)] }, tb := { el := 100000000 } }
         b.contactBad 31 = true ∧ mget b.saf.soundEl 31 = some 0 ∧ mget b.saf.agreeEl (31 % 16) = some 0 ∧ 100000000 ≤ b.tb.el - 0 ∧ b.contactClean 31 = true)
      ∧ (rs [(Reg.SAF_PFLT, 0x80000000)]).contactBad 31 = true ∧ (rs [(Reg.SAF_PFLT, 0x80000000)]).contactClean 31 = false
      ∧ out.isSafOut 15 = true ∧ mget out.saf.window 15 = none ∧ out.windowIndex 15 (mgetD out.saf.winT 15 0) < out.windowIndex 15 out.tb.t
      ∧ mget win.saf.window 15 = some 0 ∧ win.regF (Reg.SAF_OCFG 15) 24 16 * 1000 ≤ win.tb.el - 0 ∧ win.hold = true
      ∧ win.regB Reg.SAF_OFLT 15 = false ∧ ({} : State).hold = false ∧ out.hold = true ∧ out.regB Reg.SAF_OFLT 15 = false := by decide +kernel

theorem witness_SafetyFunctions :
    let f := fun (t : Nat) (sf : Saf) => (rs [(Reg.SAF_FA 15, 0x80010000), (Reg.SAF_FE 15, 1), (Reg.SAF_FD 15, 0x80000000), (Reg.SAF_TWD 63, 0x80000001)]
      { saf := sf, tb := { el := t } } : State)
    let l : Run := { rb 9 with lock := true }
    let a := ((f 0 { clauses := [1] }).setEng 6 { run := some l })
    (799 : Nat) < 800 ∧ 900 < (901 : Nat) ∧ (f 60000000000 { degEl := [(15, 0)] }).funOn 15 = true
      ∧ (f 60000000000 { degEl := [(15, 0)] }).funSafe 15 = false ∧ mget (f 60000000000 { degEl := [(15, 0)] }).saf.degEl 15 = some 0
      ∧ (f 60000000000 {}).regF (Reg.SAF_FE 15) 12 0 * 60000000000 ≤ (f 60000000000 {}).tb.el - 0
      ∧ (f 1000000 {}).regF (Reg.SAF_FA 15) 27 16 * 1000000 ≤ (f 1000000 {}).tb.el - mgetD (f 1000000 {}).saf.wdEl 15 0
      ∧ (f 100000 {}).regB (Reg.SAF_TWD 63) 31 = true ∧ (f 100000 {}).saf.expired.contains 63 = false
      ∧ (f 100000 {}).regF (Reg.SAF_TWD 63) 15 0 * 100000 ≤ (f 100000 {}).tb.el - mgetD (f 100000 {}).saf.slotEl 63 0
      ∧ (a.eng 6).run = some l ∧ l.lock = true ∧ a.safetyClause l.clause = true ∧ a.turnOf (.eng 6) = true ∧ a.funOn 15 = true ∧ a.degradedOf 15 = []
      ∧ (∀ k, k < 16 → a.regB (Reg.SAF_FB 15) (16 + k) = true → a.regB Reg.SAF_OFLT k = false)
      ∧ (∀ q, q ∈ a.saf.expired → (15 : Nat) ∉ a.funsOfSlot q) ∧ 63 ∈ (f 0 { expired := [63] }).saf.expired
      ∧ 15 ∈ (f 0 { expired := [63] }).funsOfSlot 63 := by decide +kernel

/-! ### Field groups -/

/-- A frame of 240 bits `b` with its CRC. -/
def iso (b : Nat) : Nat := b * 65536 + crc16 (b * 65536) 256 240

theorem witness_FieldLinksAndInputs :
    let up := fun (g : Nat) => iso (((0xB4 * 4 + g) * 2 + 1) * 2 ^ 229)
    let down := fun (g : Nat) => iso ((0xB4 * 4 + g) * 2 * 2 ^ 229)
    let lost : State := rs [(Reg.DIO_LINK 2, 0x80000000), (Reg.BTL_STAT, 0x02000000)] (atNs 16000)
    let back : State := { field := { run := [(0, 4)] } }
    let side := fun (f : FieldIo) (t : Nat) => (rs [(Reg.DIO_LLT, 1), (Reg.CLO_LLT, 1)] { field := f, tb := { el := t } } : State)
    let inp := fun (d : Nat) => (rs [(Reg.DIO_ICFG 31, 0xB0000000), (Reg.DIO_WBF, 1)] { field := { diag := [(31, d)] } } : State)
    (∀ g < 4, up g < 2 ^ 256 ∧ isoValid g true (up g) = true ∧ isoValid g true 0 = false ∧ isoValid g false 0 = false)
      ∧ (∀ g < 4, 2 ≤ g → down g < 2 ^ 256 ∧ isoValid g false (down g) = true)
      ∧ lost.regB (Reg.DIO_LINK 2) 31 = true ∧ 16000 ≤ lost.tb.el - mgetD lost.field.upEl 2 0 ∧ lost.hold = true
      ∧ back.regB (Reg.DIO_LINK 0) 31 = false ∧ 4 ≤ mgetD back.field.run 0 0
      ∧ (mgetD (side {} 16000).field.side 2 {}).held = false ∧ 16000 ≤ (side {} 16000).tb.el - (mgetD (side {} 16000).field.side 2 {}).el
      ∧ (mgetD (side {} 10000).field.side 3 {}).safe = false
      ∧ (side {} 10000).regF (if (3 : Nat) = 2 then Reg.DIO_LLT else Reg.CLO_LLT) 13 0 * 10000 ≤ (side {} 10000).tb.el - (mgetD (side {} 10000).field.side 3 {}).el
      ∧ (side { pubs := [⟨0, none, 5⟩] } 11900).field.pubs = ⟨0, none, 5⟩ :: [] ∧ 0 + 11900 ≤ (side {} 11900).tb.el
      ∧ (⟨0, some 7, 5⟩ : FieldPub).loop = some 7
      ∧ (inp 0).regB (Reg.DIO_ICFG 31) 31 = true ∧ (inp 0).regB (Reg.DIO_ICFG 31) 29 = true ∧ (inp 0).belowBreak 31 0 24000 = true
      ∧ mgetD (inp 0).field.diag 31 0 = 0 ∧ (inp 0).regB (Reg.DIO_ICFG 31) 28 = true ∧ 24000 ≤ 23000 + 1000
      ∧ (inp 1).belowBreak 31 24000 24000 = false ∧ mgetD (inp 1).field.diag 31 0 = 1 ∧ 22999 + 1000 < 24000
      ∧ mgetD (inp 2).field.diag 31 0 = 2 := by decide +kernel

theorem witness_OutputsAndLoops :
    let out : State := rs [(Reg.DIO_OCFG 15, 0xA8000000), (Reg.DIO_ODIAG 15, 0x80000000)] { field := { ovlEl := [(15, 0)] }, tb := { el := 1000000000 } }
    let lp := fun (rb_ : Word) => (rs [(Reg.BTL_STAT, 0x02000000), (Reg.DIO_LINK 3, 0x80000000), (Reg.CLO_CFG 7, 0x80000000), (Reg.CLO_RB 7, rb_)]
      { field := { loops := [(7, 2048)] }, tb := { el := 20000000 } } : State)
    let bad : State := rs [(Reg.CLO_CSTAT, 0x8000), (Reg.CLO_CFG 7, 0x80000000), (Reg.CLO_RB 7, 65536)] { field := { loops := [(7, 2048)] } }
    out.turnOf (.eng 0) = true ∧ out.regB (Reg.DIO_OCFG 15) 31 = true ∧ (rs [(Reg.SAF_OCFG 15, 0x80000000)]).isSafOut 15 = true
      ∧ out.regB (Reg.DIO_ODIAG 15) 31 = true ∧ out.regB (Reg.DIO_OCFG 15) 27 = true ∧ mget out.field.ovlEl 15 = some 0
      ∧ 1000000000 ≤ out.tb.el - 0 ∧ (165 : Int) ≤ 165 ∧ (145 : Int) ≤ 164 ∧ (164 : Int) < 165 ∧ (144 : Int) < 145
      ∧ out.regB (Reg.DIO_OCFG 15) 29 = true ∧ out.outDriven 15 = false ∧ (2000 : Nat) < 2001 ∧ (17999 : Nat) < 18000
      ∧ (lp 13107).loopChecks = true ∧ (lp 13107).loopOpenNow 7 = true ∧ (lp 13108).loopOpenNow 7 = false ∧ (lp 13108).loopOffNow 7 = true
      ∧ bad.regB Reg.CLO_CSTAT (8 + 7) = true ∧ bad.loopOpenNow 7 = false ∧ bad.loopOffNow 7 = false := by decide +kernel

/-! ### Filter chains, encoders, serial channels -/

theorem witness_ChainAndEncoderResults :
    let ch := fun (x : Chain) => (rs [(Reg.DFC_CFG 15, 0xA0000020)] { dfc := { chains := [(15, x)] } } : State)
    let enc := fun (cfg : Word) (x : EncChannel) (t : Nat) => (rs [(Reg.ENC_CFG 7, cfg), (Reg.ENC_SMP 7, 1), (Reg.ENC_CPR 7, 4), (Reg.ENC_STAT 7, 0x80000000)]
      { enc := [(7, x)], tb := { t := t, el := t } } : State)
    let ms : State := rs [(Reg.DFC_MPCFG, 0x80000000)] { dfc := { okEl := some 0 }, tb := { el := 1000000000 } }
    (ch {}).domainOut 13 = false ∧ (ch {}).chainDelayed 15 0 = true ∧ (ch {}).turnOf (.eng 0) = true ∧ (ch {}).regB (Reg.DFC_CFG 15) 31 = true ∧ ((ch {}).chain 15).faults = [] ∧ (ch {}).regB (Reg.DFC_STAT 15) 29 = false
      ∧ List.replicate 32 true ≠ [] ∧ (List.replicate 32 true).length = (ch {}).regF (Reg.DFC_CFG 15) 12 0 ∧ ((ch {}).chain 15).swap = none
      ∧ ((ch { settle := 1 }).chain 15).settle = 0 + 1 ∧ ((ch {}).chain 15).settle = 0
      ∧ ms.dfc.okEl = some 0 ∧ ms.regB Reg.DFC_MPCFG 31 = true ∧ 1000000000 ≤ ms.tb.el - 0
      ∧ (ch {}).regB (Reg.DFC_CFG 15) 29 = true ∧ ((ch { faults := [1] }).chain 15).faults = [1] ∧ ((ch { faults := [0] }).chain 15).faults = [0]
      ∧ (enc 0x80000000 {} 1000).regB (Reg.ENC_CFG 7) 31 = true ∧ (enc 0x80000000 {} 1000).regB (Reg.ENC_SMP 7) 31 = false
      ∧ (enc 0x80000000 {} 1000).regF (Reg.ENC_SMP 7) 19 0 ≠ 0
      ∧ ((enc 0x80000000 {} 1000).encCh 7).lastT / (1 * 1000) < (enc 0x80000000 {} 1000).tb.t / ((enc 0x80000000 {} 1000).regF (Reg.ENC_SMP 7) 19 0 * 1000)
      ∧ (enc 0x80000000 {} 1000).encSsi 7 = false ∧ (enc 0x80000000 {} 1000).regB (Reg.ENC_STAT 7) 31 = true
      ∧ (enc 0x80000100 {} 1000).regF (Reg.ENC_CFG 7) 11 8 ≠ 0
      ∧ ((enc 0x80000100 { hist := [(0, 0)] } 1000).encCh 7).hist[1 - 1]? = some (0, 0) ∧ 0 < (enc 0x80000100 {} 1000).tb.el
      ∧ (enc 0xC0000000 {} 1000).encSsi 7 = true ∧ ((enc 0xC0000000 {} 1000).encCh 7).read = none
      ∧ ((enc 0xC0000000 { read := some (0, 0) } 1000).encCh 7).read.isSome = true
      ∧ (quadPhase true false + 4 - quadPhase false false) % 4 = 1 ∧ (enc 0x80000000 {} 0).regB (Reg.ENC_CFG 7) 26 = false
      ∧ (quadPhase false true + 4 - quadPhase false false) % 4 = 3 ∧ (quadPhase true true + 4 - quadPhase false false) % 4 = 2
      ∧ (enc 0xA0000000 {} 0).regB (Reg.ENC_CFG 7) 29 = true ∧ (enc 0xA0000000 {} 0).encSsi 7 = false ∧ (enc 0xA0000000 {} 0).regB (Reg.ENC_STAT 7) 30 = false
      ∧ (enc 0x80000000 {} 0).regB (Reg.ENC_CFG 7) 29 = false ∧ ((enc 0x80000000 { fault := true } 10000000).encCh 7).fault = true
      ∧ 10000000 ≤ (enc 0x80000000 { fault := true } 10000000).tb.el - ((enc 0x80000000 { fault := true } 10000000).encCh 7).faultEl
      ∧ (enc 0xC0000000 {} 0).regB (Reg.ENC_CFG 7) 27 = false ∧ (enc 0xC0000000 {} 0).regB (Reg.ENC_CFG 7) 28 = false ∧ bit 1 0 = true
      ∧ ((enc 0xC0000000 { read := some (0, 0) } 0).encCh 7).overrun = false ∧ ((enc 0xC0000000 { read := some (0, 0) } 0).encCh 7).read = some (0, 0)
      ∧ bit 0 0 = false := by decide +kernel

theorem witness_SerialResults :
    let c := fun (cfg : Word) (x : SerChannel) => (rs [(Reg.SER_CFG 3, cfg), (Reg.SER_DIV 3, 1)] { ser := { chans := [(3, x)] }, tb := { el := 110 } } : State)
    let m : SerMessage := { bytes := [1] }
    let long : SerMessage := { bytes := List.replicate 512 0 }
    let q : SerTx := ⟨0, 1, 0, 5, none⟩
    let p : SerTx := ⟨0, 1, 0, 5, some 0⟩
    (c 0x80000000 {}).serIdle 3 = true ∧ (c 0x80000000 { sentEl := some 110 }).serIdle 3 = false ∧ (c 0x80000000 {}).serListens 3 = true ∧ ((c 0x80000000 {}).serCh 3).ended = [] ∧ (c 0x80000000 {}).regB (Reg.SER_CFG 3) 28 = false
      ∧ ((c 0x80000000 { cur := some m }).serCh 3).cur = some m ∧ m.bytes.length < 255 ∧ (c 0x80000000 {}).regB (Reg.SER_CFG 3) 24 = false
      ∧ ((c 0x810A0000 {}).serCh 3).cur = none ∧ (c 0x810A0000 {}).regB (Reg.SER_CFG 3) 24 = true
      ∧ (10 : Byte).toNat = (c 0x810A0000 {}).regF (Reg.SER_CFG 3) 23 16 ∧ 512 ≤ long.bytes.length
      ∧ ((c 0x80000000 { ended := [m] }).serCh 3).ended = m :: []
      ∧ (c 0x80000B00 { cur := some m }).regF (Reg.SER_CFG 3) 15 8 * (c 0x80000B00 { cur := some m }).serBit 3
          ≤ (c 0x80000B00 { cur := some m }).tb.el - ((c 0x80000B00 { cur := some m }).serCh 3).lastEl
      ∧ ((c 0x80000000 { txq := [q] }).serCh 3).txq = q :: [] ∧ q.start = none ∧ (c 0x80000000 {}).regB (Reg.SER_CFG 3) 30 = false
      ∧ (c 0x80000000 {}).regB (Reg.SER_CFG 3) 29 = false ∧ (c 0xA0000000 {}).regB (Reg.SER_CFG 3) 29 = true ∧ (c 0xA0000000 {}).hold = false
      ∧ (c 0x80000000 { txq := [p] }).serSending 3 = some p ∧ p.start = some 0
      ∧ 0 + p.len * (c 0x80000000 {}).serCharBits 3 * (c 0x80000000 {}).serBit 3 ≤ (c 0x80000000 {}).tb.el := by decide +kernel

/-! ### CAN FD -/

/-- Channel 5 enabled and on the bus. -/
def can5 (x : CanChannel) (l : List (Nat × Word) := []) : State :=
  rs ([(Reg.CFD_CTL 5, 0x80000000)] ++ l) { can := [(5, x)], tb := { el := 500 } }

theorem witness_CanTransmitResults :
    let e : CanEntry := { image := [0x40000000, 0], group := 0, seq := 0, no := 1, el := 0 }
    let go : CanEntry := { e with eligible := true }
    let on : CanEntry := { go with started := true }
    let os : CanEntry := { on with image := [0x48000000, 0] }
    (can5 {}).canEff 5 = 0 ∧ 256 ≤ ((can5 { tec := 256 }).canCh 5).tec ∧ (can5 {}).turnOf (.svc 15) = true ∧ e ∈ ((can5 { queue := [e] }).canCh 5).queue ∧ e.el + 500 ≤ (can5 {}).tb.el ∧ (can5 {}).tb.el < { e with el := 1 }.el + 500
      ∧ (can5 { queue := [go] }).canSends 5 = true ∧ (can5 { queue := [go] }).canSending 5 = none ∧ go.eligible = true
      ∧ (∀ q, q ∈ ((can5 { queue := [e] }).canCh 5).queue → q.eligible = false)
      ∧ (can5 { queue := [on] }).canSending 5 = some on ∧ on.cancelled = false ∧ bit (on.image.head?.getD 0) 27 = false ∧ on.coll = 0
      ∧ { on with cancelled := true }.cancelled = true ∧ bit (os.image.head?.getD 0) 27 = true
      ∧ (can5 {}).regB (Reg.CFD_CTL 5) 31 = true ∧ (can5 {}).canBus 5 < 2 ∧ bit 1 0 = true
      ∧ (can5 {} [(Reg.CFD_STAT 5, 0x80000000)]).canBus 5 = 2 ∧ (can5 {} [(Reg.CFD_STAT 5, 0xC0000000)]).canBus 5 = 3
      ∧ (can5 {}).canSending 5 = none ∧ ((can5 {}).canCh 5).queue = [] ∧ bit 0x10000 16 = true
      ∧ (∀ q, q ∈ ((can5 { queue := [e] }).canCh 5).queue → q.started = false) ∧ ((can5 { queue := [e] }).canCh 5).queue ≠ []
      ∧ ((can5 { store := [[1, 2, 3, 4]] }).canCh 5).store = [1, 2, 3, 4] :: []
      ∧ ((can5 {} [(Reg.CFD_TXCR 5, 4)]).canCh 5).unack < (can5 {} [(Reg.CFD_TXCR 5, 4)]).canRing 5 ∧ (can5 {}).Canonical
      ∧ ([1, 2, 3, 4] : List Word).length = 4 ∧ 0 < fld 0x7FF 10 0 ∧ fld 0x7FF 10 0 ≤ ((can5 { unack := 2047 }).canCh 5).unack
      ∧ ((can5 { unack := 2046 }).canCh 5).unack < fld 0x7FF 10 0 := by
  unfold State.Canonical; decide +kernel

theorem witness_CanReceiveResults :
    let s := fun (m : Word) (rx : List (List Word)) => can5 { rx := rx } [(Reg.CFD_FID 5 31, 0x80000000), (Reg.CFD_FMSK 5 31, m)]
    (s 0 []).turnOf (.eng 7) = true ∧ (s 0 []).regB (Reg.CFD_CTL 5) 31 = true ∧ (s 0 []).canBus 5 < 2 ∧ bit (([0, 0] : List Word).head?.getD 0) 30 = false
      ∧ (s 0 []).canFilter 5 [0, 0] = some 31 ∧ (s 0 []).regF (Reg.CFD_FMSK 5 31) 31 30 = 0
      ∧ ((s 0 (List.replicate 127 [])).canCh 5).rx.length < 128 ∧ 128 ≤ ((s 0 (List.replicate 128 [])).canCh 5).rx.length
      ∧ (s 0x40000000 []).regF (Reg.CFD_FMSK 5 31) 31 30 = 1 ∧ (s 0x40000000 []).regB (Reg.CFD_HPSTAT 5) (31 % 8) = false
      ∧ (can5 {}).canFilter 5 [0, 0] = none ∧ (can5 {}).regB (Reg.CFD_CTL 5) 23 = false
      ∧ 0 < fld 1 7 0 ∧ fld 128 7 0 ≤ ((s 0 (List.replicate 128 [])).canCh 5).rx.length ∧ fld 0x100 7 0 = 0
      ∧ ((s 0 []).canCh 5).rx.length < fld 1 7 0 := by decide +kernel

/-! ### Redundant pair -/

/-- A pair frame of type `t` with payload `p`, lane 1, sequence 0. -/
def fr (t : Nat) (p : List Byte) : List Byte := frameBytes t 1 0 p

/-- A control payload: command, argument 0, sequence 9, result. -/
def ctl (cmd result : Nat) : List Byte := [BitVec.ofNat 8 cmd, 0, 0, 5, 0, 0, 0, 9, 0, 0, 0, 0, BitVec.ofNat 8 result, 0, 0, 0]

/-- Lane 1 is up. -/
def lane1 (p : Pair := {}) (el : Nat := 0) (l : List (Nat × Word) := []) : State :=
  rs ([(Reg.BTL_LANE 1, 0x80000000)] ++ l) { pair := p, tb := { el := el } }

theorem witness_PairLinkResults :
    let two : Pair := { lanes := [(0, { hbEl := some 99999999 }), (1, { hbEl := some 99999999 })], hbEl := some 99999999 }
    let gone : State := { pair := { seen := true, started := some 0 }, tb := { el := 100 } }
    ({} : State).pair.quiet = false ∧ ({} : State).solo = false ∧ (lane1 {} 0 [(Reg.SYS_STRAP, 2)]).solo = true ∧ (lane1 {} 2000).tb.el - (lane1 {} 2000).pair.pulseEl ≤ 2000
      ∧ 2000 < (lane1 {} 2001).tb.el - (lane1 {} 2001).pair.pulseEl ∧ (lane1 {}).laneUp 1 = true
      ∧ frameParse (fr 1 (List.replicate 16 0)) = some (1, List.replicate 16 0) ∧ frameParse [0] = none
      ∧ gone.pathMask = 0 ∧ gone.pair.seen = true ∧ gone.pair.failed = false ∧ gone.solo = false ∧ gone.mayRequest = true
      ∧ (gone.setRegF Reg.BTL_STAT 31 28 2).mayRequest = true ∧ (gone.setRegF Reg.BTL_STAT 31 28 2).pairState = 2 ∧ gone.pair.openEps = []
      ∧ (lane1 two 100000000).pathAlive 0 = true ∧ (lane1 two 100000000).pathAlive 1 = true ∧ (lane1 two 100000000).regB Reg.BTL_STAT 23 = false
      ∧ (lane1 two 100000000).solo = false ∧ (lane1 two 100000000).pathSince 0 + 100000000 ≤ (lane1 two 100000000).tb.el
      ∧ (lane1 two 100000000).pathSince 1 + 100000000 ≤ (lane1 two 100000000).tb.el
      ∧ (let s := lane1 { ever := [3], lanes := [(0, { hbEl := some 0 })] } 100
         s.pathAlive 3 = false ∧ s.pathAlive (otherPath 3) = true ∧ s.pair.ever.contains 3 = true ∧ s.pair.lost.contains 3 = false ∧ s.solo = false)
      ∧ (let s := lane1 { lost := [3], lanes := [(1, { hbEl := some 1000000000 })] } 1000000000
         s.pair.lost.contains 3 = true ∧ s.pathAlive 3 = true ∧ s.pathSince 3 + 1000000000 ≤ s.tb.el)
      ∧ (let s := lane1 { lanes := [(0, { hbEl := some 8000 })] } 8000
         s.pathAlive 3 = false ∧ s.pathAlive (otherPath 3) = true ∧ 8000 ≤ s.tb.el ∧ s.pair.lost.contains 3 = false ∧ s.solo = false)
      ∧ (rs [(Reg.BTL_LANE 1, 0x40000000)]).regF (Reg.BTL_LANE 1) 31 30 = 1 ∧ ({} : State).domainOut 11 = false ∧ 0 < 254 ∧ 254 < 255
      ∧ (let s := lane1 { lanes := [(1, { errs := List.replicate 17 0 })] } 999999
         16 < ((s.lane 1).errs.filter (fun e => decide (s.tb.el - e < 1000000))).length) := by decide +kernel

theorem witness_AuthorityResults :
    let H := [(Reg.BTL_STAT, (0x02000000 : Word))]
    let c0 : TelCopy := { tel1 with stream := 0xFFFF, payload := [0x20] }
    let eth := lane1 {} 0 [(Reg.ETH_PCFG 0, 0x80000000), (Reg.ETH_PSTAT 0, 0x80000000), (Reg.ETH_PCFG 1, 0x80000000), (Reg.ETH_PSTAT 1, 0x80000000)]
    let bea := lane1 { failed := true, beacons := 1 } 0 [(Reg.BTL_STAT, 0x02000200), (Reg.SYS_ADDR, 1)]
    (lane1 { waiting := true }).barred = false ∧ (lane1 { waiting := true, quiet := true }).barred = true
      ∧ (lane1 { waiting := true, selConflict := true }).barred = true ∧ (lane1 { window := some 0, quiet := true } 2000).barred = true
      ∧ (lane1 { authIn := true }).barred = false ∧ (lane1 { window := some 0 } 2000).barred = false ∧ eth.domainOut 6 = false
      ∧ (lane1 { waiting := true }).pair.waiting = true ∧ (lane1 { waiting := true }).pair.authIn = false ∧ (lane1 { authIn := true }).pair.authIn = true
      ∧ (lane1 { window := some 0 } 2000).pair.window = some 0 ∧ 0 + 2000 ≤ (lane1 { window := some 0 } 2000).tb.el ∧ (lane1 {}).hold = false
      ∧ (lane1 { takeover := true }).pair.takeover = true ∧ (lane1 { window := some 0 } 0 [(Reg.SYS_STRAP, 1)]).regB Reg.SYS_STRAP 0 = true
      ∧ (lane1 { window := some 0 }).pair.window.isSome = true ∧ (lane1 { authIn := true }).pair.armEl = none ∧ (lane1 { authIn := true }).pair.waiting = false
      ∧ (lane1 { authIn := true, waiting := true }).pair.waiting = true
      ∧ (lane1 { authIn := true, armEl := some 0, armSeq := some 9 }).pair.armEl.isSome = true
      ∧ (lane1 { authIn := true, armEl := some 0, armSeq := some 9 }).pair.armSeq.isSome = true
      ∧ (let s := lane1 { authIn := true } 2001 (H ++ [(Reg.SYS_STRAP, 1)])
         s.hold = true ∧ s.solo = false ∧ s.pair.authIn = true ∧ s.pair.dualNoted = false ∧ s.pair.authInEl + 2000 < s.tb.el ∧ s.regB Reg.SYS_STRAP 0 = true)
      ∧ (lane1 {} 0 [(Reg.SYS_STRAP, 2)]).solo = true ∧ eth.solo = false
      ∧ eth.regB (Reg.ETH_PCFG 0) 31 = true ∧ eth.regB (Reg.ETH_PSTAT 0) 31 = true ∧ eth.regB (Reg.ETH_PCFG 1) 31 = true
      ∧ eth.regB (Reg.ETH_PSTAT 1) 31 = true
      ∧ c0.src = (lane1 {} 0 [(Reg.SYS_ADDR, 2)]).regF Reg.SYS_ADDR 7 0
      ∧ c0.src ≠ bea.regF Reg.SYS_ADDR 7 0 ∧ c0.stream = 0xFFFF ∧ bea.hold = true ∧ bea.solo = false ∧ bea.pair.failed = true ∧ bea.pathMask = 0
      ∧ c0.src = bea.regF Reg.BTL_STAT 15 8 ∧ bea.pair.beaconSeq ≠ some c0.seq ∧ (c0.payload.head?.map (fun b => b.toNat.testBit 5)) = some true
      ∧ 1 ≤ bea.pair.beacons ∧ (lane1 { failed := true }).pair.beacons = 0 := by decide +kernel

theorem witness_AuthorityResults_handover :
    let H := [(Reg.BTL_STAT, (0x02000000 : Word))]
    let std := [(Reg.BTL_STAT, (0x20000000 : Word))]
    let prep := ctl 1 0
    let rev := fun (sent : Bool) => lane1 { revCount := 200, peerWord := 0x20000000, revSent := sent } 0 [(Reg.BTL_CFG, 0x60000000), (Reg.BTL_STAT, 0x20000000)]
    (lane1 {} 0 std).solo = false ∧ (lane1 {} 0 std).hold = false ∧ (lane1 {} 0 std).barred = false ∧ (lane1 { quiet := true } 0 std).barred = true
      ∧ (lane1 {}).turnOf (.eng 0) = true ∧ frameParse (fr 0x20 prep) = some (0x20, prep) ∧ (readControl prep).cmd = 1 ∧ (lane1 {} 0 std).healthy = true ∧ (lane1 {} 0 std).pairState = 2
      ∧ (1 - (1 : Nat), [1, 0, 5, 9]) ∉ (lane1 {}).pair.control
      ∧ (readControl (ctl 2 0)).cmd = 2 ∧ frameParse (fr 0x20 (ctl 2 0)) = some (0x20, ctl 2 0) ∧ (lane1 { hoSeq := some 9 } 0 H).hold = true
      ∧ (lane1 { hoSeq := some 9 } 0 H).pair.hoSeq = some (readControl (ctl 2 0)).seq ∧ (lane1 {} 0 H).pair.hoSeq ≠ some (readControl (ctl 2 0)).seq
      ∧ (readControl (ctl 3 0)).cmd = 3 ∧ frameParse (fr 0x20 (ctl 3 0)) = some (0x20, ctl 3 0) ∧ (lane1 {} 0 H).pair.hoSeq = none ∧ bit 1 0 = true
      ∧ 0 + 20000 ≤ (lane1 { armEl := some 0 } 20000).tb.el ∧ (lane1 { armEl := some 0 } 20000).pair.armEl = some 0
      ∧ (lane1 { relEl := some 0 } 20000).pair.armEl = none ∧ (lane1 { relEl := some 0 } 20000).pair.relEl = some 0
      ∧ (rev false).revertReady = true ∧ (rev false).pair.revSent = false ∧ bit (rev false).pair.peerWord 29 = true ∧ ({} : State).revertReady = false := by decide +kernel

theorem witness_MirrorResults :
    let e : TxEpoch := ⟨15, 3, List.replicate 32 0, [], []⟩
    let head : List Byte := [0xF0, 0, 0, 0, 0, 0, 0, 3] ++ List.replicate 24 0
    let c : EpochCopy := { group := 15, seq := 3, head := head, len := 0, el := 0 }
    let got := lane1 { lanes := [(1, { copy := some c })] } 3449 [(Reg.BTL_MRX 15, 0x81000000)]
    let ready := owned 1 0x3B (lane1 { lanes := [(1, { copy := some c })] } 0 [(Reg.BTL_MRX 15, 0x81000000)])
    let body : List Byte := [0, 0, 0, 0] ++ [1, 2, 3, 4]
    let last : List Byte := beBytes (crc32c (c.head ++ c.body)).toNat 4 ++ List.replicate 28 0
    (lane1 { txq := [e] }).pair.txq = e :: [] ∧ (lane1 {}).laneUp 1 = true ∧ frameParse (fr 0x10 head) = some (0x10, head)
      ∧ (lane1 {}).solo = false ∧ (lane1 {}).pair.openEps = [] ∧ ((lane1 {}).lane 1).copy = none
      ∧ (lane1 {}).pair.received.contains (bitsOf (lget (wordsBE 8 head) 0 0) 31 28, 3) = false
      ∧ frameParse (fr 0x11 body) = some (0x11, body) ∧ (got.lane 1).copy = some c ∧ ofBE (body.take 4) = c.body.length
      ∧ frameParse (fr 0x12 last) = some (0x12, last) ∧ c.group < 16 ∧ ofBE (last.take 4) = (crc32c (c.head ++ c.body)).toNat
      ∧ ready.epochCause c (BitVec.ofNat 32 (lget (wordsBE 8 c.head) 4 0)) = 0
      ∧ (lane1 {}).epochCause c (BitVec.ofNat 32 (lget (wordsBE 8 c.head) 4 0)) ≠ 0
      ∧ 3000 + 7 * (64 + 4 * c.len) < got.tb.el - c.el
      ∧ (lane1 { applying := [⟨15, 3, false, [], [], [], 1⟩] }).pair.applying = ⟨15, 3, false, [], [], [], 1⟩ :: [] := by decide +kernel

theorem witness_MirrorResults_transactions :
    let t1 : Txn := { tid := 5, stage := 2, decider := true }
    let t2 : Txn := { tid := 5, stage := 2 }
    let v : Word := 0x800F0005
    (lane1 {}).turnOf (.svc 0) = true ∧ (lane1 {}).solo = false ∧ bit v 31 = true ∧ (lane1 {}).txn (fld v 19 16) = none ∧ (lane1 { txns := [(15, t2)] }).txn (fld v 19 16) ≠ none
      ∧ (readControl (ctl 4 0)).cmd = 4 ∧ frameParse (fr 0x20 (ctl 4 0)) = some (0x20, ctl 4 0)
      ∧ (1 - (1 : Nat), [4, 0, 5, 9]) ∉ (lane1 {}).pair.control ∧ (lane1 { txns := [(0, t1)] }).txn (readControl (ctl 4 0)).group = some t1
      ∧ t1.tid = (readControl (ctl 4 0)).tid ∧ t1.stage = 2 ∧ t1.decider = true ∧ t1.decision = none
      ∧ (lane1 {} 0 [(Reg.BTL_STAT, 0x00800000)]).peerGone = false
      ∧ (readControl (ctl 5 0)).cmd = 5 ∧ frameParse (fr 0x20 (ctl 5 0)) = some (0x20, ctl 5 0) ∧ t2.decider = false
      ∧ (rs [(Reg.SCH_GAX 15, 0x10000000)]).groupAxis 15 ≠ 0 ∧ turnDiff (({} : State).group 15).next ({} : State).tmbNs ≤ 100000 := by decide +kernel

/-! ### Recorder, start-up, resets -/

/-- A record with sequence `q`. -/
def rec1 (q : Nat) : EvRecord := ⟨q, false, false, false, false, 0, 0, 0, 0, 0, .program 0x8000 0xC000 []⟩

theorem witness_RecorderResults :
    let in1 : State := { evr := { intake := [rec1 1] } }
    let win : State := { evr := { copying := [(8, (0, 16, 1))], circ := [(1, rec1 1)] } }
    let slot : State := rs [(Reg.EVR_FSNAP 31, 0x80000300)] { evr := { slots := [(3, { snapDue := true })] } }
    ({} : State).turnOf (.svc 0) = true ∧ in1.evr.intake = rec1 1 :: [] ∧ in1.evr.refusedParts = [] ∧ in1.evr.failed = false
      ∧ ({ in1 with evr := { in1.evr with failed := true } } : State).evr.failed = true
      ∧ mget win.evr.circ 1 = some (rec1 1) ∧ (rec1 1).seq = 1 ∧ 1 ∉ win.evr.lost
      ∧ 1 ≤ fld 0x18000000 27 23 ∧ fld 0x18000000 27 23 = 16 ∧ fld 0x18000000 30 28 < 2 ∧ fld 0 27 23 = 0 ∧ 16 < fld 0x08800000 27 23
      ∧ 6 ≤ fld 0x60800000 30 28 ∧ mget win.evr.copying (partyNo (.svc 0)) = some (0, 16, 1) ∧ 16 ≤ 16
      ∧ (mgetD slot.evr.slots 3 {}).snapDue = true ∧ slot.regB (Reg.EVR_FSNAP 31) 31 = true
      ∧ slot.decoded (slot.regF (Reg.EVR_FSNAP 31) 15 0) = false ∧ slot.regB (Reg.EVR_FSNAP 0) 31 = false := by decide +kernel

theorem witness_StartupResults :
    let at_ := fun (b : Boot) => ({ boot := b } : State)
    let first : State := { boot := { stage := .address, chain := some (62, 3) } }
    ({ boot := { powerFail := true } } : State).boot.powerFail = true ∧ ({} : State).boot.stage = .selftest ∧ (at_ { stage := .images }).boot.stage = .images
      ∧ (at_ { stage := .images }).imageFails 0 true ≠ none ∧ (at_ { stage := .images }).imageFails (1 - 0) false ≠ none
      ∧ (at_ { stage := .address }).boot.stage = .address ∧ (at_ { stage := .address }).regB Reg.SYS_BOOT 6 = false
      ∧ (rs [(Reg.SYS_BOOT, 0x40)] (at_ { stage := .address })).regB Reg.SYS_BOOT 6 = true
      ∧ first.boot.chain = some (62, 3) ∧ (at_ { stage := .address, chainGot := some 62 }).boot.chainGot = some 62 ∧ 1 ≤ 62 ∧ 62 ≤ 62
      ∧ (at_ { stage := .address }).boot.chainGot = none ∧ (1169999999 : Nat) < 1170000000
      ∧ ({ tb := { el := 1170000000 }, boot := { stage := .address } } : State).boot.chainGot = none
      ∧ 1170000000 ≤ ({ tb := { el := 1170000000 }, boot := { stage := .address } } : State).tb.el
      ∧ (at_ { stage := .address }).regF Reg.SYS_ADDR 15 8 = 0
      ∧ ({ pair := { ever := [0] } } : State).solo = false ∧ ({ pair := { ever := [0] } } : State).pair.ever.contains 0 = true
      ∧ bit ({} : State).pair.peerWord 31 = ({} : State).regB Reg.SYS_STRAP 0 ∧ ({} : State).pair.selConflict = false
      ∧ bit ({ pair := { peerWord := 0x80000000 } } : State).pair.peerWord 31 ≠ ({ pair := { peerWord := 0x80000000 } } : State).regB Reg.SYS_STRAP 0
      ∧ (at_ { stage := .loader }).boot.stage = .loader ∧ (List.replicate 8 (0 : Word)).length ≤ 32768 ∧ (at_ { stage := .loader }).ownerCode 0x3B = true
      ∧ (rs [(Reg.SYS_ADDR, 1)]).regF Reg.SYS_ADDR 7 0 ≠ 0 ∧ 255 < 256 ∧ first.boot.chain = some (62, 3)
      ∧ (let s : State := { boot := { stage := .running, plugIn := true }, tb := { el := 20000000 } }
         s.boot.stage = .running ∧ s.boot.plugIn = true ∧ s.boot.chainBroken = false ∧ s.boot.chainEl + 20000000 ≤ s.tb.el)
      ∧ (let s : State := { boot := { stage := .running, chain := some (5, 1), chainOther := some 0 }, tb := { el := 100000000 } }
         s.boot.chainOther = some 0 ∧ s.boot.chain = some (5, 1) ∧ s.boot.stage = .running ∧ s.boot.chainChanged = false ∧ 0 + 100000000 ≤ s.tb.el)
      ∧ ({ tb := { el := 10000000000 } } : State).boot.dupEl = none ∧ 10000000000 ≤ ({ tb := { el := 10000000000 } } : State).tb.el
      ∧ (true ≠ ({} : State).boot.selIn) ∧ false = ({} : State).boot.soloIn := by decide +kernel

theorem witness_ResetAndSupplyResults :
    let ask := fun (b : Boot) (l : List (Nat × Word)) => (rs l { boot := b, pair := { peerWord := 0x42000000 } } : State)
    let hot : State := { health := [.tempHigh] }
    (ask {} []).turnOf (.eng 7) = true ∧ (ask {} []).turnOf (.svc 15) = true ∧ (ask { rstPend := some 15, rstEl := some 0 } []).boot.rstPend = some 15 ∧ (ask { rstPend := some 15, rstEl := some 0 } []).boot.rstEl = some 0
      ∧ 0 ≤ (ask {} []).tb.el ∧ 15 < 16 ∧ (0xA5C3 : Fin 65536) = 0xA5C3 ∧ (ask {} []).boot.rstPend = none ∧ (ask {} []).hold = false
      ∧ (ask {} [(Reg.BTL_STAT, 0x02800000)]).hold = true ∧ (ask {} [(Reg.BTL_STAT, 0x02800000)]).solo = false
      ∧ (ask {} [(Reg.BTL_STAT, 0x02800000)]).peerIn [1, 2] = true ∧ (ask {} [(Reg.BTL_STAT, 0x02000000)]).peerIn [1, 2] = false
      ∧ (0 : Fin 65536) ≠ 0xA5C3 ∧ (rs [(Reg.CLE_LSCTL, 1)]).locked 1 = true
      ∧ ({} : State).regB Reg.SYS_BTN 30 = false ∧ (100000 : Nat) ≤ 5000000 ∧ (99999 : Nat) < 100000
      ∧ (rs [(Reg.SYS_BTN, 0x40000000)]).regB Reg.SYS_BTN 30 = true
      ∧ (1799 : Nat) < 1800 ∧ ({} : State).boot.lowFeeds.contains 1 = false ∧ ({ boot := { lowFeeds := [1] } } : State).boot.lowFeeds.contains 1 = true
      ∧ 115 ≤ max (115 : Int) 0 ∧ ({} : State).health.contains .tempHigh = false ∧ max (105 : Int) 0 ≤ 105 ∧ hot.health.contains .tempHigh = true
      ∧ 125 ≤ max (125 : Int) 0 ∧ (-31 : Int) < -30 ∧ 85 < (86 : Int) ∧ (-30 : Int) ≤ -30 ∧ (85 : Int) ≤ 85 ∧ 3200 < (3201 : Nat)
      ∧ ({ boot := { envOn := true } } : State).boot.envOn = true := by decide +kernel

/-! ### Service protocol, the whole machine -/

theorem witness_ServiceResults :
    let s := fun (lv : Nat) => (rs [(Reg.SYS_BOOT, 0)] { boot := { sessions := [(65535, { level := lv })] }, tb := { el := 60000000000 } } : State)
    let full : State := { boot := { sessions := [(1, {}), (2, {})] } }
    let a : Fin 65536 := 0x0D00
    (s 0).domainOut 6 = false ∧ full.domainOut 6 = false ∧ (s 1).stopReal 0 = false ∧ (s 0).boot.sessions.length < 2 ∧ 2 ≤ full.boot.sessions.length ∧ mget (s 0).boot.sessions 1 = none
      ∧ mget (s 2).boot.sessions 65535 = some { level := 2 } ∧ ({ level := 2 } : Session).el + 60000000000 ≤ (s 2).tb.el
      ∧ (List.replicate 96 (0 : Byte)).length = 96 ∧ (s 2).otherCommissioner 65535 = false
      ∧ 1 ≤ (List.replicate 64 (0x0300 : Fin 65536)).length ∧ (List.replicate 64 (0x0300 : Fin 65536)).length ≤ 64
      ∧ putLevel a ≤ 1 ∧ (s 1).decoded a = true ∧ isStaged a = true ∧ a.val ≠ Reg.OPT_FBLIM ∧ a.val ≠ Reg.LPE_SWAP
      ∧ ¬ (0x0901 ≤ a.val ∧ a.val < 0x0A00 ∧ a.val % 4 = 1) ∧ ((s 1).group 0).overflowed = false ∧ ((s 1).group 0).pend.length < 128
      ∧ ({} : Session).level = 0 ∧ (s 2).Canonical ∧ (List.replicate 1016 (1 : Byte)) ≠ [] ∧ (List.replicate 1016 (1 : Byte)).length ≤ 1016
      ∧ 67107848 + (List.replicate 1016 (1 : Byte)).length ≤ 67108864 ∧ (s 2).regF Reg.SYS_BOOT 3 2 ≠ 1 ∧ (s 2).regF Reg.SYS_BOOT 3 2 = 0
      ∧ (s 1).boot.rstPend = none ∧ (s 1).hold = false := by
  unfold State.Canonical; decide +kernel

theorem witness_ServiceResults_pget :
    ∀ q ∈ List.replicate 64 (0x0300 : Fin 65536), ({ boot := { sessions := [(65535, {})] } } : State).decoded q.val = false := by
  intro q h; rw [List.eq_of_mem_replicate h]; decide +kernel

theorem witness_ServiceResults_imageDiff :
    ({ boot := { imgEl := some 0 }, tb := { el := 1000000000 } } : State).boot.imgEl = some 0
      ∧ ({ boot := { imgEl := some 0 }, tb := { el := 1000000000 } } : State).boot.imgNoted = false ∧ ({} : State).solo = false
      ∧ 0 + 1000000000 ≤ ({ boot := { imgEl := some 0 }, tb := { el := 1000000000 } } : State).tb.el := by decide

theorem witness_InvariantKept :
    let s : State := { pending := [.bankWake 0] }
    s.Inv ∧ step s = .next (after (.bankWake 0) { s with pending := [] }) :=
  ⟨by unfold State.Inv State.Canonical; decide, rfl⟩

/-! ### Operands the encodings do not admit -/

theorem wf_refuses_guard : (Instr.aclr { e := 0, pn := true, pg := 0 } 0).wf = false ∧ (Instr.aclr { e := 0, pn := true, pg := 1 } 0).wf = true := by decide

theorem wf_refuses_shifts :
    (Instr.asl g0 1 1 (.imm 32) false).wf = false ∧ (Instr.asr g0 1 1 (.imm 0)).wf = false ∧ (Instr.asr g0 1 1 (.imm 32)).wf = false
      ∧ (Instr.lsl g0 1 1 (.imm 32)).wf = false ∧ (Instr.lsr g0 1 1 (.imm 32)).wf = false ∧ (Instr.mul g0 1 1 1 64 false).wf = false
      ∧ (Instr.mova g0 1 0 64 false).wf = false ∧ (Instr.aload g0 0 1 40).wf = false ∧ (Instr.sqrt g0 1 1 63).wf = false
      ∧ (Instr.rsqrt g0 1 1 95).wf = false := by decide

theorem wf_refuses_immediates :
    (Instr.addi g0 1 1 1024 false).wf = false ∧ (Instr.addi g0 1 1 (-1025) false).wf = false ∧ (Instr.andi g0 1 1 1024).wf = false
      ∧ (Instr.ori g0 1 1 1024).wf = false ∧ (Instr.xori g0 1 1 1024).wf = false ∧ (Instr.movs g0 1 65536).wf = false
      ∧ (Instr.movhi g0 1 65536).wf = false ∧ (Instr.cmpi g0 1 1 .eq 512).wf = false ∧ (Instr.cmpi g0 1 1 .eq (-513)).wf = false := by decide

theorem wf_refuses_memory_and_ports :
    (Instr.ld g0 (.word 1) 2 false 128 {}).wf = false ∧ (Instr.ld g0 (.word 1) 2 false (-129) {}).wf = false
      ∧ (Instr.ld g0 (.word 1) 2 false 0 { stall := 801 }).wf = false ∧ (Instr.st g0 (.byte true 1) 2 false 0 0).wf = false
      ∧ (Instr.st g0 (.half true 1) 2 false 0 0).wf = false ∧ (Instr.st g0 (.word 1) 2 false 128 0).wf = false
      ∧ (Instr.st g0 (.word 1) 2 false (-129) 0).wf = false ∧ (Instr.st g0 (.word 1) 2 false 0 801).wf = false
      ∧ (Instr.get g0 1 1 4096).wf = false ∧ (Instr.put g0 1 1 4096).wf = false ∧ (Instr.getl g0 1 1 65536).wf = false
      ∧ (Instr.putl g0 1 1 65536).wf = false := by decide

theorem wf_refuses_control :
    (Instr.br g0 0).wf = false ∧ (Instr.br g0 32768).wf = false ∧ (Instr.call g0 0).wf = false ∧ (Instr.call g0 32768).wf = false
      ∧ (Instr.brt g0 1 0).wf = false ∧ (Instr.brt g0 1 257).wf = false ∧ (Instr.loop g0 0 1).wf = false ∧ (Instr.loop g0 4097 1).wf = false
      ∧ (Instr.loop g0 1 0).wf = false ∧ (Instr.loop g0 1 1025).wf = false ∧ (Instr.loopr g0 1 0).wf = false ∧ (Instr.loopr g0 1 1025).wf = false
      ∧ (Instr.waitAx g0 1 0 1 0).wf = false ∧ (Instr.waitAx g0 1 0 1 16777216).wf = false ∧ (Instr.join g0 1 1 2 none 0).wf = false
      ∧ (Instr.join g0 1 1 2 none 16777216).wf = false ∧ (Instr.waitT g0 1 1 1 0).wf = false ∧ (Instr.waitT g0 1 1 1 16777216).wf = false := by decide

theorem wf_refuses_block_commands :
    (Instr.own g0 0 256).wf = false ∧ (Instr.lpeSwap g0 1 1 0 false).wf = false ∧ (Instr.lpeSwap g0 1 1 65 false).wf = false
      ∧ (Instr.lpeSwap g0 1 1 2 true).wf = false ∧ (Instr.mirPut g0 1 1 0 {}).wf = false ∧ (Instr.mirPut g0 1 1 4097 {}).wf = false
      ∧ (Instr.mirPut g0 1 1 1 { stall := 801 }).wf = false ∧ (Instr.telSend g0 1 1 1 2048 {}).wf = false ∧ (Instr.telSend g0 1 1 1 1 { stall := 801 }).wf = false
      ∧ (Instr.txq g0 1 1 1 { stall := 801 }).wf = false ∧ (Instr.log g0 1 1 false 8192 {}).wf = false ∧ (Instr.log g0 1 1 false 0 { stall := 801 }).wf = false := by decide

theorem wf_refuses_telegrams :
    { tel1 with stream := 65536 }.wf = false ∧ { tel1 with src := 256 }.wf = false ∧ { tel1 with seq := 2 ^ 32 }.wf = false
      ∧ (Instr.twinTelegramCopy { tel1 with payload := List.replicate 1025 0 } 0).wf = false ∧ (Instr.pairBeacon { tel1 with src := 256 }).wf = false := by
  decide +kernel

/-! ### Words and arithmetic -/

/-- The example of chapter 4 (words 0 to 12), each word with the instruction beside it. -/
theorem test_decode_example :
    decodeSirwen 0 0x01150006 0 = some (.movhi g0 10 6) ∧ decodeSirwen 0 0x01168000 0 = some (.movs g0 11 0x8000)
      ∧ decodeSirwen 0 0x01180040 0 = some (.movs g0 12 0x40) ∧ decodeSirwen 0 0x01190007 0 = some (.movhi g0 12 7)
      ∧ decodeSirwen 0 0x01800040 0 = some (.aclr g0 0) ∧ decodeSirwen 0 0x06403C02 0 = some (.loop g0 16 3)
      ∧ decodeSirwen 0 0x030AA901 0 = some (.ld g0 (.word 5) 10 true 1 {}) ∧ decodeSirwen 0 0x030CB901 0 = some (.ld g0 (.word 6) 11 true 1 {})
      ∧ decodeSirwen 0 0x0180A600 0 = some (.mac g0 0 5 6 false) ∧ decodeSirwen 0 0x01C39E00 0 = some (.mova g0 7 0 30 false)
      ∧ decodeSirwen 0 0x034EC800 0 = some (.st g0 (.word 7) 12 false 0 0) ∧ decodeSirwen 0 0x07400000 0 = some (.fstop g0) := by decide

/-- R100: PG = 0 with PN = 1 is undefined. -/
theorem test_decode_undefined : decodeSirwen 0 0x81150006 0 = none := by decide

/-- R69, the example of chapter 3. -/
theorem test_round : rdiv 5 1 = 2 ∧ rdiv 7 1 = 4 ∧ rdiv (-5) 1 = -2 ∧ rdiv (-7) 1 = -4 := by decide

/-- R72, chapter 3: SINCOS of a quarter turn, ATAN2(0, x) with x < 0. -/
theorem test_sincos_atan2 :
    sincosOp 0x40000000 = (0x40000000, 0) ∧ atan2Op 0 (-5) = (0x80000000, false) ∧ atan2Op 0 0 = (0, true) := by decide +kernel

/-- R72: the square root of 4.0 in Q15.16 is 2.0 (s = 16). -/
theorem test_sqrt : sqrtOp 0x00040000 16 = (0x00020000, false) := by decide +kernel

/-- Chapter 3: a demand of 2.0 (Q15.16) times 0.75 (Q1.30) with s = 30 is 1.5. -/
theorem test_mul_derating :
    (after (.mul g0 3 1 2 30 false) (runs 9 { regs := [(1, 0x00020000), (2, 0x30000000)] })).w 0 3 = 0x00018000 := by decide +kernel

/-- R70: the largest number plus 1 saturates and sets SAT; with .W it wraps. -/
theorem test_add_saturates_and_wraps :
    let s := runs 9 { regs := [(1, 0x7FFFFFFF), (2, 1)] }
    (after (.add g0 1 1 2 false) s).w 0 1 = 0x7FFFFFFF ∧ bit ((after (.add g0 1 1 2 false) s).eng 0).esf 0 = true
      ∧ (after (.add g0 1 1 2 true) s).w 0 1 = 0x80000000 ∧ ((after (.add g0 1 1 2 true) s).eng 0).esf = 0 := by decide +kernel

/-- Chapter 4: MOVS of 16#8000 gives 16#FFFF8000, and MOVHI of 6 makes it 16#00068000. -/
theorem test_movs_movhi :
    let s := after (.movs g0 11 0x8000) (runs 9)
    s.w 0 11 = 0xFFFF8000 ∧ (after (.movhi g0 11 6) s).w 0 11 = 0x00068000 := by decide +kernel

/-- R191, the example of chapter 7: 1/√ of 4.0 with H = 16 has mantissa 2^30, and mrsq(262 144, 16; P, 16; 16) is 2.0. -/
theorem test_norm_mrsq : norm 262144 16 = (1073741824, 1) ∧ mrsqRaw 262144 16 262144 16 16 = 131072 := by decide +kernel

/-- R450, the example of chapter 16: 32 taps of 16#01770000 on x = 16#18000000 give 562.5. -/
theorem test_fir_example :
    wrRaw 6291456 24 30 = 0x18000000
      ∧ wrRaw (firSum (List.replicate 32 0x01770000) (List.replicate 32 0x18000000)) (60 - 11) 16 = 0x02328000 := by decide +kernel

/-- The check value of CRC-32C over "123456789" (notes/assumptions/3.md), and of CRC-16/CCITT from 16#FFFF. -/
theorem test_crc_check_values :
    crc32c [0x31, 0x32, 0x33, 0x34, 0x35, 0x36, 0x37, 0x38, 0x39] = 0xE3069283 ∧ crc16 0x313233343536373839 72 72 = 0x29B1 := by decide +kernel

/-- FIPS 180-4 (notes/assumptions/31.md): the digest of "abc" begins BA7816BF and ends 15AD. -/
theorem test_sha256_abc :
    (sha256 [0x61, 0x62, 0x63]).take 4 = [0xBA, 0x78, 0x16, 0xBF] ∧ (sha256 [0x61, 0x62, 0x63]).drop 30 = [0x15, 0xAD] := by decide +kernel

/-! ### Blocks -/

/-- R147, the example of chapter 5 (CU6, H = 16#00400000, BIDIR = 0): it fires at +65 536, not again until d ≤ −H, then at
+1 048 576. -/
theorem test_compare_example :
    let step := fun (u : CompareUnit) (d : Int) => ({ u with fire := false } : CompareUnit).eval d 0x00400000 0 false false
    let u1 := step (CompareUnit.arm {} (-2097152)) 65536
    let u2 := step (step u1 (-65536)) 131072
    let u3 := step u2 (-5242880)
    u1.fire = true ∧ u1.fwd = false ∧ u2.fire = false ∧ u3.fwd = true ∧ (step u3 1048576).fire = true := by decide

/-- R245, the example of chapter 9 (sample k of LS12): I becomes 12.019 531 25 and 15.769 531 25 is published. -/
theorem test_loop_example :
    let s := rs [(Reg.LPE_PAGE 12 0 1, 0x60000000), (Reg.LPE_PAGE 12 0 2, 0x00800000), (Reg.LPE_PAGE 12 0 3, 0x08000000),
      (Reg.LPE_PAGE 12 0 4, 0xFFEC0000), (Reg.LPE_PAGE 12 0 5, 0x00140000), (Reg.LPE_PAGE 12 0 20, 0xFF9C0000),
      (Reg.LPE_PAGE 12 0 21, 0x00640000), (Reg.LPE_PAGE 12 0 22, 0x00008000)]
    let x : LoopSlot := { st := { i := 12 * 2 ^ 46, up := 1015808, yp := 1015808, spl := 0x00280000 } }
    let m : LoopSample := { el := 0, lane := 0, sp := 0x00280000, fb := 0x00258000, ff := 0, lossAny := false, fbValid := true, ffValid := true, page := 0 }
    (s.evaluate 12 x m).u = 0x000FC500 ∧ (s.evaluate 12 x m).st.i * 128 = 12 * 2 ^ 53 + 5 * 2 ^ 45 ∧ (s.evaluate 12 x m).e = 0x00028000 := by decide +kernel

/-- R56, the example of chapter 2: a margin of 3 below MARGIN_LO = 4 raises VCODE 22 by one step. -/
theorem test_avs_example :
    (after (.avsEvaluation 0 3) (rs [(Reg.PWR_MARGIN, 0x0C04), (Reg.PWR_AVS 0, 22)] { boot := { stage := .running } })).regF (Reg.PWR_AVS 0) 5 0 = 23 := by
  decide +kernel

/-- R302, the example of chapter 11: 4 ms of snapshot and 6.72 ms of computing. -/
theorem test_acquisition_time : acqTime 0x00042A40 = 10720000 := by decide

/-- R322, R324, the example of chapter 12: offsets of −1 300 000 and −1 299 998 ns give a step of +1 300 000 ns. -/
theorem test_time_step_example :
    (after (.servoOffset 1 (-1299998)) (after (.servoOffset 1 (-1300000)) (rs [(Reg.TMB_STAT, 0x04000000), (Reg.TMB_STEPTHR, 500)]
      { tb := { fresh := false, everLocked := true, overs := 0 } }))).tb.step = some 1300000
      ∧ 4 * rdiv 1299998 2 = 1300000 := by decide +kernel

/-- R429, the example of chapter 15: the wire-break threshold is 3.00 V at 24.0 V and 2.25 V at 18.0 V. -/
theorem test_wire_break_example :
    let s := rs [(Reg.DIO_ICFG 20, 0xB0003CDC), (Reg.DIO_WBF, 192)]
    s.belowBreak 20 2999 24000 = true ∧ s.belowBreak 20 3000 24000 = false ∧ s.belowBreak 20 3000 18000 = false
      ∧ s.belowBreak 20 2249 18000 = true := by decide +kernel

/-- R83: an undefined word at the program counter ends the clause ILLEGAL. -/
theorem test_illegal_ends :
    ((after (.illegalFetch 0 0xFFFFFFFF 0) (runs 9)).counts 1).illegal = 1 ∧ ((after (.illegalFetch 0 0xFFFFFFFF 0) (runs 9)).eng 0).run = none := by
  decide +kernel

/-- The start from reset (notes/assumptions/32.md): self-test, image check, address, program, first tick; no image is stored,
so the unit ends in service-only operation. -/
theorem test_start_without_image :
    let a := after (.addressTake false false) (after (.imageCheckEnd true true) (after (.selfTestEnd true) State.reset))
    a.boot.stage = .service ∧ a.healthy = false := by decide +kernel

end Sys2Proof.Tests
end

section
/-! Register writes: what a write of a party does in its turn (R8, R32, R33, R35, R40, R86, R159, R542): one law
for each operation of the model behind a write, then the statement `Obligations.RegisterWrites`. -/
namespace Sys2Proof.Machine

/-! ### The turn of a party -/

/-- R40: in its turn an access of a party acts on the state that notes the turn. -/
theorem byParty_of_turnOf {s : State} {p : Party} (h : s.turnOf p = true) (act : State → State) :
    s.byParty p act = act (s.turned p) := if_pos h

@[simp] theorem reg_turned (s : State) (p : Party) (q : Nat) : (s.turned p).reg q = s.reg q := rfl
@[simp] theorem counts_turned (s : State) (p : Party) (q : Nat) : (s.turned p).counts q = s.counts q := rfl
@[simp] theorem clk_turned (s : State) (p : Party) : (s.turned p).clk = s.clk := rfl

/-! ### Group updates and registers -/

/-- A change of one group leaves the others. -/
theorem group_updGroup_ne {s : State} {g q : Nat} (f : Group → Group) (h : q ≠ g) : (s.updGroup g f).group q = s.group q := by
  rw [State.group_updGroup, if_neg h]

/-- A field that has been replaced reads the new value, cut to the field's width. -/
theorem fld_setFld_same (w : Word) {hi lo : Nat} (v : Nat) (hlo : lo ≤ hi) (hhi : hi < 32) :
    fld (setFld w hi lo v) hi lo = v % 2 ^ (hi + 1 - lo) := by
  have hp : 0 < 2 ^ lo := Nat.two_pow_pos _
  have hwidth : 2 ^ 32 = 2 ^ lo * (2 ^ (hi + 1 - lo) * 2 ^ (31 - hi)) := by
    rw [← Nat.pow_add, ← Nat.pow_add]; congr 1; omega
  simp only [fld, setFld, bitsOf, BitVec.toNat_ofNat, Nat.shiftRight_eq_div_pow, hwidth, Nat.mod_mul_right_div_self,
    Nat.mod_mul_right_mod]
  generalize 2 ^ (hi + 1 - lo) = m at *
  generalize 2 ^ lo = p at *
  have hsplit : w.toNat - w.toNat / p % m * p = w.toNat % p + p * (m * (w.toNat / p / m)) := by
    have h1 := Nat.mod_add_div w.toNat p
    have h2 := Nat.mod_add_div (w.toNat / p) m
    have h3 : p * (w.toNat / p) = w.toNat / p % m * p + p * (m * (w.toNat / p / m)) := by
      rw [Nat.mul_comm _ p, ← Nat.mul_add, h2]
    omega
  have hval : w.toNat - w.toNat / p % m * p + v % m * p = w.toNat % p + p * (v % m + m * (w.toNat / p / m)) := by
    rw [hsplit, Nat.mul_add, Nat.mul_comm p (v % m)]; omega
  rw [hval, Nat.add_mul_div_left _ _ hp, Nat.div_eq_of_lt (Nat.mod_lt _ hp), Nat.zero_add, Nat.add_mul_mod_self_left,
    Nat.mod_mod]

/-! ### Staged writes (R32, R33, R38) -/

theorem length_eraseDups_le {α : Type} [BEq α] : ∀ l : List α, l.eraseDups.length ≤ l.length
  | [] => Nat.le_refl 0
  | a :: t => by
    have hf : (t.filter fun b => !b == a).length ≤ t.length := List.length_filter_le _ _
    have ih := length_eraseDups_le (t.filter fun b => !b == a)
    rw [List.eraseDups_cons, List.length_cons, List.length_cons]
    omega
termination_by l => l.length
decreasing_by simp only [List.length_cons]; omega

/-- A pending set names at most as many registers as it has writes. -/
theorem length_pendRegs_le (l : List PendWrite) : (pendRegs l).length ≤ l.length := by
  simpa [pendRegs] using length_eraseDups_le (l.map PendWrite.addr)

/-- R33, R38: while no full stop is due, a write joins a set that has room; it replaces an earlier one of its execution to
its register. -/
theorem stageIn_joins {s : State} {g : Nat} (w : PendWrite) (hstop : s.stopReal g = false)
    (hover : (s.group g).overflowed = false) (hroom : (s.group g).pend.length < 128) :
    ((s.stageIn g w).group g).pend
        = (s.group g).pend.filter (fun p => !(p.addr == w.addr && p.clause == w.clause && p.disp == w.disp))
          ++ [{ w with ord := (s.group g).stageNo }]
      ∧ ∀ q, (s.stageIn g w).reg q = s.reg q := by
  have hset : s.openSet g = (s.group g).pend := by simp [State.openSet, hstop]
  have hopen : s.openOver g = false := by simp [State.openOver, hstop, hover]
  have hregs : ¬ 128 ≤ (pendRegs (s.group g).pend).length := by
    have := length_pendRegs_le (s.group g).pend
    omega
  have hmine : (s.group g).pend.filter (fun p => !(p.addr == w.addr && p.clause == w.clause && p.disp == w.disp
        && (s.group g).pend.contains p))
      = (s.group g).pend.filter (fun p => !(p.addr == w.addr && p.clause == w.clause && p.disp == w.disp)) :=
    List.filter_congr fun p hp => by simp [hp]
  rw [← hmine]
  simp [State.stageIn, hset, hopen, hregs]

/-- R32: a write to a staged register whose chapter refuses nothing at the write is staged. -/
theorem poke_staged {s : State} {a : Nat} (p : Party) (v : Word) (hst : isStaged a = true) (hfb : a ≠ Reg.OPT_FBLIM)
    (hsw : a ≠ Reg.LPE_SWAP) (hring : ¬ (0x0901 ≤ a ∧ a < 0x0A00 ∧ a % 4 = 1)) : s.poke p a v = s.stage p a v := by
  have hring' : ¬ (0x0901 ≤ a ∧ a < 0x0A00 ∧ a % 4 = 1 ∧ ringBad v = true) := fun ⟨h1, h2, h3, _⟩ => hring ⟨h1, h2, h3⟩
  simp [State.poke, hst, State.pokeStaged, hfb, hsw, hring']

/-- R386: a write of the service protocol to a decoded staged register is neither undecoded nor ignored. -/
theorem writePort_svc_staged {s : State} {a : Nat} (g : GroupNo) (v : Word) (hdec : s.decoded a = true)
    (hst : isStaged a = true) : s.writePort (.svc g) a v = s.poke (.svc g) a v := by
  simp [State.writePort, State.writable, State.ignored, hdec, hst]

/-- R8: a write of the service protocol to an undecoded port changes nothing. -/
theorem writePort_svc_undecoded {s : State} {a : Nat} (g : GroupNo) (v : Word) (hdec : s.decoded a = false) :
    s.writePort (.svc g) a v = s := by
  simp [State.writePort, State.writable, State.partyEsf, hdec]

/-- REGISTER_WRITE of the service protocol in its turn. -/
theorem exec_registerWrite_svc {s : State} {g : GroupNo} (h : s.turnOf (.svc g) = true) (a : Fin 65536) (v : Word) :
    exec (.registerWrite (.svc g) a v) s = .next ((s.turned (.svc g)).writePort (.svc g) a.val v) :=
  congrArg Host.Outcome.next (byParty_of_turnOf h _)

/-! ### DISCARD (R35, R40) -/

/-- A discard concerns one group. -/
theorem group_discardSet_ne {s : State} {g q : Nat} (h : q ≠ g) : (s.discardSet g).group q = s.group q := by
  unfold State.discardSet
  split <;> exact group_updGroup_ne _ h

@[simp] theorem reg_discardSet (s : State) (g q : Nat) : (s.discardSet g).reg q = s.reg q := by
  unfold State.discardSet
  split <;> rfl

/-- R40: while no full stop is due, a discard empties the set and ends its overflowed state. -/
theorem group_discardSet_of_noStop {s : State} {g : Nat} (h : s.stopReal g = false) :
    (s.discardSet g).group g = { s.group g with pend := [], overflowed := false } := by
  simp [State.discardSet, h]

/-- R35, R40: in the clock of a full stop a discard leaves that full stop's set and drops what waits for the next one. -/
theorem group_discardSet_of_stop {s : State} {g : Nat} (h : s.stopReal g = true) :
    (s.discardSet g).group g = { s.group g with
      pend := (s.group g).pend.filter (fun w => decide (w.clk < (s.group g).dueClk)), overNext := false } := by
  simp [State.discardSet, State.setOf, h]

theorem exec_discard {s : State} {p : Party} {v : Word} (h : s.turnOf p = true) (hv : bit v 0 = true) :
    exec (.discard p v) s = .next ((s.turned p).discardSet (s.regF Reg.SYS_CPSEL 3 0)) := by
  have hact : (s.turned p).cpdiscWrite v = (s.turned p).discardSet (s.regF Reg.SYS_CPSEL 3 0) := if_pos hv
  exact congrArg Host.Outcome.next ((byParty_of_turnOf h _).trans hact)

/-! ### CLE_CMAXCLR (R86) -/

theorem exec_cleCmaxclr {s : State} {p : Party} (h : s.turnOf p = true) (v : Word) :
    exec (.cleCmaxclr p v) s = .next ((s.turned p).clearMax (fld v 7 0)) :=
  congrArg Host.Outcome.next (byParty_of_turnOf h _)

/-- R86: after a clear the largest count is that of an end of the clause in this clock, or 0; every other register stays. -/
theorem reg_clearMax (s : State) (c q : Nat) : (s.clearMax c).reg q =
    if q = Reg.CLE_CMAX c then
      if (s.counts c).endCount ≠ 0 ∧ (s.counts c).endClk = s.clk then BitVec.ofNat 32 (s.counts c).endCount else 0
    else s.reg q := State.reg_setReg s _ _ _

/-! ### SCH_PLCTL (R159) -/

/-- The flags of a party stand in CLE_ESF, CLE_EFLG and CLE_CFLG: no port below them moves. -/
theorem reg_partyEsf_of_lt {a : Nat} (s : State) (p : Party) (b : EsfBit) (h : a < Reg.CLE_EFLG 0) :
    (s.partyEsf p b).reg a = s.reg a := by
  have heng (u : State) (e : Nat) : (u.setBitR (Reg.CLE_EFLG e) (esfNo b)).reg a = u.reg a :=
    State.reg_orBits_ne u _ (by simp only [Reg.CLE_EFLG] at h ⊢; omega)
  have hcl (u : State) (c : Nat) : (u.setBitR (Reg.CLE_CFLG c) (esfNo b)).reg a = u.reg a :=
    State.reg_orBits_ne u _ (by simp only [Reg.CLE_EFLG, Reg.CLE_CFLG] at h ⊢; omega)
  cases p with
  | svc g => rfl
  | eng e =>
    simp only [State.partyEsf, State.lateEsf]
    split
    · rfl
    · split
      · rw [hcl, heng]
      · exact heng s e.val

theorem exec_schPlctlWrite {s : State} {p : Party} (h : s.turnOf p = true) (v : Word) :
    exec (.schPlctlWrite p v) s = .next ((s.turned p).plctlWrite p v) :=
  congrArg Host.Outcome.next (byParty_of_turnOf h _)

/-- R159: a value whose fields are all legal is taken. -/
theorem plctlWrite_legal {v : Word} (s : State) (p : Party) (h1 : 1 ≤ fld v 23 20) (h2 : fld v 23 20 ≤ 8) (h3 : fld v 19 12 ≠ 0)
    (h4 : 10 ≤ fld v 11 0) (h5 : fld v 11 0 ≤ 4000) : s.plctlWrite p v = s.setReg Reg.SCH_PLCTL (v &&& 0xCFFFFFFF) :=
  if_neg (by omega)

/-- R159: a period above 4000 is refused with a flag of the writer. -/
theorem plctlWrite_longPeriod {v : Word} (s : State) (p : Party) (h : 4000 < fld v 11 0) :
    s.plctlWrite p v = s.partyEsf p .lenErr :=
  if_pos (by omega)

/-! ### SYS_BOOT (R542) -/

theorem exec_sysBootWrite {s : State} {p : Party} (h : s.turnOf p = true) (v : Word) :
    exec (.sysBootWrite p v) s = .next ((s.turned p).bootWrite p v) :=
  congrArg Host.Outcome.next (byParty_of_turnOf h _)

/-- R542: at commissioner level the service protocol writes a legal SEL. -/
theorem sel_bootWrite_commissioner {s : State} {v : Word} (g : GroupNo) (hl : 2 ≤ s.svcLevel) (hv : fld v 1 0 < 2) :
    (s.bootWrite (.svc g) v).regF Reg.SYS_BOOT 1 0 = fld v 1 0 := by
  have hact : s.bootWrite (.svc g) v = s.setRegF Reg.SYS_BOOT 1 0 (fld v 1 0) := if_pos ⟨hl, hv⟩
  rw [hact, State.regF, State.setRegF, State.reg_setReg_same, fld_setFld_same _ _ (by omega) (by omega)]
  exact Nat.mod_eq_of_lt (by omega)

/-! ### The statement -/

/-- Settles O24: each write acts in the party's turn, and there its operation's law gives the result. -/
theorem registerWrites : Obligations.RegisterWrites := by
  refine ⟨fun g a v s ht => ⟨?staged, ?undecoded⟩, fun p v s ht => ⟨?discard, ?cmaxclr, ?plctl, ?plctlRefused⟩, ?boot⟩
  case staged =>
    intro hdec hst hfb hsw hring hstop hover hroom
    obtain ⟨hpend, hreg⟩ := stageIn_joins (s := s.turned (.svc g)) (g := g.val)
      { clause := none, disp := 0, addr := a, val := v, clk := s.clk } hstop hover hroom
    refine ⟨_, exec_registerWrite_svc ht a v, ?_⟩
    rw [writePort_svc_staged g v (s := s.turned (.svc g)) hdec hst, poke_staged (.svc g) v hst hfb hsw hring]
    exact ⟨hreg, hpend⟩
  case undecoded =>
    intro hdec
    rw [exec_registerWrite_svc ht, writePort_svc_undecoded g v (s := s.turned (.svc g)) hdec]
  case discard =>
    intro g hv
    refine ⟨_, exec_discard ht hv, fun q hq => group_discardSet_ne hq, fun q => reg_discardSet _ _ q,
      fun hstop => ?_, fun hstop => ?_⟩
    · rw [group_discardSet_of_noStop (s := s.turned p) hstop]
      exact ⟨rfl, rfl⟩
    · rw [group_discardSet_of_stop (s := s.turned p) hstop]
      rfl
  case cmaxclr =>
    intro c
    refine ⟨_, exec_cleCmaxclr ht v, fun q hq => ?_, ?_⟩
    · rw [reg_clearMax, if_neg hq, reg_turned]
    · rw [reg_clearMax, if_pos rfl, counts_turned, clk_turned]
  case plctl =>
    intro h1 h2 h3 h4 h5
    refine ⟨_, exec_schPlctlWrite ht v, ?_⟩
    rw [plctlWrite_legal _ p h1 h2 h3 h4 h5, State.reg_setReg_same]
  case plctlRefused =>
    intro h
    refine ⟨_, exec_schPlctlWrite ht v, ?_⟩
    rw [plctlWrite_longPeriod _ p h, reg_partyEsf_of_lt _ p _ (by decide), reg_turned]
  case boot =>
    intro g v s ht hl hv
    exact ⟨_, exec_sysBootWrite ht v, sel_bootWrite_commissioner (s := s.turned (.svc g)) g hl hv⟩

end Sys2Proof.Machine
end

section
/-! Start-up (R13, R14, R539 to R549, R589): what a record leaves alone, what each step of the start does, what the pair logic
leaves at the program start, and with these the statement `Obligations.StartupResults`. -/
namespace Sys2Proof.Machine

/-! ### Bits of a word -/

theorem bit_bitMask {i : Nat} (hi : i < 32) (j : Nat) : bit (bitMask i) j = decide (j = i) := by
  rw [bit, bitMask, wd, BitVec.toNat_ofNat, Nat.mod_eq_of_lt (Nat.pow_lt_pow_right (by omega) hi), Nat.testBit_two_pow]
  exact decide_eq_decide.2 eq_comm

theorem bit_or (v w : Word) (j : Nat) : bit (v ||| w) j = (bit v j || bit w j) := BitVec.getLsbD_or

theorem bit_andNot (v w : Word) (j : Nat) : bit (v &&& ~~~w) j = (bit v j && !bit w j) := by
  change (v &&& ~~~w).getLsbD j = (v.getLsbD j && !w.getLsbD j)
  by_cases h : j < 32
  · simp [h]
  · simp [BitVec.getLsbD_of_ge v j (by omega)]

/-- A field depends on its own bits only. -/
theorem fld_congr {v w : Word} {hi lo : Nat} (h : ∀ j, lo ≤ j → j ≤ hi → bit v j = bit w j) : fld v hi lo = fld w hi lo := by
  refine Nat.eq_of_testBit_eq fun j => ?_
  simp only [fld, bitsOf, Nat.testBit_mod_two_pow, Nat.testBit_shiftRight]
  by_cases hj : j < hi + 1 - lo
  · rw [show v.toNat.testBit (lo + j) = w.toNat.testBit (lo + j) from h _ (by omega) (by omega)]
  · simp [hj]

/-- A replaced field leaves the bits beside it. -/
theorem bit_setFld_outside (w : Word) {hi lo j : Nat} (v : Nat) (hlo : lo ≤ hi) (hj : j < lo ∨ hi < j) :
    bit (setFld w hi lo v) j = bit w j := by
  have hparts : w.toNat - fld w hi lo * 2 ^ lo + v % 2 ^ (hi + 1 - lo) * 2 ^ lo
      = 2 ^ lo * (2 ^ (hi + 1 - lo) * (w.toNat / 2 ^ lo / 2 ^ (hi + 1 - lo)) + v % 2 ^ (hi + 1 - lo)) + w.toNat % 2 ^ lo := by
    have hlow := Nat.mod_add_div w.toNat (2 ^ lo)
    have hmid := congrArg (2 ^ lo * ·) (Nat.mod_add_div (w.toNat / 2 ^ lo) (2 ^ (hi + 1 - lo)))
    simp only [fld, bitsOf, Nat.shiftRight_eq_div_pow, Nat.mul_add, Nat.mul_comm _ (2 ^ lo)] at hmid ⊢
    omega
  have hx : v % 2 ^ (hi + 1 - lo) < 2 ^ (hi + 1 - lo) := Nat.mod_lt _ (Nat.two_pow_pos _)
  have hl : w.toNat % 2 ^ lo < 2 ^ lo := Nat.mod_lt _ (Nat.two_pow_pos _)
  by_cases h32 : j < 32
  · simp only [bit, setFld, BitVec.toNat_ofNat, Nat.testBit_mod_two_pow, h32, decide_true, Bool.true_and, hparts,
      Nat.testBit_two_pow_mul_add _ hl]
    rcases hj with hj | hj
    · simp [hj]
    · have h1 : ¬ j < lo := by omega
      have h2 : ¬ j - lo < hi + 1 - lo := by omega
      simp only [h1, if_false, Nat.testBit_two_pow_mul_add _ hx, h2, Nat.testBit_div_two_pow]
      congr 1; omega
  · change (setFld w hi lo v).getLsbD j = w.getLsbD j
    rw [BitVec.getLsbD_of_ge _ _ (by omega), BitVec.getLsbD_of_ge _ _ (by omega)]

/-! ### Bits of a register -/

theorem regB_setBitR (s : State) {i : Nat} (hi : i < 32) (a b j : Nat) :
    (s.setBitR a i).regB b j = if b = a ∧ j = i then true else s.regB b j := by
  rw [State.regB, State.setBitR, State.reg_orBits]
  by_cases hb : b = a
  · subst hb
    by_cases hj : j = i <;> simp [bit_or, bit_bitMask hi, hj, State.regB]
  · simp [hb, State.regB]

theorem regB_clrBitR (s : State) {i : Nat} (hi : i < 32) (a b j : Nat) :
    (s.clrBitR a i).regB b j = if b = a ∧ j = i then false else s.regB b j := by
  rw [State.regB, State.clrBitR, State.reg_setReg]
  by_cases hb : b = a
  · subst hb
    by_cases hj : j = i <;> simp [bit_andNot, bit_bitMask hi, hj, State.regB]
  · simp [hb, State.regB]

theorem regB_putBitR (s : State) {i : Nat} (hi : i < 32) (a b j : Nat) (v : Bool) :
    (s.putBitR a i v).regB b j = if b = a ∧ j = i then v else s.regB b j := by
  cases v
  · exact regB_clrBitR s hi a b j
  · exact regB_setBitR s hi a b j

theorem reg_putBitR_ne (s : State) {a b : Nat} (i : Nat) (v : Bool) (h : b ≠ a) : (s.putBitR a i v).reg b = s.reg b := by
  cases v
  · exact State.reg_setReg_ne s _ h
  · exact State.reg_orBits_ne s _ h

@[simp] theorem boot_putBitR (s : State) (a i : Nat) (v : Bool) : (s.putBitR a i v).boot = s.boot := by
  cases v <;> rfl

theorem regB_setRegF (s : State) {a b hi lo j : Nat} (v : Nat) (hlo : lo ≤ hi) (h : b ≠ a ∨ j < lo ∨ hi < j) :
    (s.setRegF a hi lo v).regB b j = s.regB b j := by
  rw [State.regB, State.setRegF, State.reg_setReg]
  split
  case isTrue hb => subst hb; exact bit_setFld_outside _ v hlo (h.resolve_left fun h => h rfl)
  case isFalse => rfl

theorem regF_setRegF_same (s : State) (a : Nat) {hi lo : Nat} (v : Nat) (hlo : lo ≤ hi) (hhi : hi < 32) :
    (s.setRegF a hi lo v).regF a hi lo = v % 2 ^ (hi + 1 - lo) := by
  rw [State.regF, State.setRegF, State.reg_setReg_same, fld_setFld_same _ _ hlo hhi]

/-- Fields with the same bits are the same. -/
theorem regF_congr {s t : State} {a hi lo : Nat} (h : ∀ j, lo ≤ j → j ≤ hi → t.regB a j = s.regB a j) :
    t.regF a hi lo = s.regF a hi lo := fld_congr h

/-! ### What a record leaves -/

/-- The entry of a port that is not the recorder's (`recorderPort`, decided). -/
def ownPort (q : Nat × Word) : Bool := !(decide (0x8000 ≤ q.1) && decide (q.1 < 0x8400))

/-- The unit without what a record moves: the recorder's ports and store, and the notes of this FAB clock. -/
def State.unrecorded (s : State) : State :=
  { s with regs := s.regs.filter ownPort, now := {}, evr := { holding := s.evr.holding, pcc := s.evr.pcc } }

theorem filter_mput (p : Nat × Word → Bool) {k : Nat} {v : Word} (hk : ∀ w, p (k, w) = false) (m : SMap Word) :
    (mput m k v).filter p = m.filter p := by
  induction m with
  | nil => simp [mput, hk]
  | cons q t ih =>
    obtain ⟨j, w⟩ := q
    unfold mput
    split
    · simp [hk]
    · split
      case isTrue h => subst h; simp [hk]
      case isFalse => simp [List.filter_cons, ih]

theorem mget_filter (p : Nat × Word → Bool) {k : Nat} (hk : ∀ w, p (k, w) = true) (m : SMap Word) :
    mget (m.filter p) k = mget m k := by
  induction m with
  | nil => rfl
  | cons q t ih =>
    obtain ⟨j, w⟩ := q
    by_cases hj : j = k
    · subst hj; simp [hk, mget]
    · by_cases hp : p (j, w) = true <;> simp [hp, mget, hj, ih]

theorem ownPort_eq_true {a : Nat} (h : ¬ recorderPort a) (w : Word) : ownPort (a, w) = true := by
  unfold recorderPort at h; simp only [ownPort, Bool.not_eq_true', Bool.and_eq_false_iff, decide_eq_false_iff_not]; omega

theorem ownPort_eq_false {a : Nat} (h : recorderPort a) (w : Word) : ownPort (a, w) = false := by
  obtain ⟨h1, h2⟩ := h; simp [ownPort, h1, h2]

theorem not_recorderPort {a : Nat} (h : a < 0x8000) : ¬ recorderPort a := fun hr => Nat.not_lt.2 hr.1 h

theorem reg_unrecorded (s : State) {a : Nat} (h : ¬ recorderPort a) : s.unrecorded.reg a = s.reg a := by
  simp only [State.reg, mgetD, State.unrecorded, mget_filter ownPort (ownPort_eq_true h)]

theorem unrecorded_setReg (s : State) {a : Nat} (v : Word) (h : recorderPort a) : (s.setReg a v).unrecorded = s.unrecorded := by
  simp only [State.unrecorded, State.setReg, filter_mput ownPort (ownPort_eq_false h)]

theorem unrecorded_setBitR (s : State) {a : Nat} (i : Nat) (h : recorderPort a) : (s.setBitR a i).unrecorded = s.unrecorded :=
  unrecorded_setReg s _ h

theorem unrecorded_bump (s : State) {a : Nat} (n : Nat) (h : recorderPort a) : (s.bump a n).unrecorded = s.unrecorded :=
  unrecorded_setReg s _ h

theorem unrecorded_drop (s : State) {a : Nat} (n : Nat) (h : recorderPort a) : (s.drop a n).unrecorded = s.unrecorded :=
  unrecorded_setReg s _ h

/-- The ports that a record moves besides those of its freeze slot. -/
theorem recorderPort_numbers : recorderPort Reg.EVR_STK ∧ recorderPort Reg.EVR_NACC ∧ recorderPort Reg.EVR_NPEND
    ∧ recorderPort Reg.EVR_NINLOST ∧ recorderPort Reg.EVR_NFRZMISS ∧ recorderPort Reg.EVR_NLOST := by
  unfold recorderPort; decide

/-- R534: a freeze slot is one of four, whose ports are the recorder's. -/
theorem recorderPort_emptySlot {s : State} {k : Nat} (h : s.emptySlot = some k) :
    recorderPort (Reg.EVR_FST k) ∧ recorderPort (Reg.EVR_FSTL k) := by
  obtain ⟨-, hk, -⟩ := findFrom_some h
  constructor <;> simp only [recorderPort, Reg.EVR_FST, Reg.EVR_FSTL] <;> omega

theorem unrecorded_enter (fuel : Nat) : ∀ (s : State) (part : Nat) (b : RecBody),
    (s.enter part b fuel).unrecorded = s.unrecorded := by
  induction fuel with
  | zero => exact fun _ _ _ => rfl
  | succ fuel ih =>
    intro s part b
    unfold State.enter
    extract_lets -lift +onlyGivenNames hit slot r src s1 s2
    have h2 : s2.unrecorded = s.unrecorded := by
      have h1 : s1.unrecorded = s.unrecorded := rfl
      simp only [s2, h1, unrecorded_bump, recorderPort_numbers]
    have hport : ∀ k, slot = some k → recorderPort (Reg.EVR_FST k) ∧ recorderPort (Reg.EVR_FSTL k) := fun k hk =>
      recorderPort_emptySlot (s := s) (by revert hk; simp only [slot]; split <;> simp)
    clear_value s2 s1 r slot
    cases slot with
    | none =>
      dsimp only
      split
      · simp only [unrecorded_setBitR, unrecorded_bump, recorderPort_numbers, h2]
      · exact h2
    | some k =>
      obtain ⟨hst, hstl⟩ := hport k rfl
      dsimp only
      generalize State.intakePart _ false = o
      cases o with
      | some q =>
        simp only [ih, unrecorded_setReg, hst, hstl]
        exact h2
      | none =>
        simp only [unrecorded_setBitR, unrecorded_bump, recorderPort_numbers]
        exact ((unrecorded_setReg _ _ hstl).trans (unrecorded_setReg _ _ hst)).trans h2

theorem unrecorded_accept (s : State) (isLog : Bool) (b : RecBody) : (s.accept isLog b).1.unrecorded = s.unrecorded := by
  unfold State.accept
  split
  · rfl
  · split
    · exact unrecorded_enter 5 s _ b
    · simp only [unrecorded_setBitR, unrecorded_bump, recorderPort_numbers]
      rfl

theorem unrecorded_record (s : State) (n : RecName) (el : Nat) (items : List Nat) :
    (s.record n el items).unrecorded = s.unrecorded := by
  unfold State.record
  split
  · rfl
  · exact unrecorded_accept s false _

/-! What does not belong to the recorder reads the same after a record. -/

section
variable (s : State) (n : RecName) (el : Nat) (items : List Nat)

@[simp] theorem engs_record : (s.record n el items).engs = s.engs := congrArg (fun u => u.engs) (unrecorded_record s n el items)
@[simp] theorem banks_record : (s.record n el items).banks = s.banks := congrArg (fun u => u.banks) (unrecorded_record s n el items)
@[simp] theorem pair_record : (s.record n el items).pair = s.pair := congrArg (fun u => u.pair) (unrecorded_record s n el items)
@[simp] theorem boot_record : (s.record n el items).boot = s.boot := congrArg (fun u => u.boot) (unrecorded_record s n el items)
@[simp] theorem pcc_record : (s.record n el items).evr.pcc = s.evr.pcc :=
  congrArg (fun u => u.evr.pcc) (unrecorded_record s n el items)

theorem reg_record {a : Nat} (h : ¬ recorderPort a) : (s.record n el items).reg a = s.reg a := by
  rw [← reg_unrecorded _ h, unrecorded_record, reg_unrecorded _ h]

end

/-! ### Resets (R551, R584) -/

/-- A button that is stuck adds a record and bits beside the cause, so each reading of the fresh state stands either way. -/
theorem restart_results (s : State) (cause : Nat) :
    (s.restart cause).reg Reg.SYS_RSTCAUSE = wd (cause * 2 ^ 28 + min (s.regF Reg.SYS_RSTCAUSE 23 0 + 1) 16777215)
      ∧ (s.restart cause).evr.pcc = s.evr.pcc ∧ (s.restart cause).boot.stage = .selftest ∧ (s.restart cause).engs = [] := by
  unfold State.restart
  extract_lets -lift +onlyGivenNames regs gap stuck src e b n0 n1 n
  have hn : n.reg Reg.SYS_RSTCAUSE = n1.reg Reg.SYS_RSTCAUSE := State.reg_setReg_ne _ _ (by decide)
  have h1 := State.reg_setReg_same n0 Reg.SYS_RSTCAUSE (wd (cause * 2 ^ 28 + min (s.regF Reg.SYS_RSTCAUSE 23 0 + 1) 16777215))
  split
  · refine ⟨?_, ?_, ?_, ?_⟩
    · rw [reg_record _ _ _ _ (not_recorderPort (by decide)), State.setBitR, State.reg_orBits_ne _ _ (by decide), State.setBitR,
        State.reg_orBits_ne _ _ (by decide), hn, h1]
    · rw [pcc_record]; rfl
    · rw [boot_record]; rfl
    · rw [engs_record]; rfl
  · exact ⟨hn.trans h1, rfl, rfl, rfl⟩

/-- R551: bits 31 to 28 of SYS_RSTCAUSE name the cause. -/
theorem regF_cause_restart (s : State) {cause : Nat} (h : cause < 16) : (s.restart cause).regF Reg.SYS_RSTCAUSE 31 28 = cause := by
  have hcount : min (s.regF Reg.SYS_RSTCAUSE 23 0 + 1) 16777215 < 2 ^ 28 := by omega
  rw [State.regF, (restart_results s cause).1]
  simp only [fld, bitsOf, wd, BitVec.toNat_ofNat, Nat.shiftRight_eq_div_pow]
  omega

/-! ### Service-only operation, lanes (R541, R346) -/

theorem withdrawClaim_eq (s : State) : ∃ p, s.withdrawClaim = { s with pair := p } := by
  unfold State.withdrawClaim
  split
  · exact ⟨s.pair, rfl⟩
  · exact ⟨_, rfl⟩

/-- R50, R352: a cause of bad health moves the pair logic at most; afterwards some cause stands. -/
theorem addHealth_eq (s : State) (h : HealthCause) : ∃ l p, l ≠ [] ∧ s.addHealth h = { s with health := l, pair := p } := by
  unfold State.addHealth
  split
  case isTrue hc => exact ⟨s.health, s.pair, fun hl => by simp [hl] at hc, rfl⟩
  case isFalse =>
    dsimp only
    split
    · obtain ⟨p, hp⟩ := withdrawClaim_eq { s with health := s.health ++ [h] }
      exact ⟨_, p, by simp, hp⟩
    · exact ⟨_, s.pair, by simp, rfl⟩

/-- R541: service-only operation: two fields of SYS_BOOT and a cause of bad health. -/
theorem serviceOnly_eq (s : State) : ∃ l p, l ≠ [] ∧
    s.serviceOnly = { (s.setBitR Reg.SYS_BOOT 6).setRegF Reg.SYS_BOOT 3 2 3 with health := l, pair := p } :=
  addHealth_eq _ _

@[simp] theorem boot_serviceOnly (s : State) : s.serviceOnly.boot = s.boot := by
  obtain ⟨l, p, -, h⟩ := serviceOnly_eq s
  rw [h]; rfl

@[simp] theorem healthy_serviceOnly (s : State) : s.serviceOnly.healthy = false := by
  obtain ⟨l, p, hl, h⟩ := serviceOnly_eq s
  rw [h]; simpa [State.healthy] using hl

theorem reg_serviceOnly (s : State) (a : Nat) :
    s.serviceOnly.reg a = ((s.setBitR Reg.SYS_BOOT 6).setRegF Reg.SYS_BOOT 3 2 3).reg a := by
  obtain ⟨l, p, -, h⟩ := serviceOnly_eq s
  rw [h]; rfl

@[simp] theorem regB_serviceOnly (s : State) : s.serviceOnly.regB Reg.SYS_BOOT 6 = true := by
  rw [State.regB, reg_serviceOnly, ← State.regB, regB_setRegF _ _ (by decide) (by decide), regB_setBitR _ (by decide)]
  simp

@[simp] theorem regF_serviceOnly (s : State) : s.serviceOnly.regF Reg.SYS_BOOT 3 2 = 3 := by
  rw [State.regF, reg_serviceOnly]
  exact regF_setRegF_same _ _ 3 (by decide) (by decide)

/-- R346: training concerns the lanes' registers only. -/
theorem trainLanes_eq (s : State) : ∃ r, s.trainLanes = { s with regs := r } := by
  unfold State.trainLanes
  split
  · exact ⟨s.regs, rfl⟩
  · exact ⟨_, rfl⟩

@[simp] theorem boot_trainLanes (s : State) : s.trainLanes.boot = s.boot := by
  obtain ⟨r, h⟩ := trainLanes_eq s
  rw [h]

@[simp] theorem healthy_trainLanes (s : State) : s.trainLanes.healthy = s.healthy := by
  obtain ⟨r, h⟩ := trainLanes_eq s
  rw [h]; rfl

@[simp] theorem reg_boot_trainLanes (s : State) : s.trainLanes.reg Reg.SYS_BOOT = s.reg Reg.SYS_BOOT := by
  unfold State.trainLanes
  split
  · rfl
  · exact (State.reg_setReg_ne _ _ (by decide)).trans (State.reg_setReg_ne _ _ (by decide))

/-! ### Images (R538 to R541) -/

/-- R539: the check of an image reads the slots, the keys, and registers beside SYS_BOOT and the recorder. -/
theorem imageFails_congr {s t : State} (hregs : sameRegs s t [Reg.SYS_BOOT]) (hboot : t.boot = s.boot) (slot : Nat) (placed : Bool) :
    t.imageFails slot placed = s.imageFails slot placed := by
  have hid : t.reg Reg.SYS_ID = s.reg Reg.SYS_ID := hregs _ (by decide) (not_recorderPort (by decide))
  have hkey : ∀ digest sig, t.keyVerifies digest sig = s.keyVerifies digest sig := by
    intro digest sig
    have h : ∀ k, t.regB (Reg.SEC_KEY k) 31 = s.regB (Reg.SEC_KEY k) 31 := fun k =>
      congrArg (bit · 31) (hregs _ (by simp only [List.mem_singleton, Reg.SEC_KEY, Reg.SYS_BOOT]; omega)
        (by unfold recorderPort; simp only [Reg.SEC_KEY]; omega))
    simp only [State.keyVerifies, h, hboot]
  have hsteps : t.imageSteps slot = s.imageSteps slot := by
    unfold State.imageSteps State.imageWord State.regF
    dsimp only
    rw [hid, hboot, hkey]
  unfold State.imageFails
  rw [hsteps]

theorem sameRegs_noteValid (s : State) (slot : Nat) : sameRegs s (s.noteValid slot) [Reg.SYS_BOOT] :=
  fun _ ha _ => reg_putBitR_ne s _ _ (by simpa using ha)

@[simp] theorem boot_noteValid (s : State) (slot : Nat) : (s.noteValid slot).boot = s.boot := boot_putBitR s _ _ _

theorem sameRegs_record (s : State) (n : RecName) (el : Nat) (items : List Nat) (l : List Nat) : sameRegs s (s.record n el items) l :=
  fun _ _ h => reg_record s n el items h

theorem sameRegs_trans {s t u : State} {l : List Nat} (h : sameRegs s t l) (k : sameRegs t u l) : sameRegs s u l :=
  fun a ha hr => (k a ha hr).trans (h a ha hr)

/-- R540: what the choice of an image leaves in SYS_BOOT, and which slot is to be started. -/
theorem chooseImage_results (s : State) {slot : Nat} (fallback : Bool) (h : slot < 2) :
    (s.chooseImage slot fallback).boot.image = some slot ∧ (s.chooseImage slot fallback).regF Reg.SYS_BOOT 3 2 = slot
      ∧ (s.chooseImage slot fallback).regB Reg.SYS_BOOT 7 = fallback := by
  have hreg : (s.chooseImage slot fallback).reg Reg.SYS_BOOT
      = ((s.setRegF Reg.SYS_BOOT 3 2 slot).putBitR Reg.SYS_BOOT 7 fallback).reg Reg.SYS_BOOT := by
    unfold State.chooseImage
    extract_lets -lift +onlyGivenNames u v w
    have hv : v.reg Reg.SYS_BOOT = u.reg Reg.SYS_BOOT := reg_putBitR_ne u _ _ (by decide)
    rw [State.reg_updBoot, State.reg_setReg_ne _ _ (by decide), State.reg_setReg_ne _ _ (by decide),
      State.reg_setReg_ne _ _ (by decide), hv]
  refine ⟨rfl, ?_, ?_⟩
  · rw [State.regF, hreg]
    calc _ = (s.setRegF Reg.SYS_BOOT 3 2 slot).regF Reg.SYS_BOOT 3 2 :=
          regF_congr fun j _ _ => by rw [regB_putBitR _ (by decide), if_neg (by omega)]
      _ = slot % 4 := regF_setRegF_same _ _ _ (by decide) (by decide)
      _ = slot := Nat.mod_eq_of_lt (by omega)
  · rw [State.regB, hreg]
    exact (regB_putBitR _ (by decide) _ _ _ _).trans (if_pos ⟨rfl, rfl⟩)

/-- R540: the image check ends with the selected image, else with the other one, else in service-only operation. -/
theorem exec_imageCheckEnd {s : State} (place0 place1 : Bool) (h : s.boot.stage = .images) :
    let sel := s.regF Reg.SYS_BOOT 1 0 % 2
    let fails := fun k => s.imageFails k (if k = 0 then place0 else place1)
    ∃ u, exec (.imageCheckEnd place0 place1) s = .next (u.trainLanes.updBoot (fun b => { b with stage := .address }))
      ∧ (fails sel = none → u = (s.noteValid sel).chooseImage sel false)
      ∧ (∀ r, fails sel = some r →
          let v := ((s.noteValid sel).record r 0 [sel]).noteValid (1 - sel)
          (fails (1 - sel) = none → u = (v.chooseImage (1 - sel) true).record .imageFallback 0 [sel, 1 - sel])
          ∧ (∀ q, fails (1 - sel) = some q → u = ((v.record q 0 [1 - sel]).record .noImage 0 []).serviceOnly)) := by
  intro sel fails
  have hsel : ∀ k p, (s.noteValid sel).imageFails k p = s.imageFails k p := fun k p =>
    imageFails_congr (sameRegs_noteValid s sel) (boot_noteValid s sel) k p
  have hother : ∀ r k p, (((s.noteValid sel).record r 0 [sel]).noteValid (1 - sel)).imageFails k p = s.imageFails k p :=
    fun r k p => imageFails_congr
      (sameRegs_trans (sameRegs_trans (sameRegs_noteValid s sel) (sameRegs_record _ _ _ _ _)) (sameRegs_noteValid _ _))
      (by simp) k p
  refine ⟨_, congrArg Host.Outcome.next (if_pos (by simp [h])), ?_, ?_⟩
  · intro hf
    have e := (hsel sel _).trans hf
    split
    case h_1 => rfl
    case h_2 hr => exact nomatch e.symm.trans hr
  · intro r hf v
    have e := (hsel sel _).trans hf
    split
    case h_1 hr => exact nomatch e.symm.trans hr
    case h_2 r' hr =>
      obtain rfl : r = r' := Option.some.inj (e.symm.trans hr)
      refine ⟨fun hg => ?_, fun q hg => ?_⟩
      all_goals have e' := (hother r (1 - sel) _).trans hg
      · dsimp only
        split
        case h_1 => rfl
        case h_2 hq => exact nomatch e'.symm.trans hq
      · dsimp only
        split
        case h_1 hq => exact nomatch e'.symm.trans hq
        case h_2 q' hq =>
          obtain rfl : q = q' := Option.some.inj (e'.symm.trans hq)
          rfl

/-- R540, R541: which image is to be started, and what SYS_BOOT says of it. -/
theorem imageCheckEnd_results {s : State} (place0 place1 : Bool) (hs : s.boot.stage = .images) :
    let sel := s.regF Reg.SYS_BOOT 1 0 % 2
    let place := fun k => if k = 0 then place0 else place1
    ∃ t, exec (.imageCheckEnd place0 place1) s = .next t ∧ t.boot.stage = .address
      ∧ (s.imageFails sel (place sel) = none →
          t.boot.image = some sel ∧ t.regF Reg.SYS_BOOT 3 2 = sel ∧ t.regB Reg.SYS_BOOT 7 = false)
      ∧ (s.imageFails sel (place sel) ≠ none → s.imageFails (1 - sel) (place (1 - sel)) = none →
          t.boot.image = some (1 - sel) ∧ t.regF Reg.SYS_BOOT 3 2 = 1 - sel ∧ t.regB Reg.SYS_BOOT 7 = true)
      ∧ (s.imageFails sel (place sel) ≠ none → s.imageFails (1 - sel) (place (1 - sel)) ≠ none →
          t.boot.image = s.boot.image ∧ t.regF Reg.SYS_BOOT 3 2 = 3 ∧ t.regB Reg.SYS_BOOT 6 = true ∧ t.healthy = false) := by
  intro sel place
  obtain ⟨u, hexec, hchosen, hfailed⟩ := exec_imageCheckEnd place0 place1 hs
  have hsel : sel < 2 := Nat.mod_lt _ (by decide)
  have himage : u.trainLanes.boot.image = u.boot.image := congrArg Boot.image (boot_trainLanes u)
  have hreg := reg_boot_trainLanes u
  refine ⟨_, hexec, rfl, fun hgood => ?_, fun hbad hgood => ?_, fun hbad hbad' => ?_⟩
  · obtain ⟨himg, hrun, hback⟩ := chooseImage_results (s.noteValid sel) false hsel
    rw [← hchosen hgood] at himg hrun hback
    exact ⟨himage.trans himg, (congrArg (fld · 3 2) hreg).trans hrun, (congrArg (bit · 7) hreg).trans hback⟩
  · obtain ⟨r, hr⟩ := Option.ne_none_iff_exists'.1 hbad
    obtain ⟨himg, hrun, hback⟩ :=
      chooseImage_results (((s.noteValid sel).record r 0 [sel]).noteValid (1 - sel)) true (slot := 1 - sel) (by omega)
    have hu := (hfailed r hr).1 hgood
    have hboot := congrArg State.boot hu
    have hsys := congrArg (State.reg · Reg.SYS_BOOT) hu
    simp only [boot_record] at hboot
    rw [reg_record _ _ _ _ (not_recorderPort (a := Reg.SYS_BOOT) (by decide))] at hsys
    exact ⟨himage.trans ((congrArg Boot.image hboot).trans himg), (congrArg (fld · 3 2) (hreg.trans hsys)).trans hrun,
      (congrArg (bit · 7) (hreg.trans hsys)).trans hback⟩
  · obtain ⟨r, hr⟩ := Option.ne_none_iff_exists'.1 hbad
    obtain ⟨q, hq⟩ := Option.ne_none_iff_exists'.1 hbad'
    have hu := (hfailed r hr).2 q hq
    have hboot : u.boot = s.boot := by rw [hu]; simp
    have hrun : u.regF Reg.SYS_BOOT 3 2 = 3 := by rw [hu, regF_serviceOnly]
    have honly : u.regB Reg.SYS_BOOT 6 = true := by rw [hu, regB_serviceOnly]
    have hhealth : u.healthy = false := by rw [hu, healthy_serviceOnly]
    exact ⟨himage.trans (congrArg Boot.image hboot), (congrArg (fld · 3 2) hreg).trans hrun, (congrArg (bit · 6) hreg).trans honly,
      (healthy_trainLanes u).trans hhealth⟩

/-! ### The held records (R544, R589) -/

/-- R589: once the address is settled the recorder holds nothing back; beside the recorder only start-up state moves. -/
theorem unrecorded_flushHeld (s : State) : ∃ b, s.flushHeld.unrecorded
    = { s.unrecorded with evr := { holding := false, pcc := s.evr.pcc }, boot := b } := by
  unfold State.flushHeld
  extract_lets -lift +onlyGivenNames held s1 s2 s3 s4
  have h2 : s2.unrecorded = { s.unrecorded with evr := { holding := false, pcc := s.evr.pcc } } :=
    unrecorded_record s1 _ _ _
  have h3 : ∃ b, s3.unrecorded = { s2.unrecorded with boot := b } := by
    unfold s3
    split
    case h_1 q n hgap =>
      refine ⟨{ s2.boot with gapDue := none }, ?_⟩
      extract_lets -lift +onlyGivenNames u v
      have hu : u.unrecorded = s2.unrecorded :=
        (unrecorded_setBitR _ 2 recorderPort_numbers.1).trans (unrecorded_record s2 _ _ _)
      have hv : v.unrecorded = u.unrecorded := rfl
      have hw : ((v.bump Reg.EVR_NLOST n).drop Reg.EVR_NPEND n).unrecorded = s2.unrecorded := by
        simp only [unrecorded_drop, unrecorded_bump, recorderPort_numbers, hv, hu]
      exact congrArg (fun w : State => ({ w with boot := { w.boot with gapDue := none } } : State)) hw
    case h_2 => exact ⟨s2.boot, rfl⟩
  obtain ⟨b, h3⟩ := h3
  have h4 : s4.unrecorded = s3.unrecorded := unrecorded_record s3 _ _ _
  refine ⟨b, ?_⟩
  have hfold : (held.foldl (fun s r => (s.accept false r).1) s4).unrecorded = s4.unrecorded :=
    foldl_keeps (fun u => u.unrecorded = s4.unrecorded) _ held s4 rfl fun u r _ hu => (unrecorded_accept u false r).trans hu
  rw [hfold, h4, h3, h2]

theorem reg_flushHeld (s : State) {a : Nat} (h : ¬ recorderPort a) : s.flushHeld.reg a = s.reg a := by
  obtain ⟨b, hb⟩ := unrecorded_flushHeld s
  rw [← reg_unrecorded _ h, hb, ← reg_unrecorded s h]; rfl

@[simp] theorem healthy_flushHeld (s : State) : s.flushHeld.healthy = s.healthy := by
  obtain ⟨b, hb⟩ := unrecorded_flushHeld s
  exact congrArg (fun u => u.health.isEmpty) hb

@[simp] theorem holding_flushHeld (s : State) : s.flushHeld.evr.holding = false := by
  obtain ⟨b, hb⟩ := unrecorded_flushHeld s
  exact congrArg (fun u => u.evr.holding) hb

/-! ### Address (R546 to R548) -/

/-- R547: an address taken stands in both fields of SYS_ADDR; no other register beside the recorder moves. -/
theorem takeAddress_results (s : State) {a : Nat} (h : a < 256) :
    (s.takeAddress a).regF Reg.SYS_ADDR 7 0 = a ∧ (s.takeAddress a).regF Reg.SYS_ADDR 15 8 = a
      ∧ sameRegs s (s.takeAddress a) [Reg.SYS_ADDR] := by
  have hother : ∀ (u : State) (hi lo v : Nat), sameRegs u (u.setRegF Reg.SYS_ADDR hi lo v) [Reg.SYS_ADDR] := fun u hi lo v q hq _ =>
    State.reg_setReg_ne u _ (by simpa using hq)
  have hlow : (s.setRegF Reg.SYS_ADDR 7 0 a).regF Reg.SYS_ADDR 7 0 = a :=
    (regF_setRegF_same s _ _ (by decide) (by decide)).trans (Nat.mod_eq_of_lt h)
  unfold State.takeAddress
  dsimp only
  split
  case isTrue hold =>
    refine ⟨hlow, ?_, hother s _ _ _⟩
    calc _ = s.regF Reg.SYS_ADDR 15 8 := regF_congr fun j h8 _ => regB_setRegF _ _ (by decide) (by omega)
      _ = a := hold.symm
  case isFalse =>
    have hrec : ¬ recorderPort Reg.SYS_ADDR := not_recorderPort (by decide)
    refine ⟨?_, ?_, sameRegs_trans (hother s _ _ _) (sameRegs_trans (hother _ _ _ _) (sameRegs_record _ _ _ _ _))⟩
    · rw [State.regF, reg_record _ _ _ _ hrec]
      exact (regF_congr fun j _ h7 => regB_setRegF _ _ (by decide) (by omega)).trans hlow
    · rw [State.regF, reg_record _ _ _ _ hrec]
      exact (regF_setRegF_same _ _ _ (by decide) (by decide)).trans (Nat.mod_eq_of_lt h)

/-- R547: the sense pins as read at the start. -/
def State.sensed (s : State) (inPresent outPresent : Bool) : State :=
  ((s.updBoot (fun b => { b with plugIn := inPresent })).putBitR Reg.SYS_ADDR 31 (!inPresent)).putBitR Reg.SYS_ADDR 30 outPresent

/-- The sense pins stand beside the stored address. -/
theorem stored_sensed (s : State) (i o : Bool) : (s.sensed i o).regF Reg.SYS_ADDR 15 8 = s.regF Reg.SYS_ADDR 15 8 :=
  regF_congr fun j _ _ => by
    unfold State.sensed
    rw [regB_putBitR _ (by decide), if_neg (by omega), regB_putBitR _ (by decide), if_neg (by omega)]; rfl

theorem reg_sensed (s : State) (i o : Bool) {a : Nat} (h : a ≠ Reg.SYS_ADDR) : (s.sensed i o).reg a = s.reg a :=
  (reg_putBitR_ne _ _ _ h).trans (reg_putBitR_ne _ _ _ h)

/-- R547, R548, R589: the address step settles the address, then accepts the held records and passes on to the loader, or to
service-only operation. -/
theorem exec_addressTake {s : State} (inPresent outPresent : Bool) (h : s.boot.stage = .address)
    (hgo : inPresent = false ∨ s.boot.chainGot.isSome = true ∨ 1170000000 ≤ s.tb.el) :
    let v := s.sensed inPresent outPresent
    ∃ u, exec (.addressTake inPresent outPresent) s = .next (u.flushHeld.updBoot (fun b => { b with
          stage := if u.flushHeld.regB Reg.SYS_BOOT 6 then .service else .loader, chainEl := u.flushHeld.tb.el }))
      ∧ (inPresent = false → u = v.takeAddress 1)
      ∧ (∀ a, inPresent = true → s.boot.chainGot = some a → 1 ≤ a → a ≤ 62 → u = v.takeAddress a)
      ∧ (inPresent = true → s.boot.chainGot = none → s.regF Reg.SYS_ADDR 15 8 = 0 →
          u = ((v.setBitR Reg.SYS_STK 2).record .chainBreak 0 []).noAddress) := by
  intro v
  have hgot : v.boot.chainGot = s.boot.chainGot := by simp only [v, State.sensed, boot_putBitR]; rfl
  refine ⟨_, congrArg Host.Outcome.next (if_pos ?_), ?_, ?_, ?_⟩
  · rcases hgo with hgo | hgo | hgo <;> simp [h, hgo]
  · rintro rfl; rfl
  · intro a hin ha h1 h62
    subst hin
    rw [if_neg (by decide)]
    split
    case h_1 a' heq =>
      obtain rfl : a' = a := Option.some.inj ((heq.symm.trans hgot).trans ha)
      exact if_neg (by omega)
    case h_2 heq => exact nomatch (hgot.symm.trans heq).symm.trans ha
  · intro hin hnone hstored
    subst hin
    rw [if_neg (by decide)]
    split
    case h_1 heq => exact nomatch (heq.symm.trans hgot).trans hnone
    case h_2 => exact if_pos ((stored_sensed s true outPresent).trans hstored)

/-- Without an address offered before the deadline the unit waits. -/
theorem exec_addressTake_waits {s : State} (outPresent : Bool) (hgot : s.boot.chainGot = none) (hel : s.tb.el < 1170000000) :
    exec (.addressTake true outPresent) s = .next s :=
  congrArg Host.Outcome.next (if_neg (by simp [hgot, hel]))

/-! ### Chain frames (R546) -/

theorem crc16Bit_lt {c b : Nat} : crc16Bit c b < 65536 := by
  unfold crc16Bit
  split
  · exact Nat.xor_lt_two_pow (n := 16) (Nat.mod_lt _ (by decide)) (by decide)
  · exact Nat.mod_lt _ (by decide)

theorem crc16_lt (v w n : Nat) : crc16 v w n < 65536 :=
  foldl_keeps (· < 65536) _ _ _ (by decide) fun _ _ _ _ => crc16Bit_lt

/-- R546: a chain frame carries its address in bits 23 to 16. -/
theorem fld_chainWord {a : Nat} (h : a < 256) : fld (chainWord a) 23 16 = a := by
  have hc := crc16_lt (0xC5 * 256 + a % 256) 16 16
  simp only [chainWord, fld, bitsOf, wd, BitVec.toNat_ofNat, Nat.shiftRight_eq_div_pow]
  omega

/-! ### What pair logic, safety block and scheduler leave at the program start (R545) -/

/-- What the loader has brought about and no other block moves: engines, start-up state, bank owners, start of the program. -/
def State.loaded (s : State) : SMap Engine × Boot × SMap Nat × Option Nat := (s.engs, s.boot, s.banks.owner, s.pair.started)

/-- The unit's claim to authority: HOLD, the request, the toggling of AUTH_OUT, and whether pair negotiation bars it. -/
def State.claim (s : State) : Bool × Bool × Bool × Bool := (s.hold, s.requesting, s.pair.toggling, s.pair.selConflict)

theorem loaded_fields {s : State} {e : SMap Engine} {b : Boot} {o : SMap Nat} {p : Option Nat} (h : s.loaded = (e, b, o, p)) :
    s.engs = e ∧ s.boot = b ∧ s.banks.owner = o ∧ s.pair.started = p := by
  simpa [State.loaded] using h

theorem claim_fields {s : State} {h r t c : Bool} (hc : s.claim = (h, r, t, c)) :
    s.hold = h ∧ s.requesting = r ∧ s.pair.toggling = t ∧ s.pair.selConflict = c := by
  simpa [State.claim] using hc

@[simp] theorem loaded_record (s : State) (n : RecName) (el : Nat) (items : List Nat) : (s.record n el items).loaded = s.loaded := by
  simp [State.loaded]

@[simp] theorem claim_record (s : State) (n : RecName) (el : Nat) (items : List Nat) : (s.record n el items).claim = s.claim := by
  have hst : (s.record n el items).reg Reg.BTL_STAT = s.reg Reg.BTL_STAT :=
    reg_record s n el items (not_recorderPort (by decide))
  simp [State.claim, State.hold, State.regB, State.requesting, hst]

theorem loaded_setBitR (s : State) (a i : Nat) : (s.setBitR a i).loaded = s.loaded := rfl

theorem loaded_foldl {α : Type} {f : State → α → State} (h : ∀ u a, (f u a).loaded = u.loaded) (l : List α) (s : State) :
    (l.foldl f s).loaded = s.loaded :=
  foldl_keeps (fun u => u.loaded = s.loaded) f l s rfl fun u a _ hu => (h u a).trans hu

theorem loaded_ite {s t : State} (c : Prop) [Decidable c] (h : t.loaded = s.loaded) : (if c then t else s).loaded = s.loaded := by
  split
  · exact h
  · rfl

theorem loaded_safOutOff (s : State) (k : Nat) : (s.safOutOff k).loaded = s.loaded := rfl

theorem loaded_enterSafe (s : State) (f cause : Nat) : (s.enterSafe f cause).loaded = s.loaded := by
  unfold State.enterSafe
  split
  · rfl
  · rw [loaded_record, loaded_setBitR, loaded_setBitR]
    exact loaded_foldl (fun u k => loaded_ite _ (loaded_safOutOff u k)) _ s

theorem loaded_redegrade (s : State) : s.redegrade.loaded = s.loaded := by
  refine loaded_foldl (fun u f => ?_) _ s
  dsimp only
  split
  · rfl
  · split
    · rfl
    · exact loaded_record _ _ _ _

theorem loaded_outputFault (s : State) (k check : Nat) : (s.outputFault k check).loaded = s.loaded := by
  unfold State.outputFault
  extract_lets -lift +onlyGivenNames was s1 s2 faulty
  have h2 : s2.loaded = s.loaded := (loaded_safOutOff s1 k).trans (loaded_record _ _ _ _)
  clear_value s2 faulty
  split
  · exact h2
  · rw [loaded_redegrade]
    exact (loaded_foldl (fun u f => loaded_enterSafe u f 3) _ s2).trans h2

theorem loaded_linkFault (s : State) : s.linkFault.loaded = s.loaded := by
  unfold State.linkFault
  exact loaded_ite _ (loaded_foldl (fun u k => loaded_ite _ (loaded_outputFault u k 1)) _ s)

theorem loaded_syncEnables (s : State) : s.syncEnables.loaded = s.loaded := by
  unfold State.syncEnables
  rw [loaded_linkFault]
  split <;> rfl

/-- R436: only a holder of authority faults its outputs, so without HOLD the enables alone follow. -/
theorem syncEnables_noHold {s : State} (h : s.hold = false) :
    ∃ on el, s.syncEnables = s.updPair (fun p => { p with enOn := on, enEl := el }) := by
  unfold State.syncEnables State.linkFault
  extract_lets -lift +onlyGivenNames now u
  have hu : ∃ on el, u = s.updPair (fun p => { p with enOn := on, enEl := el }) := by
    unfold u
    split
    · exact ⟨s.pair.enOn, s.pair.enEl, rfl⟩
    · exact ⟨_, _, rfl⟩
  obtain ⟨on, el, hu⟩ := hu
  have hh : u.hold = false := by rw [hu]; exact h
  exact ⟨on, el, by rw [if_neg (by simp [hh]), hu]⟩

theorem makeReady_eq (s : State) (c : Nat) (t : TrigInfo) : ∃ x, s.makeReady c t = { s with sched := x } := by
  unfold State.makeReady
  split
  · exact ⟨s.sched, rfl⟩
  · split <;> exact ⟨_, rfl⟩

/-- R162: a block event concerns the scheduler only. -/
theorem blockEvent_eq (s : State) (cls idx : Nat) : ∃ x, s.blockEvent cls idx = { s with sched := x } := by
  unfold State.blockEvent
  refine foldl_keeps (fun u => ∃ x, u = { s with sched := x }) _ _ s ⟨s.sched, rfl⟩ fun u c _ hu => ?_
  obtain ⟨x, rfl⟩ := hu
  exact makeReady_eq _ c _

theorem loaded_blockEvent (s : State) (cls idx : Nat) : (s.blockEvent cls idx).loaded = s.loaded := by
  obtain ⟨x, h⟩ := blockEvent_eq s cls idx
  rw [h]; rfl

theorem claim_blockEvent (s : State) (cls idx : Nat) : (s.blockEvent cls idx).claim = s.claim := by
  obtain ⟨x, h⟩ := blockEvent_eq s cls idx
  rw [h]; rfl

/-- R352: the pair state formed again is a field of BTL_STAT and what the pair logic notes of it. -/
theorem restate_eq (s : State) : s.restate = s ∨ ∃ new el cnt rev both, s.restate = (s.setRegF Reg.BTL_STAT 31 28 new).updPair
    (fun p => { p with readyEl := el, revCount := cnt, revSent := rev, both12 := both }) := by
  unfold State.restate
  extract_lets -lift +onlyGivenNames new old u v w
  split
  · exact .inl rfl
  · refine .inr ?_
    have hv : ∃ el, v = u.updPair (fun p => { p with readyEl := el }) := by
      unfold v; split
      · exact ⟨_, rfl⟩
      · exact ⟨u.pair.readyEl, rfl⟩
    obtain ⟨el, hv⟩ := hv
    have hw : ∃ cnt rev, w = v.updPair (fun p => { p with revCount := cnt, revSent := rev }) := by
      unfold w; split
      · exact ⟨_, _, rfl⟩
      · exact ⟨v.pair.revCount, v.pair.revSent, rfl⟩
    obtain ⟨cnt, rev, hw⟩ := hw
    rw [hw, hv]
    exact ⟨new, el, cnt, rev, _, rfl⟩

theorem loaded_restate (s : State) : s.restate.loaded = s.loaded := by
  obtain h | ⟨new, el, cnt, rev, both, h⟩ := restate_eq s <;> rw [h]
  rfl

theorem claim_restate (s : State) : s.restate.claim = s.claim := by
  obtain h | ⟨new, el, cnt, rev, both, h⟩ := restate_eq s <;> rw [h]
  have hst : (s.setRegF Reg.BTL_STAT 31 28 new).hold = s.hold := regB_setRegF s new (by decide) (by decide)
  exact congrArg (·, s.requesting, s.pair.toggling, s.pair.selConflict) hst

theorem loaded_gainHold (s : State) : s.gainHold.loaded = s.loaded := by
  unfold State.gainHold
  split
  · rfl
  · dsimp only
    rw [loaded_blockEvent, loaded_restate, loaded_syncEnables]
    rfl

theorem loaded_soloStart (s : State) : s.soloStart.loaded = s.loaded := by
  have h : (s.updPair (fun p => { p with toggling := true })).gainHold.loaded = s.loaded := loaded_gainHold _
  unfold State.soloStart
  refine loaded_ite _ ?_
  dsimp only
  split
  · exact h
  · exact (loaded_record _ _ _ _).trans h

theorem loaded_startWake (s : State) (b : Nat) : (s.startWake b).loaded = s.loaded := by
  unfold State.startWake
  exact loaded_ite _ rfl

theorem loaded_wakeKept (s : State) : s.wakeKept.loaded = s.loaded :=
  loaded_foldl (fun u b => loaded_ite _ (loaded_startWake u b)) _ s

theorem loaded_initialHosts (s : State) : s.initialHosts.loaded = s.loaded := by
  unfold State.initialHosts
  refine loaded_foldl (fun _ _ => ?_) _ s
  rfl

/-! ### Giving up authority (R14, R352) -/

theorem claim_loseHold (s : State) : s.loseHold.claim = (false, s.requesting, s.pair.toggling, s.pair.selConflict) := by
  unfold State.loseHold
  split
  case isTrue =>
    extract_lets -lift +onlyGivenNames u
    have hu : u.hold = false := (regB_clrBitR s (by decide) _ _ _).trans (if_pos ⟨rfl, rfl⟩)
    obtain ⟨on, el, hsync⟩ := syncEnables_noHold hu
    rw [claim_blockEvent, claim_restate, hsync]
    exact congrArg (·, s.requesting, s.pair.toggling, s.pair.selConflict) hu
  case isFalse hh => simp [State.claim, hh]

/-- A unit that stands down holds nothing and asks for nothing. -/
theorem claim_standDown (s : State) : s.standDown.claim = (false, false, false, s.pair.selConflict) :=
  claim_loseHold _

/-- R14: with a peer and heartbeats exchanged, pair negotiation takes place. -/
theorem pairSeen {s : State} (hsolo : s.solo = false) (hseen : s.pair.ever.contains 0 = true) :
    ¬ (s.solo || !(s.pair.ever.contains 0)) = true := by
  rw [hsolo, hseen]; decide

/-! ### The program start (R545, R158, R165) -/

/-- R545, R165: what the loader takes from the image before the program starts: code, values in force, bank owners. -/
def State.imageTaken (s : State) (code : List (EngineNo × List Word)) (values : List (Nat × Word))
    (owners : List (BankNo × Nat)) : State :=
  let u := values.foldl (fun u q => u.loadValue q.1 q.2) (code.foldl (fun u c => u.loadCode c.1.val c.2) s)
  let u := u.updBoot (fun b => { b with imgVals := values.foldl (fun m q => mput m q.1 q.2) [] })
  let u := owners.foldl (fun u q => if u.ownerCode q.2 then u.passBank q.1.val q.2 else u) u
  values.foldl (fun u q => State.hook s u q.1) u

/-- R545: the program starts on what the loader has taken. -/
theorem exec_programLoad {s : State} (code : List (EngineNo × List Word)) (values : List (Nat × Word)) (owners : List (BankNo × Nat))
    (h : s.boot.stage = .loader) :
    let u := s.imageTaken code values owners
    ∃ t el, exec (.programLoad code values owners) s = .next t
      ∧ t.engs = u.engs ∧ t.boot = { u.boot with stage := .running } ∧ t.banks.owner = u.banks.owner ∧ t.pair.started = some el := by
  intro u
  refine ⟨_, u.initialHosts.tb.el, congrArg Host.Outcome.next (if_pos (by simp [h])), ?_⟩
  exact loaded_fields (((loaded_soloStart _).trans ((loaded_wakeKept _).trans (loaded_restate _))).trans
    (congrArg (fun l => (l.1, ({ l.2.1 with stage := .running } : Boot), l.2.2.1, some u.initialHosts.tb.el)) (loaded_initialHosts u)))

theorem loaded_passBank (s : State) (b o : Nat) : (s.passBank b o).loaded = (s.setOwner b o).loaded := by
  unfold State.passBank
  dsimp only
  split
  · rfl
  · exact loaded_startWake _ b

/-- One engine's code and one bank of an image without values. -/
theorem imageTaken_codeAndOwner {s : State} (e : EngineNo) (ws : List Word) (b : BankNo) {o : Nat} (ho : s.ownerCode o = true) :
    let u := s.imageTaken [(e, ws)] [] [(b, o)]
    u.engs = (s.loadCode e.val ws).engs ∧ u.banks.owner = (s.setOwner b.val o).banks.owner := by
  intro u
  let v := (s.loadCode e.val ws).updBoot (fun x => { x with imgVals := [] })
  have hu : u = v.passBank b.val o := if_pos (show v.ownerCode o = true from ho)
  rw [hu]
  obtain ⟨hengs, -, howner, -⟩ := loaded_fields (loaded_passBank v b.val o)
  exact ⟨hengs, howner⟩

theorem mget_zipIdx (ws : List Word) (k i : Nat) :
    mget ((ws.zipIdx k).map (fun p => (p.2, p.1))) i = if k ≤ i then ws[i - k]? else none := by
  induction ws generalizing k with
  | nil => simp
  | cons w ws ih =>
    simp only [List.zipIdx_cons, List.map_cons, mget, ih]
    by_cases hk : k = i
    · simp [hk]
    · by_cases hlt : k + 1 ≤ i
      · simp [hk, hlt, Nat.le_of_succ_le hlt, List.getElem?_cons, show i - k ≠ 0 by omega, Nat.sub_sub]
      · simp [hk, hlt, show ¬ k ≤ i by omega]

/-- R545: instruction memory holds the words of the image from address 0 on. -/
theorem imem_loadCode (s : State) (e : Nat) {ws : List Word} (h : ws.length ≤ 32768) (i : Nat) :
    mget ((s.loadCode e ws).eng e).imem i = ws[i]? := by
  rw [State.loadCode, State.eng_updEng_same]
  simp only [List.take_of_length_le h, mget_zipIdx, Nat.zero_le, if_true, Nat.sub_zero]

/-! ### Frames, straps, records of the chain (R13, R546, R549) -/

/-- A sticky bit set with its record: the bit reads 1, and beside its register only the recorder's move. -/
theorem setBitR_record_results {s u : State} {a i : Nat} (n : RecName) (el : Nat) (items : List Nat) (hu : u.regs = s.regs)
    (ha : ¬ recorderPort a) (hi : i < 32) :
    ((u.setBitR a i).record n el items).regB a i = true ∧ sameRegs s ((u.setBitR a i).record n el items) [a] := by
  have hreg : ∀ q, u.reg q = s.reg q := fun q => by rw [State.reg, State.reg, hu]
  refine ⟨?_, fun q hq hr => ?_⟩
  · rw [State.regB, reg_record _ _ _ _ ha]
    exact (regB_setBitR u hi a a i).trans (if_pos ⟨rfl, rfl⟩)
  · rw [reg_record _ _ _ _ hr, State.setBitR, State.reg_orBits_ne _ _ (by simpa using hq), hreg]

/-- R547: how many valid frames in a row have carried an address, with one that carries `a` now. -/
def State.framesInRow (s : State) (a : Nat) : Nat :=
  match s.boot.chain with
  | some (q, n) => if q = a then n + 1 else 1
  | none => 1

theorem framesInRow_again {s : State} {a k : Nat} (h : s.boot.chain = some (a, k)) : s.framesInRow a = k + 1 := by
  simp [State.framesInRow, h]

/-! ### The statement -/

/-- Settles O55: each event of the start acts in its stage, and there its operation's law gives the result. -/
theorem startupResults : Obligations.StartupResults := by
  refine ⟨fun s hs => ⟨?rail, ?recovery⟩, fun s hs => ⟨?pass, ?fail⟩, ?images, fun out s hs => ⟨?first, ?offered, ?waits, ?none⟩,
    fun s hsolo hseen => ⟨?alike, ?differ⟩, ?load, ?loadOne, ?powerFail, ?chainSend, ?chainFrame, ?chainBreak, ?addrChange,
    ?duplicate, fun sel solo s => ⟨?strap, ?noStrap⟩⟩
  case rail =>
    refine ⟨_, congrArg Host.Outcome.next ((if_pos (by simp [hs])).trans (if_pos rfl)), State.reg_setReg_same _ _ _, ?_⟩
    obtain ⟨-, hpcc, hstage, hengs⟩ := restart_results _ 0
    exact ⟨hpcc, hstage, hengs⟩
  case recovery =>
    refine ⟨_, congrArg Host.Outcome.next ((if_pos (by simp [hs])).trans (if_neg (by decide))), regF_cause_restart s (by decide), ?_⟩
    obtain ⟨-, -, hstage, -⟩ := restart_results s 7
    exact hstage
  case pass =>
    exact ⟨_, congrArg Host.Outcome.next ((if_pos (by simp [hs])).trans (if_pos rfl)), rfl, fun _ => ⟨rfl, rfl⟩, rfl⟩
  case fail =>
    refine ⟨_, congrArg Host.Outcome.next ((if_pos (by simp [hs])).trans (if_neg (by decide))), rfl, ?_, ?_⟩
    · exact (congrArg (bit · 6) (reg_boot_trainLanes _)).trans (regB_serviceOnly _)
    · exact (healthy_trainLanes _).trans (healthy_serviceOnly _)
  case images => exact fun place0 place1 s hs => imageCheckEnd_results place0 place1 hs
  case first =>
    obtain ⟨u, hexec, hu, -, -⟩ := exec_addressTake false out hs (.inl rfl)
    obtain rfl := hu rfl
    obtain ⟨hlow, -, hrest⟩ := takeAddress_results (s.sensed false out) (a := 1) (by decide)
    have hboot : ((s.sensed false out).takeAddress 1).flushHeld.regB Reg.SYS_BOOT 6 = s.regB Reg.SYS_BOOT 6 :=
      congrArg (bit · 6) ((reg_flushHeld _ (not_recorderPort (by decide))).trans
        ((hrest _ (by decide) (not_recorderPort (by decide))).trans (reg_sensed s false out (by decide))))
    refine ⟨_, hexec, (congrArg (fld · 7 0) (reg_flushHeld _ (not_recorderPort (by decide)))).trans hlow, holding_flushHeld _,
      fun hb => ?_, fun hb => ?_⟩
    · exact if_neg (by rw [hboot, hb]; decide)
    · exact if_pos (hboot.trans hb)
  case offered =>
    intro a hgot h1 h62
    obtain ⟨u, hexec, -, hu, -⟩ := exec_addressTake true out hs (.inr (.inl (by simp [hgot])))
    obtain rfl := hu a rfl hgot h1 h62
    obtain ⟨hlow, hhigh, -⟩ := takeAddress_results (s.sensed true out) (a := a) (by omega)
    have hreg := reg_flushHeld ((s.sensed true out).takeAddress a) (not_recorderPort (a := Reg.SYS_ADDR) (by decide))
    exact ⟨_, hexec, (congrArg (fld · 7 0) hreg).trans hlow, (congrArg (fld · 15 8) hreg).trans hhigh, holding_flushHeld _⟩
  case waits => exact fun hnone hel => exec_addressTake_waits out hnone hel
  case none =>
    intro hnone hel hstored
    obtain ⟨u, hexec, -, -, hu⟩ := exec_addressTake true out hs (.inr (.inr hel))
    obtain rfl := hu rfl hnone hstored
    refine ⟨_, hexec, if_pos ?_, (healthy_flushHeld _).trans (healthy_serviceOnly _)⟩
    exact (congrArg (bit · 6) (reg_flushHeld _ (not_recorderPort (by decide)))).trans (regB_serviceOnly _)
  case alike =>
    intro hsame hconf
    have hclaim := (claim_record _ .pairSelConflict 0 []).trans (claim_standDown (s.updPair (fun p => { p with selConflict := true })))
    obtain ⟨hhold, hreq, htog, hsel⟩ := claim_fields hclaim
    exact ⟨_, congrArg Host.Outcome.next ((if_neg (pairSeen hsolo hseen)).trans
        ((if_pos (by simp [hsame])).trans (if_neg (by simp [hconf])))),
      hsel, hhold, hreq, htog, by rw [State.driven, hhold]; rfl⟩
  case differ =>
    intro hdiff
    exact ⟨_, congrArg Host.Outcome.next ((if_neg (pairSeen hsolo hseen)).trans (if_neg (by simp [hdiff]))), rfl, rfl⟩
  case load =>
    intro code values owners s hs
    obtain ⟨t, el, hexec, -, hboot, -, hstarted⟩ := exec_programLoad code values owners hs
    exact ⟨t, hexec, by rw [hboot], by rw [hstarted]; rfl⟩
  case loadOne =>
    intro e ws b o s hs hlen ho
    obtain ⟨t, el, hexec, hengs, -, howner, -⟩ := exec_programLoad [(e, ws)] [] [(b, o)] hs
    obtain ⟨hengs', howner'⟩ := imageTaken_codeAndOwner e ws b ho
    refine ⟨t, hexec, ?_, fun i => ?_⟩
    · rw [State.owner, howner, howner']
      exact (State.owner_setOwner s b b o).trans (if_pos rfl)
    · rw [State.eng, hengs, hengs']
      exact imem_loadCode s e hlen i
  case powerFail => exact fun s => ⟨_, rfl, rfl, rfl, rfl, rfl⟩
  case chainSend => exact fun s hs => ⟨_, congrArg Host.Outcome.next (if_neg hs), rfl, rfl⟩
  case chainFrame =>
    intro a s ha
    have hvalid : chainWord a = chainWord (fld (chainWord a) 23 16) := by rw [fld_chainWord ha]
    refine ⟨_, s.framesInRow a, congrArg Host.Outcome.next (if_pos hvalid), ?_⟩
    rw [fld_chainWord ha]
    exact ⟨rfl, rfl, fun k hk => framesInRow_again hk, fun hthree => if_pos hthree, rfl⟩
  case chainBreak =>
    intro s hstage hin hbroken hel
    obtain ⟨hset, hrest⟩ := setBitR_record_results (s := s) (u := s.updBoot (fun b => { b with chainBroken := true }))
      (a := Reg.SYS_STK) (i := 2) .chainBreak 0 [] rfl (not_recorderPort (by decide)) (by decide)
    exact ⟨_, congrArg Host.Outcome.next (if_pos (by simp [hstage, hin, hbroken, hel])), hset, by rw [boot_record]; rfl, hrest⟩
  case addrChange =>
    intro e a n s hother hchain hstage hchanged hel
    obtain ⟨hset, hrest⟩ := setBitR_record_results (s := s) (u := s.updBoot (fun b => { b with chainChanged := true }))
      (a := Reg.SYS_STK) (i := 4) .addrChange 0 [s.regF Reg.SYS_ADDR 7 0, a] rfl (not_recorderPort (by decide)) (by decide)
    refine ⟨_, ?_, hset, hrest⟩
    show execAddrChange s = _
    simp [execAddrChange, hother, hchain, hstage, hchanged, hel]
  case duplicate =>
    intro s hdup hel
    refine ⟨_, congrArg Host.Outcome.next (if_pos (by simp [hdup, hel])), ?_, rfl⟩
    simp [State.dropHealth]
  case strap =>
    intro hne
    obtain ⟨hset, hrest⟩ := setBitR_record_results (s := s) (u := s.updBoot (fun b => { b with selIn := sel, soloIn := solo }))
      (a := Reg.SYS_STRAP) (i := 3) .strapChange 0 [] rfl (not_recorderPort (by decide)) (by decide)
    refine ⟨_, congrArg Host.Outcome.next (if_neg fun h => hne.elim (· h.1) (· h.2)), hset, ?_, by rw [boot_record]; rfl, by rw [boot_record]; rfl, hrest⟩
    rw [State.solo, State.regB, reg_record _ _ _ _ (not_recorderPort (by decide))]
    exact (regB_setBitR _ (by decide) _ _ _).trans (if_neg (by decide))
  case noStrap =>
    exact fun hsel hsolo => congrArg Host.Outcome.next (if_pos ⟨hsel, hsolo⟩)

end Sys2Proof.Machine
end

section
/-! What an operation leaves alone: the laws by which it is read off the operation's parts. -/
namespace Sys2Proof.Machine

/-- The reading `p` of `t` is that of `s`. -/
structure State.Leaves {β : Type} (p : State → β) (s t : State) : Prop where
  eq : p t = p s

theorem State.Leaves.refl {β : Type} {p : State → β} (s : State) : State.Leaves p s s := ⟨rfl⟩

/-- The parts of a chain, the last first. -/
theorem State.Leaves.after {β : Type} {p : State → β} {s t u : State} (k : State.Leaves p t u) (h : State.Leaves p s t) :
    State.Leaves p s u := ⟨k.eq.trans h.eq⟩

theorem State.Leaves.ite {β : Type} {p : State → β} {s a b : State} {c : Prop} [Decidable c] (h : State.Leaves p s a)
    (k : State.Leaves p s b) : State.Leaves p s (if c then a else b) := by
  split <;> assumption

theorem State.Leaves.foldl {α β : Type} {p : State → β} {s : State} {f : State → α → State} {l : List α}
    (h : ∀ (u : State) (a : α), State.Leaves p u (f u a)) : State.Leaves p s (l.foldl f s) :=
  foldl_keeps (State.Leaves p s) f l s (.refl s) fun u a _ hu => .after (h u a) hu

end Sys2Proof.Machine
end

section
namespace Sys2Proof.Machine

open State (Leaves)

theorem record_leaves_banks (s : State) (n : RecName) (el : Nat) (items : List Nat) : Leaves State.banks s (s.record n el items) :=
  ⟨banks_record s n el items⟩

theorem updNow_leaves_banks (s : State) (f : Timing → Timing) : Leaves State.banks s (s.updNow f) := ⟨rfl⟩

theorem evalAxis_leaves_banks (s : State) (n : Nat) (jump : Bool) : Leaves State.banks s (s.evalAxis n jump) :=
  .after (.foldl fun _ _ => ⟨rfl⟩) (.foldl fun _ _ => ⟨rfl⟩)

theorem moveAxis_leaves_banks (s : State) (n : Nat) (pos : Word) : Leaves State.banks s (s.moveAxis n pos) := by
  unfold State.moveAxis
  extract_lets -lift +onlyGivenNames old d jump s1 s2 s3
  have h2 : Leaves State.banks s s2 := .ite ⟨rfl⟩ ⟨rfl⟩
  have h3 : Leaves State.banks s s3 := .ite (.after (record_leaves_banks _ _ _ _) ⟨h2.eq⟩) h2
  exact .after (evalAxis_leaves_banks _ _ _) h3

theorem jumpFusion_leaves_banks (s : State) : Leaves State.banks s s.jumpFusion := by
  have h : Leaves State.banks s (s.fus.queue.foldl (fun s q => (s.drop (Reg.FUS_NPEND q.slot)).bump (Reg.FUS_NLATE q.slot)) s) :=
    .foldl fun _ _ => ⟨rfl⟩
  exact ⟨h.eq⟩

theorem regridTriggers_leaves_banks (s : State) : Leaves State.banks s s.regridTriggers := ⟨rfl⟩

theorem armGroup_leaves_banks (s : State) (g : Nat) : Leaves State.banks s (s.armGroup g) := ⟨rfl⟩

theorem applyStep_leaves_banks (s : State) (old boundary : Nat) (d : Int) : Leaves State.banks s (s.applyStep old boundary d) := by
  unfold State.applyStep
  extract_lets -lift +onlyGivenNames t' jump s1 src s2 s3 s4 s5
  have h3 : Leaves State.banks s s3 := ⟨rfl⟩
  have h4 : Leaves State.banks s s4 := .after (record_leaves_banks _ _ _ _) ⟨h3.eq⟩
  have h5 : Leaves State.banks s s5 := .ite ⟨h4.eq⟩ h4
  clear_value s5
  split
  · exact .after (jumpFusion_leaves_banks _) (.after (regridTriggers_leaves_banks _) (.after (.foldl fun _ _ => armGroup_leaves_banks _ _)
      (.after (evalAxis_leaves_banks _ _ _) (.after (record_leaves_banks _ _ _ _) ⟨h5.eq⟩))))
  · extract_lets -lift +onlyGivenNames s6
    have h6 : Leaves State.banks s s6 := .after (evalAxis_leaves_banks _ _ _) h5
    clear_value s6
    refine .ite (.after (.foldl fun u c => ?_) h6) h6
    dsimp only
    split
    · exact .refl u
    · exact .ite ⟨rfl⟩ (.refl u)

theorem tbcClock_leaves_banks (s : State) : Leaves State.banks s s.tbcClock := by
  unfold State.tbcClock
  split
  extract_lets -lift +onlyGivenNames t t' el' s1
  have h1 : Leaves State.banks s s1 := ⟨rfl⟩
  clear_value s1
  have h : ∀ t, Leaves State.banks s ((s1.setT t).evalAxis 0 false) := fun t => .after (evalAxis_leaves_banks _ _ _) ⟨h1.eq⟩
  split
  · exact .ite (.after (applyStep_leaves_banks _ _ _ _) h1) (h _)
  · exact h _

/-- The notes of the waits are all that this clock's end takes down of them. -/
theorem noteWaits_leaves {β : Type} {p : State → β} (h : ∀ (u : State) (m : Timing → SMap Nat), Leaves p u (u.updNow fun x => { x with met := m x }))
    (s : State) : Leaves p s s.noteWaits := by
  refine .foldl fun u x => ?_
  split
  · split
    · exact h u _
    · exact .refl u
  · exact .refl u

theorem sendFrames_leaves_banks (s : State) (el : Nat) : Leaves State.banks s (s.sendFrames el) := by
  have h : Leaves State.banks s ((List.range 4).foldl (fun s g => s.sendDown g) s) := .foldl fun _ _ => ⟨rfl⟩
  exact .ite (.refl s) ⟨h.eq⟩

theorem countSeconds_leaves_banks (s : State) (el : Nat) : Leaves State.banks s (s.countSeconds el) := .ite (.refl s) ⟨rfl⟩

theorem landSets_leaves_banks (s : State) (ticked : Bool) : Leaves State.banks s (s.landSets ticked) := by
  have h : ∀ (u : State) (x : Nat × Word) (pos : Word) (f : Timing → Timing), Leaves State.banks u ((u.moveAxis x.1 pos).updNow f) :=
    fun u x pos f => ⟨(moveAxis_leaves_banks u x.1 pos).eq⟩
  exact .after (updNow_leaves_banks _ _) (.foldl fun u x => h u x _ _)

/-- R92: without a store held back nothing is released. -/
theorem releaseStores_leaves_banks {s : State} (h : s.now.held = []) : Leaves State.banks s s.releaseStores :=
  ⟨by simp [State.releaseStores, h]⟩

/-- R92: a FAB clock moves no byte of the banks but those of the stores held back. -/
theorem tick_leaves_banks {s : State} (h : s.now.held = []) : Leaves State.banks s s.tick := by
  unfold State.tick
  refine .ite (.refl s) ?_
  extract_lets -lift +onlyGivenNames n c t
  have hn : Leaves (fun u => u.now.held) s n ∧ Leaves State.banks s n :=
    ⟨noteWaits_leaves (fun _ _ => ⟨rfl⟩) s, noteWaits_leaves (fun _ _ => ⟨rfl⟩) s⟩
  have hm : Leaves (fun u => u.now.held) s ({ n with clk := s.clk + 1 } : State).noteHeld.shiftHot
      ∧ Leaves State.banks s ({ n with clk := s.clk + 1 } : State).noteHeld.shiftHot := by
    unfold State.noteHeld
    split <;> exact ⟨⟨hn.1.eq⟩, ⟨hn.2.eq⟩⟩
  have hc : Leaves State.banks s c := .after (releaseStores_leaves_banks (hm.1.eq.trans h)) hm.2
  have ht : Leaves State.banks s t :=
    .ite hc (.after (sendFrames_leaves_banks _ _) (.after (countSeconds_leaves_banks _ _) (.after (tbcClock_leaves_banks _) hc)))
  exact .after (landSets_leaves_banks t _) ht

/-- Settles O2: on an empty queue a step is one FAB clock, which the laws of a clock describe. -/
theorem idleStepTicks : Obligations.IdleStepTicks := by
  intro s hqueue hon
  obtain ⟨hengs, -, hpending, hclk⟩ := tick_aside hon
  exact ⟨s.tick, by simp only [step, hqueue], hclk, hpending.trans hqueue, hengs, fun hheld => (tick_leaves_banks hheld).eq⟩

end Sys2Proof.Machine
end

section
/-! What an instruction that retires leaves: the engine's clocks and program counter move, and with them nothing else. -/
namespace Sys2Proof.Machine

/-! ### Tables -/

/-- Of two writes to one key the second stands. -/
theorem mput_mput_same {α : Type} (m : SMap α) (k : Nat) (v w : α) : mput (mput m k v) k w = mput m k w := by
  induction m with
  | nil => simp [mput]
  | cons p t ih =>
    obtain ⟨q, u⟩ := p
    by_cases h1 : k < q
    · simp [mput, h1]
    · by_cases h2 : k = q
      · simp [mput, h2]
      · simp [mput, h1, h2, ih]

theorem setEng_setEng (s : State) (e : Nat) (x y : Engine) : (s.setEng e x).setEng e y = s.setEng e y := by
  simp only [State.setEng, mput_mput_same]

/-! ### Charged clocks -/

/-- R81: the engine with `n` clocks more in the count of its run. -/
def Engine.counted (x : Engine) (n : Nat) : Engine := { x with run := x.run.map fun r => { r with count := r.count + n } }

theorem counted_of_noRun {x : Engine} (h : x.run = none) (n : Nat) : x.counted n = x := by
  obtain ⟨⟩ := x
  simp only at h
  simp [Engine.counted, h]

theorem eng_charge (s : State) (e n : Nat) : (s.charge e n).eng e = (s.eng e).counted n := by
  unfold State.charge
  split
  case h_1 h => exact (counted_of_noRun h n).symm
  case h_2 r h => rw [State.eng_updEng_same, Engine.counted, h]; rfl

/-- An instruction that retires moves its engine alone. -/
theorem retired_eq_setEng (s : State) (e n w : Nat) : s.retired e n w = s.setEng e (((s.eng e).counted n).pass w) := by
  have h : s.retired e n w = (s.charge e n).setEng e (((s.charge e n).eng e).pass w) := rfl
  rw [h, eng_charge, State.charge]
  split
  · rfl
  · exact setEng_setEng s e _ _

/-- R101, R115: passing words moves the program counter and the loops. -/
theorem pass_eq (x : Engine) (n : Nat) : ∃ calls pc, x.pass n = { x with calls := calls, pc := pc } := by
  unfold Engine.pass Engine.setLoops
  split <;> exact ⟨_, _, rfl⟩

section
variable (s : State) (e n w : Nat)

theorem eng_retired : (s.retired e n w).eng e = ((s.eng e).counted n).pass w := by
  rw [retired_eq_setEng, State.eng_setEng_same]

@[simp] theorem w_retired (r : Nat) : (s.retired e n w).w e r = s.w e r := by
  obtain ⟨calls, pc, h⟩ := pass_eq ((s.eng e).counted n) w
  rw [State.w, eng_retired, h]; rfl

@[simp] theorem p_retired (k : Nat) : ((s.retired e n w).eng e).p k = (s.eng e).p k := by
  obtain ⟨calls, pc, h⟩ := pass_eq ((s.eng e).counted n) w
  rw [eng_retired, h]; rfl

@[simp] theorem esf_retired : ((s.retired e n w).eng e).esf = (s.eng e).esf := by
  obtain ⟨calls, pc, h⟩ := pass_eq ((s.eng e).counted n) w
  rw [eng_retired, h]; rfl

theorem run_retired {r : Run} (h : (s.eng e).run = some r) :
    ((s.retired e n w).eng e).run = some { r with count := r.count + n } := by
  obtain ⟨calls, pc, hp⟩ := pass_eq ((s.eng e).counted n) w
  rw [eng_retired, hp]
  simp [Engine.counted, h]

@[simp] theorem now_retired : (s.retired e n w).now = s.now := by rw [retired_eq_setEng]; rfl
@[simp] theorem sched_retired : (s.retired e n w).sched = s.sched := by rw [retired_eq_setEng]; rfl
@[simp] theorem saf_retired : (s.retired e n w).saf = s.saf := by rw [retired_eq_setEng]; rfl
@[simp] theorem evr_retired : (s.retired e n w).evr = s.evr := by rw [retired_eq_setEng]; rfl
@[simp] theorem group_retired (g : Nat) : (s.retired e n w).group g = s.group g := by rw [retired_eq_setEng]; rfl

end

/-- R579: an instruction that reaches its act clock and passes on leaves what its meaning gives there, charged and moved on. -/
theorem issueAt_pass {u s : State} {x : Guard} {r : Run} {words cyc lead off : Nat} {rd : Bool}
    (h : u.reaches x r words cyc lead rd s) {act : State → State × Flow} {w : Nat} {t : State} (ht : act s = (t, .pass w)) :
    u.issueAt x true off words cyc lead rd act = t.retired x.e.val cyc w := by
  rw [issueAt_reaches h, retire_pass (reaches_executes h) act w t ht]

/-! ### Records -/

section
variable (s : State) (n : RecName) (el : Nat) (items : List Nat)

@[simp] theorem sched_record : (s.record n el items).sched = s.sched := congrArg (fun u => u.sched) (unrecorded_record s n el items)
@[simp] theorem saf_record : (s.record n el items).saf = s.saf := congrArg (fun u => u.saf) (unrecorded_record s n el items)
@[simp] theorem tb_record : (s.record n el items).tb = s.tb := congrArg (fun u => u.tb) (unrecorded_record s n el items)

@[simp] theorem eng_record (q : Nat) : (s.record n el items).eng q = s.eng q := by rw [State.eng, engs_record]; rfl
@[simp] theorem group_record (g : Nat) : (s.record n el items).group g = s.group g := by rw [State.group, sched_record]; rfl
@[simp] theorem counts_record (c : Nat) : (s.record n el items).counts c = s.counts c := by rw [State.counts, sched_record]; rfl

end

/-! ### Flags of an engine -/

theorem eng_esf (s : State) (e : Nat) (b : EsfBit) :
    (s.esf e b).eng e = { s.eng e with esf := (s.eng e).esf ||| bitMask (esfNo b) } := State.eng_updEng_same s e _

@[simp] theorem bit_esf (s : State) (e : Nat) (b : EsfBit) : bit ((s.esf e b).eng e).esf (esfNo b) = true := by
  have hlt : esfNo b < 32 := by cases b <;> decide
  rw [eng_esf]
  simp [bit_or, bit_bitMask hlt]

/-- A flag once set stays under the next. -/
theorem bit_esf_of_bit {s : State} {e i : Nat} (b : EsfBit) (h : bit (s.eng e).esf i = true) : bit ((s.esf e b).eng e).esf i = true := by
  rw [eng_esf]
  simp [bit_or, h]

@[simp] theorem esfIf_true (s : State) (e : Nat) (b : EsfBit) : s.esfIf e true b = s.esf e b := rfl
@[simp] theorem esfIf_false (s : State) (e : Nat) (b : EsfBit) : s.esfIf e false b = s := rfl

/-- Setting a flag when a condition holds moves the engine's flags alone. -/
theorem esfIf_eq (s : State) (e : Nat) (c : Bool) (b : EsfBit) :
    s.esfIf e c b = s ∨ s.esfIf e c b = s.updEng e fun x => { x with esf := x.esf ||| bitMask (esfNo b) } := by
  cases c
  · exact .inl rfl
  · exact .inr rfl

@[simp] theorem w_esf (s : State) (e r : Nat) (b : EsfBit) : (s.esf e b).w e r = s.w e r := by
  rw [State.w, eng_esf]; rfl

@[simp] theorem w_esfIf (s : State) (e r : Nat) (c : Bool) (b : EsfBit) : (s.esfIf e c b).w e r = s.w e r := by
  cases c
  · rfl
  · exact w_esf s e r b

theorem bit_esfIf_of_bit {s : State} {e i : Nat} (c : Bool) (b : EsfBit) (h : bit (s.eng e).esf i = true) :
    bit ((s.esfIf e c b).eng e).esf i = true := by
  cases c
  · exact h
  · exact bit_esf_of_bit b h

/-! ### Registers and predicates of an engine -/

theorem w_setW (s : State) (e d r : Nat) (v : Word) : (s.setW e d v).w e r = if r = d ∧ d ≠ 0 then v else s.w e r := by
  simp only [State.w, State.setW, State.eng_updEng_same, Engine.setW, Engine.w]
  by_cases hd : d = 0
  · simp [hd]
  · by_cases hr : r = d
    · subst hr; simp [hd]
    · by_cases h0 : r = 0 <;> simp [hd, Ne.symm hd, hr, h0, mgetD_mput_ne _ _ _ hr]

theorem p_setP (s : State) (e k j : Nat) (v : Bool) : ((s.setP e k v).eng e).p j = if j = k ∧ k ≠ 0 then v else (s.eng e).p j := by
  simp only [State.setP, State.eng_updEng_same, Engine.setP, Engine.p]
  by_cases hk : k = 0
  · simp [hk]
  · by_cases hj : j = k
    · subst hj; simp [hk]
    · by_cases h0 : j = 0 <;> simp [hk, Ne.symm hk, hj, h0, mgetD_mput_ne _ _ _ hj]

@[simp] theorem esf_setW (s : State) (e d : Nat) (v : Word) : ((s.setW e d v).eng e).esf = (s.eng e).esf := by
  rw [State.setW, State.eng_updEng_same, Engine.setW]
  split <;> rfl

@[simp] theorem run_setW (s : State) (e d : Nat) (v : Word) : ((s.setW e d v).eng e).run = (s.eng e).run := by
  rw [State.setW, State.eng_updEng_same, Engine.setW]
  split <;> rfl

end Sys2Proof.Machine
end

section
/-! Loads and stores (R65, R66, R92, R107, R108): the cases of the two meanings, what each leaves alone, then the statements
`Obligations.LoadResults` and `Obligations.StoreResults`. -/
namespace Sys2Proof.Machine

open State (Leaves)

/-! ### Banks -/

/-- What the banks and bulk memory hold. -/
def State.stores (s : State) : List Host.Cell × List Host.Cell := (s.banks.cells, s.banks.dram)

theorem sameBytes_of_leaves {s t : State} (h : Leaves State.stores s t) : sameBytes s t :=
  sameBytes_of_eq (congrArg Prod.fst h.eq) (congrArg Prod.snd h.eq)

theorem stores_of_banks {s t : State} (h : Leaves State.banks s t) : Leaves State.stores s t :=
  ⟨by rw [State.stores, State.stores, h.eq]⟩

theorem updEng_leaves_stores (s : State) (e : Nat) (f : Engine → Engine) : Leaves State.stores s (s.updEng e f) := ⟨rfl⟩

theorem touch_leaves_stores (s : State) (b : Nat) : Leaves State.stores s (s.touch b) := ⟨rfl⟩

theorem retired_leaves_stores (s : State) (e n w : Nat) : Leaves State.stores s (s.retired e n w) :=
  stores_of_banks ⟨banks_retired s e n w⟩

theorem bankAddr_div (b off : Nat) : bankAddr b off / 32768 = b := by unfold bankAddr; omega

theorem touch_touch (s : State) (b : Nat) : (s.touch b).touch b = s.touch b := by
  simp only [State.touch, mput_mput_same]

/-! ### Words in error (R67, R170) -/

theorem noteParity_clean {s : State} {a n : Nat} (hn : n ≠ 0) (h : s.badWords a n = []) :
    s.noteParity a n = (s.touch (a / 32768), false) := by
  simp [State.noteParity, hn, h]

theorem noteParity_bad {s : State} {a n : Nat} (hn : n ≠ 0) (h : s.badWords a n ≠ []) : (s.noteParity a n).2 = true := by
  simpa [State.noteParity, hn] using h

/-- The report of a word in error: a record, and the registers that hold the newest. -/
theorem noteParity_leaves {β : Type} {p : State → β} (htouch : ∀ (u : State) b, Leaves p u (u.touch b))
    (hreg : ∀ (u : State) q v, Leaves p u (u.setReg q v)) (hbits : ∀ (u : State) q m, Leaves p u (u.orBits q m))
    (hrec : ∀ (u : State) n el items, Leaves p u (u.record n el items)) (s : State) (a n : Nat) :
    Leaves p s (s.noteParity a n).1 := by
  refine .after (.foldl fun u w => .after (hrec _ _ _ _) (.after (hbits _ _ _) (.after (hreg _ _ _) (hreg _ _ _)))) ?_
  exact .ite (.refl s) (htouch s _)

theorem noteParity_leaves_stores (s : State) (a n : Nat) : Leaves State.stores s (s.noteParity a n).1 :=
  noteParity_leaves (fun _ _ => ⟨rfl⟩) (fun _ _ _ => ⟨rfl⟩) (fun _ _ _ => ⟨rfl⟩)
    (fun u n el items => stores_of_banks (record_leaves_banks u n el items)) s a n

theorem markUpset_leaves_stores (s : State) (a n : Nat) (l : List Nat) : Leaves State.stores s (s.markUpset a n l) :=
  .ite (.refl s) ⟨rfl⟩

/-- An upset in none of the words a read meets is not found by it. -/
theorem markUpset_unmet {s : State} {a n : Nat} {l : List Nat} (h : ∀ k ∈ l, ¬ (a / 4 ≤ k ∧ k ≤ (a + n - 1) / 4)) :
    s.markUpset a n l = s := by
  have hnew : l.filter (fun w => decide (a / 4 ≤ w) && decide (w ≤ (a + n - 1) / 4) && !(s.banks.parity.contains w)) = [] :=
    List.filter_eq_nil_iff.2 fun k hk => by
      have := h k hk
      simp only [Bool.and_eq_true, decide_eq_true_eq]
      exact fun hmet => this hmet.1
  unfold State.markUpset
  rw [hnew]
  exact if_pos (.inr rfl)

theorem mem_badWords {s : State} {a n k : Nat} :
    k ∈ s.badWords a n ↔ k ∈ s.banks.parity ∧ a / 4 ≤ k ∧ k ≤ (a + n - 1) / 4 := by
  simp [State.badWords]

/-- A word in error before the read, or found so by it, is in error afterwards. -/
theorem badWords_markUpset {s : State} {a n k : Nat} {l : List Nat} (hn : n ≠ 0) (hmet : a / 4 ≤ k ∧ k ≤ (a + n - 1) / 4)
    (h : k ∈ s.banks.parity ∨ k ∈ l) : k ∈ (s.markUpset a n l).badWords a n := by
  rw [mem_badWords]
  refine ⟨?_, hmet⟩
  unfold State.markUpset
  extract_lets new
  by_cases hpar : k ∈ s.banks.parity
  · split
    · exact hpar
    · exact List.mem_append_left _ hpar
  · have hnew : k ∈ new := by simp [new, hmet, hpar, h.resolve_left hpar]
    have hne : ¬ (n = 0 ∨ new.isEmpty = true) := by
      rintro (h0 | h0)
      · exact hn h0
      · rw [List.isEmpty_iff.1 h0] at hnew
        exact absurd hnew (by simp)
    rw [if_neg hne]
    exact List.mem_append_right _ (List.mem_eraseDups.2 hnew)

/-! ### The parts of an access -/

/-- R107: the state with the post-modify of the address register made. -/
def State.modified (s : State) (e wa : Nat) (u : Bool) (d : Int) (size : Nat) : State :=
  if u then s.setW e wa (postModify (s.w e wa) d size) else s

theorem modified_leaves_banks (s : State) (e wa : Nat) (u : Bool) (d : Int) (size : Nat) :
    Leaves State.banks s (s.modified e wa u d size) := .ite ⟨rfl⟩ (.refl s)

theorem esfIf_leaves_stores (s : State) (e : Nat) (c : Bool) (b : EsfBit) : Leaves State.stores s (s.esfIf e c b) :=
  .ite ⟨rfl⟩ (.refl s)

theorem loadInto_leaves_stores (s : State) (e : Nat) (f : MemForm) (v : Nat) : Leaves State.stores s (s.loadInto e f v) := by
  cases f <;> exact ⟨rfl⟩

theorem esf_loadInto (s : State) (e : Nat) (f : MemForm) (v : Nat) : ((s.loadInto e f v).eng e).esf = (s.eng e).esf := by
  cases f
  case acc => rw [State.loadInto, State.eng_updEng_same]; rfl
  all_goals exact esf_setW s e _ _

/-! ### LD -/

section
variable {s : State} {e wa : Nat} {f : MemForm} {u : Bool} {d : Int} {upset : List Nat}

/-- R65, R66: a refused load writes 0 and sets its flags. -/
theorem doLoad_refused (h : (effAddr (s.w e wa) u d (memSize f)).2 % memSize f ≠ 0
      ∨ s.owner (effAddr (s.w e wa) u d (memSize f)).1 ≠ s.ownerOf e) :
    let at_ := effAddr (s.w e wa) u d (memSize f)
    s.doLoad e f wa u d upset = ((((s.modified e wa u d (memSize f)).esfIf e (at_.2 % memSize f != 0) .align).esfIf e
      (s.owner at_.1 != s.ownerOf e) .own).loadInto e f 0) := by
  intro at_
  refine if_pos ?_
  change (at_.2 % memSize f != 0 || s.owner at_.1 != s.ownerOf e) = true
  simpa using h

/-- R107: a load that is taken reads the bank, and reports the words in error it meets. -/
theorem doLoad_taken (halign : (effAddr (s.w e wa) u d (memSize f)).2 % memSize f = 0)
    (hown : s.owner (effAddr (s.w e wa) u d (memSize f)).1 = s.ownerOf e) :
    let at_ := effAddr (s.w e wa) u d (memSize f)
    let a := bankAddr at_.1 at_.2
    let n := min (memSize f) 9
    let r := ((s.modified e wa u d (memSize f)).markUpset a n upset).noteParity a n
    s.doLoad e f wa u d upset = ((r.1.esfIf e r.2 .parity).touch at_.1).loadInto e f (s.pairNum e a n) := by
  intro at_ a n r
  simp only [State.doLoad, State.accessRefused, misaligned, halign, hown, bne_self_eq_false]
  rfl

theorem doLoad_leaves_stores : Leaves State.stores s (s.doLoad e f wa u d upset) := by
  have hmod := stores_of_banks (modified_leaves_banks s e wa u d (memSize f))
  by_cases h : (effAddr (s.w e wa) u d (memSize f)).2 % memSize f = 0 ∧ s.owner (effAddr (s.w e wa) u d (memSize f)).1 = s.ownerOf e
  · rw [doLoad_taken h.1 h.2]
    exact .after (loadInto_leaves_stores _ _ _ _) (.after (touch_leaves_stores _ _) (.after (esfIf_leaves_stores _ _ _ _)
      (.after (noteParity_leaves_stores _ _ _) (.after (markUpset_leaves_stores _ _ _ _) hmod))))
  · rw [doLoad_refused (by omega)]
    exact .after (loadInto_leaves_stores _ _ _ _) (.after (esfIf_leaves_stores _ _ _ _) (.after (esfIf_leaves_stores _ _ _ _) hmod))

end

theorem execLd_reaches {x : Guard} {f : MemForm} {wa : RegNo} {u : Bool} {d : Int} {q : BankUse} {s0 s : State} {r : Run}
    (hwf : memWf false f d = true) :
    let cyc := memClocks f + s0.memStall x.e f wa u d q.stall
    s0.reaches x r 1 cyc (cyc - 1) false s →
    exec (.ld x f wa u d q) s0 = .next ((s.doLoad x.e f wa u d q.upset).retired x.e cyc 1) := by
  intro cyc h
  have hexec : exec (.ld x f wa u d q) s0 = .next (s0.issueAt x true (memClocks f) 1 cyc (cyc - 1) false
      (fun s => (s.doLoad x.e f wa u d q.upset, .pass 1))) := by rw [← hwf]; rfl
  rw [hexec, issueAt_pass h rfl]

/-- Settles O8: LD acts in its last clock, and there each case of the load gives its result. -/
theorem loadResults : Obligations.LoadResults := by
  intro x f wa u d q s0 s r at_ a n cyc s1 met hwf hreach
  rw [execLd_reaches hwf hreach]
  have hn : n ≠ 0 := by cases f <;> simp [n, memSize]
  have hmod : s.modified x.e wa u d (memSize f) = s1 := rfl
  have hbad : s1.badWords a n = s.badWords a n := by
    rw [State.badWords, State.badWords, ← hmod, (modified_leaves_banks s _ _ _ _ _).eq]
  refine ⟨fun halign hown hclean hunmet => ?taken, fun h => ?refused, fun halign hown h => ?bad, fun h => if_neg (by simp [h]), ?bytes⟩
  case taken =>
    rw [doLoad_taken halign hown, hmod, markUpset_unmet hunmet, noteParity_clean hn (hbad.trans hclean), bankAddr_div]
    dsimp only
    rw [esfIf_false, touch_touch]
  case refused => rw [doLoad_refused h]; rfl
  case bad =>
    refine ⟨_, rfl, ?_⟩
    have hfound : (s1.markUpset a n q.upset).badWords a n ≠ [] := by
      rcases h with h | ⟨k, hk, hmet⟩
      · obtain ⟨k, hk⟩ := List.exists_mem_of_ne_nil _ h
        rw [← hbad] at hk
        obtain ⟨hpar, hmet⟩ := mem_badWords.1 hk
        exact List.ne_nil_of_mem (badWords_markUpset hn hmet (.inl hpar))
      · exact List.ne_nil_of_mem (badWords_markUpset hn hmet (.inr hk))
    rw [doLoad_taken halign hown, hmod, esf_retired, esf_loadInto, State.eng_touch, noteParity_bad hn hfound, esfIf_true]
    exact bit_esf _ _ .parity
  case bytes => exact ⟨_, rfl, sameBytes_of_leaves (.after (retired_leaves_stores _ _ _ _) doLoad_leaves_stores)⟩

/-! ### ST -/

theorem length_storeImage (y : Engine) (f : MemForm) : (y.storeImage f).length = memSize f := by
  cases f <;> simp [Engine.storeImage, memSize, bytesLE]

theorem updNow_leaves_stores (s : State) (f : Timing → Timing) : Leaves State.stores s (s.updNow f) := ⟨rfl⟩

@[simp] theorem eng_storeOf (s : State) (e a : Nat) (bs : List Byte) (q : Nat) : (s.storeOf e a bs).eng q = s.eng q := by
  unfold State.storeOf
  split <;> rfl

section
variable {s : State} {e wa : Nat} {f : MemForm} {u : Bool} {d : Int}

/-- R65, R66: a refused store sets its flags. -/
theorem doStore_refused (h : (effAddr (s.w e wa) u d (memSize f)).2 % memSize f ≠ 0
      ∨ s.owner (effAddr (s.w e wa) u d (memSize f)).1 ≠ s.ownerOf e) :
    let at_ := effAddr (s.w e wa) u d (memSize f)
    s.doStore e f wa u d = ((s.modified e wa u d (memSize f)).esfIf e (at_.2 % memSize f != 0) .align).esfIf e
      (s.owner at_.1 != s.ownerOf e) .own := by
  intro at_
  refine if_pos ?_
  change (at_.2 % memSize f != 0 || s.owner at_.1 != s.ownerOf e) = true
  simpa using h

/-- R108: a store that is taken hands the register's bytes to the bank. -/
theorem doStore_taken (halign : (effAddr (s.w e wa) u d (memSize f)).2 % memSize f = 0)
    (hown : s.owner (effAddr (s.w e wa) u d (memSize f)).1 = s.ownerOf e) :
    let at_ := effAddr (s.w e wa) u d (memSize f)
    s.doStore e f wa u d = ((s.modified e wa u d (memSize f)).touch at_.1).storeOf e (bankAddr at_.1 at_.2) ((s.eng e).storeImage f) := by
  intro at_
  simp only [State.doStore, State.accessRefused, misaligned, halign, hown, bne_self_eq_false]
  rfl

/-- R107: a store leaves the registers as the post-modify makes them. -/
theorem w_doStore (k : Nat) : (s.doStore e f wa u d).w e k = (s.modified e wa u d (memSize f)).w e k := by
  by_cases h : (effAddr (s.w e wa) u d (memSize f)).2 % memSize f = 0 ∧ s.owner (effAddr (s.w e wa) u d (memSize f)).1 = s.ownerOf e
  · rw [doStore_taken h.1 h.2, State.w, eng_storeOf]; rfl
  · rw [doStore_refused (by omega), w_esfIf, w_esfIf]

theorem w_modified (k : Nat) : (s.modified e wa u d (memSize f)).w e k
    = if u = true ∧ k = wa ∧ wa ≠ 0 then postModify (s.w e wa) d (memSize f) else s.w e k := by
  cases u
  · simp [State.modified]
  · simp [State.modified, w_setW]

theorem doStore_refused_leaves (h : (effAddr (s.w e wa) u d (memSize f)).2 % memSize f ≠ 0
      ∨ s.owner (effAddr (s.w e wa) u d (memSize f)).1 ≠ s.ownerOf e) :
    Leaves State.stores s (s.doStore e f wa u d) ∧ (s.doStore e f wa u d).now = s.now := by
  rw [doStore_refused h]
  have hnow : Leaves State.now s (s.modified e wa u d (memSize f)) := .ite ⟨rfl⟩ (.refl s)
  refine ⟨.after (esfIf_leaves_stores _ _ _ _) (.after (esfIf_leaves_stores _ _ _ _)
    (stores_of_banks (modified_leaves_banks s e wa u d (memSize f)))), ?_⟩
  have hflag : ∀ (t : State) (c : Bool) (b : EsfBit), Leaves State.now t (t.esfIf e c b) := fun t _ _ => .ite ⟨rfl⟩ (.refl t)
  exact (State.Leaves.after (hflag _ _ _) (.after (hflag _ _ _) hnow)).eq

end

theorem execSt_reaches {x : Guard} {f : MemForm} {wa : RegNo} {u : Bool} {d : Int} {stall : Nat} {s0 s : State} {r : Run}
    (hwf : memWf true f d = true) :
    let cyc := memClocks f + s0.memStall x.e f wa u d stall
    s0.reaches x r 1 cyc (cyc - 1) false s →
    exec (.st x f wa u d stall) s0 = .next ((s.doStore x.e f wa u d).retired x.e cyc 1) := by
  intro cyc h
  have hexec : exec (.st x f wa u d stall) s0 = .next (s0.issueAt x true (memClocks f) 1 cyc (cyc - 1) false
      (fun s => (s.doStore x.e f wa u d, .pass 1))) := by rw [← hwf]; rfl
  rw [hexec, issueAt_pass h rfl]

/-- R92: where the bytes of a store that is taken go. -/
theorem storeOf_results {s : State} (hcanon : s.Canonical) (e a : Nat) (bs : List Byte) :
    let t := s.storeOf e a bs
    (∀ q, q < a ∨ a + bs.length ≤ q → t.byteAt q = s.byteAt q) ∧ (∀ q, t.dramAt q = s.dramAt q)
      ∧ (s.locked e = false → ∀ k < bs.length, bs[k]? = some (t.byteAt (a + k)))
      ∧ (s.locked e = true → sameBytes s t
          ∧ t.now.held = s.now.held ++ [{ pair := e / 2, rel := s.clk + 2, addr := a, bytes := bs }]) := by
  intro t
  cases hlock : s.locked e
  case false =>
    have ht : t = s.storeBytes a bs := if_neg (by simp [hlock])
    rw [ht]
    refine ⟨fun q hq => ?_, fun q => rfl, fun _ k hk => ?_, fun h => nomatch h⟩
    · rw [storeBytes_byteAt s a q bs hcanon, if_neg (by omega)]
    · rw [storeBytes_byteAt s a _ bs hcanon, if_pos (by omega), Nat.add_sub_cancel_left, List.getD_eq_getElem?_getD,
        List.getElem?_eq_getElem hk, Option.getD_some]
  case true =>
    have ht : t = s.updNow fun x => { x with held := x.held ++ [{ pair := e / 2, rel := s.clk + 2, addr := a, bytes := bs }] } :=
      if_pos hlock
    rw [ht]
    exact ⟨fun _ _ => rfl, fun _ => rfl, (nomatch ·), fun _ => ⟨fun _ => ⟨rfl, rfl⟩, rfl⟩⟩

/-- R108: the bytes of a store image. -/
theorem storeImage_bytes (y : Engine) :
    (∀ (sg : Bool) (r : RegNo), y.storeImage (.byte sg r) = [(y.w r).extractLsb' 0 8])
    ∧ (∀ (sg : Bool) (r : RegNo), y.storeImage (.half sg r) = [(y.w r).extractLsb' 0 8, (y.w r).extractLsb' 8 8])
    ∧ (∀ (r : RegNo), y.storeImage (.word r) =
        [(y.w r).extractLsb' 0 8, (y.w r).extractLsb' 8 8, (y.w r).extractLsb' 16 8, (y.w r).extractLsb' 24 8])
    ∧ (∀ (k : AccNo), (y.storeImage (.acc k)).length = 16
        ∧ (∀ i < 9, (y.storeImage (.acc k))[i]? = some ((y.a k).extractLsb' (8 * i) 8))
        ∧ (∀ i, 9 ≤ i → i < 16 → (y.storeImage (.acc k))[i]? = some (if (y.a k).msb then 0xFF else 0))) := by
  refine ⟨fun _ _ => rfl, fun _ _ => rfl, fun _ => rfl, fun k => ⟨length_storeImage y (.acc k), fun i hi => ?_, fun i h9 h16 => ?_⟩⟩
  · have hlen : i < (bytesLE (y.a k).toNat 9).length := by simpa [bytesLE] using hi
    rw [Engine.storeImage, List.getElem?_append_left hlen]
    simp [bytesLE, hi, BitVec.extractLsb']
  · have hlen : (bytesLE (y.a k).toNat 9).length = 9 := by simp [bytesLE]
    rw [Engine.storeImage, List.getElem?_append_right (by omega), List.getElem?_replicate, if_pos (by omega), BitVec.msb_eq_getLsbD_last]
    rfl

/-- Settles O9: ST acts in its last clock; the store is refused or taken, and a lockstep pair holds it back. -/
theorem storeResults : Obligations.StoreResults := by
  refine ⟨fun x f wa u d stall s0 s r => ?_, storeImage_bytes⟩
  intro at_ a cyc taken hwf hcanon hreach
  refine ⟨_, execSt_reaches hwf hreach, fun k hk => ?other, fun hu hwa => ?post, ?_⟩
  case other =>
    rw [w_retired, w_doStore, w_modified, if_neg]
    rintro ⟨hu, hkwa, -⟩
    exact hk.elim (· hkwa) (by simp [hu])
  case post =>
    rw [w_retired, w_doStore, w_modified, if_pos ⟨hu, rfl, fun h => hwa (Fin.ext h)⟩]
  have hret := retired_leaves_stores (s.doStore x.e f wa u d) x.e cyc 1
  by_cases htaken : taken
  case neg =>
    have hrefused : at_.2 % memSize f ≠ 0 ∨ s.owner at_.1 ≠ s.ownerOf x.e := by simp only [taken] at htaken; omega
    obtain ⟨hstores, hnow⟩ := doStore_refused_leaves hrefused
    have hsame := sameBytes_of_leaves (.after hret hstores)
    refine ⟨fun q _ => (hsame q).1, fun q => (hsame q).2, fun h => absurd h htaken, fun h => absurd h htaken,
      fun h => ⟨hsame, ?_, ?_⟩, fun h => ⟨hsame, ?_, ?_⟩⟩
    · rw [now_retired, hnow]
    · rw [esf_retired, doStore_refused hrefused]
      have hmis : (at_.2 % memSize f != 0) = true := by simpa using h
      exact bit_esfIf_of_bit _ _ (by rw [hmis, esfIf_true]; exact bit_esf _ _ .align)
    · rw [now_retired, hnow]
    · rw [esf_retired, doStore_refused hrefused]
      have hown : (s.owner at_.1 != s.ownerOf x.e) = true := by simpa using h
      rw [hown, esfIf_true]
      exact bit_esf _ _ .own
  case pos =>
    obtain ⟨halign, hown⟩ := htaken
    let m := (s.modified x.e wa u d (memSize f)).touch at_.1
    have hm : m.stores = s.stores ∧ m.locked x.e = s.locked x.e ∧ m.clk = s.clk ∧ m.now = s.now ∧ m.Canonical = s.Canonical := by
      unfold m State.modified
      split <;> exact ⟨rfl, rfl, rfl, rfl, rfl⟩
    obtain ⟨hstores, hlocked, hclk, hnow, hcan⟩ := hm
    obtain ⟨hout, hdram, hin, hheld⟩ := storeOf_results (hcan ▸ hcanon) x.e a ((s.eng x.e).storeImage f)
    have hsame : sameBytes s m := sameBytes_of_leaves ⟨hstores⟩
    rw [length_storeImage] at hout hin
    rw [doStore_taken halign hown] at hret ⊢
    have hretb := sameBytes_of_leaves hret
    refine ⟨fun q hq => ?_, fun q => ?_, fun _ hfree k hk => ?_, fun _ hlock => ⟨fun q => ?_, ?_⟩, fun h => absurd halign h,
      fun h => absurd hown h⟩
    · exact ((hretb q).1.trans (hout q hq)).trans (hsame q).1
    · exact ((hretb q).2.trans (hdram q)).trans (hsame q).2
    · rw [(hretb _).1]
      exact hin (hlocked.trans hfree) k hk
    · obtain ⟨hb, -⟩ := hheld (hlocked.trans hlock)
      exact ⟨((hretb q).1.trans (hb q).1).trans (hsame q).1, ((hretb q).2.trans (hb q).2).trans (hsame q).2⟩
    · obtain ⟨-, hh⟩ := hheld (hlocked.trans hlock)
      rw [now_retired, hh, hnow, hclk]

end Sys2Proof.Machine
end

section
/-! Port accesses of an engine (R30 to R35, R92, R96, R109): what GET, GETL, PUT and PUTL do in their act clock, then the
statements `Obligations.PortErrors`, `Obligations.PortReads` and `Obligations.StagedWrites`. -/
namespace Sys2Proof.Machine

open State (Leaves)

/-! ### The act clock -/

section
variable {x : Guard} {s0 s : State} {r : Run} {long : Bool} {words n : Nat}

/-- R109: a read in its act clock. -/
theorem getWith_reaches {d wa k : Nat} (h : s0.reaches x r words n (n - 1) true s) (hwords : words = 1 + b2n long)
    (hn : n = s0.accessClocks x.e (portAddr (s0.w x.e wa) k) (s0.decoded (portAddr (s0.w x.e wa) k)) long) :
    s0.getWith x true d wa k long = (s.doGet x.e d (portAddr (s0.w x.e wa) k)).retired x.e n words := by
  subst hwords hn
  exact issueAt_pass h rfl

/-- R109: a write in its act clock. -/
theorem putWith_reaches {v wa k : Nat} (h : s0.reaches x r words n (n - 1) false s) (hwords : words = 1 + b2n long)
    (hn : n = s0.accessClocks x.e (portAddr (s0.w x.e wa) k) (s0.writable (.eng x.e) (portAddr (s0.w x.e wa) k)) long) :
    s0.putWith x true v wa k long
      = (s.writePort (.eng x.e) (portAddr (s0.w x.e wa) k) (s.w x.e v)).retired x.e n words := by
  subst hwords hn
  exact issueAt_pass h rfl

/-- R30, R92: the clocks of an access that is not decoded. -/
theorem accessClocks_undecoded (s : State) (e a : Nat) (long : Bool) :
    s.accessClocks e a false long = 2 + s.lockExtra e + b2n long := by
  simp only [State.accessClocks, Bool.false_eq_true, if_false]
  omega

end

section
variable (x : Guard) (d wa : RegNo) {k : Nat} (s : State)

theorem exec_get (hk : k < 4096) : exec (.get x d wa k) s = .next (s.getWith x true d wa k false) :=
  congrArg (fun wf => Host.Outcome.next (s.getWith x wf d wa k false)) (decide_eq_true hk)

theorem exec_put (hk : k < 4096) : exec (.put x d wa k) s = .next (s.putWith x true d wa k false) :=
  congrArg (fun wf => Host.Outcome.next (s.putWith x wf d wa k false)) (decide_eq_true hk)

theorem exec_getl (hk : k < 65536) : exec (.getl x d wa k) s = .next (s.getWith x true d wa k true) :=
  congrArg (fun wf => Host.Outcome.next (s.getWith x wf d wa k true)) (decide_eq_true hk)

theorem exec_putl (hk : k < 65536) : exec (.putl x d wa k) s = .next (s.putWith x true d wa k true) :=
  congrArg (fun wf => Host.Outcome.next (s.putWith x wf d wa k true)) (decide_eq_true hk)

end

/-! ### Reads -/

theorem doGet_undecoded {s : State} {a : Nat} (e : EngineNo) (d : Nat) (h : s.decoded a = false) :
    s.doGet e d a = (s.setW e d 0).esf e .portUndec := if_neg (by simp [h])

/-- R30, R96: a read of a port whose reading leaves no latch. -/
theorem doGet_decoded {s : State} {a : Nat} (e : EngineNo) (d : Nat) (h : s.decoded a = true) (hid : identityOf a = none)
    (hns : a ≠ Reg.TMB_NS) : s.doGet e d a = (s.setW e d (s.readNow (.eng e) a)).esfIf e (classV a) .live := by
  have hread : s.readPort (.eng e) a = (s.readNow (.eng e) a, s) := by simp [State.readPort, hid, hns]
  simp only [State.doGet, h, if_true, hread]

/-! ### Writes -/

/-- R386: only what is decoded can be written. -/
theorem writable_of_undecoded {s : State} {a : Nat} (p : Party) (h : s.decoded a = false) : s.writable p a = false := by
  simp [State.writable, h]

/-- R109: a write of a running engine to an undecoded port sets a flag and changes no port. -/
theorem writePort_eng_undecoded {s : State} {e : EngineNo} {r : Run} {a : Nat} (v : Word) (hrun : (s.eng e).run = some r)
    (h : s.writable (.eng e) a = false) : s.writePort (.eng e) a v = s.esf e .portUndec := by
  simp [State.writePort, h, State.partyEsf, hrun]

/-- R33: what an engine stages joins the set of its clause's group, as a write of its execution. -/
theorem stage_eng {s : State} {e : EngineNo} {r : Run} (a : Nat) (v : Word) (hrun : (s.eng e).run = some r) :
    s.stage (.eng e) a v = s.stageIn r.group { clause := some r.clause, disp := r.disp, addr := a, val := v, clk := s.clk } := by
  simp [State.stage, State.partyExec, State.partyGroup, State.runGroup, hrun]

@[simp] theorem group_noteCp (s : State) (g i q : Nat) : (s.noteCp g i).group q = s.group q := rfl

/-- A staged write concerns the group whose set it joins or overflows. -/
theorem group_stageIn_ne {s : State} {g q : Nat} (w : PendWrite) (h : q ≠ g) : (s.stageIn g w).group q = s.group q := by
  unfold State.stageIn
  extract_lets due open_ regs
  split
  · rfl
  · split
    · rw [group_record, group_noteCp]
      exact group_updGroup_ne _ h
    · exact group_updGroup_ne _ h

/-! ### A port that does not answer (R31) -/

theorem exec_portTimeout_reaches {x : Guard} {read long : Bool} {w : RegNo} {a : Fin 65536} {s0 s : State} {r : Run}
    (hdec : s0.decoded a = true) :
    let n := 64 + b2n long + s0.lockExtra x.e
    s0.reaches x r (1 + b2n long) n (n - 1) false s →
    exec (.portTimeout x read w a long) s0 = .next ((s.doTimeout x.e read w a).retired x.e n (1 + b2n long)) := by
  intro n h
  have ⟨⟨_, _, _, hguard, _⟩, _⟩ := h
  have hlead : 63 + b2n long + s0.lockExtra x.e = n - 1 := by omega
  have hexec : exec (.portTimeout x read w a long) s0 = .next (s0.issueAt x true (1 + b2n long) (1 + b2n long) n
      (63 + b2n long + s0.lockExtra x.e) false (fun s => (s.doTimeout x.e read w a, .pass (1 + b2n long)))) :=
    congrArg Host.Outcome.next (if_pos (by rw [hdec, hguard]; rfl))
  rw [hexec, hlead, issueAt_pass h rfl]

/-- R31: a read that is not answered returns 0. -/
theorem w_doTimeout (s : State) (e w a k : Nat) (read : Bool) :
    (s.doTimeout e read w a).w e k = if read = true ∧ k = w ∧ w ≠ 0 then 0 else s.w e k := by
  rw [State.w, State.eng, State.doTimeout, engs_record]
  refine (w_esf _ e k .portTmo).trans ?_
  cases read
  · simp
  · simp [w_setW]

theorem eng_doTimeout (s : State) (e w a : Nat) (read : Bool) :
    bit ((s.doTimeout e read w a).eng e).esf 7 = true ∧ ((s.doTimeout e read w a).eng e).run = (s.eng e).run := by
  rw [State.eng, State.doTimeout, engs_record]
  refine ⟨bit_esf _ e .portTmo, (congrArg Engine.run (eng_esf _ e .portTmo)).trans ?_⟩
  cases read
  · rfl
  · exact run_setW s e w 0

theorem doTimeout_results (s : State) (e w a : Nat) (read : Bool) :
    Leaves State.stores s (s.doTimeout e read w a) ∧ sameRegs s (s.doTimeout e read w a) [] := by
  have h : Leaves State.stores s (if read then s.setW e w 0 else s) := .ite ⟨rfl⟩ (.refl s)
  refine ⟨.after (stores_of_banks (record_leaves_banks _ _ _ _)) ⟨h.eq⟩, fun q _ hq => ?_⟩
  rw [State.doTimeout, reg_record _ _ _ _ hq]
  cases read <;> rfl

/-! ### The statements -/

/-- Settles O10: an undecoded port and one that does not answer, each in the act clock of the access. -/
theorem portErrors : Obligations.PortErrors := by
  refine ⟨?undecoded, ?timeout⟩
  case' undecoded =>
    intro x d wa k s0 s r a n hdec0 hdec
    refine ⟨?get, ?put, ?getl, ?putl⟩
  case get =>
    intro hk h
    rw [exec_get x d wa s0 hk, getWith_reaches h rfl (by rw [hdec0, accessClocks_undecoded]; rfl), doGet_undecoded _ _ hdec]
  case put =>
    intro hk h
    rw [exec_put x d wa s0 hk, putWith_reaches h rfl (by rw [writable_of_undecoded _ hdec0, accessClocks_undecoded]; rfl),
      writePort_eng_undecoded _ (reaches_executes h).1 (writable_of_undecoded _ hdec)]
  case getl =>
    intro hk h
    rw [exec_getl x d wa s0 hk, getWith_reaches h rfl (by rw [hdec0, accessClocks_undecoded]; rfl), doGet_undecoded _ _ hdec]
  case putl =>
    intro hk h
    rw [exec_putl x d wa s0 hk, putWith_reaches h rfl (by rw [writable_of_undecoded _ hdec0, accessClocks_undecoded]; rfl),
      writePort_eng_undecoded _ (reaches_executes h).1 (writable_of_undecoded _ hdec)]
  case timeout =>
    intro x read long w a s0 s r n hdec hreach
    obtain ⟨hflag, hrun⟩ := eng_doTimeout s x.e w a read
    obtain ⟨hstores, hregs⟩ := doTimeout_results s x.e w a read
    refine ⟨_, exec_portTimeout_reaches hdec hreach, ?_, ?_, ?_, ?_, ?_, ?_⟩
    · rw [esf_retired]
      exact hflag
    · rintro rfl
      rw [w_retired, w_doTimeout]
      split
      case isTrue => rfl
      case isFalse h => exact if_pos (by simpa using h)
    · rintro rfl k
      rw [w_retired, w_doTimeout, if_neg (by simp)]
    · exact ⟨_, run_retired _ _ _ _ (hrun.trans (reaches_executes hreach).1), rfl⟩
    · exact sameBytes_of_leaves (.after (retired_leaves_stores _ _ _ _) hstores)
    · exact fun q hq hrec => (reg_retired _ _ _ _ _).trans (hregs q hq hrec)

/-- Settles O11: a read of a decoded port in its act clock. -/
theorem portReads : Obligations.PortReads := by
  intro x d wa k s0 s r a n got hdec0 hdec hid hns
  have hgot : s.doGet x.e d a = got := doGet_decoded _ _ hdec hid hns
  refine ⟨fun hk h => ?_, fun hk h => ?_⟩
  · rw [exec_get x d wa s0 hk, getWith_reaches h rfl (by rw [hdec0]), hgot]
  · rw [exec_getl x d wa s0 hk, getWith_reaches h rfl (by rw [hdec0]), hgot]

/-- R33: a staged write of an engine joins the set of its group, and neither a port register nor another group moves. -/
theorem writePort_staged {s : State} {e : EngineNo} {r : Run} {a : Nat} (v : Word) (hrun : (s.eng e).run = some r)
    (hw : s.writable (.eng e) a = true) (hst : isStaged a = true) (hfb : a ≠ Reg.OPT_FBLIM) (hsw : a ≠ Reg.LPE_SWAP)
    (hring : ¬ (0x0901 ≤ a ∧ a < 0x0A00 ∧ a % 4 = 1)) (hstop : s.stopReal r.group = false)
    (hover : (s.group r.group).overflowed = false) (hroom : (s.group r.group).pend.length < 128) :
    let t := s.writePort (.eng e) a v
    (∀ q, t.reg q = s.reg q) ∧ (∀ q, q ≠ r.group → t.group q = s.group q)
      ∧ (t.group r.group).pend
          = (s.group r.group).pend.filter (fun p => !(p.addr == a && p.clause == some r.clause && p.disp == r.disp))
            ++ [{ clause := some r.clause, disp := r.disp, addr := a, val := v, clk := s.clk, ord := (s.group r.group).stageNo }] := by
  intro t
  have ht : t = s.stageIn r.group { clause := some r.clause, disp := r.disp, addr := a, val := v, clk := s.clk } := by
    rw [← stage_eng a v hrun, ← poke_staged (.eng e) v hst hfb hsw hring]
    simp [t, State.writePort, hw, State.ignored]
  obtain ⟨hpend, hreg⟩ := stageIn_joins
    { clause := some r.clause, disp := r.disp, addr := a, val := v, clk := s.clk } hstop hover hroom
  rw [ht]
  exact ⟨hreg, fun q hq => group_stageIn_ne _ hq, hpend⟩

/-- Settles O12: PUT and PUTL stage their write in the act clock. -/
theorem stagedWrites : Obligations.StagedWrites := by
  intro x v wa k s0 s r a n joined hw0 hw hst hfb hsw hring hstop hover hroom
  have hjoined : ∀ (m words : Nat), (s.eng x.e).run = some r →
      joined ((s.writePort (.eng x.e) a (s.w x.e v)).retired x.e m words) := by
    intro m words hrun
    obtain ⟨hreg, hgroup, hpend⟩ := writePort_staged (s.w x.e v) hrun hw hst hfb hsw hring hstop hover hroom
    refine ⟨fun q => ?_, fun q hq => ?_, ?_⟩
    · rw [reg_retired, hreg]
    · rw [group_retired, hgroup q hq]
    · rw [group_retired, hpend]
  refine ⟨fun hk h => ⟨_, ?_, hjoined (n false) 1 (reaches_executes h).1⟩, fun hk h => ⟨_, ?_, hjoined (n true) 2 (reaches_executes h).1⟩⟩
  · rw [exec_put x v wa s0 hk, putWith_reaches h rfl (by rw [hw0])]
  · rw [exec_putl x v wa s0 hk, putWith_reaches h rfl (by rw [hw0])]

end Sys2Proof.Machine
end

section
/-! Ends of a clause (R76, R81 to R83, R120): what an end leaves, said once for every end state, then the statement
`Obligations.ClauseEnds`. -/
namespace Sys2Proof.Machine

open State (Leaves)

/-! ### What runs -/

/-- The execution and the wait of each engine. -/
def State.running (s : State) (q : Nat) : Option Run × Option WaitCtx := ((s.eng q).run, (s.eng q).wait)

theorem running_updEng (s : State) (e : Nat) {f : Engine → Engine} (h : ∀ x, (f x).run = x.run ∧ (f x).wait = x.wait) :
    (s.updEng e f).running = s.running := by
  funext q
  by_cases hq : q = e
  · subst hq
    obtain ⟨hrun, hwait⟩ := h (s.eng q)
    rw [State.running, State.eng_updEng_same, hrun, hwait]; rfl
  · rw [State.running, State.eng_updEng_ne _ _ hq]; rfl

theorem running_of_engs {s t : State} (h : t.engs = s.engs) : t.running = s.running := by
  funext q
  rw [State.running, State.eng, h]; rfl

/-- R160: the account of an engine's clocks moves no execution, no port register, no group and no counter of a clause. -/
theorem accountTo_results (s : State) (e c : Nat) :
    (s.accountTo e c).running = s.running ∧ (s.accountTo e c).regs = s.regs ∧ (s.accountTo e c).sched.groups = s.sched.groups
      ∧ (s.accountTo e c).sched.counts = s.sched.counts := by
  unfold State.accountTo
  split
  · exact ⟨rfl, rfl, rfl, rfl⟩
  · extract_lets n u
    have hu : u.running = s.running := running_updEng s e fun _ => ⟨rfl, rfl⟩
    exact ⟨hu, rfl, rfl, rfl⟩

theorem safRestart_leaves {β : Type} {p : State → β} (h : ∀ (u : State) x, Leaves p u { u with saf := x }) (s : State) (c : Nat) :
    Leaves p s (s.safRestart c) := .foldl fun u _ => .ite (h u _) (.refl u)

theorem endRecord_leaves {β : Type} {p : State → β} (h : ∀ (u : State) n el items, Leaves p u (u.record n el items)) (s : State) (e : Nat)
    (r : Run) (st : EndState) (info : Nat) : Leaves p s (s.endRecord e r st info) := by
  cases st
  case ended => exact .refl s
  case imemFault => exact .refl s
  all_goals exact h s _ _ _

theorem reg_orBitsNext (s : State) (a b : Nat) (m : Word) :
    (s.orBitsNext a m).reg b = if b = a then s.reg b ||| m else s.reg b := by
  refine (State.reg_orBits s a b m).trans ?_
  split
  case isTrue h => rw [h]
  case isFalse => rfl

/-! ### The end of an execution -/

/-- R82: the flags with which a clause of an engine whose flags are `esf` ends. -/
def endFlags (esf : Word) (st : EndState) : Word :=
  match endFlag st with
  | some b => esf ||| bitMask (esfNo b)
  | none => esf

/-- R36: what an execution has staged is discarded. -/
def Group.discard (x : Group) (c d : Nat) : Group :=
  { x with pend := x.pend.filter (fun p => !(p.clause == some c && p.disp == d))
           staged := x.staged.filter (fun p => !(p.clause == c && p.disp == d)) }

/-- R82: a group after the end of execution `r`. -/
def Group.ended (x : Group) (r : Run) (st : EndState) : Group :=
  let x := { x with progress := x.progress ++ [(r.clause, st)] }
  let x := if st = .ended then x else x.discard r.clause r.disp
  if st = .overrun then { x with overruns := (x.overruns + 1) % 65536 } else x

/-- R76, R82: `t` is `s` after the end of execution `r` of engine `e` in state `st`. -/
structure State.Ends (s t : State) (e : Nat) (r : Run) (st : EndState) : Prop where
  running : ∀ q, t.running q = if q = e then (none, none) else s.running q
  cflg : r.clause < 256 → e < 8 → t.reg (Reg.CLE_CFLG r.clause) = s.reg (Reg.CLE_CFLG r.clause) ||| endFlags (s.eng e).esf st
  eflg : r.clause < 256 → e < 8 → t.reg (Reg.CLE_EFLG e) = s.reg (Reg.CLE_EFLG e) ||| endFlags (s.eng e).esf st
  counts : ∃ clk count, t.counts r.clause = (s.counts r.clause).add st clk count
  group : ∀ q, t.group q = if q = r.group then (s.group q).ended r st else s.group q

/-! ### The parts of an end -/

/-- R76: the flags of the end state, merged into the registers of clause and engine. -/
def State.mergeFlags (s : State) (e c : Nat) (st : EndState) : State :=
  let u := match endFlag st with
    | some b => s.esf e b
    | none => s
  (u.orBitsNext (Reg.CLE_CFLG c) (u.eng e).esf).orBitsNext (Reg.CLE_EFLG e) (u.eng e).esf

/-- R86: the largest count of clause `c`. -/
def State.noteMax (s : State) (c mx : Nat) : State :=
  if (s.reg (Reg.CLE_CMAX c)).toNat < mx then s.setReg (Reg.CLE_CMAX c) (wd mx) else s

/-- R36, R82, R406: the end of `r` in its group's cycle; what it staged is discarded unless it ended ENDED. -/
def State.closeCycle (s : State) (r : Run) (st : EndState) : State :=
  let u := s.updGroup r.group (fun g => { g with progress := g.progress ++ [(r.clause, st)] })
  let v := if st = .ended then u.safRestart r.clause else u.discardStaged r.group r.clause r.disp
  if st = .overrun then v.updGroup r.group (fun g => { g with overruns := (g.overruns + 1) % 65536 }) else v

/-- R76, R82, R86: what the end of `r` leaves in the flags, the accounts and the counters. -/
def State.tallyEnd (s : State) (e : Nat) (r : Run) (st : EndState) (count : Nat) : State :=
  (((s.mergeFlags e r.clause st).accountTo e (r.start + count)).noteMax r.clause (min count 33554431)).updCounts r.clause
    (fun c => c.add st (r.start + count - 1) (min count 33554431))

theorem endClause_eq {s : State} {e : Nat} {r : Run} (hrun : (s.eng e).run = some r) (st : EndState) (count info : Nat) :
    s.endClause e st count info =
      ((((s.tallyEnd e r st count).closeCycle r st).endRecord e r st info).updEng e
        (fun x => { x with run := none, wait := none, endClk := r.start + count - 1, last := some r.clause })).updNow
        (fun x => { x with met := mdel x.met e }) := by
  unfold State.endClause
  split
  case h_1 h => exact nomatch hrun.symm.trans h
  case h_2 r' h =>
    obtain rfl : r = r' := Option.some.inj (hrun.symm.trans h)
    rfl

theorem orBitsNext_leaves (s : State) (a : Nat) (m : Word) : Leaves (fun u => (u.engs, u.sched)) s (s.orBitsNext a m) := ⟨rfl⟩

theorem mergeFlags_leaves (s : State) (e c : Nat) (st : EndState) :
    (s.mergeFlags e c st).running = s.running ∧ (s.mergeFlags e c st).sched = s.sched := by
  unfold State.mergeFlags
  extract_lets u
  have hu : u.running = s.running ∧ u.sched = s.sched := by
    unfold u
    cases endFlag st with
    | none => exact ⟨rfl, rfl⟩
    | some b => exact ⟨running_updEng s e fun _ => ⟨rfl, rfl⟩, rfl⟩
  clear_value u
  obtain ⟨hengs, hsched⟩ := Prod.mk.inj (State.Leaves.after (orBitsNext_leaves _ (Reg.CLE_EFLG e) (u.eng e).esf)
    (orBitsNext_leaves u (Reg.CLE_CFLG c) (u.eng e).esf)).eq
  exact ⟨(running_of_engs hengs).trans hu.1, hsched.trans hu.2⟩

theorem reg_mergeFlags (s : State) {e : Nat} (he : e < 8) (c : Nat) (st : EndState) :
    (s.mergeFlags e c st).reg (Reg.CLE_CFLG c) = s.reg (Reg.CLE_CFLG c) ||| endFlags (s.eng e).esf st
      ∧ (s.mergeFlags e c st).reg (Reg.CLE_EFLG e) = s.reg (Reg.CLE_EFLG e) ||| endFlags (s.eng e).esf st := by
  have hne : Reg.CLE_CFLG c ≠ Reg.CLE_EFLG e := by simp only [Reg.CLE_CFLG, Reg.CLE_EFLG]; omega
  unfold State.mergeFlags endFlags
  cases endFlag st with
  | none => simp [reg_orBitsNext, hne, hne.symm]
  | some b => simp [reg_orBitsNext, hne, hne.symm, State.esf]

theorem noteMax_leaves (s : State) (c mx : Nat) : Leaves (fun u => (u.engs, u.sched)) s (s.noteMax c mx) := .ite ⟨rfl⟩ (.refl s)

theorem reg_noteMax (s : State) {c a : Nat} (mx : Nat) (h : a ≠ Reg.CLE_CMAX c) : (s.noteMax c mx).reg a = s.reg a :=
  (State.Leaves.ite (p := fun u => u.reg a) ⟨State.reg_setReg_ne s _ h⟩ (.refl s)).eq

theorem closeCycle_leaves (s : State) (r : Run) (st : EndState) :
    Leaves (fun u => (u.engs, u.regs, u.sched.counts)) s (s.closeCycle r st) := by
  unfold State.closeCycle
  extract_lets u v
  have hu : Leaves (fun u => (u.engs, u.regs, u.sched.counts)) s u := ⟨rfl⟩
  clear_value u
  have hv : Leaves (fun u => (u.engs, u.regs, u.sched.counts)) s v := .ite (.after (safRestart_leaves (fun _ _ => ⟨rfl⟩) _ _) hu) ⟨hu.eq⟩
  clear_value v
  exact .ite ⟨hv.eq⟩ hv

theorem group_closeCycle (s : State) (r : Run) (st : EndState) (q : Nat) :
    (s.closeCycle r st).group q = if q = r.group then (s.group q).ended r st else s.group q := by
  have hsaf : ∀ (u : State) (c k : Nat), (u.safRestart c).group k = u.group k := fun u c k =>
    (safRestart_leaves (p := fun u => u.group k) (fun _ _ => ⟨rfl⟩) u c).eq
  unfold State.closeCycle State.discardStaged Group.ended
  cases st <;> by_cases hq : q = r.group <;> simp [hsaf, State.group_updGroup, hq, Group.discard]

@[simp] theorem counts_updGroup (s : State) (g q : Nat) (f : Group → Group) : (s.updGroup g f).counts q = s.counts q := rfl

@[simp] theorem group_updCounts (s : State) (c q : Nat) (f : ClauseCounts → ClauseCounts) : (s.updCounts c f).group q = s.group q := rfl

theorem tallyEnd_results (s : State) (e : Nat) (r : Run) (st : EndState) (count : Nat) :
    let t := s.tallyEnd e r st count
    t.running = s.running ∧ (∀ q, t.group q = s.group q)
      ∧ t.counts r.clause = (s.counts r.clause).add st (r.start + count - 1) (min count 33554431)
      ∧ ∀ q, q ≠ Reg.CLE_CMAX r.clause → t.reg q = (s.mergeFlags e r.clause st).reg q := by
  unfold State.tallyEnd
  obtain ⟨hrunm, hschedm⟩ := mergeFlags_leaves s e r.clause st
  generalize s.mergeFlags e r.clause st = m at *
  obtain ⟨hruna, hrega, hgroupsa, hcountsa⟩ := accountTo_results m e (r.start + count)
  generalize m.accountTo e (r.start + count) = a at *
  obtain ⟨hengsx, hschedx⟩ := Prod.mk.inj (noteMax_leaves a r.clause (min count 33554431)).eq
  have hregx := fun q => reg_noteMax (a := q) a (c := r.clause) (min count 33554431)
  generalize a.noteMax r.clause (min count 33554431) = x at *
  intro t
  refine ⟨(running_of_engs (s := a) (by exact hengsx)).trans (hruna.trans hrunm), fun q => ?_, ?_, fun q hq => ?_⟩
  · rw [group_updCounts, State.group, hschedx, hgroupsa, hschedm]; rfl
  · rw [State.counts_updCounts, if_pos rfl, State.counts, hschedx, hcountsa, hschedm]; rfl
  · rw [State.reg_updCounts, hregx q hq, State.reg, hrega]; rfl

/-- The end of an execution, from its parts. -/
theorem endClause_ends {s : State} {e : Nat} {r : Run} (hrun : (s.eng e).run = some r) (st : EndState) (count info : Nat) :
    s.Ends (s.endClause e st count info) e r st := by
  rw [endClause_eq hrun]
  obtain ⟨hruny, hgroupy, hcountsy, hregy⟩ := tallyEnd_results s e r st count
  generalize s.tallyEnd e r st count = y at *
  have hclose := (closeCycle_leaves y r st).eq
  simp only [Prod.mk.injEq] at hclose
  obtain ⟨hengsz, hregsz, hcountsz⟩ := hclose
  have hgroupz := group_closeCycle y r st
  generalize y.closeCycle r st = z at *
  have hengs := (endRecord_leaves (p := State.engs) (fun u n el items => ⟨engs_record u n el items⟩) z e r st info).eq
  have hsched := (endRecord_leaves (p := State.sched) (fun u n el items => ⟨sched_record u n el items⟩) z e r st info).eq
  have hreg := fun q hq => (endRecord_leaves (p := fun u => u.reg q) (fun u n el items => ⟨reg_record u n el items hq⟩) z e r st info).eq
  generalize z.endRecord e r st info = w at *
  have hregw : ∀ q, q < 0x8000 → q ≠ Reg.CLE_CMAX r.clause → w.reg q = (s.mergeFlags e r.clause st).reg q := fun q hq hmax => by
    rw [hreg q (not_recorderPort hq), State.reg, hregsz]; exact hregy q hmax
  refine ⟨fun q => ?_, fun hc he => ?_, fun hc he => ?_, ⟨r.start + count - 1, min count 33554431, ?_⟩, fun q => ?_⟩
  · rw [← hruny]
    split
    case isTrue hq => rw [hq, State.running, State.eng_updNow, State.eng_updEng_same]
    case isFalse hq => rw [State.running, State.eng_updNow, State.eng_updEng_ne _ _ hq, State.eng, hengs, hengsz]; rfl
  · rw [State.reg_updNow, State.reg_updEng, hregw _ (by simp only [Reg.CLE_CFLG]; omega) (by simp only [Reg.CLE_CFLG, Reg.CLE_CMAX]; omega)]
    exact (reg_mergeFlags s he r.clause st).1
  · rw [State.reg_updNow, State.reg_updEng, hregw _ (by simp only [Reg.CLE_EFLG]; omega) (by simp only [Reg.CLE_EFLG, Reg.CLE_CMAX]; omega)]
    exact (reg_mergeFlags s he r.clause st).2
  · rw [State.counts_updNow, State.counts_updEng, State.counts, hsched, hcountsz]; exact hcountsy
  · rw [State.group_updNow, State.group_updEng, State.group, hsched]
    exact (hgroupz q).trans (by rw [hgroupy])

/-! ### The instructions and events that end a clause -/

theorem sched_charge (s : State) (e n : Nat) : (s.charge e n).sched = s.sched := by
  unfold State.charge
  split <;> rfl

theorem group_charge (s : State) (e n q : Nat) : (s.charge e n).group q = s.group q := by rw [State.group, sched_charge]; rfl

theorem counts_charge (s : State) (e n c : Nat) : (s.charge e n).counts c = s.counts c := by rw [State.counts, sched_charge]; rfl

theorem last_add (c : ClauseCounts) (st : EndState) (clk count : Nat) : (c.add st clk count).last = st.code := by
  cases st <;> rfl

/-- R120: FSTOP ends the clause with the clocks of the instruction counted. -/
theorem retire_stop {s : State} {x : Guard} {r : Run} {words cyc : Nat} (h : s.executes x r words cyc) :
    s.retire x.e cyc (fun s => (s, .stop)) = (s.charge x.e cyc).endClause x.e .ended (r.count + cyc) 0 := by
  obtain ⟨h1, _, _, _, _, h6⟩ := h
  have h7 : ¬ r.budget < r.count + cyc := by omega
  simp [State.retire, h1, h7]

/-- R76, R82: what every end shows. -/
theorem State.Ends.shows {s t : State} {e : EngineNo} {r : Run} {st : EndState} (h : s.Ends t e r st) (hc : r.clause < 256) :
    (t.eng e).run = none ∧ (t.eng e).wait = none
      ∧ t.reg (Reg.CLE_CFLG r.clause) = s.reg (Reg.CLE_CFLG r.clause) ||| endFlags (s.eng e).esf st
      ∧ t.reg (Reg.CLE_EFLG e) = s.reg (Reg.CLE_EFLG e) ||| endFlags (s.eng e).esf st
      ∧ (t.counts r.clause).last = st.code
      ∧ (t.group r.group).progress = (s.group r.group).progress ++ [(r.clause, st)] := by
  have hrun := h.running e
  rw [if_pos rfl] at hrun
  obtain ⟨hrun, hwait⟩ := Prod.mk.inj hrun
  obtain ⟨clk, count, hcounts⟩ := h.counts
  refine ⟨hrun, hwait, h.cflg hc e.isLt, h.eflg hc e.isLt, by rw [hcounts, last_add], ?_⟩
  rw [h.group, if_pos rfl]
  cases st <;> rfl

/-- Settles O17: each of the three ends is an end of the clause. -/
theorem clauseEnds : Obligations.ClauseEnds := by
  intro e s r hrun hc ends
  refine ⟨fun x s0 hx hreach => ?fstop, fun w0 w1 hdec => ?illegal, fun hover => ?budget⟩
  case fstop =>
    subst hx
    have hex := reaches_executes hreach
    have hexec : exec (.fstop x) s0 = .next ((s.charge x.e (1 + s0.lockExtra x.e)).endClause x.e .ended
        (r.count + (1 + s0.lockExtra x.e)) 0) :=
      congrArg Host.Outcome.next ((issueAt_reaches hreach _).trans (retire_stop hex))
    generalize 1 + s0.lockExtra x.e = n at *
    let r' : Run := { r with count := r.count + n }
    have hrun' : ((s.charge x.e n).eng x.e).run = some r' := by rw [eng_charge, Engine.counted, hrun]; rfl
    have hends := endClause_ends hrun' .ended (r.count + n) 0
    refine ⟨_, hexec, ?_, ?_⟩
    · have hshow := hends.shows hc
      rw [reg_charge, reg_charge, eng_charge, group_charge] at hshow
      exact hshow
    · obtain ⟨clk, count, hcounts⟩ := hends.counts
      rw [counts_charge] at hcounts
      exact congrArg ClauseCounts.ended hcounts
  case illegal =>
    have hexec : exec (.illegalFetch e w0 w1) s = .next (s.endClause e .illegal (s.countNow r) w0.toNat) := by
      show execIllegalFetch e w0 w1 s = _
      simp [execIllegalFetch, hrun, hdec]
    have hends := endClause_ends hrun .illegal (s.countNow r) w0.toNat
    obtain ⟨clk, count, hcounts⟩ := hends.counts
    exact ⟨_, hexec, hends.shows hc, by rw [hcounts]; rfl⟩
  case budget =>
    have hexec : exec (.clauseBudget e) s = .next (s.endClause e .budget r.budget 0) := by
      show execClauseBudget e s = _
      simp [execClauseBudget, hrun, hover]
    have hends := endClause_ends hrun .budget r.budget 0
    obtain ⟨clk, count, hcounts⟩ := hends.counts
    have hgroup := hends.group r.group
    rw [if_pos rfl] at hgroup
    exact ⟨_, hexec, hends.shows hc, by rw [hcounts]; rfl, by rw [hgroup]; rfl, by rw [hgroup]; rfl⟩

end Sys2Proof.Machine
end

section
/-! The SAF instructions (R132 to R134): what each does in its act clock, then the statement `Obligations.SafetyInstructions`. -/
namespace Sys2Proof.Machine

open State (Leaves)

/-! ### Folds -/

/-- What the step of each element establishes and every step keeps holds of all elements at the end of a fold. -/
theorem foldl_establishes {α σ : Type} {f : σ → α → σ} (Q : α → σ → Prop) (l : List α) (s : σ) (hset : ∀ u, ∀ a ∈ l, Q a (f u a))
    (hkeep : ∀ u a b, Q b u → Q b (f u a)) : ∀ a ∈ l, Q a (l.foldl f s) := by
  induction l generalizing s with
  | nil => exact fun a ha => absurd ha (by simp)
  | cons b t ih =>
    intro a ha
    rcases List.mem_cons.1 ha with rfl | ha
    · exact foldl_keeps (Q a) f t _ (hset s a (by simp)) fun u c _ hu => hkeep u c a hu
    · exact ih _ (fun u c hc => hset u c (List.mem_cons_of_mem _ hc)) a ha

/-- One change made to each group of a list. -/
theorem group_foldl_updGroup (f : Group → Group) (l : List Nat) (hl : l.Nodup) (s : State) (q : Nat) :
    (l.foldl (fun s g => s.updGroup g f) s).group q = if q ∈ l then f (s.group q) else s.group q := by
  induction l generalizing s with
  | nil => rfl
  | cons g t ih =>
    obtain ⟨hg, ht⟩ := List.nodup_cons.1 hl
    rw [List.foldl_cons, ih ht, State.group_updGroup]
    by_cases hq : q = g
    · simp [hq, hg]
    · simp [hq]

/-! ### The instructions -/

/-- R132: clause `c` counts as a safety clause. -/
def Saf.withClause (q : Saf) (c : Nat) : Saf := { q with clauses := if q.clauses.contains c then q.clauses else q.clauses ++ [c] }

theorem contains_withClause (q : Saf) (c : Nat) : (q.withClause c).clauses.contains c = true := by
  unfold Saf.withClause
  dsimp only
  split
  · assumption
  · simp

/-- R132: on a lockstep pair a SAF instruction acts in its last clock. -/
theorem safIssue_locked {x : Guard} {s0 s : State} {r : Run} (hlock : r.lock = true) (h : s0.reaches x r 1 4 3 false s)
    (act : State → State) : s0.safIssue x act = (act (s.updSaf (·.withClause r.clause))).retired x.e 4 1 := by
  have ⟨⟨hrun, _⟩, _⟩ := h
  have hextra : s0.lockExtra x.e = 2 := by simp [State.lockExtra, hrun, hlock]
  simp only [State.safIssue, hrun, hlock, if_true, hextra]
  exact issueAt_pass h rfl

/-- R132: elsewhere it is an undefined encoding. -/
theorem safIssue_unlocked {x : Guard} {s : State} {r : Run} (hlock : r.lock = false) (h : s.executes x r 1 1) (act : State → State) :
    s.safIssue x act = s.endClause x.e .illegal (r.count + 1) (s.fetched x.e) := by
  obtain ⟨hrun, hwait, -⟩ := h
  simp only [State.safIssue, hrun, hlock]
  exact issue_illegal hrun hwait rfl _

theorem safIssue_unlocked_results {x : Guard} {s : State} {r : Run} (hlock : r.lock = false) (h : s.executes x r 1 1)
    (act : State → State) : ((s.safIssue x act).eng x.e).run = none ∧ ((s.safIssue x act).counts r.clause).last = 4 := by
  rw [safIssue_unlocked hlock h]
  have hends := endClause_ends h.1 .illegal (r.count + 1) (s.fetched x.e)
  have hrun := hends.running x.e
  rw [if_pos rfl] at hrun
  obtain ⟨clk, count, hcounts⟩ := hends.counts
  exact ⟨congrArg Prod.fst hrun, by rw [hcounts]; rfl⟩

/-- R88: a staged output of the running execution. -/
theorem stageOut_eq {s : State} {e : Nat} {r : Run} (hrun : (s.eng e).run = some r) (item : StagedItem) :
    s.stageOut e item = s.updGroup r.group (fun x => { x with
      staged := x.staged ++ [{ clause := r.clause, disp := r.disp, item := item, ord := x.stageNo }]
      stageNo := x.stageNo + 1 }) := by
  simp only [State.stageOut, hrun]

theorem staged_stageOut {s : State} {e : Nat} {r : Run} (hrun : (s.eng e).run = some r) (item : StagedItem) :
    ((s.stageOut e item).group r.group).staged
      = (s.group r.group).staged ++ [{ clause := r.clause, disp := r.disp, item := item, ord := (s.group r.group).stageNo }] := by
  rw [stageOut_eq hrun, State.group_updGroup_same]

/-! ### SAF.OFF -/

/-- R133: the named safety outputs switched off. -/
def State.outsOff (s : State) (m : Word) : State :=
  (List.range 16).foldl (fun s k => if bit m k && s.isSafOut k then s.safOutOff k else s) s

/-- R134: the mask joins that of every group. -/
def State.maskOff (s : State) (m : Word) : State :=
  (List.range 16).foldl (fun s g => s.updGroup g (fun q => { q with offMask := q.offMask ||| BitVec.ofNat 32 (fld m 15 0) })) s

theorem outsOff_leaves {β : Type} {p : State → β} (h : ∀ (u : State) k, Leaves p u (u.safOutOff k)) (s : State) (m : Word) :
    Leaves p s (s.outsOff m) := .foldl fun u k => .ite (h u k) (.refl u)

theorem isSafOut_safOutOff (s : State) (k q : Nat) : (s.safOutOff k).isSafOut q = s.isSafOut q :=
  congrArg (bit · 31) (State.reg_setReg_ne s _ (by simp only [Reg.SAF_OCFG, Reg.SAF_STAT]; omega))

/-- A bit that reads 0 still does when another is cleared. -/
theorem regB_clrBitR_of_clear {s : State} {a b j : Nat} (i : Nat) (h : s.regB b j = false) : (s.clrBitR a i).regB b j = false := by
  rw [State.regB, State.clrBitR, State.reg_setReg]
  split
  case isTrue hb =>
    subst hb
    rw [bit_andNot, show bit (s.reg b) j = false from h]; rfl
  case isFalse => exact h

/-- R133: a named safety output is off afterwards. -/
theorem regB_outsOff {s : State} {m : Word} {k : Nat} (hk : k < 16) (hm : bit m k = true) (hout : s.isSafOut k = true) :
    (s.outsOff m).regB Reg.SAF_STAT k = false := by
  have hall := foldl_establishes (f := fun (u : State) k => if bit m k && u.isSafOut k then u.safOutOff k else u)
    (fun k u => bit m k = true → u.isSafOut k = true → u.regB Reg.SAF_STAT k = false) (List.range 16) s ?set ?keep
  case set =>
    intro u k hk hm hout
    have hk := List.mem_range.1 hk
    split at hout
    case isTrue h => rw [if_pos h]; exact (regB_clrBitR u (by omega) _ _ _).trans (if_pos ⟨rfl, rfl⟩)
    case isFalse h => simp [hm, hout] at h
  case keep =>
    intro u a b hu hm hout
    split at hout
    case isTrue h =>
      rw [if_pos h]
      rw [isSafOut_safOutOff] at hout
      exact regB_clrBitR_of_clear a (hu hm hout)
    case isFalse h => rw [if_neg h]; exact hu hm hout
  have hkept : (s.outsOff m).isSafOut k = s.isSafOut k :=
    (outsOff_leaves (p := fun u => u.isSafOut k) (fun u q => ⟨isSafOut_safOutOff u q k⟩) s m).eq
  exact hall k (List.mem_range.2 hk) hm (hkept.trans hout)

theorem exec_safOff {x : Guard} {wa : RegNo} {s : State} :
    exec (.safOff x wa) s = .next (s.safIssue x fun s => (s.outsOff (s.w x.e wa)).maskOff (s.w x.e wa)) := rfl

/-- R133, R134: SAF.OFF on the state `s` of its act clock. -/
theorem safOff_results (s : State) (m : Word) :
    let t := (s.outsOff m).maskOff m
    (∀ g < 16, (t.group g).offMask = (s.group g).offMask ||| BitVec.ofNat 32 (fld m 15 0)) ∧ t.saf.clauses = s.saf.clauses
      ∧ (∀ k < 16, bit m k = true → s.isSafOut k = true → t.regB Reg.SAF_STAT k = false) := by
  have hmask : Leaves (fun u => (u.saf, u.regs)) (s.outsOff m) ((s.outsOff m).maskOff m) := .foldl fun _ _ => ⟨rfl⟩
  obtain ⟨hsaf, hregs⟩ := Prod.mk.inj hmask.eq
  refine ⟨fun g hg => ?_, ?_, fun k hk hm hout => ?_⟩
  · have hgroup : (s.outsOff m).group g = s.group g := (outsOff_leaves (p := fun u => u.group g) (fun _ _ => ⟨rfl⟩) s m).eq
    rw [State.maskOff, group_foldl_updGroup _ _ List.nodup_range, if_pos (List.mem_range.2 hg), hgroup]
  · rw [hsaf]
    exact (outsOff_leaves (p := fun u => u.saf.clauses) (fun _ _ => ⟨rfl⟩) s m).eq
  · rw [State.regB, State.reg, hregs]
    exact regB_outsOff hk hm hout

/-- Settles O23: on a lockstep pair each acts in its last clock, elsewhere the clause ends ILLEGAL. -/
theorem safetyInstructions : Obligations.SafetyInstructions := by
  intro x wa s0 s r
  refine ⟨fun hlock hreach => ?locked, fun hlock hex => ?unlocked⟩
  case unlocked =>
    exact ⟨⟨_, rfl, safIssue_unlocked_results hlock hex _⟩, ⟨_, rfl, safIssue_unlocked_results hlock hex _⟩⟩
  case locked =>
    intro stages
    have hrun : ((s.updSaf (·.withClause r.clause)).eng x.e).run = some r := (reaches_executes hreach).1
    have hstages : ∀ item, stages (((s.updSaf (·.withClause r.clause)).stageOut x.e item).retired x.e 4 1) item := fun item => by
      simp only [stages, group_retired]
      exact staged_stageOut hrun item
    have hissue : ∀ act, Host.Outcome.next (s0.safIssue x act)
        = (Host.Outcome.next ((act (s.updSaf (·.withClause r.clause))).retired x.e 4 1) : Host.Outcome State Fault Refusal) :=
      fun act => congrArg Host.Outcome.next (safIssue_locked hlock hreach act)
    refine ⟨?off, ⟨_, hissue _, hstages (.safOn (s.w x.e wa))⟩, ⟨_, hissue _, hstages (.safRst (s.w x.e wa))⟩, ?getin⟩
    case off =>
      obtain ⟨hmask, hclauses, hoff⟩ := safOff_results (s.updSaf (·.withClause r.clause)) (s.w x.e wa)
      refine ⟨_, exec_safOff.trans (hissue _), fun g hg => ?_, ?_, fun k hk hm hout => ?_⟩
      · rw [group_retired]; exact hmask g hg
      · rw [saf_retired]
        exact (congrArg (·.contains r.clause) hclauses).trans (contains_withClause s.saf r.clause)
      · rw [State.regB, reg_retired]; exact hoff k hk hm hout
    case getin =>
      refine ⟨_, hissue _, fun hwa => ?_⟩
      have hne : wa.val ≠ 0 := fun h => hwa (Fin.ext h)
      rw [w_retired]
      simp only [hrun, w_setW, hne, ne_eq, not_false_eq_true, and_self, if_true]

end Sys2Proof.Machine
end

section
/-! Staged outputs and LOG (R88, R122, R127 to R131): an output whose operands pass is staged in the act clock, a record of the
program enters the intake or is refused; then the statement `Obligations.StagedOutputsAndLogs`. -/
namespace Sys2Proof.Machine

open State (Leaves)

/-! ### What an output is staged from -/

/-- The run of engine `e`, the groups, and the bytes of the stores. -/
def State.staging (e : Nat) (s : State) : Option Run × Sched × (List Host.Cell × List Host.Cell) := ((s.eng e).run, s.sched, s.stores)

theorem record_leaves_staging (e : Nat) (s : State) (n : RecName) (el : Nat) (items : List Nat) :
    Leaves (State.staging e) s (s.record n el items) :=
  ⟨by simp only [State.staging, eng_record, sched_record, (stores_of_banks (record_leaves_banks s n el items)).eq]⟩

theorem esfIf_leaves_staging (s : State) (e : Nat) (c : Bool) (b : EsfBit) : Leaves (State.staging e) s (s.esfIf e c b) := by
  cases c
  · exact .refl s
  · exact ⟨by simp only [State.staging, esfIf_true, eng_esf]; rfl⟩

/-- R68, R122: a bank operand read by engine `e`: the bank is in use, and the words in error it meets are reported. -/
def State.readOperand (s : State) (e b a n : Nat) (upset : List Nat) : State :=
  let r := ((s.touch b).markUpset a n upset).noteParity a n
  r.1.esfIf e r.2 .parity

theorem readOperand_leaves_staging (s : State) (e b a n : Nat) (upset : List Nat) :
    Leaves (State.staging e) s (s.readOperand e b a n upset) :=
  .after (esfIf_leaves_staging _ _ _ _) (.after (noteParity_leaves (fun _ _ => ⟨rfl⟩) (fun _ _ _ => ⟨rfl⟩) (fun _ _ _ => ⟨rfl⟩)
    (record_leaves_staging e) _ _ _) (.after (.ite (.refl _) ⟨rfl⟩) ⟨rfl⟩))

/-- The output that engine `e` stages in a state that leaves what it is staged from, and the answer in the predicate. -/
theorem staged_results {s u : State} {e pd : Nat} {r : Run} (hu : Leaves (State.staging e) s u) (hrun : (s.eng e).run = some r)
    (hpd : pd ≠ 0) (item : StagedItem) (n words : Nat) :
    let t := ((u.stageOut e item).setP e pd true).retired e n words
    (t.eng e).p pd = true
      ∧ (t.group r.group).staged
          = (s.group r.group).staged ++ [{ clause := r.clause, disp := r.disp, item := item, ord := (s.group r.group).stageNo }]
      ∧ sameBytes s t := by
  obtain ⟨hr, hs, hb⟩ : (u.eng e).run = (s.eng e).run ∧ u.sched = s.sched ∧ u.stores = s.stores := by
    simpa only [State.staging, Prod.mk.injEq] using hu.eq
  have hrun' : (u.eng e).run = some r := hr.trans hrun
  have hgroup : u.group r.group = s.group r.group := by rw [State.group, hs, State.group]
  intro t
  refine ⟨?_, ?_, ?_⟩
  · simp only [t, p_retired, p_setP, hpd, ne_eq, not_false_eq_true, and_self, if_true]
  · have hset : ∀ v : State, (v.setP e pd true).group r.group = v.group r.group := fun _ => rfl
    simp only [t, group_retired, hset]
    rw [staged_stageOut hrun', hgroup]
  · have hstage : Leaves State.stores u (u.stageOut e item) := by
      rw [stageOut_eq hrun']
      exact ⟨rfl⟩
    exact sameBytes_of_leaves (.after (retired_leaves_stores _ _ _ _) (.after (updEng_leaves_stores _ _ _) (.after hstage ⟨hb⟩)))

/-- R122: the check of a bank operand that is aligned, fits its bank and is the engine's own. -/
theorem checkOperand_passes {s : State} {w : Word} {n o : Nat} (halign : addrOff w % 4 = 0) (hfits : addrOff w + n ≤ 32768)
    (hown : s.owner (addrBank w) = o) : s.checkOperand w n o = { align := false, len := false, own := false } := by
  have : ¬ 32768 < addrOff w + n := by omega
  simp [State.checkOperand, halign, hown, this]

theorem bankWords_of_leaves {s t : State} (h : Leaves State.stores s t) (a n : Nat) : t.bankWords a n = s.bankWords a n := by
  have hcells : t.banks.cells = s.banks.cells := congrArg Prod.fst h.eq
  simp only [State.bankWords, State.bankNum, hcells]

theorem cells_of_leaves {s t : State} (h : Leaves State.stores s t) : t.banks.cells = s.banks.cells := congrArg Prod.fst h.eq

theorem bankWords_head (s : State) (a n : Nat) : (s.bankWords a (n + 1)).head?.getD 0#32 = wd (s.bankNum a 4) := by
  simp [State.bankWords, List.range_succ_eq_map]

theorem runGroup_eq {s : State} {e : Nat} {r : Run} (hrun : (s.eng e).run = some r) : s.runGroup e = r.group := by
  rw [State.runGroup, hrun]; rfl

theorem noteParity_touched_leaves_stores (s : State) (b a n : Nat) (upset : List Nat) :
    Leaves State.stores s (((s.touch b).markUpset a n upset).noteParity a n).1 :=
  .after (noteParity_leaves_stores _ a n) (.after (markUpset_leaves_stores _ a n upset) (touch_leaves_stores s b))

/-! ### The instructions whose operands pass -/

section
variable {x : Guard} {pd : PredNo} {wa wb : RegNo} {q : BankUse} {s0 s : State} {r : Run} {w : Word} {n : Nat}

/-- The registers of the engine in the act clock are those of the issue. -/
theorem w_reaches {words n lead : Nat} {rd : Bool} (h : s0.reaches x r words n lead rd s) (k : Nat) : s.w x.e k = s0.w x.e k := by
  obtain ⟨-, -, -, rfl⟩ := h
  rw [State.w, State.eng_acting, eng_advanceTo]; rfl

/-- R127: LPE.SWAP of a swap that fits. -/
theorem exec_lpeSwap_reaches (hw : s.w x.e wa = w) (hpos : 0 < n) (hn : n ≤ 64) {cyc : Nat} (hcyc : cyc = 2 + s0.lockExtra x.e)
    (h : s0.reaches x r 1 cyc (cyc - 1) false s) (hfits : s.swapFits r.group (.swap false (fld w 5 0) n) = true) :
    exec (.lpeSwap x pd wa n false) s0
      = .next (((s.stageOut x.e (.swap false (fld w 5 0) n)).setP x.e pd true).retired x.e cyc 1) := by
  subst hw hcyc
  have hwf : (decide (0 < n) && decide (n ≤ 64) && (!false || n == 1)) = true := by simp [hpos, hn]
  have hlead : 1 + s0.lockExtra x.e = 2 + s0.lockExtra x.e - 1 := by omega
  simp only [exec, execLpeSwap, hwf, hlead]
  rw [issueAt_pass h]
  simp only [runGroup_eq (reaches_executes h).1, hfits, Bool.false_eq_true, if_true, if_false]

/-- R128: MIR.PUT of a segment that fits. -/
theorem exec_mirPut_reaches (hw : s.w x.e wa = w) (hpos : 0 < n) (hn : n ≤ 4096) {cyc : Nat}
    (hcyc : cyc = 4 + ceilDiv n 4 + (s0.lockExtra x.e + s0.stallOf (addrBank w) q.stall)) (h : s0.reaches x r 1 cyc (cyc - 1) false s)
    (halign : addrOff w % 4 = 0) (hlen : addrOff w + 4 * n ≤ 32768) (hown : s.owner (addrBank w) = s.ownerOf x.e)
    (hfits : s.segmentFits r.group n = true) :
    let a := bankAddr (addrBank w) (addrOff w)
    exec (.mirPut x pd wa n q) s0 = .next ((((s.readOperand x.e (addrBank w) a (4 * n) q.upset).stageOut x.e
      (.mirror (BitVec.ofNat 32 (fld w 20 0) :: BitVec.ofNat 32 (n - 1) :: s.bankWords a n))).setP x.e pd true).retired x.e cyc 1) := by
  subst hw
  intro a
  have hwf : (decide (0 < n) && decide (n ≤ 4096)) = true := by simp [hpos, hn]
  have hwords := bankWords_of_leaves (noteParity_touched_leaves_stores s (addrBank (s.w x.e wa)) a (4 * n) q.upset) a n
  rw [← Nat.add_assoc] at hcyc
  simp only [exec, execMirPut, ← w_reaches h, hwf, ← hcyc, ← hwords]
  refine congrArg Host.Outcome.next (issueAt_pass h ((if_neg ?_).trans rfl))
  simp [checkOperand_passes halign hlen hown, halign, runGroup_eq (reaches_executes h).1, hfits, OperandCheck.ok]

/-- R129: TEL.SEND of a telegram that fits. -/
theorem exec_telSend_reaches (hw : s.w x.e wa = w) (hn : n ≤ 1024) {cyc : Nat}
    (hcyc : cyc = 5 + ceilDiv n 16 + (s0.lockExtra x.e + s0.stallOf (addrBank w) q.stall)) (h : s0.reaches x r 2 cyc (cyc - 1) false s)
    (halign : addrOff w % 4 = 0) (hlen : addrOff w + n ≤ 32768) (hown : s.owner (addrBank w) = s.ownerOf x.e)
    (hnormal : bit (s.w x.e wb) 16 = false) (hfits : s.telegramFits r.group (fld (s.w x.e wb) 15 0) n = true) :
    let a := bankAddr (addrBank w) (addrOff w)
    exec (.telSend x pd wa wb n q) s0 = .next ((((s.readOperand x.e (addrBank w) a n q.upset).stageOut x.e
      (.telegram (fld (s.w x.e wb) 15 0) (bit (s.w x.e wb) 16) (cellsGet s.banks.cells a n))).setP x.e pd true).retired x.e cyc 2) := by
  subst hw
  intro a
  have hwf : decide (n < 2048) = true := decide_eq_true (by omega)
  have hbytes := cells_of_leaves (noteParity_touched_leaves_stores s (addrBank (s.w x.e wa)) a n q.upset)
  rw [← Nat.add_assoc] at hcyc
  simp only [exec, execTelSend, ← w_reaches h, hwf, ← hcyc, ← hbytes]
  refine congrArg Host.Outcome.next (issueAt_pass h ((if_neg ?_).trans rfl))
  have : ¬ 1024 < n := by omega
  simp [checkOperand_passes halign hlen hown, runGroup_eq (reaches_executes h).1, hfits, hnormal, OperandCheck.ok, this]

/-- R130: TXQ of a frame of a length that FDF allows, within the quota. -/
theorem exec_txq_reaches (hw : s.w x.e wa = w) {cyc : Nat}
    (hcyc : cyc = 6 + (s0.lockExtra x.e + s0.stallOf (addrBank w) q.stall)) (h : s0.reaches x r 1 cyc (cyc - 1) false s)
    (halign : addrOff w % 4 = 0) (hlen : addrOff w + 72 ≤ 32768) (hown : s.owner (addrBank w) = s.ownerOf x.e)
    (hchan : (s.w x.e wb).toNat < 6) (hfdf : bit (s.bankWord (addrBank w) (addrOff w)) 30 = true)
    (hquota : s.canStaged r.group (s.w x.e wb).toNat < s.canQuota r.group (s.w x.e wb).toNat) :
    let a := bankAddr (addrBank w) (addrOff w)
    exec (.txq x pd wa wb q) s0 = .next ((((s.readOperand x.e (addrBank w) a 72 q.upset).stageOut x.e
      (.can (s.w x.e wb).toNat (s.bankWords a 18))).setP x.e pd true).retired x.e cyc 1) := by
  subst hw
  intro a
  rw [State.bankWord, ← bankWords_head s _ 17] at hfdf
  rw [← Nat.add_assoc] at hcyc
  simp only [exec, execTxq, ← w_reaches h, ← hcyc]
  refine congrArg Host.Outcome.next (issueAt_pass h ((if_neg ?_).trans rfl))
  have hle : ¬ s.canQuota r.group (s.w x.e wb).toNat ≤ s.canStaged r.group (s.w x.e wb).toNat := by omega
  have hin : ¬ 5 < (s.w x.e wb).toNat := by omega
  simp [checkOperand_passes halign hlen hown, runGroup_eq (reaches_executes h).1, hfdf, OperandCheck.ok, hle, hin]

end

/-! ### LOG -/

/-- R524: a record that enters leaves those of the intake in it. -/
theorem mem_intake_enter (z : EvRecord) (fuel : Nat) : ∀ (s : State) (part : Nat) (b : RecBody), z ∈ s.evr.intake →
    z ∈ (s.enter part b fuel).evr.intake := by
  induction fuel with
  | zero => exact fun _ _ _ h => h
  | succ fuel ih =>
    intro s part b h
    unfold State.enter
    extract_lets -lift +onlyGivenNames hit slot r src s1 s2
    have h2 : z ∈ s2.evr.intake := List.mem_append_left _ h
    clear_value s2 s1 r slot
    cases slot with
    | none =>
      dsimp only
      split <;> exact h2
    | some k =>
      dsimp only
      generalize State.intakePart _ false = o
      cases o with
      | some q => exact ih _ _ _ h2
      | none => exact h2

/-- R521, R524: the record itself enters the intake, under the next sequence number. -/
theorem exists_mem_intake_enter (s : State) (part : Nat) (b : RecBody) (fuel : Nat) :
    ∃ z ∈ (s.enter part b (fuel + 1)).evr.intake, z.seq = s.evr.nextSeq ∧ z.body = b := by
  unfold State.enter
  extract_lets -lift +onlyGivenNames hit slot r src s1 s2
  refine ⟨r, ?_, rfl, rfl⟩
  have h2 : r ∈ s2.evr.intake := List.mem_append_right _ (List.mem_singleton.2 rfl)
  clear_value s2 s1 r slot
  cases slot with
  | none =>
    dsimp only
    split <;> exact h2
  | some k =>
    dsimp only
    generalize State.intakePart _ false = o
    cases o with
    | some q => exact mem_intake_enter r fuel _ _ _ h2
    | none => exact h2

/-- R525: a record of LOG is taken while the shared part of the intake has room. -/
theorem accept_log_taken {s : State} (b : RecBody) (hopen : s.evr.closed = false)
    (hroom : (s.evr.intake.filter (fun z => z.part == 0)).length < 256) : s.accept true b = (s.enter 0 b 5, true) := by
  simp [State.accept, hopen, State.intakePart, hroom]

/-- R525: it is refused when that part is full. -/
theorem accept_log_refused {s : State} (b : RecBody) (hopen : s.evr.closed = false)
    (hfull : 256 ≤ (s.evr.intake.filter (fun z => z.part == 0)).length) :
    (s.accept true b).2 = false ∧ (s.accept true b).1.evr.intake = s.evr.intake := by
  have hroom : ¬ (s.evr.intake.filter (fun z => z.part == 0)).length < 256 := by omega
  have hpart : s.intakePart true = none := by simp [State.intakePart, hroom]
  simp only [State.accept, hopen, hpart]
  exact ⟨rfl, rfl⟩

theorem accept_leaves_stores (s : State) (isLog : Bool) (b : RecBody) : Leaves State.stores s (s.accept isLog b).1 := by
  have h : (s.accept isLog b).1.unrecorded.banks = s.unrecorded.banks := by rw [unrecorded_accept]
  exact stores_of_banks ⟨h⟩

/-- R131: LOG without a payload, in its act clock. -/
theorem exec_log_reaches {x : Guard} {pd : PredNo} {wa : RegNo} {c : Nat} {q : BankUse} {s0 s : State} {r : Run} (hc : c < 8192)
    (h : s0.reaches x r 1 (6 + s0.lockExtra x.e) (5 + s0.lockExtra x.e) false s) :
    let a := s.accept true (.program (0x8000 + c) (0xC000 + 256 * s.ownerOf x.e + r.clause) [])
    exec (.log x pd wa false c q) s0 = .next ((a.1.setP x.e pd a.2).retired x.e (6 + s0.lockExtra x.e) 1) := by
  intro a
  have hlead : 6 + s0.lockExtra x.e - 1 = 5 + s0.lockExtra x.e := by omega
  simp only [exec, execLog, Bool.false_eq_true, if_false, Nat.add_zero, hlead, decide_eq_true hc]
  refine congrArg Host.Outcome.next (issueAt_pass h ?_)
  simp only [(reaches_executes h).1, Bool.not_false, if_true]
  rfl

/-- Settles O22: each output is staged in its act clock; the intake takes a record of LOG or refuses it. -/
theorem stagedOutputsAndLogs : Obligations.StagedOutputsAndLogs := by
  refine ⟨?outputs, ?logs⟩
  case outputs =>
    intro x pd wa wb q s0 s r hpd w a wait acts stages ready
    have hpd : pd.val ≠ 0 := fun h => hpd (Fin.ext h)
    have hread : ∀ {words n : Nat}, acts words n → ∀ m cyc item, stages ((((s.readOperand x.e (addrBank w) a m q.upset).stageOut x.e
        item).setP x.e pd true).retired x.e cyc words) item := fun h m cyc item =>
      staged_results (readOperand_leaves_staging s x.e _ _ _ _) (reaches_executes h).1 hpd item cyc _
    refine ⟨fun n hpos hn h hfits => ?_, fun m hpos hm h hready hfits => ?_, fun n hn h hready hnormal hfits => ?_,
      fun h hready hchan hfdf hquota => ?_⟩
    · exact ⟨_, exec_lpeSwap_reaches rfl hpos hn rfl h hfits, staged_results (.refl s) (reaches_executes h).1 hpd _ _ _⟩
    · obtain ⟨halign, hlen, hown⟩ := hready
      exact ⟨_, exec_mirPut_reaches rfl hpos hm rfl h halign hlen hown hfits, hread h _ _ _⟩
    · obtain ⟨halign, hlen, hown⟩ := hready
      refine ⟨_, exec_telSend_reaches rfl hn rfl h halign hlen hown hnormal hfits, ?_⟩
      rw [hnormal]
      exact hread h _ _ _
    · obtain ⟨halign, hlen, hown⟩ := hready
      exact ⟨_, exec_txq_reaches rfl rfl h halign hlen hown hchan hfdf hquota, hread h _ _ _⟩
  case logs =>
    intro x pd wa c q s0 s r hpd hc h hopen
    have hpd : pd.val ≠ 0 := fun h => hpd (Fin.ext h)
    refine ⟨_, exec_log_reaches hc h, ?_, fun hempty => ?_, fun hfull => ?_⟩
    · exact sameBytes_of_leaves (.after (retired_leaves_stores _ _ _ _) (.after (updEng_leaves_stores _ _ _)
        (accept_leaves_stores s true _)))
    · rw [accept_log_taken _ hopen (by simp [hempty]), p_retired, evr_retired, p_setP, if_pos ⟨rfl, hpd⟩]
      exact ⟨rfl, exists_mem_intake_enter s 0 _ 4⟩
    · obtain ⟨hrefused, hintake⟩ := accept_log_refused (.program (0x8000 + c) (0xC000 + 256 * s.ownerOf x.e + r.clause) []) hopen hfull
      rw [p_retired, evr_retired, p_setP, if_pos ⟨rfl, hpd⟩]
      exact ⟨hrefused, hintake⟩

end Sys2Proof.Machine
end

section
/-! Route delivery (R43, R44, R580): an element of one word enters its ring, one of a route that is off is dropped; then the
statement `Obligations.RouteResults`. -/
namespace Sys2Proof.Machine

open State (Leaves)

/-- R4: the bytes of a number, and the number they make. -/
theorem ofBytesLE_bytesLE (k n : Nat) : ofBytesLE (bytesLE n k) = n % 256 ^ k := by
  induction k generalizing n with
  | zero => simp [bytesLE, ofBytesLE, Nat.mod_one]
  | succ k ih =>
    have hcons : bytesLE n (k + 1) = BitVec.ofNat 8 n :: bytesLE (n / 256) k := by
      simp only [bytesLE, List.range_succ_eq_map, List.map_cons, List.map_map, Nat.mul_zero, Nat.shiftRight_zero]
      refine congrArg _ (List.map_congr_left fun i _ => ?_)
      have : n >>> (8 * (i + 1)) = (n / 256) >>> (8 * i) := by
        rw [show 8 * (i + 1) = 8 + 8 * i by omega, Nat.shiftRight_add, Nat.shiftRight_eq_div_pow n 8]
      exact congrArg _ this
    rw [hcons, ofBytesLE, ih, BitVec.toNat_ofNat]
    change n % 256 + 256 * (n / 256 % 256 ^ k) = n % 256 ^ (k + 1)
    rw [Nat.pow_succ', Nat.mod_mul]

/-- A word stored in a bank reads back. -/
theorem bankWord_storeWords {s : State} (hcanon : s.Canonical) (b off : Nat) (w : Word) :
    (s.storeWords (bankAddr b off) [w]).bankWord b off = w := by
  have hput := cellsGet_cellsPut s.banks.cells (bankAddr b off) (bytesLE w.toNat 4) hcanon.1
  have hcells : (s.storeWords (bankAddr b off) [w]).banks.cells = cellsPut s.banks.cells (bankAddr b off) (bytesLE w.toNat 4) := rfl
  rw [State.bankWord, State.bankNum, hcells]
  refine (congrArg (fun l => wd (ofBytesLE l)) hput).trans ?_
  rw [ofBytesLE_bytesLE]
  exact BitVec.eq_of_toNat_eq (by simp only [wd, BitVec.toNat_ofNat]; omega)

/-- It changes no byte outside. -/
theorem byteAt_storeWords_outside {s : State} (hcanon : s.Canonical) {a q : Nat} (w : Word) (h : q < a ∨ a + 4 ≤ q) :
    (s.storeWords a [w]).byteAt q = s.byteAt q := by
  have hlen : (wordBytes [w]).length = 4 := rfl
  rw [State.storeWords, storeBytes_byteAt _ _ _ _ hcanon, if_neg (by omega)]

/-- R42, R580: a ring without a conflict has room for an element. -/
theorem ring_pos {rts rtb : Word} (hok : routeBad rts rtb = false) (hcls : fld rts 9 6 = 8) : 0 < fld rtb 12 0 := by
  simp only [routeBad, hcls, ringBad, beq_self_eq_true, Bool.true_and, Bool.or_eq_false_iff, beq_eq_false_iff_ne] at hok
  exact Nat.pos_of_ne_zero hok.2.1

/-- R43, R44: an element of one word whose owner and length pass is written at WPTR, which advances. -/
theorem routeDeliver_ring {s : State} {n : Nat} (w : Word) (hon : bit (s.reg (Reg.MBK_RTS n)) 31 = true)
    (hok : routeBad (s.reg (Reg.MBK_RTS n)) (s.reg (Reg.MBK_RTB n)) = false) (hcls : fld (s.reg (Reg.MBK_RTS n)) 9 6 = 8)
    (hown : s.owner (fld (s.reg (Reg.MBK_RTB n)) 31 26)
      = sourceOwner (fld (s.reg (Reg.MBK_RTS n)) 25 22) (fld (s.reg (Reg.MBK_RTS n)) 21 16)) :
    let rtb := s.reg (Reg.MBK_RTB n)
    let p := s.regF (Reg.MBK_RTC n) 12 0
    s.routeDeliver n [w] = ((s.touch (fld rtb 31 26)).storeWords (bankAddr (fld rtb 31 26) (4 * (fld rtb 25 13 + p))) [w]).setRegF
      (Reg.MBK_RTC n) 12 0 ((p + 1) % fld rtb 12 0) := by
  have hpos := ring_pos hok hcls
  simp only [State.routeDeliver, hon, hok, hcls, Bool.not_true, Bool.or_self, Bool.false_eq_true, if_false]
  exact if_pos ⟨hown, hpos⟩

/-- R44: an element of a route that is off is dropped. -/
theorem routeDeliver_off {s : State} {n : Nat} (el : List Word) (hoff : bit (s.reg (Reg.MBK_RTS n)) 31 = false) :
    s.routeDeliver n el = s.routeDrop n := by
  simp [State.routeDeliver, hoff]

/-- Settles O30: the first element that waits for the route goes into its ring, or is dropped when the route is off. -/
theorem routeResults : Obligations.RouteResults := by
  intro n el rest s htake rts rtb p
  let u : State := { s with banks := { s.banks with routeQ := rest } }
  have hexec : exec (.routeDelivery n) s = .next (u.routeDeliver n el) := by
    simp only [exec, execRouteDelivery, htake, u]
  refine ⟨fun w hel hcanon hon hok hcls hown hp => ⟨_, hexec, ?_⟩, fun hoff => ⟨_, hexec, ?_⟩⟩
  · subst hel
    have hu : (u.touch (fld rtb 31 26)).Canonical := hcanon
    have hlen : fld rtb 12 0 ≤ 8191 := by
      have := Nat.mod_lt (rtb.toNat >>> 0) (show 0 < 2 ^ 13 by decide)
      simp only [fld, bitsOf]; omega
    rw [routeDeliver_ring (s := u) w hon hok hcls hown]
    refine ⟨rfl, bankWord_storeWords hu _ _ w, fun a ha => byteAt_storeWords_outside hu w ha, ?_⟩
    rw [regF_setRegF_same _ _ _ (by decide) (by decide)]
    have hnext : (p + 1) % fld rtb 12 0 < fld rtb 12 0 := Nat.mod_lt _ (by omega)
    exact Nat.mod_eq_of_lt (show (p + 1) % fld rtb 12 0 < 2 ^ (12 + 1 - 0) by omega)
  · rw [routeDeliver_off (s := u) el hoff]
    exact ⟨rfl, fun _ => ⟨rfl, rfl⟩, regF_setRegF_same _ _ _ (by decide) (by decide)⟩

end Sys2Proof.Machine
end

section
/-! What the blocks leave alone: engines, start-up and output groups. -/
namespace Sys2Proof.Machine

/-- The engines, what the start-up keeps, and the output groups. -/
def State.still (s : State) : SMap Engine × Boot × SMap Group := (s.engs, s.boot, s.sched.groups)

section
variable (s : State)

@[simp] theorem still_ite (c : Prop) [Decidable c] (a b : State) : (if c then a else b).still = if c then a.still else b.still :=
  apply_ite State.still c a b

/-- A fold leaves what every step leaves. -/
@[simp] theorem still_foldl {α : Type} {f : State → α → State} (h : ∀ u a, (f u a).still = u.still) (l : List α) :
    (l.foldl f s).still = s.still := by
  induction l generalizing s with
  | nil => rfl
  | cons a l ih => rw [List.foldl_cons, ih, h]

/-! ### Registers, records and the tables of the blocks

The proofs are `(rfl)`, not `rfl`: `simp` then rewrites with them under the binders of a fold too. -/

@[simp] theorem still_setReg (a v) : (s.setReg a v).still = s.still := (rfl)
@[simp] theorem still_setRegF (a hi lo v) : (s.setRegF a hi lo v).still = s.still := (rfl)
@[simp] theorem still_updNow (f) : (s.updNow f).still = s.still := (rfl)
@[simp] theorem still_setBitR (a i) : (s.setBitR a i).still = s.still := (rfl)
@[simp] theorem still_clrBitR (a i) : (s.clrBitR a i).still = s.still := (rfl)
@[simp] theorem still_bump (a n) : (s.bump a n).still = s.still := (rfl)
@[simp] theorem still_drop (a n) : (s.drop a n).still = s.still := (rfl)
@[simp] theorem still_bumpF (a hi lo) : (s.bumpF a hi lo).still = s.still := (rfl)
@[simp] theorem still_emit (o) : (s.emit o).still = s.still := (rfl)
@[simp] theorem still_storeWords (a ws) : (s.storeWords a ws).still = s.still := (rfl)
@[simp] theorem still_touch (b) : (s.touch b).still = s.still := (rfl)
@[simp] theorem still_setOwner (b o) : (s.setOwner b o).still = s.still := (rfl)
@[simp] theorem still_setDma (n c) : (s.setDma n c).still = s.still := (rfl)
@[simp] theorem still_markBank (b t) : (s.markBank b t).still = s.still := (rfl)
@[simp] theorem still_unmarkTag (t) : (s.unmarkTag t).still = s.still := (rfl)
@[simp] theorem still_updCounts (c f) : (s.updCounts c f).still = s.still := (rfl)
@[simp] theorem still_updAxis (n f) : (s.updAxis n f).still = s.still := (rfl)
@[simp] theorem still_updField (f) : (s.updField f).still = s.still := (rfl)
@[simp] theorem still_updTb (f) : (s.updTb f).still = s.still := (rfl)
@[simp] theorem still_updPair (f) : (s.updPair f).still = s.still := (rfl)
@[simp] theorem still_updSaf (f) : (s.updSaf f).still = s.still := (rfl)
@[simp] theorem still_updSlot (n f) : (s.updSlot n f).still = s.still := (rfl)
@[simp] theorem still_updCan (n f) : (s.updCan n f).still = s.still := (rfl)
@[simp] theorem still_updChain (c f) : (s.updChain c f).still = s.still := (rfl)
@[simp] theorem still_updFus (f) : (s.updFus f).still = s.still := (rfl)
@[simp] theorem still_updGnb (f) : (s.updGnb f).still = s.still := (rfl)
@[simp] theorem still_updTel (k f) : (s.updTel k f).still = s.still := (rfl)
@[simp] theorem still_updSer (k f) : (s.updSer k f).still = s.still := (rfl)
@[simp] theorem still_updEnc (e f) : (s.updEnc e f).still = s.still := (rfl)

@[simp] theorem still_record (n : RecName) (el : Nat) (items : List Nat) : (s.record n el items).still = s.still := by
  simp only [State.still, engs_record, boot_record, sched_record]

@[simp] theorem still_putBitR (a i b) : (s.putBitR a i b).still = s.still := by simp [State.putBitR]

end

/-! ### Ready clauses, the pair's authority and the safety block -/

section
variable (s : State)

@[simp] theorem still_makeReady (c t) : (s.makeReady c t).still = s.still := by
  unfold State.makeReady
  split
  · rfl
  · split <;> rfl

@[simp] theorem still_blockEvent (cls idx) : (s.blockEvent cls idx).still = s.still := by simp [State.blockEvent]

@[simp] theorem still_noteBoth : s.noteBoth.still = s.still := (rfl)

@[simp] theorem still_restate : s.restate.still = s.still := by simp [State.restate]

@[simp] theorem still_safOutOff (k) : (s.safOutOff k).still = s.still := (rfl)

@[simp] theorem still_enterSafe (f c) : (s.enterSafe f c).still = s.still := by simp [State.enterSafe]

@[simp] theorem still_redegrade : s.redegrade.still = s.still := by
  refine still_foldl s (fun u f => ?_) _
  dsimp only
  split <;> simp

@[simp] theorem still_outputFault (k c) : (s.outputFault k c).still = s.still := by simp [State.outputFault]

@[simp] theorem still_linkFault : s.linkFault.still = s.still := by simp [State.linkFault]

@[simp] theorem still_syncEnables : s.syncEnables.still = s.still := by simp [State.syncEnables]

@[simp] theorem still_gainHold : s.gainHold.still = s.still := by simp [State.gainHold]

@[simp] theorem still_loseHold : s.loseHold.still = s.still := by simp [State.loseHold]

@[simp] theorem still_evalPair (k) : (s.evalPair k).still = s.still := by simp [State.evalPair]

@[simp] theorem still_contactFault (n) : (s.contactFault n).still = s.still := by simp [State.contactFault]

@[simp] theorem still_publishSafRst (m) : (s.publishSafRst m).still = s.still := by simp [State.publishSafRst]

@[simp] theorem still_publishSafOn (m off) : (s.publishSafOn m off).still = s.still := by simp [State.publishSafOn]

end

end Sys2Proof.Machine
end

section
/-! The parts of a clock that leave the engines, the queue and the groups still, continued. -/
namespace Sys2Proof.Machine

section
variable (s : State)

/-! ### Time, banks and transfers -/

@[simp] theorem still_noSource : s.noSource.still = s.still := by simp [State.noSource]

@[simp] theorem still_useSource (c) : (s.useSource c).still = s.still := by simp [State.useSource, State.endHoldover]

@[simp] theorem still_chooseSource : s.chooseSource.still = s.still := by simp [State.chooseSource]

@[simp] theorem still_ptpHook (ports) : (s.ptpHook ports).still = s.still := by simp [State.ptpHook, State.ptpDecide, State.updPtp]

@[simp] theorem still_startWake (b) : (s.startWake b).still = s.still := by
  unfold State.startWake
  split <;> rfl

@[simp] theorem still_passBank (b o) : (s.passBank b o).still = s.still := by
  simp [State.passBank]

@[simp] theorem still_dmaReport (ch) : (s.dmaReport ch).still = s.still := by simp [State.dmaReport]

@[simp] theorem still_dmaStop (ch) : (s.dmaStop ch).still = s.still := by simp [State.dmaStop]

@[simp] theorem still_dmaRefused (ch g) : (s.dmaRefused ch g).still = s.still := by simp [State.dmaRefused]

@[simp] theorem still_dmaFullStop (g) : (s.dmaFullStop g).still = s.still := by simp [State.dmaFullStop]

/-! ### Channels, chains and slots -/

@[simp] theorem still_canRingStat (n) : (s.canRingStat n).still = s.still := (rfl)

@[simp] theorem still_canPut (n r) : (s.canPut n r).still = s.still := by simp [State.canPut]

@[simp] theorem still_canRecord (n r) : (s.canRecord n r).still = s.still := by simp [State.canRecord]

@[simp] theorem still_canEnd (n e st c) : (s.canEnd n e st c).still = s.still := by simp [State.canEnd]

@[simp] theorem still_canPublish (g q n im) : (s.canPublish g q n im).still = s.still := by simp [State.canPublish]

@[simp] theorem still_canStale (g) : (s.canStale g).still = s.still := by simp [State.canStale]

@[simp] theorem still_canConfigured (n was) : (s.canConfigured n was).still = s.still := by simp [State.canConfigured, State.canOff]

@[simp] theorem still_canRingNew (n) : (s.canRingNew n).still = s.still := (rfl)

@[simp] theorem still_mainsInvalid : s.mainsInvalid.still = s.still := (rfl)

@[simp] theorem still_mainsStart : s.mainsStart.still = s.still := by simp [State.mainsStart]

@[simp] theorem still_chainInvalid (c) : (s.chainInvalid c).still = s.still := by simp [State.chainInvalid]

@[simp] theorem still_chainStart (c) : (s.chainStart c).still = s.still := by simp [State.chainStart]

@[simp] theorem still_publishFirSwap (c a) : (s.publishFirSwap c a).still = s.still := by simp [State.publishFirSwap]

@[simp] theorem still_chainFault (c k) : (s.chainFault c k).still = s.still := by simp [State.chainFault]

@[simp] theorem still_publishLoop (c v) : (s.publishLoop c v).still = s.still := by
  refine (rfl : _ = State.still (ite _ _ _)).trans ?_
  simp

@[simp] theorem still_slotStat (n) : (s.slotStat n).still = s.still := (rfl)

@[simp] theorem still_startAdjust : s.startAdjust.still = s.still := by simp [State.startAdjust]

@[simp] theorem still_skipSamples (n p) : (s.skipSamples n p).still = s.still := by simp [State.skipSamples, State.skipSample]

@[simp] theorem still_loopSnapshot (g) : (s.loopSnapshot g).still = s.still := by simp [State.loopSnapshot]

@[simp] theorem still_serStatus (k st) : (s.serStatus k st).still = s.still := by cases st <;> simp [State.serStatus]

@[simp] theorem still_serEnd (k m st) : (s.serEnd k m st).still = s.still := by simp [State.serEnd]

@[simp] theorem still_serPublish (k g v) : (s.serPublish k g v).still = s.still := by
  unfold State.serPublish
  extract_lets t
  split
  · exact still_serStatus _ _ _
  · split
    · rfl
    · exact still_serStatus _ _ _

@[simp] theorem still_serStale (g) : (s.serStale g).still = s.still := by simp [State.serStale]

@[simp] theorem still_serOff (k) : (s.serOff k).still = s.still := by simp [State.serOff]

@[simp] theorem still_encEnable (e) : (s.encEnable e).still = s.still := by simp [State.encEnable, State.encValid]

@[simp] theorem still_refreshInputs : s.refreshInputs.still = s.still := (rfl)

/-! ### Fusion and baseband -/

@[simp] theorem still_fusStop : s.fusStop.still = s.still := (rfl)

@[simp] theorem still_fusStart : s.fusStart.still = s.still := (rfl)

@[simp] theorem still_fusionCapture (g) : (s.fusionCapture g).still = s.still := by simp [State.fusionCapture]

@[simp] theorem still_navBegin (n b) : (s.navBegin n b).still = s.still := (rfl)

@[simp] theorem still_navFullStop (c g) : (s.navFullStop c g).still = s.still := by simp [State.navFullStop]

@[simp] theorem still_acqStop : s.acqStop.still = s.still := by
  unfold State.acqStop
  split
  · rfl
  · simp [State.acqEnd, State.acqResult]

@[simp] theorem still_setChan (c st) : (s.setChan c st).still = s.still := (rfl)

/-! ### Links, telegrams and the pair -/

@[simp] theorem still_publishTelegram (st sf au q t l pl) : (s.publishTelegram st sf au q t l pl).still = s.still := by
  simp [State.publishTelegram]

@[simp] theorem still_sendControl (c g t q a r) : (s.sendControl c g t q a r).still = s.still := by
  simp [State.sendControl, State.sendBoth, State.sendFrame, State.updLane]

@[simp] theorem still_startHandover (r) : (s.startHandover r).still = s.still := by simp [State.startHandover]

@[simp] theorem still_startupRequest : s.startupRequest.still = s.still := by simp [State.startupRequest, State.request]

@[simp] theorem still_unhealthyStop : s.unhealthyStop.still = s.still := by simp [State.unhealthyStop]

@[simp] theorem still_handoverDone (r) : (s.handoverDone r).still = s.still := by simp [State.handoverDone]

@[simp] theorem still_placeEpoch (e) : (s.placeEpoch e).still = s.still := by simp [State.placeEpoch]

@[simp] theorem still_mirrorStop (g q pos h regs outs) : (s.mirrorStop g q pos h regs outs).still = s.still := by
  simp [State.mirrorStop, State.updEpochs]

@[simp] theorem still_txnDecide (g) : (s.txnDecide g).still = s.still := by
  unfold State.txnDecide
  split
  · rfl
  · split
    · rfl
    · dsimp only
      split
      · rfl
      · simp [State.setTxn]

@[simp] theorem still_txnPrepare (g q ok h l) : (s.txnPrepare g q ok h l).still = s.still := by
  unfold State.txnPrepare
  split
  · rfl
  · simp [State.setTxn, State.txStat]

@[simp] theorem still_txnEnd (g) : (s.txnEnd g).1.still = s.still := by
  unfold State.txnEnd
  split
  · rfl
  · split
    · rfl
    · dsimp only
      split <;> simp [State.txStat]

@[simp] theorem still_linkDown (g) : (s.linkDown g).still = s.still := by
  unfold State.linkDown
  dsimp only
  split <;> simp

end

end Sys2Proof.Machine
end

section
/-! What a commit leaves alone (R34): the engines, what the start-up keeps, and of a group all but its timing. -/
namespace Sys2Proof.Machine

/-- A group without its timing: what a commit of the group's registers does not move. -/
def Group.body (x : Group) : Group :=
  { x with next := 0, prev := 0, due := false, forcedInCycle := false, trigNext := [], elapsed := 0 }

/-- The engines, what the start-up keeps, and the groups without their timing. -/
def State.kept (s : State) : SMap Engine × Boot × (Nat → Group) := (s.engs, s.boot, fun g => (s.group g).body)

theorem kept_of_still {s t : State} (h : t.still = s.still) : t.kept = s.kept := by
  simp only [State.still, Prod.mk.injEq] at h
  obtain ⟨hengs, hboot, hgroups⟩ := h
  simp only [State.kept, State.group, hengs, hboot, hgroups]

/-- What only moves a group's timing. -/
theorem kept_updGroup (s : State) (g : Nat) {f : Group → Group} (h : (f (s.group g)).body = (s.group g).body) :
    (s.updGroup g f).kept = s.kept := by
  have hgroup : ∀ q, ((s.updGroup g f).group q).body = (s.group q).body := fun q => by
    rw [State.group_updGroup]
    split
    case isTrue hq => rw [hq, h]
    case isFalse => rfl
  simp only [State.kept, hgroup]
  rfl

@[simp] theorem kept_ite (c : Prop) [Decidable c] (a b : State) : (if c then a else b).kept = if c then a.kept else b.kept :=
  apply_ite State.kept c a b

/-- A fold leaves what every step leaves. -/
theorem kept_foldl {α : Type} {f : State → α → State} (h : ∀ u a, (f u a).kept = u.kept) (l : List α) (s : State) :
    (l.foldl f s).kept = s.kept := by
  induction l generalizing s with
  | nil => rfl
  | cons a l ih => rw [List.foldl_cons, ih, h]

section
variable (old s : State)

/-! ### The hooks of SCH and MBK -/

theorem kept_armGroup (g : Nat) : (s.armGroup g).kept = s.kept := kept_updGroup s g rfl

theorem kept_groupHook (g : Nat) : (State.groupHook old s g).kept = s.kept := by
  have helapsed : (if enabledNow old s (Reg.SCH_GAX g) then s.updGroup g (fun x => { x with elapsed := s.tb.el }) else s).kept = s.kept := by
    rw [kept_ite, kept_updGroup s g rfl, ite_self]
  unfold State.groupHook
  extract_lets t
  split
  · exact (kept_armGroup t g).trans helapsed
  · exact helapsed

theorem kept_triggerHook (c : Nat) : (State.triggerHook old s c).kept = s.kept := by
  unfold State.triggerHook
  extract_lets g same per next
  rw [kept_ite, kept_updGroup s g rfl, ite_self]

theorem kept_clauseHook (c : Nat) : (State.clauseHook old s c).kept = s.kept := by
  rw [← kept_triggerHook old s c]
  exact (kept_ite _ _ _).trans (ite_self _)

theorem kept_hookCore (a : Nat) : (State.hookCore old s a).kept = s.kept := by
  unfold State.hookCore
  split
  · exact kept_of_still (by simp [State.routeHook])
  split
  · exact kept_of_still (by simp [State.axisHook])
  split
  · unfold State.compareHook
    extract_lets c b d
    split <;> rfl
  split
  · exact kept_groupHook old s _
  split
  · exact kept_clauseHook old s _
  · rfl

/-! ### The hooks of the other blocks -/

@[simp] theorem still_publishOut (v : Word) : (s.publishOut v).still = s.still := (rfl)

@[simp] theorem still_trigHook (k : Nat) : (s.trigHook k).still = s.still := (rfl)

@[simp] theorem still_chainHook (c : Nat) : (State.chainHook old s c).still = s.still := by simp [State.chainHook]

theorem still_hookLpe (a : Nat) : (State.hookLpe old s a).still = s.still := by simp [State.hookLpe, State.slotHook]

theorem still_hookMid (a : Nat) : (State.hookMid old s a).still = s.still := by
  unfold State.hookMid
  split
  · simp [State.fusHook]
  split
  · exact still_updGnb s fun x => { x with lastT := s.tb.t }
  split
  · simp
  split
  · simp
  split
  · simp [State.tmbHook]
  · simp

theorem still_hookPair (a : Nat) : (State.hookPair old s a).still = s.still := by
  simp [State.hookPair, State.mirrorHook, State.updEpochs, State.safOutHook, State.watchHook]

theorem still_hookPeri (a : Nat) : (State.hookPeri old s a).still = s.still := by
  simp [State.hookPeri]

theorem kept_hook (a : Nat) : (State.hook old s a).kept = s.kept := by
  unfold State.hook
  split
  · exact kept_hookCore old s a
  split
  · exact kept_of_still (still_hookLpe old s a)
  split
  · exact kept_of_still (still_hookMid old s a)
  split
  · exact kept_of_still (still_hookPair old s a)
  · exact kept_of_still (still_hookPeri old s a)

/-! ### The commit -/

@[simp] theorem still_storeStaged (a : Nat) (v : Word) : (s.storeStaged a v).still = s.still := by
  unfold State.storeStaged
  split <;> rfl

theorem still_wakeKept : s.wakeKept.still = s.still := by simp [State.wakeKept]

theorem still_axisSets (l : List PendWrite) : (s.axisSets l).still = s.still := by simp [State.axisSets]

/-- R34: what a commit leaves. -/
theorem kept_commitSet (l : List PendWrite) : (s.commitSet l).kept = s.kept := by
  unfold State.commitSet
  extract_lets m n
  have hn : n.kept = s.kept := kept_of_still (by simp [n, State.storeSet])
  rw [kept_of_still (still_axisSets _ _), kept_of_still (still_wakeKept _), kept_foldl fun u (w : PendWrite) => kept_hook s u w.addr, hn]

end

end Sys2Proof.Machine
end

section
/-! What the parts of a full stop that act outside the groups and the engines leave of the groups and of what runs. -/
namespace Sys2Proof.Machine

open State (Leaves)

/-! ### What runs, and the groups -/

/-- What each engine runs, and the output groups. -/
def State.cycles (s : State) : (Nat → Option Run × Option WaitCtx) × SMap Group := (s.running, s.sched.groups)

theorem cycles_of_eq {s t : State} (hengs : t.engs = s.engs) (hgroups : t.sched.groups = s.sched.groups) : t.cycles = s.cycles := by
  rw [State.cycles, running_of_engs hengs, hgroups]; rfl

theorem cycles_of_still {s t : State} (h : t.still = s.still) : t.cycles = s.cycles := by
  simp only [State.still, Prod.mk.injEq] at h
  exact cycles_of_eq h.1 h.2.2

/-- A fold leaves what every step leaves. -/
theorem cycles_foldl {α : Type} {f : State → α → State} (h : ∀ u a, (f u a).cycles = u.cycles) (l : List α) (s : State) :
    (l.foldl f s).cycles = s.cycles := by
  induction l generalizing s with
  | nil => rfl
  | cons a l ih => rw [List.foldl_cons, ih, h]

theorem cycles_updEng (s : State) (e : Nat) {f : Engine → Engine} (h : ∀ x, (f x).run = x.run ∧ (f x).wait = x.wait) :
    (s.updEng e f).cycles = s.cycles := by
  rw [State.cycles, running_updEng s e h]; rfl

theorem cycles_updSched (s : State) {f : Sched → Sched} (h : ∀ x, (f x).groups = x.groups) : (s.updSched f).cycles = s.cycles :=
  cycles_of_eq rfl (h s.sched)

theorem cycles_withLpe (s : State) (x : Loops) : ({ s with lpe := x } : State).cycles = s.cycles := cycles_of_eq rfl rfl

/-! ### The moves of step 7 (R158 to R161) -/

section
variable (s : State)

theorem cycles_accountTo (e c : Nat) : (s.accountTo e c).cycles = s.cycles := by
  obtain ⟨hrun, -, hgroups, -⟩ := accountTo_results s e c
  rw [State.cycles, hrun, hgroups]; rfl

@[simp] theorem still_moveClause (k d e) : (s.moveClause k d e).still = s.still := by
  have hhost : (s.updSched fun x => { x with host := mput x.host d e }).still = s.still := rfl
  simp [State.moveClause, hhost]

@[simp] theorem still_moveCluster (ep c dest) : (s.moveCluster ep c dest).1.still = s.still := by
  unfold State.moveCluster
  dsimp only
  split <;> simp

@[simp] theorem still_moveSlot (ep n l) : (s.moveSlot ep n l).still = s.still := by simp [State.moveSlot]

/-- A fold over a state and an answer leaves what every step leaves. -/
theorem still_foldl_fst {α β : Type} {f : State × β → α → State × β} (h : ∀ q a, (f q a).1.still = q.1.still) (l : List α) (q : State × β) :
    (l.foldl f q).1.still = q.1.still := by
  induction l generalizing q with
  | nil => rfl
  | cons a l ih => rw [List.foldl_cons, ih, h]

@[simp] theorem still_applyMoves (ep l) : (s.applyMoves ep l).1.still = s.still := by
  simp [State.applyMoves, still_foldl_fst]

@[simp] theorem still_updSched_replace (f : Sched → List Nat) : (s.updSched fun x => { x with replace := f x }).still = s.still := (rfl)

theorem still_replaceDue (ep) : (s.replaceDue ep).1.still = s.still := by
  unfold State.replaceDue
  refine (still_foldl_fst (fun q c => ?_) _ _).trans rfl
  dsimp only
  split
  · rfl
  · simp

theorem still_rescueClusters (ep lock) : (s.rescueClusters ep lock).1.still = s.still := by
  simp [State.rescueClusters]

theorem still_rescueSlots (ep) : (s.rescueSlots ep).1.still = s.still := by
  unfold State.rescueSlots
  dsimp only
  rw [still_foldl]
  · rfl
  · exact fun u m => still_moveSlot u ep m.1 m.2

theorem cycles_tallyStop : s.tallyStop.cycles = s.cycles := by
  unfold State.tallyStop
  extract_lets a n idle b
  have ha : a.cycles = s.cycles := by
    refine cycles_foldl (fun u e => ?_) _ _
    exact cycles_accountTo u e u.clk
  have hb : b.cycles = a.cycles := by
    refine cycles_foldl (fun u e => ?_) _ _
    exact cycles_updEng u e fun _ => ⟨rfl, rfl⟩
  clear_value b a
  split
  · exact ha
  · refine (cycles_updSched b ?_).trans (hb.trans ha)
    exact fun _ => rfl

theorem cycles_closePeriod : s.closePeriod.cycles = s.cycles := by
  unfold State.closePeriod
  extract_lets per shown held a b c
  have ha : a.cycles = s.cycles := by
    refine cycles_foldl (fun u e => ?_) _ _
    refine (cycles_updEng _ e ?_).trans (cycles_of_eq rfl rfl)
    exact fun _ => ⟨rfl, rfl⟩
  have hb : b.cycles = a.cycles := cycles_of_still (by simp [b])
  clear_value b a
  refine (cycles_updSched _ ?_).trans ((cycles_withLpe b _).trans (hb.trans ha))
  exact fun _ => rfl

theorem cycles_evaluatePlacement (g ep) : (s.evaluatePlacement g ep).1.cycles = s.cycles := by
  unfold State.evaluatePlacement
  extract_lets ctl a n l1 l2 r b l3
  split
  · rfl
  · have hb : b.still = a.still := still_applyMoves a ep _
    have hl : (l3.foldl (fun s m => s.moveSlot ep m.1 m.2) b).still = b.still := still_foldl b (fun u m => still_moveSlot u ep _ _) l3
    exact (cycles_of_still (hl.trans hb)).trans (cycles_closePeriod s)

theorem cycles_migrate (g) : (s.migrate g).cycles = s.cycles := by
  unfold State.migrate
  extract_lets t ep
  dsimp only
  rw [apply_ite State.cycles, cycles_of_still (still_setReg _ _ _), ite_self, cycles_evaluatePlacement,
    cycles_of_still (still_rescueSlots _ ep), cycles_of_still (still_rescueClusters _ ep true),
    cycles_of_still (still_rescueClusters _ ep false), cycles_of_still (still_replaceDue t ep)]
  exact cycles_tallyStop s

/-! ### The pair at a full stop (R353, R354, R375) -/

@[simp] theorem still_takeArmed : s.takeArmed.still = s.still := by simp [State.takeArmed]

theorem cycles_handoverOutcome (ok t) : (s.handoverOutcome ok t).cycles = s.cycles := by
  unfold State.handoverOutcome
  split
  · rfl
  split
  · rfl
  split
  · exact cycles_of_eq rfl rfl
  · refine (cycles_of_still (still_record _ _ _ _)).trans ?_
    exact cycles_of_eq rfl rfl

theorem cycles_releaseSeen : s.releaseSeen.cycles = s.cycles := by
  unfold State.releaseSeen
  split
  · rfl
  · exact (cycles_handoverOutcome _ _ _).trans (cycles_of_still (by simp))

theorem cycles_releaseStop (q) : (s.releaseStop q).cycles = s.cycles := by
  unfold State.releaseStop
  split
  · split
    · extract_lets a b
      have hb : b.cycles = s.cycles := cycles_of_still (by simp [b, a])
      split
      · exact (cycles_releaseSeen b).trans hb
      · exact hb
    · exact cycles_of_still (by simp)
  · exact cycles_of_still (by simp)

theorem cycles_pairStop (g q) : (s.pairStop g q).cycles = s.cycles := by
  unfold State.pairStop
  extract_lets r b a
  split
  · rfl
  · have hb : b.still = s.still := still_updPair s _
    have ha : a.cycles = s.cycles := cycles_of_still (by
      unfold a
      split
      · simp [hb]
      · rfl)
    clear_value a
    split
    · split
      · exact (cycles_releaseStop a r).trans ha
      · exact (cycles_of_still (still_startupRequest a)).trans ha
    · exact ha

end

end Sys2Proof.Machine
end

section
/-! The full stop (R35, R39, R90, R150, R152, R156): its parts in the order of `State.carryOut`, then the statement
`Obligations.FullStopResults`. -/
namespace Sys2Proof.Machine

open State (Leaves)

/-! ### Step 1: what still runs -/

/-- R150: the execution of engine `e` ended if it is one of group `g`. -/
def State.endRun (s : State) (g e : Nat) : State :=
  match (s.eng e).run with
  | some r => if r.group = g then s.endClause e .overrun (s.countNow r) 0 else s
  | none => s

theorem endRunning_eq (s : State) (g : Nat) : s.endRunning g = (List.range 8).foldl (fun s e => s.endRun g e) s := rfl

/-- Engine `e` runs nothing of group `g`. -/
def State.runsNone (s : State) (g e : Nat) : Prop := ∀ r, (s.running e).1 = some r → r.group ≠ g

theorem endRun_cases (s : State) (g e : Nat) :
    s.endRun g e = s ∧ s.runsNone g e ∨ ∃ r, r.group = g ∧ s.Ends (s.endRun g e) e r .overrun := by
  unfold State.endRun
  split
  case h_1 r hrun =>
    by_cases hg : r.group = g
    · rw [if_pos hg]
      exact .inr ⟨r, hg, endClause_ends hrun _ _ _⟩
    · rw [if_neg hg]
      exact .inl ⟨rfl, fun q hq => by rwa [← Option.some.inj (hrun.symm.trans hq)]⟩
  case h_2 hrun => exact .inl ⟨rfl, fun q hq => nomatch hrun.symm.trans hq⟩

theorem runsNone_endRun (s : State) (g e : Nat) : (s.endRun g e).runsNone g e := by
  rcases endRun_cases s g e with ⟨heq, hnone⟩ | ⟨r, -, hends⟩
  · rwa [heq]
  · intro q hq
    rw [hends.running e, if_pos rfl] at hq
    exact nomatch hq

theorem runsNone_endRun_of_runsNone {s : State} {g q : Nat} (e : Nat) (h : s.runsNone g q) : (s.endRun g e).runsNone g q := by
  rcases endRun_cases s g e with ⟨heq, -⟩ | ⟨r, -, hends⟩
  · rwa [heq]
  · intro k hk
    rw [hends.running q] at hk
    split at hk
    · exact nomatch hk
    · exact h k hk

/-- R150: after step 1 no engine runs a clause of the group. -/
theorem runsNone_endRunning (s : State) (g : Nat) : ∀ e < 8, (s.endRunning g).runsNone g e := fun e he =>
  foldl_establishes (f := fun s e => State.endRun s g e) (fun e u => u.runsNone g e) (List.range 8) s (fun u e _ => runsNone_endRun u g e)
    (fun _ a _ h => runsNone_endRun_of_runsNone a h) e (List.mem_range.2 he)

/-- What the steps before the commit leave of a group: its sequence number, its states and counters, and of its set what is not
discarded. -/
structure Group.Waits (x y : Group) : Prop where
  seq : y.seq = x.seq
  overNext : y.overNext = x.overNext
  stalled : y.stalled = x.stalled
  forced : y.forced = x.forced
  due : y.due = x.due
  dueClk : y.dueClk = x.dueClk
  pend : ∀ w ∈ y.pend, w ∈ x.pend

theorem Group.Waits.refl (x : Group) : x.Waits x := ⟨rfl, rfl, rfl, rfl, rfl, rfl, fun _ h => h⟩

theorem Group.Waits.trans {x y z : Group} (h : x.Waits y) (k : y.Waits z) : x.Waits z :=
  ⟨k.seq.trans h.seq, k.overNext.trans h.overNext, k.stalled.trans h.stalled, k.forced.trans h.forced, k.due.trans h.due,
    k.dueClk.trans h.dueClk, fun w hw => h.pend w (k.pend w hw)⟩

theorem waits_ended (x : Group) (r : Run) : x.Waits (x.ended r .overrun) :=
  ⟨rfl, rfl, rfl, rfl, rfl, rfl, fun _ hw => (List.mem_filter.1 hw).1⟩

theorem waits_endRunning (s : State) (g : Nat) : (s.group g).Waits ((s.endRunning g).group g) := by
  refine foldl_keeps (fun u => (s.group g).Waits (u.group g)) (fun s e => State.endRun s g e) _ s (.refl _) fun u e _ hu => hu.trans ?_
  rcases endRun_cases u g e with ⟨heq, -⟩ | ⟨r, hr, hends⟩
  · rw [heq]
    exact .refl _
  · rw [hends.group g, if_pos hr.symm]
    exact waits_ended _ r

/-! ### The steps before the commit -/

/-- `t` is `s` in a step before the commit of group `g`: what runs is the same, and the group still waits for it. -/
structure State.Awaits (s t : State) (g : Nat) : Prop where
  running : t.running = s.running
  waits : (s.group g).Waits (t.group g)

theorem State.Awaits.trans {s t u : State} {g : Nat} (h : s.Awaits t g) (k : t.Awaits u g) : s.Awaits u g :=
  ⟨k.running.trans h.running, h.waits.trans k.waits⟩

theorem group_of_cycles {s t : State} (h : t.cycles = s.cycles) (g : Nat) : t.group g = s.group g := by
  rw [State.group, (Prod.mk.inj h).2]; rfl

theorem awaits_of_still {s t : State} (h : t.still = s.still) (g : Nat) : s.Awaits t g := by
  have hc := cycles_of_still h
  exact ⟨(Prod.mk.inj hc).1, group_of_cycles hc g ▸ .refl _⟩

/-- A change of a group that leaves it waiting. -/
theorem awaits_updGroup (s : State) (g : Nat) {f : Group → Group} (h : (s.group g).Waits (f (s.group g))) :
    s.Awaits (s.updGroup g f) g :=
  ⟨running_of_engs rfl, by rwa [State.group_updGroup_same]⟩

section
variable (s : State) (g : Nat)

theorem still_dropReady : (s.dropReady g).still = s.still := by
  unfold State.dropReady
  extract_lets mine u
  have hu : u.still = s.still := rfl
  clear_value u
  simp [hu]

theorem awaits_noteConflict (c : Clash) : s.Awaits (s.noteConflict g c) g :=
  (awaits_updGroup s g (f := fun x => { x with conflict := true }) ⟨rfl, rfl, rfl, rfl, rfl, rfl, fun _ h => h⟩).trans
    (awaits_of_still (by simp [State.noteConflict, State.noteCp]) g)

theorem awaits_countCommit : s.Awaits (s.countCommit g) g :=
  awaits_updGroup s g (f := fun x => { x with commits := (x.commits + 1) % 65536 }) ⟨rfl, rfl, rfl, rfl, rfl, rfl, fun _ h => h⟩

theorem awaits_checkSet (base : State) (l : List PendWrite) : s.Awaits (s.checkSet base g l).1 g := by
  unfold State.checkSet
  split
  · exact awaits_of_still rfl g
  split
  · exact awaits_noteConflict s g _
  · exact awaits_countCommit s g

theorem awaits_settleSet : s.Awaits (s.settleSet g).1 g :=
  (awaits_of_still (still_txnEnd s g) g).trans (awaits_checkSet (s.txnEnd g).1 g _ _)

theorem still_publishItem (seq pos held) (item : StagedItem) : (s.publishItem g seq pos held item).still = s.still := by
  cases item <;> simp [State.publishItem, State.publishSwap]

theorem still_publishWrite (w : PendWrite) : (s.publishWrite g w).still = s.still := by simp [State.publishWrite]

theorem still_publishStep (seq pos held regs outs) : (s.publishStep g seq pos held regs outs).still = s.still := by
  unfold State.publishStep
  extract_lets acts
  rw [still_foldl]
  intro u a
  split
  · exact still_publishWrite u g _
  · exact still_publishItem u g _ _ _ _

end

/-! ### The commit, and the full stop -/

theorem kept_updGroup_of_kept {s t : State} (h : t.kept = s.kept) (g : Nat) (f : Group → Group)
    (hf : ∀ x y : Group, x.body = y.body → (f x).body = (f y).body) : (t.updGroup g f).kept = (s.updGroup g f).kept := by
  simp only [State.kept, Prod.mk.injEq] at h
  obtain ⟨hengs, hboot, hgroups⟩ := h
  have hgroup : ∀ q, ((t.updGroup g f).group q).body = ((s.updGroup g f).group q).body := fun q => by
    rw [State.group_updGroup, State.group_updGroup]
    split
    · exact hf _ _ (congrFun hgroups g)
    · exact congrFun hgroups q
  have hengs' : (t.updGroup g f).engs = (s.updGroup g f).engs := hengs
  have hboot' : (t.updGroup g f).boot = (s.updGroup g f).boot := hboot
  simp only [State.kept, hgroup, hengs', hboot']

/-- R35: a group whose set has been taken; `keep` is held over for the next full stop. -/
def Group.taken (x : Group) (keep : List PendWrite) : Group := { x with pend := keep, overflowed := x.overNext, overNext := false }

/-- R150, step 3: what the commit leaves but for the timing of the groups. -/
theorem kept_commitStep (s : State) (g seq : Nat) (held : Bool) (frozen l : List PendWrite) (ok : Bool) :
    (s.commitStep g seq held frozen l ok).kept = (s.updGroup g (·.taken (s.heldOver g))).kept := by
  unfold State.commitStep
  extract_lets keep a marked b
  have ha : a.kept = s.kept := by
    unfold a
    split
    · rfl
    · exact kept_commitSet s frozen
  have hb : b.kept = (s.updGroup g (·.taken (s.heldOver g))).kept := kept_updGroup_of_kept ha g _ fun x y h => by
    simp only [Group.body, Group.mk.injEq] at h ⊢
    simp [h]
  clear_value b
  split
  · exact (kept_of_still (still_txnPrepare b g seq ok held l)).trans hb
  split
  · exact (kept_commitSet b l).trans hb
  · exact hb

/-- R35: what is held over waited in the set, and was written in the full stop's clock or later; with no full stop due nothing is. -/
theorem heldOver_results (s : State) (g : Nat) :
    (∀ w ∈ s.heldOver g, w ∈ (s.group g).pend ∧ (s.group g).dueClk ≤ w.clk) ∧ ((s.group g).due = false → s.heldOver g = []) := by
  unfold State.heldOver
  extract_lets x
  split
  case isTrue h =>
    refine ⟨fun w hw => ?_, fun hdue => ?_⟩
    · obtain ⟨hmem, hclk⟩ := List.mem_filter.1 hw
      exact ⟨hmem, by simpa using hclk⟩
    · simp [State.stopReal, State.stopDue, hdue] at h
  case isFalse h => exact ⟨fun w hw => absurd hw (by simp), fun _ => rfl⟩

/-- What a full stop of group `g` that waits as `x` leaves of it (R150). -/
structure Group.Stopped (x y : Group) : Prop where
  seq : y.seq = (x.seq + 1) % 2 ^ 48
  staged : y.staged = []
  progress : y.progress = []
  offMask : y.offMask = 0
  due : y.due = false
  stalled : y.stalled = x.stalled
  forced : y.forced = x.forced
  overflowed : y.overflowed = x.overNext
  pend : ∀ w ∈ y.pend, w ∈ x.pend ∧ x.dueClk ≤ w.clk
  noPend : x.due = false → y.pend = []

/-- R150: a group's next cycle begins. -/
def Group.nextCycle (x : Group) (el : Nat) : Group :=
  { x with seq := (x.seq + 1) % 2 ^ 48, progress := [], conjFired := [], staged := [], stageNo := 0, offMask := 0, elapsed := el
           due := false }

theorem stopped_nextCycle {x y z : Group} {keep : List PendWrite} (hwaits : x.Waits y) (hbody : z.body = (y.taken keep).body)
    (hkeep : ∀ w ∈ keep, w ∈ y.pend ∧ y.dueClk ≤ w.clk) (hnone : y.due = false → keep = []) (el : Nat) : x.Stopped (z.nextCycle el) := by
  have hpend : (z.nextCycle el).pend = keep := congrArg Group.pend hbody
  refine ⟨?_, rfl, rfl, rfl, rfl, ?_, ?_, ?_, fun w hw => ?_, fun hdue => ?_⟩
  · exact congrArg (fun q => (q + 1) % 2 ^ 48) ((congrArg Group.seq hbody).trans hwaits.seq)
  · exact (congrArg Group.stalled hbody).trans hwaits.stalled
  · exact (congrArg Group.forced hbody).trans hwaits.forced
  · exact (congrArg Group.overflowed hbody).trans hwaits.overNext
  · obtain ⟨hmem, hclk⟩ := hkeep w (hpend ▸ hw)
    exact ⟨hwaits.pend w hmem, hwaits.dueClk ▸ hclk⟩
  · rw [hpend]
    exact hnone (hwaits.due.trans hdue)

/-- R150: what every full stop leaves. -/
theorem carryOut_results (s : State) (g : Nat) (pos : Word) :
    (∀ e < 8, (s.carryOut g pos).runsNone g e) ∧ (s.group g).Stopped ((s.carryOut g pos).group g) := by
  unfold State.carryOut
  extract_lets seq held a b
  have hbegun : (s.endRunning g).Awaits b g := awaits_of_still (by simp [b, a, still_dropReady]) g
  have hsettled := awaits_settleSet b g
  generalize b.settleSet g = v at *
  obtain ⟨c, frozen, l, ok⟩ := v
  dsimp -zeta only
  extract_lets regs outs d e nav f k m
  have hready : (s.endRunning g).Awaits f g := (hbegun.trans hsettled).trans (awaits_of_still (by simp [f, e, d, still_publishStep]) g)
  have hcommit := kept_commitStep f g seq held frozen l ok
  have hnext : m.group g = (k.group g).nextCycle k.tb.el := State.group_updGroup_same _ _ _
  have hrun : m.running = k.running := running_of_engs rfl
  have hlast : ((((((m.migrate g).dmaFullStop g).navFullStop nav g).pairStop g seq).acting 10)).cycles = m.cycles :=
    (cycles_of_eq rfl rfl).trans ((cycles_pairStop _ g seq).trans ((cycles_of_still (by simp)).trans (cycles_migrate m g)))
  change k.kept = _ at hcommit
  clear_value k m
  generalize (((((m.migrate g).dmaFullStop g).navFullStop nav g).pairStop g seq).acting 10) = t at *
  obtain ⟨hengs, -, hgroups⟩ := by simpa only [State.kept, Prod.mk.injEq] using hcommit
  have hbody : (k.group g).body = ((f.group g).taken (f.heldOver g)).body := by
    rw [congrFun hgroups g, State.group_updGroup_same]
  refine ⟨fun e he r hr => ?_, ?_⟩
  · rw [(Prod.mk.inj hlast).1, hrun, running_of_engs (s := f) hengs, hready.running] at hr
    exact runsNone_endRunning s g e he r hr
  · obtain ⟨hkeep, hnone⟩ := heldOver_results f g
    rw [group_of_cycles hlast g, hnext]
    exact stopped_nextCycle ((waits_endRunning s g).trans hready.waits) hbody hkeep hnone _

/-! ### The statement -/

/-- R333: with no step of T in this clock the full stop acts at once. -/
theorem inStep_of_noStep {s : State} (h : s.noStep) (ax0 : Bool) (p : Nat) (act : State → State) : s.inStep ax0 p act = act s := by
  refine if_pos ?_
  rcases h with h | h <;> simp [h]

/-- R150: a group whose N has advanced. -/
def Group.advanced (x : Group) (next : Word) (prev : Int) : Group := { x with next := next, prev := prev }

/-- R150: N advances by PERIOD, where no step of T has skipped full stops. -/
theorem advanceN_eq (s : State) (g : Nat) : ∃ next prev, (s.advanceN g).1 = s.updGroup g (·.advanced next prev)
    ∧ (s.groupAxis g ≠ 0 → next = (s.group g).next + s.reg (Reg.SCH_GPER g)) := by
  refine ⟨_, _, rfl, fun h => ?_⟩
  simp [h, wd]

/-- R156: a group that was stalled resumes. -/
def State.resumed (s : State) (g : Nat) (stalled : Bool) : State :=
  if stalled then (s.updGroup g (fun x => { x with stalled := false })).record .groupResume 0 [g] else s

theorem group_resumed {s : State} {g : Nat} {stalled : Bool} (h : (s.group g).stalled = stalled) :
    (s.resumed g stalled).group g = { s.group g with stalled := false } := by
  unfold State.resumed
  split
  case isTrue => rw [group_record, State.group_updGroup_same]
  case isFalse hst => rw [← Bool.eq_false_iff.2 hst, ← h]

section
variable {g : GroupNo} {s : State}

theorem exec_fullStop (hdue : s.stopDue g = true) (hfirst : s.stopFirst g = true) (hno : s.noStep)
    (hreal : (s.group g).forcedInCycle = false) : ∃ (u : State) (pos : Word), exec (.fullStop g) s = .next (u.carryOut g pos)
      ∧ ∃ next prev, u.group g = { (s.group g).advanced next prev with stalled := false } := by
  obtain ⟨next, prev, hadv, -⟩ := advanceN_eq s g
  have hgroup : (s.advanceN g).1.group g = (s.group g).advanced next prev := by rw [hadv, State.group_updGroup_same]
  have hexec : exec (.fullStop g) s = .next (((s.advanceN g).1.resumed g (s.group g).stalled).carryOut g (s.advanceN g).2) := by
    simp only [exec, execFullStop, hdue, hfirst, hreal, Bool.not_false, Bool.and_self, if_true, inStep_of_noStep hno]
    rfl
  refine ⟨_, _, hexec, next, prev, ?_⟩
  rw [group_resumed (by rw [hgroup]; rfl), hgroup]

theorem exec_skippedFullStop (hdue : s.stopDue g = true) (hfirst : s.stopFirst g = true) (hno : s.noStep)
    (hforced : (s.group g).forcedInCycle = true) : ∃ (t : State) (next : Word) (prev : Int), exec (.skippedFullStop g) s = .next t
      ∧ t.group g = { (s.group g).advanced next prev with forcedInCycle := false, due := false }
      ∧ (s.groupAxis g ≠ 0 → next = (s.group g).next + s.reg (Reg.SCH_GPER g)) := by
  obtain ⟨next, prev, hadv, hnext⟩ := advanceN_eq s g
  have hexec : exec (.skippedFullStop g) s
      = .next ((s.advanceN g).1.updGroup g (fun x => { x with forcedInCycle := false, due := false })) := by
    simp only [exec, execSkippedFullStop, hdue, hfirst, hforced, Bool.and_self, if_true, inStep_of_noStep hno]
  refine ⟨_, next, prev, hexec, ?_, hnext⟩
  rw [State.group_updGroup_same, hadv, State.group_updGroup_same]

/-- R156: a group whose forced full stop falls. -/
def Group.forcedNow (x : Group) : Group := { x with forced := (x.forced + 1) % 256, stalled := true, forcedInCycle := true }

theorem exec_forcedFullStop (hdue : s.forcedDue g = true) (hfirst : s.forcedFirst g = true) (htaken : s.stopsTaken = true) :
    ∃ u : State, exec (.forcedFullStop g) s = .next (u.carryOut g (s.group g).next) ∧ u.group g = (s.group g).forcedNow := by
  have hexec : exec (.forcedFullStop g) s = .next ((((if (s.group g).stalled then s else s.record .groupStall 0 [g.val]).updGroup g
      Group.forcedNow)).carryOut g (s.group g).next) := by
    simp only [exec, execForcedFullStop, hdue, hfirst, htaken, Bool.and_self, if_true]
    rfl
  refine ⟨_, hexec, ?_⟩
  rw [State.group_updGroup_same]
  split
  · rfl
  · rw [group_record]

end

/-- Settles O28: a full stop and a forced one carry out the same steps; a skipped one only advances N. -/
theorem fullStopResults : Obligations.FullStopResults := by
  intro g s hstage hon hen x done
  have hsched : s.scheduling = true := by simp [State.scheduling, hstage, hon]
  refine ⟨fun hdue hfirst hno => ⟨fun hreal => ?stop, fun hforced => ?skipped⟩, fun hdue hstall hel hfirst htaken => ?forced⟩
  case stop =>
    have hstop : s.stopDue g = true := by simp [State.stopDue, hsched, hen, show (s.group g).due = true from hdue]
    obtain ⟨u, pos, hexec, next, prev, hgroup⟩ := exec_fullStop hstop hfirst hno hreal
    obtain ⟨hrun, hstopped⟩ := carryOut_results u g pos
    rw [hgroup] at hstopped
    generalize u.carryOut g pos = t at *
    exact ⟨t, hexec, ⟨hstopped.seq, hstopped.staged, hstopped.progress, hstopped.offMask, hstopped.due, hrun⟩, hstopped.stalled,
      hstopped.overflowed, hstopped.pend⟩
  case skipped =>
    have hstop : s.stopDue g = true := by simp [State.stopDue, hsched, hen, show (s.group g).due = true from hdue]
    obtain ⟨t, next, prev, hexec, hgroup, hnext⟩ := exec_skippedFullStop hstop hfirst hno hforced
    refine ⟨t, hexec, ?_⟩
    rw [hgroup]
    exact ⟨rfl, rfl, rfl, rfl, hnext⟩
  case forced =>
    have hforced : s.forcedDue g = true := by
      have hpast : decide (s.forcedAt g ≤ s.tb.el) = true := decide_eq_true hel
      rw [State.forcedDue, hpast]
      simp [hsched, hen, show (s.group g).due = false from hdue, hstall]
    obtain ⟨u, hexec, hgroup⟩ := exec_forcedFullStop hforced hfirst htaken
    obtain ⟨hrun, hstopped⟩ := carryOut_results u g (s.group g).next
    rw [hgroup] at hstopped
    generalize u.carryOut g (s.group g).next = t at *
    exact ⟨t, hexec, ⟨hstopped.seq, hstopped.staged, hstopped.progress, hstopped.offMask, hstopped.due, hrun⟩, hstopped.stalled,
      hstopped.forced, hstopped.noPend hdue⟩

end Sys2Proof.Machine
end

section
/-! Clock loss (R48): what the blocks that stop leave of the ports of SYS, PWR and the core. -/
namespace Sys2Proof.Machine

/-- The ports below those of the blocks that a lost clock stops. -/
def State.low (s : State) (a : Nat) : Word := if a < 0x4000 then s.reg a else 0

theorem low_congr {s t : State} (h : ∀ a < 0x4000, t.reg a = s.reg a) : t.low = s.low := by
  funext a
  unfold State.low
  split
  case isTrue ha => exact h a ha
  case isFalse => rfl

theorem reg_of_low {s t : State} (h : t.low = s.low) {a : Nat} (ha : a < 0x4000) : t.reg a = s.reg a := by
  have := congrFun h a
  simpa only [State.low, ha, if_true] using this

theorem low_of_regs {s t : State} (h : t.regs = s.regs) : t.low = s.low := low_congr fun a _ => by rw [State.reg, h]; rfl

section
variable (s : State)

@[simp] theorem low_ite (c : Prop) [Decidable c] (a b : State) : (if c then a else b).low = if c then a.low else b.low :=
  apply_ite State.low c a b

/-- A fold leaves what every step leaves. -/
@[simp] theorem low_foldl {α : Type} {f : State → α → State} (h : ∀ u a, (f u a).low = u.low) (l : List α) :
    (l.foldl f s).low = s.low := by
  induction l generalizing s with
  | nil => rfl
  | cons a l ih => rw [List.foldl_cons, ih, h]

@[simp] theorem low_setReg {a : Nat} (v) (h : 0x4000 ≤ a) : (s.setReg a v).low = s.low :=
  low_congr fun _ _ => State.reg_setReg_ne s v (by omega)

@[simp] theorem low_setRegF {a : Nat} (hi lo v) (h : 0x4000 ≤ a) : (s.setRegF a hi lo v).low = s.low := low_setReg s _ h
@[simp] theorem low_clrBitR {a : Nat} (i) (h : 0x4000 ≤ a) : (s.clrBitR a i).low = s.low := low_setReg s _ h
@[simp] theorem low_bump {a : Nat} (n) (h : 0x4000 ≤ a) : (s.bump a n).low = s.low := low_setReg s _ h
@[simp] theorem low_bumpF {a : Nat} (hi lo) (h : 0x4000 ≤ a) : (s.bumpF a hi lo).low = s.low := low_setReg s _ h

@[simp] theorem low_setBitR {a : Nat} (i) (h : 0x4000 ≤ a) : (s.setBitR a i).low = s.low :=
  low_congr fun _ _ => State.reg_orBits_ne s _ (by omega)

@[simp] theorem low_putBitR {a : Nat} (i b) (h : 0x4000 ≤ a) : (s.putBitR a i b).low = s.low := by simp [State.putBitR, h]

@[simp] theorem low_record (n : RecName) (el : Nat) (items : List Nat) : (s.record n el items).low = s.low :=
  low_congr fun _ ha => reg_record _ _ _ _ (not_recorderPort (by omega))

@[simp] theorem low_updSaf (f) : (s.updSaf f).low = s.low := (rfl)
@[simp] theorem low_updField (f) : (s.updField f).low = s.low := (rfl)
@[simp] theorem low_updGnb (f) : (s.updGnb f).low = s.low := (rfl)
@[simp] theorem low_updChain (c f) : (s.updChain c f).low = s.low := (rfl)
@[simp] theorem low_unmarkTag (t) : (s.unmarkTag t).low = s.low := (rfl)
@[simp] theorem low_storeWords (a ws) : (s.storeWords a ws).low = s.low := (rfl)

@[simp] theorem low_blockEvent (cls idx) : (s.blockEvent cls idx).low = s.low := by
  obtain ⟨x, h⟩ := blockEvent_eq s cls idx
  rw [h]
  exact low_of_regs rfl

/-! ### The safety block and the isolated links -/

@[simp] theorem low_safOutOff (k) : (s.safOutOff k).low = s.low := by simp [State.safOutOff, Reg.SAF_STAT]

@[simp] theorem low_enterSafe (f c) : (s.enterSafe f c).low = s.low := by simp [State.enterSafe, Reg.SAF_FSTAT, Reg.SAF_STK]

@[simp] theorem low_redegrade : s.redegrade.low = s.low := by
  refine low_foldl s (fun u f => ?_) _
  dsimp only
  split <;> simp [Reg.SAF_FSTAT, Reg.SAF_STK]

@[simp] theorem low_outputFault (k c) : (s.outputFault k c).low = s.low := by
  simp [State.outputFault, Reg.SAF_OFLT, Reg.SAF_NTPFAIL, Reg.SAF_STK]

@[simp] theorem low_linkFault : s.linkFault.low = s.low := by simp [State.linkFault]

@[simp] theorem low_evalPair (k) : (s.evalPair k).low = s.low := by simp [State.evalPair, Reg.SAF_PSTAT]

@[simp] theorem low_contactFault (n) : (s.contactFault n).low = s.low := by simp [State.contactFault, Reg.SAF_PFLT]

@[simp] theorem low_refreshInputs : s.refreshInputs.low = s.low := by
  simp [State.refreshInputs, Reg.DIO_INVL, Reg.DIO_INL, Reg.DIO_ILIVE]

@[simp] theorem low_linkDown (g) : (s.linkDown g).low = s.low := by
  unfold State.linkDown
  dsimp only
  split <;> simp [Reg.DIO_LINK, Reg.DIO_STK, Nat.le_add_right_of_le]

/-! ### The baseband and the filter chains -/

@[simp] theorem low_acqStop : s.acqStop.low = s.low := by
  unfold State.acqStop
  split
  · rfl
  · simp [State.acqEnd, State.acqResult, Reg.GNB_ACQSTAT]

@[simp] theorem low_setChan (c st) : (s.setChan c st).low = s.low :=
  low_setRegF s _ _ _ (by simp [Reg.GNB_CHST, Nat.le_add_right_of_le])

@[simp] theorem low_gnbStop : s.gnbStop.low = s.low := by simp [State.gnbStop]

@[simp] theorem low_chainInvalid (c) : (s.chainInvalid c).low = s.low := by
  have hmains : ∀ u : State, u.mainsInvalid.low = u.low := fun u => low_clrBitR u 31 (by decide)
  simp [State.chainInvalid, hmains, Reg.DFC_STAT, Nat.le_add_right_of_le]

@[simp] theorem low_chainFault (c k) : (s.chainFault c k).low = s.low := by
  simp [State.chainFault, Reg.DFC_STK, Nat.le_add_right_of_le]

@[simp] theorem low_dfcStop : s.dfcStop.low = s.low := by
  have hstop : ({ s with dfc := { s.dfc with stopped := true } } : State).low = s.low := (rfl)
  simp [State.dfcStop, hstop]

/-- R48: the loss of a domain that does not hold the unit in reset. -/
theorem low_domainLost (d) : (s.domainLost d).low = s.low := by
  simp [State.domainLost, Reg.ETH_PSTAT, Reg.ETH_STK, Reg.ETH_NLINK, Reg.BTL_LANE, Nat.le_add_right_of_le]

@[simp] theorem still_gnbStop : s.gnbStop.still = s.still := by simp [State.gnbStop]

@[simp] theorem still_dfcStop : s.dfcStop.still = s.still := by
  have hstop : ({ s with dfc := { s.dfc with stopped := true } } : State).still = s.still := (rfl)
  simp [State.dfcStop, hstop]

theorem still_dfcReturn : s.dfcReturn.still = s.still := by
  have hback : ({ s with dfc := { s.dfc with stopped := false } } : State).still = s.still := (rfl)
  simp [State.dfcReturn, hback]

theorem still_domainLost (d) : (s.domainLost d).still = s.still := by simp [State.domainLost]

end

end Sys2Proof.Machine
end

section
/-! Clock domains, adaptive voltage, blocks switched off (R48, R53 to R59): what each event does, then the statement
`Obligations.PowerResults`. -/
namespace Sys2Proof.Machine

open State (Leaves)

theorem boot_of_still {s t : State} (h : t.still = s.still) : t.boot = s.boot := congrArg (fun q => q.2.1) h

/-! ### Clock domains -/

section
variable {d : Fin 17} {s : State}

theorem exec_clockLoss_stops (hfresh : s.boot.lostNow.contains d.val = false) (hd : resetDomain d = false) :
    exec (.clockLoss d) s = .next (((s.updBoot fun b => { b with lostNow := b.lostNow ++ [d.val] }).setBitR Reg.SYS_CLK_STK d).domainLost d) := by
  simp only [exec, execClockLoss, hfresh, hd, Bool.false_eq_true, if_false]

theorem exec_clockLoss_resets (hfresh : s.boot.lostNow.contains d.val = false) (hd : resetDomain d = true) (hon : s.boot.stage ≠ .off) :
    exec (.clockLoss d) s = .next (((((s.updBoot fun b => { b with lostNow := b.lostNow ++ [d.val] }).silence.restart 1).updBoot
      fun b => { b with stage := .off, holdReset := [d.val] })).record .clockLoss d [d.val]) := by
  have hon' : (s.updBoot fun b => { b with lostNow := b.lostNow ++ [d.val] }).boot.stage ≠ .off := hon
  simp only [exec, execClockLoss, hfresh, hd, hon', Bool.false_eq_true, if_false, if_true]

/-- R48: a lost domain that does not hold the unit in reset. -/
theorem clockLoss_stops (hfresh : s.boot.lostNow.contains d.val = false) (hd : resetDomain d = false) :
    ∃ t, exec (.clockLoss d) s = .next t ∧ t.regB Reg.SYS_CLK_STK d = true ∧ t.boot.lostNow.contains d.val = true
      ∧ t.boot.stage = s.boot.stage := by
  refine ⟨_, exec_clockLoss_stops hfresh hd, ?_⟩
  generalize hu : (s.updBoot fun b => { b with lostNow := b.lostNow ++ [d.val] }) = u
  have hboot := boot_of_still (still_domainLost (u.setBitR Reg.SYS_CLK_STK d) d)
  rw [State.regB, reg_of_low (low_domainLost _ _) (by decide), hboot]
  refine ⟨?_, ?_, ?_⟩
  · exact (regB_setBitR u (by omega) _ _ _).trans (if_pos ⟨rfl, rfl⟩)
  · subst hu
    exact List.contains_iff_mem.2 (List.mem_append_right _ (List.mem_singleton.2 rfl))
  · subst hu; rfl

/-- R48: one that does. -/
theorem clockLoss_resets (hfresh : s.boot.lostNow.contains d.val = false) (hd : resetDomain d = true) (hon : s.boot.stage ≠ .off) :
    ∃ t, exec (.clockLoss d) s = .next t ∧ t.boot.stage = .off ∧ t.boot.holdReset = [d.val] ∧ t.regF Reg.SYS_RSTCAUSE 31 28 = 1
      ∧ t.engs = [] := by
  refine ⟨_, exec_clockLoss_resets hfresh hd hon, ?_⟩
  generalize (s.updBoot fun b => { b with lostNow := b.lostNow ++ [d.val] }).silence = u
  obtain ⟨-, -, -, hengs⟩ := restart_results u 1
  rw [boot_record, engs_record, State.regF, reg_record _ _ _ _ (not_recorderPort (by decide))]
  exact ⟨rfl, rfl, regF_cause_restart u (by decide), hengs⟩

/-- R48: a domain that runs again is lost no longer. -/
def Boot.regained (b : Boot) (d : Nat) : Boot := { b with lostNow := b.lostNow.filter (fun q => q != d) }

theorem not_contains_regained (b : Boot) (d : Nat) : (b.regained d).lostNow.contains d = false := by
  simp [Boot.regained]

theorem exec_clockDomainReturn (hlost : s.boot.lostNow.contains d.val = true) : exec (.clockDomainReturn d) s = .next (
    let u := s.updBoot (·.regained d)
    if resetDomain d then
      let rest := u.boot.holdReset.filter (fun q => q != d.val)
      let u := u.updBoot (fun b => { b with holdReset := rest })
      if rest.isEmpty && u.boot.stage == .off then u.updBoot (fun b => { b with stage := .selftest }) else u
    else if d.val = 4 ∨ d.val = 5 then
      if u.boot.lostNow.any (fun q => q == 4 || q == 5) then u else u.updGnb (fun g => { g with stopped := false })
    else if d.val = 11 then [0, 1].foldl (fun s n => s.setRegF (Reg.BTL_LANE n) 31 30 1) u
    else if d.val = 13 then u.dfcReturn
    else u) := by
  simp only [exec, execClockDomainReturn, hlost, if_true]
  rfl

theorem clockDomainReturn_starts (hlost : s.boot.lostNow.contains d.val = true) (hd : resetDomain d = true) (hoff : s.boot.stage = .off)
    (hheld : s.boot.holdReset = [d.val]) : ∃ t, exec (.clockDomainReturn d) s = .next t ∧ t.boot.stage = .selftest
      ∧ t.boot.lostNow.contains d.val = false := by
  refine ⟨_, exec_clockDomainReturn hlost, ?_⟩
  have hrest : (s.updBoot (·.regained d)).boot.holdReset.filter (fun q => q != d.val) = [] := by
    change s.boot.holdReset.filter _ = _
    simp [hheld]
  simp only [hd, if_true, hrest]
  rw [if_pos]
  · exact ⟨rfl, not_contains_regained _ _⟩
  · exact beq_iff_eq.2 hoff

theorem clockDomainReturn_resumes (hlost : s.boot.lostNow.contains d.val = true) (hd : resetDomain d = false) :
    ∃ t, exec (.clockDomainReturn d) s = .next t ∧ t.boot.lostNow.contains d.val = false ∧ t.boot.stage = s.boot.stage := by
  refine ⟨_, exec_clockDomainReturn hlost, ?_⟩
  extract_lets u rest v
  rw [if_neg (by simp [hd])]
  have hu : u.boot = s.boot.regained d := rfl
  clear_value u
  suffices h : ∀ t : State, t.still = u.still → t.boot.lostNow.contains d.val = false ∧ t.boot.stage = s.boot.stage by
    refine h _ ?_
    simp [still_dfcReturn]
  intro t ht
  rw [boot_of_still ht, hu]
  exact ⟨not_contains_regained _ _, rfl⟩

end

/-! ### Adaptive voltage (R55 to R58) -/

/-- R57, R58: the report of an island at its limit, after `low` evaluations below LOW and `good` above. -/
def State.limitReport (s : State) (k low good : Nat) : State :=
  let r := Reg.PWR_AVS k
  if decide (3 ≤ low) && !(s.regB r 30) then
    (((s.setBitR r 30).setBitR Reg.PWR_FLT_STK k).record .avsLimit k [k]).addHealth (.avsLimit k)
  else if decide (10000 ≤ good) && s.regB r 30 then
    ((s.clrBitR r 30).record .avsLimitEnd k [k]).dropHealth (.avsLimit k)
  else s

/-- The report moves bit 30 of the island's register alone. -/
theorem regB_limitReport (s : State) {k j : Nat} (low good : Nat) (hk : k < 3) (hj : j ≠ 30) :
    (s.limitReport k low good).regB (Reg.PWR_AVS k) j = s.regB (Reg.PWR_AVS k) j := by
  have hown : ¬ recorderPort (Reg.PWR_AVS k) := not_recorderPort (by simp only [Reg.PWR_AVS]; omega)
  have hne : Reg.PWR_AVS k ≠ Reg.PWR_FLT_STK := by simp only [Reg.PWR_AVS, Reg.PWR_FLT_STK]; omega
  unfold State.limitReport
  extract_lets r
  split
  · obtain ⟨l, p, -, hadd⟩ := addHealth_eq (((s.setBitR r 30).setBitR Reg.PWR_FLT_STK k).record .avsLimit k [k]) (.avsLimit k)
    have hregs : ∀ (u : State) x y, ({ u with health := x, pair := y } : State).regB r j = u.regB r j := fun _ _ _ => rfl
    rw [hadd, hregs, State.regB, reg_record _ _ _ _ hown, ← State.regB, regB_setBitR _ (by omega), if_neg (fun h => hne h.1),
      regB_setBitR _ (by decide), if_neg (fun h => hj h.2)]
  split
  · have hregs : ∀ u : State, (u.dropHealth (.avsLimit k)).regB r j = u.regB r j := fun _ => rfl
    rw [hregs, State.regB, reg_record _ _ _ _ hown, ← State.regB, regB_clrBitR _ (by decide), if_neg (fun h => hj h.2)]
  · rfl

/-- R56: the evaluations above HIGH in a row, this one with margin `m` counted. -/
def highCount (c : AvsCount) (m hi : Int) : Nat := if hi ≤ m then c.high + 1 else 0

/-- R56: the supply of island `k` is lowered at margin `m`. -/
def State.lowers (s : State) (k : Nat) (m : Int) : Bool :=
  decide (16 ≤ highCount (mgetD s.boot.avs k {}) m (s.regF Reg.PWR_MARGIN 15 8)) && !(s.regB (Reg.PWR_AVS k) 31)

/-- R55, R56: the register of island `k` after an evaluation with margin `m`. -/
def State.evaluated (s : State) (k : Nat) (m : Int) : State :=
  (s.setRegF (Reg.PWR_AVS k) 23 16 (wdi m).toNat).setRegF (Reg.PWR_AVS k) 5 0
    (nextVcode (s.regF (Reg.PWR_AVS k) 5 0) m (s.regF Reg.PWR_MARGIN 7 0) (s.lowers k m))

theorem exec_avsEvaluation {k : Fin 3} {m : Int} {s : State} (hrun : s.boot.stage = .running) : ∃ f low good,
    exec (.avsEvaluation k m) s = .next (((s.evaluated k m).updBoot f).limitReport k low good) := by
  have hgo : (s.boot.stage != .running) = false := by simp [hrun]
  simp only [exec, execAvsEvaluation, hgo, Bool.false_eq_true, if_false]
  exact ⟨_, _, _, rfl⟩

/-- A field of the register of an island below bit 30 stands as the evaluation leaves it. -/
theorem regF_limitReport (s : State) (f : Boot → Boot) {k hi lo : Nat} (low good : Nat) (hk : k < 3) (hhi : hi < 30) :
    ((s.updBoot f).limitReport k low good).regF (Reg.PWR_AVS k) hi lo = s.regF (Reg.PWR_AVS k) hi lo :=
  regF_congr fun j _ hj => (regB_limitReport (s.updBoot f) low good hk (by omega)).trans rfl

theorem regF_lt (s : State) (a hi lo : Nat) : s.regF a hi lo < 2 ^ (hi + 1 - lo) := Nat.mod_lt _ (Nat.two_pow_pos _)

theorem nextVcode_lt {v : Nat} (hv : v < 64) (m lo : Int) (lower : Bool) : nextVcode v m lo lower < 64 := by
  unfold nextVcode
  split
  · omega
  split
  · omega
  split <;> omega

theorem vcode_evaluated (s : State) (k : Nat) (m : Int) : (s.evaluated k m).regF (Reg.PWR_AVS k) 5 0
    = nextVcode (s.regF (Reg.PWR_AVS k) 5 0) m (s.regF Reg.PWR_MARGIN 7 0) (s.lowers k m) := by
  rw [State.evaluated, regF_setRegF_same _ _ _ (by decide) (by decide)]
  exact Nat.mod_eq_of_lt (nextVcode_lt (regF_lt s _ 5 0) _ _ _)

theorem margin_evaluated {s : State} {k : Nat} {m : Int} (h0 : 0 ≤ m) (hm : m < 256) :
    ((s.evaluated k m).regF (Reg.PWR_AVS k) 23 16 : Int) = m := by
  have hfield : (s.evaluated k m).regF (Reg.PWR_AVS k) 23 16 = (wdi m).toNat % 2 ^ (23 + 1 - 16) := by
    rw [State.evaluated, regF_congr fun j hj _ => regB_setRegF _ _ (by decide) (.inr (.inr (by omega))),
      regF_setRegF_same _ _ _ (by decide) (by decide)]
  have hword : ((wdi m).toNat : Int) = m := by
    rw [wdi, BitVec.toNat_ofInt]
    omega
  rw [hfield]
  omega

/-- R55 to R58: one evaluation of an island in a running unit. -/
theorem avsEvaluation_results (k : Fin 3) (m : Int) {s : State} (hrun : s.boot.stage = .running) :
    let lo : Int := s.regF Reg.PWR_MARGIN 7 0
    let hi : Int := s.regF Reg.PWR_MARGIN 15 8
    let v := s.regF (Reg.PWR_AVS k) 5 0
    ∃ t, exec (.avsEvaluation k m) s = .next t
      ∧ (m < lo - 4 → t.regF (Reg.PWR_AVS k) 5 0 = min 50 (v + 4))
      ∧ (lo - 4 ≤ m → m < lo → t.regF (Reg.PWR_AVS k) 5 0 = min 50 (v + 1))
      ∧ (lo ≤ m → m < hi → t.regF (Reg.PWR_AVS k) 5 0 = v)
      ∧ (lo ≤ m → hi ≤ m → (mgetD s.boot.avs k {}).high = 15 → s.regB (Reg.PWR_AVS k) 31 = false → t.regF (Reg.PWR_AVS k) 5 0 = v - 1)
      ∧ (0 ≤ m → m < 256 → (t.regF (Reg.PWR_AVS k) 23 16 : Int) = m) := by
  intro lo hi v
  obtain ⟨f, low, good, hexec⟩ := exec_avsEvaluation (k := k) (m := m) hrun
  refine ⟨_, hexec, ?_⟩
  rw [regF_limitReport _ f low good k.isLt (by decide), regF_limitReport _ f low good k.isLt (by decide), vcode_evaluated]
  refine ⟨fun h => if_pos h, fun h1 h2 => ?_, fun h1 h2 => ?_, fun h1 h2 hhigh hhold => ?_, fun h0 hm => margin_evaluated h0 hm⟩
  · rw [nextVcode, if_neg (by omega), if_pos h2]
  · have hlower : s.lowers k m = false := by
      have : ¬ hi ≤ m := by omega
      simp [State.lowers, highCount, hi, this]
    rw [hlower, nextVcode, if_neg (by omega), if_neg (by omega), if_neg (by decide)]
  · have hlower : s.lowers k m = true := by
      have : (s.regF Reg.PWR_MARGIN 15 8 : Int) ≤ m := h2
      simp [State.lowers, highCount, this, hhigh, hhold]
    rw [hlower, nextVcode, if_neg (by omega), if_neg (by omega), if_pos rfl]

/-! ### Registers of PWR (R53, R54, R59) -/

theorem marginWrite_results (s : State) (v : Word) :
    (2 ≤ fld v 7 0 → fld v 7 0 < fld v 15 8 → (s.marginWrite v).reg Reg.PWR_MARGIN = v &&& 0xFFFF)
    ∧ (fld v 7 0 < 2 ∨ fld v 15 8 ≤ fld v 7 0 →
      (s.marginWrite v).reg Reg.PWR_MARGIN = s.reg Reg.PWR_MARGIN ∧ (s.marginWrite v).regB Reg.PWR_FLT_STK 3 = true) := by
  refine ⟨fun hlo hhi => ?_, fun h => ?_⟩
  · rw [State.marginWrite, if_neg (by omega)]
    exact State.reg_setReg_same _ _ _
  · rw [State.marginWrite, if_pos h]
    exact ⟨State.reg_orBits_ne s _ (by decide), (regB_setBitR s (by decide) _ _ _).trans (if_pos ⟨rfl, rfl⟩)⟩

theorem mget_filter_none {p : Nat × Word → Bool} {k : Nat} (h : ∀ w, p (k, w) = false) (m : SMap Word) : mget (m.filter p) k = none := by
  induction m with
  | nil => rfl
  | cons q m ih =>
    obtain ⟨j, w⟩ := q
    by_cases hj : p (j, w) = true
    · have hne : ¬ j = k := fun hk => by simp [hk, h] at hj
      rw [List.filter_cons_of_pos hj, mget, if_neg hne]
      exact ih
    · rw [List.filter_cons_of_neg hj]
      exact ih

/-- R54: a block switched off holds the reset values; the ports of the others stay. -/
theorem reg_clearBlock (s : State) (b a : Nat) : (s.clearBlock b).reg a = if blockPorts b a then resetWord a else s.reg a := by
  have hregs : (s.clearBlock b).regs = s.regs.filter (fun q => !(blockPorts b q.1)) := by
    unfold State.clearBlock
    split <;> rfl
  rw [State.reg, hregs, mgetD]
  split
  case isTrue h => rw [mget_filter_none (by simp [h])]; rfl
  case isFalse h => rw [mget_filter _ (by simp [h])]; rfl

theorem clearBlock_leaves_tb (s : State) (b : Nat) : Leaves State.tb s (s.clearBlock b) := by
  unfold State.clearBlock
  split <;> exact ⟨rfl⟩

theorem still_clearBlock (s : State) (b : Nat) : (s.clearBlock b).still = s.still := by
  unfold State.clearBlock
  split <;> rfl

/-- R30, R54: a port of a block that is off is not decoded. -/
theorem decoded_of_blockOff {s : State} {b a : Nat} (hb : b < 5) (hport : blockPorts b a = true) (hoff : s.blockOff b = true) :
    s.decoded a = false := by
  have : s.portOff a = true := List.any_eq_true.2 ⟨b, List.mem_range.2 hb, by rw [hport, hoff]; rfl⟩
  simp [State.decoded, this]

/-- The blocks that a write of `v` to PWR_OFF switches off, and those that it switches on. -/
def State.switchedOff (s : State) (v : Word) : List Nat := (List.range 5).filter (fun b => bit v b && !(s.regB Reg.PWR_OFF b))
def State.switchedOn (s : State) (v : Word) : List Nat := (List.range 5).filter (fun b => !(bit v b) && s.regB Reg.PWR_OFF b)

theorem mem_switchedOff {s : State} {v : Word} {b : Nat} :
    b ∈ s.switchedOff v ↔ b < 5 ∧ bit v b = true ∧ s.regB Reg.PWR_OFF b = false := by
  simp [State.switchedOff]

theorem mem_switchedOn {s : State} {v : Word} {b : Nat} : b ∈ s.switchedOn v ↔ b < 5 ∧ bit v b = false ∧ s.regB Reg.PWR_OFF b = true := by
  simp [State.switchedOn]

/-- R54: the blocks `off` switched off, and the time at which those of `on` were switched on noted. -/
def State.switched (s : State) (off on : List Nat) : State :=
  let u := off.foldl (fun s b => s.clearBlock b) s
  u.updBoot (fun x => { x with powering := x.powering.filter (fun q => !(off.contains q.1)) ++ on.map (fun b => (b, u.tb.el)) })

theorem pwrOffWrite_taken {s : State} {v : Word} (hbusy : ∀ b ∈ s.switchedOff v, s.blockBusy b = false) :
    s.pwrOffWrite v = (s.switched (s.switchedOff v) (s.switchedOn v)).setReg Reg.PWR_OFF (v &&& 0x1F) := by
  refine if_neg fun h => ?_
  obtain ⟨b, hb, hbad⟩ := List.any_eq_true.1 h
  exact absurd hbad (by simp [hbusy b hb])

theorem pwrOffWrite_refused {s : State} {v : Word} {b : Nat} (hoff : b ∈ s.switchedOff v) (hbusy : s.blockBusy b = true) :
    s.pwrOffWrite v = s.setBitR Reg.PWR_FLT_STK 4 := if_pos (List.any_eq_true.2 ⟨b, hoff, hbusy⟩)

/-- R54: the ports of the blocks that are switched off hold their reset values. -/
theorem reg_switched (s : State) (off on : List Nat) : ∀ b ∈ off, ∀ a, blockPorts b a = true → (s.switched off on).reg a = resetWord a := by
  refine foldl_establishes (f := fun (u : State) b => u.clearBlock b) (fun b u => ∀ a, blockPorts b a = true → u.reg a = resetWord a) off s
    (fun u b _ a ha => ?_) fun u c b hu a ha => ?_
  · rw [reg_clearBlock, if_pos ha]
  · rw [reg_clearBlock]
    split
    · rfl
    · exact hu a ha

theorem blockPorts_ne_PWR_OFF {b a : Nat} (h : blockPorts b a = true) : a ≠ Reg.PWR_OFF := by
  rintro rfl
  unfold blockPorts at h
  split at h <;> simp [Reg.PWR_OFF] at h

theorem bit_and_ofBlock {b : Nat} (hb : b < 5) (v : Word) : bit (v &&& 0x1F) b = bit v b := by
  have hmask : bit 0x1F b = true := (by decide : ∀ b < 5, bit 0x1F b = true) b hb
  exact BitVec.getLsbD_and.trans (by rw [show (0x1F : Word).getLsbD b = true from hmask, Bool.and_true]; rfl)

theorem pwrOffWrite_results {s : State} {v : Word} (hidle : ∀ b < 5, bit v b = true → s.regB Reg.PWR_OFF b = false → s.blockBusy b = false) :
    let t := s.pwrOffWrite v
    t.reg Reg.PWR_OFF = v &&& 0x1F
      ∧ (∀ b < 5, bit v b = true → s.regB Reg.PWR_OFF b = false → ∀ a, blockPorts b a = true → t.reg a = resetWord a ∧ t.decoded a = false)
      ∧ (∀ b < 5, bit v b = false → s.regB Reg.PWR_OFF b = true → (b, s.tb.el) ∈ t.boot.powering) := by
  intro t
  have ht : t = (s.switched (s.switchedOff v) (s.switchedOn v)).setReg Reg.PWR_OFF (v &&& 0x1F) :=
    pwrOffWrite_taken fun b hb => by
      obtain ⟨hlt, hv, hreg⟩ := mem_switchedOff.1 hb
      exact hidle b hlt hv hreg
  have hoff : t.reg Reg.PWR_OFF = v &&& 0x1F := by rw [ht, State.reg_setReg_same]
  refine ⟨hoff, fun b hb hv hreg a ha => ⟨?_, ?_⟩, fun b hb hv hreg => ?_⟩
  · rw [ht, State.reg_setReg_ne _ _ (blockPorts_ne_PWR_OFF ha)]
    exact reg_switched s _ _ b (mem_switchedOff.2 ⟨hb, hv, hreg⟩) a ha
  · refine decoded_of_blockOff hb ha ?_
    rw [State.blockOff, State.regB, hoff, bit_and_ofBlock hb, hv, Bool.true_or]
  · rw [ht]
    refine List.mem_append_right _ (List.mem_map.2 ⟨b, mem_switchedOn.2 ⟨hb, hv, hreg⟩, ?_⟩)
    exact congrArg (fun x : Timebase => (b, x.el)) (State.Leaves.foldl clearBlock_leaves_tb).eq

/-! ### A block that is ready again (R54) -/

theorem boot_of_kept {s t : State} (h : t.kept = s.kept) : t.boot = s.boot := congrArg (fun q => q.2.1) h

theorem still_loadValue (s : State) (a : Nat) (v : Word) : (s.loadValue a v).still = s.still := by
  unfold State.loadValue
  split
  · split <;> rfl
  · rfl

theorem boot_readyBlock (s : State) (b : Nat) : (s.readyBlock b).boot = s.boot := by
  unfold State.readyBlock
  extract_lets old vals u
  have hold : old.kept = s.kept := kept_of_still (still_clearBlock s b)
  have hu : u.kept = old.kept := by
    refine kept_foldl (fun v q => ?_) vals old
    exact kept_of_still (still_loadValue v q.1 q.2)
  exact boot_of_kept ((kept_foldl (fun v (q : Nat × Word) => kept_hook old v q.1) vals u).trans (hu.trans hold))

theorem readyBlock_noValues {s : State} {b : Nat} (h : ∀ q ∈ s.boot.imgVals, blockPorts b q.1 = false) : s.readyBlock b = s.clearBlock b := by
  have hvals : s.boot.imgVals.filter (fun q => blockPorts b q.1) = [] := List.filter_eq_nil_iff.2 fun q hq => by simp [h q hq]
  simp only [State.readyBlock, hvals, List.foldl_nil]

theorem blockPowerReady_results (b : Fin 5) {el : Nat} {s : State} (hmem : (b.val, el) ∈ s.boot.powering) (hel : el + 50000 ≤ s.tb.el) :
    ∃ t, exec (.blockPowerReady b) s = .next t ∧ (∀ q ∈ t.boot.powering, q.1 ≠ b.val)
      ∧ ((∀ q ∈ s.boot.imgVals, blockPorts b q.1 = false) → ∀ a, blockPorts b a = true → t.reg a = resetWord a) := by
  have hdue : s.boot.powering.any (fun q => q.1 == b.val && decide (q.2 + 50000 ≤ s.tb.el)) = true :=
    List.any_eq_true.2 ⟨_, hmem, by simp [hel]⟩
  have hexec : exec (.blockPowerReady b) s
      = .next ((s.updBoot (fun x => { x with powering := x.powering.filter (fun q => q.1 != b.val) })).readyBlock b) := by
    simp only [exec, execBlockPowerReady, hdue, if_true]
  refine ⟨_, hexec, fun q hq => ?_, fun hvals a ha => ?_⟩
  · rw [boot_readyBlock] at hq
    simpa using (List.mem_filter.1 hq).2
  · rw [readyBlock_noValues (by exact hvals), reg_clearBlock, if_pos ha]

/-- Settles O29: each event of the clocks and the supply, from what it does. -/
theorem powerResults : Obligations.PowerResults := by
  refine ⟨fun d s hfresh => ⟨clockLoss_stops hfresh, clockLoss_resets hfresh⟩,
    fun d s hlost => ⟨clockDomainReturn_starts hlost, clockDomainReturn_resumes hlost⟩,
    fun k m s hrun => avsEvaluation_results k m hrun, fun p v s hturn => ?writes,
    fun b el s hmem hel => blockPowerReady_results b hmem hel⟩
  case writes =>
    obtain ⟨hlegal, hbad⟩ := marginWrite_results (s.turned p) v
    have hmargin : exec (.pwrMarginWrite p v) s = .next ((s.turned p).marginWrite v) := by
      simp only [exec, execPwrMarginWrite, byParty_of_turnOf hturn]
    have hoff : exec (.pwrOffWrite p v) s = .next ((s.turned p).pwrOffWrite v) := by
      simp only [exec, execPwrOffWrite, byParty_of_turnOf hturn]
    refine ⟨fun h1 h2 => ⟨_, hmargin, hlegal h1 h2⟩, fun h => ⟨_, hmargin, hbad h⟩, fun hidle => ⟨_, hoff, pwrOffWrite_results hidle⟩,
      fun b hb hv hreg hbusy => ⟨_, hoff, ?_⟩⟩
    rw [pwrOffWrite_refused (s := s.turned p) (mem_switchedOff.2 ⟨hb, hv, hreg⟩) hbusy]
    exact ⟨State.reg_orBits_ne _ _ (by decide), (regB_setBitR _ (by decide) _ _ _).trans (if_pos ⟨rfl, rfl⟩)⟩

end Sys2Proof.Machine
end

section
/-! Branches, CALL, RET and BRT (R112 to R117): what each leaves of its engine, then the statement `Obligations.BranchResults`. -/
namespace Sys2Proof.Machine

/-! ### An instruction that sets the program counter -/

/-- R81: inside the budget an instruction that sets the program counter itself is charged its clocks. -/
theorem issue_set {s : State} {x : Guard} {r : Run} {words cyc off : Nat} (h : s.executes x r words cyc)
    {act : State → State × Flow} {t : State} (ht : act s = (t, .set)) : s.issue x true off words cyc act = t.branched x.e cyc := by
  rw [issue_executes h]
  obtain ⟨hrun, -, -, -, -, hbudget⟩ := h
  have hfits : ¬ r.budget < r.count + cyc := by omega
  have hinside : r.count + cyc ≠ r.budget := by omega
  simp only [State.retire, hrun, hfits, ht, hinside, if_false, State.branched]

theorem eng_branched_setEng (s : State) (e n : Nat) (y : Engine) : ((s.setEng e y).branched e n).eng e = y.counted n := by
  rw [State.branched, eng_charge, State.eng_setEng_same]

/-! ### Loops and jumps -/

@[simp] theorem loops_setLoops (y : Engine) (l : List LoopCtx) : (y.setLoops l).loops = l := by
  unfold Engine.setLoops
  split <;> rfl

theorem setLoops_of_calls {y : Engine} {c : CallCtx} {rest : List CallCtx} (h : y.calls = c :: rest) (l : List LoopCtx) :
    y.setLoops l = { y with calls := { c with loops := l } :: rest } := by
  simp only [Engine.setLoops, h]

@[simp] theorem regs_setLoops (y : Engine) (l : List LoopCtx) : (y.setLoops l).regs = y.regs := by
  unfold Engine.setLoops
  split <;> rfl

/-- R116: the loops that a taken branch leaves open. -/
theorem loops_jump (y : Engine) (t : Nat) :
    (y.jump t).loops = y.loops.dropWhile (fun l => !(decide (l.first ≤ t) && decide (t ≤ l.last))) := loops_setLoops y _

theorem regs_jump (y : Engine) (t : Nat) : (y.jump t).regs = y.regs := regs_setLoops y _

/-- R115: where the innermost loop does not end among the words passed, execution goes straight on. -/
theorem loopEnd_outside {pc last : Nat} {l : List LoopCtx} (h : ∀ q ∈ l.head?, ¬ (pc ≤ q.last ∧ q.last ≤ last)) (nxt : Nat) :
    loopEnd pc last nxt l = (nxt, l) := by
  cases l with
  | nil => rfl
  | cons q l => exact if_neg (h q rfl)

/-! ### BR, CALL, RET -/

section
variable {s : State} {e : Nat}

/-- R112: a target in instruction memory. -/
theorem branchTo_taken {t : Nat} (h : t ≤ 32767) : s.branchTo e t = (s.setEng e ((s.eng e).jump t), .set) := if_neg (by omega)

/-- R113, R117: a call to a word of instruction memory, with room on the stack. -/
theorem doCall_taken {d : Nat} (hdepth : (s.eng e).calls.length ≤ 4) (ht : (s.eng e).pc + d ≤ 32767) :
    s.doCall e d = (s.setEng e { s.eng e with
      calls := ⟨some ((s.eng e).pc + 1), []⟩ :: (s.eng e).calls, pc := (s.eng e).pc + d }, .set) :=
  if_neg (by omega)

/-- R113, R117: a return from a call that was not the last word of the loop open around it. -/
theorem doRet_resumes {ra : Nat} {inner : List LoopCtx} {c : CallCtx} {rest : List CallCtx}
    (hcalls : (s.eng e).calls = ⟨some ra, inner⟩ :: c :: rest) (hmid : ∀ l ∈ c.loops.head?, l.last + 1 ≠ ra) (hpos : 0 < ra)
    (hra : ra < 32768) : s.doRet e = (s.setEng e { s.eng e with calls := c :: rest, pc := ra }, .set) := by
  have hend : loopEnd (ra - 1) (ra - 1) (ra % 32768) c.loops = (ra, c.loops) := by
    rw [Nat.mod_eq_of_lt hra]
    exact loopEnd_outside (fun l hl hlast => hmid l hl (by omega)) ra
  have hloops : ({ s.eng e with calls := c :: rest } : Engine).loops = c.loops := rfl
  simp only [State.doRet, hcalls, hloops, hend, setLoops_of_calls (y := { s.eng e with calls := c :: rest }) rfl]

end

theorem dispWf_of_bounds {d : Nat} (hpos : 0 < d) (hd : d < 32768) : dispWf d = true := by simp [dispWf, hpos, hd]

section
variable {x : Guard} {s : State} {r : Run} (h : s.executes x r 1 2)
include h

theorem exec_br_taken {d : Nat} (hpos : 0 < d) (hd : d < 32768) (ht : (s.eng x.e).pc + d ≤ 32767) :
    exec (.br x d) s = .next ((s.setEng x.e ((s.eng x.e).jump ((s.eng x.e).pc + d))).branched x.e 2) := by
  simp only [exec, execBr, dispWf_of_bounds hpos hd]
  rw [issue_set h (branchTo_taken ht)]

theorem exec_call_taken {d : Nat} (hpos : 0 < d) (hd : d < 32768) (ht : (s.eng x.e).pc + d ≤ 32767)
    (hdepth : (s.eng x.e).calls.length ≤ 4) :
    exec (.call x d) s = .next ((s.setEng x.e { s.eng x.e with
      calls := ⟨some ((s.eng x.e).pc + 1), []⟩ :: (s.eng x.e).calls, pc := (s.eng x.e).pc + d }).branched x.e 2) := by
  simp only [exec, execCall, dispWf_of_bounds hpos hd]
  rw [issue_set h (doCall_taken hdepth ht)]

theorem exec_ret_resumes {ra : Nat} {inner : List LoopCtx} {c : CallCtx} {rest : List CallCtx}
    (hcalls : (s.eng x.e).calls = ⟨some ra, inner⟩ :: c :: rest) (hmid : ∀ l ∈ c.loops.head?, l.last + 1 ≠ ra) (hpos : 0 < ra)
    (hra : ra < 32768) :
    exec (.ret x) s = .next ((s.setEng x.e { s.eng x.e with calls := c :: rest, pc := ra }).branched x.e 2) := by
  simp only [exec, execRet]
  rw [issue_set h (doRet_resumes hcalls hmid hpos hra)]

end

/-! ### BRT -/

/-- A word below 2^16 is its own low half. -/
theorem halves_of_lt {w : Word} (h : w.toNat < 65536) : fld w 31 16 = 0 ∧ fld w 15 0 = w.toNat := by
  simp only [fld, bitsOf, Nat.shiftRight_eq_div_pow]
  omega

section
variable {s : State} {e n : Nat} {idx : Word}

/-- R114: the entry that the index selects gives the displacement. -/
theorem doBrt_taken (hidx : idx.toNat < n) {entry : Word}
    (hentry : mgetD (s.eng e).imem (((s.eng e).pc + 1 + idx.toNat) % 32768) 0 = entry)
    (hhalf : entry.toNat < 65536) (hpast : n ≤ entry.toNat) (ht : (s.eng e).pc + 1 + entry.toNat ≤ 32767) :
    s.doBrt e idx n = (s.setEng e ((s.eng e).jump ((s.eng e).pc + 1 + entry.toNat)), .set) := by
  obtain ⟨hhigh, hlow⟩ := halves_of_lt hhalf
  have hgood : ¬ (fld entry 31 16 ≠ 0 ∨ fld entry 15 0 < n) := by omega
  simp only [State.doBrt, hidx, hentry, hgood, if_true, if_false]
  rw [hlow, branchTo_taken ht]

/-- R114: an index past the table passes it. -/
theorem doBrt_passes (hidx : n ≤ idx.toNat) : s.doBrt e idx n = (s, .pass (n + 1)) := if_neg (by omega)

end

theorem exec_brt {x : Guard} {s : State} {r : Run} {n : Nat} (h : s.executes x r 1 3) (wa : RegNo) (hpos : 0 < n) (hn : n ≤ 256) :
    exec (.brt x wa n) s = .next (s.issue x true 3 1 3 fun s => s.doBrt x.e (s.w x.e wa) n) := by
  obtain ⟨-, -, -, hguard, -⟩ := h
  simp only [exec, execBrt, hguard, if_true, decide_eq_true hpos, decide_eq_true hn, Bool.and_self]

/-- Settles O14: what each taken branch leaves of its engine, and the table that an index past it passes. -/
theorem branchResults : Obligations.BranchResults := by
  refine ⟨?forward, ?table⟩
  case forward =>
    intro x s r h y
    refine ⟨fun d hpos hd ht => ⟨_, exec_br_taken h hpos hd ht, ?br⟩,
      fun d hpos hd ht hdepth => ⟨_, exec_call_taken h hpos hd ht hdepth, ?call⟩,
      fun ra inner c rest hcalls hmid hpos hra => ⟨_, exec_ret_resumes h hcalls hmid hpos hra, ?ret⟩⟩
    all_goals rw [eng_branched_setEng]
    case br => exact ⟨rfl, regs_jump y _, loops_jump y _⟩
    case call => exact ⟨rfl, rfl⟩
    case ret => exact ⟨rfl, rfl⟩
  case table =>
    intro x wa n s r h hpos hn y i entry
    rw [exec_brt h wa hpos hn]
    refine ⟨fun hidx hhalf hpast ht => ?taken, fun hidx => ?passed⟩
    case taken =>
      rw [issue_set h (doBrt_taken hidx rfl hhalf hpast ht)]
      refine ⟨_, rfl, ?_⟩
      rw [eng_branched_setEng]
      exact ⟨rfl, regs_jump y _⟩
    case passed => rw [issue_executes h, retire_pass h _ _ s (doBrt_passes hidx)]

end Sys2Proof.Machine
end

section
/-! OWN (R121): a bank passes to its new owner in the act clock; then the statement `Obligations.OwnResults`. -/
namespace Sys2Proof.Machine

/-- R164, R168: passing a bank moves its owner, and of the rest at most the power state of a bank. -/
theorem passBank_eq (s : State) (b o : Nat) :
    ∃ power, s.passBank b o = { s with banks := { s.banks with owner := mput s.banks.owner b o, power := power } } := by
  unfold State.passBank State.startWake
  extract_lets u
  split
  · exact ⟨s.banks.power, rfl⟩
  split
  · exact ⟨mput s.banks.power b .waking, rfl⟩
  · exact ⟨s.banks.power, rfl⟩

theorem owner_passBank (s : State) (b o q : Nat) : (s.passBank b o).owner q = if q = b then o else s.owner q := by
  obtain ⟨power, h⟩ := passBank_eq s b o
  rw [h]
  exact State.owner_setOwner s b q o

/-- Beside the banks an OWN that passes a bank finds every part of the unit as it was. -/
theorem passBank_leaves (s : State) (b o : Nat) :
    (s.passBank b o).engs = s.engs ∧ (s.passBank b o).regs = s.regs ∧ (s.passBank b o).banks.cells = s.banks.cells
      ∧ (s.passBank b o).banks.dram = s.banks.dram := by
  obtain ⟨power, h⟩ := passBank_eq s b o
  rw [h]
  exact ⟨rfl, rfl, rfl, rfl⟩

theorem pred_retired (s : State) (e n w : Nat) : ((s.retired e n w).eng e).pred = (s.eng e).pred := by
  obtain ⟨calls, pc, h⟩ := pass_eq ((s.eng e).counted n) w
  rw [eng_retired, h]; rfl

/-- R121, R579: OWN acts in the last clock of its count. -/
theorem exec_own_reaches {x : Guard} {b : BankNo} {o : Nat} {s0 s : State} {r : Run} (ho : o < 256) {n : Nat}
    (hn : n = 2 + s0.lockExtra x.e) (h : s0.reaches x r 1 n (n - 1) false s) :
    exec (.own x b o) s0 = .next ((s.doOwn x.e b o).retired x.e n 1) := by
  subst hn
  have hlead : 1 + s0.lockExtra x.e = 2 + s0.lockExtra x.e - 1 := by omega
  simp only [exec, execOwn, decide_eq_true ho, hlead]
  rw [issueAt_pass h rfl]

/-- Settles O20: the bank of the running engine passes to a defined owner, anything else is refused. -/
theorem ownResults : Obligations.OwnResults := by
  intro x b o s0 s r n ho hreach
  rw [exec_own_reaches ho rfl hreach]
  refine ⟨fun hown hcode => ?passes, fun h => ?refused⟩
  case passes =>
    rw [show s.doOwn x.e b o = s.passBank b o from if_pos ⟨hown, hcode⟩]
    obtain ⟨hengs, hregs, hcells, hdram⟩ := passBank_leaves s b o
    have heng : (s.passBank b o).eng x.e = s.eng x.e := by rw [State.eng, hengs, State.eng]
    have hreg : ∀ a, ((s.passBank b o).retired x.e n 1).reg a = s.reg a := fun a => by
      rw [reg_retired, State.reg, hregs, State.reg]
    have howner : ∀ q, ((s.passBank b o).retired x.e n 1).owner q = if q = b.val then o else s.owner q := fun q => by
      rw [State.owner, banks_retired]
      exact owner_passBank s b o q
    refine ⟨_, rfl, ?_, fun q hq => ?_, sameBytes_of_eq ?_ ?_, ?_, fun q => ?_, ?_, fun a _ _ => hreg a, ?_, ?_⟩
    · rw [howner, if_pos rfl]
    · rw [howner, if_neg hq]
    · rw [banks_retired, hcells]
    · rw [banks_retired, hdram]
    · rw [esf_retired, heng]
    · rw [w_retired, State.w, heng, State.w]
    · rw [pred_retired, heng]
    · rw [State.ownerOf, State.locked, State.pairOn, State.regB, hreg]; rfl
    · exact ⟨_, run_retired _ _ _ _ (heng ▸ (reaches_executes hreach).1), rfl⟩
  case refused =>
    have hno : ¬ (s.owner b = s.ownerOf x.e ∧ s.ownerCode o = true) := fun hyes =>
      h.elim (· hyes.1) fun hcode => by simp [hcode] at hyes
    rw [show s.doOwn x.e b o = s.esf x.e .own from if_neg hno]

end Sys2Proof.Machine
end

section
/-! SUBMIT.SOL and OPT.RUN (R122, R124, R125, R183, R205, R213, R236): what each leaves when its descriptor passes the checks, then
the statement `Obligations.Submissions`. -/
namespace Sys2Proof.Machine

/-! ### The answer to the engine -/

theorem w_setP (s : State) (e k r : Nat) (b : Bool) : (s.setP e k b).w e r = s.w e r := by
  rw [State.w, State.setP, State.eng_updEng_same, Engine.setP]
  split <;> rfl

theorem runClause_eq {s : State} {e : Nat} {r : Run} (hrun : (s.eng e).run = some r) : s.runClause e = r.clause := by
  rw [State.runClause, hrun]; rfl

@[simp] theorem sol_retired (s : State) (e n w : Nat) : (s.retired e n w).sol = s.sol := by rw [retired_eq_setEng]; rfl
@[simp] theorem opt_retired (s : State) (e n w : Nat) : (s.retired e n w).opt = s.opt := by rw [retired_eq_setEng]; rfl

/-- R124, R125: what an engine reads after it was answered `v` in Wd and `b` in Pd. -/
theorem answer_retired {s u : State} {x : Guard} {d : RegNo} {p : PredNo} {v : Word} {b : Bool}
    (h : u.eng x.e = ((s.setW x.e d v).setP x.e p b).eng x.e) (n words : Nat) :
    (p ≠ 0 → ((u.retired x.e n words).eng x.e).p p = b) ∧ (d ≠ 0 → (u.retired x.e n words).w x.e d = v) := by
  refine ⟨fun hp => ?_, fun hd => ?_⟩
  · rw [p_retired, h, p_setP, if_pos ⟨rfl, fun h0 => hp (Fin.ext h0)⟩]
  · rw [w_retired, State.w, h]
    exact (w_setP _ _ _ _ _).trans ((w_setW _ _ _ _ _).trans (if_pos ⟨rfl, fun h0 => hd (Fin.ext h0)⟩))

/-- The answer moves nothing beside the engine. -/
theorem answered_results (s : State) (x : Guard) (d : RegNo) (p : PredNo) (v : Word) (b : Bool) (n words : Nat) :
    let t := ((s.setW x.e d v).setP x.e p b).retired x.e n words
    (p ≠ 0 → (t.eng x.e).p p = b) ∧ (d ≠ 0 → t.w x.e d = v) ∧ (∀ a, t.reg a = s.reg a) ∧ t.sol = s.sol ∧ t.opt = s.opt
      ∧ t.banks = s.banks := by
  intro t
  obtain ⟨hpred, hreg⟩ := answer_retired (u := (s.setW x.e d v).setP x.e p b) rfl n words
  refine ⟨hpred, hreg, fun a => ?_, ?_, ?_, ?_⟩
  · rw [reg_retired]; rfl
  · rw [sol_retired]; rfl
  · rw [opt_retired]; rfl
  · rw [banks_retired]; rfl

/-- R124, R125: the answer that no ticket was taken; the refusal is counted and its bit set. -/
theorem noTicket_results (s : State) (x : Guard) (d : RegNo) (p : PredNo) (counter sticky i : Nat)
    (hi : i < 32) (hne : counter ≠ sticky) (n words : Nat) :
    let t := (((s.noTicket x.e d p).bump counter).setBitR sticky i).retired x.e n words
    (p ≠ 0 → (t.eng x.e).p p = false) ∧ (d ≠ 0 → t.w x.e d = 0xFFFFFFFF) ∧ t.regB sticky i = true
      ∧ t.reg counter = s.reg counter + 1 ∧ t.sol = s.sol ∧ t.opt = s.opt := by
  intro t
  obtain ⟨hpred, hreg⟩ := answer_retired (s := s) (u := ((s.noTicket x.e d p).bump counter).setBitR sticky i) (x := x) rfl n words
  refine ⟨hpred, hreg, ?_, ?_, ?_, ?_⟩
  · rw [State.regB, reg_retired]
    exact (regB_setBitR _ hi _ _ _).trans (if_pos ⟨rfl, rfl⟩)
  · rw [reg_retired, State.setBitR, State.reg_orBits_ne _ _ hne, State.bump, State.reg_setReg_same]; rfl
  · rw [sol_retired]; rfl
  · rw [opt_retired]; rfl

/-! ### Banks in use -/

/-- R183, R213: the banks of a list marked in use under a tag. -/
def State.marked (s : State) (l : List Nat) (tag : Nat) : State :=
  { s with banks := { s.banks with inUse := s.banks.inUse ++ l.map fun b => (b, tag) } }

theorem foldl_markBank (l : List Nat) (tag : Nat) (s : State) : l.foldl (fun s b => s.markBank b tag) s = s.marked l tag := by
  induction l generalizing s with
  | nil => simp [State.marked]
  | cons b l ih =>
    rw [List.foldl_cons, ih]
    simp [State.marked, State.markBank]

theorem mem_inUse_marked (s : State) {l : List Nat} {b : Nat} (h : b ∈ l) (tag : Nat) : (b, tag) ∈ (s.marked l tag).banks.inUse :=
  List.mem_append_right _ (List.mem_map.2 ⟨b, h, rfl⟩)

theorem bankInUse_of_mem {s : State} {b tag : Nat} (h : (b, tag) ∈ s.banks.inUse) : s.bankInUse b = true :=
  List.any_eq_true.2 ⟨_, h, beq_self_eq_true b⟩

/-! ### SUBMIT.SOL -/

/-- R205: a batch accepted under ticket `k`: the ticket, the batch and its count, the marks of its banks. -/
theorem acceptBatch_results (s : State) (e k bank off count : Nat) :
    let t := s.acceptBatch e k bank off count
    mget t.sol.tickets k = some { count := count }
      ∧ t.reg Reg.SOL_NSUB = s.reg Reg.SOL_NSUB + BitVec.ofNat 32 count
      ∧ t.reg Reg.SOL_NPEND = s.reg Reg.SOL_NPEND + BitVec.ofNat 32 count
      ∧ (∃ y, mget t.sol.batches s.sol.next = some y ∧ y.ticket = k ∧ y.count = count ∧ y.clause = s.runClause e)
      ∧ t.bankInUse bank = true ∧ t.banks.cells = s.banks.cells ∧ t.banks.dram = s.banks.dram := by
  simp only [State.acceptBatch, foldl_markBank]
  refine ⟨mget_mput_same _ _ _, ?_, ?_, ⟨_, mget_mput_same _ _ _, rfl, rfl, rfl⟩,
    bankInUse_of_mem (mem_inUse_marked s List.mem_cons_self (ticketTag k)), rfl, rfl⟩
  · rw [State.bump, State.reg_setReg_ne _ _ (by decide), State.bump, State.reg_setReg_same]; rfl
  · rw [State.bump, State.reg_setReg_same, State.bump, State.reg_setReg_ne _ _ (by decide)]; rfl

/-- R124: a count that a descriptor may give. -/
theorem count_allowed {count : Nat} (hpos : 0 < count) (hmax : count ≤ 256) : (count == 0 || decide (256 < count)) = false := by
  simp only [Bool.or_eq_false_iff, beq_eq_false_iff_ne, decide_eq_false_iff_not]
  omega

section
variable {s : State} {e d p : Nat} {w : Word} {count : Nat} (hcount : fld (s.bankWord (addrBank w) (addrOff w)) 31 23 = count)
  (halign : addrOff w % 4 = 0) (hown : s.owner (addrBank w) = ownSol) (hpos : 0 < count) (hmax : count ≤ 256)
  (hfits : addrOff w + 4 * (8 + 16 * count) ≤ 32768)
include hcount halign hown hpos hmax hfits

/-- R124: a descriptor that passes its checks takes the free ticket. -/
theorem submitSol_accepted {k : Nat} (hfree : s.freeTicket = some k) :
    s.submitSol e d p w = ((s.acceptBatch e k (addrBank w) (addrOff w) count).setW e d (wd k)).setP e p true := by
  simp [State.submitSol, hcount, count_allowed hpos hmax, checkOperand_passes halign hfits hown, OperandCheck.ok, hfree]

/-- R124: with no ticket free nothing is accepted. -/
theorem submitSol_full (hfree : s.freeTicket = none) :
    s.submitSol e d p w = ((s.noTicket e d p).bump Reg.SOL_TFULL).setBitR Reg.SOL_STK 0 := by
  simp [State.submitSol, hcount, count_allowed hpos hmax, checkOperand_passes halign hfits hown, OperandCheck.ok, hfree]

end

/-! ### OPT.RUN -/

/-- The run that the sequencer starts under ticket `k` for engine `e`. -/
def State.newRun (s : State) (e k bank off : Nat) : OptRun :=
  { clause := s.runClause e, seq := s.runSeq e, ticket := k, bank := bank, off := off, grant := (s.reg Reg.OPT_PGRANT).toNat
    limit := s.regF Reg.OPT_FBLIM 7 0, start := s.tb.el }

/-- R213: the banks that a run marks in use: that of its descriptor, those of its blocks and its workspace. -/
def OptHdr.banks (h : OptHdr) (bank : Nat) : List Nat := bank :: (h.blocks.map (fun b => addrBank (h.w b.1)) ++ h.workspace)

/-- R213, R237: the state in which a run has started under ticket `k`, before its engine is answered. -/
def State.started (s : State) (e k bank off : Nat) : State :=
  let u := (s.marked ((s.optHdr bank off).banks bank) (ticketTag k)).updOpt
    (fun q => { q with run := some (s.newRun e k bank off) })
  let u := u.updSol fun q => { q with tickets := mput q.tickets k { seqr := true } }
  let u := u.setReg Reg.OPT_STAT (setFld (setFld (setBit (u.reg Reg.OPT_STAT) 31 true) 23 18 k) 17 12 0)
  (u.bump Reg.OPT_NRUN).bump Reg.OPT_NPEND

theorem bit_setBit_true (w : Word) {i : Nat} (hi : i < 32) : bit (setBit w i true) i = true := by
  have h := fld_setFld_same w 1 (Nat.le_refl i) hi
  rw [fld, bitsOf, Nat.add_sub_cancel_left, Nat.shiftRight_eq_div_pow] at h
  rw [bit, Nat.testBit_eq_decide_div_mod_eq]
  exact decide_eq_true h

theorem started_results (s : State) (e k bank off : Nat) :
    let t := s.started e k bank off
    t.opt.run = some (s.newRun e k bank off) ∧ t.regB Reg.OPT_STAT 31 = true ∧ t.bankInUse bank = true := by
  intro t
  have hbanks : t.banks = (s.marked ((s.optHdr bank off).banks bank) (ticketTag k)).banks := by simp [t, State.started, State.bump]
  have hrun : t.opt.run = some (s.newRun e k bank off) := by simp [t, State.started, State.bump, State.updOpt]
  refine ⟨hrun, ?stat, ?use⟩
  case stat =>
    simp only [t, State.started, State.bump]
    rw [State.regB, State.reg_setReg_ne _ _ (by decide), State.reg_setReg_ne _ _ (by decide), State.reg_setReg_same,
      bit_setFld_outside _ _ (by decide) (.inr (by decide)), bit_setFld_outside _ _ (by decide) (.inr (by decide))]
    exact bit_setBit_true _ (by decide)
  case use =>
    refine bankInUse_of_mem (tag := ticketTag k) ?_
    rw [hbanks]
    exact mem_inUse_marked s List.mem_cons_self (ticketTag k)

section
variable {s : State} {e d p : Nat} {w : Word} (halign : addrOff w % 4 = 0) (hown : s.owner (addrBank w) = ownOpt)
  (hfits : addrOff w + 80 ≤ 32768) (hsize : s.optSizeBad (s.optHdr (addrBank w) (addrOff w)) = false)
include halign hown hfits hsize

/-- R125, R236: an idle sequencer starts the run. -/
theorem optStart_accepted {k : Nat} (hidle : s.opt.run = none) (hclk : s.opt.endClk ≠ some s.clk) (hfree : s.freeTicket = some k) :
    s.optStart e d p w = ((s.started e k (addrBank w) (addrOff w)).setW e d (wd k)).setP e p true := by
  simp only [State.optStart, checkOperand_passes halign hfits hown, OperandCheck.ok, hsize, hidle, hclk, hfree, foldl_markBank,
    Bool.not_false, Bool.and_self, Bool.and_false, Bool.or_self, Bool.not_true, Bool.false_eq_true, Option.isSome_none, if_false]
  rfl

/-- R236: a sequencer that runs, or whose run completed in this clock, refuses it. -/
theorem optStart_busy (hbusy : s.opt.run ≠ none ∨ s.opt.endClk = some s.clk) :
    s.optStart e d p w = ((s.noTicket e d p).bump Reg.OPT_NBUSY).setBitR Reg.OPT_STK 6 := by
  have hnone : (if s.opt.endClk = some s.clk then none else if s.opt.run.isSome then none else s.freeTicket) = none := by
    split
    · rfl
    next hclk => exact if_pos (Option.isSome_iff_ne_none.2 (hbusy.resolve_right hclk))
  simp [State.optStart, checkOperand_passes halign hfits hown, OperandCheck.ok, hsize, hnone]

end

/-! ### The act clock, and the statement -/

/-- R124: SUBMIT.SOL acts in the last clock of its count. -/
theorem exec_submitSol_reaches {x : Guard} {d : RegNo} {p : PredNo} {wa : RegNo} {s0 s : State} {r : Run}
    (h : s0.reaches x r 1 (4 + s0.lockExtra x.e) (3 + s0.lockExtra x.e) false s) :
    exec (.submitSol x d p wa) s0 = .next ((s.submitSol x.e d p (s.w x.e wa)).retired x.e (4 + s0.lockExtra x.e) 1) :=
  congrArg Host.Outcome.next (issueAt_pass h rfl)

/-- R125: OPT.RUN acts in the last clock of its count. -/
theorem exec_optRun_reaches {x : Guard} {d : RegNo} {p : PredNo} {wa : RegNo} {s0 s : State} {r : Run}
    (h : s0.reaches x r 1 (4 + s0.lockExtra x.e) (3 + s0.lockExtra x.e) false s) :
    exec (.optRun x d p wa) s0 = .next ((s.optStart x.e d p (s.w x.e wa)).retired x.e (4 + s0.lockExtra x.e) 1) :=
  congrArg Host.Outcome.next (issueAt_pass h rfl)

/-- Settles O21: each command acts in its last clock, and there takes the free ticket or answers that none was taken. -/
theorem submissions : Obligations.Submissions := by
  intro x d p wa s0 s r w count hreach halign
  have hclause := runClause_eq (reaches_executes hreach).1
  refine ⟨fun hown hpos hmax hfits => ?solver, fun hown hfits hsize => ?sequencer⟩
  case solver =>
    rw [exec_submitSol_reaches hreach]
    refine ⟨fun k hfree => ⟨_, rfl, ?_⟩, fun hfree => ⟨_, rfl, ?_⟩⟩
    · rw [submitSol_accepted rfl halign hown hpos hmax hfits hfree]
      obtain ⟨hpred, hwd, hreg, hsol, -, hbanks⟩ :=
        answered_results (s.acceptBatch x.e k (addrBank w) (addrOff w) count) x d p (wd k) true (4 + s0.lockExtra x.e) 1
      obtain ⟨hticket, hnsub, hnpend, ⟨y, hy, hyt, hyc, hycl⟩, huse, hcells, hdram⟩ :=
        acceptBatch_results s x.e k (addrBank w) (addrOff w) count
      rw [hreg, hreg, hsol, State.bankInUse, hbanks]
      exact ⟨hpred, hwd, hticket, hnsub, hnpend, ⟨y, hy, hyt, hyc, hycl.trans hclause⟩, huse,
        sameBytes_of_eq (hbanks ▸ hcells) (hbanks ▸ hdram)⟩
    · rw [submitSol_full rfl halign hown hpos hmax hfits hfree]
      obtain ⟨hpred, hreg, hstk, hfull, hsol, -⟩ := noTicket_results s x d p Reg.SOL_TFULL Reg.SOL_STK 0 (by decide) (by decide)
        (4 + s0.lockExtra x.e) 1
      exact ⟨hpred, hreg, hstk, hfull, hsol⟩
  case sequencer =>
    rw [exec_optRun_reaches hreach]
    refine ⟨fun k hidle hclk hfree => ⟨_, rfl, ?_⟩, fun hbusy => ⟨_, rfl, ?_⟩⟩
    · rw [optStart_accepted halign hown hfits hsize hidle hclk hfree]
      obtain ⟨hpred, hwd, hreg, -, hopt, hbanks⟩ :=
        answered_results (s.started x.e k (addrBank w) (addrOff w)) x d p (wd k) true (4 + s0.lockExtra x.e) 1
      obtain ⟨hrun, hstat, huse⟩ := started_results s x.e k (addrBank w) (addrOff w)
      rw [State.regB, hreg, hopt, State.bankInUse, hbanks]
      exact ⟨hpred, hwd, ⟨_, hrun, rfl, hclause, rfl, rfl⟩, hstat, huse⟩
    · rw [optStart_busy halign hown hfits hsize hbusy]
      obtain ⟨hpred, hreg, hstk, hcount, -, hopt⟩ := noTicket_results s x d p Reg.OPT_NBUSY Reg.OPT_STK 6 (by decide) (by decide)
        (4 + s0.lockExtra x.e) 1
      exact ⟨hpred, hreg, hstk, hcount, hopt⟩

end Sys2Proof.Machine
end

section
/-! The state right after reset (R139, R165, R545, R584): the Reset columns of the ports of SCH, then the statement
`Obligations.ResetState`. -/
namespace Sys2Proof.Machine

/-- R9: of the registers of SCH only SCH_PLCTL has a Reset column other than 0. -/
theorem rst_regsSch : ∀ d ∈ regsSch, d.base = 0x0C0A ∧ d.dims = [] ∨ fieldsWord d.fields (fun f => f.rst) = 0 := by decide

/-- A register that is no family has one port. -/
theorem eq_base_of_covers {d : RegDesc} {a : Nat} (hdims : d.dims = []) (h : d.covers a = true) : a = d.base := by
  simp only [RegDesc.covers, hdims, dimIndices, Bool.and_eq_true, decide_eq_true_eq] at h
  obtain ⟨hle, hoff⟩ := h
  split at hoff
  case isTrue => omega
  case isFalse => exact nomatch hoff

/-- R9: behind SCH_PLCTL every port of SCH holds 0 after a reset. -/
theorem resetWord_sch {a : Nat} (hlo : 0x0C0A < a) (hhi : a < 0x1000) : resetWord a = 0 := by
  have hblock : regsAt a = regsSch := by
    have h1 : ¬ a < 0x400 := by omega
    have h2 : ¬ a < 0x800 := by omega
    have h3 : ¬ a < 0xC00 := by omega
    simp only [regsAt, h1, h2, h3, hhi, if_false, if_true]
  unfold resetWord
  cases hd : regDesc a with
  | none => rfl
  | some d =>
    rw [regDesc, hblock] at hd
    rcases rst_regsSch d (List.mem_of_find?_eq_some hd) with ⟨hbase, hdims⟩ | hrst
    · have hcovers : d.covers a = true := List.find?_some (p := fun d : RegDesc => d.covers a) hd
      have := eq_base_of_covers hdims hcovers
      omega
    · exact hrst

/-- R9: no clause and no group is in force after a reset. -/
theorem resetWord_clause {c : Nat} (h : c < 256) : resetWord (Reg.SCH_CDA c) = 0 :=
  resetWord_sch (by unfold Reg.SCH_CDA; omega) (by unfold Reg.SCH_CDA; omega)

theorem resetWord_group {g : Nat} (h : g < 16) : resetWord (Reg.SCH_GAX g) = 0 :=
  resetWord_sch (by unfold Reg.SCH_GAX; omega) (by unfold Reg.SCH_GAX; omega)

/-- Settles O60: the fresh state lists nothing, so each reading is that of an empty table. -/
theorem resetState : Obligations.ResetState := by
  have hgroup : ∀ g, g < 16 → State.reset.groupEn g = false := fun g hg => by
    have hword : State.reset.reg (Reg.SCH_GAX g) = 0 := resetWord_group hg
    rw [State.groupEn, State.regB, hword]
    rfl
  exact ⟨⟨rfl, rfl, rfl⟩, rfl, fun _ => rfl, fun _ => rfl, fun _ => ⟨rfl, rfl⟩, fun _ => rfl, hgroup, by decide, rfl⟩

end Sys2Proof.Machine
end

section
/-! Axes (R142, R143, R145, R545, R591): what a move of an axis leaves alone, the axis tick axis by axis, then the statement
`Obligations.AxisResults`. -/
namespace Sys2Proof.Machine

open State (Leaves)

/-! ### Records -/

/-- A record is made of writes of registers, of bits that hardware sets, and of changes of the recorder's state. -/
theorem enter_leaves {β : Type} {p : State → β} (hreg : ∀ (u : State) a v, Leaves p u (u.setReg a v))
    (hbits : ∀ (u : State) a m, Leaves p u (u.orBits a m)) (hevr : ∀ (u : State) x, Leaves p u { u with evr := x }) (fuel : Nat) :
    ∀ (s : State) (part : Nat) (b : RecBody), Leaves p s (s.enter part b fuel) := by
  induction fuel with
  | zero => exact fun s _ _ => .refl s
  | succ fuel ih =>
    intro s part b
    unfold State.enter
    extract_lets -lift +onlyGivenNames hit slot r src s1 s2
    have h2 : Leaves p s s2 := .after (hreg _ _ _) (.after (hreg _ _ _) (hevr s _))
    clear_value s2 s1 r slot
    cases slot with
    | none => exact .ite (.after (hbits _ _ _) (.after (hreg _ _ _) h2)) h2
    | some k =>
      dsimp only
      generalize State.intakePart _ false = o
      have h4 : ∀ sl v w, Leaves p s
          ((({ s2 with evr := { s2.evr with slots := mput s2.evr.slots k sl } } : State).setReg (Reg.EVR_FST k) v).setReg
            (Reg.EVR_FSTL k) w) := fun _ _ _ => .after (hreg _ _ _) (.after (hreg _ _ _) (.after (hevr _ _) h2))
      cases o with
      | some q => exact .after (ih _ _ _) (h4 _ _ _)
      | none => exact .after (hbits _ _ _) (.after (hreg _ _ _) (.after (hevr _ _) (h4 _ _ _)))

/-- R145: a record is no axis write. -/
theorem ticked_record (s : State) (n : RecName) (el : Nat) (items : List Nat) : (s.record n el items).now.ticked = s.now.ticked := by
  unfold State.record State.accept
  split
  · rfl
  · split
    · rfl
    · split
      · exact (enter_leaves (p := fun u => u.now.ticked)
          (fun _ _ _ => ⟨rfl⟩) (fun _ _ _ => ⟨rfl⟩) (fun _ _ => ⟨rfl⟩) 5 s _ _).eq
      · rfl

/-! ### Ports of the scheduler -/

/-- The ports of SCH from SCH_AXSRC on: sources and rates of the axes, compare units, groups and clauses. -/
def State.schPorts (s : State) (a : Nat) : Word := if 0x0C10 ≤ a ∧ a < 0x1000 then s.reg a else 0

theorem schPorts_congr {s t : State} (h : ∀ a, 0x0C10 ≤ a → a < 0x1000 → t.reg a = s.reg a) : t.schPorts = s.schPorts := by
  funext a
  unfold State.schPorts
  split
  case isTrue ha => exact h a ha.1 ha.2
  case isFalse => rfl

theorem reg_of_schPorts {s t : State} (h : t.schPorts = s.schPorts) {a : Nat} (hlo : 0x0C10 ≤ a) (hhi : a < 0x1000) :
    t.reg a = s.reg a := by
  have := congrFun h a
  simpa only [State.schPorts, hlo, hhi, and_self, if_true] using this

theorem schPorts_setBitR (s : State) {a : Nat} (i : Nat) (h : a < 0x0C10 ∨ 0x1000 ≤ a) : (s.setBitR a i).schPorts = s.schPorts :=
  schPorts_congr fun _ _ _ => State.reg_orBits_ne s _ (by omega)

theorem schPorts_record (s : State) (n : RecName) (el : Nat) (items : List Nat) : (s.record n el items).schPorts = s.schPorts :=
  schPorts_congr fun _ _ _ => reg_record s n el items (not_recorderPort (by omega))

/-! ### What an axis tick reads -/

/-- What no move of an axis touches, and an axis tick reads: the time count, what the start-up keeps, whether the unit schedules, the
axis writes noted (R145), and the registers of the axes. -/
def State.tickView (s : State) : Timebase × Boot × Bool × SMap Nat × (Nat → Word) :=
  (s.tb, s.boot, s.sched.on, s.now.ticked, s.schPorts)

theorem tickView_fields {s t : State} (h : Leaves State.tickView s t) : t.tb = s.tb ∧ t.boot = s.boot ∧ t.sched.on = s.sched.on
    ∧ t.now.ticked = s.now.ticked ∧ t.schPorts = s.schPorts := by
  simpa only [State.tickView, Prod.mk.injEq] using h.eq

/-! ### A move of an axis -/

/-- What an axis tick reads, and the axes. -/
def State.axisView (s : State) : (Timebase × Boot × Bool × SMap Nat × (Nat → Word)) × SMap Axis := (s.tickView, s.sched.axes)

theorem setBitR_leaves_axisView (s : State) {a : Nat} (i : Nat) (h : a < 0x0C10) : Leaves State.axisView s (s.setBitR a i) :=
  ⟨by rw [State.axisView, State.tickView, schPorts_setBitR s i (.inl h)]; rfl⟩

theorem record_leaves_axisView (s : State) (n : RecName) (el : Nat) (items : List Nat) :
    Leaves State.axisView s (s.record n el items) :=
  ⟨by simp only [State.axisView, State.tickView, tb_record, boot_record, sched_record, ticked_record, schPorts_record]⟩

theorem evalAxis_leaves_axisView (s : State) (n : Nat) (jump : Bool) : Leaves State.axisView s (s.evalAxis n jump) :=
  .after (.foldl fun _ _ => ⟨rfl⟩) (.foldl fun _ _ => ⟨rfl⟩)

/-- R142 to R144: beside the position, a move sets flags, records a jump, and evaluates compare units and full stops. -/
theorem moveAxis_leaves_axisView (s : State) (n : Nat) (pos : Word) :
    Leaves State.axisView (s.updAxis n (fun a => { a with pos := pos })) (s.moveAxis n pos) := by
  unfold State.moveAxis
  extract_lets -lift +onlyGivenNames old d jump s1 s2 s3
  have h2 : Leaves State.axisView s1 s2 := .ite (setBitR_leaves_axisView s1 _ (by decide)) (.refl s1)
  have h3 : Leaves State.axisView s1 s3 := .ite (.after (record_leaves_axisView _ _ _ _)
    (.after (setBitR_leaves_axisView s2 _ (by decide)) h2)) h2
  exact .after (evalAxis_leaves_axisView s3 n jump) h3

theorem moveAxis_leaves_tickView (s : State) (n : Nat) (pos : Word) : Leaves State.tickView s (s.moveAxis n pos) :=
  ⟨congrArg Prod.fst (moveAxis_leaves_axisView s n pos).eq⟩

theorem axis_moveAxis (s : State) (n q : Nat) (pos : Word) :
    (s.moveAxis n pos).axis q = if q = n then { s.axis n with pos := pos } else s.axis q := by
  have haxes : (s.moveAxis n pos).sched.axes = (s.updAxis n (fun a => { a with pos := pos })).sched.axes :=
    congrArg Prod.snd (moveAxis_leaves_axisView s n pos).eq
  rw [State.axis, haxes]
  exact State.axis_updAxis s n q _

theorem updAxis_leaves_tickView (s : State) (n : Nat) (f : Axis → Axis) : Leaves State.tickView s (s.updAxis n f) := ⟨rfl⟩

theorem followSource_leaves_tickView (s : State) (n : Nat) : Leaves State.tickView s (s.followSource n) :=
  .ite (.after (moveAxis_leaves_tickView _ _ _) (updAxis_leaves_tickView s n _)) (.refl s)

theorem axis_followSource_ne (s : State) {n q : Nat} (h : q ≠ n) : (s.followSource n).axis q = s.axis q := by
  unfold State.followSource
  split
  · rw [axis_moveAxis, if_neg h, State.axis_updAxis, if_neg h]
  · rfl

/-- R142, R143: an axis that is not in loss takes the position of a source that is valid. -/
theorem axis_followSource_same {s : State} {n : Nat} (hvalid : s.axisSourceValid n = true) (hlost : (s.axis n).lost = false) :
    ((s.followSource n).axis n).valid = true ∧ ((s.followSource n).axis n).lost = false
      ∧ ((s.followSource n).axis n).pos = (s.updAxis n (fun a => { a with valid := true })).axisSourcePos n := by
  have hfollow : s.followSource n = (s.updAxis n (fun a => { a with valid := true })).moveAxis n
      ((s.updAxis n (fun a => { a with valid := true })).axisSourcePos n) := if_pos (by simp [hvalid, hlost])
  rw [hfollow, axis_moveAxis, if_pos rfl, State.axis_updAxis, if_pos rfl]
  exact ⟨rfl, hlost, rfl⟩

/-- R142: an update that keeps the position of an axis keeps that of its source. -/
theorem axisSourcePos_updAxis {s : State} {n : Nat} {f : Axis → Axis} (h : (f (s.axis n)).pos = (s.axis n).pos) :
    (s.updAxis n f).axisSourcePos n = s.axisSourcePos n := by
  have hpos : ((s.updAxis n f).axis n).pos = (s.axis n).pos := by rw [State.axis_updAxis, if_pos rfl, h]
  unfold State.axisSourcePos
  rw [hpos]
  rfl

/-! ### The axis tick -/

/-- R142, R591: one axis at an axis tick. -/
def State.tickAxis (s : State) (n : Nat) : State :=
  if n = 0 then s
  else match s.regF (Reg.SCH_AXSRC n) 6 4 with
    | 2 => s.followSource n
    | 3 => s.followSource n
    | 4 =>
      let s := s.updAxis n (fun a => { a with valid := true })
      if mget s.now.ticked n = some (s.tb.t / 1000) then s else s.moveAxis n ((s.axis n).pos + s.reg (Reg.SCH_AXRATE n))
    | _ => s

theorem tickAxes_eq (s : State) : s.tickAxes = (List.range 8).foldl State.tickAxis s := rfl

theorem tickAxis_leaves_tickView (s : State) (n : Nat) : Leaves State.tickView s (s.tickAxis n) := by
  unfold State.tickAxis
  refine .ite (.refl s) ?_
  split
  · exact followSource_leaves_tickView s n
  · exact followSource_leaves_tickView s n
  · exact .ite ⟨rfl⟩ (.after (moveAxis_leaves_tickView _ _ _) ⟨rfl⟩)
  · exact .refl s

theorem axis_tickAxis_ne (s : State) {n q : Nat} (h : q ≠ n) : (s.tickAxis n).axis q = s.axis q := by
  have hupd : ∀ f, (s.updAxis n f).axis q = s.axis q := fun f => by rw [State.axis_updAxis, if_neg h]
  unfold State.tickAxis
  split
  · rfl
  · split
    · exact axis_followSource_ne s h
    · exact axis_followSource_ne s h
    · dsimp only
      split
      · exact hupd _
      · rw [axis_moveAxis, if_neg h, hupd]
    · rfl

/-- R142: a virtual axis that has not moved with this tick advances by its rate. -/
theorem pos_tickAxis_virtual {s : State} {n : Nat} (hn : n ≠ 0) (hsrc : s.regF (Reg.SCH_AXSRC n) 6 4 = 4)
    (hnew : mget s.now.ticked n ≠ some (s.tb.t / 1000)) :
    ((s.tickAxis n).axis n).pos = (s.axis n).pos + s.reg (Reg.SCH_AXRATE n) := by
  have hstep : s.tickAxis n = (s.updAxis n (fun a => { a with valid := true })).moveAxis n
      (((s.updAxis n (fun a => { a with valid := true })).axis n).pos + s.reg (Reg.SCH_AXRATE n)) := by
    unfold State.tickAxis
    rw [if_neg hn, hsrc]
    exact if_neg hnew
  rw [hstep, axis_moveAxis, if_pos rfl, State.axis_updAxis, if_pos rfl]

/-- A fold in which one element's step makes `Q` of `P`, and the others keep both. -/
theorem foldl_once {α σ : Type} {P Q : σ → Prop} {f : σ → α → σ} {l : List α} {a : α} {s : σ} (hl : l.Nodup)
    (ha : a ∈ l) (hs : P s) (hP : ∀ u b, b ≠ a → P u → P (f u b)) (hstep : ∀ u, P u → Q (f u a))
    (hQ : ∀ u b, b ≠ a → Q u → Q (f u b)) : Q (l.foldl f s) := by
  obtain ⟨l₁, l₂, rfl⟩ := List.append_of_mem ha
  obtain ⟨-, hl₂, hne⟩ := List.nodup_append.1 hl
  rw [List.foldl_append, List.foldl_cons]
  exact foldl_keeps Q f l₂ _
    (hstep _ (foldl_keeps P f l₁ s hs fun u b hb => hP u b (hne b hb a (List.mem_cons_self ..))))
    fun u b hb => hQ u b fun hba => (List.nodup_cons.1 hl₂).1 (hba ▸ hb)

theorem tickAxes_leaves_tickView (s : State) : Leaves State.tickView s s.tickAxes := by
  rw [tickAxes_eq]
  exact .foldl tickAxis_leaves_tickView

theorem pos_tickAxes_virtual {s : State} {n : Nat} (hn : n ≠ 0) (hlt : n < 8) (hsrc : s.regF (Reg.SCH_AXSRC n) 6 4 = 4)
    (hnew : mget s.now.ticked n ≠ some (s.tb.t / 1000)) :
    (s.tickAxes.axis n).pos = (s.axis n).pos + s.reg (Reg.SCH_AXRATE n) := by
  rw [tickAxes_eq]
  refine foldl_once (P := fun u => Leaves State.tickView s u ∧ u.axis n = s.axis n)
    (Q := fun u => (u.axis n).pos = (s.axis n).pos + s.reg (Reg.SCH_AXRATE n)) List.nodup_range (List.mem_range.2 hlt)
    ⟨.refl s, rfl⟩ (fun u k hk hu => ⟨.after (tickAxis_leaves_tickView u k) hu.1, (axis_tickAxis_ne u hk.symm).trans hu.2⟩)
    (fun u hu => ?_) (fun u k hk hu => by rw [axis_tickAxis_ne u hk.symm, hu])
  obtain ⟨hview, haxis⟩ := hu
  obtain ⟨htb, -, -, hticked, hports⟩ := tickView_fields hview
  have hsrc' : u.reg (Reg.SCH_AXSRC n) = s.reg (Reg.SCH_AXSRC n) :=
    reg_of_schPorts hports (by unfold Reg.SCH_AXSRC; omega) (by unfold Reg.SCH_AXSRC; omega)
  have hrate : u.reg (Reg.SCH_AXRATE n) = s.reg (Reg.SCH_AXRATE n) :=
    reg_of_schPorts hports (by unfold Reg.SCH_AXRATE; omega) (by unfold Reg.SCH_AXRATE; omega)
  rw [← haxis, ← hrate]
  exact pos_tickAxis_virtual hn (by rw [State.regF, hsrc']; exact hsrc) (by rw [hticked, htb]; exact hnew)

/-! ### Scheduling starts (R545) -/

/-- R149, R545: the groups are armed, and nothing else moves. -/
theorem startScheduling_leaves (s : State) : Leaves (fun u => (u.tb, u.sched.axes)) s s.startScheduling := by
  unfold State.startScheduling
  exact .ite (.after (.foldl fun _ _ => ⟨rfl⟩) ⟨rfl⟩) (.refl s)

theorem on_startScheduling {s : State} (h : s.boot.stage = .running) : s.startScheduling.sched.on = true := by
  unfold State.startScheduling
  split
  case isTrue =>
    exact (State.Leaves.foldl (p := fun u => u.sched.on) (f := fun s g => s.armGroup g) fun _ _ => ⟨rfl⟩).eq
  case isFalse hon => simpa [h] using hon

/-! ### The statement -/

/-- R342, R591: the unit with the tick of this instant taken down. -/
def State.tickTaken (s : State) : State :=
  { s with tb := { s.tb with lastTick := s.tb.t / 1000 }, pair := { s.pair with pulseEl := s.tb.el, quiet := false } }

theorem exec_axisTick {s : State} (h : s.tb.lastTick < s.tb.t / 1000) : exec .axisTick s
    = .next s.tickTaken.tickAxes.startScheduling :=
  congrArg Host.Outcome.next (if_pos h)

theorem exec_axisLoss {n : AxisNo} {s : State} (hn : n ≠ 0) (hsrc : s.regF (Reg.SCH_AXSRC n) 6 4 ≠ 0)
    (hreal : s.regF (Reg.SCH_AXSRC n) 6 4 ≠ 4) (hvalid : (s.axis n).valid = true) (hgone : s.axisSourceValid n = false) :
    exec (.axisLoss n) s = .next (((s.updAxis n (fun a => { a with valid := false, lost := true })).setBitR
      Reg.SCH_AXSTK n).record .axisLoss n [n.val]) :=
  congrArg Host.Outcome.next (if_pos ⟨Fin.val_ne_of_ne hn, hsrc, hreal, hvalid, hgone⟩)

theorem exec_axisRestore {n : AxisNo} {s : State} (hn : n ≠ 0) (hlost : (s.axis n).lost = true)
    (hvalid : s.axisSourceValid n = true) : exec (.axisRestore n) s = .next
      (((s.updAxis n (fun a => { a with lost := false })).followSource n).record .axisRestore n [n.val]) :=
  congrArg Host.Outcome.next (if_pos ⟨Fin.val_ne_of_ne hn, hlost, hvalid⟩)

theorem axis_record (s : State) (n : RecName) (el : Nat) (items : List Nat) (q : Nat) : (s.record n el items).axis q = s.axis q := by
  rw [State.axis, sched_record]
  rfl

/-- Settles O27: the tick axis by axis, the loss of a source, and its return, in which the axis follows the source again. -/
theorem axisResults : Obligations.AxisResults := by
  refine ⟨fun s htick => ?tick, fun n s hn hsrc hreal hvalid hgone => ?loss, fun n s hn hlost hvalid => ?restore⟩
  case tick =>
    obtain ⟨htb, hboot, -⟩ := tickView_fields (tickAxes_leaves_tickView s.tickTaken)
    obtain ⟨htb', haxes⟩ := Prod.mk.inj (startScheduling_leaves s.tickTaken.tickAxes).eq
    refine ⟨_, exec_axisTick htick, by rw [htb', htb]; rfl, fun hrun => on_startScheduling (by rw [hboot]; exact hrun),
      fun n hpos hlt hsrc hnew => ?_⟩
    rw [State.axis, haxes]
    exact pos_tickAxes_virtual (s := s.tickTaken) (by omega) hlt hsrc hnew
  case loss =>
    refine ⟨_, exec_axisLoss hn hsrc hreal hvalid hgone, ?_⟩
    have haxis := State.axis_updAxis s n n (fun a => { a with valid := false, lost := true })
    rw [if_pos rfl] at haxis
    rw [axis_record, State.setBitR, State.axis_orBits, haxis, State.regB, reg_record _ _ _ _ (not_recorderPort (by decide))]
    refine ⟨rfl, rfl, ?_, rfl⟩
    exact (regB_setBitR _ (by omega) _ _ _).trans (if_pos ⟨rfl, rfl⟩)
  case restore =>
    refine ⟨_, exec_axisRestore hn hlost hvalid, ?_⟩
    have hfound : ((s.updAxis n (fun a => { a with lost := false })).axis n).lost = false := by rw [State.axis_updAxis, if_pos rfl]
    obtain ⟨hv, hl, hp⟩ := axis_followSource_same (s := s.updAxis n (fun a => { a with lost := false })) hvalid hfound
    rw [axis_record]
    exact ⟨hv, hl, by rw [hp, axisSourcePos_updAxis rfl, axisSourcePos_updAxis rfl]⟩

end Sys2Proof.Machine
end

section
/-! What a sample of the loop engine leaves of the scheduler (R239 to R241, R250 to R252, R264). -/
namespace Sys2Proof.Machine

/-- The scheduler, and the ports of its block from SCH_AXSRC on. -/
def State.scheduler (s : State) : Sched × (Nat → Word) := (s.sched, s.schPorts)

section
variable (s : State)

@[simp] theorem scheduler_ite (c : Prop) [Decidable c] (a b : State) :
    (if c then a else b).scheduler = if c then a.scheduler else b.scheduler := apply_ite State.scheduler c a b

/-- A fold leaves what every step leaves. -/
@[simp] theorem scheduler_foldl {α : Type} {f : State → α → State} (h : ∀ u a, (f u a).scheduler = u.scheduler) (l : List α) :
    (l.foldl f s).scheduler = s.scheduler := by
  induction l generalizing s with
  | nil => rfl
  | cons a l ih => rw [List.foldl_cons, ih, h]

/-! ### Registers, records, banks and slots -/

theorem scheduler_setReg {a : Nat} (v : Word) (h : a < 0x0C10 ∨ 0x1000 ≤ a) : (s.setReg a v).scheduler = s.scheduler :=
  congrArg (Prod.mk s.sched) (schPorts_congr fun _ _ _ => State.reg_setReg_ne s v (by omega))

theorem scheduler_setBitR {a : Nat} (i : Nat) (h : a < 0x0C10 ∨ 0x1000 ≤ a) : (s.setBitR a i).scheduler = s.scheduler :=
  congrArg (Prod.mk s.sched) (schPorts_setBitR s i h)

theorem scheduler_putBitR {a : Nat} (i : Nat) (b : Bool) (h : a < 0x0C10 ∨ 0x1000 ≤ a) :
    (s.putBitR a i b).scheduler = s.scheduler := by
  cases b
  · exact scheduler_setReg s _ h
  · exact scheduler_setBitR s i h

@[simp] theorem scheduler_record (n : RecName) (el : Nat) (items : List Nat) : (s.record n el items).scheduler = s.scheduler := by
  rw [State.scheduler, sched_record, schPorts_record, State.scheduler]

@[simp] theorem scheduler_updSlot (n f) : (s.updSlot n f).scheduler = s.scheduler := (rfl)
@[simp] theorem scheduler_touch (b) : (s.touch b).scheduler = s.scheduler := (rfl)
@[simp] theorem scheduler_storeWords (a ws) : (s.storeWords a ws).scheduler = s.scheduler := (rfl)
@[simp] theorem scheduler_unmarkTag (t) : (s.unmarkTag t).scheduler = s.scheduler := (rfl)

/-! ### The ports of the loop engine -/

@[simp] theorem scheduler_setLpeStk (n i) : (s.setBitR (Reg.LPE_STK n) i).scheduler = s.scheduler :=
  scheduler_setBitR s i (.inr (by unfold Reg.LPE_STK; omega))

@[simp] theorem scheduler_slotStat (n) : (s.slotStat n).scheduler = s.scheduler :=
  scheduler_setReg s _ (.inr (by unfold Reg.LPE_STAT; omega))

/-! ### Reads of the banks -/

@[simp] theorem scheduler_noteParity (a n) : (s.noteParity a n).1.scheduler = s.scheduler := by
  have hword : ∀ (u : State) (w : Nat),
      ((u.bumpF Reg.MBK_PERR 31 24).setRegF Reg.MBK_PERR 20 0 w).scheduler = u.scheduler := fun u w =>
    (scheduler_setReg _ _ (.inl (by decide))).trans (scheduler_setReg u _ (.inl (by decide)))
  refine (scheduler_foldl _ (fun u w => ?_) _).trans ?_
  · rw [scheduler_record, scheduler_setBitR _ _ (.inl (by decide)), hword]
  · simp

@[simp] theorem scheduler_readSource (code par) : (s.readSource code par).scheduler = s.scheduler := by
  simp [State.readSource, State.readWords]

/-! ### Swaps, adjustments, escalation -/

@[simp] theorem scheduler_refuseSwap (n) : (s.refuseSwap n).scheduler = s.scheduler := by simp [State.refuseSwap]

@[simp] theorem scheduler_takePage (n) : (s.takePage n).scheduler = s.scheduler := by simp [State.takePage]

@[simp] theorem scheduler_groupBoundary (n) : (s.groupBoundary n).scheduler = s.scheduler := by simp [State.groupBoundary]

@[simp] theorem scheduler_swapBoundary (n inst) : (s.swapBoundary n inst).scheduler = s.scheduler := by
  unfold State.swapBoundary
  extract_lets refs u
  have hu : u.scheduler = s.scheduler := scheduler_foldl s scheduler_groupBoundary _
  clear_value u
  split <;> simp [hu]

@[simp] theorem scheduler_publishLoop (c v) : (s.publishLoop c v).scheduler = s.scheduler := by
  refine (rfl : _ = State.scheduler (ite _ _ _)).trans ?_
  rw [scheduler_ite, scheduler_setBitR _ _ (.inr (by decide)), ite_self, scheduler_putBitR _ _ _ (.inr (by decide))]
  exact scheduler_setReg s v (.inr (by unfold Reg.CLO_CMD; omega))

@[simp] theorem scheduler_publishSlot (n u) : (s.publishSlot n u).scheduler = s.scheduler := by
  unfold State.publishSlot
  extract_lets v t d b
  have hout : t.scheduler = s.scheduler := scheduler_setReg s v (.inr (by unfold Reg.LPE_OUT; omega))
  clear_value t
  split
  · exact (scheduler_publishLoop t _ v).trans hout
  · rw [scheduler_ite, scheduler_storeWords, scheduler_setLpeStk, ite_self, hout]
  · exact hout

@[simp] theorem scheduler_checkEscalate (n) : (s.checkEscalate n).scheduler = s.scheduler := by
  simp [State.checkEscalate, State.escalate]

@[simp] theorem scheduler_applyImage (n a) : (s.applyImage n a).scheduler = s.scheduler := by
  unfold State.applyImage
  extract_lets ws u b
  rw [scheduler_ite, scheduler_unmarkTag, ite_self]
  exact (scheduler_updSlot _ n _).trans (scheduler_noteParity s _ _)

@[simp] theorem scheduler_applyAdjust (n) : (s.applyAdjust n).scheduler = s.scheduler := by
  simp [State.applyAdjust]

/-! ### Samples -/

@[simp] theorem scheduler_sampleSlot (n inst) : (s.sampleSlot n inst).scheduler = s.scheduler := by simp [State.sampleSlot]

/-- R240: what the loop engine takes from a compare fire is no matter of the scheduler. -/
theorem scheduler_compareSamples (k : Nat) : (s.compareSamples k).scheduler = s.scheduler := by
  have hlate : ∀ (u : State) n, ((u.setBitR (Reg.LPE_STK n) 10).bump Reg.LPE_NTLOST).scheduler = u.scheduler := fun u n =>
    (scheduler_setReg _ _ (.inr (by decide))).trans (scheduler_setLpeStk u n 10)
  simp [State.compareSamples, hlate]

end

end Sys2Proof.Machine
end

section
/-! Triggers (R138, R141, R148, R154): what making a clause ready does, the three kinds of trigger, then the statement
`Obligations.TriggersMakeReady`. -/
namespace Sys2Proof.Machine

open State (Leaves)

/-! ### Ready clauses (R138) -/

/-- Clause `c` has no pending execution. -/
def State.notReady (s : State) (c : Nat) : Prop := s.sched.ready.any (fun r => r.clause == c) = false

theorem notReady_iff {s : State} {c : Nat} : s.notReady c ↔ ∀ q ∈ s.sched.ready, q.clause ≠ c := by
  simp [State.notReady]

section
variable {s : State} {c : Nat} {t : TrigInfo}

theorem makeReady_idle (hen : s.clauseEn c = true) (hgroup : s.groupEn (s.clauseGroup c) = true) (hidle : s.notReady c) :
    s.makeReady c t = { s with sched := { s.sched with ready := s.sched.ready ++ [{ clause := c, trig := t }] } } := by
  unfold State.notReady at hidle
  simp [State.makeReady, hen, hgroup, hidle]

theorem makeReady_pending (hen : s.clauseEn c = true) (hgroup : s.groupEn (s.clauseGroup c) = true) (hpend : ¬ s.notReady c) :
    s.makeReady c t = s.updCounts c (fun x => { x with trigLost := (x.trigLost + 1) % 65536 }) := by
  have hpend' : s.sched.ready.any (fun r => r.clause == c) = true := by simpa only [State.notReady, Bool.not_eq_false] using hpend
  simp [State.makeReady, hen, hgroup, hpend']

/-- R138: after a trigger an enabled clause of an enabled group is ready. -/
theorem makeReady_ready (hen : s.clauseEn c = true) (hgroup : s.groupEn (s.clauseGroup c) = true) :
    ∃ q ∈ (s.makeReady c t).sched.ready, q.clause = c := by
  by_cases hidle : s.notReady c
  · rw [makeReady_idle hen hgroup hidle]
    exact ⟨⟨c, t⟩, by simp, rfl⟩
  · rw [makeReady_pending hen hgroup hidle]
    show ∃ q ∈ s.sched.ready, q.clause = c
    simpa [notReady_iff] using hidle

/-- R138: a trigger drops no pending execution, and adds at most its own. -/
theorem mem_ready_makeReady {q : ReadyEntry} (hq : q ∈ s.sched.ready) : q ∈ (s.makeReady c t).sched.ready := by
  unfold State.makeReady
  split
  · exact hq
  · split
    · exact hq
    · exact List.mem_append_left _ hq

theorem of_mem_ready_makeReady {q : ReadyEntry} (hq : q ∈ (s.makeReady c t).sched.ready) :
    q ∈ s.sched.ready ∨ q = { clause := c, trig := t } := by
  unfold State.makeReady at hq
  split at hq
  · exact .inl hq
  · split at hq
    · exact .inl hq
    · simpa using hq

theorem makeReady_leaves (s : State) (c : Nat) (t : TrigInfo) :
    Leaves (fun u => (u.regs, u.sched.cmp, u.sched.groups)) s (s.makeReady c t) := by
  unfold State.makeReady
  exact .ite (.refl s) (.ite ⟨rfl⟩ ⟨rfl⟩)

theorem group_makeReady (s : State) (c g : Nat) (t : TrigInfo) : (s.makeReady c t).group g = s.group g :=
  congrArg (fun q : SMap Word × SMap CompareUnit × SMap Group => mgetD q.2.2 g {}) (makeReady_leaves s c t).eq

end

/-! ### The periodic trigger (R141) -/

theorem turnDiff_nonneg {a b : Word} (h : (a - b).msb = false) : 0 ≤ turnDiff a b := by
  rw [turnDiff, BitVec.toInt_eq_toNat_of_msb h]
  exact Int.natCast_nonneg _

theorem exec_periodicTrigger {c : ClauseNo} {s : State} {at_ : Word} (hen : s.clauseEn c = true)
    (hgroup : s.groupEn (s.clauseGroup c) = true) (hat : mget (s.group (s.clauseGroup c)).trigNext c = some at_)
    (hon : s.sched.on = true) (htype : s.clauseType c = 0) (haxis : s.groupAxis (s.clauseGroup c) = 0)
    (hdue : (s.tmbNs - at_).msb = false) (hno : s.noStep) : exec (.periodicTrigger c) s
      = .next ((s.makeReady c (s.latchTrig 0 at_ 0 0xFFFFFFFF)).updGroup (s.clauseGroup c) (fun x =>
        { x with trigNext := mput x.trigNext c (at_ + s.reg (Reg.SCH_GPER (s.clauseGroup c))) })) := by
  refine congrArg Host.Outcome.next ?_
  extract_lets g next
  have hnext : next = at_ := by unfold next; rw [mgetD, hat]; rfl
  rw [hnext, if_pos (by simp [g, hon, hen, hgroup, htype, haxis, turnDiff_nonneg hdue]), inStep_of_noStep hno]

/-! ### The compare fire (R148) -/

theorem exists_mem_of_mget {α : Type} {m : SMap α} {k : Nat} (h : mget m k ≠ none) : ∃ v, (k, v) ∈ m := by
  induction m with
  | nil => exact absurd rfl h
  | cons p t ih =>
    obtain ⟨q, w⟩ := p
    by_cases hq : q = k
    · exact ⟨w, by simp [hq]⟩
    · obtain ⟨v, hv⟩ := ih (by simpa [mget, hq] using h)
      exact ⟨v, List.mem_cons_of_mem _ hv⟩

/-- A descriptor that does not hold its reset word is listed. -/
theorem mem_listed {s : State} {base stride count i : Nat} (hstride : 0 < stride) (hi : i < count)
    (hw : s.reg (base + stride * i) ≠ resetWord (base + stride * i)) : i ∈ s.listed base stride count := by
  obtain ⟨v, hv⟩ : ∃ v, (base + stride * i, v) ∈ s.regs :=
    exists_mem_of_mget fun hnone => hw (by rw [State.reg, mgetD, hnone]; rfl)
  have hlt : stride * i < stride * count := Nat.mul_lt_mul_of_pos_left hi hstride
  refine List.mem_filterMap.2 ⟨_, hv, ?_⟩
  rw [if_pos ⟨by simp, by simpa using hlt, by simp⟩]
  simp [Nat.mul_div_cancel_left i hstride]

/-- A clause that is enabled is listed: its reset word disables it. -/
theorem mem_clauses {s : State} {c : Nat} (hc : c < 256) (hen : s.clauseEn c = true) : c ∈ s.clauses := by
  refine mem_listed (by decide) hc fun hword => ?_
  have hzero : s.reg (Reg.SCH_CDA c) = 0 := hword.trans (resetWord_clause hc)
  rw [State.clauseEn, State.regB, hzero] at hen
  exact absurd hen (by decide)

/-- R148: a fire is taken, and counted. -/
def State.fireTaken (s : State) (k : Nat) : State :=
  ({ s with sched := { s.sched with cmp := mput s.sched.cmp k { mgetD s.sched.cmp k {} with fire := false } } } : State).bumpF
    (Reg.SCH_CMPC k) 7 0

/-- R148: the clauses that compare unit `k` triggers. -/
def State.compareClauses (s : State) (k : Nat) : List Nat :=
  s.clauses.filter (fun c => s.clauseEn c && s.clauseType c == 1 && s.regF (Reg.SCH_CDC c) 4 0 == k)

/-- R148: they are made ready with the unit's position. -/
def State.fireClauses (s : State) (k : Nat) : State :=
  (s.compareClauses k).foldl (fun s c => s.makeReady c (s.latchTrig 1 (s.reg (Reg.SCH_CMPP k)) 0 0xFFFFFFFF)) s

theorem exec_compareFire {k : Fin 32} {s : State} (hen : s.regB (Reg.SCH_CMPC k) 31 = true)
    (hfire : (mgetD s.sched.cmp k {}).fire = true) (hfirst : s.fireFirst k = true) (hno : s.noStep) :
    exec (.compareFire k) s = .next ((((s.fireTaken k).fireClauses k).fireUnits k).compareSamples k) := by
  refine congrArg Host.Outcome.next ?_
  dsimp only
  rw [if_pos (by simp [hen, hfire, hfirst]), inStep_of_noStep hno]
  rfl

theorem fireClauses_leaves (s : State) (k : Nat) : Leaves (fun u => (u.regs, u.sched.cmp, u.sched.groups)) s (s.fireClauses k) :=
  .foldl fun u c => makeReady_leaves u c _

theorem regs_makeReady (s : State) (c : Nat) (t : TrigInfo) : (s.makeReady c t).regs = s.regs :=
  congrArg Prod.fst (makeReady_leaves s c t).eq

theorem reg_of_regs {s u : State} (h : u.regs = s.regs) (a : Nat) : u.reg a = s.reg a := by rw [State.reg, h]; rfl

/-- Whether a clause and its group are in force is a matter of ports from SCH_GAX on. -/
theorem clauseOn_congr {s u : State} (h : ∀ a, 0x0C80 ≤ a → u.reg a = s.reg a) (c : Nat) :
    u.clauseEn c = s.clauseEn c ∧ u.groupEn (u.clauseGroup c) = s.groupEn (s.clauseGroup c) := by
  have hclause : u.reg (Reg.SCH_CDA c) = s.reg (Reg.SCH_CDA c) := h _ (by unfold Reg.SCH_CDA; omega)
  have hgroup : ∀ g, u.reg (Reg.SCH_GAX g) = s.reg (Reg.SCH_GAX g) := fun g => h _ (by unfold Reg.SCH_GAX; omega)
  simp only [State.clauseEn, State.groupEn, State.clauseGroup, State.regB, State.regF, hclause, hgroup, and_self]

/-- The registers of `u` are those of `s`, and an execution of clause `c` that was not pending in `s` has `v` for W3. -/
def State.firedWith (s : State) (c : Nat) (v : Word) (u : State) : Prop :=
  u.regs = s.regs ∧ ∀ q ∈ u.sched.ready, q.clause = c → s.notReady c → q.trig.w3 = v

theorem firedWith_fireClauses (s : State) (k c : Nat) : s.firedWith c (s.reg (Reg.SCH_CMPP k)) (s.fireClauses k) := by
  refine foldl_keeps (s.firedWith c (s.reg (Reg.SCH_CMPP k))) _ _ s
    ⟨rfl, fun q hq hc hidle => absurd hc (notReady_iff.1 hidle q hq)⟩ fun u d _ hu => ?_
  obtain ⟨hregs, hvalue⟩ := hu
  refine ⟨(regs_makeReady u d _).trans hregs, fun q hq => ?_⟩
  rcases of_mem_ready_makeReady hq with hq | rfl
  · exact hvalue q hq
  · exact fun _ _ => reg_of_regs hregs _

/-- R148: a clause that the unit triggers is ready afterwards, with the unit's position if it was not ready before. -/
theorem fireClauses_ready {s : State} {k c : Nat} (hmem : c ∈ s.compareClauses k) (hen : s.clauseEn c = true)
    (hgroup : s.groupEn (s.clauseGroup c) = true) :
    ∃ q ∈ (s.fireClauses k).sched.ready, q.clause = c ∧ (s.notReady c → q.trig.w3 = s.reg (Reg.SCH_CMPP k)) := by
  obtain ⟨hregs, hvalue⟩ := firedWith_fireClauses s k c
  obtain ⟨q, hq, hqc⟩ : ∃ q ∈ (s.fireClauses k).sched.ready, q.clause = c := by
    refine foldl_establishes (fun d (u : State) => d = c → u.regs = s.regs → ∃ q ∈ u.sched.ready, q.clause = c) _ s
      (fun u d _ hd hu => ?_) (fun u d b hb hbc hu => ?_) c hmem rfl hregs
    · subst hd
      obtain ⟨hen', hgroup'⟩ := clauseOn_congr (fun a _ => reg_of_regs ((regs_makeReady u d _).symm.trans hu) a) d
      exact makeReady_ready (hen'.trans hen) (hgroup'.trans hgroup)
    · obtain ⟨q, hq, hqc⟩ := hb hbc ((regs_makeReady u d _).symm.trans hu)
      exact ⟨q, mem_ready_makeReady hq, hqc⟩
  exact ⟨q, hq, hqc, hvalue q hq hqc⟩

theorem reg_fireTaken_ne (s : State) {k a : Nat} (h : a ≠ Reg.SCH_CMPC k) : (s.fireTaken k).reg a = s.reg a :=
  State.reg_setReg_ne _ _ h

/-- The ports of groups and clauses lie behind those of the compare units. -/
theorem reg_fireTaken_high (s : State) {k a : Nat} (hk : k < 32) (ha : 0x0C80 ≤ a) : (s.fireTaken k).reg a = s.reg a :=
  reg_fireTaken_ne s (by unfold Reg.SCH_CMPC; omega)

theorem mem_compareClauses_fireTaken {s : State} {k c : Nat} (hk : k < 32) (hc : c < 256) (hen : s.clauseEn c = true)
    (htype : s.clauseType c = 1) (hunit : s.regF (Reg.SCH_CDC c) 4 0 = k) : c ∈ (s.fireTaken k).compareClauses k := by
  have hdesc : ∀ a, 0x0C80 ≤ a → (s.fireTaken k).reg a = s.reg a := fun _ => reg_fireTaken_high s hk
  have hen' : (s.fireTaken k).clauseEn c = true := (clauseOn_congr hdesc c).1.trans hen
  have htype' : (s.fireTaken k).clauseType c = 1 := by
    rw [State.clauseType, State.regF, hdesc _ (by unfold Reg.SCH_CDA; omega)]; exact htype
  have hunit' : (s.fireTaken k).regF (Reg.SCH_CDC c) 4 0 = k := by
    rw [State.regF, hdesc _ (by unfold Reg.SCH_CDC; omega)]; exact hunit
  exact List.mem_filter.2 ⟨mem_clauses hc hen', by simp [hen', htype', hunit']⟩

/-- R148, R240, R338: what the fire leaves of the unit, and of the ready clauses beside those it triggers. -/
theorem compareFire_leaves (s : State) {k : Nat} (hk : k < 32) :
    let t := (((s.fireTaken k).fireClauses k).fireUnits k).compareSamples k
    (mgetD t.sched.cmp k {}).fire = false ∧ t.regF (Reg.SCH_CMPC k) 7 0 = (s.regF (Reg.SCH_CMPC k) 7 0 + 1) % 256
      ∧ t.sched.ready = ((s.fireTaken k).fireClauses k).sched.ready := by
  intro t
  obtain ⟨hsched, hports⟩ := Prod.mk.inj (scheduler_compareSamples (((s.fireTaken k).fireClauses k).fireUnits k) k)
  obtain ⟨hregs, hrest⟩ := Prod.mk.inj (fireClauses_leaves (s.fireTaken k) k).eq
  have hcmp : t.sched.cmp = (s.fireTaken k).sched.cmp := (congrArg Sched.cmp hsched).trans (congrArg Prod.fst hrest)
  have hreg : t.reg (Reg.SCH_CMPC k) = (s.fireTaken k).reg (Reg.SCH_CMPC k) :=
    (reg_of_schPorts hports (by unfold Reg.SCH_CMPC; omega) (by unfold Reg.SCH_CMPC; omega)).trans
      (reg_of_regs (s := s.fireTaken k) hregs _)
  refine ⟨?_, ?_, (congrArg Sched.ready hsched).trans rfl⟩
  · rw [hcmp]
    exact congrArg CompareUnit.fire (mgetD_mput_same s.sched.cmp k _ _)
  · rw [State.regF, hreg]
    exact regF_setRegF_same _ _ _ (by decide) (by decide)

/-! ### The conjunction (R154, R155) -/

theorem filterMap_of_map_some {α β : Type} {f : α → Option β} {l : List α} {m : List β} (h : l.map f = m.map some) :
    l.filterMap f = m := by
  have hmap : l.filterMap f = (l.map f).filterMap id := by rw [List.filterMap_map]; rfl
  rw [hmap, h, List.filterMap_map]
  exact List.filterMap_some

theorem exec_conjunctionReady {c : ClauseNo} {s : State} {ends : List EndState} (hen : s.clauseEn c = true)
    (htype : s.clauseType c = 3) (hnames : s.conjNames c ≠ [])
    (hends : (s.conjNames c).map (s.group (s.clauseGroup c)).endOf = ends.map some)
    (hpast : ∀ n ∈ s.conjNames c, (s.counts n).endClk < s.clk)
    (hnew : (s.group (s.clauseGroup c)).conjFired.contains c.val = false) : exec (.conjunctionReady c) s
      = .next ((s.makeReady c (s.latchTrig 3 0 (cjstWord ends) 0xFFFFFFFF)).updGroup (s.clauseGroup c)
        (fun x => { x with conjFired := x.conjFired ++ [c.val] })) := by
  have hlen : ends.length = (s.conjNames c).length := by simpa using (congrArg List.length hends).symm
  have hall : (s.conjNames c).all (fun n => decide ((s.counts n).endClk < s.clk)) = true := by simpa using hpast
  have hsome : (s.conjNames c).isEmpty = false := by simpa using hnames
  refine congrArg Host.Outcome.next ?_
  extract_lets g names met
  have hmet : met = ends := filterMap_of_map_some hends
  rw [hmet, if_pos]
  simp only [g, names, hen, htype, hsome, hlen, hnew, hall, beq_self_eq_true, Bool.not_false, Bool.and_self]

/-! ### The statement -/

/-- Settles O25: each trigger makes its clause ready and moves its own schedule, unit or list of conjunctions. -/
theorem triggersMakeReady : Obligations.TriggersMakeReady := by
  intro c s hen hgroup g idle
  have hready : ∀ (t : TrigInfo) (f : Group → Group), idle →
      ((s.makeReady c t).updGroup g f).sched.ready = s.sched.ready ++ [{ clause := c, trig := t }] := fun t f hidle => by
    rw [makeReady_idle hen hgroup hidle]; rfl
  refine ⟨fun at_ hat hon htype haxis hdue hno => ?periodic, fun k htype hunit hon hfire hfirst hno => ?compare,
    fun ends htype hnames hends hpast hnew => ?conjunction⟩
  case periodic =>
    refine ⟨_, exec_periodicTrigger hen hgroup hat hon htype haxis hdue hno, ?_,
      fun hidle => ⟨_, hready _ _ hidle, rfl, rfl⟩, fun hpend => ?_⟩
    · rw [State.group_updGroup_same]
      exact mget_mput_same _ _ _
    · rw [makeReady_pending hen hgroup hpend]
      rw [counts_updGroup, State.counts_updCounts, if_pos rfl]
      exact ⟨rfl, rfl⟩
  case compare =>
    obtain ⟨hen', hgroup'⟩ := clauseOn_congr (fun _ => reg_fireTaken_high s k.isLt) c
    obtain ⟨hcleared, hcount, hlist⟩ := compareFire_leaves s k.isLt
    obtain ⟨q, hq, hqc, hqv⟩ := fireClauses_ready (mem_compareClauses_fireTaken k.isLt c.isLt hen htype hunit) (hen'.trans hen)
      (hgroup'.trans hgroup)
    rw [reg_fireTaken_ne s (by unfold Reg.SCH_CMPP Reg.SCH_CMPC; omega)] at hqv
    exact ⟨_, exec_compareFire hon hfire hfirst hno, hcleared, hcount, q, by rw [hlist]; exact hq, hqc, hqv⟩
  case conjunction =>
    refine ⟨_, exec_conjunctionReady hen htype hnames hends hpast hnew, ?_, fun hidle => ⟨_, hready _ _ hidle, rfl, rfl⟩⟩
    rw [State.group_updGroup_same, group_makeReady]

end Sys2Proof.Machine
end

section
/-! Banks (R164, R166, R168, R169, R172): what a write of MBK_OWN, a rest, a wake and a scrub of bulk memory leave; then the
statement `Obligations.BankResults`. -/
namespace Sys2Proof.Machine

open State (Leaves)

/-! ### MBK_OWN (R164, R166) -/

/-- R166: the flag of a refused access stands in an engine or in the ports of CLE, not in the banks. -/
@[simp] theorem banks_partyEsf (s : State) (p : Party) (b : EsfBit) : (s.partyEsf p b).banks = s.banks := by
  cases p with
  | svc g => rfl
  | eng e =>
    simp only [State.partyEsf, State.lateEsf]
    split
    · rfl
    · split <;> rfl

/-- R166: by its owner, party `p` may pass bank `b`: an engine one that is its own or no engine's, the service protocol, at
commissioner level, one that is no engine's. -/
def State.mayPass (s : State) (b : Nat) : Party → Prop
  | .eng e => ¬ s.owner b < 8 ∨ s.owner b = s.ownerOf e.val
  | .svc _ => 8 ≤ s.owner b ∧ 2 ≤ s.svcLevel

theorem mbkOwn_passes {s : State} {p : Party} {v : Word} (hmay : s.mayPass (fld v 21 16) p)
    (hcode : s.ownerCode (fld v 15 8) = true) (hring : s.isRing (fld v 21 16) = false) (hdma : s.dmaHolds (fld v 21 16) = false)
    (huse : s.bankInUse (fld v 21 16) = false) : s.mbkOwn p v s.svcLevel = s.passBank (fld v 21 16) (fld v 15 8) := by
  cases p with
  | eng e =>
    have hright : (decide (s.owner (fld v 21 16) < 8) && s.owner (fld v 21 16) != s.ownerOf e.val) = false := by
      rcases hmay with h | h <;> simp [h]
    simp [State.mbkOwn, hright, hcode, hring, hdma, huse]
  | svc g =>
    obtain ⟨hown, hlevel⟩ := hmay
    simp [State.mbkOwn, Nat.not_lt.2 hown, Nat.not_lt.2 hlevel, hcode, hring, hdma, huse]

theorem mbkOwn_inUse {s : State} {v : Word} (p : Party) (level : Nat) (huse : s.bankInUse (fld v 21 16) = true) :
    s.mbkOwn p v level = (s.setBitR Reg.MBK_STK 0).partyEsf p .own := by
  simp [State.mbkOwn, huse]

theorem exec_mbkOwnWrite {s : State} {p : Party} (h : s.turnOf p = true) (v : Word) :
    exec (.mbkOwnWrite p v) s = .next ((s.turned p).mbkOwn p v s.svcLevel) :=
  congrArg Host.Outcome.next (byParty_of_turnOf h _)

/-! ### Rest and wake (R168, R169) -/

/-- R168: the bank goes into power state `w`. -/
def State.powered (s : State) (b : Nat) (w : BankPower) : State :=
  { s with banks := { s.banks with power := mput s.banks.power b w } }

theorem bankAsleep_powered (s : State) (b : Nat) (w : BankPower) : (s.powered b w).bankAsleep b = (w != .awake) := by
  simp [State.bankAsleep, State.powered]

theorem powered_leaves_stores (s : State) (b : Nat) (w : BankPower) : Leaves State.stores s (s.powered b w) := ⟨rfl⟩

/-- R168: a bank that lies idle long enough goes into retention. -/
theorem exec_bankRetentionEntry {b : BankNo} {s : State} (hen : s.regB Reg.MBK_RETCTL 31 = true)
    (howner : s.restOwner (s.owner b) = true) (hkept : s.keptAwake b = false) (hring : s.isRing b = false)
    (hpower : mget s.banks.power b = none)
    (hidle : mgetD s.banks.lastUse b 0 + 400 * s.regF Reg.MBK_RETCTL 15 0 ≤ s.clk) :
    exec (.bankRetentionEntry b) s = .next (s.powered b .retention) := by
  have hawake : mgetD s.banks.power b .awake = .awake := by rw [mgetD, hpower]; rfl
  refine congrArg Host.Outcome.next (if_pos ?_)
  simp [hen, howner, hkept, hring, hawake, hidle]

theorem exec_bankWake {b : BankNo} {s : State} (h : s.bankAsleep b = true) :
    exec (.bankWake b) s = .next (s.powered b .awake) :=
  congrArg Host.Outcome.next (if_pos h)

/-! ### Errors of bulk memory (R172) -/

theorem dramCe_leaves_stores (s : State) (n : Nat) : Leaves State.stores s (s.dramCe n) := .ite (.refl s) ⟨rfl⟩

theorem dramCe_results {n : Nat} (s : State) (h : n ≠ 0) :
    (s.dramCe n).regB Reg.MBK_STK 2 = true ∧ (s.dramCe n).regF Reg.MBK_ECC 31 16 = (s.regF Reg.MBK_ECC 31 16 + n) % 65536
      ∧ (s.dramCe n).health = s.health := by
  rw [State.dramCe, if_neg h]
  refine ⟨(regB_setBitR _ (by decide) _ _ _).trans (if_pos ⟨rfl, rfl⟩), ?_, rfl⟩
  rw [State.regF, State.setBitR, State.reg_orBits_ne _ _ (by decide)]
  exact regF_setRegF_same s _ _ (by decide) (by decide)

theorem dramUe_eq (s : State) (a : Nat) : ∃ l p, l ≠ [] ∧ s.dramUe a
    = { ((s.bumpF Reg.MBK_ECC 15 0).setBitR Reg.MBK_STK 3).record .dramUe 0 [a] with health := l, pair := p } := addHealth_eq _ _

theorem dramUe_leaves_stores (s : State) (a : Nat) : Leaves State.stores s (s.dramUe a) := by
  obtain ⟨l, p, -, h⟩ := dramUe_eq s a
  rw [h]
  exact stores_of_banks ⟨banks_record _ _ _ _⟩

theorem dramUe_results (s : State) (a : Nat) : (s.dramUe a).regB Reg.MBK_STK 3 = true ∧ (s.dramUe a).healthy = false := by
  obtain ⟨l, p, hl, h⟩ := dramUe_eq s a
  rw [h]
  refine ⟨(setBitR_record_results .dramUe 0 [a] rfl (not_recorderPort (by decide)) (by decide)).1, ?_⟩
  simpa [State.healthy] using hl

/-- R172: the words that a scrub finds beyond correction, noted once each. -/
def State.noteDramBad (s : State) (ue : List Nat) : State :=
  { s with banks := { s.banks with dramBad := ue.foldl (fun l a => if l.contains a then l else l ++ [a]) s.banks.dramBad } }

theorem exec_dramScrub (ce : Nat) (ue : List Nat) (s : State) :
    exec (.dramScrub ce ue) s = .next ((ue.foldl (fun s a => s.dramUe a) (s.dramCe ce)).noteDramBad ue) := rfl

theorem mem_noteDramBad (s : State) (a : Nat) : (s.noteDramBad [a]).banks.dramBad.contains a = true := by
  change (if s.banks.dramBad.contains a then s.banks.dramBad else s.banks.dramBad ++ [a]).contains a = true
  split
  case isTrue h => exact h
  case isFalse => simp

/-! ### The statement -/

/-- Settles O31: MBK_OWN passes a bank that may pass and refuses one in use, banks rest and wake, and a scrub counts what it
corrected and makes the unit unhealthy by what it could not. -/
theorem bankResults : Obligations.BankResults := by
  refine ⟨?own, fun b s hen howner hkept hring hpower hidle => ?rest, fun b s hasleep => ?wake,
    fun ce s hce => ?corrected, fun a s => ?uncorrectable⟩
  case own =>
    intro p v s b hturn allowed
    refine ⟨fun hmay hcode hring hdma huse => ⟨_, exec_mbkOwnWrite hturn v, ?_⟩, fun huse => ⟨_, exec_mbkOwnWrite hturn v, ?_⟩⟩
    · have hmay' : (s.turned p).mayPass b p := by cases p <;> exact hmay
      obtain ⟨-, -, hcells, hdram⟩ := passBank_leaves (s.turned p) b (fld v 15 8)
      have howner := owner_passBank (s.turned p) b (fld v 15 8)
      rw [show (s.turned p).mbkOwn p v s.svcLevel = _ from mbkOwn_passes hmay' hcode hring hdma huse]
      exact ⟨(howner b).trans (if_pos rfl), fun q hq => (howner q).trans (if_neg hq), sameBytes_of_eq hcells hdram⟩
    · rw [mbkOwn_inUse (s := s.turned p) p _ huse]
      refine ⟨fun q => by rw [State.owner, banks_partyEsf]; rfl, ?_⟩
      rw [State.regB, reg_partyEsf_of_lt _ _ _ (by decide)]
      exact (regB_setBitR _ (by decide) _ _ _).trans (if_pos ⟨rfl, rfl⟩)
  case rest =>
    exact ⟨_, exec_bankRetentionEntry hen howner hkept hring hpower hidle, bankAsleep_powered s b .retention,
      sameBytes_of_leaves (powered_leaves_stores s b _)⟩
  case wake =>
    exact ⟨_, exec_bankWake hasleep, bankAsleep_powered s b .awake, sameBytes_of_leaves (powered_leaves_stores s b _)⟩
  case corrected =>
    obtain ⟨hbit, hcount, hhealth⟩ := dramCe_results s hce
    exact ⟨_, exec_dramScrub ce [] s, hbit, hcount, hhealth, sameBytes_of_leaves (dramCe_leaves_stores s ce)⟩
  case uncorrectable =>
    obtain ⟨hbit, hhealthy⟩ := dramUe_results s a
    exact ⟨_, exec_dramScrub 0 [a] s, hbit, hhealthy, mem_noteDramBad (s.dramUe a) a⟩

end Sys2Proof.Machine
end

section
/-! DMA transfers (R173, R174): a START accepted and one refused, and the bytes a transfer moves; then the statement
`Obligations.DmaResults`. -/
namespace Sys2Proof.Machine

open State (Leaves)

/-! ### A copy between byte stores -/

/-- `n` bytes copied from `b` of one store to `a` of another read at `a` as at `b`, and nothing else changes. -/
theorem cellGet_copy {m : List Host.Cell} (h : cellsWf m = true) (src : List Host.Cell) (a b n : Nat) :
    (∀ i < n, cellGet (cellsPut m a (cellsGet src b n)) (a + i) = cellGet src (b + i))
      ∧ ∀ q, q < a ∨ a + n ≤ q → cellGet (cellsPut m a (cellsGet src b n)) q = cellGet m q := by
  refine ⟨fun i hi => ?_, fun q hq => cellGet_cellsPut_out m a q _ h (by rwa [length_cellsGet])⟩
  rw [cellGet_cellsPut m a _ _ h, length_cellsGet, if_pos (by omega), Nat.add_sub_cancel_left]
  simp [cellsGet, hi]

/-! ### START (R173) -/

@[simp] theorem dmaCh_setDma_same (s : State) (n : Nat) (c : DmaChan) : (s.setDma n c).dmaCh n = c := mgetD_mput_same _ _ _ _

@[simp] theorem dmaCh_setReg (s : State) (a n : Nat) (v : Word) : (s.setReg a v).dmaCh n = s.dmaCh n := rfl

@[simp] theorem dmaCh_partyEsf (s : State) (p : Party) (b : EsfBit) (n : Nat) : (s.partyEsf p b).dmaCh n = s.dmaCh n := by
  rw [State.dmaCh, banks_partyEsf]; rfl

theorem regF_setReg_ne (s : State) {a b : Nat} (v : Word) (hi lo : Nat) (h : b ≠ a) :
    (s.setReg a v).regF b hi lo = s.regF b hi lo := by
  rw [State.regF, State.reg_setReg_ne _ _ h, State.regF]

/-- R173: the transfer from bulk memory to a bank that a START with word `v` begins on channel `ch`. -/
def State.toBank (s : State) (ch : Nat) (v : Word) : DmaChan :=
  { pending := true, group := fld v 28 25, left := fld v 24 21, hb := bit v 16, hcl := fld v 15 8, dir := 0
    far := s.regF (Reg.MBK_DA ch) 28 0 / 4 * 4, len := s.regF (Reg.MBK_DB ch) 31 19 + 1
    bank := s.regF (Reg.MBK_DB ch) 18 13, woff := s.regF (Reg.MBK_DB ch) 12 0
    refusedNow := (s.dmaCh ch).refusedNow, refGroup := (s.dmaCh ch).refGroup }

/-- R173: a START whose operands pass, on a channel without a transfer that owns the bank, is accepted. -/
theorem dmaStart_accepted {s : State} {ch : Nat} {v : Word} (p : Party) (hstart : bit v 31 = true) (hch : ch ≠ 3)
    (hdir : fld v 30 29 = 0) (hlag : fld v 24 21 ≠ 0)
    (hbank : s.regF (Reg.MBK_DB ch) 12 0 + (s.regF (Reg.MBK_DB ch) 31 19 + 1) ≤ 8192)
    (hfar : s.regF (Reg.MBK_DA ch) 28 0 / 4 * 4 + 4 * (s.regF (Reg.MBK_DB ch) 31 19 + 1) ≤ 536870912)
    (hidle : (s.dmaCh ch).pending = false) (hown : s.owner (s.regF (Reg.MBK_DB ch) 18 13) = 0x38 + ch) :
    s.dmaStart p ch v = (s.setReg (Reg.MBK_DC ch) (v &&& 0x7FE1FF00)).setDma ch (s.toBank ch v) := by
  have hda := fun w hi lo => regF_setReg_ne s w hi lo (show Reg.MBK_DA ch ≠ Reg.MBK_DC ch by unfold Reg.MBK_DA Reg.MBK_DC; omega)
  have hdb := fun w hi lo => regF_setReg_ne s w hi lo (show Reg.MBK_DB ch ≠ Reg.MBK_DC ch by unfold Reg.MBK_DB Reg.MBK_DC; omega)
  simp [State.dmaStart, State.toBank, hstart, hch, hdir, hlag, hda, hdb, Nat.not_lt.2 hbank, Nat.not_lt.2 hfar, hidle, hown]

/-- R173: a START on a channel whose transfer is pending is refused. -/
theorem dmaStart_pending {s : State} {ch : Nat} {v : Word} (p : Party) (hstart : bit v 31 = true)
    (hpending : (s.dmaCh ch).pending = true) : s.dmaStart p ch v = ((s.setReg (Reg.MBK_DC ch) (v &&& 0x7FE1FF00)).setDma ch
      { s.dmaCh ch with refusedNow := true, refGroup := fld v 28 25 }).partyEsf p .lenErr := by
  simp [State.dmaStart, hstart, hpending]

theorem exec_dmaStart {s : State} {p : Party} (h : s.turnOf p = true) (ch : Fin 4) (v : Word) :
    exec (.dmaStart p ch v) s = .next ((s.turned p).dmaStart p ch v) :=
  congrArg Host.Outcome.next (byParty_of_turnOf h _)

/-! ### The bytes of a transfer (R174) -/

theorem exec_dmaTransferComplete {s : State} {ch : Fin 4} (hpending : (s.dmaCh ch).pending = true)
    (hopen : (s.dmaCh ch).complete = false) (upset : List Nat) (ce : Nat) (ue : List Nat) :
    exec (.dmaTransferComplete ch upset ce ue) s = .next (s.dmaMove ch upset ce ue) := by
  refine congrArg Host.Outcome.next (if_pos ?_)
  simp [hpending, hopen]

theorem dram_of_leaves {s t : State} (h : Leaves State.stores s t) : t.banks.dram = s.banks.dram := congrArg Prod.snd h.eq

theorem stores_setDma (s : State) (n : Nat) (c : DmaChan) : (s.setDma n c).stores = s.stores := rfl

theorem stores_storeBytes {s u : State} (h : Leaves State.stores s u) (a : Nat) (bs : List Byte) :
    (u.storeBytes a bs).stores = (cellsPut s.banks.cells a bs, s.banks.dram) := by
  show (cellsPut u.banks.cells a bs, u.banks.dram) = _
  rw [cells_of_leaves h, dram_of_leaves h]

theorem stores_putDram {s u : State} (h : Leaves State.stores s u) (a : Nat) (bs : List Byte) (bad : List Nat) :
    ({ u with banks := { u.banks with dram := cellsPut u.banks.dram a bs, dramBad := bad } } : State).stores
      = (s.banks.cells, cellsPut s.banks.dram a bs) := by
  show (u.banks.cells, cellsPut u.banks.dram a bs) = _
  rw [cells_of_leaves h, dram_of_leaves h]

/-- What banks and bulk memory that hold `cells` and `dram` read as. -/
theorem reads_of_stores {t : State} {cells dram : List Host.Cell} (h : t.stores = (cells, dram)) :
    (∀ a, t.byteAt a = cellGet cells a) ∧ ∀ a, t.dramAt a = cellGet dram a :=
  ⟨fun a => congrArg (fun m => cellGet (Prod.fst m) a) h, fun a => congrArg (fun m => cellGet (Prod.snd m) a) h⟩

/-- R174: the bank span of a channel's transfer begins here. -/
def DmaChan.here (c : DmaChan) : Nat := bankAddr c.bank (4 * c.woff)

section
variable {s : State} {ch : Nat}

/-- R172, R174: from bulk memory to a bank, whatever errors are met, the span in the bank alone changes. -/
theorem dmaMove_toBank (hdir : (s.dmaCh ch).dir = 0) (upset : List Nat) (ce : Nat) (ue : List Nat) :
    let c := s.dmaCh ch
    let t := s.dmaMove ch upset ce ue
    t.stores = (cellsPut s.banks.cells c.here (cellsGet s.banks.dram c.far (4 * c.len)), s.banks.dram)
      ∧ (t.dmaCh ch).complete = true := by
  intro c t
  simp only [t, State.dmaMove, hdir]
  refine ⟨?_, by rw [dmaCh_setDma_same]⟩
  rw [stores_setDma]
  exact stores_storeBytes (.after (touch_leaves_stores _ _) (.after (.foldl fun _ _ => dramUe_leaves_stores _ _)
    (.after (dramCe_leaves_stores _ _) ⟨rfl⟩))) _ _

/-- R170, R174: from a bank to bulk memory, whatever errors are met, the span in bulk memory alone changes. -/
theorem dmaMove_toDram (hdir : (s.dmaCh ch).dir = 1) (upset : List Nat) (ce : Nat) (ue : List Nat) :
    let c := s.dmaCh ch
    let t := s.dmaMove ch upset ce ue
    t.stores = (s.banks.cells, cellsPut s.banks.dram c.far (cellsGet s.banks.cells c.here (4 * c.len)))
      ∧ (t.dmaCh ch).complete = true := by
  intro c t
  have hread := noteParity_touched_leaves_stores s c.bank c.here (4 * c.len) upset
  simp only [t, State.dmaMove, hdir]
  refine ⟨?_, by rw [dmaCh_setDma_same]⟩
  rw [stores_setDma]
  exact stores_putDram hread _ _ _

end

/-! ### The statement -/

/-- Settles O32: a START is accepted or leaves the transfer it found, and at the end of a transfer its bytes stand at the
destination and nowhere else. -/
theorem dmaResults : Obligations.DmaResults := by
  refine ⟨?start, ?done⟩
  case start =>
    intro p ch v s len bank hturn hstart hch
    have hne : ch.val ≠ 3 := fun h => hch (Fin.ext h)
    refine ⟨fun hdir hlag hspan hfar hidle hown => ⟨_, exec_dmaStart hturn ch v, ?_⟩,
      fun hpending => ⟨_, exec_dmaStart hturn ch v, ?_⟩⟩
    · rw [dmaStart_accepted (s := s.turned p) p hstart hne hdir hlag hspan hfar hidle hown, dmaCh_setDma_same]
      exact ⟨rfl, rfl, rfl, rfl, rfl, fun _ => ⟨rfl, rfl⟩⟩
    · rw [dmaStart_pending (s := s.turned p) p hstart hpending, dmaCh_partyEsf, dmaCh_setDma_same]
      exact ⟨rfl, rfl, rfl⟩
  case done =>
    intro ch upset ce ue s hcanon hpending hopen c here
    obtain ⟨hcells, hdram, -⟩ := hcanon
    refine ⟨fun hdir => ⟨_, exec_dmaTransferComplete hpending hopen upset ce ue, ?_⟩,
      fun hdir => ⟨_, exec_dmaTransferComplete hpending hopen upset ce ue, ?_⟩⟩
    · obtain ⟨hstores, hcomplete⟩ := dmaMove_toBank hdir upset ce ue
      obtain ⟨hbank, hbulk⟩ := reads_of_stores hstores
      obtain ⟨hin, hout⟩ := cellGet_copy hcells s.banks.dram here c.far (4 * c.len)
      exact ⟨hcomplete, fun i hi => (hbank _).trans (hin i hi), fun a ha => (hbank a).trans (hout a ha), hbulk⟩
    · obtain ⟨hstores, hcomplete⟩ := dmaMove_toDram hdir upset ce ue
      obtain ⟨hbank, hbulk⟩ := reads_of_stores hstores
      obtain ⟨hin, hout⟩ := cellGet_copy hdram s.banks.cells c.far here (4 * c.len)
      exact ⟨hcomplete, fun i hi => (hbulk _).trans (hin i hi), fun a ha => (hbulk a).trans (hout a ha), hbank⟩

end Sys2Proof.Machine
end

section
/-! The solver array (R181, R182, R187 to R189, R198 to R203, R205, R206): what the end of an operation, the settling and the
completion of a batch leave alone and what they establish, then the statement `Obligations.SolverResults`. -/
namespace Sys2Proof.Machine

open State (Leaves)

/-! ### What the array shows -/

/-- The ports SOL_INFL, SOL_STK and SOL_TILE, and the tiles in self-test. -/
def State.panel (s : State) : Word × Word × Word × List Nat :=
  (s.reg Reg.SOL_INFL, s.reg Reg.SOL_STK, s.reg Reg.SOL_TILE, s.sol.testing)

/-- The panel, the batches that are not complete, and the number of the next batch. -/
def State.array (s : State) : (Word × Word × Word × List Nat) × SMap Batch × Nat := (s.panel, s.sol.batches, s.sol.next)

/-- What no end of an operation moves: the panel but for SOL_INFL, and the number of the next batch. -/
def State.steady (s : State) : (Word × Word × List Nat) × Nat := (s.panel.2, s.sol.next)

/-- What a commit finds: the operations in flight, the batches, the number of the next batch. -/
def State.flights (s : State) : Word × SMap Batch × Nat := (s.reg Reg.SOL_INFL, s.sol.batches, s.sol.next)

theorem panel_fields {s t : State} (h : Leaves State.panel s t) : t.reg Reg.SOL_INFL = s.reg Reg.SOL_INFL
    ∧ t.reg Reg.SOL_STK = s.reg Reg.SOL_STK ∧ t.reg Reg.SOL_TILE = s.reg Reg.SOL_TILE ∧ t.sol.testing = s.sol.testing := by
  simpa only [State.panel, Prod.mk.injEq] using h.eq

theorem array_fields {s t : State} (h : Leaves State.array s t) :
    Leaves State.panel s t ∧ t.sol.batches = s.sol.batches ∧ t.sol.next = s.sol.next := by
  obtain ⟨hp, hb, hn⟩ : t.panel = s.panel ∧ t.sol.batches = s.sol.batches ∧ t.sol.next = s.sol.next := by
    simpa only [State.array, Prod.mk.injEq] using h.eq
  exact ⟨⟨hp⟩, hb, hn⟩

theorem steady_of_array {s t : State} (h : Leaves State.array s t) : Leaves State.steady s t := by
  obtain ⟨hp, -, hn⟩ := array_fields h
  exact ⟨by rw [State.steady, hp.eq, hn]; rfl⟩

theorem flights_of_array {s t : State} (h : Leaves State.array s t) : Leaves State.flights s t := by
  obtain ⟨hp, hb, hn⟩ := array_fields h
  exact ⟨by rw [State.flights, (panel_fields hp).1, hb, hn]; rfl⟩

theorem batch_of_batches {s t : State} (h : t.sol.batches = s.sol.batches) (b : Nat) : t.batch b = s.batch b := by
  rw [State.batch, h, State.batch]

/-! ### Operations beside the array -/

theorem setReg_leaves_array (s : State) {a : Nat} (v : Word) (h : a ∉ [Reg.SOL_INFL, Reg.SOL_STK, Reg.SOL_TILE]) :
    Leaves State.array s (s.setReg a v) := by
  simp only [List.mem_cons, List.not_mem_nil, or_false, not_or] at h
  obtain ⟨h1, h2, h3⟩ := h
  exact ⟨by simp only [State.array, State.panel, State.reg_setReg_ne s v (Ne.symm h1), State.reg_setReg_ne s v (Ne.symm h2),
    State.reg_setReg_ne s v (Ne.symm h3), State.setReg_sol]⟩

theorem setBitR_leaves_array (s : State) {a : Nat} (i : Nat) (h : a ∉ [Reg.SOL_INFL, Reg.SOL_STK, Reg.SOL_TILE]) :
    Leaves State.array s (s.setBitR a i) := ⟨(setReg_leaves_array s (s.reg a ||| bitMask i) h).eq⟩

theorem setBitR_stk_leaves_flights (s : State) (i : Nat) : Leaves State.flights s (s.setBitR Reg.SOL_STK i) :=
  ⟨by rw [State.flights, State.setBitR, State.reg_orBits_ne _ _ (by decide)]; rfl⟩

@[simp] theorem sol_record (s : State) (n : RecName) (el : Nat) (items : List Nat) : (s.record n el items).sol = s.sol :=
  congrArg (fun u => u.sol) (unrecorded_record s n el items)

theorem record_leaves_array (s : State) (n : RecName) (el : Nat) (items : List Nat) : Leaves State.array s (s.record n el items) := by
  have hreg : ∀ a < 0x8000, (s.record n el items).reg a = s.reg a := fun _ ha => reg_record s n el items (not_recorderPort ha)
  exact ⟨by simp only [State.array, State.panel, sol_record, hreg Reg.SOL_INFL (by decide), hreg Reg.SOL_STK (by decide),
    hreg Reg.SOL_TILE (by decide)]⟩

theorem noteParity_leaves_array (s : State) (a n : Nat) : Leaves State.array s (s.noteParity a n).1 :=
  .after (.foldl fun _ _ => .after (record_leaves_array _ _ _ _) (.after (setBitR_leaves_array _ _ (by decide))
    (.after (setReg_leaves_array _ _ (by decide)) (setReg_leaves_array _ _ (by decide))))) (.ite (.refl s) ⟨rfl⟩)

theorem markUpset_leaves_array (s : State) (a n : Nat) (l : List Nat) : Leaves State.array s (s.markUpset a n l) :=
  .ite (.refl s) ⟨rfl⟩

theorem updTicket_leaves_array (s : State) (t : Nat) (f : Ticket → Ticket) : Leaves State.array s (s.updTicket t f) := by
  unfold State.updTicket
  split
  · exact .refl s
  · exact ⟨rfl⟩

theorem rangeReport_leaves_array (s : State) (who : Nat) (range : Bool) (items : List Nat) :
    Leaves State.array s (s.rangeReport who range items) := by
  unfold State.rangeReport
  split
  · exact .ite (.refl s) (.after (record_leaves_array _ _ _ _) ⟨rfl⟩)
  · exact .ite (.after (record_leaves_array _ _ _ _) ⟨rfl⟩) (.refl s)

theorem notifyClause_leaves_array (s : State) (c seq ticket : Nat) : Leaves State.array s (s.notifyClause c seq ticket) := by
  have hready : ∀ t, Leaves State.array s (s.makeReady c t) := fun t => by
    obtain ⟨x, hx⟩ := makeReady_eq s c t
    exact hx ▸ ⟨rfl⟩
  exact .ite (.ite (hready _) (setReg_leaves_array s _ (by decide))) (.refl s)

/-! ### The end of an operation (R198, R201) -/

/-- The batch with its operation `i`, which was `o`, final under a status word; XH stays as it stood (R188). -/
def Batch.ended (x : Batch) (i : Nat) (o : SolOp) (status : Word) : Batch :=
  { x with ops := lset x.ops i { o with st := .final, status := setBit status 20 o.xh } }

theorem solCounter_notIn_panel (k : Nat) : solCounter k ∉ [Reg.SOL_INFL, Reg.SOL_STK, Reg.SOL_TILE] := by
  unfold solCounter
  split <;> decide

/-- R189: SOL_INFL once operation `o` has ended. -/
def State.inflAfter (s : State) (o : SolOp) : Word :=
  if o.st = .flight then setFld (s.reg Reg.SOL_INFL) 7 0 (s.regF Reg.SOL_INFL 7 0 - 1) else s.reg Reg.SOL_INFL

/-- R198, R201: an operation that is not final ends; it is in flight no longer. -/
theorem array_finalOp {s : State} {b i : Nat} {x : Batch} {o : SolOp} (hb : s.batch b = some x) (ho : x.ops[i]? = some o)
    (hopen : o.st ≠ .final) (status : Word) : (s.finalOp b i status).array
      = ((s.inflAfter o, s.panel.2), mput s.sol.batches b (x.ended i o status), s.sol.next) := by
  unfold State.finalOp
  simp -zeta only [hb, ho, hopen, if_false]
  extract_lets word s1 s2 s3 s4
  have h1 : s1.array = (s.panel, mput s.sol.batches b (x.ended i o status), s.sol.next) := by
    simp only [s1, State.updBatch, hb]; rfl
  have h3 : Leaves State.array s1 s3 :=
    .after (setReg_leaves_array _ _ (by decide)) (.after (setReg_leaves_array _ _ (solCounter_notIn_panel _)) ⟨rfl⟩)
  have hinfl : s3.reg Reg.SOL_INFL = s.reg Reg.SOL_INFL := congrArg (fun q => q.1.1) (h3.eq.trans h1)
  have h4 : s4.array = ((s.inflAfter o, s.panel.2), mput s.sol.batches b (x.ended i o status), s.sol.next) := by
    have hrest : s3.array = _ := h3.eq.trans h1
    simp only [State.array, State.panel, State.inflAfter, Prod.mk.injEq] at hrest ⊢
    obtain ⟨⟨-, hstk, htile, htest⟩, hbat, hnext⟩ := hrest
    by_cases hf : o.st = .flight
    · simp only [s4, hf, if_true, State.setRegF, State.regF, State.reg_setReg_same, hinfl, State.reg_setReg_ne s3 _
        (by decide : Reg.SOL_STK ≠ Reg.SOL_INFL), State.reg_setReg_ne s3 _ (by decide : Reg.SOL_TILE ≠ Reg.SOL_INFL),
        State.setReg_sol, hstk, htile, htest, hbat, hnext, and_self]
    · simp only [s4, hf, if_false, hinfl, hstk, htile, htest, hbat, hnext, and_self]
  exact (updTicket_leaves_array _ _ _).eq.trans h4

/-- Operation `i` of batch `b`, while both stand, is final. -/
def State.opFinal (s : State) (b i : Nat) : Prop := ∀ x o, s.batch b = some x → x.ops[i]? = some o → o.st = .final

/-- An operation that is final, or is not there, does not end again (R201). -/
theorem finalOp_of_opFinal {s : State} {b i : Nat} (h : s.opFinal b i) (status : Word) : s.finalOp b i status = s := by
  unfold State.finalOp
  split
  · rfl
  next x hb =>
    split
    · rfl
    next o ho => exact if_pos (h x o hb ho)

theorem finalOp_cases (s : State) (b i : Nat) :
    s.opFinal b i ∨ ∃ x o, s.batch b = some x ∧ x.ops[i]? = some o ∧ o.st ≠ .final := by
  cases hb : s.batch b with
  | none => exact .inl fun x o hx _ => absurd (hb.symm.trans hx) nofun
  | some x =>
    cases ho : x.ops[i]? with
    | none =>
      refine .inl fun y o hy hp => ?_
      obtain rfl : x = y := Option.some.inj (hb.symm.trans hy)
      exact absurd (ho.symm.trans hp) nofun
    | some o =>
      by_cases hst : o.st = .final
      · refine .inl fun y p hy hp => ?_
        obtain rfl : x = y := Option.some.inj (hb.symm.trans hy)
        obtain rfl : o = p := Option.some.inj (ho.symm.trans hp)
        exact hst
      · exact .inr ⟨x, o, rfl, ho, hst⟩

theorem batch_finalOp_open {s : State} {b i : Nat} {x : Batch} {o : SolOp} (hb : s.batch b = some x) (ho : x.ops[i]? = some o)
    (hopen : o.st ≠ .final) (status : Word) : (s.finalOp b i status).batch b = some (x.ended i o status) := by
  have h : (s.finalOp b i status).sol.batches = _ := congrArg (fun q => q.2.1) (array_finalOp hb ho hopen status)
  rw [State.batch, h]
  exact mget_mput_same _ _ _

theorem finalOp_leaves_steady (s : State) (b i : Nat) (status : Word) : Leaves State.steady s (s.finalOp b i status) := by
  rcases finalOp_cases s b i with h | ⟨x, o, hb, ho, hopen⟩
  · rw [finalOp_of_opFinal h]; exact .refl s
  · have h := array_finalOp hb ho hopen status
    exact ⟨congrArg (fun q => (q.1.2, q.2.2)) h⟩

theorem infl_finalOp {s : State} {b i : Nat} {x : Batch} {o : SolOp} (hb : s.batch b = some x) (ho : x.ops[i]? = some o)
    (hopen : o.st ≠ .final) (status : Word) : (s.finalOp b i status).reg Reg.SOL_INFL = s.inflAfter o :=
  congrArg (fun q => q.1.1) (array_finalOp hb ho hopen status)

/-! ### How a batch advances -/

/-- `y` is `x` with some operations ended. -/
structure Batch.Advances (x y : Batch) : Prop where
  dead : y.dead = x.dead
  length : y.ops.length = x.ops.length
  op : ∀ (i : Nat) (o : SolOp), y.ops[i]? = some o → x.ops[i]? = some o ∨ o.st = .final

theorem Batch.Advances.refl (x : Batch) : x.Advances x := ⟨rfl, rfl, fun _ _ h => .inl h⟩

theorem Batch.Advances.trans {x y z : Batch} (h : x.Advances y) (k : y.Advances z) : x.Advances z :=
  ⟨k.dead.trans h.dead, k.length.trans h.length, fun i o ho => (k.op i o ho).elim (h.op i o) .inr⟩

theorem ended_advances (x : Batch) (i : Nat) (o : SolOp) (status : Word) : x.Advances (x.ended i o status) := by
  refine ⟨rfl, length_lset _ _ _, fun j p hp => ?_⟩
  rw [Batch.ended, getElem?_lset] at hp
  split at hp
  · exact .inr (Option.some.inj hp ▸ rfl)
  · exact .inl hp

/-- What stands of batch `b` in `t` is what stood in `s`, with some operations ended. -/
def State.Advances (s t : State) (b : Nat) : Prop := ∀ y, t.batch b = some y → ∃ x, s.batch b = some x ∧ x.Advances y

theorem State.Advances.refl (s : State) (b : Nat) : s.Advances s b := fun y hy => ⟨y, hy, .refl y⟩

theorem State.Advances.trans {s t u : State} {b : Nat} (h : s.Advances t b) (k : t.Advances u b) : s.Advances u b := fun z hz => by
  obtain ⟨y, hy, hyz⟩ := k z hz
  obtain ⟨x, hx, hxy⟩ := h y hy
  exact ⟨x, hx, hxy.trans hyz⟩

/-- An operation that is final stays so. -/
theorem State.Advances.opFinal {s t : State} {b i : Nat} (h : s.Advances t b) (hs : s.opFinal b i) : t.opFinal b i :=
  fun y o hy ho => by
    obtain ⟨x, hx, hxy⟩ := h y hy
    exact (hxy.op i o ho).elim (hs x o hx) id

theorem finalOp_advances (s : State) (b i : Nat) (status : Word) : s.Advances (s.finalOp b i status) b := by
  rcases finalOp_cases s b i with h | ⟨x, o, hb, ho, hopen⟩
  · rw [finalOp_of_opFinal h]; exact .refl s b
  · intro y hy
    rw [batch_finalOp_open hb ho hopen] at hy
    exact ⟨x, hb, Option.some.inj hy ▸ ended_advances x i o status⟩

theorem opFinal_finalOp (s : State) (b i : Nat) (status : Word) : (s.finalOp b i status).opFinal b i := by
  rcases finalOp_cases s b i with h | ⟨x, o, hb, ho, hopen⟩
  · rw [finalOp_of_opFinal h]; exact h
  · intro y p hy hp
    rw [batch_finalOp_open hb ho hopen] at hy
    rw [← Option.some.inj hy, Batch.ended, getElem?_lset, if_pos ⟨rfl, (List.getElem?_eq_some_iff.1 ho).1⟩] at hp
    exact Option.some.inj hp ▸ rfl

/-! ### Skips (R187) -/

/-- R187: the skips of a batch are ends of waiting operations: what each of these keeps, they keep. -/
theorem skipOps_keeps {P : State → Prop} {s : State} (b : Nat) (hs : P s)
    (hstep : ∀ u i x o status, u.batch b = some x → x.ops[i]? = some o → o.st = .waiting → P u → P (u.finalOp b i status)) :
    P (s.skipOps b) := by
  unfold State.skipOps
  split
  · exact hs
  · refine foldl_keeps P _ _ s hs fun u i _ hu => ?_
    split
    · exact hu
    next x hb =>
      split
      · exact hu
      next o ho =>
        split
        next h => exact hstep u i x o _ hb ho h.1 hu
        · exact hu

theorem skipOps_leaves_steady (s : State) (b : Nat) : Leaves State.steady s (s.skipOps b) :=
  skipOps_keeps b (.refl s) fun u i _ _ status _ _ _ hu => .after (finalOp_leaves_steady u b i status) hu

theorem skipOps_advances (s : State) (b : Nat) : s.Advances (s.skipOps b) b :=
  skipOps_keeps (P := fun u => s.Advances u b) b (.refl s b) fun u i _ _ status _ _ _ hu => hu.trans (finalOp_advances u b i status)

theorem skipOps_leaves_panel (s : State) (b : Nat) : Leaves State.panel s (s.skipOps b) :=
  skipOps_keeps b (.refl s) fun u i x o status hb ho hwait hu => by
    have hopen : o.st ≠ .final := by rw [hwait]; decide
    have hflight : o.st ≠ .flight := by rw [hwait]; decide
    have h := congrArg Prod.fst (array_finalOp hb ho hopen status)
    rw [State.inflAfter, if_neg hflight] at h
    exact .after ⟨h⟩ hu

/-! ### Completion (R203) -/

/-- R203: the batch leaves the array. -/
def State.dropBatch (s : State) (b : Nat) : State := s.updSol fun q => { q with batches := mdel q.batches b }

/-- R203 to R205: summary, ticket, range report, notice and release come before the batch leaves the array; the job of the
sequencer or the fusion engine goes on after it. -/
theorem completeBatch_eq {s : State} {b : Nat} {x : Batch} (hb : s.batch b = some x) (refused : Option Nat) :
    ∃ u range, Leaves State.array s u ∧ s.completeBatch b refused
      = if x.job = 0 then u.dropBatch b else (u.dropBatch b).jobBatchDone x range := by
  unfold State.completeBatch
  simp -zeta only [hb]
  extract_lets first sum s1 s2 hit s3 range s4 s5
  refine ⟨s5, range, ?_, rfl⟩
  have h2 : Leaves State.array s s2 := .after (updTicket_leaves_array s1 _ _) ⟨rfl⟩
  have h3 : Leaves State.array s2 s3 := by
    simp only [s3]
    generalize hit = found
    cases found <;> exact rangeReport_leaves_array s2 _ _ _
  have h4 : Leaves State.array s3 s4 := .ite (notifyClause_leaves_array _ _ _ _) (.refl s3)
  have h5 : Leaves State.array s4 s5 := .ite ⟨rfl⟩ (.refl s4)
  exact .after h5 (.after h4 (.after h3 h2))

/-- R180: a batch of the sequencer or the fusion engine enters under the next number. -/
theorem acceptOwn_results (s : State) (o : OwnBatch) :
    Leaves State.panel s (s.acceptOwn o) ∧ ∀ b ≠ s.sol.next, (s.acceptOwn o).batch b = s.batch b := by
  unfold State.acceptOwn
  simp -zeta only [foldl_markBank]
  extract_lets n head s1 x banks
  have hcount : ∀ u : State, Leaves State.array u ((u.bump Reg.SOL_NSUB n).bump Reg.SOL_NPEND n) := fun u =>
    .after (setReg_leaves_array _ _ (by decide)) (setReg_leaves_array u _ (by decide))
  obtain ⟨hpanel, hbatches, -⟩ := array_fields
    (hcount ((s1.marked banks (jobTag o.job)).updSol fun q => { q with next := q.next + 1, batches := mput q.batches q.next x }))
  refine ⟨.after hpanel ⟨rfl⟩, fun b hne => ?_⟩
  rw [batch_of_batches hbatches]
  exact mget_mput_ne _ _ hne

/-- R221, R281: a job goes on with at most one batch, under the next number. -/
theorem jobBatchDone_results (s : State) (x : Batch) (range : Option (Nat × Nat × Nat)) :
    Leaves State.panel s (s.jobBatchDone x range) ∧ ∀ b ≠ s.sol.next, (s.jobBatchDone x range).batch b = s.batch b := by
  unfold State.jobBatchDone
  extract_lets s1 mine
  clear_value mine
  cases mine with
  | cons o rest =>
    dsimp only
    split
    · exact ⟨⟨rfl⟩, fun _ _ => rfl⟩
    · obtain ⟨hpanel, hbatch⟩ := acceptOwn_results (s1.updSol fun q => { q with later := q.later.erase o }) o
      exact ⟨.after hpanel ⟨rfl⟩, hbatch⟩
  | nil => exact ⟨⟨rfl⟩, fun _ _ => rfl⟩

/-- R203: completion moves nothing of the panel, and the batch is gone unless its number is the next. -/
theorem completeBatch_results (s : State) (b : Nat) (refused : Option Nat) :
    Leaves State.panel s (s.completeBatch b refused) ∧ (b ≠ s.sol.next → (s.completeBatch b refused).batch b = none) := by
  cases hb : s.batch b with
  | none => simp only [State.completeBatch, hb]; exact ⟨.refl s, fun _ => trivial⟩
  | some x =>
    obtain ⟨u, range, hu, h⟩ := completeBatch_eq hb refused
    obtain ⟨hpanel, -, hnext⟩ := array_fields hu
    have hgone : (u.dropBatch b).batch b = none := mget_mdel_same _ _
    rw [h]
    split
    · exact ⟨⟨hpanel.eq⟩, fun _ => hgone⟩
    · obtain ⟨hjob, hrest⟩ := jobBatchDone_results (u.dropBatch b) x range
      exact ⟨.after hjob ⟨hpanel.eq⟩, fun hne => (hrest b fun hbn => hne (hbn.trans hnext)).trans hgone⟩

/-! ### A batch settles (R187, R203) -/

theorem next_of_steady {s t : State} (h : Leaves State.steady s t) : t.sol.next = s.sol.next := congrArg Prod.snd h.eq

/-- A batch either goes on after its skips, some operation not final, or completes. -/
theorem settleBatch_cases (s : State) (b : Nat) :
    (s.settleBatch b = s.skipOps b ∧ ∀ y, (s.skipOps b).batch b = some y → ∃ o ∈ y.ops, o.st ≠ .final)
      ∨ s.settleBatch b = (s.skipOps b).completeBatch b none := by
  unfold State.settleBatch
  extract_lets u
  cases hy : u.batch b with
  | none => exact .inl ⟨rfl, fun y h => absurd h (by simp)⟩
  | some y =>
    dsimp only
    split
    · exact .inr rfl
    next hopen =>
      refine .inl ⟨rfl, fun z hz => ?_⟩
      cases hz
      simpa using hopen

theorem settleBatch_leaves_panel (s : State) (b : Nat) : Leaves State.panel s (s.settleBatch b) := by
  rcases settleBatch_cases s b with ⟨h, -⟩ | h <;> rw [h]
  · exact skipOps_leaves_panel s b
  · exact .after (completeBatch_results _ b none).1 (skipOps_leaves_panel s b)

theorem settleBatch_advances {s : State} {b : Nat} (hne : b ≠ s.sol.next) : s.Advances (s.settleBatch b) b := by
  rcases settleBatch_cases s b with ⟨h, -⟩ | h <;> rw [h]
  · exact skipOps_advances s b
  · intro y hy
    rw [(completeBatch_results _ b none).2 (by rwa [next_of_steady (skipOps_leaves_steady s b)])] at hy
    exact absurd hy (by simp)

/-- R203: a batch whose operations are all final completes. -/
theorem settleBatch_completes {s : State} {b : Nat} (hall : ∀ i, s.opFinal b i) (hne : b ≠ s.sol.next) :
    (s.settleBatch b).batch b = none := by
  rcases settleBatch_cases s b with ⟨h, hopen⟩ | h <;> rw [h]
  · cases hy : (s.skipOps b).batch b with
    | none => rfl
    | some y =>
      obtain ⟨o, ho, hst⟩ := hopen y hy
      obtain ⟨i, hi⟩ := List.getElem?_of_mem ho
      exact absurd ((skipOps_advances s b).opFinal (hall i) y o hy hi) hst
  · exact (completeBatch_results _ b none).2 (by rwa [next_of_steady (skipOps_leaves_steady s b)])

/-! ### Operations of a batch ended in order -/

/-- The operations of batch `b` below `n` that satisfy `p`, ended in ascending index under a status word. -/
def State.endOps (s : State) (b n : Nat) (p : Nat → Bool) (status : Word) : State :=
  (List.range n).foldl (fun u i => if p i then u.finalOp b i status else u) s

theorem endOps_leaves_steady (s : State) (b n : Nat) (p : Nat → Bool) (status : Word) :
    Leaves State.steady s (s.endOps b n p status) :=
  .foldl fun u i => .ite (finalOp_leaves_steady u b i status) (.refl u)

theorem endOps_advances (s : State) (b n : Nat) (p : Nat → Bool) (status : Word) : s.Advances (s.endOps b n p status) b := by
  refine foldl_keeps (fun u => s.Advances u b) _ _ s (.refl s b) fun u i _ hu => ?_
  split
  · exact hu.trans (finalOp_advances u b i status)
  · exact hu

theorem opFinal_endOps (s : State) (b n : Nat) {p : Nat → Bool} (status : Word) {i : Nat} (hi : i < n) (hp : p i = true) :
    (s.endOps b n p status).opFinal b i := by
  refine foldl_establishes (fun i u => p i = true → u.opFinal b i) _ s (fun u j _ hj => ?_) (fun u j k hu hk => ?_) i
    (List.mem_range.2 hi) hp
  · simp only [hj, if_true]
    exact opFinal_finalOp u b j status
  · split
    · exact (finalOp_advances u b j status).opFinal (hu hk)
    · exact hu hk

/-! ### Validation (R181, R182) -/

theorem updBatch_eq {s : State} {b : Nat} {x : Batch} (hb : s.batch b = some x) (f : Batch → Batch) :
    s.updBatch b f = s.updSol fun q => { q with batches := mput q.batches b (f x) } := by
  simp only [State.updBatch, hb]

theorem batch_updBatch {s : State} {b : Nat} {x : Batch} (hb : s.batch b = some x) (f : Batch → Batch) :
    (s.updBatch b f).batch b = some (f x) := by
  rw [updBatch_eq hb]
  exact mget_mput_same _ _ _

theorem batchDue_of_tb {s t : State} (h : t.tb = s.tb) (x : Batch) : t.batchDue x = s.batchDue x := by
  rw [State.batchDue, State.tmbNs, h]; rfl

/-- R181: the state in which batch `b`, whose descriptor held `x`, has been read. -/
def State.validated (s : State) (b : Nat) (x : Batch) : State :=
  (s.noteParity (bankAddr x.bank x.off) (4 * (8 + 16 * x.count))).1.updBatch b fun y =>
    { y with valid := true, ops := (List.range x.count).map fun i => { words := s.entryWords x i } }

theorem validated_results {s : State} {b : Nat} {x : Batch} (hb : s.batch b = some x) :
    (s.validated b x).batch b
        = some { x with valid := true, ops := (List.range x.count).map fun i => { words := s.entryWords x i } }
      ∧ Leaves State.steady s (s.validated b x) ∧ Leaves State.stores s (s.validated b x) ∧ (s.validated b x).tb = s.tb := by
  have harray := noteParity_leaves_array s (bankAddr x.bank x.off) (4 * (8 + 16 * x.count))
  have htb : Leaves State.tb s (s.noteParity (bankAddr x.bank x.off) (4 * (8 + 16 * x.count))).1 :=
    noteParity_leaves (fun _ _ => ⟨rfl⟩) (fun _ _ _ => ⟨rfl⟩) (fun _ _ _ => ⟨rfl⟩) (fun _ _ _ _ => ⟨tb_record _ _ _ _⟩) _ _ _
  have hbatch := (batch_of_batches (array_fields harray).2.1 b).trans hb
  refine ⟨batch_updBatch hbatch _, ?_, ?_, ?_⟩ <;> rw [State.validated, updBatch_eq hbatch]
  · exact ⟨(steady_of_array harray).eq⟩
  · exact ⟨(noteParity_leaves_stores s _ _).eq⟩
  · exact htb.eq

theorem exec_batchValidationEnd_keeps {s : State} {b : Nat} {x : Batch} (hb : s.batch b = some x) (hnew : x.valid = false)
    (hok : s.batchFault x = none) (hdue : s.batchDue x = false) :
    exec (.batchValidationEnd b) s = .next (s.validated b x) := by
  have hdue' : (s.validated b x).batchDue x = false := (batchDue_of_tb (validated_results hb).2.2.2 x).trans hdue
  show execBatchValidationEnd b s = _
  simp only [execBatchValidationEnd, hb, hnew, hok]
  exact congrArg Host.Outcome.next (if_neg (Bool.eq_false_iff.1 hdue'))

/-- R182: the state in which batch `b` is refused for entry `i` and a field, its operations ended under a status word. -/
def State.refused (s : State) (b : Nat) (x : Batch) (i field : Nat) (status : Word) : State :=
  ((((s.validated b x).endOps b x.count (fun _ => true) status).setBitR Reg.SOL_STK 1).record .solRefused 0
    [i, field]).completeBatch b (some i)

theorem exec_batchValidationEnd_refuses {s : State} {b i field : Nat} {x : Batch} {size : Bool} (hb : s.batch b = some x)
    (hnew : x.valid = false) (hbad : s.batchFault x = some (i, size, field)) :
    exec (.batchValidationEnd b) s = .next (s.refused b x i field (abandoned (if size then 5 else 6))) := by
  show execBatchValidationEnd b s = _
  simp only [execBatchValidationEnd, hb, hnew, hbad]
  rfl

theorem refused_results {s : State} {b : Nat} {x : Batch} (hb : s.batch b = some x) (i field : Nat) (status : Word) :
    let t := s.refused b x i field status
    (b ≠ s.sol.next → t.batch b = none) ∧ t.regB Reg.SOL_STK 1 = true := by
  intro t
  let u := (s.validated b x).endOps b x.count (fun _ => true) status
  have hnext : u.sol.next = s.sol.next :=
    next_of_steady (.after (endOps_leaves_steady _ b x.count _ status) (validated_results hb).2.1)
  have hrec := record_leaves_array (u.setBitR Reg.SOL_STK 1) .solRefused 0 [i, field]
  obtain ⟨hdone, hgone⟩ := completeBatch_results ((u.setBitR Reg.SOL_STK 1).record .solRefused 0 [i, field]) b (some i)
  have hpanel : Leaves State.panel (u.setBitR Reg.SOL_STK 1) t := .after hdone (array_fields hrec).1
  refine ⟨fun hne => hgone ((array_fields hrec).2.2.trans hnext ▸ hne), ?_⟩
  rw [State.regB, (panel_fields hpanel).2.1]
  exact (regB_setBitR u (by decide) _ _ _).trans (if_pos ⟨rfl, rfl⟩)

/-! ### Issue (R188, R189) -/

/-- The batch with its operation `i`, which was `o`, in flight. -/
def Batch.issued (x : Batch) (i : Nat) (o : SolOp) : Batch := { x with ops := lset x.ops i { o with st := .flight } }

/-- The least number that satisfies `p` is found. -/
theorem findFrom_eq_some {p : Nat → Bool} {n i k : Nat} (hik : i ≤ k) (hk : k < i + n) (hp : p k = true)
    (hmin : ∀ j, i ≤ j → j < k → p j = false) : findFrom p n i = some k := by
  induction n generalizing i with
  | zero => omega
  | succ n ih =>
    unfold findFrom
    by_cases hne : i = k
    · rw [← hne] at hp ⊢
      exact if_pos hp
    · rw [if_neg (by simp [hmin i (Nat.le_refl i) (by omega)])]
      exact ih (by omega) (by omega) fun j hj => hmin j (by omega)

section
variable {s : State} {b i : Nat} {x : Batch} {o : SolOp} (hone : s.sol.batches = [(b, x)])
include hone

theorem batch_alone : s.batch b = some x := by simp [State.batch, hone, mget]

/-- R188: one batch alone has no other to wait for. -/
theorem crossHazard_alone (o : SolOp) : s.crossHazard b o = false := by simp [State.crossHazard, hone]

theorem mem_openBatches_alone {q : Nat × Batch} (h : q ∈ s.openBatches) : q = (b, x) := by
  have hq : q ∈ s.sol.batches := (List.mem_filter.1 h).1
  rwa [hone, List.mem_singleton] at hq

theorem markXh_alone : s.markXh = s := by
  refine foldl_keeps (· = s) _ _ s rfl fun u q hq hu => ?_
  obtain rfl := mem_openBatches_alone hone hq
  refine foldl_keeps (· = s) _ _ u hu fun v i _ hv => ?_
  subst hv
  dsimp only
  split
  · rfl
  · simp [crossHazard_alone hone]

variable (hvalid : x.valid = true) (hlive : x.dead = false) (hdue : s.batchDue x = false) (ho : x.ops[i]? = some o)
  (hready : x.ready i = true) (hfirst : ∀ k < i, x.ready k = false)
include hvalid hlive hdue ho hready hfirst

theorem pickOp_alone : s.pickOp = some (b, i) := by
  have hopen : s.openBatches = [(b, x)] := by simp [State.openBatches, hone, hvalid, hlive, hdue]
  have hpick : findFrom (fun k => x.ready k && !(((x.ops[k]?).map (fun o => s.crossHazard b o)).getD true)) x.ops.length 0
      = some i := by
    refine findFrom_eq_some (Nat.zero_le i) ?_ ?_ fun k _ hk => ?_
    · rw [Nat.zero_add]; exact (List.getElem?_eq_some_iff.1 ho).1
    · simp [hready, ho, crossHazard_alone hone]
    · simp [hfirst k hk]
  simp only [State.pickOp, hopen, List.filterMap_cons, List.filterMap_nil, hpick]
  rfl

/-- R189: the first eligible operation issues while fewer than 64 are in flight. -/
theorem exec_operationIssue_alone (hroom : s.regF Reg.SOL_INFL 7 0 < 64) : ∃ peak, exec .operationIssue s
    = .next (((s.updSol fun q => { q with batches := mput q.batches b (x.issued i o) }).setRegF Reg.SOL_INFL 7 0
        (s.regF Reg.SOL_INFL 7 0 + 1)).setRegF Reg.SOL_INFL 15 8 peak) := by
  refine ⟨max (s.regF Reg.SOL_INFL 7 0 + 1) (s.regF Reg.SOL_INFL 15 8), ?_⟩
  show execOperationIssue s = _
  simp only [execOperationIssue, markXh_alone hone, pickOp_alone hone hvalid hlive hdue ho hready hfirst, Nat.not_le.2 hroom,
    if_false, updBatch_eq (batch_alone hone), ho]
  rfl

end

/-! ### Commit (R198, R200, R202) -/

/-- R198, R202: what comes before the operation ends: reads, and the elements of Z and MAXABS where no word was in error. -/
theorem commitOp_eq (s : State) (b i : Nat) (x : Batch) (o : SolOp) (upset : List Nat) : ∃ u status,
    Leaves State.flights s u ∧ s.commitOp b i x o upset = (u.finalOp b i status).settleBatch b := by
  unfold State.commitOp
  have hread : Leaves State.array s ((entryReads o.words).foldl (fun (q : State × Bool) a =>
      let r := (q.1.markUpset a 4 upset).noteParity a 4
      (r.1, q.2 || r.2)) (s, false)).1 :=
    foldl_keeps (fun q : State × Bool => Leaves State.array s q.1) _ _ _ (.refl s) fun q a _ hq =>
      .after (noteParity_leaves_array _ a 4) (.after (markUpset_leaves_array q.1 a 4 upset) hq)
  revert hread
  generalize (entryReads o.words).foldl _ (s, false) = r
  obtain ⟨r, bad⟩ := r
  intro hread
  dsimp -zeta only at hread ⊢
  have hr := flights_of_array hread
  split
  · exact ⟨_, _, .after (setBitR_stk_leaves_flights r 4) hr, rfl⟩
  · extract_lets c z s1 s2 st s3
    have h1 : Leaves State.flights r s1 := .foldl fun _ _ => ⟨rfl⟩
    have h3 : Leaves State.flights s2 s3 := .ite (setBitR_stk_leaves_flights s2 2) (.refl s2)
    exact ⟨s3, st, .after h3 ⟨(Leaves.after h1 hr).eq⟩, rfl⟩

theorem exec_operationCommit {s : State} {b i : Nat} {x : Batch} {o : SolOp} (hb : s.batch b = some x) (ho : x.ops[i]? = some o)
    (hflight : o.st = .flight) (hdue : s.pastDue x ≤ 2000) (upset : List Nat) :
    exec (.operationCommit b i upset) s = .next (s.commitOp b i x o upset) := by
  show execOperationCommit b i upset s = _
  simp only [execOperationCommit, hb, ho, hflight, hdue, and_self, if_true]

theorem commitOp_results {s : State} {b i : Nat} {x : Batch} {o : SolOp} (hb : s.batch b = some x) (ho : x.ops[i]? = some o)
    (hflight : o.st = .flight) (upset : List Nat) :
    let t := s.commitOp b i x o upset
    t.regF Reg.SOL_INFL 7 0 = s.regF Reg.SOL_INFL 7 0 - 1
      ∧ (b ≠ s.sol.next → ∀ y, t.batch b = some y → ∃ p, y.ops[i]? = some p ∧ p.st = .final) := by
  intro t
  obtain ⟨u, status, hu, ht⟩ : ∃ u status, Leaves State.flights s u ∧ t = (u.finalOp b i status).settleBatch b :=
    commitOp_eq s b i x o upset
  obtain ⟨hinfl, hbatches, hnext⟩ : u.reg Reg.SOL_INFL = s.reg Reg.SOL_INFL ∧ u.sol.batches = s.sol.batches
      ∧ u.sol.next = s.sol.next := by simpa only [State.flights, Prod.mk.injEq] using hu.eq
  have hub : u.batch b = some x := (batch_of_batches hbatches b).trans hb
  have hopen : o.st ≠ .final := by rw [hflight]; decide
  have hend : Leaves State.steady u (u.finalOp b i status) := finalOp_leaves_steady u b i status
  refine ⟨?infl, fun hne y hy => ?final⟩
  case infl =>
    have hlt : s.regF Reg.SOL_INFL 7 0 < 256 := regF_lt s _ 7 0
    have hreg : t.reg Reg.SOL_INFL = setFld (s.reg Reg.SOL_INFL) 7 0 (s.regF Reg.SOL_INFL 7 0 - 1) := by
      rw [ht, (panel_fields (settleBatch_leaves_panel _ b)).1, infl_finalOp hub ho hopen, State.inflAfter,
        if_pos hflight, State.regF, hinfl]
      rfl
    rw [State.regF, hreg, fld_setFld_same _ _ (by decide) (by decide)]
    exact Nat.mod_eq_of_lt (by show _ < 256; omega)
  case final =>
    have hadv : (u.finalOp b i status).Advances t b := by
      rw [ht]
      exact settleBatch_advances (by rwa [next_of_steady hend, hnext])
    obtain ⟨z, hz, hzy⟩ := (finalOp_advances u b i status).trans hadv y hy
    obtain rfl : x = z := Option.some.inj (hub.symm.trans hz)
    have hi : i < y.ops.length := hzy.length ▸ (List.getElem?_eq_some_iff.1 ho).1
    exact ⟨y.ops[i], List.getElem?_eq_getElem hi,
      hadv.opFinal (opFinal_finalOp u b i status) y _ hy (List.getElem?_eq_getElem hi)⟩

/-! ### Deadline and grace (R199, R200) -/

theorem exec_solverDeadline {s : State} {b : Nat} {x : Batch} (hb : s.batch b = some x) (hvalid : x.valid = true)
    (hlive : x.dead = false) (hdue : s.batchDue x = true) : exec (.solverDeadline b) s = .next (s.deadlineBatch b) := by
  show execSolverDeadline b s = _
  simp only [execSolverDeadline, hb, hvalid, hlive, hdue]
  rfl

/-- Operation `i` of a batch has not issued. -/
def Batch.waits (x : Batch) (i : Nat) : Bool := ((x.ops[i]?).map fun o => o.st == .waiting).getD false

theorem waits_of {x : Batch} {i : Nat} {o : SolOp} (ho : x.ops[i]? = some o) (hwait : o.st = .waiting) : x.waits i = true := by
  simp [Batch.waits, ho, hwait]

/-- R199: past its deadline a batch has no operation left that waits. -/
theorem deadlineBatch_results {s : State} {b : Nat} {x : Batch} (hb : s.batch b = some x) (hne : b ≠ s.sol.next) (y : Batch)
    (hy : (s.deadlineBatch b).batch b = some y) : y.dead = true ∧ ∀ p ∈ y.ops, p.st ≠ .waiting := by
  let u := s.updBatch b fun x => { x with dead := true }
  have hub : u.batch b = some { x with dead := true } := batch_updBatch hb _
  have hunext : u.sol.next = s.sol.next := by simp only [u, updBatch_eq hb]; rfl
  let v := u.endOps b x.ops.length x.waits (abandoned 1)
  have ht : s.deadlineBatch b = v.settleBatch b := by
    simp only [State.deadlineBatch, batch_updBatch hb]
    rfl
  have hnext : v.sol.next = s.sol.next := (next_of_steady (endOps_leaves_steady u b _ _ _)).trans hunext
  have hadv : v.Advances (s.deadlineBatch b) b := ht ▸ settleBatch_advances (hnext.symm ▸ hne)
  obtain ⟨z, hz, hzy⟩ := (endOps_advances u b x.ops.length x.waits (abandoned 1)).trans hadv y hy
  obtain rfl : { x with dead := true } = z := Option.some.inj (hub.symm.trans hz)
  refine ⟨hzy.dead, fun p hp hwait => ?_⟩
  obtain ⟨i, hi⟩ := List.getElem?_of_mem hp
  rcases hzy.op i p hi with hx | hfinal
  · have hended := opFinal_endOps u b x.ops.length (abandoned 1) (List.getElem?_eq_some_iff.1 hx).1 (waits_of hx hwait)
    exact absurd (hwait.symm.trans (hadv.opFinal hended y p hy hi)) (by decide)
  · exact absurd (hwait.symm.trans hfinal) (by decide)

theorem exec_deadlineGraceExpiry {s : State} {b : Nat} {x : Batch} (hb : s.batch b = some x) (hdead : x.dead = true)
    (hpast : 2000 ≤ s.pastDue x) : exec (.deadlineGraceExpiry b) s
      = .next ((s.endOps b x.ops.length (fun _ => true) (abandoned 2)).settleBatch b) := by
  show execDeadlineGraceExpiry b s = _
  simp only [execDeadlineGraceExpiry, hb, hdead, hpast, and_self, if_true]
  rfl

/-- R200, R203: with all its operations ended the batch completes. -/
theorem endOps_settle_completes {s : State} {b : Nat} {x : Batch} (hb : s.batch b = some x) (status : Word) (hne : b ≠ s.sol.next) :
    ((s.endOps b x.ops.length (fun _ => true) status).settleBatch b).batch b = none := by
  refine settleBatch_completes (fun i => ?_) (by rwa [next_of_steady (endOps_leaves_steady s b _ _ status)])
  by_cases hi : i < x.ops.length
  · exact opFinal_endOps s b _ status hi rfl
  · intro y o hy ho
    obtain ⟨z, hz, hzy⟩ := endOps_advances s b _ _ status y hy
    obtain rfl : x = z := Option.some.inj (hb.symm.trans hz)
    exact absurd (hzy.length ▸ (List.getElem?_eq_some_iff.1 ho).1) hi

/-! ### Tiles (R202) -/

/-- R202: the fault of tile `k` counted, its bit set, its self-test begun. -/
def State.tileStopped (s : State) (k : Nat) : State :=
  (((s.bumpF Reg.SOL_TILE (9 + 6 * k) (4 + 6 * k)).setBitR Reg.SOL_STK 5).record .solTileFault k [k]).updSol fun q =>
    { q with testing := q.testing ++ [k] }

/-- R202: the operations among `ops` that are in flight end ABANDONED with CAUSE 3, and their batches settle. -/
def State.tileEnds (s : State) (ops : List (Nat × Nat)) : State :=
  let hit := ops.filter fun p => ((s.batch p.1).bind fun x => (x.ops[p.2]?).map fun o => o.st == .flight).getD false
  hit.foldl (fun u p => u.settleBatch p.1) (hit.foldl (fun u p => u.finalOp p.1 p.2 (abandoned 3)) s)

theorem tileEnds_leaves (s : State) (ops : List (Nat × Nat)) : Leaves (fun u => u.panel.2) s (s.tileEnds ops) :=
  .after (.foldl fun u p => ⟨congrArg Prod.snd (settleBatch_leaves_panel u p.1).eq⟩)
    (.foldl fun u p => ⟨congrArg Prod.fst (finalOp_leaves_steady u p.1 p.2 (abandoned 3)).eq⟩)

theorem exec_tileFault {s : State} {k : Fin 4} (hon : s.regB Reg.SOL_TILE k = false) (hidle : s.sol.testing.contains k.val = false)
    (ops : List (Nat × Nat)) : exec (.tileFault k ops) s = .next ((s.tileStopped k).tileEnds ops) := by
  show execTileFault k ops s = _
  simp only [execTileFault, hon, hidle, Bool.or_self, Bool.false_eq_true, if_false]
  rfl

theorem tileStopped_results (s : State) {k : Nat} (hk : k < 4) :
    (s.tileStopped k).sol.testing.contains k = true ∧ (s.tileStopped k).regB Reg.SOL_STK 5 = true
      ∧ (s.tileStopped k).regF Reg.SOL_TILE (9 + 6 * k) (4 + 6 * k)
          = (s.regF Reg.SOL_TILE (9 + 6 * k) (4 + 6 * k) + 1) % 64 := by
  let u := (s.bumpF Reg.SOL_TILE (9 + 6 * k) (4 + 6 * k)).setBitR Reg.SOL_STK 5
  have hreg : ∀ a < 0x8000, (s.tileStopped k).reg a = u.reg a := fun a ha => reg_record u .solTileFault k [k] (not_recorderPort ha)
  refine ⟨?_, ?_, ?_⟩
  · simp [State.tileStopped]
  · rw [State.regB, hreg _ (by decide)]
    exact (regB_setBitR _ (by decide) _ _ _).trans (if_pos ⟨rfl, rfl⟩)
  · have hwidth : 9 + 6 * k + 1 - (4 + 6 * k) = 6 := by omega
    have hbump : u.reg Reg.SOL_TILE = (s.bumpF Reg.SOL_TILE (9 + 6 * k) (4 + 6 * k)).reg Reg.SOL_TILE :=
      State.reg_orBits_ne _ _ (by decide)
    rw [State.regF, hreg _ (by decide), hbump]
    have hfield : (s.bumpF Reg.SOL_TILE (9 + 6 * k) (4 + 6 * k)).regF Reg.SOL_TILE (9 + 6 * k) (4 + 6 * k) = _ :=
      regF_setRegF_same s Reg.SOL_TILE _ (by omega) (by omega)
    rw [hwidth] at hfield
    exact hfield

theorem exec_tileSelftestEnd {s : State} {k : Fin 4} (htest : s.sol.testing.contains k.val = true) (pass : Bool) :
    exec (.tileSelftestEnd k pass) s = .next (
      let u := s.updSol fun q => { q with testing := q.testing.filter fun j => j != k.val }
      if pass then u else ((u.setBitR Reg.SOL_TILE k).record .solTileOff k [k.val]).addHealth (.tileOff k)) :=
  congrArg Host.Outcome.next (if_pos htest)

/-- R49, R50, R202: a tile that fails its self-test stays off, and the unit is unhealthy. -/
theorem tileOff_results (s : State) {k : Nat} (hk : k < 4) :
    let t := ((s.setBitR Reg.SOL_TILE k).record .solTileOff k [k]).addHealth (.tileOff k)
    t.sol = s.sol ∧ t.regB Reg.SOL_TILE k = true ∧ t.healthy = false := by
  intro t
  obtain ⟨l, p, hl, ht⟩ := addHealth_eq ((s.setBitR Reg.SOL_TILE k).record .solTileOff k [k]) (.tileOff k)
  have ht : t = _ := ht
  rw [ht]
  refine ⟨sol_record _ _ _ _, ?_, by simpa [State.healthy] using hl⟩
  exact (congrArg (bit · k) (reg_record (s.setBitR Reg.SOL_TILE k) _ _ _ (not_recorderPort (by decide)))).trans
    ((regB_setBitR s (by omega) _ _ _).trans (if_pos ⟨rfl, rfl⟩))

/-! ### Release of a ticket (R205, R206) -/

theorem exec_solTrel {s : State} {p : Party} (h : s.turnOf p = true) (hdec : s.portOff Reg.SOL_TREL = false) (v : Word) :
    exec (.solTrel p v) s = .next ((s.turned p).solTrel v) :=
  congrArg Host.Outcome.next ((byParty_of_turnOf h _).trans (if_neg (Bool.eq_false_iff.1 hdec)))

/-- R205: a complete ticket that no engine takes by WAIT.T is released. -/
theorem solTrel_releases {s : State} {v : Word} {k : Ticket} (hk : mget s.sol.tickets (fld v 5 0) = some k)
    (hdone : k.complete = true) (hfree : ∀ e < 8, s.ticketWaited e (fld v 5 0) = false) :
    s.solTrel v = s.releaseTicket (fld v 5 0) := by
  have hnone : (List.range 8).any (fun e => s.ticketWaited e (fld v 5 0)) = false :=
    List.any_eq_false.2 fun e he => Bool.eq_false_iff.1 (hfree e (List.mem_range.1 he))
  simp [State.solTrel, hk, hdone, hnone]

/-- R205: a released ticket is not in use, and is not taken again in this FAB clock. -/
theorem releaseTicket_results (s : State) (n : Nat) :
    let t := s.releaseTicket n
    mget t.sol.tickets n = none ∧ t.freeTicket ≠ some n ∧ t.regs = s.regs := by
  refine ⟨mget_mdel_same _ _, fun hfree => ?_, rfl⟩
  obtain ⟨-, -, hp, -⟩ := findFrom_some hfree
  simp [State.releaseTicket, State.unmarkTag] at hp

theorem solTrel_refused {s : State} {v : Word} (h : mget s.sol.tickets (fld v 5 0) = none) :
    s.solTrel v = s.setBitR Reg.SOL_STK 6 := by
  simp only [State.solTrel, h]

/-! ### The statement -/

/-- Settles O33: each command acts by its law: validation and its refusal, issue, commit, deadline, grace, the fault and the
self-test of a tile, and the release of a ticket. -/
theorem solverResults : Obligations.SolverResults := by
  refine ⟨?validation, ?issue, ?commit, ?deadline, ?grace, ?fault, ?selftest, ?release⟩
  case validation =>
    intro b x s hb hnew
    refine ⟨fun hok hdue => ?_, fun ⟨i, size, field⟩ hbad => ?_⟩
    · obtain ⟨hbatch, -, hstores, -⟩ := validated_results hb
      refine ⟨_, _, exec_batchValidationEnd_keeps hb hnew hok hdue, hbatch, rfl, by simp, fun o ho => ?_,
        sameBytes_of_leaves hstores⟩
      obtain ⟨i, -, rfl⟩ := List.mem_map.1 ho
      rfl
    · exact ⟨_, exec_batchValidationEnd_refuses hb hnew hbad, refused_results hb i field _⟩
  case issue =>
    intro b i x o s hone hvalid hlive hdue ho hready hfirst hroom
    obtain ⟨peak, hexec⟩ := exec_operationIssue_alone hone hvalid hlive hdue ho hready hfirst hroom
    refine ⟨_, hexec, ?_, mget_mput_same _ _ _⟩
    rw [regF_congr fun j _ hj => regB_setRegF _ _ (by decide) (.inr (.inl (by omega))),
      regF_setRegF_same _ _ _ (by decide) (by decide)]
    exact Nat.mod_eq_of_lt (by show _ < 256; omega)
  case commit =>
    intro b i upset x o s hb ho hflight hdue
    exact ⟨_, exec_operationCommit hb ho hflight hdue upset, commitOp_results hb ho hflight upset⟩
  case deadline =>
    intro b x s hb hvalid hlive hdue
    exact ⟨_, exec_solverDeadline hb hvalid hlive hdue, fun hne y hy => deadlineBatch_results hb hne y hy⟩
  case grace =>
    intro b x s hb hdead hpast
    exact ⟨_, exec_deadlineGraceExpiry hb hdead hpast, fun hne => endOps_settle_completes hb _ hne⟩
  case fault =>
    intro k ops s hon hidle
    obtain ⟨htest, hstk, htile⟩ := tileStopped_results s k.isLt
    obtain ⟨hstk', htile', htest'⟩ : _ ∧ _ ∧ _ := by
      simpa only [State.panel, Prod.mk.injEq] using (tileEnds_leaves (s.tileStopped k) ops).eq
    refine ⟨_, exec_tileFault hon hidle ops, htest'.symm ▸ htest, ?_, ?_⟩
    · rw [State.regB, hstk']; exact hstk
    · rw [State.regF, htile']; exact htile
  case selftest =>
    intro k pass s htest
    refine ⟨_, exec_tileSelftestEnd htest pass, ?_⟩
    have hout (u : State) : ((u.updSol fun q => { q with testing := q.testing.filter fun j => j != k.val }).sol.testing.contains
        k.val) = false := by simp
    cases pass with
    | true => exact ⟨hout s, fun h => absurd h (by decide)⟩
    | false =>
      obtain ⟨hsol, htile, hhealth⟩ := tileOff_results
        (s.updSol fun q => { q with testing := q.testing.filter fun j => j != k.val }) k.isLt
      exact ⟨(congrArg (fun q => q.testing.contains k.val) hsol).trans (hout s), fun _ => ⟨htile, hhealth⟩⟩
  case release =>
    intro p v s hturn hdec n
    refine ⟨fun k hk hdone hfree => ⟨_, exec_solTrel hturn hdec v, ?_⟩, fun hnone => ⟨_, exec_solTrel hturn hdec v, ?_⟩⟩
    · rw [solTrel_releases (s := s.turned p) hk hdone hfree]
      obtain ⟨hgone, hheld, hregs⟩ := releaseTicket_results (s.turned p) n
      exact ⟨hgone, hheld, fun a _ _ => reg_of_regs hregs a⟩
    · rw [solTrel_refused (s := s.turned p) hnone]
      exact ⟨rfl, (regB_setBitR _ (by decide) _ _ _).trans (if_pos ⟨rfl, rfl⟩)⟩

end Sys2Proof.Machine
end

section
/-! The optimisation sequencer (R212, R220 to R223, R232, R235): what a run rests on and what leaves it alone, the begin of an
iteration, the end of a run, then the statement `Obligations.SequencerResults`. -/
namespace Sys2Proof.Machine

open State (Leaves)

/-! ### What a run rests on -/

/-- R232: the counters of the outcomes of a run. -/
def outcomePorts : List Nat := [Reg.OPT_NSOLV, Reg.OPT_NEARLY, Reg.OPT_NWARM, Reg.OPT_NZERO, Reg.OPT_NREF]

/-- The ports that show a run and its outcome. -/
def runPorts : List Nat := Reg.OPT_STAT :: Reg.OPT_STK :: outcomePorts

/-- The FAB clock and the counters of the outcomes. -/
def State.tally (s : State) : Nat × List Word := (s.clk, outcomePorts.map s.reg)

/-- The sequencer, the time, and the ports that show a run. -/
def State.runView (s : State) : Sequencer × Nat × Timebase × List Word := (s.opt, s.clk, s.tb, runPorts.map s.reg)

theorem tally_fields {s t : State} (h : Leaves State.tally s t) : t.clk = s.clk ∧ ∀ a ∈ outcomePorts, t.reg a = s.reg a := by
  simpa only [State.tally, Prod.mk.injEq, List.map_inj_left] using h.eq

theorem runView_fields {s t : State} (h : Leaves State.runView s t) :
    t.opt = s.opt ∧ t.clk = s.clk ∧ t.tb = s.tb ∧ ∀ a ∈ runPorts, t.reg a = s.reg a := by
  simpa only [State.runView, Prod.mk.injEq, List.map_inj_left] using h.eq

/-- R199: whether the deadline has come is read off the time. -/
theorem optDue_of_runView {s t : State} (h : Leaves State.runView s t) (x : OptHdr) : t.optDue x = s.optDue x := by
  obtain ⟨-, -, htb, -⟩ := runView_fields h
  rw [State.optDue, State.tmbNs, htb]; rfl

@[simp] theorem reg_updOpt (s : State) (f : Sequencer → Sequencer) (a : Nat) : (s.updOpt f).reg a = s.reg a := rfl

theorem map_reg_setReg (s : State) {l : List Nat} {a : Nat} (v : Word) (h : a ∉ l) : l.map (s.setReg a v).reg = l.map s.reg :=
  List.map_congr_left fun _ hb => State.reg_setReg_ne s v (ne_of_mem_of_not_mem hb h)

theorem map_reg_record (s : State) {l : List Nat} (n : RecName) (el : Nat) (items : List Nat) (h : ∀ a ∈ l, a < 0x8000) :
    l.map (s.record n el items).reg = l.map s.reg :=
  List.map_congr_left fun a ha => reg_record s n el items (not_recorderPort (h a ha))

theorem setReg_leaves_tally (s : State) {a : Nat} (v : Word) (h : a ∉ outcomePorts) : Leaves State.tally s (s.setReg a v) :=
  ⟨congrArg (Prod.mk s.clk) (map_reg_setReg s v h)⟩

theorem setReg_leaves_runView (s : State) {a : Nat} (v : Word) (h : a ∉ runPorts) : Leaves State.runView s (s.setReg a v) :=
  ⟨congrArg (fun l => (s.opt, s.clk, s.tb, l)) (map_reg_setReg s v h)⟩

theorem setBitR_leaves_runView (s : State) {a : Nat} (i : Nat) (h : a ∉ runPorts) : Leaves State.runView s (s.setBitR a i) :=
  ⟨(setReg_leaves_runView s (s.reg a ||| bitMask i) h).eq⟩

/-- A record belongs to the recorder: the sequencer and the time read the same. -/
theorem record_leaves_time (s : State) (n : RecName) (el : Nat) (items : List Nat) :
    Leaves (fun u => (u.opt, u.clk, u.tb)) s (s.record n el items) :=
  ⟨congrArg (fun u => (u.opt, u.clk, u.tb)) (unrecorded_record s n el items)⟩

theorem record_leaves_runView (s : State) (n : RecName) (el : Nat) (items : List Nat) :
    Leaves State.runView s (s.record n el items) := by
  obtain ⟨hopt, hclk, htb⟩ : _ ∧ _ ∧ _ := by simpa only [Prod.mk.injEq] using (record_leaves_time s n el items).eq
  exact ⟨by rw [State.runView, hopt, hclk, htb, map_reg_record s n el items (by decide), State.runView]⟩

theorem tally_of_runView {s t : State} (h : Leaves State.runView s t) : Leaves State.tally s t := by
  obtain ⟨-, hclk, -, hregs⟩ := runView_fields h
  exact ⟨by rw [State.tally, hclk, List.map_congr_left fun a ha => hregs a (.tail _ (.tail _ ha)), State.tally]⟩

/-! ### Tickets, clauses, jobs and reads beside the run -/

theorem updTicket_leaves_runView (s : State) (k : Nat) (f : Ticket → Ticket) : Leaves State.runView s (s.updTicket k f) := by
  unfold State.updTicket
  split
  · exact .refl s
  · exact ⟨rfl⟩

theorem notifyClause_leaves_runView (s : State) (c seq ticket : Nat) : Leaves State.runView s (s.notifyClause c seq ticket) := by
  have hready : ∀ t, Leaves State.runView s (s.makeReady c t) := fun t => by
    obtain ⟨x, hx⟩ := makeReady_eq s c t
    exact hx ▸ ⟨rfl⟩
  exact .ite (.ite (hready _) (setReg_leaves_runView s _ (by decide))) (.refl s)

theorem acceptOwn_leaves_runView (s : State) (o : OwnBatch) : Leaves State.runView s (s.acceptOwn o) := by
  unfold State.acceptOwn
  simp -zeta only [foldl_markBank]
  extract_lets n head s1 x banks
  clear_value n head x banks
  exact .after (setReg_leaves_runView _ _ (by decide)) (.after (setReg_leaves_runView _ _ (by decide)) ⟨rfl⟩)

/-- R221: a job that begins leaves the run that began it. -/
theorem startJob_leaves_runView (s : State) (j : Nat) (bs : List OwnBatch) : Leaves State.runView s (s.startJob j bs) := by
  cases bs with
  | nil => exact ⟨rfl⟩
  | cons b l => exact .after (acceptOwn_leaves_runView _ b) ⟨rfl⟩

theorem noteParity_leaves_runView (s : State) (a n : Nat) : Leaves State.runView s (s.noteParity a n).1 :=
  .after (.foldl fun _ _ => .after (record_leaves_runView _ _ _ _) (.after (setBitR_leaves_runView _ _ (by decide))
    (.after (setReg_leaves_runView _ _ (by decide)) (setReg_leaves_runView _ _ (by decide))))) (.ite (.refl s) ⟨rfl⟩)

/-- R170: the reads of a run move neither the run nor the bytes read. -/
theorem optReads_leaves (s : State) (r : OptRun) (h : OptHdr) :
    Leaves State.runView s (s.optReads r h) ∧ Leaves State.stores s (s.optReads r h) :=
  ⟨.after (.foldl fun _ _ => noteParity_leaves_runView _ _ _) (noteParity_leaves_runView s _ _),
    .after (.foldl fun _ _ => noteParity_leaves_stores _ _ _) (noteParity_leaves_stores s _ _)⟩

/-! ### The start of the iterations is computed from the bytes of the banks (R220, R224) -/

section
variable {s t : State} (h : Leaves State.stores s t) (x : OptHdr)
include h

theorem bankNum_of_leaves : t.bankNum = s.bankNum := by
  funext a n
  rw [State.bankNum, cells_of_leaves h, State.bankNum]

theorem thrusters_of_leaves : t.thrusters x = s.thrusters x := by
  simp only [State.thrusters, State.thruster, State.thrWord, bankNum_of_leaves h]

theorem optRef_of_leaves : t.optRef x = s.optRef x := by
  funext k
  simp only [State.optRef, bankNum_of_leaves h]

theorem optUprev_of_leaves : t.optUprev x = s.optUprev x := by
  funext i
  simp only [State.optUprev, optRef_of_leaves h]

theorem optXhat_of_leaves : t.optXhat x = s.optXhat x := by
  funext i
  simp only [State.optXhat, optRef_of_leaves h]

theorem optLimit_of_leaves : t.optLimit x = s.optLimit x := by
  funext which i
  simp only [State.optLimit, bankNum_of_leaves h]

theorem optFixed_of_leaves : t.optFixed x = s.optFixed x := by
  funext ts k
  simp only [State.optFixed, optUprev_of_leaves h]

theorem optModel_of_leaves : t.optModel x = s.optModel x := by
  funext y u i
  simp only [State.optModel, State.optA, State.optB, State.optC, optRef_of_leaves h, bankNum_of_leaves h]

theorem optSimulate_of_leaves : t.optSimulate x = s.optSimulate x := by
  funext u
  simp only [State.optSimulate, optModel_of_leaves h, optXhat_of_leaves h]

theorem stageBox_of_leaves : t.stageBox x = s.stageBox x := by
  funext ts k i
  simp only [State.stageBox, State.optBox, optFixed_of_leaves h, optLimit_of_leaves h]

theorem optBox0_of_leaves : t.optBox0 x = s.optBox0 x := by
  funext ts i
  simp only [State.optBox0, State.optBox, optLimit_of_leaves h, optUprev_of_leaves h]

theorem optRowsW_of_leaves : t.optRowsW x = s.optRowsW x := by
  funext k
  simp only [State.optRowsW, bankNum_of_leaves h]

theorem generalRow_of_leaves : t.generalRow x = s.generalRow x := by
  funext k j y u
  unfold State.generalRow
  rw [optRowsW_of_leaves h]

theorem iterRows_of_leaves : t.iterRows x = s.iterRows x := by
  funext grant p k
  simp only [State.iterRows, State.iterX, State.stageRows, thrusters_of_leaves h, generalRow_of_leaves h, optUprev_of_leaves h,
    optXhat_of_leaves h, optLimit_of_leaves h, optFixed_of_leaves h, stageBox_of_leaves h, optBox0_of_leaves h]

theorem optBegin_of_leaves : t.optBegin x = s.optBegin x := by
  funext grant
  simp only [State.optBegin, State.warmPlan, State.zeroPlan, thrusters_of_leaves h, optFixed_of_leaves h, optSimulate_of_leaves h,
    iterRows_of_leaves h, bankNum_of_leaves h]

end

/-! ### An iteration begins, or the run goes on to its publication (R220, R223) -/

theorem run_beginPublish (s : State) (h : OptHdr) (r : OptRun) :
    (s.beginPublish h r).opt.run = some { r with phase := .publish } := by
  obtain ⟨hopt, -⟩ := runView_fields (startJob_leaves_runView
    (s.updOpt fun q => { q with run := some { r with phase := .publish } }) 1 (s.publishBatches h r.best.isNone))
  exact congrArg Sequencer.run hopt

/-- R220: after its last iteration, or past its deadline, a run goes on to its publication. -/
theorem run_beginIteration_last {s : State} {h : OptHdr} {r : OptRun} (hend : h.iter ≤ r.done ∨ s.optDue h = true) :
    ∃ d, (s.beginIteration h r).opt.run = some { r with phase := .publish, dln := d } := by
  unfold State.beginIteration
  split
  · exact ⟨r.dln, run_beginPublish s h r⟩
  next hmore =>
    rw [if_pos (hend.resolve_left hmore)]
    exact ⟨true, run_beginPublish s h { r with dln := true }⟩

/-- R220: otherwise the next iteration begins, and OPT_STAT gives its number. -/
theorem beginIteration_next {s : State} {h : OptHdr} {r : OptRun} (hmore : r.done < h.iter) (hdue : s.optDue h = false) :
    (∃ x, (s.beginIteration h r).opt.run = some { r with phase := .iterate, next := x })
      ∧ (s.beginIteration h r).regF Reg.OPT_STAT 17 12 = (r.done + 1) % 64 := by
  unfold State.beginIteration
  rw [if_neg (Nat.not_le.2 hmore), hdue, if_neg Bool.false_ne_true]
  extract_lets a u
  obtain ⟨hopt, -, -, hregs⟩ := runView_fields (startJob_leaves_runView (u.setRegF Reg.OPT_STAT 17 12 (r.done + 1)) 1
    (u.iterBatches h (r.done + 1) a.1 r.cur))
  refine ⟨⟨_, congrArg Sequencer.run hopt⟩, ?_⟩
  rw [State.regF, hregs _ (by decide)]
  exact regF_setRegF_same u _ _ (by decide) (by decide)

/-! ### The end of a run (R223, R232) -/

theorem bit_eq_fld (w : Word) (i : Nat) : bit w i = decide (fld w i i = 1) := by
  rw [bit, fld, bitsOf, Nat.testBit_eq_decide_div_mod_eq, Nat.add_sub_cancel_left, Nat.shiftRight_eq_div_pow, Nat.pow_one]

theorem bit_setBit_same (w : Word) {i : Nat} (hi : i < 32) (b : Bool) : bit (setBit w i b) i = b := by
  rw [bit_eq_fld, setBit, fld_setFld_same w _ (Nat.le_refl i) hi, Nat.add_sub_cancel_left]
  cases b <;> rfl

/-- R232, R236: the sequencer's own part of the end of a run. -/
def State.closeRun (s : State) (r : OptRun) (sum : Word) (counter : Nat) : State :=
  let u := (s.bump counter).drop Reg.OPT_NPEND
  let u := u.setReg Reg.OPT_STAT (setFld (setBit (u.reg Reg.OPT_STAT) 31 false) 11 9 (fld sum 31 29))
  let u := (u.setReg Reg.OPT_RUNT (wd (u.tb.el - r.start))).setReg Reg.OPT_MACS (wd r.macs)
  u.updOpt fun q => { q with run := none, endClk := some u.clk }

/-- R232, R237: beside that part the end of a run concerns its ticket and the clause to notify. -/
theorem optEnd_leaves (s : State) (r : OptRun) (h : OptHdr) (sum : Word) (counter : Nat) :
    ∃ u, Leaves State.runView s u ∧ Leaves State.runView (u.closeRun r sum counter) (s.optEnd r h sum counter) := by
  refine ⟨s.updTicket r.ticket fun t => { t with complete := true, sum := sum, stamp := s.tmbNs },
    updTicket_leaves_runView s _ _, ?_⟩
  unfold State.optEnd
  extract_lets u u1 u2 u3 v w
  have hw : Leaves State.runView v w := .ite (notifyClause_leaves_runView v _ _ _) (.refl v)
  exact .ite ⟨hw.eq⟩ hw

section
variable (s : State) (r : OptRun) (sum : Word) {counter : Nat}

theorem opt_closeRun : (s.closeRun r sum counter).opt = { s.opt with run := none, endClk := some s.clk } := rfl

theorem busy_closeRun : (s.closeRun r sum counter).regB Reg.OPT_STAT 31 = false := by
  rw [State.regB, State.closeRun, reg_updOpt, State.reg_setReg_ne _ _ (by decide), State.reg_setReg_ne _ _ (by decide),
    State.reg_setReg_same, bit_setFld_outside _ _ (by decide) (.inr (by decide)), bit_setBit_same _ (by decide)]

/-- R232: an end moves the counter of its outcome and OPT_STAT of the ports of the run. -/
theorem reg_closeRun {a : Nat} (hstat : a ≠ Reg.OPT_STAT) (ha : a ∈ runPorts) :
    (s.closeRun r sum counter).reg a = (s.bump counter).reg a := by
  have hne : ∀ b, b ∉ runPorts → a ≠ b := fun _ => ne_of_mem_of_not_mem ha
  rw [State.closeRun, reg_updOpt, State.reg_setReg_ne _ _ (hne _ (by decide)), State.reg_setReg_ne _ _ (hne _ (by decide)),
    State.reg_setReg_ne _ _ hstat, State.drop, State.reg_setReg_ne _ _ (hne _ (by decide))]

end

/-- R232, R236: a run that ends leaves the sequencer, is no longer shown as busy, and counts by its outcome. -/
theorem optEnd_results (s : State) (r : OptRun) (h : OptHdr) (sum : Word) {counter : Nat} (hcounter : counter ∈ outcomePorts) :
    let t := s.optEnd r h sum counter
    t.opt = { s.opt with run := none, endClk := some s.clk } ∧ t.regB Reg.OPT_STAT 31 = false
      ∧ t.reg counter = s.reg counter + 1 ∧ t.reg Reg.OPT_STK = s.reg Reg.OPT_STK := by
  obtain ⟨u, hu, ht⟩ := optEnd_leaves s r h sum counter
  obtain ⟨hopt, hclk, -, hregs⟩ := runView_fields hu
  obtain ⟨hopt', -, -, hregs'⟩ := runView_fields ht
  have hmem : counter ∈ runPorts := .tail _ (.tail _ hcounter)
  have hne : ∀ b, b ∉ outcomePorts → counter ≠ b := fun _ => ne_of_mem_of_not_mem hcounter
  refine ⟨?_, ?_, ?_, ?_⟩
  · rw [hopt', opt_closeRun, hopt, hclk]
  · rw [State.regB, hregs' _ (by decide)]
    exact busy_closeRun u r sum
  · rw [hregs' _ hmem, reg_closeRun u r sum (hne _ (by decide)) hmem, State.bump, State.reg_setReg_same, hregs _ hmem]
    rfl
  · rw [hregs' _ (by decide), reg_closeRun u r sum (by decide) (by decide), State.bump,
      State.reg_setReg_ne _ _ (Ne.symm (hne _ (by decide))), hregs _ (by decide)]

/-- R212: the run ends REFUSED, with header word `k` at fault. -/
def State.refuseRun (s : State) (r : OptRun) (h : OptHdr) (k : Nat) : State :=
  (((s.setBitR Reg.OPT_STK 1).record .optRefused 0 [k]).optEnd r h (wd (4 * 2 ^ 29)) Reg.OPT_NREF).updOpt
    fun q => { q with lastDeg := false }

theorem refuseRun_results (s : State) (r : OptRun) (h : OptHdr) (k : Nat) :
    let t := s.refuseRun r h k
    t.opt.run = none ∧ t.regB Reg.OPT_STK 1 = true ∧ t.reg Reg.OPT_NREF = s.reg Reg.OPT_NREF + 1 := by
  obtain ⟨-, -, -, hrec⟩ := runView_fields (record_leaves_runView (s.setBitR Reg.OPT_STK 1) .optRefused 0 [k])
  obtain ⟨hopt, -, hcount, hstk⟩ := optEnd_results ((s.setBitR Reg.OPT_STK 1).record .optRefused 0 [k]) r h (wd (4 * 2 ^ 29))
    (counter := Reg.OPT_NREF) (by decide)
  refine ⟨congrArg Sequencer.run hopt, ?_, hcount.trans ?_⟩
  · refine (congrArg (bit · 1) (hstk.trans (hrec _ (by decide)))).trans ?_
    exact (regB_setBitR s (by decide) _ _ _).trans (if_pos ⟨rfl, rfl⟩)
  · rw [hrec _ (by decide), State.setBitR, State.reg_orBits_ne _ _ (by decide)]

/-- R232: the counter of the outcome that `code` names. -/
def outcomeCounter (code : Nat) : Nat :=
  match code with
  | 0 => Reg.OPT_NSOLV
  | 1 => Reg.OPT_NEARLY
  | 2 => Reg.OPT_NWARM
  | _ => Reg.OPT_NZERO

theorem outcomeCounter_mem (code : Nat) : outcomeCounter code ∈ outcomePorts := by
  unfold outcomeCounter
  split <;> decide

theorem setBitR_stk_leaves_tally (s : State) (i : Nat) : Leaves State.tally s (s.setBitR Reg.OPT_STK i) :=
  ⟨(setReg_leaves_tally s (s.reg Reg.OPT_STK ||| bitMask i) (by decide)).eq⟩

/-- R227: the reports of a degraded run count no outcome. -/
theorem optDegrade_leaves_tally (s : State) (code : Nat) (deg : Bool) : Leaves State.tally s (s.optDegrade code deg) := by
  have hrec : ∀ (u : State) (f : Sequencer → Sequencer) n, Leaves State.tally u ((u.updOpt f).record n 0 []) := fun u f n =>
    .after (tally_of_runView (record_leaves_runView _ _ _ _)) ⟨rfl⟩
  unfold State.optDegrade
  extract_lets s1 s2
  have h1 : Leaves State.tally s s1 := .ite (hrec _ _ _) (.refl s)
  have h2 : Leaves State.tally s s2 := .ite (.after (hrec _ _ _) h1) h1
  exact ⟨h2.eq⟩

/-- R229, R230: a publication is the end of the run, after the result block and the reports have been written. -/
theorem optPublish_eq (s : State) (r : OptRun) (h : OptHdr) : ∃ u sum, Leaves State.tally s u
    ∧ s.optPublish r h = u.optEnd r h sum (outcomeCounter (s.optOutcome r h).1) := by
  generalize hpub : s.optPublish r h = t
  unfold State.optPublish at hpub
  generalize s.optOutcome r h = o at hpub ⊢
  obtain ⟨code, plan, pass⟩ := o
  dsimp -zeta only at hpub
  extract_lets -lift ts g res outF resW resid fbout deg sum rest us blk s0 s1 s2 s3 s4 s5 s6 at hpub
  have hbit : ∀ {u : State} {c : Bool} (i : Nat), Leaves State.tally s u →
      Leaves State.tally s (if c then u.setBitR Reg.OPT_STK i else u) := fun i hu =>
    .ite (.after (setBitR_stk_leaves_tally _ i) hu) hu
  have h5 : Leaves State.tally s s5 := hbit 5 (hbit 4 (hbit 3 (hbit 2 (hbit 0 ⟨rfl⟩))))
  exact ⟨s6, sum, .after (optDegrade_leaves_tally _ _ _) (.after (setReg_leaves_tally s5 _ (by decide)) h5), hpub.symm⟩

/-- R223: a plan that has passed is SOLVED at the last iteration and EARLY before. -/
theorem optOutcome_passed (s : State) {r : OptRun} {p : OptPass} (h : OptHdr) (hbest : r.best = some p) :
    (s.optOutcome r h).1 = if p.iter = h.iter then 0 else 1 := by
  simp only [State.optOutcome, hbest]
  split <;> rfl

/-- R223: without a plan that has passed the run falls back on the warm plan or the zero plan. -/
theorem optOutcome_fallback (s : State) {r : OptRun} (h : OptHdr) (hbest : r.best = none) :
    (s.optOutcome r h).1 = if h.warm then 2 else 3 := by
  simp only [State.optOutcome, hbest]
  split <;> rfl

/-! ### The commands in a run -/

/-- R220, R222: the run whose iteration is complete: its next iterate is in force, `b` the latest that passed. -/
def OptRun.iterated (r : OptRun) (q : JobState) (b : Option OptPass) : OptRun :=
  { r.met q with done := r.done + 1, cur := r.next.1, best := b }

section
variable {s : State} {r : OptRun} {h : OptHdr} (hrun : s.opt.run = some r) (hdr : s.optHdr r.bank r.off = h)
include hrun hdr

/-- R212: a descriptor in order begins the first iteration. -/
theorem exec_optValidationEnd_begins (hphase : r.phase = .check) (hok : s.optFault h = none) :
    exec .optValidationEnd s = .next ((s.optReads r h).beginIteration h { r with cur := s.optBegin h r.grant }) := by
  change execOptValidationEnd s = _
  rw [← optBegin_of_leaves (optReads_leaves s r h).2]
  simp [execOptValidationEnd, hrun, hdr, hphase, hok]

/-- R212: a descriptor at fault ends the run. -/
theorem exec_optValidationEnd_refuses (hphase : r.phase = .check) {k : Nat} (hbad : s.optFault h = some k) :
    exec .optValidationEnd s = .next ((s.optReads r h).refuseRun r h k) := by
  change execOptValidationEnd s = _
  simp [execOptValidationEnd, State.refuseRun, hrun, hdr, hphase, hbad]

section
variable (hphase : r.phase = .iterate) (hidle : (s.job 1).busy = false)
include hphase hidle

/-- R199, R220: an iteration that the deadline has cut. -/
theorem exec_optIterationEnd_late (hlate : (s.job 1).late = true) : exec .optIterationEnd s
    = .next (s.beginPublish h { r.met (s.job 1) with dln := true, itfail := (s.job 1).bad }) := by
  change execOptIterationEnd s = _
  simp [execOptIterationEnd, hrun, hdr, hphase, hidle, hlate]

/-- R221: an iteration with a fault, or whose updates saturated. -/
theorem exec_optIterationEnd_fails (hlate : (s.job 1).late = false) (hbad : (s.job 1).bad = true ∨ r.next.2 = true) :
    exec .optIterationEnd s = .next (s.beginPublish h { r.met (s.job 1) with itfail := true }) := by
  change execOptIterationEnd s = _
  simp [execOptIterationEnd, hrun, hdr, hphase, hidle, hlate, OptRun.met, hbad]

/-- R222: any other iteration gives the next iterate, which is kept as the best where it passes the test. -/
theorem exec_optIterationEnd_tests (hlate : (s.job 1).late = false) (hbad : (s.job 1).bad = false) (hsat : r.next.2 = false) :
    ∃ b, exec .optIterationEnd s = .next (s.beginIteration h (r.iterated (s.job 1) b)) := by
  rw [show exec .optIterationEnd s = execOptIterationEnd s from rfl]
  simp only [execOptIterationEnd, hrun, hdr, hphase, hidle, hlate, hbad, OptRun.met, hsat, ne_eq, not_true_eq_false,
    Bool.false_eq_true, or_self, Bool.or_self, if_false]
  exact ⟨_, rfl⟩

end

/-- R223, R229, R232: a run that completes is counted by its outcome. -/
theorem exec_optRunComplete_counts (hphase : r.phase = .publish) (hidle : (s.job 1).busy = false) :
    ∃ t, exec .optRunComplete s = .next t ∧ t.opt.run = none ∧ t.opt.endClk = some s.clk ∧ t.regB Reg.OPT_STAT 31 = false
      ∧ ∀ a, outcomeCounter (s.optOutcome (r.met (s.job 1)) h).1 = a → t.reg a = s.reg a + 1 := by
  obtain ⟨u, sum, hu, hpub⟩ := optPublish_eq s (r.met (s.job 1)) h
  have hmem := outcomeCounter_mem (s.optOutcome (r.met (s.job 1)) h).1
  obtain ⟨hopt, hstat, hcount, -⟩ := optEnd_results u (r.met (s.job 1)) h sum hmem
  obtain ⟨hclk, hregs⟩ := tally_fields hu
  refine ⟨_, ?_, ?_, ?_, hstat, fun a ha => ha ▸ hcount.trans (congrArg (· + 1) (hregs _ hmem))⟩
  · change execOptRunComplete s = _
    simp only [execOptRunComplete, hrun, hdr, hphase, hidle, and_self, if_true, hpub]
  · rw [hopt]
  · rw [hopt, ← hclk]

end

/-! ### OPT_FBLIM (R235) -/

theorem exec_optFblimWrite {s : State} {p : Party} (h : s.turnOf p = true) (hdec : s.portOff Reg.OPT_FBLIM = false) (v : Word) :
    exec (.optFblimWrite p v) s = .next ((s.turned p).optFblim p v) :=
  congrArg Host.Outcome.next ((byParty_of_turnOf h _).trans (if_neg (Bool.eq_false_iff.1 hdec)))

/-- R32, R235: a limit other than 0 is staged, and joins an empty set. -/
theorem optFblim_staged {s : State} {g : GroupNo} {v : Word} (hv : fld v 7 0 ≠ 0) (hstop : s.stopReal g = false)
    (hover : (s.group g).overflowed = false) (hpend : (s.group g).pend = []) :
    let t := s.optFblim (.svc g) v
    (∀ q, t.reg q = s.reg q) ∧ (t.group g).pend
      = [{ clause := none, disp := 0, addr := Reg.OPT_FBLIM, val := v, clk := s.clk, ord := (s.group g).stageNo }] := by
  obtain ⟨hset, hregs⟩ := stageIn_joins (s := s) (g := g.val)
    { clause := none, disp := 0, addr := Reg.OPT_FBLIM, val := v, clk := s.clk } hstop hover (by simp [hpend])
  rw [hpend] at hset
  rw [State.optFblim, if_neg hv]
  exact ⟨hregs, hset⟩

/-! ### The statement -/

/-- Settles O34: a run moves on by the law of its command: the end of the validation, of an iteration, of the publication; a write
of the fallback limit joins the pending set. -/
theorem sequencerResults : Obligations.SequencerResults := by
  refine ⟨fun r s hrun => ?runs, fun g v s hturn hdec => ⟨?zero, ?staged⟩⟩
  case runs =>
    generalize hdr : s.optHdr r.bank r.off = h
    refine ⟨?begins, ?refused, fun hphase hidle hlate => ⟨?tests, ?fails⟩, ?late, ?completes⟩
    case begins =>
      intro hphase hok hdone hiter hdue
      obtain ⟨⟨x, hx⟩, hstat⟩ := beginIteration_next (s := s.optReads r h)
        (r := { r with cur := s.optBegin h r.grant }) (hdone ▸ hiter)
        ((optDue_of_runView (optReads_leaves s r _).1 _).trans hdue)
      refine ⟨_, _, exec_optValidationEnd_begins hrun hdr hphase hok, hx, rfl, hdone, rfl, hstat.trans ?_⟩
      simp [hdone]
    case refused =>
      intro hphase k hbad
      obtain ⟨-, -, -, hreads⟩ := runView_fields (optReads_leaves s r h).1
      obtain ⟨hnone, hstk, hcount⟩ := refuseRun_results (s.optReads r h) r h k
      exact ⟨_, exec_optValidationEnd_refuses hrun hdr hphase hbad, hnone, hstk,
        hcount.trans (congrArg (· + 1) (hreads _ (by decide)))⟩
    case tests =>
      intro hbad hsat
      obtain ⟨b, hexec⟩ := exec_optIterationEnd_tests hrun hdr hphase hidle hlate hbad hsat
      by_cases hend : h.iter ≤ r.done + 1 ∨ s.optDue h = true
      · obtain ⟨d, hd⟩ := run_beginIteration_last (r := r.iterated (s.job 1) b) hend
        refine ⟨_, _, hexec, hd, rfl, rfl, rfl, fun _ => rfl, fun hmore hdue => absurd hend ?_⟩
        simp [hmore, hdue]
      · have hmore := Nat.lt_of_not_le fun h => hend (.inl h)
        have hdue := Bool.eq_false_iff.2 fun h => hend (.inr h)
        obtain ⟨⟨x, hx⟩, -⟩ := beginIteration_next (r := r.iterated (s.job 1) b) hmore hdue
        exact ⟨_, _, hexec, hx, rfl, rfl, rfl, fun h => absurd h hend, fun _ _ => rfl⟩
    case fails =>
      intro hbad
      exact ⟨_, _, exec_optIterationEnd_fails hrun hdr hphase hidle hlate hbad, run_beginPublish s _ _, rfl, rfl, rfl⟩
    case late =>
      intro hphase hidle hlate
      exact ⟨_, _, exec_optIterationEnd_late hrun hdr hphase hidle hlate, run_beginPublish s _ _, rfl, rfl, rfl⟩
    case completes =>
      intro hphase hidle
      obtain ⟨t, hexec, hnone, hclk, hstat, hcount⟩ := exec_optRunComplete_counts hrun hdr hphase hidle
      have hpassed : ∀ p, r.best = some p → (s.optOutcome (r.met (s.job 1)) h).1
          = if p.iter = h.iter then 0 else 1 := fun p hp => optOutcome_passed s _ hp
      have hfallback : r.best = none → (s.optOutcome (r.met (s.job 1)) h).1
          = if h.warm then 2 else 3 := fun hp => optOutcome_fallback s _ hp
      refine ⟨t, hexec, hnone, hclk, hstat, fun p hp hlast => hcount _ ?_, fun p hp hearly => hcount _ ?_,
        fun hp hwarm => hcount _ ?_, fun hp hcold => hcount _ ?_⟩
      · rw [hpassed p hp, if_pos hlast]; rfl
      · rw [hpassed p hp, if_neg hearly]; rfl
      · rw [hfallback hp, if_pos hwarm]; rfl
      · rw [hfallback hp, if_neg (Bool.eq_false_iff.1 hcold)]; rfl
  case zero =>
    intro hv
    rw [exec_optFblimWrite hturn hdec, State.optFblim, if_pos hv]
    rfl
  case staged =>
    intro hv hstop hover hpend
    exact ⟨_, exec_optFblimWrite hturn hdec v, optFblim_staged (s := s.turned (.svc g)) hv hstop hover hpend⟩

end Sys2Proof.Machine
end

section
/-! The evaluation of a loop slot (R245): what an evaluation that ends in normal mode gives, then the statement
`Obligations.LoopOutputsAreLimited`. -/
namespace Sys2Proof.Machine

/-! ### Limits -/

/-- A clamped value lies between its bounds, when these are in order. -/
theorem clampI_mem {lo hi : Int} (h : lo ≤ hi) (x : Int) : lo ≤ clampI lo hi x ∧ clampI lo hi x ≤ hi := by
  unfold clampI
  split
  · omega
  · split <;> omega

/-- R245, step 10: with no slew limit the output is the value limited to the bounds of the page. -/
theorem outLimits_mem {w : Nat → Word} (h : sw (w 20) ≤ sw (w 21)) (hslew : w 22 = 0) (up y : Int) :
    sw (w 20) ≤ (outLimits w up y).2.1 ∧ (outLimits w up y).2.1 ≤ sw (w 21) := by
  have hu : (outLimits w up y).2.1 = min (max y (sw (w 20))) (sw (w 21)) := if_pos hslew
  rw [hu]
  omega

/-! ### An evaluation in normal mode -/

/-- R245: an evaluation that ends in normal mode clamps the integrator and limits the output by the page of its sample: steps 7
and 10 stand whatever went before. -/
theorem evaluate_normal {s : State} {n : Nat} {x : LoopSlot} {m : LoopSample} (hx : x.mode ≠ 2)
    (hmode : (s.evaluate n x m).mode = 0) :
    let w := s.page n m.page
    (∃ i, (s.evaluate n x m).st.i = clampI (sw (w 4) * (2 ^ 30 : Nat)) (sw (w 5) * (2 ^ 30 : Nat)) i)
      ∧ ∃ y, (s.evaluate n x m).u = (outLimits w x.st.up y).2.1 := by
  intro w
  generalize hr : s.evaluate n x m = r at hmode ⊢
  unfold State.evaluate at hr
  extract_lets -underBinder +onlyGivenNames ang w st kpsh kdsh kfsh spl eraw e px d rraw q dfraw df fx felim above feSince fe frzn
    frz frozen cond at hr
  simp only [if_neg hx] at hr
  by_cases hc : cond = true
  · rw [if_pos hc] at hr
    subst hr
    exact absurd hmode Nat.one_ne_zero
  · rw [if_neg hc] at hr
    subst hr
    exact ⟨⟨_, rfl⟩, _, rfl⟩

/-- Settles O36: the integrator is clamped in step 7 and the output limited in step 10. -/
theorem loopOutputsAreLimited : Obligations.LoopOutputsAreLimited := by
  intro s n x m w r hx hmode
  obtain ⟨⟨i, hi⟩, y, hu⟩ := evaluate_normal hx hmode
  refine ⟨fun hlimits => ?_, fun hlimits hslew => ?_⟩
  · have hpage : w 4 * 2 ^ 30 ≤ w 5 * 2 ^ 30 := by omega
    exact hi ▸ clampI_mem hpage i
  · exact hu ▸ outLimits_mem hlimits (BitVec.eq_of_toInt_eq hslew) x.st.up y

end Sys2Proof.Machine
end

section
/-! The slots of the loop engine (R239 to R243, R248, R249, R257, R261): what stands beside them, the slot at a sample, at an
evaluation and at an output instant, the commands of a slot and the loss of a lane, then the statement
`Obligations.LoopSlotResults`. -/
namespace Sys2Proof.Machine

open State (Leaves)

/-! ### What stands beside the slots -/

/-- The loop engine, the timebase, and port `a`. -/
def State.seenAt (a : Nat) (s : State) : Loops × Timebase × Word := (s.lpe, s.tb, s.reg a)

theorem seenAt_fields {a : Nat} {s t : State} (h : Leaves (State.seenAt a) s t) :
    t.lpe = s.lpe ∧ t.tb = s.tb ∧ t.reg a = s.reg a := by
  simpa only [State.seenAt, Prod.mk.injEq] using h.eq

theorem slot_of_seenAt {a : Nat} {s t : State} (h : Leaves (State.seenAt a) s t) (n : Nat) : t.slot n = s.slot n := by
  rw [State.slot, (seenAt_fields h).1, State.slot]

theorem slot_updSlot (s : State) (m n : Nat) (f : LoopSlot → LoopSlot) :
    (s.updSlot m f).slot n = if n = m then f (s.slot m) else s.slot n := mgetD_mput _ _ _ _ _

@[simp] theorem slot_updSlot_same (s : State) (n : Nat) (f : LoopSlot → LoopSlot) : (s.updSlot n f).slot n = f (s.slot n) :=
  mgetD_mput_same _ _ _ _

section
variable {a : Nat} (s : State)

theorem setReg_leaves_seenAt {b : Nat} (v : Word) (h : a ≠ b) : Leaves (State.seenAt a) s (s.setReg b v) :=
  ⟨congrArg (fun w => (s.lpe, s.tb, w)) (State.reg_setReg_ne s v h)⟩

theorem setBitR_leaves_seenAt {b : Nat} (i : Nat) (h : a ≠ b) : Leaves (State.seenAt a) s (s.setBitR b i) :=
  ⟨congrArg (fun w => (s.lpe, s.tb, w)) (State.reg_orBits_ne s _ h)⟩

theorem putBitR_leaves_seenAt {b : Nat} (i : Nat) (v : Bool) (h : a ≠ b) : Leaves (State.seenAt a) s (s.putBitR b i v) := by
  cases v
  · exact setReg_leaves_seenAt s _ h
  · exact setBitR_leaves_seenAt s i h

theorem record_leaves_seenAt (n : RecName) (el : Nat) (items : List Nat) (h : a < 0x8000) :
    Leaves (State.seenAt a) s (s.record n el items) := by
  have hlpe : (s.record n el items).lpe = s.lpe := congrArg (fun u => u.lpe) (unrecorded_record s n el items)
  exact ⟨by rw [State.seenAt, hlpe, tb_record, reg_record _ _ _ _ (not_recorderPort h), State.seenAt]⟩

theorem blockEvent_leaves_seenAt (cls idx : Nat) : Leaves (State.seenAt a) s (s.blockEvent cls idx) := by
  obtain ⟨x, hx⟩ := blockEvent_eq s cls idx
  exact hx ▸ ⟨rfl⟩

theorem addHealth_leaves_seenAt (h : HealthCause) : Leaves (State.seenAt a) s (s.addHealth h) := by
  obtain ⟨l, p, -, hx⟩ := addHealth_eq s h
  exact hx ▸ ⟨rfl⟩

theorem slotStat_leaves_seenAt (n : Nat) (h : a ≠ Reg.LPE_STAT n) : Leaves (State.seenAt a) s (s.slotStat n) :=
  setReg_leaves_seenAt s _ h

/-- R170: the words in error that a read meets are reported in the ports of the banks. -/
theorem noteParity_leaves_seenAt (b n : Nat) (h : 0x0803 < a) (ha : a < 0x8000) :
    Leaves (State.seenAt a) s (s.noteParity b n).1 :=
  .after (.foldl fun _ _ => .after (record_leaves_seenAt _ _ _ _ ha) (.after (setBitR_leaves_seenAt _ _ (by grind))
    (.after (setReg_leaves_seenAt _ _ (by grind)) (setReg_leaves_seenAt _ _ (by grind))))) (.ite (.refl s) ⟨rfl⟩)

/-! ### Publication (R242, R257) -/

/-- R423: a command of a current loop stands in the ports of CLO. -/
theorem publishLoop_leaves_seenAt (c : Nat) (v : Word) (h : a < 0x6400) : Leaves (State.seenAt a) s (s.publishLoop c v) := by
  unfold State.publishLoop
  extract_lets s1 clamped s2 s3
  have h2 : Leaves (State.seenAt a) s s2 :=
    .after (putBitR_leaves_seenAt _ _ _ (by grind)) (setReg_leaves_seenAt s v (by grind))
  have h3 : Leaves (State.seenAt a) s s3 := .ite (.after (setBitR_leaves_seenAt _ _ (by grind)) h2) h2
  exact ⟨h3.eq⟩

/-- R242, R247: of the ports of its block a publication moves LPE_OUTn, and LPE_STKn where the destination is in error. -/
theorem publishSlot_leaves_seenAt (n : Nat) (u : Int) (h : a < 0x6400) (hstk : a ≠ Reg.LPE_STK n) :
    Leaves (State.seenAt a) (s.setReg (Reg.LPE_OUT n) (wdi u)) (s.publishSlot n u) := by
  unfold State.publishSlot
  extract_lets v t d b
  change Leaves _ t _
  clear_value t
  split
  · exact publishLoop_leaves_seenAt t _ v h
  · exact .ite ⟨rfl⟩ (setBitR_leaves_seenAt t _ hstk)
  · exact .refl t

theorem reg_publishSlot (n : Nat) (u : Int) (h : a < 0x6400) (hstk : a ≠ Reg.LPE_STK n) :
    (s.publishSlot n u).reg a = if a = Reg.LPE_OUT n then wdi u else s.reg a :=
  (seenAt_fields (publishSlot_leaves_seenAt s n u h hstk)).2.2.trans (State.reg_setReg s _ _ _)

theorem slot_publishSlot (n : Nat) (u : Int) (k : Nat) : (s.publishSlot n u).slot k = s.slot k :=
  slot_of_seenAt (publishSlot_leaves_seenAt (a := 0) s n u (by decide) (by grind)) k

/-- R257: the slot in safe mode, with its safe value as its output. -/
def LoopSlot.escalated (x : LoopSlot) (v : Int) : LoopSlot := { x with mode := 2, st := { x.st with up := v, yp := v } }

/-- R257: the slot escalated, and its safe value in LPE_OUTn. -/
def State.safeShown (s : State) (n : Nat) : State :=
  (s.updSlot n fun x => x.escalated (sw (s.reg (Reg.LPE_SAFE n)))).setReg (Reg.LPE_OUT n) (s.reg (Reg.LPE_SAFE n))

theorem slot_safeShown (n : Nat) : (s.safeShown n).slot n = (s.slot n).escalated (sw (s.reg (Reg.LPE_SAFE n))) :=
  slot_updSlot_same s n fun x => x.escalated (sw (s.reg (Reg.LPE_SAFE n)))

theorem escalate_leaves_seenAt (n : Nat) (h : a < 0x6400) (hstk : a ≠ Reg.LPE_STK n) (hstat : a ≠ Reg.LPE_STAT n) :
    Leaves (State.seenAt a) (s.safeShown n) (s.escalate n) := by
  have hsafe : wdi (sw (s.reg (Reg.LPE_SAFE n))) = s.reg (Reg.LPE_SAFE n) := BitVec.ofInt_toInt
  have hpub := publishSlot_leaves_seenAt (s.updSlot n fun x => x.escalated (sw (s.reg (Reg.LPE_SAFE n)))) n
    (sw (s.reg (Reg.LPE_SAFE n))) h hstk
  rw [hsafe] at hpub
  exact .after (slotStat_leaves_seenAt _ n hstat) (.after (record_leaves_seenAt _ _ _ _ (by omega)) hpub)

/-- R257: an escalated slot is in safe mode and shows its safe value. -/
theorem escalate_results {n : Nat} (hn : n < 64) :
    ((s.escalate n).slot n).mode = 2 ∧ (s.escalate n).reg (Reg.LPE_OUT n) = s.reg (Reg.LPE_SAFE n) := by
  have h : Leaves (State.seenAt (Reg.LPE_OUT n)) (s.safeShown n) (s.escalate n) :=
    escalate_leaves_seenAt s n (by grind) (by grind)
      (by grind)
  constructor
  · rw [slot_of_seenAt h]
    exact congrArg LoopSlot.mode (slot_safeShown s n)
  · rw [(seenAt_fields h).2.2]
    exact State.reg_setReg_same _ _ _

end

/-! ### What a sample finds (R241) -/

/-- What the events of the other slots, swaps, adjustments and escalations leave of a slot. -/
def LoopSlot.sampled (x : LoopSlot) : List LoopSample × Bool × Nat × Option Nat := (x.samples, x.arm, x.lastInst, x.lane)

/-- The same of slot `n`, its LPE_CFG, and the timebase. -/
def State.sampling (n : Nat) (s : State) : (List LoopSample × Bool × Nat × Option Nat) × Word × Timebase :=
  ((s.slot n).sampled, s.reg (Reg.LPE_CFG n), s.tb)

theorem sampling_fields {n : Nat} {s t : State} (h : Leaves (State.sampling n) s t) :
    (t.slot n).samples = (s.slot n).samples ∧ (t.slot n).arm = (s.slot n).arm ∧ (t.slot n).lastInst = (s.slot n).lastInst
      ∧ t.laneOf n = s.laneOf n ∧ t.tb = s.tb := by
  obtain ⟨⟨hsamples, harm, hinst, hlane⟩, hcfg, htb⟩ :
      ((t.slot n).samples = (s.slot n).samples ∧ (t.slot n).arm = (s.slot n).arm ∧ (t.slot n).lastInst = (s.slot n).lastInst
        ∧ (t.slot n).lane = (s.slot n).lane) ∧ t.reg (Reg.LPE_CFG n) = s.reg (Reg.LPE_CFG n) ∧ t.tb = s.tb := by
    simpa only [State.sampling, LoopSlot.sampled, Prod.mk.injEq] using h.eq
  exact ⟨hsamples, harm, hinst, by rw [State.laneOf, hlane, State.regF, hcfg]; rfl, htb⟩

section
variable {n : Nat} (s : State)

theorem sampling_of_seenAt {t : State} (h : Leaves (State.seenAt (Reg.LPE_CFG n)) s t) : Leaves (State.sampling n) s t := by
  obtain ⟨-, htb, hcfg⟩ := seenAt_fields h
  exact ⟨by rw [State.sampling, slot_of_seenAt h, hcfg, htb, State.sampling]⟩

theorem updSlot_leaves_sampling (m : Nat) {f : LoopSlot → LoopSlot} (hf : ∀ x, (f x).sampled = x.sampled) :
    Leaves (State.sampling n) s (s.updSlot m f) := by
  have hslot : ((s.updSlot m f).slot n).sampled = (s.slot n).sampled := by
    rw [slot_updSlot]
    split
    case isTrue h => rw [hf, h]
    case isFalse => rfl
  exact ⟨congrArg (fun x => (x, s.reg (Reg.LPE_CFG n), s.tb)) hslot⟩

theorem setLpeStk_leaves_sampling (m i : Nat) : Leaves (State.sampling n) s (s.setBitR (Reg.LPE_STK m) i) :=
  sampling_of_seenAt s (setBitR_leaves_seenAt s i (by grind))

theorem slotStat_leaves_sampling (m : Nat) : Leaves (State.sampling n) s (s.slotStat m) :=
  sampling_of_seenAt s (slotStat_leaves_seenAt s m (by grind))

theorem takePage_leaves_sampling (m : Nat) : Leaves (State.sampling n) s (s.takePage m) := by
  unfold State.takePage
  extract_lets p lo hi i j u
  have hu : Leaves (State.sampling n) s u := updSlot_leaves_sampling s m fun _ => rfl
  exact .ite hu (.after (setLpeStk_leaves_sampling u m 8) hu)

section
variable (hn : n < 64)
include hn

theorem record_leaves_sampling (c : RecName) (el : Nat) (items : List Nat) : Leaves (State.sampling n) s (s.record c el items) :=
  sampling_of_seenAt s (record_leaves_seenAt s c el items (by grind))

theorem refuseSwap_leaves_sampling (m : Nat) : Leaves (State.sampling n) s (s.refuseSwap m) :=
  .after (slotStat_leaves_sampling _ m) (.after (record_leaves_sampling _ hn _ _ _) (.after (setLpeStk_leaves_sampling _ m 11)
    (updSlot_leaves_sampling s m fun _ => rfl)))

theorem groupBoundary_leaves_sampling (m : Nat) : Leaves (State.sampling n) s (s.groupBoundary m) :=
  .foldl fun _ _ => .ite (.foldl fun v k => updSlot_leaves_sampling v k fun _ => rfl)
    (.foldl fun v k => refuseSwap_leaves_sampling v hn k)

/-- R250 to R252: a boundary swaps pages or refuses to. -/
theorem swapBoundary_leaves_sampling (m inst : Nat) : Leaves (State.sampling n) s (s.swapBoundary m inst) := by
  unfold State.swapBoundary
  extract_lets refs u
  have hu : Leaves (State.sampling n) s u := .foldl fun v k => groupBoundary_leaves_sampling v hn k
  clear_value u
  split
  · exact .ite hu (.ite (.after (takePage_leaves_sampling u m) hu) (.after (refuseSwap_leaves_sampling u hn m) hu))
  · exact .after (takePage_leaves_sampling u m) hu
  · exact hu

theorem escalate_leaves_sampling (m : Nat) : Leaves (State.sampling n) s (s.escalate m) := by
  have hsafe : Leaves (State.sampling n) s (s.safeShown m) :=
    .after (sampling_of_seenAt _ (setReg_leaves_seenAt _ _ (by grind)))
      (updSlot_leaves_sampling s m fun _ => rfl)
  exact .after (sampling_of_seenAt _ (escalate_leaves_seenAt s m (by grind)
    (by grind) (by grind))) hsafe

theorem checkEscalate_leaves_sampling (m : Nat) : Leaves (State.sampling n) s (s.checkEscalate m) :=
  .ite (escalate_leaves_sampling s hn m) (.refl s)

theorem readWords_leaves_sampling (b k : Nat) : Leaves (State.sampling n) s (s.readWords b k) :=
  sampling_of_seenAt s (noteParity_leaves_seenAt s b _ (by grind) (by grind))

theorem readSource_leaves_sampling (code : Nat) (par : Word) : Leaves (State.sampling n) s (s.readSource code par) :=
  .ite (readWords_leaves_sampling s hn _ _) (.refl s)

/-- R264: an adjustment moves the state of its slot. -/
theorem applyAdjust_leaves_sampling (m : Nat) : Leaves (State.sampling n) s (s.applyAdjust m) := by
  have himage : ∀ (u : State) (b : Nat), Leaves (State.sampling n) u (u.applyImage m b) := fun u b => by
    unfold State.applyImage
    extract_lets ws v k
    have hv : Leaves (State.sampling n) u v :=
      .after (updSlot_leaves_sampling _ m fun _ => rfl) (readWords_leaves_sampling u hn (b + 64 * m) 16)
    exact .ite hv ⟨hv.eq⟩
  exact .after (.foldl fun u q => himage u q.2) (updSlot_leaves_sampling s m fun _ => rfl)

end
end

/-! ### A sample (R239, R241, R248) -/

/-- R241: a sample joins the pending ones of its slot, stamped with the elapsed time and the lane of the slot; the slot is no
longer to start afresh. -/
theorem sampleSlot_takes (s : State) {n : Nat} (hn : n < 64) (inst : Nat) :
    let t := s.sampleSlot n inst
    (∃ m : LoopSample, (t.slot n).samples = (s.slot n).samples ++ [m] ∧ m.el = s.tb.el ∧ m.result = none
        ∧ m.lane = s.laneOf n)
      ∧ (t.slot n).arm = false ∧ (t.slot n).lastInst = (s.slot n).lastInst := by
  unfold State.sampleSlot
  extract_lets s1 src h sp fb ff s2 x spv fbv ffv s3
  have h1 : Leaves (State.sampling n) s s1 :=
    .after (checkEscalate_leaves_sampling _ hn n) (swapBoundary_leaves_sampling s hn n inst)
  have h2 : Leaves (State.sampling n) s s2 :=
    .after (readSource_leaves_sampling _ hn _ _) (.after (readSource_leaves_sampling _ hn _ _)
      (.after (readSource_leaves_sampling _ hn _ _) h1))
  have h4 : Leaves (State.sampling n) s3 ((s3.applyAdjust n).slotStat n) :=
    .after (slotStat_leaves_sampling _ n) (applyAdjust_leaves_sampling s3 hn n)
  obtain ⟨hsamples, -, hinst, hlane, htb⟩ := sampling_fields h2
  obtain ⟨hsamples', harm', hinst', -⟩ := sampling_fields h4
  rw [hsamples', harm', hinst', ← hsamples, ← hinst, ← hlane, ← htb]
  clear_value s2
  rw [show s3.slot n = _ from slot_updSlot_same s2 n _]
  cases harm : (s2.slot n).arm <;> exact ⟨⟨_, rfl, rfl, rfl, rfl⟩, by simp [harm], rfl⟩

/-- R239: a grid instant later than the last one that gave a sample is taken. -/
theorem exec_loopSample {s : State} {n : Fin 64} {per : Nat} (hper : s.regF (Reg.LPE_TRG n) 19 0 * 1000 = per)
    (hen : s.regB (Reg.LPE_CFG n) 31 = true) (htype : s.regB (Reg.LPE_TRG n) 31 = false) (hpos : 0 < per)
    (hnew : (s.slot n).lastInst < s.tb.t / per * per) (hno : s.noStep) :
    exec (.loopSample n) s = .next
      ((s.updSlot n fun x => { x with lastInst := s.tb.t / per * per }).sampleSlot n (s.tb.t / per * per)) := by
  subst hper
  refine congrArg Host.Outcome.next ((if_pos ?_).trans (inStep_of_noStep hno _ _ _))
  simp [hen, htype, hpos, hnew]

/-! ### An evaluation (R245, R254) -/

/-- R245, R259: the slot whose sample `m` holds its result, and which has spent 96 FAB clocks on it. -/
def LoopSlot.evaluated (x : LoopSlot) (m : LoopSample) (r : LoopResult) : LoopSlot :=
  { x with samples := x.samples.map (fun q => if q = m then { m with result := some r } else q), busy := x.busy + 96 }

/-- R245, R259: slot `n` evaluated on a lane that has spent 96 FAB clocks on it. -/
def State.slotEvaluated (s : State) (lane n : Nat) (m : LoopSample) (r : LoopResult) : State :=
  let u := s.updSlot n fun x => x.evaluated m r
  let more := fun (q : SMap Nat) => mput q lane (mgetD q lane 0 + 96)
  { u with sched := { u.sched with laneBusy := more u.sched.laneBusy, laneFs := more u.sched.laneFs } }

theorem slot_slotEvaluated (s : State) (lane n : Nat) (m : LoopSample) (r : LoopResult) :
    (s.slotEvaluated lane n m r).slot n = (s.slot n).evaluated m r := slot_updSlot_same s n fun x => x.evaluated m r

/-- R245, R254: a slot that goes into reaction is recorded, and gives a block event. -/
def State.faultTold (s : State) (n : Nat) (r : LoopResult) : State :=
  (s.record .loopFault n [n, fld r.flags 7 5, (wdi r.e).toNat]).blockEvent 9 n

theorem exec_loopEvaluation {s : State} {lane : Fin 4} {n : Nat} {x : LoopSlot} {m : LoopSample}
    (hon : s.lpe.lanesOut.contains lane.val = false) (hnext : s.laneNext lane = some (n, x, m)) :
    exec (.loopEvaluation lane) s = .next (
      let r := s.evaluate n x m
      let t := s.slotEvaluated lane n m r
      if x.mode = 0 ∧ r.mode = 1 then t.faultTold n r else t) := by
  refine congrArg Host.Outcome.next ((if_neg (Bool.eq_false_iff.1 hon)).trans ?_)
  rw [hnext]
  rfl

/-- R162, R254: the telling moves no port but those of the recorder, and no slot. -/
theorem faultTold_results (s : State) (n : Nat) (r : LoopResult) :
    sameRegs s (s.faultTold n r) [] ∧ (s.faultTold n r).slot n = s.slot n := by
  have hevent : ∀ {a}, Leaves (State.seenAt a) (s.record .loopFault n [n, fld r.flags 7 5, (wdi r.e).toNat]) (s.faultTold n r) :=
    blockEvent_leaves_seenAt _ 9 n
  exact ⟨fun a _ ha => (seenAt_fields hevent).2.2.trans (reg_record s _ _ _ ha),
    slot_of_seenAt (.after hevent (record_leaves_seenAt (a := 0) s _ _ _ (by decide))) n⟩

/-! ### An output instant (R242, R243) -/

/-- R242: the slot with the state of an evaluation committed in FAB clock `clk`. -/
def LoopSlot.committed (x : LoopSlot) (m : LoopSample) (r : LoopResult) (clk : Nat) : LoopSlot :=
  { x with
    st := r.st, com := r.st, comClk := clk, comWas := if x.comClk = clk then x.comWas else x.com, mode := r.mode
    reactEl := if x.mode = 0 ∧ r.mode = 1 then m.el else x.reactEl
    feSince := r.feSince, frz := r.frz, skipped := false, samples := x.samples.tail }

/-- R242: what the ports of slot `n` show at an output instant. -/
def State.resultShown (s : State) (n : Nat) (r : LoopResult) : State :=
  let u := (s.publishSlot n r.u).setReg (Reg.LPE_ERR n) (wdi r.e)
  u.setReg (Reg.LPE_STK n) (u.reg (Reg.LPE_STK n) ||| r.flags)

theorem reg_resultShown (s : State) {n a : Nat} (r : LoopResult) (h : a < 0x6400) (hstk : a ≠ Reg.LPE_STK n) :
    (s.resultShown n r).reg a = if a = Reg.LPE_ERR n then wdi r.e else if a = Reg.LPE_OUT n then wdi r.u else s.reg a := by
  rw [State.resultShown, State.reg_setReg_ne _ _ hstk, State.reg_setReg, reg_publishSlot s n r.u h hstk]

theorem slot_resultShown (s : State) (n k : Nat) (r : LoopResult) : (s.resultShown n r).slot k = s.slot k :=
  slot_publishSlot s n r.u k

/-- R242: the ports of slot `n` show the result, and its state is committed. -/
def State.resultTaken (s : State) (n : Nat) (m : LoopSample) (r : LoopResult) : State :=
  (s.resultShown n r).updSlot n fun x => x.committed m r (s.resultShown n r).clk

theorem slot_resultTaken (s : State) (n : Nat) (m : LoopSample) (r : LoopResult) :
    (s.resultTaken n m r).slot n = (s.slot n).committed m r (s.resultShown n r).clk := by
  rw [← slot_resultShown s n n r]
  exact slot_updSlot_same (s.resultShown n r) n fun x => x.committed m r (s.resultShown n r).clk

/-- R242: in a slot that has not escalated the result stands as evaluated. -/
theorem commitSample_eq {s : State} {n : Nat} (m : LoopSample) (r : LoopResult) (hmode : (s.slot n).mode ≠ 2) :
    s.commitSample n m r = ((s.resultTaken n m r).bump Reg.LPE_NEVAL).slotStat n := by
  simp only [State.commitSample, decide_eq_false hmode, Bool.false_and, Bool.false_eq_true, if_false]
  rfl

theorem commitSample_leaves_seenAt {s : State} {n a : Nat} (m : LoopSample) (r : LoopResult) (hmode : (s.slot n).mode ≠ 2)
    (h : a ≠ Reg.LPE_STAT n) : Leaves (State.seenAt a) ((s.resultTaken n m r).bump Reg.LPE_NEVAL) (s.commitSample n m r) := by
  rw [commitSample_eq m r hmode]
  exact slotStat_leaves_seenAt _ n h

/-- R242: the output of an evaluated sample and its state are taken. -/
theorem commitSample_results {s : State} {n : Nat} (hn : n < 64) (m : LoopSample) (r : LoopResult)
    (hmode : (s.slot n).mode ≠ 2) :
    let t := s.commitSample n m r
    t.reg (Reg.LPE_OUT n) = wdi r.u ∧ t.reg (Reg.LPE_ERR n) = wdi r.e ∧ t.reg Reg.LPE_NEVAL = s.reg Reg.LPE_NEVAL + 1
      ∧ ∃ clk, t.slot n = (s.slot n).committed m r clk := by
  intro t
  have htaken : ∀ {a}, a ≠ Reg.LPE_STAT n → a ≠ Reg.LPE_NEVAL → Leaves (State.seenAt a) (s.resultTaken n m r) t :=
    fun ha hcount => .after (commitSample_leaves_seenAt m r hmode ha) (setReg_leaves_seenAt _ _ hcount)
  refine ⟨?_, ?_, ?_, _, (slot_of_seenAt (htaken (a := 0) (by grind) (by decide)) n).trans (slot_resultTaken s n m r)⟩
  · rw [(seenAt_fields (htaken (by grind) (by grind))).2.2]
    exact (reg_resultShown s r (by grind) (by grind)).trans ((if_neg (by grind)).trans (if_pos rfl))
  · rw [(seenAt_fields (htaken (by grind) (by grind))).2.2]
    exact (reg_resultShown s r (by grind) (by grind)).trans (if_pos rfl)
  · rw [(seenAt_fields (commitSample_leaves_seenAt m r hmode (by grind))).2.2]
    refine (State.reg_setReg_same _ _ _).trans (congrArg (· + 1) ?_)
    exact (reg_resultShown s r (by decide) (by grind)).trans ((if_neg (by grind)).trans (if_neg (by grind)))

/-- R243: slot `n` without its sample `m`, the skip noted in LPE_STKn and counted. -/
def State.skipNoted (s : State) (n : Nat) (m : LoopSample) : State :=
  ((s.updSlot n fun x => { x with samples := x.samples.erase m, skipped := true }).setBitR (Reg.LPE_STK n) 9).bump Reg.LPE_NSKIP

/-- R243: only the first skip of a row is recorded. -/
theorem skipSample_leaves_seenAt (s : State) {a : Nat} (n : Nat) (m : LoopSample) (h : a < 0x8000) :
    Leaves (State.seenAt a) (s.skipNoted n m) (s.skipSample n m) := .ite (.refl _) (record_leaves_seenAt _ _ _ _ h)

/-- R243: a sample that no lane has evaluated is skipped. -/
theorem skipSample_results (s : State) {n : Nat} (hn : n < 64) (m : LoopSample) :
    let t := s.skipSample n m
    (t.slot n).samples = (s.slot n).samples.erase m ∧ (t.slot n).skipped = true ∧ t.reg (Reg.LPE_OUT n) = s.reg (Reg.LPE_OUT n)
      ∧ t.regB (Reg.LPE_STK n) 9 = true ∧ t.reg Reg.LPE_NSKIP = s.reg Reg.LPE_NSKIP + 1 := by
  intro t
  have hslot : t.slot n = { s.slot n with samples := (s.slot n).samples.erase m, skipped := true } :=
    (slot_of_seenAt (skipSample_leaves_seenAt (a := 0) s n m (by decide)) n).trans
      (slot_updSlot_same s n fun x => { x with samples := x.samples.erase m, skipped := true })
  have hreg : ∀ a < 0x8000, t.reg a = (s.skipNoted n m).reg a := fun a ha =>
    (seenAt_fields (skipSample_leaves_seenAt s n m ha)).2.2
  have hcount : ∀ a ≠ Reg.LPE_NSKIP, (s.skipNoted n m).reg a = (s.setBitR (Reg.LPE_STK n) 9).reg a := fun a ha =>
    State.reg_setReg_ne _ _ ha
  refine ⟨by rw [hslot], by rw [hslot], ?_, ?_, ?_⟩
  · rw [hreg _ (by grind), hcount _ (by grind)]
    exact State.reg_orBits_ne s _ (by grind)
  · rw [State.regB, hreg _ (by grind), hcount _ (by grind)]
    exact (regB_setBitR s (by decide) _ _ _).trans (if_pos ⟨rfl, rfl⟩)
  · rw [hreg _ (by decide)]
    refine (State.reg_setReg_same _ _ _).trans (congrArg (· + 1) ?_)
    exact State.reg_orBits_ne _ _ (by grind)

section
variable {s : State} {n : Fin 64} {m : LoopSample} {rest : List LoopSample} (hsamples : (s.slot n).samples = m :: rest)
  (hdue : m.el + s.regF Reg.LPE_CTL 7 0 * 1000 ≤ s.tb.el)
include hsamples hdue

theorem exec_loopOutputInstant_evaluated {r : LoopResult} (hr : m.result = some r) :
    exec (.loopOutputInstant n) s = .next (s.commitSample n m r) := by
  simp only [exec, execLoopOutputInstant, hsamples, if_neg (Nat.not_lt.2 hdue), hr]

theorem exec_loopOutputInstant_unevaluated (hr : m.result = none) :
    exec (.loopOutputInstant n) s = .next (s.skipSample n m) := by
  simp only [exec, execLoopOutputInstant, hsamples, if_neg (Nat.not_lt.2 hdue), hr]

end

/-! ### Commands of a slot (R127, R248, R249) -/

/-- R54: in its turn a party's write to a port of a block that is on acts. -/
theorem portWrite_of_turnOf {s : State} {p : Party} {a : Nat} (h : s.turnOf p = true) (hon : s.portOff a = false)
    (act : State → State) : s.portWrite p a act = act (s.turned p) :=
  (byParty_of_turnOf h _).trans (if_neg (Bool.eq_false_iff.1 hon))

/-- R248: an enabled slot is to start afresh at its next sample. -/
theorem lpeArm_results {s : State} {v : Word} (hen : s.regB (Reg.LPE_CFG (fld v 5 0)) 31 = true) :
    ((s.lpeArm v).slot (fld v 5 0)).arm = true ∧ sameRegs s (s.lpeArm v) [] := by
  let u := s.updSlot (fld v 5 0) fun x => { x with arm := true }
  have hact : s.lpeArm v = if (u.slot (fld v 5 0)).mode = 2 then u.record .loopRearm (fld v 5 0) [fld v 5 0] else u := if_pos hen
  have hview : Leaves State.lpe u (s.lpeArm v) :=
    hact ▸ .ite ⟨(seenAt_fields (record_leaves_seenAt (a := 0) u _ _ _ (by decide))).1⟩ (.refl u)
  refine ⟨?_, ?_⟩
  · rw [State.slot, hview.eq]
    exact congrArg LoopSlot.arm (slot_updSlot_same s (fld v 5 0) fun x => { x with arm := true })
  · rw [hact]
    split
    · exact sameRegs_record u _ _ _ _
    · exact fun _ _ _ => rfl

/-- R127: a swap that fits is staged. -/
theorem lpeSwapReg_fits {s : State} {g : GroupNo} {v : Word} (hkind : bit v 31 = false)
    (hfits : s.swapFits g (.swap false (fld v 5 0) (fld v 13 8 + 1)) = true) :
    ((s.lpeSwapReg (.svc g) v).group g).staged = (s.group g).staged
      ++ [{ clause := 256, disp := 0, item := .swap false (fld v 5 0) (fld v 13 8 + 1), ord := (s.group g).stageNo }] := by
  have hstage : s.lpeSwapReg (.svc g) v = s.stageParty (.svc g) (.swap false (fld v 5 0) (fld v 13 8 + 1)) := by
    simp [State.lpeSwapReg, hkind, State.partyGroup, hfits]
  rw [hstage, State.stageParty, State.group_updGroup_same]

/-- R249: a page word is written while its page is not present. -/
theorem lpePage_written {s : State} {n p : Nat} (w : Nat) (v : Word) (h : (s.slot n).page ≠ p) :
    s.lpePage n p w v = s.setReg (Reg.LPE_PAGE n p w) v := if_neg h

/-- R249: a write to the present page leaves its mark in LPE_STKn alone. -/
theorem lpePage_ignored {s : State} {n p : Nat} (w : Nat) (v : Word) (h : (s.slot n).page = p) :
    s.lpePage n p w v = s.setBitR (Reg.LPE_STK n) 13 := if_pos h

theorem sameRegs_setReg (s : State) (a : Nat) (v : Word) : sameRegs s (s.setReg a v) [a] := fun _ h _ =>
  State.reg_setReg_ne s v (List.ne_of_not_mem_cons h)

theorem sameRegs_setBitR (s : State) (a i : Nat) : sameRegs s (s.setBitR a i) [a] := fun _ h _ =>
  State.reg_orBits_ne s _ (List.ne_of_not_mem_cons h)

/-! ### The loss of a lane (R261) -/

/-- The lanes out of service, and whether LPE_GSTK shows a lane fault. -/
def State.lanes (s : State) : List Nat × Bool := (s.lpe.lanesOut, s.regB Reg.LPE_GSTK 1)

theorem lanes_of_seenAt {s t : State} (h : Leaves (State.seenAt Reg.LPE_GSTK) s t) : Leaves State.lanes s t := by
  obtain ⟨hlpe, -, hreg⟩ := seenAt_fields h
  exact ⟨by rw [State.lanes, hlpe, State.regB, hreg]; rfl⟩

theorem skipSamples_leaves_lanes (s : State) (n : Nat) (p : LoopSample → Bool) : Leaves State.lanes s (s.skipSamples n p) :=
  .foldl fun u m => .after (lanes_of_seenAt (skipSample_leaves_seenAt u n m (by decide)))
    (.after (lanes_of_seenAt (.after (setReg_leaves_seenAt _ _ (by decide)) (setBitR_leaves_seenAt _ _ (by grind)))) ⟨rfl⟩)

theorem escalate_leaves_lanes (s : State) {n : Nat} (hn : n < 64) : Leaves State.lanes s (s.escalate n) :=
  .after (lanes_of_seenAt (escalate_leaves_seenAt s n (by decide) (by grind) (by grind)))
    (.after (lanes_of_seenAt (setReg_leaves_seenAt _ _ (by grind))) ⟨rfl⟩)

theorem lt_of_mem_listed {s : State} {base stride count i : Nat} (h : i ∈ s.listed base stride count) : i < count := by
  obtain ⟨q, -, hq⟩ := List.mem_filterMap.1 h
  split at hq
  case isTrue hin =>
    obtain rfl := Option.some.inj hq
    exact Nat.div_lt_of_lt_mul (by omega)
  case isFalse => exact absurd hq (by simp)

/-- R261: the lane out of service, noted in LPE_GSTK. -/
def State.laneNoted (s : State) (lane : Nat) : State :=
  ({ s with lpe := { s.lpe with lanesOut := s.lpe.lanesOut ++ [lane] } } : State).setBitR Reg.LPE_GSTK 1

theorem laneNoted_results {s t : State} {lane : Nat} (h : Leaves State.lanes (s.laneNoted lane) t) :
    t.lpe.lanesOut.contains lane = true ∧ t.regB Reg.LPE_GSTK 1 = true := by
  obtain ⟨hout, hstk⟩ := Prod.mk.inj h.eq
  rw [hout, hstk]
  exact ⟨by simp [State.laneNoted, State.setBitR], (regB_setBitR _ (by decide) _ _ _).trans (if_pos ⟨rfl, rfl⟩)⟩

/-- R261: what follows the loss of a lane leaves it noted: the samples skipped, the slots placed anew or escalated, the unit
unhealthy. -/
theorem laneFault_results {s : State} {lane : Fin 4} (hon : s.lpe.lanesOut.contains lane.val = false) :
    ∃ t, exec (.laneFault lane) s = .next t ∧ t.lpe.lanesOut.contains lane.val = true ∧ t.regB Reg.LPE_GSTK 1 = true := by
  refine ⟨_, congrArg Host.Outcome.next (if_neg (Bool.eq_false_iff.1 hon)), laneNoted_results (s := s) ?_⟩
  extract_lets q s1 s2 s3 on fixed q' s4 s5
  have h2 : Leaves State.lanes (s.laneNoted lane) s2 :=
    lanes_of_seenAt (record_leaves_seenAt (a := Reg.LPE_GSTK) (s.laneNoted lane) .laneFault lane [lane.val] (by decide))
  have h3 : Leaves State.lanes (s.laneNoted lane) s3 := .after (.foldl fun u n => skipSamples_leaves_lanes u n _) h2
  have h4 : Leaves State.lanes (s.laneNoted lane) s4 := ⟨h3.eq⟩
  have h5 : Leaves State.lanes (s.laneNoted lane) s5 := by
    refine foldl_keeps (Leaves State.lanes (s.laneNoted lane)) _ _ _ h4 fun u n hn hu => .after (escalate_leaves_lanes u ?_) hu
    have hlane : n ∈ on := (List.mem_filter.1 hn).1
    exact lt_of_mem_listed (List.mem_filter.1 (List.mem_filter.1 hlane).1).1
  exact .ite h5 (.after (lanes_of_seenAt (addHealth_leaves_seenAt s5 _)) h5)

/-! ### The statement -/

/-- Settles O35: each event of a slot and each of its commands acts by its law, as does the loss of a lane. -/
theorem loopSlotResults : Obligations.LoopSlotResults := by
  refine ⟨?sample, ?evaluation, fun n m rest s hsamples hdue => ⟨?publishes, ?skips⟩, ?escalates, ?arms, ?swaps,
    fun p n page w v s hturn hon => ⟨?written, ?ignored⟩, ?lane⟩
  case sample =>
    intro n s per hen htype hpos hnew hno
    let u := s.updSlot n fun x => { x with lastInst := s.tb.t / per * per }
    have hslot : u.slot n = { s.slot n with lastInst := s.tb.t / per * per } :=
      slot_updSlot_same s n fun x => { x with lastInst := s.tb.t / per * per }
    have hlane : u.laneOf n = s.laneOf n := by rw [State.laneOf, hslot]; rfl
    obtain ⟨⟨m, hsamples, hel, hresult, hm⟩, harm, hinst⟩ := sampleSlot_takes u n.isLt (s.tb.t / per * per)
    exact ⟨_, m, exec_loopSample rfl hen htype hpos hnew hno, by rw [hsamples, hslot], hel, hresult, hm.trans hlane, harm,
      by rw [hinst, hslot]⟩
  case evaluation =>
    intro lane n x m s hon hnext
    let t := s.slotEvaluated lane n m (s.evaluate n x m)
    have hslot : (t.slot n).samples = _ := congrArg LoopSlot.samples (slot_slotEvaluated s lane n m (s.evaluate n x m))
    refine ⟨_, exec_loopEvaluation hon hnext, ?_⟩
    dsimp only
    split
    · obtain ⟨hregs, hsame⟩ := faultTold_results t n (s.evaluate n x m)
      exact ⟨hregs, hsame ▸ hslot⟩
    · exact ⟨fun _ _ _ => rfl, hslot⟩
  case publishes =>
    intro r hr hmode
    obtain ⟨hout, herr, hcount, clk, hslot⟩ := commitSample_results n.isLt m r hmode
    refine ⟨_, exec_loopOutputInstant_evaluated hsamples hdue hr, hout, herr, ?_, ?_, ?_, ?_, hcount⟩
    · rw [hslot, LoopSlot.committed, hsamples]; rfl
    all_goals rw [hslot]; rfl
  case skips =>
    intro hr
    obtain ⟨hrest, hskipped, hout, hstk, hcount⟩ := skipSample_results s n.isLt m
    exact ⟨_, exec_loopOutputInstant_unevaluated hsamples hdue hr, by rw [hrest, hsamples, List.erase_cons_head], hskipped, hout,
      hstk, hcount⟩
  case escalates =>
    intro n s hen hmode hgrace
    obtain ⟨hsafe, hout⟩ := escalate_results s n.isLt
    refine ⟨s.escalate n, congrArg Host.Outcome.next (if_pos ?_), hsafe, hout⟩
    simp [hen, hmode, hgrace]
  case arms =>
    intro p v s hturn hon hen
    exact ⟨_, congrArg Host.Outcome.next (portWrite_of_turnOf hturn hon _), lpeArm_results (s := s.turned p) hen⟩
  case swaps =>
    intro g v s hturn hon hkind hfits
    exact ⟨_, congrArg Host.Outcome.next (portWrite_of_turnOf hturn hon _),
      lpeSwapReg_fits (s := s.turned (.svc g)) hkind hfits⟩
  case written =>
    intro hpage
    refine ⟨_, congrArg Host.Outcome.next (portWrite_of_turnOf hturn hon _), ?_⟩
    rw [lpePage_written (s := s.turned p) w v hpage]
    exact ⟨State.reg_setReg_same _ _ _, sameRegs_setReg (s.turned p) _ v⟩
  case ignored =>
    intro hpage
    refine ⟨_, congrArg Host.Outcome.next (portWrite_of_turnOf hturn hon _), ?_⟩
    rw [lpePage_ignored (s := s.turned p) w v hpage]
    exact ⟨(regB_setBitR _ (by decide) _ _ _).trans (if_pos ⟨rfl, rfl⟩), sameRegs_setBitR (s.turned p) _ 13⟩
  case lane => exact fun lane s => laneFault_results

end Sys2Proof.Machine
end

section
/-! Reference fusion (R267, R268, R271, R278 to R281, R285, R289, R291): what the engine's parts leave of its course, the post
of an element, an update, a frame and the ends of the two batches, then the statement `Obligations.FusionResults`. -/
namespace Sys2Proof.Machine

open State (Leaves)

/-- An operation that answers besides the state. -/
theorem leaves_fst {α β : Type} {p : State → β} {s u : State} {r : State × α} {x : α} (h : r = (u, x)) (k : Leaves p s r.1) :
    Leaves p s u := by
  rw [h] at k
  exact k

/-- A fold that carries an answer along. -/
theorem foldl_leaves_fst {α β γ : Type} {p : State → β} {f : State × γ → α → State × γ} {l : List α} {s : State} {x : γ}
    (h : ∀ u a, Leaves p u.1 (f u a).1) : Leaves p s (l.foldl f (s, x)).1 :=
  foldl_keeps (fun u => Leaves p s u.1) f l (s, x) (.refl s) fun u a _ hu => .after (h u a) hu

/-! ### The engine and one of its ports -/

/-- The fusion engine, and port `a`. -/
def State.fusAt (a : Nat) (s : State) : Fusion × Word := (s.fus, s.reg a)

theorem fusAt_fields {a : Nat} {s t : State} (h : Leaves (State.fusAt a) s t) : t.fus = s.fus ∧ t.reg a = s.reg a := by
  simpa only [State.fusAt, Prod.mk.injEq] using h.eq

section
variable {a : Nat} (s : State)

theorem setReg_leaves_fusAt {b : Nat} (v : Word) (h : a ≠ b) : Leaves (State.fusAt a) s (s.setReg b v) :=
  ⟨congrArg (Prod.mk s.fus) (State.reg_setReg_ne s v h)⟩

theorem setBitR_leaves_fusAt {b : Nat} (i : Nat) (h : a ≠ b) : Leaves (State.fusAt a) s (s.setBitR b i) :=
  ⟨congrArg (Prod.mk s.fus) (State.reg_orBits_ne s _ h)⟩

theorem record_leaves_fusAt (n : RecName) (el : Nat) (items : List Nat) (h : a < 0x8000) :
    Leaves (State.fusAt a) s (s.record n el items) := by
  have hfus : (s.record n el items).fus = s.fus := congrArg (fun u => u.fus) (unrecorded_record s n el items)
  exact ⟨by rw [State.fusAt, hfus, reg_record _ _ _ _ (not_recorderPort h), State.fusAt]⟩

theorem blockEvent_leaves_fusAt (cls idx : Nat) : Leaves (State.fusAt a) s (s.blockEvent cls idx) := by
  obtain ⟨x, hx⟩ := blockEvent_eq s cls idx
  exact hx ▸ ⟨rfl⟩

/-- R170: the words in error that a read meets are reported in the ports of the banks. -/
theorem readWords_leaves_fusAt (b n : Nat) (h : 0x0803 < a) (ha : a < 0x8000) : Leaves (State.fusAt a) s (s.readWords b n) :=
  .after (.foldl fun _ _ => .after (record_leaves_fusAt _ _ _ _ ha) (.after (setBitR_leaves_fusAt _ _ (by grind))
    (.after (setReg_leaves_fusAt _ _ (by grind)) (setReg_leaves_fusAt _ _ (by grind))))) (.ite (.refl s) ⟨rfl⟩)

/-- R180: a batch that a block lays into its workspace is counted in the ports of the solver array. -/
theorem acceptOwn_leaves_fusAt (o : OwnBatch) (hsub : a ≠ Reg.SOL_NSUB) (hpend : a ≠ Reg.SOL_NPEND) :
    Leaves (State.fusAt a) s (s.acceptOwn o) := by
  unfold State.acceptOwn
  simp -zeta only [foldl_markBank]
  extract_lets n head s1 x banks
  clear_value n head x banks
  exact .after (setReg_leaves_fusAt _ _ hpend) (.after (setReg_leaves_fusAt _ _ hsub) ⟨rfl⟩)

/-- R269: the one batch of a job is submitted at once. -/
theorem fusSubmit_leaves_fusAt (job desc : Nat) (entries : List (List Word)) (hsub : a ≠ Reg.SOL_NSUB) (hpend : a ≠ Reg.SOL_NPEND) :
    Leaves (State.fusAt a) s (s.fusSubmit job desc entries) := .after (acceptOwn_leaves_fusAt _ _ hsub hpend) ⟨rfl⟩

/-- R294: a decision moves two counters of its slot. -/
theorem fusDecide_leaves_fusAt {c : Nat} (k : Nat) (h : a < 0x4200) (hc : 0x4200 ≤ c) : Leaves (State.fusAt a) s (s.fusDecide k c) :=
  .after (setReg_leaves_fusAt _ _ (by omega)) (setReg_leaves_fusAt s _ (by grind))

/-- R297: of the ports the publication moves FUS_OUT. -/
theorem fusOutput_leaves_fusAt (h : a < 0x4300) : Leaves (State.fusAt a) s s.fusOutput :=
  .after (blockEvent_leaves_fusAt _ 1 0) (.foldl fun _ _ => setReg_leaves_fusAt _ _ (by grind))

end

/-! ### A reading of the engine -/

/-- A reading `q` of the engine, and whether FUS_STK shows a batch that did not complete. -/
def State.fusView {β : Type} (q : Fusion → β) (s : State) : β × Bool := (q s.fus, s.regB Reg.FUS_STK 5)

/-- What the decisions on the fixes of an update and its start leave of the engine. -/
def Fusion.undecided (x : Fusion) : Fusion := { x with slots := [], upd := none, refconf := false, confArmed := false }

/-- The frame, the propagation in flight and the P buffer. -/
def Fusion.course (x : Fusion) : Nat × Nat × Bool × Nat := (x.frame, x.lastInst, x.prop, x.psel)

/-- What waits for the update in flight, and the P buffer. -/
def Fusion.awaited (x : Fusion) : Option Word × Nat × Nat := (x.heldUpd, x.owed, x.psel)

section
variable {β : Type} {q : Fusion → β} (s : State)

theorem fusView_of_fusAt {t : State} (h : Leaves (State.fusAt Reg.FUS_STK) s t) : Leaves (State.fusView q) s t := by
  obtain ⟨hfus, hstk⟩ := fusAt_fields h
  exact ⟨by rw [State.fusView, State.regB, hfus, hstk]; rfl⟩

/-- What reads the engine without what an update decides. -/
theorem fusView_of_undecided {t : State} (hq : ∀ x, q x.undecided = q x) (h : Leaves (State.fusView Fusion.undecided) s t) :
    Leaves (State.fusView q) s t := by
  obtain ⟨hfus, hstk⟩ : t.fus.undecided = s.fus.undecided ∧ t.regB Reg.FUS_STK 5 = s.regB Reg.FUS_STK 5 := by
    simpa only [State.fusView, Prod.mk.injEq] using h.eq
  exact ⟨by rw [State.fusView, hstk, ← hq, hfus, hq, State.fusView]⟩

theorem updFus_leaves_fusView {f : Fusion → Fusion} (hf : q (f s.fus) = q s.fus) : Leaves (State.fusView q) s (s.updFus f) :=
  ⟨congrArg (Prod.mk · (s.regB Reg.FUS_STK 5)) hf⟩

theorem setStk_leaves_fusView {i : Nat} (hi : i < 32) (hne : i ≠ 5) : Leaves (State.fusView q) s (s.setBitR Reg.FUS_STK i) :=
  ⟨congrArg (Prod.mk (q s.fus)) ((regB_setBitR s hi _ _ _).trans (if_neg fun h => hne h.2.symm))⟩

theorem setReg_leaves_fusView {b : Nat} (v : Word) (h : Reg.FUS_STK ≠ b) : Leaves (State.fusView q) s (s.setReg b v) :=
  fusView_of_fusAt s (setReg_leaves_fusAt s v h)

theorem record_leaves_fusView (n : RecName) (el : Nat) (items : List Nat) : Leaves (State.fusView q) s (s.record n el items) :=
  fusView_of_fusAt s (record_leaves_fusAt s n el items (by decide))

theorem readWords_leaves_fusView (b n : Nat) : Leaves (State.fusView q) s (s.readWords b n) :=
  fusView_of_fusAt s (readWords_leaves_fusAt s b n (by decide) (by decide))

theorem fusPut_leaves_fusView (w : Nat) (l : List Int) : Leaves (State.fusView q) s (s.fusPut w l) := ⟨rfl⟩

theorem fusSubmit_leaves_fusView (job desc : Nat) (entries : List (List Word)) :
    Leaves (State.fusView q) s (s.fusSubmit job desc entries) :=
  fusView_of_fusAt s (fusSubmit_leaves_fusAt s job desc entries (by decide) (by decide))

theorem fusDecide_leaves_fusView {c : Nat} (k : Nat) (hc : 0x4200 ≤ c) : Leaves (State.fusView q) s (s.fusDecide k c) :=
  fusView_of_fusAt s (fusDecide_leaves_fusAt s k (by decide) hc)

theorem fusOutput_leaves_fusView : Leaves (State.fusView q) s s.fusOutput :=
  fusView_of_fusAt s (fusOutput_leaves_fusAt s (by decide))

end

/-! ### Updates (R268, R281, R284, R286) -/

section
variable (s : State)

/-- R287: an association moves the tracks of its slot and FUS_TRK. -/
theorem associate_eq (e : FusEntry) : ∃ f v, (s.associate e).1 = (s.updRf e.slot f).setReg (Reg.FUS_TRK e.slot) v := by
  unfold State.associate
  extract_lets
  split
  extract_lets
  split <;> exact ⟨_, _, rfl⟩

theorem updRf_leaves_undecided (k : Nat) (f : FusSlot → FusSlot) : Leaves (State.fusView Fusion.undecided) s (s.updRf k f) :=
  updFus_leaves_fusView s rfl

/-- R282: of the fixes only that of a relative element moves the state, by its association. -/
theorem posFix_leaves_undecided (e : FusEntry) : Leaves (State.fusView Fusion.undecided) s (s.posFix e).1 := by
  have hassoc : Leaves (State.fusView Fusion.undecided) s (s.associate e).1 := by
    obtain ⟨f, v, h⟩ := associate_eq s e
    exact h ▸ .after (setReg_leaves_fusView _ v (by grind)) (updRf_leaves_undecided s _ f)
  unfold State.posFix
  split
  next u z hfix =>
  have hu : Leaves (State.fusView Fusion.undecided) s u := by
    split at hfix
    · exact leaves_fst hfix hassoc
    · exact leaves_fst hfix (.refl s)
  split <;> exact hu

/-- R284: a decision that rejects a fix counts it; a conflict is noted, and recorded when it is the first. -/
theorem decideFixes_leaves_undecided (hdg : Bool) (fresh : List Fix) :
    Leaves (State.fusView Fusion.undecided) s (s.decideFixes hdg fresh).1 := by
  unfold State.decideFixes
  extract_lets set cthr vthr
  split
  next u acc hfold =>
  have hu : Leaves (State.fusView Fusion.undecided) s u := by
    refine leaves_fst hfold (foldl_leaves_fst fun p f => ?_)
    extract_lets k v t
    have ht : Leaves (State.fusView Fusion.undecided) p.1 t := fusDecide_leaves_fusView p.1 k (by grind)
    clear_value v
    split
    · exact .refl p.1
    · exact fusDecide_leaves_fusView p.1 k (by grind)
    · exact fusDecide_leaves_fusView p.1 k (by grind)
    · split
      · exact .after (record_leaves_fusView _ _ _ _) (.after (setStk_leaves_fusView _ (by decide) (by decide))
          (.after (updFus_leaves_fusView t rfl) ht))
      · dsimp only
        exact .after (updFus_leaves_fusView t rfl) ht
  exact .after (.foldl fun _ _ => updRf_leaves_undecided _ _ _) hu

/-- R281: the batch of an update is laid into the workspace and submitted. -/
theorem submitUpdate_leaves_fusView {β : Type} {q : Fusion → β} (rows : List FusRow) :
    Leaves (State.fusView q) s (s.submitUpdate rows) :=
  .after (fusSubmit_leaves_fusView _ _ _ _) (.after (fusPut_leaves_fusView _ _ _) (.after (fusPut_leaves_fusView _ _ _)
    (.after (fusPut_leaves_fusView _ _ _) (.after (fusPut_leaves_fusView _ _ _) (fusPut_leaves_fusView s _ _)))))

/-- R281, R291, R297: at its end an update is no longer in flight, and its digest and the output are published. -/
theorem endUpdate_leaves_fusAt {a : Nat} (used : List FusEntry) (h : a < 0x4300) :
    Leaves (State.fusAt a) ((s.updFus fun q => { q with upd := none }).setReg Reg.FUS_DIGEST (crc32c (digestBytes used)))
      (s.endUpdate used) := fusOutput_leaves_fusAt _ h

theorem endUpdate_leaves_undecided (used : List FusEntry) : Leaves (State.fusView Fusion.undecided) s (s.endUpdate used) :=
  .after (fusView_of_fusAt _ (endUpdate_leaves_fusAt s used (by decide)))
    (.after (setReg_leaves_fusView _ _ (by decide)) (updFus_leaves_fusView s rfl))

/-- R279: the odometry rows are due and in use. -/
def State.odoTaken (s : State) : Bool := s.fus.odoDue && s.fusModel 51 != 0

/-- R268: the instant of the frame of entry `e` does not lie after the cutoff, where there is one. -/
def State.withinCutoff (s : State) (cutoff : Option Word) (e : FusEntry) : Bool :=
  match cutoff with
  | some c => decide (turnDiff (wd (e.frame * s.fper)) c ≤ 0)
  | none => true

/-- R268, R281: the entries that an update takes. -/
def State.updateTakes (s : State) (cutoff : Option Word) : List FusEntry :=
  s.takeRows (s.fus.queue.filter (s.withinCutoff cutoff)) (if s.odoTaken then 2 else 0)

/-- R281: the state in which the queue no longer holds the entries that an update takes. -/
def State.updateTook (s : State) (cutoff : Option Word) : State :=
  s.updFus fun q => { q with queue := q.queue.filter fun e => !(s.updateTakes cutoff).contains e, odoDue := false }

/-- R268, R281: the votes, the batch or the end of an update leave the queue it took its entries from. -/
theorem startUpdate_leaves_undecided (cutoff : Option Word) :
    Leaves (State.fusView Fusion.undecided) (s.updateTook cutoff) (s.startUpdate cutoff) := by
  unfold State.startUpdate
  extract_lets fit odo cand s1
  have h1 : Leaves (State.fusView Fusion.undecided) (s.updateTook cutoff) s1 := ⟨rfl⟩
  clear_value s1
  split
  next s2 pos hpos =>
  have h2 : Leaves (State.fusView Fusion.undecided) (s.updateTook cutoff) s2 := by
    refine .after (leaves_fst hpos (foldl_leaves_fst fun p e => ?_)) h1
    extract_lets r
    have hr : Leaves (State.fusView Fusion.undecided) p.1 r.1 := posFix_leaves_undecided p.1 e
    split
    · exact hr
    · exact .after (fusDecide_leaves_fusView _ _ (by grind)) hr
  extract_lets hdg
  split
  next s3 a ha =>
  have h3 : Leaves (State.fusView Fusion.undecided) (s.updateTook cutoff) s3 :=
    leaves_fst ha (.after (decideFixes_leaves_undecided s2 false pos) h2)
  split
  next s4 b hb =>
  have h4 : Leaves (State.fusView Fusion.undecided) (s.updateTook cutoff) s4 :=
    leaves_fst hb (.after (decideFixes_leaves_undecided s3 true hdg) h3)
  extract_lets acc rows
  exact .ite (.after (endUpdate_leaves_undecided s4 cand) h4)
    (.after (submitUpdate_leaves_fusView _ rows) (.after (updFus_leaves_fusView s4 rfl) h4))

/-- R281: an entry alone fits the rows of an update. -/
theorem takeRows_singleton (e : FusEntry) {odo : Nat} (h : odo ≤ 2) : s.takeRows [e] odo = [e] := by
  have hrows : s.entryRows e ≤ 2 := by
    unfold State.entryRows
    split <;> decide
  have hfits : ¬ 24 < odo + s.entryRows e := by omega
  simp [State.takeRows, hfits]

/-- R268: an update takes the only entry of the queue, which does not lie after its cutoff. -/
theorem queue_startUpdate_singleton {s : State} {e : FusEntry} {cutoff : Option Word} (hqueue : s.fus.queue = [e])
    (hcut : s.withinCutoff cutoff e = true) : (s.startUpdate cutoff).fus.queue = [] := by
  have htakes : s.updateTakes cutoff = [e] := by
    rw [State.updateTakes, hqueue, List.filter_cons_of_pos hcut]
    exact takeRows_singleton s e (by split <;> decide)
  have hleft : (s.updateTook cutoff).fus.queue = [] := by simp [State.updateTook, hqueue, htakes]
  exact (congrArg (fun v => v.1.queue) (startUpdate_leaves_undecided s cutoff).eq).trans hleft

/-- R268: an update leaves the course of the frames. -/
theorem startUpdate_leaves_course (cutoff : Option Word) : Leaves (State.fusView Fusion.course) s (s.startUpdate cutoff) :=
  .after (fusView_of_undecided _ (fun _ => rfl) (startUpdate_leaves_undecided s cutoff)) (updFus_leaves_fusView s rfl)

/-- R268, R297: so does what a frame goes on to. -/
theorem frameRest_leaves_course : Leaves (State.fusView Fusion.course) s s.frameRest :=
  .ite (.refl s) (.ite (updFus_leaves_fusView s rfl) (.ite (fusOutput_leaves_fusView s) (startUpdate_leaves_course s none)))

end

/-! ### Frames (R273, R275, R276, R288, R293) -/

section
variable (s : State)

theorem updRf_leaves_course (k : Nat) (f : FusSlot → FusSlot) : Leaves (State.fusView Fusion.course) s (s.updRf k f) :=
  updFus_leaves_fusView s rfl

/-- R275, R276: an alignment moves its slot, its ports and TIME_SLIP. -/
theorem alignStamp_leaves_course (k : Nat) (stamp inst : Word) :
    Leaves (State.fusView Fusion.course) s (s.alignStamp k stamp inst).1 := by
  unfold State.alignStamp
  split
  · exact .refl s
  · extract_lets x obs slip est s1 s2 s3
    have h1 : Leaves (State.fusView Fusion.course) s s1 := setStk_leaves_fusView s (by decide) (by decide)
    have h2 : Leaves (State.fusView Fusion.course) s s2 := .ite (.ite h1 (.after (record_leaves_fusView _ _ _ _) h1)) (.refl s)
    exact .after (setReg_leaves_fusView _ _ (by grind)) (.after (setReg_leaves_fusView _ _ (by grind))
      (.after (updRf_leaves_course s2 k _) h2))

/-- R273: an element that is taken is counted or joins the queue. -/
theorem takeElement_leaves_course (k : Nat) (inst : Word) (el : Nat) :
    Leaves (State.fusView Fusion.course) s (s.takeElement k inst el) := by
  unfold State.takeElement
  split
  · exact .refl s
  next ws del _ =>
  extract_lets s1 h
  have h1 : Leaves (State.fusView Fusion.course) s s1 := updRf_leaves_course s k _
  clear_value s1
  refine .ite (.refl s) (.ite (.after (fusDecide_leaves_fusView s1 k (by grind)) h1) (.after ?_ h1))
  split
  next u slip tm htaken =>
  have hu : Leaves (State.fusView Fusion.course) s1 u := by
    refine leaves_fst htaken ?_
    split
    · exact alignStamp_leaves_course s1 k _ inst
    · exact .after (setReg_leaves_fusView _ _ (by grind)) (updRf_leaves_course s1 k _)
  have hdecided : ∀ {c}, 0x4200 ≤ c → Leaves (State.fusView Fusion.course) s1 (u.fusDecide k c) := fun hc =>
    .after (fusDecide_leaves_fusView u k hc) hu
  exact .ite (hdecided (by grind)) (.ite (hdecided (by grind)) (.ite
    (.after (setStk_leaves_fusView _ (by decide) (by decide)) (hdecided (by grind))) (.after (updFus_leaves_fusView u rfl) hu)))

/-- R293: a frame that is propagated again moves the fused state and P. -/
theorem repropagate_leaves_course (x : FusInput) : Leaves (State.fusView Fusion.course) s (s.repropagate x) := by
  unfold State.repropagate
  extract_lets n pf nom fm f t p pl s1
  exact .after (updFus_leaves_fusView s1 rfl) (fusPut_leaves_fusView s _ _)

/-- R293: a load moves the fused state, P, the tracks and the offsets, or is refused. -/
theorem fusionLoad_leaves_course : Leaves (State.fusView Fusion.course) s s.fusionLoad := by
  unfold State.fusionLoad
  extract_lets -lift +onlyGivenNames c
  refine .ite (.refl s) ?_
  extract_lets -lift +onlyGivenNames s1 b n a len w s2 at_ nn fr age
  have h1 : Leaves (State.fusView Fusion.course) s s1 := setReg_leaves_fusView s _ (by decide)
  have h2 : Leaves (State.fusView Fusion.course) s s2 := .ite (.after (readWords_leaves_fusView s1 a len) h1) h1
  clear_value s1 s2
  refine .ite (.after (record_leaves_fusView _ _ _ _) (.after (setStk_leaves_fusView _ (by decide) (by decide)) h2)) ?_
  extract_lets -lift +onlyGivenNames i0 offs trk j s3 s4 s5 from_ again s6
  clear_value w at_ i0 j again
  have hoffs : ∀ u, Leaves (State.fusView Fusion.course) u (offs u) := fun u => .foldl fun v k => updRf_leaves_course v k _
  have htrk : ∀ u, Leaves (State.fusView Fusion.course) u (trk u) := fun u => .foldl fun v k => updRf_leaves_course v k _
  have h3 : Leaves (State.fusView Fusion.course) s s3 := .after (updFus_leaves_fusView s2 rfl) h2
  have h4 : Leaves (State.fusView Fusion.course) s s4 := .after (fusPut_leaves_fusView s3 _ _) h3
  have h5 : Leaves (State.fusView Fusion.course) s s5 := .after (htrk _) (.after (hoffs _) h4)
  have h6 : Leaves (State.fusView Fusion.course) s s6 := .after (updFus_leaves_fusView s5 rfl) h5
  exact .after (.foldl fun v x => repropagate_leaves_course v x) h6

/-- R288, R289: the wave tracker moves its own state and ports. -/
theorem waveFrame_leaves_course (tel : List Word) : Leaves (State.fusView Fusion.course) s (s.waveFrame tel) := by
  unfold State.waveFrame
  refine .ite (.refl s) ?_
  extract_lets w ok rate s1 s2
  have h1 : Leaves (State.fusView Fusion.course) s s1 := updFus_leaves_fusView s rfl
  have h2 : Leaves (State.fusView Fusion.course) s s2 := ⟨h1.eq⟩
  clear_value s1 s2
  exact .after (setReg_leaves_fusView _ _ (by decide)) (.after (setReg_leaves_fusView _ _ (by decide))
    (.after (setReg_leaves_fusView _ _ (by decide)) h2))

/-- R279: the vessel model moves its velocity and the count of the odometry rows. -/
theorem vesselModel_leaves_course (x : FusInput) : Leaves (State.fusView Fusion.course) s (s.vesselModel x) := by
  unfold State.vesselModel
  exact updFus_leaves_fusView s rfl

/-- R277, R293: what a frame keeps for 2 s. -/
theorem keepFrame_leaves_course (inst : Nat) (x : FusInput) : Leaves (State.fusView Fusion.course) s (s.keepFrame inst x) := by
  unfold State.keepFrame
  exact updFus_leaves_fusView s rfl

/-- R278, R282: the nominal state is no part of the course of the frames. -/
theorem updNom_leaves_course (g : Fusion → List Word) :
    Leaves (State.fusView Fusion.course) s (s.updFus fun q => { q with nom := g q }) := updFus_leaves_fusView s rfl

/-- R280: a propagation begins: it is in flight, from the present P buffer. -/
theorem fus_startProp (x : FusInput) (n : List Word) :
    (s.startProp x n).fus = { s.fus with prop := true, propSel := s.fus.psel } := by
  unfold State.startProp
  extract_lets s1 s2
  have h1 : s1.fus = s.fus := (fusAt_fields (readWords_leaves_fusAt (a := Reg.FUS_STK) s _ _ (by decide) (by decide))).1
  have h2 : s2.fus = { s.fus with prop := true, propSel := s.fus.psel } :=
    congrArg (fun q : Fusion => { q with prop := true, propSel := q.psel }) h1
  exact (fusAt_fields (fusSubmit_leaves_fusAt (a := Reg.FUS_STK) s2 _ _ _ (by decide) (by decide))).1.trans h2

end

theorem course_fields {s t : State} (h : Leaves (State.fusView Fusion.course) s t) :
    t.fus.frame = s.fus.frame ∧ t.fus.lastInst = s.fus.lastInst ∧ t.fus.prop = s.fus.prop ∧ t.fus.psel = s.fus.psel
      ∧ t.regB Reg.FUS_STK 5 = s.regB Reg.FUS_STK 5 := by
  simpa only [State.fusView, Fusion.course, Prod.mk.injEq, and_assoc] using h.eq

/-- R267, R268: T has reached a frame instant after the last: the frame is numbered, and its propagation is in flight. -/
theorem frameInstant_results {s : State} (hon : s.fusOn = true) (hper : 0 < s.fper)
    (hnew : s.fus.lastInst < s.tb.t / s.fper * s.fper) (hno : s.noStep) :
    ∃ t, exec .frameInstant s = .next t ∧ t.fus.frame = s.tb.t / s.fper ∧ t.fus.lastInst = s.tb.t / s.fper * s.fper
      ∧ t.fus.prop = true := by
  have hdue : (s.fusOn && decide (0 < s.fper) && decide (s.fus.lastInst < s.tb.t / s.fper * s.fper)) = true := by
    simp [hon, hper, hnew]
  refine ⟨_, congrArg Host.Outcome.next ((if_pos hdue).trans (inStep_of_noStep hno _ _ _)), ?_⟩
  extract_lets el s1 s2 s3 x s4 s5
  have h1 : Leaves (State.fusView Fusion.course) (s.updFus fun q => { q with frame := s.tb.t / s.fper * s.fper / s.fper }) s1 :=
    fusionLoad_leaves_course _
  clear_value s1
  obtain ⟨hloaded, -⟩ := course_fields h1
  have hnumber : s2.fus.frame = s.tb.t / s.fper := hloaded.trans (Nat.mul_div_cancel _ hper)
  have hinstant : s2.fus.lastInst = s.tb.t / s.fper * s.fper := rfl
  have h3 : Leaves (State.fusView Fusion.course) s2 s3 := .foldl fun u k => takeElement_leaves_course u k _ el
  have h4 : Leaves (State.fusView Fusion.course) s2 s4 := .after (vesselModel_leaves_course _ x) (.after (updNom_leaves_course s3 _) h3)
  have h5 : Leaves (State.fusView Fusion.course) s2 s5 :=
    .after (waveFrame_leaves_course _ x.tel) (.after (keepFrame_leaves_course s4 _ x) h4)
  clear_value s2 s5
  obtain ⟨hframe, hinst, -⟩ := course_fields h5
  split
  case isTrue hprop =>
    obtain ⟨hframe', hinst', hprop', -⟩ := course_fields (frameRest_leaves_course s5)
    exact ⟨hframe'.trans (hframe.trans hnumber), hinst'.trans (hinst.trans hinstant), hprop'.trans hprop⟩
  case isFalse =>
    rw [fus_startProp]
    exact ⟨hframe.trans hnumber, hinst.trans hinstant, rfl⟩

/-! ### The ends of the batches (R281, R285, R291) -/

theorem clean_eq_true {q : JobState} (hlate : q.late = false) (hbad : q.bad = false) : q.clean = true := by
  simp [JobState.clean, hlate, hbad]

theorem clean_eq_false {q : JobState} (h : q.late = true ∨ q.bad = true) : q.clean = false := by
  rcases h with h | h <;> simp [JobState.clean, h]

section
variable (s : State)

/-- Bit `i` of FUS_STK and a record say what has come about. -/
def State.fusNoted (i : Nat) (n : RecName) : State := (s.setBitR Reg.FUS_STK i).record n 0 []

theorem fusNoted_results {i : Nat} (hi : i < 32) (n : RecName) :
    (s.fusNoted i n).fus = s.fus ∧ (s.fusNoted i n).regB Reg.FUS_STK i = true ∧ sameRegs s (s.fusNoted i n) [Reg.FUS_STK] := by
  obtain ⟨hfus, hstk⟩ := fusAt_fields (record_leaves_fusAt (a := Reg.FUS_STK) (s.setBitR Reg.FUS_STK i) n 0 [] (by decide))
  exact ⟨hfus, (congrArg (bit · i) hstk).trans ((regB_setBitR s hi _ _ _).trans (if_pos ⟨rfl, rfl⟩)),
    sameRegs_trans (sameRegs_setBitR s Reg.FUS_STK i) (sameRegs_record _ _ _ _ _)⟩

/-- R281: a batch that did not complete leaves the engine and is noted in FUS_STK. -/
theorem fusAbort_results : s.fusAbort.fus = s.fus ∧ s.fusAbort.regB Reg.FUS_STK 5 = true := by
  obtain ⟨hfus, hstk, -⟩ := fusNoted_results s (i := 5) (by decide) .fusAbort
  exact ⟨hfus, hstk⟩

/-- R281: the propagation of a frame has ended, in the other P buffer when every entry of its batch is done. -/
def State.propEnded (s : State) : State :=
  if (s.job 2).clean then s.updFus fun q => { q with prop := false, psel := 1 - q.propSel }
  else (s.updFus fun q => { q with prop := false }).fusAbort

theorem exec_fusionPropagationComplete {s : State} (hprop : s.fus.prop = true) (hidle : (s.job 2).busy = false) :
    exec .fusionPropagationComplete s = .next s.propEnded.frameRest :=
  congrArg Host.Outcome.next (if_pos (by simp [hprop, hidle]))

theorem propEnded_results : s.propEnded.fus.prop = false
    ∧ ((s.job 2).clean = true → s.propEnded.fus.psel = 1 - s.fus.propSel)
    ∧ ((s.job 2).clean = false → s.propEnded.fus.psel = s.fus.psel ∧ s.propEnded.regB Reg.FUS_STK 5 = true) := by
  unfold State.propEnded
  split
  case isTrue h => exact ⟨rfl, fun _ => rfl, fun hbad => absurd (h.symm.trans hbad) (by decide)⟩
  case isFalse h =>
    obtain ⟨hfus, hstk⟩ := fusAbort_results (s.updFus fun q => { q with prop := false })
    rw [hfus]
    exact ⟨rfl, fun hclean => absurd hclean h, fun _ => ⟨rfl, hstk⟩⟩

/-- R281: what an update leaves whose entries are all done: its measurements accepted, its δx injected, P' in use. -/
def State.updateTaken (s : State) (u : FusUpdate) : State :=
  let s := u.accepted.foldl (fun s e => s.fusDecide e.slot (Reg.FUS_NACC e.slot)) s.inject
  let s := s.updFus fun q => { q with psel := 1 - u.psel }
  let s := if u.accepted.any (fun e => s.rfType e.slot != 2) then s.posAccepted else s
  match (u.accepted.filter (fun e => s.rfType e.slot == 2)).getLast? with
  | some e => s.hdgAccepted (lget e.words 2 0 - s.reg (Reg.FUS_LX e.slot))
  | none => s

/-- R281: what an update leaves whose batch did not complete: its measurements in REJ_ABORT. -/
def State.updateDropped (s : State) (u : FusUpdate) : State :=
  u.accepted.foldl (fun s e => s.fusDecide e.slot (Reg.FUS_REJ_ABORT e.slot)) s.fusAbort

/-- R281: the state at the end of the batch of update `u`. -/
def State.updateOutcome (s : State) (u : FusUpdate) : State := if (s.job 3).clean then s.updateTaken u else s.updateDropped u

/-- R285: an accepted position ends dead reckoning. -/
theorem posAccepted_leaves_awaited : Leaves (State.fusView Fusion.awaited) s s.posAccepted := by
  unfold State.posAccepted
  extract_lets was s1
  have h1 : Leaves (State.fusView Fusion.awaited) s s1 := updFus_leaves_fusView s rfl
  exact .ite (.after (record_leaves_fusView s1 _ _ _) h1) h1

/-- R281: an injection moves the nominal state alone. -/
theorem inject_leaves_awaited : Leaves (State.fusView Fusion.awaited) s s.inject := ⟨rfl⟩

/-- R281, R285: an update that is taken switches to P'; what waits for it stays. -/
theorem awaited_updateTaken (u : FusUpdate) :
    (s.updateTaken u).fus.awaited = (s.fus.heldUpd, s.fus.owed, 1 - u.psel) := by
  unfold State.updateTaken
  extract_lets s1 s2 s3
  obtain ⟨⟨hheld, howed, -⟩, -⟩ : ((s1.fus.heldUpd = s.fus.heldUpd ∧ s1.fus.owed = s.fus.owed ∧ _) ∧ _) := by
    have h : Leaves (State.fusView Fusion.awaited) s s1 :=
      .after (.foldl fun v e => fusDecide_leaves_fusView v _ (by grind)) (inject_leaves_awaited s)
    simpa only [State.fusView, Fusion.awaited, Prod.mk.injEq] using h.eq
  have h3 : Leaves (State.fusView Fusion.awaited) s2 s3 := .ite (posAccepted_leaves_awaited s2) (.refl s2)
  have h2 : s2.fus.awaited = (s.fus.heldUpd, s.fus.owed, 1 - u.psel) := by rw [← hheld, ← howed]; rfl
  refine Eq.trans ?_ ((congrArg Prod.fst h3.eq).trans h2)
  split <;> rfl

/-- R281: an update that is dropped leaves the engine and is noted in FUS_STK. -/
theorem updateDropped_results (u : FusUpdate) :
    (s.updateDropped u).fus = s.fus ∧ (s.updateDropped u).regB Reg.FUS_STK 5 = true := by
  have h : Leaves (State.fusAt Reg.FUS_STK) s.fusAbort (s.updateDropped u) :=
    .foldl fun v e => fusDecide_leaves_fusAt v _ (by decide) (by grind)
  obtain ⟨hfus, hstk⟩ := fusAt_fields h
  obtain ⟨hfus', hstk'⟩ := fusAbort_results s
  exact ⟨hfus.trans hfus', (congrArg (bit · 5) hstk).trans hstk'⟩

/-- R281, R291: what stands at the end of an update. -/
theorem endUpdate_results (used : List FusEntry) :
    (s.endUpdate used).fus = { s.fus with upd := none } ∧ (s.endUpdate used).reg Reg.FUS_DIGEST = crc32c (digestBytes used)
      ∧ (s.endUpdate used).regB Reg.FUS_STK 5 = s.regB Reg.FUS_STK 5 := by
  obtain ⟨hfus, hdigest⟩ := fusAt_fields (endUpdate_leaves_fusAt (a := Reg.FUS_DIGEST) s used (by decide))
  obtain ⟨-, hstk⟩ := fusAt_fields (endUpdate_leaves_fusAt (a := Reg.FUS_STK) s used (by decide))
  exact ⟨hfus, hdigest.trans (State.reg_setReg_same _ _ _), congrArg (bit · 5) (hstk.trans (State.reg_setReg_ne _ _ (by decide)))⟩

end

/-- R268: what waited for the update that has ended has its turn. -/
def State.nextUpdate (s : State) : State :=
  match s.fus.heldUpd with
  | some v => (s.updFus fun q => { q with heldUpd := none }).startUpdate (some v)
  | none => if 0 < s.fus.owed then (s.updFus fun q => { q with owed := q.owed - 1 }).frameRest else s

theorem nextUpdate_eq_self {s : State} (hheld : s.fus.heldUpd = none) (howed : s.fus.owed = 0) : s.nextUpdate = s := by
  simp [State.nextUpdate, hheld, howed]

theorem exec_fusionUpdateComplete {s : State} {u : FusUpdate} (hupd : s.fus.upd = some u) (hidle : (s.job 3).busy = false) :
    exec .fusionUpdateComplete s = .next ((s.updateOutcome u).endUpdate u.used).nextUpdate := by
  refine congrArg Host.Outcome.next ?_
  rw [hupd]
  exact if_neg (Bool.eq_false_iff.1 hidle)

/-- R281: the end of an update that nothing waits for: P' and δx are in force when every entry of its batch is done, else the
nominal state stays; its digest is published (the parameters of CRC-32C: notes/assumptions/3.md; frame index and slot enter it as
32-bit words, a choice of the model, for R291 gives no widths). -/
theorem fusionUpdateComplete_results {s : State} {u : FusUpdate} (hupd : s.fus.upd = some u) (hheld : s.fus.heldUpd = none)
    (howed : s.fus.owed = 0) (hidle : (s.job 3).busy = false) :
    ∃ t, exec .fusionUpdateComplete s = .next t ∧ t.fus.upd = none ∧ t.reg Reg.FUS_DIGEST = crc32c (digestBytes u.used)
      ∧ ((s.job 3).clean = true → t.fus.psel = 1 - u.psel)
      ∧ ((s.job 3).clean = false → t.fus.nom = s.fus.nom ∧ t.regB Reg.FUS_STK 5 = true) := by
  have houtcome : (s.updateOutcome u).fus.heldUpd = none ∧ (s.updateOutcome u).fus.owed = 0
      ∧ ((s.job 3).clean = true → (s.updateOutcome u).fus.psel = 1 - u.psel)
      ∧ ((s.job 3).clean = false → (s.updateOutcome u).fus.nom = s.fus.nom ∧ (s.updateOutcome u).regB Reg.FUS_STK 5 = true) := by
    unfold State.updateOutcome
    split
    case isTrue h =>
      obtain ⟨hheld', howed', hpsel⟩ : (s.updateTaken u).fus.heldUpd = s.fus.heldUpd ∧ (s.updateTaken u).fus.owed = s.fus.owed
          ∧ (s.updateTaken u).fus.psel = 1 - u.psel := by
        simpa only [Fusion.awaited, Prod.mk.injEq] using awaited_updateTaken s u
      exact ⟨hheld'.trans hheld, howed'.trans howed, fun _ => hpsel, fun hbad => absurd (h.symm.trans hbad) (by decide)⟩
    case isFalse h =>
      obtain ⟨hfus, hstk⟩ := updateDropped_results s u
      rw [hfus]
      exact ⟨hheld, howed, fun hclean => absurd hclean h, fun _ => ⟨rfl, hstk⟩⟩
  obtain ⟨hheld', howed', htaken, hdropped⟩ := houtcome
  obtain ⟨hfus, hdigest, hstk⟩ := endUpdate_results (s.updateOutcome u) u.used
  refine ⟨(s.updateOutcome u).endUpdate u.used, ?_, ?_, hdigest, ?_⟩
  · rw [exec_fusionUpdateComplete hupd hidle, nextUpdate_eq_self]
    · rw [hfus]; exact hheld'
    · rw [hfus]; exact howed'
  · rw [hfus]
  · rw [hfus, hstk]
    exact ⟨htaken, hdropped⟩

/-! ### Posts, requests and samples (R268, R271, R272, R279, R285, R289) -/

/-- R272, R294: the counters of slot `k` with the delivery of an element, which may replace another. -/
def State.deliveryCounted (s : State) (k : Nat) : State :=
  (s.bump (if (s.rf k).held.isSome then Reg.FUS_REJ_OVW k else Reg.FUS_NPEND k)).bump (Reg.FUS_NRECV k)

theorem reg_deliveryCounted (s : State) (k a : Nat) : (s.deliveryCounted k).reg a =
    if a = Reg.FUS_NRECV k ∨ a = (if (s.rf k).held.isSome then Reg.FUS_REJ_OVW k else Reg.FUS_NPEND k) then s.reg a + 1
    else s.reg a := by
  have hother : Reg.FUS_NRECV k ≠ if (s.rf k).held.isSome then Reg.FUS_REJ_OVW k else Reg.FUS_NPEND k := by split <;> grind
  have hone : wd 1 = 1 := rfl
  rw [State.deliveryCounted, State.bump, State.bump, State.reg_setReg, State.reg_setReg, State.reg_setReg, if_neg hother, hone]
  generalize (if (s.rf k).held.isSome then Reg.FUS_REJ_OVW k else Reg.FUS_NPEND k) = c
  grind

/-- R272: where engine and slot are enabled, an element that is delivered is counted and held. -/
theorem fusDeliver_eq {s : State} {k : Nat} (hon : s.fusOn = true) (hen : s.regB (Reg.FUS_SCFG k) 31 = true) (ws : List Word) :
    s.fusDeliver k ws = (s.deliveryCounted k).updRf k fun x => { x with held := some (ws, s.tb.el) } := by
  refine (if_pos (by simp [hon, hen])).trans ?_
  rw [State.deliveryCounted]
  split <;> rfl

/-- R272: an element that replaces another counts as overwritten, any other as pending. -/
theorem fusDeliver_results {s : State} {k : Nat} (hon : s.fusOn = true) (hen : s.regB (Reg.FUS_SCFG k) 31 = true) (ws : List Word) :
    let t := s.fusDeliver k ws
    (t.rf k).held = some (ws, s.tb.el) ∧ t.reg (Reg.FUS_NRECV k) = s.reg (Reg.FUS_NRECV k) + 1
      ∧ ((s.rf k).held = none → t.reg (Reg.FUS_NPEND k) = s.reg (Reg.FUS_NPEND k) + 1)
      ∧ ((s.rf k).held ≠ none → t.reg (Reg.FUS_REJ_OVW k) = s.reg (Reg.FUS_REJ_OVW k) + 1) := by
  intro t
  have ht : t = _ := fusDeliver_eq hon hen ws
  have hreg : ∀ a, t.reg a = (s.deliveryCounted k).reg a := fun a => by rw [ht]; rfl
  refine ⟨?_, (hreg _).trans ((reg_deliveryCounted s k _).trans (if_pos (.inl rfl))), fun hnone => ?_, fun hsome => ?_⟩
  · rw [ht]
    exact congrArg FusSlot.held (mgetD_mput_same _ _ _ _)
  · rw [hreg, reg_deliveryCounted, hnone]
    exact if_pos (.inr rfl)
  · rw [hreg, reg_deliveryCounted, Option.isSome_iff_ne_none.2 hsome]
    exact if_pos (.inr rfl)

/-- R271: a post of the exact length is delivered. -/
theorem doFusPost_delivers {s : State} {p : Party} {v : Word} (hslot : fld v 12 8 ≤ 12) (hlen : fld v 6 0 ≠ 0)
    (hexact : fld v 6 0 = elemLen (s.rfType (fld v 12 8)) (s.preg (partyNo p) (Reg.FUS_PBUF 0))) :
    s.doFusPost p v
      = s.fusDeliver (fld v 12 8) ((List.range (fld v 6 0)).map fun i => s.preg (partyNo p) (Reg.FUS_PBUF i)) :=
  if_neg fun h => h.elim (Nat.not_lt.2 hslot) fun h => h.elim hlen fun h => h hexact

/-- R271: the flag of a refused post stands in an engine or in the ports of CLE, not in the fusion engine. -/
@[simp] theorem fus_partyEsf (s : State) (p : Party) (b : EsfBit) : (s.partyEsf p b).fus = s.fus := by
  cases p with
  | svc g => rfl
  | eng e =>
    simp only [State.partyEsf, State.lateEsf]
    split
    · rfl
    · split <;> rfl

/-- R271: a post to a slot above 12 is refused, with POSTREF. -/
theorem doFusPost_refused {s : State} {p : Party} {v : Word} (hslot : 12 < fld v 12 8) :
    (s.doFusPost p v).regB Reg.FUS_STK 0 = true ∧ (s.doFusPost p v).fus = s.fus := by
  have h : s.doFusPost p v = (s.partyEsf p .lenErr).setBitR Reg.FUS_STK 0 := if_pos (.inl hslot)
  rw [h]
  exact ⟨(regB_setBitR _ (by decide) _ _ _).trans (if_pos ⟨rfl, rfl⟩), fus_partyEsf s p .lenErr⟩

section
variable {s : State} (hon : s.fusOn = true) (hmode : s.regB Reg.FUS_CTL 29 = true) (v : Word)
include hon hmode

/-- R268: in UPDMODE 1 a request waits for the update in flight. -/
theorem doFusUpd_waits (hupd : s.fus.upd ≠ none) : s.doFusUpd v = s.updFus fun q => { q with heldUpd := some v } :=
  (if_neg (by simp [hon, hmode])).trans (if_pos (Option.isSome_iff_ne_none.2 hupd))

/-- R268: where none is in flight it starts one. -/
theorem doFusUpd_starts (hupd : s.fus.upd = none) : s.doFusUpd v = s.startUpdate (some v) :=
  (if_neg (by simp [hon, hmode])).trans (if_neg (by simp [hupd]))

end

/-! ### The statement -/

/-- Settles O37: each command of the engine acts by its law: a post, a request, a frame, the ends of the two batches, a sample, and
the conditions of the inertial unit, of dead reckoning and of the wave tracker. -/
theorem fusionResults : Obligations.FusionResults := by
  refine ⟨fun p v s hturn hport => ⟨?delivers, ?refused⟩, fun p v s hturn hport hon hmode => ⟨?waits, ?starts⟩, ?frame, ?propagated,
    ?updated, fun inc s htick => ⟨?valid, ?invalid⟩, ?imuFault, ?imuRestore, ?uncertain, ?wave⟩
  case delivers =>
    intro hslot hlen hexact hon hen
    refine ⟨_, congrArg Host.Outcome.next (portWrite_of_turnOf hturn hport _), ?_⟩
    rw [doFusPost_delivers (s := s.turned p) hslot hlen hexact]
    exact fusDeliver_results (s := s.turned p) hon hen _
  case refused =>
    intro hslot
    exact ⟨_, congrArg Host.Outcome.next (portWrite_of_turnOf hturn hport _), doFusPost_refused (s := s.turned p) hslot⟩
  case waits =>
    intro hupd
    refine ⟨_, congrArg Host.Outcome.next (portWrite_of_turnOf hturn hport _), ?_⟩
    rw [doFusUpd_waits (s := s.turned p) hon hmode v hupd]
    exact ⟨rfl, rfl⟩
  case starts =>
    intro e hupd hqueue hcut
    refine ⟨_, congrArg Host.Outcome.next (portWrite_of_turnOf hturn hport _), ?_⟩
    rw [doFusUpd_starts (s := s.turned p) hon hmode v hupd]
    exact queue_startUpdate_singleton (s := s.turned p) hqueue (decide_eq_true hcut)
  case frame => exact fun s => frameInstant_results
  case propagated =>
    intro s hprop hidle
    obtain ⟨hdone, htaken, hdropped⟩ := propEnded_results s
    obtain ⟨-, -, hprop', hpsel, hstk⟩ := course_fields (frameRest_leaves_course s.propEnded)
    refine ⟨_, exec_fusionPropagationComplete hprop hidle, hprop'.trans hdone,
      fun hlate hbad => hpsel.trans (htaken (clean_eq_true hlate hbad)), fun h => ?_⟩
    obtain ⟨hpsel', hstk'⟩ := hdropped (clean_eq_false h)
    exact ⟨hpsel.trans hpsel', hstk.trans hstk'⟩
  case updated =>
    intro u s hupd hheld howed hidle
    obtain ⟨t, hexec, hnone, hdigest, htaken, hdropped⟩ := fusionUpdateComplete_results hupd hheld howed hidle
    exact ⟨t, hexec, hnone, hdigest, fun hlate hbad => htaken (clean_eq_true hlate hbad), fun h => hdropped (clean_eq_false h)⟩
  case valid => exact ⟨_, congrArg Host.Outcome.next (if_pos htick), rfl, rfl, rfl⟩
  case invalid => exact ⟨_, congrArg Host.Outcome.next (if_pos htick), rfl, rfl, rfl⟩
  case imuFault =>
    intro s hbad hclear
    obtain ⟨hfus, hstk, hregs⟩ := fusNoted_results (s.updFus fun q => { q with imuf := true }) (i := 4) (by decide) .fusImuFault
    exact ⟨_, congrArg Host.Outcome.next (if_pos ⟨hbad, hclear⟩), congrArg Fusion.imuf hfus, hstk, hregs⟩
  case imuRestore =>
    intro s hset hgood
    let u := s.updFus fun q => { q with imuf := false }
    have hrec : Leaves (State.fusAt 0) u (u.record .fusImuRestore 0 []) := record_leaves_fusAt u _ _ _ (by decide)
    exact ⟨_, congrArg Host.Outcome.next (if_pos ⟨hset, hgood⟩), congrArg Fusion.imuf (fusAt_fields hrec).1,
      sameRegs_record u _ _ _ _⟩
  case uncertain =>
    intro s hon hclear hlim
    obtain ⟨hfus, hstk, -⟩ := fusNoted_results (s.updFus fun q => { q with posunc := true }) (i := 2) (by decide) .fusPosUncertain
    exact ⟨_, congrArg Host.Outcome.next (if_pos (by simp [hon, hclear, hlim])), congrArg Fusion.posunc hfus, hstk⟩
  case wave =>
    intro e s hok hheld
    refine ⟨{ s.updFus fun q => { q with wvalid := true } with wave := { s.wave with valid := true } },
      congrArg Host.Outcome.next ?_, rfl, rfl, fun _ _ _ => rfl⟩
    rw [hok]
    exact if_pos hheld

end Sys2Proof.Machine
end

section
/-! The queue and the byte stores: what leaves them alone, operation by operation. -/
namespace Sys2Proof.Machine

/-- The queue and the byte stores: banks, bulk memory, program flash. -/
abbrev Vault := List Instr × List Host.Cell × List Host.Cell × List Host.Cell

/-- What a command may change of the queue and the byte stores is said of this. -/
def State.vault (s : State) : Vault :=
  (s.pending, s.banks.cells, s.banks.dram, s.boot.flash)

section
variable (s : State)

@[simp] theorem vault_ite (c : Prop) [Decidable c] (a b : State) : (if c then a else b).vault = if c then a.vault else b.vault :=
  apply_ite State.vault c a b

/-- A fold leaves what every step leaves. -/
@[simp] theorem vault_foldl {α : Type} {f : State → α → State} (h : ∀ u a, (f u a).vault = u.vault) (l : List α) :
    (l.foldl f s).vault = s.vault := by
  induction l generalizing s with
  | nil => rfl
  | cons a l ih => rw [List.foldl_cons, ih, h]

/-- An update of other fields. -/
theorem vault_with (clk free now regs priv latches engs sched tb wave mains sol opt lpe field gnb dfc enc ser can fus eth saf
    pair evr out health) :
    ({ s with clk := clk, free := free, now := now, regs := regs, priv := priv, latches := latches, engs := engs
              sched := sched, tb := tb, wave := wave, mains := mains, sol := sol, opt := opt, lpe := lpe, field := field
              gnb := gnb, dfc := dfc, enc := enc, ser := ser, can := can, fus := fus, eth := eth, saf := saf, pair := pair
              evr := evr, out := out, health := health } : State).vault = s.vault := rfl

@[simp] theorem vault_fst_ite {β : Type} (c : Prop) [Decidable c] (a b : State × β) :
    (if c then a else b).1.vault = if c then a.1.vault else b.1.vault :=
  apply_ite (fun q : State × β => q.1.vault) c a b


@[simp] theorem vault_setReg (a v) : (s.setReg a v).vault = s.vault := (rfl)

@[simp] theorem vault_setRegF (a hi lo v) : (s.setRegF a hi lo v).vault = s.vault := (rfl)

@[simp] theorem vault_updNow (f) : (s.updNow f).vault = s.vault := (rfl)

@[simp] theorem vault_orBits (a m) : (s.orBits a m).vault = s.vault := (rfl)

@[simp] theorem vault_orBitsNext (a m) : (s.orBitsNext a m).vault = s.vault := (rfl)

@[simp] theorem vault_setBitR (a i) : (s.setBitR a i).vault = s.vault := (rfl)

@[simp] theorem vault_clrBitR (a i) : (s.clrBitR a i).vault = s.vault := (rfl)

@[simp] theorem vault_putBitR (a i b) : (s.putBitR a i b).vault = s.vault := by simp [State.putBitR]

@[simp] theorem vault_bump (a n) : (s.bump a n).vault = s.vault := (rfl)

@[simp] theorem vault_drop (a n) : (s.drop a n).vault = s.vault := (rfl)

@[simp] theorem vault_bumpF (a hi lo) : (s.bumpF a hi lo).vault = s.vault := (rfl)

@[simp] theorem vault_setPreg (p a v) : (s.setPreg p a v).vault = s.vault := (rfl)

@[simp] theorem vault_updPair (f) : (s.updPair f).vault = s.vault := (rfl)

@[simp] theorem vault_withdrawClaim : s.withdrawClaim.vault = s.vault := by simp [State.withdrawClaim]

@[simp] theorem vault_addHealth (h) : (s.addHealth h).vault = s.vault := by
  unfold State.addHealth
  dsimp only
  simp [↓vault_ite, ↓vault_with]

@[simp] theorem vault_dropHealth (h) : (s.dropHealth h).vault = s.vault := (rfl)

@[simp] theorem vault_freeValue : s.freeValue.2.vault = s.vault := (rfl)

@[simp] theorem vault_emit (o) : (s.emit o).vault = s.vault := (rfl)

@[simp] theorem vault_etherOut (o) : (s.etherOut o).vault = s.vault := by simp [State.etherOut]

@[simp] theorem vault_setEng (e x) : (s.setEng e x).vault = s.vault := (rfl)

@[simp] theorem vault_updEng (e f) : (s.updEng e f).vault = s.vault := (rfl)

@[simp] theorem vault_setW (e r v) : (s.setW e r v).vault = s.vault := (rfl)

@[simp] theorem vault_setP (e k b) : (s.setP e k b).vault = s.vault := (rfl)

@[simp] theorem vault_enter (part b fuel) : (s.enter part b fuel).vault = s.vault := by
  induction fuel generalizing s part b with
  | zero => rfl
  | succ fuel ih =>
    unfold State.enter
    extract_lets -lift +onlyGivenNames hit slot r src s1 s2
    have h2 : s2.vault = s.vault := rfl
    clear_value s2 s1 r slot
    cases slot with
    | none => simp [h2]
    | some k =>
      dsimp only
      split <;> simp [ih, h2, ↓vault_with]

@[simp] theorem vault_accept (isLog b) : (s.accept isLog b).1.vault = s.vault := by
  unfold State.accept
  split
  · rfl
  · split
    · exact vault_enter s _ _ _
    · simp [↓vault_with]

@[simp] theorem vault_record (n el items) : (s.record n el items).vault = s.vault := by
  unfold State.record
  split
  · rfl
  · exact vault_accept s _ _

@[simp] theorem vault_setOwner (b o) : (s.setOwner b o).vault = s.vault := (rfl)

@[simp] theorem vault_touch (b) : (s.touch b).vault = s.vault := (rfl)

@[simp] theorem vault_markUpset (a n l) : (s.markUpset a n l).vault = s.vault := by
  unfold State.markUpset
  dsimp only
  split <;> rfl

@[simp] theorem vault_noteParity (a n) : (s.noteParity a n).1.vault = s.vault := by simp [State.noteParity]

@[simp] theorem vault_readWords (a n) : (s.readWords a n).vault = s.vault := by simp [State.readWords]

@[simp] theorem vault_updGroup (g f) : (s.updGroup g f).vault = s.vault := (rfl)

@[simp] theorem vault_updCounts (c f) : (s.updCounts c f).vault = s.vault := (rfl)

@[simp] theorem vault_safRestart (c) : (s.safRestart c).vault = s.vault := by
  unfold State.safRestart
  dsimp only
  simp [↓vault_ite, ↓vault_foldl, ↓vault_with]

@[simp] theorem vault_updAxis (n f) : (s.updAxis n f).vault = s.vault := (rfl)

@[simp] theorem vault_updField (f) : (s.updField f).vault = s.vault := (rfl)

@[simp] theorem vault_sendDown (g) : (s.sendDown g).vault = s.vault := by simp [State.sendDown]

@[simp] theorem vault_sendFrames (el) : (s.sendFrames el).vault = s.vault := by simp [State.sendFrames]

@[simp] theorem vault_evalAxis (n jump) : (s.evalAxis n jump).vault = s.vault :=
  (vault_foldl _ (fun _ _ => by rfl) _).trans (vault_foldl _ (fun _ _ => by rfl) _)

@[simp] theorem vault_moveAxis (n pos) : (s.moveAxis n pos).vault = s.vault := by simp [State.moveAxis]

@[simp] theorem vault_armGroup (g) : (s.armGroup g).vault = s.vault := by simp [State.armGroup]

@[simp] theorem vault_noteWaits : s.noteWaits.vault = s.vault := by
  refine vault_foldl s (fun u x => ?_) _
  split
  · split <;> rfl
  · rfl

@[simp] theorem vault_setT (t) : (s.setT t).vault = s.vault := (rfl)

@[simp] theorem vault_updTb (f) : (s.updTb f).vault = s.vault := (rfl)

@[simp] theorem vault_regridTriggers : s.regridTriggers.vault = s.vault := by
  unfold State.regridTriggers
  dsimp only
  simp [↓vault_with]

@[simp] theorem vault_jumpFusion : s.jumpFusion.vault = s.vault := by
  unfold State.jumpFusion
  dsimp only
  simp [↓vault_foldl, ↓vault_with]

@[simp] theorem vault_countSeconds (el) : (s.countSeconds el).vault = s.vault := by
  unfold State.countSeconds
  dsimp only
  simp [↓vault_ite, ↓vault_with]

@[simp] theorem vault_shiftHot : s.shiftHot.vault = s.vault := (rfl)

@[simp] theorem vault_landSets (ticked) : (s.landSets ticked).vault = s.vault := by simp [State.landSets]

@[simp] theorem vault_acting (k) : (s.acting k).vault = s.vault := (rfl)

@[simp] theorem vault_esf (e b) : (s.esf e b).vault = s.vault := (rfl)

@[simp] theorem vault_esfIf (e c b) : (s.esfIf e c b).vault = s.vault := by simp [State.esfIf]

@[simp] theorem vault_lateEsf (e b) : (s.lateEsf e b).vault = s.vault := by
  unfold State.lateEsf
  dsimp only
  repeat' split
  all_goals simp

@[simp] theorem vault_partyEsf (p b) : (s.partyEsf p b).vault = s.vault := by
  unfold State.partyEsf
  split <;> simp

@[simp] theorem vault_accountTo (e c) : (s.accountTo e c).vault = s.vault := by
  unfold State.accountTo
  dsimp only
  repeat' split
  all_goals simp [↓vault_with]

@[simp] theorem vault_endRecord (e r st info) : (s.endRecord e r st info).vault = s.vault := by
  unfold State.endRecord
  split <;> simp

@[simp] theorem vault_discardStaged (g c d) : (s.discardStaged g c d).vault = s.vault := by simp [State.discardStaged]

@[simp] theorem vault_endClause (e st count info) : (s.endClause e st count info).vault = s.vault := by
  unfold State.endClause
  repeat' split
  all_goals simp

@[simp] theorem vault_charge (e n) : (s.charge e n).vault = s.vault := by
  unfold State.charge
  split <;> simp

@[simp] theorem vault_checkFlags (e c) : (s.checkFlags e c).vault = s.vault := by simp [State.checkFlags]

@[simp] theorem vault_putRes (e d r) : (s.putRes e d r).vault = s.vault := by simp [State.putRes]

@[simp] theorem vault_putAcc (e k r) : (s.putAcc e k r).vault = s.vault := by simp [State.putAcc]

@[simp] theorem vault_branchTo (e t) : (s.branchTo e t).1.vault = s.vault := by
  unfold State.branchTo
  split <;> simp

@[simp] theorem vault_doCall (e d) : (s.doCall e d).1.vault = s.vault := by
  unfold State.doCall
  dsimp only
  repeat' split
  all_goals simp

@[simp] theorem vault_doRet (e) : (s.doRet e).1.vault = s.vault := by
  unfold State.doRet
  dsimp only
  repeat' split
  all_goals simp

@[simp] theorem vault_doBrt (e idx n) : (s.doBrt e idx n).1.vault = s.vault := by
  unfold State.doBrt
  dsimp only
  repeat' split
  all_goals simp

@[simp] theorem vault_openLoop (e c len) : (s.openLoop e c len).1.vault = s.vault := by
  unfold State.openLoop
  dsimp only
  repeat' split
  all_goals simp

@[simp] theorem vault_makeReady (c t) : (s.makeReady c t).vault = s.vault := by
  unfold State.makeReady
  dsimp only
  simp [↓vault_ite, ↓vault_with]

@[simp] theorem vault_blockEvent (cls idx) : (s.blockEvent cls idx).vault = s.vault := by simp [State.blockEvent]

@[simp] theorem vault_notifyClause (c seq ticket) : (s.notifyClause c seq ticket).vault = s.vault := by simp [State.notifyClause]

@[simp] theorem vault_followSource (n) : (s.followSource n).vault = s.vault := by simp [State.followSource]

@[simp] theorem vault_encoderAxes (ch) : (s.encoderAxes ch).vault = s.vault := by simp [State.encoderAxes]

@[simp] theorem vault_tickAxes : s.tickAxes.vault = s.vault := by
  refine vault_foldl s (fun u n => ?_) _
  split
  · rfl
  · split
    · simp
    · simp
    · dsimp only
      split <;> simp
    · rfl

@[simp] theorem vault_fireUnits (k) : (s.fireUnits k).vault = s.vault := by
  unfold State.fireUnits
  dsimp only
  simp [↓vault_with]

@[simp] theorem vault_startScheduling : s.startScheduling.vault = s.vault := by
  unfold State.startScheduling
  dsimp only
  simp [↓vault_ite, ↓vault_foldl, ↓vault_with]

@[simp] theorem vault_endHoldover : s.endHoldover.vault = s.vault := by simp [State.endHoldover]

@[simp] theorem vault_useSource (c) : (s.useSource c).vault = s.vault := by simp [State.useSource]

@[simp] theorem vault_noSource : s.noSource.vault = s.vault := by simp [State.noSource]

@[simp] theorem vault_chooseSource : s.chooseSource.vault = s.vault := by simp [State.chooseSource]

@[simp] theorem vault_servo (o) : (s.servo o).vault = s.vault := by simp [State.servo]

@[simp] theorem vault_formUnc : s.formUnc.vault = s.vault := (rfl)

@[simp] theorem vault_noteOffset (o) : (s.noteOffset o).vault = s.vault := (rfl)

@[simp] theorem vault_latchTime (p) : (s.latchTime p).vault = s.vault := by simp [State.latchTime]

@[simp] theorem vault_produce (cls idx el) : (s.produce cls idx el).vault = s.vault := (rfl)

@[simp] theorem vault_ptpDecide : s.ptpDecide.vault = s.vault := by simp [State.ptpDecide]

@[simp] theorem vault_updPtp (p f) : (s.updPtp p f).vault = s.vault := (rfl)

@[simp] theorem vault_ptpSend (p kind seq body) : (s.ptpSend p kind seq body).vault = s.vault := by simp [State.ptpSend]

@[simp] theorem vault_ptpDelay (p d) : (s.ptpDelay p d).vault = s.vault := (rfl)

@[simp] theorem vault_ptpHook (ports) : (s.ptpHook ports).vault = s.vault := by simp [State.ptpHook]

@[simp] theorem vault_sendSync (p) : (s.sendSync p).vault = s.vault := by simp [State.sendSync]

@[simp] theorem vault_setDma (n c) : (s.setDma n c).vault = s.vault := (rfl)

@[simp] theorem vault_markBank (b tag) : (s.markBank b tag).vault = s.vault := (rfl)

@[simp] theorem vault_unmarkTag (tag) : (s.unmarkTag tag).vault = s.vault := (rfl)

@[simp] theorem vault_startWake (b) : (s.startWake b).vault = s.vault := by
  unfold State.startWake
  split <;> rfl

@[simp] theorem vault_passBank (b o) : (s.passBank b o).vault = s.vault := by simp [State.passBank]

@[simp] theorem vault_mbkOwn (p v level) : (s.mbkOwn p v level).vault = s.vault := by simp [State.mbkOwn]

@[simp] theorem vault_doOwn (e b o) : (s.doOwn e b o).vault = s.vault := by simp [State.doOwn]

@[simp] theorem vault_dramCe (n) : (s.dramCe n).vault = s.vault := by simp [State.dramCe]

@[simp] theorem vault_dramUe (a) : (s.dramUe a).vault = s.vault := by simp [State.dramUe]

@[simp] theorem vault_dmaStart (p ch v) : (s.dmaStart p ch v).vault = s.vault := by simp [State.dmaStart]

@[simp] theorem vault_dmaReport (ch) : (s.dmaReport ch).vault = s.vault := by simp [State.dmaReport]

@[simp] theorem vault_dmaStop (ch) : (s.dmaStop ch).vault = s.vault := by simp [State.dmaStop]

@[simp] theorem vault_dmaRefused (ch g) : (s.dmaRefused ch g).vault = s.vault := by simp [State.dmaRefused]

@[simp] theorem vault_dmaFullStop (g) : (s.dmaFullStop g).vault = s.vault := by simp [State.dmaFullStop]

@[simp] theorem vault_updSol (f) : (s.updSol f).vault = s.vault := (rfl)

@[simp] theorem vault_updBatch (b f) : (s.updBatch b f).vault = s.vault := by
  unfold State.updBatch
  split <;> simp

@[simp] theorem vault_updTicket (t f) : (s.updTicket t f).vault = s.vault := by
  unfold State.updTicket
  split <;> simp

@[simp] theorem vault_releaseTicket (t) : (s.releaseTicket t).vault = s.vault := (rfl)

@[simp] theorem vault_updJob (j f) : (s.updJob j f).vault = s.vault := (rfl)

@[simp] theorem vault_rangeReport (who range items) : (s.rangeReport who range items).vault = s.vault := by
  simp [State.rangeReport]

@[simp] theorem vault_markXh : s.markXh.vault = s.vault := by
  refine vault_foldl s (fun u q => vault_foldl u (fun u i => ?_) _) _
  split
  · rfl
  · simp

@[simp] theorem vault_solTrel (v) : (s.solTrel v).vault = s.vault := by
  unfold State.solTrel
  dsimp only
  repeat' split
  all_goals simp

@[simp] theorem vault_noTicket (e d p) : (s.noTicket e d p).vault = s.vault := (rfl)

@[simp] theorem vault_acceptBatch (e t bank off count) : (s.acceptBatch e t bank off count).vault = s.vault := by
  simp [State.acceptBatch]

@[simp] theorem vault_submitSol (e d p wa) : (s.submitSol e d p wa).vault = s.vault := by
  unfold State.submitSol
  split <;> simp

@[simp] theorem vault_noteCp (g i) : (s.noteCp g i).vault = s.vault := (rfl)

@[simp] theorem vault_stageIn (g w) : (s.stageIn g w).vault = s.vault := by simp [State.stageIn]

@[simp] theorem vault_stage (p addr v) : (s.stage p addr v).vault = s.vault := by simp [State.stage]

@[simp] theorem vault_discardSet (g) : (s.discardSet g).vault = s.vault := by simp [State.discardSet]

@[simp] theorem vault_stageOut (e item) : (s.stageOut e item).vault = s.vault := by
  unfold State.stageOut
  split <;> simp

@[simp] theorem vault_updCan (n f) : (s.updCan n f).vault = s.vault := (rfl)

@[simp] theorem vault_canCounters (n tec rc) : (s.canCounters n tec rc).vault = s.vault := by simp [State.canCounters]

@[simp] theorem vault_canRingStat (n) : (s.canRingStat n).vault = s.vault := by simp [State.canRingStat]

@[simp] theorem vault_txcackWrite (p n v) : (s.txcackWrite p n v).vault = s.vault := by simp [State.txcackWrite]

@[simp] theorem vault_canRingNew (n) : (s.canRingNew n).vault = s.vault := (rfl)

@[simp] theorem vault_canPutEntry (n e) : (s.canPutEntry n e).vault = s.vault := by simp [State.canPutEntry]

@[simp] theorem vault_recovWrite (n v) : (s.recovWrite n v).vault = s.vault := by simp [State.recovWrite]

@[simp] theorem vault_canRoute (n e) : (s.canRoute n e).vault = s.vault := by simp [State.canRoute]

@[simp] theorem vault_canQueue (n e) : (s.canQueue n e).vault = s.vault := by simp [State.canQueue]

@[simp] theorem vault_canBuffer (n f image t) : (s.canBuffer n f image t).vault = s.vault := by simp [State.canBuffer]

@[simp] theorem vault_canRxOk (n) : (s.canRxOk n).vault = s.vault := by simp [State.canRxOk]

@[simp] theorem vault_canRxBad (n by8) : (s.canRxBad n by8).vault = s.vault := by simp [State.canRxBad]

@[simp] theorem vault_rxackWrite (p n v) : (s.rxackWrite p n v).vault = s.vault := by simp [State.rxackWrite]

@[simp] theorem vault_hpackWrite (n v) : (s.hpackWrite n v).vault = s.vault := (rfl)

@[simp] theorem vault_updChain (c f) : (s.updChain c f).vault = s.vault := (rfl)

@[simp] theorem vault_mainsInvalid : s.mainsInvalid.vault = s.vault := (rfl)

@[simp] theorem vault_chainInvalid (c) : (s.chainInvalid c).vault = s.vault := by simp [State.chainInvalid]

@[simp] theorem vault_chainStart (c) : (s.chainStart c).vault = s.vault := by simp [State.chainStart]

@[simp] theorem vault_chainTrigger (c) : (s.chainTrigger c).vault = s.vault := (rfl)

@[simp] theorem vault_publishFirSwap (c addr) : (s.publishFirSwap c addr).vault = s.vault := by simp [State.publishFirSwap]

@[simp] theorem vault_firTake (c) : (s.firTake c).vault = s.vault := by
  unfold State.firTake
  dsimp only
  repeat' split
  all_goals simp

@[simp] theorem vault_mainsStart : s.mainsStart.vault = s.vault := (rfl)

@[simp] theorem vault_mainsUpdate (y age) : (s.mainsUpdate y age).vault = s.vault := by
  unfold State.mainsUpdate
  dsimp only
  repeat' split
  all_goals simp [↓vault_with]

@[simp] theorem vault_chainFault (c cause) : (s.chainFault c cause).vault = s.vault := by simp [State.chainFault]

@[simp] theorem vault_dfcStop : s.dfcStop.vault = s.vault := by
  unfold State.dfcStop
  dsimp only
  simp [↓vault_ite, ↓vault_foldl, ↓vault_with]

@[simp] theorem vault_dfcReturn : s.dfcReturn.vault = s.vault := by
  unfold State.dfcReturn
  dsimp only
  simp [↓vault_ite, ↓vault_foldl, ↓vault_with]

@[simp] theorem vault_publishLoop (c v) : (s.publishLoop c v).vault = s.vault := by
  unfold State.publishLoop
  dsimp only
  simp [↓vault_ite, ↓vault_with]

@[simp] theorem vault_publishOut (v) : (s.publishOut v).vault = s.vault := (rfl)

@[simp] theorem vault_updSaf (f) : (s.updSaf f).vault = s.vault := (rfl)

@[simp] theorem vault_safOutOff (k) : (s.safOutOff k).vault = s.vault := (rfl)

@[simp] theorem vault_safetyFault (cause) : (s.safetyFault cause).vault = s.vault := by simp [State.safetyFault]

@[simp] theorem vault_enterSafe (f cause) : (s.enterSafe f cause).vault = s.vault := by simp [State.enterSafe]

@[simp] theorem vault_redegrade : s.redegrade.vault = s.vault := by
  refine vault_foldl s (fun u f => ?_) _
  dsimp only
  split <;> simp

@[simp] theorem vault_outputFault (k check) : (s.outputFault k check).vault = s.vault := by simp [State.outputFault]

@[simp] theorem vault_linkFault : s.linkFault.vault = s.vault := by simp [State.linkFault]

@[simp] theorem vault_evalPair (k) : (s.evalPair k).vault = s.vault := by simp [State.evalPair]

@[simp] theorem vault_contactFault (n) : (s.contactFault n).vault = s.vault := by simp [State.contactFault]

@[simp] theorem vault_contactSound (n) : (s.contactSound n).vault = s.vault := by simp [State.contactSound]

@[simp] theorem vault_publishSafRst (mask) : (s.publishSafRst mask).vault = s.vault := by simp [State.publishSafRst]

@[simp] theorem vault_publishSafOn (mask off) : (s.publishSafOn mask off).vault = s.vault := by simp [State.publishSafOn]

@[simp] theorem vault_safDelivered (k single) : (s.safDelivered k single).vault = s.vault := by simp [State.safDelivered]

@[simp] theorem vault_safTelDiff (k) : (s.safTelDiff k).vault = s.vault := (rfl)

@[simp] theorem vault_ackFun (f) : (s.ackFun f).vault = s.vault := by simp [State.ackFun]

@[simp] theorem vault_safFackWrite (p v) : (s.safFackWrite p v).vault = s.vault := by simp [State.safFackWrite]

@[simp] theorem vault_updEpochs (g f) : (s.updEpochs g f).vault = s.vault := (rfl)

@[simp] theorem vault_noteBoth : s.noteBoth.vault = s.vault := by simp [State.noteBoth]

@[simp] theorem vault_restate : s.restate.vault = s.vault := by simp [State.restate]

@[simp] theorem vault_syncEnables : s.syncEnables.vault = s.vault := by simp [State.syncEnables]

@[simp] theorem vault_gainHold : s.gainHold.vault = s.vault := by simp [State.gainHold]

@[simp] theorem vault_loseHold : s.loseHold.vault = s.vault := by simp [State.loseHold]

@[simp] theorem vault_dualAuthority : s.dualAuthority.vault = s.vault := by simp [State.dualAuthority]

@[simp] theorem vault_standDown : s.standDown.vault = s.vault := by simp [State.standDown]

@[simp] theorem vault_silence : s.silence.vault = s.vault := by simp [State.silence]

@[simp] theorem vault_updLane (n f) : (s.updLane n f).vault = s.vault := (rfl)

@[simp] theorem vault_pairBeacon (src hold seq) : (s.pairBeacon src hold seq).vault = s.vault := by simp [State.pairBeacon]

@[simp] theorem vault_updSlot (n f) : (s.updSlot n f).vault = s.vault := (rfl)

@[simp] theorem vault_slotStat (n) : (s.slotStat n).vault = s.vault := by simp [State.slotStat]

@[simp] theorem vault_readSource (code par) : (s.readSource code par).vault = s.vault := by simp [State.readSource]

@[simp] theorem vault_takePage (n) : (s.takePage n).vault = s.vault := by simp [State.takePage]

@[simp] theorem vault_refuseSwap (n) : (s.refuseSwap n).vault = s.vault := by simp [State.refuseSwap]

@[simp] theorem vault_groupBoundary (n) : (s.groupBoundary n).vault = s.vault := by simp [State.groupBoundary]

@[simp] theorem vault_swapBoundary (n inst) : (s.swapBoundary n inst).vault = s.vault := by
  unfold State.swapBoundary
  dsimp only
  repeat' split
  all_goals simp [↓vault_foldl]

@[simp] theorem vault_applyImage (n a) : (s.applyImage n a).vault = s.vault := by simp [State.applyImage]

@[simp] theorem vault_applyAdjust (n) : (s.applyAdjust n).vault = s.vault := by simp [State.applyAdjust]

@[simp] theorem vault_startAdjust : s.startAdjust.vault = s.vault := by simp [State.startAdjust]

@[simp] theorem vault_skipSample (n m) : (s.skipSample n m).vault = s.vault := by simp [State.skipSample]

@[simp] theorem vault_skipSamples (n p) : (s.skipSamples n p).vault = s.vault := by simp [State.skipSamples]

@[simp] theorem vault_lpeArm (v) : (s.lpeArm v).vault = s.vault := by simp [State.lpeArm]

@[simp] theorem vault_lpePage (n p w v) : (s.lpePage n p w v).vault = s.vault := by simp [State.lpePage]

@[simp] theorem vault_stageParty (p item) : (s.stageParty p item).vault = s.vault := by
  unfold State.stageParty
  split <;> simp

@[simp] theorem vault_lpeSwapReg (p v) : (s.lpeSwapReg p v).vault = s.vault := by simp [State.lpeSwapReg]

@[simp] theorem vault_publishSwap (group first n) : (s.publishSwap group first n).vault = s.vault := by simp [State.publishSwap]

@[simp] theorem vault_loopSnapshot (g) : (s.loopSnapshot g).vault = s.vault := by simp [State.loopSnapshot]

@[simp] theorem vault_updOpt (f) : (s.updOpt f).vault = s.vault := (rfl)

@[simp] theorem vault_updRun (f) : (s.updRun f).vault = s.vault := (rfl)

@[simp] theorem vault_optStart (e d p wa) : (s.optStart e d p wa).vault = s.vault := by
  unfold State.optStart
  split <;> simp

@[simp] theorem vault_optEnd (r h sum counter) : (s.optEnd r h sum counter).vault = s.vault := by simp [State.optEnd]

@[simp] theorem vault_optReads (r h) : (s.optReads r h).vault = s.vault := by simp [State.optReads]

@[simp] theorem vault_optDegrade (code deg) : (s.optDegrade code deg).vault = s.vault := by simp [State.optDegrade]

@[simp] theorem vault_optFblim (p v) : (s.optFblim p v).vault = s.vault := by simp [State.optFblim]

@[simp] theorem vault_updFus (f) : (s.updFus f).vault = s.vault := (rfl)

@[simp] theorem vault_updRf (k f) : (s.updRf k f).vault = s.vault := (rfl)

@[simp] theorem vault_fusDeliver (k ws) : (s.fusDeliver k ws).vault = s.vault := by simp [State.fusDeliver]

@[simp] theorem vault_doFusPost (p v) : (s.doFusPost p v).vault = s.vault := by simp [State.doFusPost]

@[simp] theorem vault_fusDecide (k counter) : (s.fusDecide k counter).vault = s.vault := (rfl)

@[simp] theorem vault_alignStamp (k stamp inst) : (s.alignStamp k stamp inst).1.vault = s.vault := by
  unfold State.alignStamp
  split <;> simp

@[simp] theorem vault_takeElement (k inst el) : (s.takeElement k inst el).vault = s.vault := by
  unfold State.takeElement
  dsimp only
  repeat' split
  all_goals simp

@[simp] theorem vault_associate (q) : (s.associate q).1.vault = s.vault := by
  unfold State.associate
  dsimp only
  repeat' split
  all_goals simp

@[simp] theorem vault_posFix (q) : (s.posFix q).1.vault = s.vault := by
  unfold State.posFix
  dsimp only
  repeat' split
  all_goals simp

@[simp] theorem vault_decideFixes (hdg fresh) : (s.decideFixes hdg fresh).1.vault = s.vault := by
  refine (vault_foldl _ (fun _ _ => vault_updRf _ _ _) _).trans ?_
  refine foldl_keeps (fun q : State × List FusEntry => q.1.vault = s.vault) _ fresh _ rfl fun q f _ h => ?_
  dsimp only
  split
  · exact h
  · simpa using h
  · simpa using h
  · split <;> simpa using h

@[simp] theorem vault_waveFrame (tel) : (s.waveFrame tel).vault = s.vault := by
  unfold State.waveFrame
  dsimp only
  simp [↓vault_ite, ↓vault_with]

@[simp] theorem vault_fusOutput : s.fusOutput.vault = s.vault := by simp [State.fusOutput]

@[simp] theorem vault_posAccepted : s.posAccepted.vault = s.vault := by simp [State.posAccepted]

@[simp] theorem vault_hdgAccepted (psi) : (s.hdgAccepted psi).vault = s.vault := (rfl)

@[simp] theorem vault_endUpdate (used) : (s.endUpdate used).vault = s.vault := by simp [State.endUpdate]

@[simp] theorem vault_fusAbort : s.fusAbort.vault = s.vault := by simp [State.fusAbort]

@[simp] theorem vault_inject : s.inject.vault = s.vault := by simp [State.inject]

@[simp] theorem vault_vesselModel (x) : (s.vesselModel x).vault = s.vault := by simp [State.vesselModel]

@[simp] theorem vault_keepFrame (inst x) : (s.keepFrame inst x).vault = s.vault := by simp [State.keepFrame]

@[simp] theorem vault_fusStop : s.fusStop.vault = s.vault := (rfl)

@[simp] theorem vault_updGnb (f) : (s.updGnb f).vault = s.vault := (rfl)

@[simp] theorem vault_setAnt (a st) : (s.setAnt a st).vault = s.vault := by simp [State.setAnt]

@[simp] theorem vault_antCurrent (a ma) : (s.antCurrent a ma).vault = s.vault := (rfl)

@[simp] theorem vault_setSupply (a x) : (s.setSupply a x).vault = s.vault := (rfl)

@[simp] theorem vault_antWrite (a v) : (s.antWrite a v).vault = s.vault := by simp [State.antWrite]

@[simp] theorem vault_acqEnd : s.acqEnd.vault = s.vault := (rfl)

@[simp] theorem vault_acqNext (q) : (s.acqNext q).vault = s.vault := by simp [State.acqNext]

@[simp] theorem vault_updChan (c f) : (s.updChan c f).vault = s.vault := (rfl)

@[simp] theorem vault_setChan (c st) : (s.setChan c st).vault = s.vault := (rfl)

@[simp] theorem vault_chcfgWrite (c v) : (s.chcfgWrite c v).vault = s.vault := by simp [State.chcfgWrite]

@[simp] theorem vault_chloopWrite (c v) : (s.chloopWrite c v).vault = s.vault := by simp [State.chloopWrite]

@[simp] theorem vault_acqctlWrite (v) : (s.acqctlWrite v).vault = s.vault := by simp [State.acqctlWrite]

@[simp] theorem vault_cn0minWrite (v) : (s.cn0minWrite v).vault = s.vault := by simp [State.cn0minWrite]

@[simp] theorem vault_routeDrop (n) : (s.routeDrop n).vault = s.vault := (rfl)

@[simp] theorem vault_updTel (k f) : (s.updTel k f).vault = s.vault := (rfl)

@[simp] theorem vault_deliver (k c) : (s.deliver k c).vault = s.vault := by simp [State.deliver]

@[simp] theorem vault_compareCopy (k d c) : (s.compareCopy k d c).vault = s.vault := by simp [State.compareCopy]

@[simp] theorem vault_putWindow (k w) : (s.putWindow k w).vault = s.vault := by simp [State.putWindow]

@[simp] theorem vault_lateCopy (k c) : (s.lateCopy k c).vault = s.vault := by simp [State.lateCopy]

@[simp] theorem vault_duplicateAddress (port) : (s.duplicateAddress port).vault = s.vault :=
  (vault_record _ _ _ _).trans ((vault_addHealth ((s.setBitR Reg.SYS_STK 5).setBitR Reg.ETH_STK 4) .dupAddr).trans rfl)

@[simp] theorem vault_beacon (c) : (s.beacon c).vault = s.vault := by simp [State.beacon]

@[simp] theorem vault_publishTelegram (stream safe auth seq stamp secl payload) :
    (s.publishTelegram stream safe auth seq stamp secl payload).vault = s.vault := by
  simp [State.publishTelegram]

@[simp] theorem vault_sendFrame (n type payload) : (s.sendFrame n type payload).vault = s.vault := (rfl)

@[simp] theorem vault_sendBoth (type payload) : (s.sendBoth type payload).vault = s.vault := by simp [State.sendBoth]

@[simp] theorem vault_takeFrame (n type f) : (s.takeFrame n type f).1.vault = s.vault := by
  unfold State.takeFrame
  repeat' split
  all_goals simp

@[simp] theorem vault_notePaths (ks) : (s.notePaths ks).vault = s.vault := by simp [State.notePaths]

@[simp] theorem vault_request : s.request.vault = s.vault := (rfl)

@[simp] theorem vault_arbitrate : s.arbitrate.vault = s.vault := by simp [State.arbitrate]

@[simp] theorem vault_tookOver : s.tookOver.vault = s.vault := by simp [State.tookOver]

@[simp] theorem vault_handoverOutcome (ok stopEl) : (s.handoverOutcome ok stopEl).vault = s.vault := by
  unfold State.handoverOutcome
  split
  · rfl
  · split
    · rfl
    · split
      · rfl
      · exact vault_record _ _ _ _

@[simp] theorem vault_handoverDone (rev) : (s.handoverDone rev).vault = s.vault := by simp [State.handoverDone]

@[simp] theorem vault_takeArmed : s.takeArmed.vault = s.vault := by simp [State.takeArmed]

@[simp] theorem vault_releaseSeen : s.releaseSeen.vault = s.vault := by
  unfold State.releaseSeen
  split <;> simp

@[simp] theorem vault_sendControl (cmd g tid seq arg result) : (s.sendControl cmd g tid seq arg result).vault = s.vault := by
  simp [State.sendControl]

@[simp] theorem vault_startHandover (rev) : (s.startHandover rev).vault = s.vault := by simp [State.startHandover]

@[simp] theorem vault_firstCopy (lane key) : (s.firstCopy lane key).1.vault = s.vault := by
  unfold State.firstCopy
  split <;> simp

@[simp] theorem vault_takeControl (lane cmd f) : (s.takeControl lane cmd f).1.vault = s.vault := by
  unfold State.takeControl
  have h := vault_takeFrame s lane 0x20 f
  revert h
  generalize s.takeFrame lane 0x20 f = r
  intro h
  obtain ⟨u, p⟩ := r
  cases p with
  | none => exact h
  | some p =>
    have h' := vault_firstCopy u lane [(readControl p).cmd, (readControl p).group, (readControl p).tid, (readControl p).seq]
    dsimp only at h ⊢
    split
    · exact h'.trans h
    · exact h

@[simp] theorem vault_horeqWrite (v) : (s.horeqWrite v).vault = s.vault := by simp [State.horeqWrite]

@[simp] theorem vault_startupRequest : s.startupRequest.vault = s.vault := by simp [State.startupRequest]

@[simp] theorem vault_unhealthyStop : s.unhealthyStop.vault = s.vault := by simp [State.unhealthyStop]

@[simp] theorem vault_releaseStop (q) : (s.releaseStop q).vault = s.vault := by
  unfold State.releaseStop
  split <;> simp

@[simp] theorem vault_pairStop (g seq) : (s.pairStop g seq).vault = s.vault := by
  unfold State.pairStop
  dsimp only
  repeat' split
  all_goals simp

@[simp] theorem vault_revertCheck : s.revertCheck.vault = s.vault := by simp [State.revertCheck]

@[simp] theorem vault_placeEpoch (e) : (s.placeEpoch e).vault = s.vault := by simp [State.placeEpoch]

@[simp] theorem vault_mirrorStop (g seq pos held regs outs) : (s.mirrorStop g seq pos held regs outs).vault = s.vault := by
  simp [State.mirrorStop]

@[simp] theorem vault_closeEpoch (g seq) : (s.closeEpoch g seq).vault = s.vault := by
  unfold State.closeEpoch
  rw [vault_foldl, vault_updPair]
  intro u n
  split <;> simp

@[simp] theorem vault_discardEpoch (g seq cause) : (s.discardEpoch g seq cause).vault = s.vault := by simp [State.discardEpoch]

@[simp] theorem vault_endCopy (n g seq crc) : (s.endCopy n g seq crc).vault = s.vault := by
  unfold State.endCopy
  dsimp only
  repeat' split
  all_goals simp

@[simp] theorem vault_newEpoch (g seq len) : (s.newEpoch g seq len).vault = s.vault := by simp [State.newEpoch]

@[simp] theorem vault_decideEpoch (c commit) : (s.decideEpoch c commit).vault = s.vault := by simp [State.decideEpoch]

@[simp] theorem vault_alignSeq (g seq pos) : (s.alignSeq g seq pos).1.vault = s.vault := by
  unfold State.alignSeq
  dsimp only
  repeat' split
  all_goals simp

@[simp] theorem vault_compareDigests (g seq own din dout scrc) :
    (s.compareDigests g seq own din dout scrc).1.vault = s.vault := by
  unfold State.compareDigests
  dsimp only
  repeat' split
  all_goals simp

@[simp] theorem vault_setTxn (g t) : (s.setTxn g t).vault = s.vault := (rfl)

@[simp] theorem vault_txStat (g tid st cause) : (s.txStat g tid st cause).vault = s.vault := (rfl)

@[simp] theorem vault_txnWrite (v) : (s.txnWrite v).vault = s.vault := by simp [State.txnWrite]

@[simp] theorem vault_txnDecide (g) : (s.txnDecide g).vault = s.vault := by
  unfold State.txnDecide
  dsimp only
  repeat' split
  all_goals simp

@[simp] theorem vault_txnPrepare (g seq ok held set) : (s.txnPrepare g seq ok held set).vault = s.vault := by
  unfold State.txnPrepare
  split <;> simp

@[simp] theorem vault_txnEnd (g) : (s.txnEnd g).1.vault = s.vault := by
  unfold State.txnEnd
  repeat' split
  all_goals simp

@[simp] theorem vault_takeover : s.takeover.vault = s.vault := by simp [State.takeover]

@[simp] theorem vault_refreshInputs : s.refreshInputs.vault = s.vault := by simp [State.refreshInputs]

@[simp] theorem vault_setDiag (n d) : (s.setDiag n d).vault = s.vault := by simp [State.setDiag]

@[simp] theorem vault_inputEvent (n level) : (s.inputEvent n level).vault = s.vault := by simp [State.inputEvent]

@[simp] theorem vault_takeLevel (n lev edge multi first at_) : (s.takeLevel n lev edge multi first at_).vault = s.vault := by
  simp [State.takeLevel]

@[simp] theorem vault_inputFrame (g first w start) : (s.inputFrame g first w start).vault = s.vault := by simp [State.inputFrame]

@[simp] theorem vault_outReport (k what) : (s.outReport k what).vault = s.vault := by simp [State.outReport]

@[simp] theorem vault_outputFrame (w) : (s.outputFrame w).vault = s.vault := by simp [State.outputFrame]

@[simp] theorem vault_startPulse (k width) : (s.startPulse k width).vault = s.vault := by simp [State.startPulse]

@[simp] theorem vault_loopFrame (w) : (s.loopFrame w).vault = s.vault := by simp [State.loopFrame]

@[simp] theorem vault_updSide (g f) : (s.updSide g f).vault = s.vault := (rfl)

@[simp] theorem vault_upFrame (g w start) : (s.upFrame g w start).vault = s.vault := by
  unfold State.upFrame
  split <;> simp

@[simp] theorem vault_downFrame (g w) : (s.downFrame g w).vault = s.vault := by simp [State.downFrame]

@[simp] theorem vault_linkDown (g) : (s.linkDown g).vault = s.vault := by
  unfold State.linkDown
  split <;> simp

@[simp] theorem vault_orstWrite (v) : (s.orstWrite v).vault = s.vault := by simp [State.orstWrite]

@[simp] theorem vault_loopReport (c pos n) : (s.loopReport c pos n).vault = s.vault := by simp [State.loopReport]

@[simp] theorem vault_updEvr (f) : (s.updEvr f).vault = s.vault := (rfl)

@[simp] theorem vault_fillSlots (seq r) : (s.fillSlots seq r).vault = s.vault := by simp [State.fillSlots]

@[simp] theorem vault_intakeLeft (part) : (s.intakeLeft part).vault = s.vault := by
  simp [State.intakeLeft]

@[simp] theorem vault_writeRecord (r) : (s.writeRecord r).vault = s.vault := by simp [State.writeRecord]

@[simp] theorem vault_loseRecord (r) : (s.loseRecord r).vault = s.vault := by simp [State.loseRecord]

@[simp] theorem vault_areaDel (area seq) : (s.areaDel area seq).vault = s.vault := by
  unfold State.areaDel
  split <;> simp

@[simp] theorem vault_curWrite (p v) : (s.curWrite p v).vault = s.vault := by simp [State.curWrite]

@[simp] theorem vault_frelWrite (v) : (s.frelWrite v).vault = s.vault := by simp [State.frelWrite]

@[simp] theorem vault_updBoot {f : Boot → Boot} (h : (f s.boot).flash = s.boot.flash) : (s.updBoot f).vault = s.vault := by
  simp [State.vault, h]

@[simp] theorem vault_noteValid (slot) : (s.noteValid slot).vault = s.vault := by simp [State.noteValid]

@[simp] theorem vault_serviceOnly : s.serviceOnly.vault = s.vault := by simp [State.serviceOnly]

@[simp] theorem vault_chooseImage (slot fallback) : (s.chooseImage slot fallback).vault = s.vault := by
  unfold State.chooseImage
  simp

@[simp] theorem vault_orderlyReset (cause) : (s.orderlyReset cause).vault = s.vault := by
  unfold State.orderlyReset
  split <;> simp

@[simp] theorem vault_immediateReset (cause) : (s.immediateReset cause).vault = s.vault := (rfl)

@[simp] theorem vault_rstOrderly (p go code) : (s.rstOrderly p go code).vault = s.vault := by simp [State.rstOrderly]

@[simp] theorem vault_rstImmediate (p go code) : (s.rstImmediate p go code).vault = s.vault := by simp [State.rstImmediate]

@[simp] theorem vault_trainLanes : s.trainLanes.vault = s.vault := by simp [State.trainLanes]

@[simp] theorem vault_flushHeld : s.flushHeld.vault = s.vault := by
  unfold State.flushHeld
  extract_lets -lift +onlyGivenNames recs s1 s2 s3 s4
  have h2 : s2.vault = s.vault := by simp [s2, s1]
  clear_value s2
  have h3 : s3.vault = s.vault := by
    unfold s3
    split
    · extract_lets s5 s6
      have h6 : s6.vault = s2.vault := by simp [s6, s5]
      clear_value s6
      simp [h6, h2]
    · exact h2
  clear_value s3
  simp [s4, h3]

@[simp] theorem vault_takeAddress (a) : (s.takeAddress a).vault = s.vault := by simp [State.takeAddress]

@[simp] theorem vault_noAddress : s.noAddress.vault = s.vault := by simp [State.noAddress]

@[simp] theorem vault_envRange (k) : (s.envRange k).vault = s.vault := by
  unfold State.envRange
  simp

@[simp] theorem vault_noteFeed (feed cv) : (s.noteFeed feed cv).vault = s.vault := by simp [State.noteFeed]

@[simp] theorem vault_noteTemp (die pkg) : (s.noteTemp die pkg).vault = s.vault := (rfl)

@[simp] theorem vault_marginWrite (v) : (s.marginWrite v).vault = s.vault := by simp [State.marginWrite]

@[simp] theorem vault_clearBlock (b) : (s.clearBlock b).vault = s.vault := by
  unfold State.clearBlock
  dsimp only
  repeat' split
  all_goals simp [↓vault_with]

@[simp] theorem vault_pwrOffWrite (v) : (s.pwrOffWrite v).vault = s.vault := by
  unfold State.pwrOffWrite
  simp

@[simp] theorem vault_updSer (k f) : (s.updSer k f).vault = s.vault := (rfl)

@[simp] theorem vault_serEndMessage (k m) : (s.serEndMessage k m).vault = s.vault := (rfl)

@[simp] theorem vault_serStatus (k st) : (s.serStatus k st).vault = s.vault := by
  unfold State.serStatus
  split <;> simp

@[simp] theorem vault_serEnd (k m st) : (s.serEnd k m st).vault = s.vault := by simp [State.serEnd]

@[simp] theorem vault_serPublish (k g v) : (s.serPublish k g v).vault = s.vault := by
  unfold State.serPublish
  dsimp only
  simp [↓vault_ite, ↓vault_with]

@[simp] theorem vault_serStale (g) : (s.serStale g).vault = s.vault := by simp [State.serStale]

@[simp] theorem vault_serOff (k) : (s.serOff k).vault = s.vault := by simp [State.serOff]

@[simp] theorem vault_updEnc (e f) : (s.updEnc e f).vault = s.vault := (rfl)

@[simp] theorem vault_encFault (e b) : (s.encFault e b).vault = s.vault := by simp [State.encFault]

@[simp] theorem vault_encValid (e) : (s.encValid e).vault = s.vault := by simp [State.encValid]

@[simp] theorem vault_encEnable (e) : (s.encEnable e).vault = s.vault := by simp [State.encEnable]

@[simp] theorem vault_encVelocity (e p) : (s.encVelocity e p).2.vault = s.vault := by
  unfold State.encVelocity
  extract_lets -lift +onlyGivenNames vn
  split
  · rfl
  · extract_lets -lift +onlyGivenNames dt
    split
    · exact vault_freeValue s
    · rfl

@[simp] theorem vault_encDeliver (e p t) : (s.encDeliver e p t).vault = s.vault := by simp [State.encDeliver]

@[simp] theorem vault_encHomeWrite (e v) : (s.encHomeWrite e v).vault = s.vault := by simp [State.encHomeWrite]

@[simp] theorem vault_trigTake (k) : (s.trigTake k).vault = s.vault := by
  unfold State.trigTake
  split <;> rfl

@[simp] theorem vault_trigAct (k) : (s.trigAct k).vault = s.vault := by
  unfold State.trigAct
  extract_lets a d
  generalize fld a 23 20 = n
  split <;> simp

@[simp] theorem vault_latchRead (k a base n) : (s.latchRead k a base n).2.vault = s.vault := by
  unfold State.latchRead
  extract_lets fresh
  have h : fresh.2.vault = s.vault := rfl
  clear_value fresh
  split
  · split
    · exact h
    · rfl
  · exact h

@[simp] theorem vault_readPort (p a) : (s.readPort p a).2.vault = s.vault := by
  unfold State.readPort
  split <;> simp

@[simp] theorem vault_plctlWrite (p v) : (s.plctlWrite p v).vault = s.vault := by
  unfold State.plctlWrite
  extract_lets m per
  split
  · exact vault_partyEsf s _ _
  · rfl

@[simp] theorem vault_cpdiscWrite (v) : (s.cpdiscWrite v).vault = s.vault := by simp [State.cpdiscWrite]

@[simp] theorem vault_clearMax (c) : (s.clearMax c).vault = s.vault := (rfl)

@[simp] theorem vault_bootWrite (p v) : (s.bootWrite p v).vault = s.vault := by
  unfold State.bootWrite
  split <;> simp

@[simp] theorem vault_rstWrite (p v) : (s.rstWrite p v).vault = s.vault := by simp [State.rstWrite]

@[simp] theorem vault_cpstatWrite (v) : (s.cpstatWrite v).vault = s.vault := (rfl)

@[simp] theorem vault_plainWrite (p a v) : (s.plainWrite p a v).vault = s.vault := by
  unfold State.plainWrite
  split <;> simp

@[simp] theorem vault_pokeStaged (p a v) : (s.pokeStaged p a v).vault = s.vault := by simp [State.pokeStaged]

@[simp] theorem vault_doGet (e d a) : (s.doGet e d a).vault = s.vault := by simp [State.doGet]

@[simp] theorem vault_doTimeout (e read w a) : (s.doTimeout e read w a).vault = s.vault := by simp [State.doTimeout]

@[simp] theorem vault_snapPort (k j) : (s.snapPort k j).vault = s.vault := by simp [State.snapPort]

@[simp] theorem vault_updSched (f) : (s.updSched f).vault = s.vault := (rfl)

@[simp] theorem vault_moveClause (k d e) : (s.moveClause k d e).vault = s.vault := by
  unfold State.moveClause
  extract_lets old s1
  have h1 : s1.vault = s.vault := vault_updSched s _
  clear_value s1
  split
  · exact h1
  · exact (vault_foldl s1 (fun u b => by split <;> simp) _).trans h1

@[simp] theorem vault_moveCluster (ep c dest) : (s.moveCluster ep c dest).1.vault = s.vault := by
  unfold State.moveCluster
  extract_lets -lift +onlyGivenNames old ms
  split
  · rfl
  · exact (vault_record _ _ _ _).trans (vault_foldl _ (fun u d => vault_moveClause u _ _ _) _)

@[simp] theorem vault_moveSlot (ep n lane) : (s.moveSlot ep n lane).vault = s.vault := by simp [State.moveSlot]

@[simp] theorem vault_applyMoves (ep l) : (s.applyMoves ep l).1.vault = s.vault :=
  foldl_keeps (fun q : State × Bool => q.1.vault = s.vault) _ l _ rfl fun q m _ h => by simpa using h

@[simp] theorem vault_replaceDue (ep) : (s.replaceDue ep).1.vault = s.vault := by
  refine foldl_keeps (fun q : State × Bool => q.1.vault = s.vault) _ _ _ rfl fun q c _ h => ?_
  dsimp only
  split <;> simpa using h

@[simp] theorem vault_rescueClusters (ep lock) : (s.rescueClusters ep lock).1.vault = s.vault := by simp [State.rescueClusters]

@[simp] theorem vault_rescueSlots (ep) : (s.rescueSlots ep).1.vault = s.vault := by
  unfold State.rescueSlots
  dsimp only
  simp [↓vault_foldl, ↓vault_with]

@[simp] theorem vault_tallyStop : s.tallyStop.vault = s.vault := by simp [State.tallyStop]

@[simp] theorem vault_closePeriod : s.closePeriod.vault = s.vault := by
  unfold State.closePeriod
  extract_lets per show_ held s1 s2 src s3
  clear_value per show_ held
  have h1 : s1.vault = s.vault := vault_foldl s (fun u e => (vault_updEng _ _ _).trans (vault_setReg u _ _)) _
  clear_value s1
  have h2 : s2.vault = s1.vault := vault_foldl s1 (fun u l => vault_setReg u _ _) _
  clear_value s2
  have h3 : s3.vault = s2.vault := rfl
  rw [vault_updSched, h3, h2, h1]

@[simp] theorem vault_evaluatePlacement (g ep) : (s.evaluatePlacement g ep).1.vault = s.vault := by
  unfold State.evaluatePlacement
  extract_lets -lift +onlyGivenNames ctl
  split
  · rfl
  · extract_lets -lift +onlyGivenNames s1 n l1 l2 r s2 l3
    have h2 : s2.vault = s.vault := (vault_applyMoves s1 ep _).trans (vault_closePeriod s)
    clear_value s2
    exact (vault_foldl s2 (fun u m => vault_moveSlot u _ _ _) _).trans h2

@[simp] theorem vault_migrate (g) : (s.migrate g).vault = s.vault := by simp [State.migrate]

@[simp] theorem vault_initialHosts : s.initialHosts.vault = s.vault := by simp [State.initialHosts]

@[simp] theorem vault_storeStaged (a v) : (s.storeStaged a v).vault = s.vault := by
  unfold State.storeStaged
  split <;> simp

@[simp] theorem vault_storeSet (l) : (s.storeSet l).vault = s.vault := by simp [State.storeSet]

@[simp] theorem vault_routeHook (old : State) ( n) : (State.routeHook old s n).vault = s.vault := by simp [State.routeHook]

@[simp] theorem vault_compareHook (old : State) ( k) : (State.compareHook old s k).vault = s.vault := by simp [State.compareHook]

@[simp] theorem vault_groupHook (old : State) ( g) : (State.groupHook old s g).vault = s.vault := by simp [State.groupHook]

@[simp] theorem vault_triggerHook (old : State) ( c) : (State.triggerHook old s c).vault = s.vault := by simp [State.triggerHook]

@[simp] theorem vault_clauseHook (old : State) ( c) : (State.clauseHook old s c).vault = s.vault := by simp [State.clauseHook]

@[simp] theorem vault_axisHook (old : State) ( n) : (State.axisHook old s n).vault = s.vault := by simp [State.axisHook]

@[simp] theorem vault_hookCore (old : State) ( a) : (State.hookCore old s a).vault = s.vault := by simp [State.hookCore]

@[simp] theorem vault_slotHook (old : State) ( n) : (State.slotHook old s n).vault = s.vault := by simp [State.slotHook]

@[simp] theorem vault_hookLpe (old : State) ( a) : (State.hookLpe old s a).vault = s.vault := by simp [State.hookLpe]

@[simp] theorem vault_tmbHook (old : State) ( a) : (State.tmbHook old s a).vault = s.vault := by simp [State.tmbHook]

@[simp] theorem vault_trigHook (k) : (s.trigHook k).vault = s.vault := (rfl)

@[simp] theorem vault_mirrorHook (old : State) ( g) : (State.mirrorHook old s g).vault = s.vault := by simp [State.mirrorHook]

@[simp] theorem vault_safOutHook (old : State) ( k) : (State.safOutHook old s k).vault = s.vault := by simp [State.safOutHook]

@[simp] theorem vault_watchHook (old : State) ( a) : (State.watchHook old s a).vault = s.vault := by simp [State.watchHook]

@[simp] theorem vault_hookPair (old : State) ( a) : (State.hookPair old s a).vault = s.vault := by simp [State.hookPair]

@[simp] theorem vault_chainHook (old : State) ( c) : (State.chainHook old s c).vault = s.vault := by simp [State.chainHook]

@[simp] theorem vault_wakeKept : s.wakeKept.vault = s.vault := by simp [State.wakeKept]

@[simp] theorem vault_axisSets (l) : (s.axisSets l).vault = s.vault := by simp [State.axisSets]

@[simp] theorem vault_endRunning (g) : (s.endRunning g).vault = s.vault := by
  refine vault_foldl s (fun u e => ?_) _
  split <;> simp

@[simp] theorem vault_dropReady (g) : (s.dropReady g).vault = s.vault := by simp [State.dropReady]

@[simp] theorem vault_noteConflict (g c) : (s.noteConflict g c).vault = s.vault := by simp [State.noteConflict]

@[simp] theorem vault_countCommit (g) : (s.countCommit g).vault = s.vault := (rfl)

@[simp] theorem vault_checkSet (base : State) (g l) : (s.checkSet base g l).1.vault = s.vault := by
  unfold State.checkSet
  split
  · rfl
  · split <;> simp

@[simp] theorem vault_settleSet (g) : (s.settleSet g).1.vault = s.vault := by
  have h := vault_txnEnd s g
  unfold State.settleSet
  generalize s.txnEnd g = r at h
  obtain ⟨u, frozen⟩ := r
  exact (vault_checkSet u _ _ _).trans h

@[simp] theorem vault_publishWrite (g w) : (s.publishWrite g w).vault = s.vault := by simp [State.publishWrite]

@[simp] theorem vault_advanceN (g) : (s.advanceN g).1.vault = s.vault := by simp [State.advanceN]

@[simp] theorem vault_loadValue (a v) : (s.loadValue a v).vault = s.vault := by
  unfold State.loadValue
  split <;> simp

@[simp] theorem vault_loadCode (e ws) : (s.loadCode e ws).vault = s.vault := (rfl)

@[simp] theorem vault_soloStart : s.soloStart.vault = s.vault := by simp [State.soloStart]

@[simp] theorem vault_waitExpired (e r q) : (s.waitExpired e r q).vault = s.vault := by
  unfold State.waitExpired
  split <;> simp

@[simp] theorem vault_waitDone (e r q) : (s.waitDone e r q).vault = s.vault := by
  unfold State.waitDone
  repeat' split
  all_goals simp

@[simp] theorem vault_startWait (e timeout q) : (s.startWait e timeout q).1.vault = s.vault := by
  unfold State.startWait
  split
  · rfl
  · split <;> simp

@[simp] theorem vault_unwait (e) : (s.unwait e).vault = s.vault := (rfl)

@[simp] theorem vault_engineHealth : s.engineHealth.vault = s.vault := by simp [State.engineHealth]

@[simp] theorem vault_retireEngine (e) : (s.retireEngine e).vault = s.vault := (rfl)

@[simp] theorem vault_bumpDiv (p) : (s.bumpDiv p).vault = s.vault := by simp [State.bumpDiv]

@[simp] theorem vault_updPairEngines (p f) : (s.updPairEngines p f).vault = s.vault := (rfl)

@[simp] theorem vault_dropHeld (p) : (s.dropHeld p).vault = s.vault := (rfl)

@[simp] theorem vault_loadInto (e f v) : (s.loadInto e f v).vault = s.vault := by
  unfold State.loadInto
  split <;> simp

@[simp] theorem vault_doLoad (e f wa u d upset) : (s.doLoad e f wa u d upset).vault = s.vault := by simp [State.doLoad]

@[simp] theorem vault_reply (session tag cmd st data) : (s.reply session tag cmd st data).vault = s.vault := by simp [State.reply]

@[simp] theorem vault_raise (session tok) : (s.raise session tok).1.vault = s.vault := by
  unfold State.raise
  dsimp only
  repeat' split
  all_goals simp

@[simp] theorem vault_clearRecorder (token client) : (s.clearRecorder token client).vault = s.vault := by
  simp [State.clearRecorder]

end

end Sys2Proof.Machine
end

section
/-! Operations that write to the byte stores, or carry out an operation given to them: the queue stays, and byte stores in
canonical form stay so. -/
namespace Sys2Proof.Machine

/-- The byte stores of a vault are canonical. -/
def VaultWf (a : Vault) : Prop :=
  cellsWf a.2.1 = true ∧ cellsWf a.2.2.1 = true ∧ cellsWf a.2.2.2 = true

/-- The queue stays, and byte stores in canonical form stay so. -/
def Intact (a b : Vault) : Prop := b.1 = a.1 ∧ (VaultWf a → VaultWf b)

@[simp] theorem Intact.refl (a) : Intact a a := ⟨rfl, id⟩

theorem Intact.trans {a b c} (h : Intact a b) (k : Intact b c) : Intact a c := ⟨k.1.trans h.1, k.2 ∘ h.2⟩

@[simp] theorem intact_ite (p : Prop) [Decidable p] (a b c) :
    Intact a (if p then b else c) ↔ if p then Intact a b else Intact a c :=
  iff_of_eq (apply_ite (Intact a) p b c)

/-- A fold keeps what every step keeps. -/
theorem intact_foldl {α : Type} {f : State → α → State} {v0 : Vault} {s : State} (l : List α) (hf : ∀ u x, Intact u.vault (f u x).vault)
    (h : Intact v0 s.vault) : Intact v0 (l.foldl f s).vault :=
  foldl_keeps (fun t => Intact v0 t.vault) f l s h fun u x _ hu => hu.trans (hf u x)

section
variable {v0 : Vault} {s : State}

/-! ### What carries out an operation given to it -/

@[simp] theorem intact_byParty {p act} (hact : ∀ u, Intact u.vault (act u).vault) (h : Intact v0 s.vault) :
    Intact v0 (s.byParty p act).vault := by
  unfold State.byParty
  split
  · exact Intact.trans (by simpa using h) (hact _)
  · exact h

@[simp] theorem intact_portWrite {p q act} (hact : ∀ u, Intact u.vault (act u).vault) (h : Intact v0 s.vault) :
    Intact v0 (s.portWrite p q act).vault := by
  refine intact_byParty (fun u => ?_) h
  split
  · simp
  · exact hact u

@[simp] theorem intact_retire {e n act} (hact : ∀ u, Intact u.vault (act u).1.vault) (h : Intact v0 s.vault) :
    Intact v0 (s.retire e n act).vault := by
  have h1 : Intact v0 (act s).1.vault := h.trans (hact s)
  unfold State.retire
  split
  · exact h
  · split
    · simpa using h
    · dsimp only
      split
      · simpa using h
      · exact h1
      · simpa using h1
      · split <;> simpa using h1
      · split <;> simpa using h1

@[simp] theorem intact_issue {x wf off words cyc act} (hact : ∀ u, Intact u.vault (act u).1.vault) (h : Intact v0 s.vault) :
    Intact v0 (s.issue x wf off words cyc act).vault := by
  unfold State.issue
  dsimp only
  split
  · exact h
  · simp [h, hact]

@[simp] theorem intact_issue1 {x wf cyc act} (hact : ∀ u, Intact u.vault (act u).vault) (h : Intact v0 s.vault) :
    Intact v0 (s.issue1 x wf cyc act).vault := intact_issue hact h

@[simp] theorem intact_needLevel {n act lv} (hact : ∀ u, Intact u.vault (act u).1.vault) (h : Intact v0 s.vault) :
    Intact v0 (needLevel n act s lv).1.vault := by
  unfold needLevel
  split
  · exact h
  · exact h.trans (hact s)

@[simp] theorem intact_onSession {k tag cmd act} (hact : ∀ u lv, Intact u.vault (act u lv).1.vault) (h : Intact v0 s.vault) :
    Intact v0 (s.onSession k tag cmd act).vault := by
  unfold State.onSession
  split
  · simpa using h
  · dsimp only
    rw [vault_reply]
    exact Intact.trans (by simpa using h) (hact _ _)


@[simp] theorem intact_storeBytes (h : Intact v0 s.vault) (p bs) : Intact v0 (s.storeBytes p bs).vault :=
  h.trans ⟨rfl, fun hw => ⟨cellsWf_cellsPut _ _ _ hw.1, hw.2⟩⟩

@[simp] theorem intact_storeWords (h : Intact v0 s.vault) (a ws) : Intact v0 (s.storeWords a ws).vault := by
  simp [State.storeWords, h]

@[simp] theorem intact_applyStep (h : Intact v0 s.vault) (old boundary d) : Intact v0 (s.applyStep old boundary d).vault := by
  unfold State.applyStep
  extract_lets -lift +onlyGivenNames t' jump s1 src s2 s3 s4 s5
  have h5 : s5.vault = s.vault := by
    have h2 : s2.vault = s.vault := rfl
    clear_value s2
    simp [s5, s4, s3, h2]
  clear_value s5
  split
  · simp [h5, h]
  · dsimp only
    split
    · refine intact_foldl _ (fun u c => ?_) (by simp [h5, h])
      split
      · exact .refl _
      · simp
    · simp [h5, h]

@[simp] theorem intact_tbcClock (h : Intact v0 s.vault) : Intact v0 s.tbcClock.vault := by
  unfold State.tbcClock
  dsimp only
  repeat' split
  all_goals simp [h]

@[simp] theorem intact_releaseStores (h : Intact v0 s.vault) : Intact v0 s.releaseStores.vault := by
  refine (vault_updNow _ _).symm ▸ intact_foldl _ (fun u x => ?_) h
  simp

@[simp] theorem intact_noteHeld (h : Intact v0 s.vault) : Intact v0 s.noteHeld.vault := by simp [State.noteHeld, h]

@[simp] theorem intact_tick (h : Intact v0 s.vault) : Intact v0 s.tick.vault := by
  unfold State.tick
  dsimp only
  simp [↓vault_ite, ↓vault_with, h]

@[simp] theorem intact_ticks (n) : ∀ {s : State}, Intact v0 s.vault → Intact v0 (s.ticks n).vault := by
  induction n with
  | zero => exact fun h => h
  | succ n ih => exact fun h => ih (intact_tick h)

@[simp] theorem intact_advanceTo (h : Intact v0 s.vault) (c) : Intact v0 (s.advanceTo c).vault := by simp [State.advanceTo, h]

@[simp] theorem intact_inStep {ax0 p act} (hact : ∀ u, Intact u.vault (act u).vault) (h : Intact v0 s.vault) :
    Intact v0 (s.inStep ax0 p act).vault := by
  unfold State.inStep
  split
  · exact h.trans (hact s)
  · split
    · exact Intact.trans (by simpa using h) (hact _)
    · exact h

@[simp] theorem intact_issueAt {x wf off words cyc lead rd act} (hact : ∀ u, Intact u.vault (act u).1.vault) (h :
    Intact v0 s.vault) :
    Intact v0 (s.issueAt x wf off words cyc lead rd act).vault := by
  have hi := intact_issue (x := x) (wf := wf) (off := off) (words := words) (cyc := cyc) hact h
  have hk : ∀ c k, Intact v0 ((((s.advanceTo c).acting k).issue x wf off words cyc act).vault) := fun c k =>
    intact_issue hact (by simp [h])
  unfold State.issueAt
  dsimp only
  split
  · exact h
  · simp [h, hi, hk]

@[simp] theorem intact_decideStep (h : Intact v0 s.vault) (o) : Intact v0 (s.decideStep o).vault := by simp [State.decideStep, h]

@[simp] theorem intact_takeOffset (h : Intact v0 s.vault) (o) : Intact v0 (s.takeOffset o).vault := by simp [State.takeOffset, h]

@[simp] theorem intact_gpost (h : Intact v0 s.vault) (v) : Intact v0 (s.gpost v).vault := by simp [State.gpost, h]

@[simp] theorem intact_ptpOffset (h : Intact v0 s.vault) (p raw) : Intact v0 (s.ptpOffset p raw).vault := by
  simp [State.ptpOffset, h]

/-- R172: bulk memory takes what its bytes were written with. -/
theorem intact_dramPut (h : Intact v0 s.vault) (p : Nat) (bs : List Byte) (bad : List Nat) :
    Intact v0 ({ s with banks := { s.banks with dram := cellsPut s.banks.dram p bs, dramBad := bad } } : State).vault :=
  h.trans ⟨rfl, fun hw => ⟨hw.1, cellsWf_cellsPut _ _ _ hw.2.1, hw.2.2⟩⟩

@[simp] theorem intact_dmaMove (h : Intact v0 s.vault) (ch upset ce ue) : Intact v0 (s.dmaMove ch upset ce ue).vault := by
  unfold State.dmaMove
  extract_lets -lift +onlyGivenNames c n here
  split
  · extract_lets -lift +onlyGivenNames inSpan new src t ue s1
    have ht : Intact v0 t.vault := h
    clear_value t
    have h1 : Intact v0 s1.vault := by simp [s1, ht]
    clear_value s1
    simp [h1]
  · have h1 := vault_noteParity ((s.touch c.bank).markUpset here n upset) here n
    split
    next u bad hu =>
      rw [hu] at h1
      simp only [vault_markUpset, vault_touch] at h1
      simpa using intact_dramPut (h1 ▸ h) _ _ _
  · dsimp only
    simp [h]

@[simp] theorem intact_acceptOwn (h : Intact v0 s.vault) (o) : Intact v0 (s.acceptOwn o).vault := by simp [State.acceptOwn, h]

@[simp] theorem intact_startJob (h : Intact v0 s.vault) (j bs) : Intact v0 (s.startJob j bs).vault := by
  unfold State.startJob
  split <;> simp [h]

@[simp] theorem intact_finalOp (h : Intact v0 s.vault) (b i status) : Intact v0 (s.finalOp b i status).vault := by
  unfold State.finalOp
  repeat' split
  all_goals simp [h]

@[simp] theorem intact_skipOps (h : Intact v0 s.vault) (b) : Intact v0 (s.skipOps b).vault := by
  unfold State.skipOps
  split
  · exact h
  · refine intact_foldl _ (fun u i => ?_) h
    repeat' split
    all_goals simp

@[simp] theorem intact_jobBatchDone (h : Intact v0 s.vault) (x range) : Intact v0 (s.jobBatchDone x range).vault := by
  unfold State.jobBatchDone
  dsimp only
  repeat' split
  all_goals simp [h]

@[simp] theorem intact_completeBatch (h : Intact v0 s.vault) (b refused) : Intact v0 (s.completeBatch b refused).vault := by
  unfold State.completeBatch
  dsimp only
  repeat' split
  all_goals simp [h]

@[simp] theorem intact_settleBatch (h : Intact v0 s.vault) (b) : Intact v0 (s.settleBatch b).vault := by
  unfold State.settleBatch
  dsimp only
  repeat' split
  all_goals simp [h]

@[simp] theorem intact_deadlineBatch (h : Intact v0 s.vault) (b) : Intact v0 (s.deadlineBatch b).vault := by
  unfold State.deadlineBatch
  dsimp only
  split
  · simp [h]
  · refine intact_settleBatch (intact_foldl _ (fun u i => ?_) (by simp [h])) _
    simp

/-- Reading the operands of an operation (R170). -/
theorem vault_entryReads (l upset : List Nat) (q : State × Bool) :
    (l.foldl (fun (q : State × Bool) a =>
      let r := (q.1.markUpset a 4 upset).noteParity a 4
      (r.1, q.2 || r.2)) q).1.vault = q.1.vault :=
  foldl_keeps (fun r : State × Bool => r.1.vault = q.1.vault) _ l q rfl fun r a _ hr => by simpa using hr

@[simp] theorem intact_commitOp (h : Intact v0 s.vault) (b i x o upset) : Intact v0 (s.commitOp b i x o upset).vault := by
  unfold State.commitOp
  have h1 := vault_entryReads (entryReads o.words) upset (s, false)
  split
  next u bad hu =>
    rw [hu] at h1
    have h2 : Intact v0 u.vault := h1.symm ▸ h
    clear hu h1
    split
    · simp [h2]
    · extract_lets c z s1 s2 st s3
      have h1 : Intact v0 s1.vault := intact_foldl _ (fun u e => by simp) h2
      clear_value s1
      have h3 : Intact v0 s3.vault := by simp [s3, s2, h1]
      exact intact_settleBatch (intact_finalOp h3 _ _ _) _

@[simp] theorem intact_canPut (h : Intact v0 s.vault) (n r) : Intact v0 (s.canPut n r).vault := by simp [State.canPut, h]

@[simp] theorem intact_canRecord (h : Intact v0 s.vault) (n r) : Intact v0 (s.canRecord n r).vault := by simp [State.canRecord, h]

@[simp] theorem intact_canEnd (h : Intact v0 s.vault) (n e status cause) : Intact v0 (s.canEnd n e status cause).vault := by
  simp [State.canEnd, h]

@[simp] theorem intact_canPublish (h : Intact v0 s.vault) (g seq n image) : Intact v0 (s.canPublish g seq n image).vault := by
  simp [State.canPublish, h]

@[simp] theorem intact_canStale (h : Intact v0 s.vault) (g) : Intact v0 (s.canStale g).vault := by
  refine intact_foldl _ (fun u n => intact_foldl _ (fun u e => ?_) (.refl _)) h
  simp

@[simp] theorem intact_canOff (h : Intact v0 s.vault) (n) : Intact v0 (s.canOff n).vault := by
  refine intact_foldl _ (fun u e => ?_) h
  simp

@[simp] theorem intact_canConfigured (h : Intact v0 s.vault) (n was) : Intact v0 (s.canConfigured n was).vault := by
  simp [State.canConfigured, h]

@[simp] theorem intact_cancelWrite (h : Intact v0 s.vault) (n v) : Intact v0 (s.cancelWrite n v).vault := by
  unfold State.cancelWrite
  dsimp only
  split
  · simp [h]
  · refine intact_foldl _ (fun u e => ?_) h
    split <;> simp

@[simp] theorem intact_safIssue {x act} (hact : ∀ u, Intact u.vault (act u).vault) (h : Intact v0 s.vault) :
    Intact v0 (s.safIssue x act).vault := by
  unfold State.safIssue
  split
  · exact h
  · split
    · exact intact_issueAt (fun u => .trans (by simp) (hact _)) h
    · exact intact_issue1 (fun u => .refl _) h

@[simp] theorem intact_publishSlot (h : Intact v0 s.vault) (n u) : Intact v0 (s.publishSlot n u).vault := by
  unfold State.publishSlot
  dsimp only
  repeat' split
  all_goals simp [h]

@[simp] theorem intact_escalate (h : Intact v0 s.vault) (n) : Intact v0 (s.escalate n).vault := by simp [State.escalate, h]

@[simp] theorem intact_checkEscalate (h : Intact v0 s.vault) (n) : Intact v0 (s.checkEscalate n).vault := by
  simp [State.checkEscalate, h]

@[simp] theorem intact_sampleSlot (h : Intact v0 s.vault) (n inst) : Intact v0 (s.sampleSlot n inst).vault := by
  simp [State.sampleSlot, h]

@[simp] theorem intact_compareSamples (h : Intact v0 s.vault) (k) : Intact v0 (s.compareSamples k).vault := by
  unfold State.compareSamples
  extract_lets on late s1 hit
  have h1 : Intact v0 s1.vault := by
    simpa [s1] using h
  refine intact_foldl _ (fun u n => ?_) (intact_foldl _ (fun u n => ?_) h1)
  · simp
  · simp

@[simp] theorem intact_commitSample (h : Intact v0 s.vault) (n m r) : Intact v0 (s.commitSample n m r).vault := by
  simp [State.commitSample, h]

@[simp] theorem intact_beginPublish (h : Intact v0 s.vault) (hd r) : Intact v0 (s.beginPublish hd r).vault := by
  exact intact_startJob (by simp [h]) _ _

@[simp] theorem intact_beginIteration (h : Intact v0 s.vault) (hd r) : Intact v0 (s.beginIteration hd r).vault := by
  unfold State.beginIteration
  split
  · simp [h]
  · split
    · simp [h]
    · exact intact_startJob (by simp [h]) _ _

@[simp] theorem intact_optPublish (h : Intact v0 s.vault) (r hd) : Intact v0 (s.optPublish r hd).vault := by
  unfold State.optPublish
  split
  extract_lets ts g res outF resW resid fbout deg sum rest us blk s1 s2 s3 s4 s5 s6 s7
  have h1 : Intact v0 s1.vault := intact_storeWords h _ _
  clear_value s1
  simp [s7, s6, s5, s4, s3, s2, h1]

@[simp] theorem intact_fusPut (h : Intact v0 s.vault) (w l) : Intact v0 (s.fusPut w l).vault := by simp [State.fusPut, h]

@[simp] theorem intact_fusSubmit (h : Intact v0 s.vault) (job desc entries) : Intact v0 (s.fusSubmit job desc entries).vault := by
  simp [State.fusSubmit, h]

@[simp] theorem intact_startProp (h : Intact v0 s.vault) (x n) : Intact v0 (s.startProp x n).vault := by simp [State.startProp, h]

@[simp] theorem intact_submitUpdate (h : Intact v0 s.vault) (rows) : Intact v0 (s.submitUpdate rows).vault :=
  intact_fusSubmit (intact_fusPut (intact_fusPut (intact_fusPut (intact_fusPut (intact_fusPut h _ _) _ _) _ _) _ _) _ _) _ _ _

@[simp] theorem intact_startUpdate (h : Intact v0 s.vault) (cutoff) : Intact v0 (s.startUpdate cutoff).vault := by
  unfold State.startUpdate
  extract_lets -lift +onlyGivenNames fit odo cand s1
  have h1 : s1.vault = s.vault := by simp [s1]
  clear_value s1
  split
  next s2 pos hpos =>
    have h2 : s2.vault = s.vault := by
      refine (congrArg (fun q : State × List Fix => q.1.vault) hpos).symm.trans
        (foldl_keeps (fun q : State × List Fix => q.1.vault = s.vault) _ _ _ h1 fun q e _ hq => ?_)
      have hf : (q.1.posFix e).1.vault = s.vault := (vault_posFix _ _).trans hq
      dsimp only
      split
      · exact hf
      · simpa using hf
    clear hpos
    extract_lets -lift +onlyGivenNames hdg
    split
    next s3 a ha =>
      have h3 : s3.vault = s.vault := (congrArg (fun q => q.1.vault) ha).symm.trans ((vault_decideFixes _ _ _).trans h2)
      split
      next s4 b hb =>
        have h4 : s4.vault = s.vault := (congrArg (fun q => q.1.vault) hb).symm.trans ((vault_decideFixes _ _ _).trans h3)
        extract_lets acc rows
        clear_value rows
        split
        · simp [h4, h]
        · refine intact_submitUpdate ?_ _
          simp [h4, h]

@[simp] theorem intact_doFusUpd (h : Intact v0 s.vault) (v) : Intact v0 (s.doFusUpd v).vault := by simp [State.doFusUpd, h]

@[simp] theorem intact_frameRest (h : Intact v0 s.vault) : Intact v0 s.frameRest.vault := by simp [State.frameRest, h]

@[simp] theorem intact_fusionCapture (h : Intact v0 s.vault) (g) : Intact v0 (s.fusionCapture g).vault := by
  simp [State.fusionCapture, h]

@[simp] theorem intact_repropagate (h : Intact v0 s.vault) (x) : Intact v0 (s.repropagate x).vault := by
  simp [State.repropagate, h]

@[simp] theorem intact_fusionLoad (h : Intact v0 s.vault) : Intact v0 s.fusionLoad.vault := by
  unfold State.fusionLoad
  extract_lets -lift +onlyGivenNames c
  split
  · exact h
  · extract_lets -lift +onlyGivenNames s1 b n a len w s2 at_ nn fr age
    have h1 : Intact v0 s1.vault := by simp [s1, h]
    clear_value s1
    have h2 : Intact v0 s2.vault := by simp [s2, h1]
    clear_value s2
    split
    · simp [h2]
    · extract_lets i0 offs trk j s3 s4 s5 from_ again s6
      have h4 : Intact v0 s4.vault := intact_fusPut (by simp [s3, h2]) _ _
      clear_value s4
      refine intact_foldl _ (fun u x => ?_) ?_
      · simp
      · simp [s6, s5, trk, offs, h4]

@[simp] theorem intact_fusStart (h : Intact v0 s.vault) : Intact v0 s.fusStart.vault := by
  unfold State.fusStart
  dsimp only
  simp [↓vault_with, h]

@[simp] theorem intact_acqResult (h : Intact v0 s.vault) (q res) : Intact v0 (s.acqResult q res).vault := by
  simp [State.acqResult, h]

@[simp] theorem intact_acqStop (h : Intact v0 s.vault) : Intact v0 s.acqStop.vault := by
  unfold State.acqStop
  split <;> simp [h]

@[simp] theorem intact_acqWrite (h : Intact v0 s.vault) (p v) : Intact v0 (s.acqWrite p v).vault := by simp [State.acqWrite, h]

@[simp] theorem intact_navCounts (h : Intact v0 s.vault) (b) : Intact v0 (s.navCounts b).vault := by simp [State.navCounts, h]

@[simp] theorem intact_navBegin (h : Intact v0 s.vault) (navB b) : Intact v0 (s.navBegin navB b).vault := by
  simp [State.navBegin, h]

@[simp] theorem intact_navEntry (h : Intact v0 s.vault) (c e) : Intact v0 (s.navEntry c e).vault := by
  unfold State.navEntry
  dsimp only
  simp [↓vault_ite, h]

@[simp] theorem intact_navWrite (h : Intact v0 s.vault) (c full) : Intact v0 (s.navWrite c full).vault := by
  refine intact_foldl _ (fun u e => ?_) (by simp [h])
  simp

@[simp] theorem intact_navFullStop (h : Intact v0 s.vault) (ctl g) : Intact v0 (s.navFullStop ctl g).vault := by
  simp [State.navFullStop, h]

@[simp] theorem intact_gnbStop (h : Intact v0 s.vault) : Intact v0 s.gnbStop.vault := by simp [State.gnbStop, h]

@[simp] theorem intact_ringWrite (b base len) : ∀ {s : State} (_ :
    Intact v0 s.vault) (p ws), Intact v0 (s.ringWrite b base len p ws).vault
  | _, h, _, [] => h
  | _, h, _, _ :: ws => intact_ringWrite b base len (intact_storeWords h _ _) _ ws

@[simp] theorem intact_ringDeliver (h : Intact v0 s.vault) (n el) : Intact v0 (s.ringDeliver n el).vault := by
  unfold State.ringDeliver
  dsimp only
  split <;> simp [h]

@[simp] theorem intact_routeDeliver (h : Intact v0 s.vault) (n el) : Intact v0 (s.routeDeliver n el).vault := by
  unfold State.routeDeliver
  dsimp only
  repeat' split
  all_goals simp [h]

@[simp] theorem intact_deliverNow (h : Intact v0 s.vault) (cls idx el) : Intact v0 (s.deliverNow cls idx el).vault := by
  refine intact_foldl _ (fun u n => ?_) h
  simp

@[simp] theorem intact_queueElement (h : Intact v0 s.vault) (q el) : Intact v0 (s.queueElement q el).vault := by
  simp [State.queueElement, h]

@[simp] theorem intact_afterDelivery (h : Intact v0 s.vault) (k w d arr) : Intact v0 (s.afterDelivery k w d arr).vault := by
  simp [State.afterDelivery, h]

@[simp] theorem intact_decideWindow (h : Intact v0 s.vault) (k w) : Intact v0 (s.decideWindow k w).vault := by
  unfold State.decideWindow
  dsimp only
  repeat' split
  all_goals simp [↓vault_foldl, h]

@[simp] theorem intact_closeBelow (h : Intact v0 s.vault) (k seq) : Intact v0 (s.closeBelow k seq).vault := by
  refine intact_foldl _ (fun u n => ?_) h
  simp

@[simp] theorem intact_closeWindow (h : Intact v0 s.vault) (k w) : Intact v0 (s.closeWindow k w).vault := by
  simp [State.closeWindow, h]

@[simp] theorem intact_joinWindow (h : Intact v0 s.vault) (k w c arr) : Intact v0 (s.joinWindow k w c arr).vault := by
  unfold State.joinWindow
  dsimp only
  repeat' split
  all_goals simp [↓vault_foldl, h]

@[simp] theorem intact_openWindow (h : Intact v0 s.vault) (k c arr) : Intact v0 (s.openWindow k c arr).vault := by
  unfold State.openWindow
  split <;> simp [h]

@[simp] theorem intact_resync (h : Intact v0 s.vault) (k c) : Intact v0 (s.resync k c).vault := by
  have h1 : ∀ l : List TelWindow, Intact v0 (l.foldl (fun s w => s.closeWindow k w) s).vault := fun l =>
    intact_foldl l (fun u w => by simp) h
  unfold State.resync
  extract_lets last s1 old d s2 s3
  have h2 : Intact v0 s1.vault := h1 _
  clear_value s1
  simp [s3, s2, h2]

@[simp] theorem intact_telCopy (h : Intact v0 s.vault) (c arr) : Intact v0 (s.telCopy c arr).vault := by
  unfold State.telCopy
  dsimp only
  repeat' split
  all_goals simp [h]

@[simp] theorem intact_filterFrame (h : Intact v0 s.vault) (port f arr) : Intact v0 (s.filterFrame port f arr).vault := by
  unfold State.filterFrame
  split <;> simp [h]

/-- R551, R584: a reset clears the banks and bulk memory; the program flash stays. -/
theorem vault_restart (s : State) (cause) : (s.restart cause).vault = (s.pending, [], [], s.boot.flash) := by
  unfold State.restart
  dsimp only
  split
  · simp only [vault_record, vault_setBitR]
    rfl
  · rfl

@[simp] theorem intact_restart (h : Intact v0 s.vault) (cause) : Intact v0 (s.restart cause).vault :=
  h.trans (vault_restart s cause ▸ ⟨rfl, fun hw => ⟨rfl, rfl, hw.2.2⟩⟩)

@[simp] theorem intact_domainLost (h : Intact v0 s.vault) (d) : Intact v0 (s.domainLost d).vault := by simp [State.domainLost, h]

@[simp] theorem intact_serDeliver (h : Intact v0 s.vault) (k m) : Intact v0 (s.serDeliver k m).vault := by
  simp [State.serDeliver, h]

/-- An answer, where there is one, keeps the vault `v0` intact. -/
def IntactOpt (v0 : Vault) (o : Option State) : Prop := ∀ t, o = some t → Intact v0 t.vault

@[simp] theorem intactOpt_none : IntactOpt v0 none := fun _ h => nomatch h

@[simp] theorem intactOpt_some : IntactOpt v0 (some s) ↔ Intact v0 s.vault :=
  ⟨fun h => h s rfl, fun h _ ht => Option.some.inj ht ▸ h⟩

@[simp] theorem intactOpt_ite (p : Prop) [Decidable p] (b c) :
    IntactOpt v0 (if p then b else c) ↔ if p then IntactOpt v0 b else IntactOpt v0 c :=
  iff_of_eq (apply_ite (IntactOpt v0) p b c)

theorem intactOpt_orElse {b c : Option State} (hb : IntactOpt v0 b) (hc : IntactOpt v0 c) : IntactOpt v0 (b.orElse fun _ => c) := by
  cases b
  · exact hc
  · exact hb

theorem intactOpt_pokeCore (h : Intact v0 s.vault) (p q v) : IntactOpt v0 (s.pokeCore p q v) := by
  cases p <;> simp [State.pokeCore, h]

theorem intactOpt_pokeBlocks (h : Intact v0 s.vault) (p q v) : IntactOpt v0 (s.pokeBlocks p q v) := by
  simp [State.pokeBlocks, h]

theorem intactOpt_pokePeri (h : Intact v0 s.vault) (p q v) : IntactOpt v0 (s.pokePeri p q v) := by
  simp [State.pokePeri, h]

@[simp] theorem intact_poke (h : Intact v0 s.vault) (p q v) : Intact v0 (s.poke p q v).vault := by
  unfold State.poke
  split
  · simp [h]
  · split
    next t ht =>
      exact intactOpt_orElse (intactOpt_orElse (intactOpt_pokeCore h p q v) (intactOpt_pokeBlocks h p q v))
        (intactOpt_pokePeri h p q v) t ht
    · simp [h]

@[simp] theorem intact_writePort (h : Intact v0 s.vault) (p a v) : Intact v0 (s.writePort p a v).vault := by
  simp [State.writePort, h]

@[simp] theorem intact_getWith (h : Intact v0 s.vault) (x wf d wa k long) : Intact v0 (s.getWith x wf d wa k long).vault := by
  simp [State.getWith, h]

@[simp] theorem intact_putWith (h : Intact v0 s.vault) (x wf ws wa k long) : Intact v0 (s.putWith x wf ws wa k long).vault := by
  simp [State.putWith, h]

@[simp] theorem intact_fusHook (h : Intact v0 s.vault) (old : State) : Intact v0 (State.fusHook old s).vault := by
  simp [State.fusHook, h]

@[simp] theorem intact_hookMid (h : Intact v0 s.vault) (old : State) ( a) : Intact v0 (State.hookMid old s a).vault := by
  unfold State.hookMid
  dsimp only
  simp [↓vault_ite, ↓vault_with, h]

@[simp] theorem intact_hookPeri (h : Intact v0 s.vault) (old : State) ( a) : Intact v0 (State.hookPeri old s a).vault := by
  simp [State.hookPeri, h]

@[simp] theorem intact_hook (h : Intact v0 s.vault) (old : State) ( a) : Intact v0 (State.hook old s a).vault := by
  simp [State.hook, h]

@[simp] theorem intact_commitSet (h : Intact v0 s.vault) (l) : Intact v0 (s.commitSet l).vault := by
  have h1 : ∀ (n : State) (l : List PendWrite), Intact v0 n.vault → Intact v0 (l.foldl (fun t w => State.hook s t w.addr) n).vault := fun n l hn =>
    intact_foldl l (fun u w => by simp) hn
  unfold State.commitSet
  simp [h1, h]

@[simp] theorem intact_commitStep (h : Intact v0 s.vault) (g seq held frozen l ok) :
    Intact v0 (s.commitStep g seq held frozen l ok).vault := by
  simp [State.commitStep, h]

@[simp] theorem intact_publishItem (h : Intact v0 s.vault) (g seq pos held i) :
    Intact v0 (s.publishItem g seq pos held i).vault := by
  cases i <;> simp [State.publishItem, h]

@[simp] theorem intact_publishStep (h : Intact v0 s.vault) (g seq pos held regs outs) :
    Intact v0 (s.publishStep g seq pos held regs outs).vault := by
  refine intact_foldl _ (fun u x => ?_) h
  split <;> simp

@[simp] theorem intact_carryOut (h : Intact v0 s.vault) (g pos) : Intact v0 (s.carryOut g pos).vault := by
  unfold State.carryOut
  extract_lets seq hd s1 s2
  have h2 : Intact v0 s2.vault := by simp [s2, s1, h]
  clear_value s2 s1
  have h3 := vault_settleSet s2 g
  split
  next s3 frozen l ok hs =>
    rw [hs] at h3
    extract_lets regs outs s4 s5 nav s6 s7 s8
    have h4 : Intact v0 s4.vault := intact_publishStep (h3 ▸ h2) _ _ _ _ _ _
    have h6 : Intact v0 s6.vault := by simp [s6, s5, h4]
    have h7 : Intact v0 s7.vault := intact_commitStep h6 _ _ _ _ _ _
    clear_value s7
    simp [s8, h7]

@[simp] theorem intact_readyBlock (h : Intact v0 s.vault) (b) : Intact v0 (s.readyBlock b).vault := by
  refine intact_foldl _ (fun u x => ?_) ?_
  · simp
  · simpa using h

@[simp] theorem intact_storeOf (h : Intact v0 s.vault) (e a bs) : Intact v0 (s.storeOf e a bs).vault := by simp [State.storeOf, h]

@[simp] theorem intact_doStore (h : Intact v0 s.vault) (e f wa u d) : Intact v0 (s.doStore e f wa u d).vault := by
  simp [State.doStore, h]

end

end Sys2Proof.Machine
end

section
/-! The meanings of the commands: each answers a next state, in which the queue and the form of the byte stores are kept. -/
namespace Sys2Proof.Machine

/-- A command answers a next state, in which the queue and the form of the byte stores are kept. -/
def Answers (s : State) (o : Host.Outcome State Fault Refusal) : Prop := ∃ t, o = .next t ∧ Intact s.vault t.vault

section
variable (s : State)

@[simp] theorem answers_next (t : State) : Answers s (.next t) ↔ Intact s.vault t.vault :=
  ⟨fun ⟨_, hu, h⟩ => by cases hu; exact h, fun h => ⟨t, rfl, h⟩⟩

@[simp] theorem answers_ite (p : Prop) [Decidable p] (b c) :
    Answers s (if p then b else c) ↔ if p then Answers s b else Answers s c :=
  iff_of_eq (apply_ite (Answers s) p b c)

theorem answers_of_vault {s u : State} {o} (h : u.vault = s.vault) (k : Answers u o) : Answers s o :=
  let ⟨t, ht, hk⟩ := k
  ⟨t, ht, h ▸ hk⟩

theorem vault_of_takeFrame {s u : State} {n type : Nat} {f : List Byte} {o} (h : s.takeFrame n type f = (u, o)) : u.vault = s.vault :=
  (congrArg (fun q => q.1.vault) h).symm.trans (vault_takeFrame s n type f)

theorem vault_of_takeControl {s u : State} {lane cmd : Nat} {f : List Byte} {o} (h : s.takeControl lane cmd f = (u, o)) : u.vault = s.vault :=
  (congrArg (fun q => q.1.vault) h).symm.trans (vault_takeControl s lane cmd f)

@[simp] theorem vault_svcRead (l : List Nat) : (s.svcRead l).1.vault = s.vault := by
  induction l generalizing s with
  | nil => rfl
  | cons a l ih =>
    refine (ih _).trans ?_
    split <;> simp


@[simp] theorem answers_execAdd (x wd wa wb w) : Answers s (execAdd x wd wa wb w s) := by simp [execAdd]

@[simp] theorem answers_execSub (x wd wa wb w) : Answers s (execSub x wd wa wb w s) := by simp [execSub]

@[simp] theorem answers_execNeg (x wd wa w) : Answers s (execNeg x wd wa w s) := by simp [execNeg]

@[simp] theorem answers_execAbs (x wd wa w) : Answers s (execAbs x wd wa w s) := by simp [execAbs]

@[simp] theorem answers_execAsl (x wd wa n w) : Answers s (execAsl x wd wa n w s) := by simp [execAsl]

@[simp] theorem answers_execAsr (x wd wa n) : Answers s (execAsr x wd wa n s) := by simp [execAsr]

@[simp] theorem answers_execLsl (x wd wa n) : Answers s (execLsl x wd wa n s) := by simp [execLsl]

@[simp] theorem answers_execLsr (x wd wa n) : Answers s (execLsr x wd wa n s) := by simp [execLsr]

@[simp] theorem answers_execAnd (x wd wa wb) : Answers s (execAnd x wd wa wb s) := by simp [execAnd]

@[simp] theorem answers_execOr (x wd wa wb) : Answers s (execOr x wd wa wb s) := by simp [execOr]

@[simp] theorem answers_execXor (x wd wa wb) : Answers s (execXor x wd wa wb s) := by simp [execXor]

@[simp] theorem answers_execNot (x wd wa) : Answers s (execNot x wd wa s) := by simp [execNot]

@[simp] theorem answers_execMin (x wd wa wb) : Answers s (execMin x wd wa wb s) := by simp [execMin]

@[simp] theorem answers_execMax (x wd wa wb) : Answers s (execMax x wd wa wb s) := by simp [execMax]

@[simp] theorem answers_execCls (x wd wa) : Answers s (execCls x wd wa s) := by simp [execCls]

@[simp] theorem answers_execAddi (x wd wa k w) : Answers s (execAddi x wd wa k w s) := by simp [execAddi]

@[simp] theorem answers_execAndi (x wd wa k) : Answers s (execAndi x wd wa k s) := by simp [execAndi]

@[simp] theorem answers_execOri (x wd wa k) : Answers s (execOri x wd wa k s) := by simp [execOri]

@[simp] theorem answers_execXori (x wd wa k) : Answers s (execXori x wd wa k s) := by simp [execXori]

@[simp] theorem answers_execMovs (x wd k) : Answers s (execMovs x wd k s) := by simp [execMovs]

@[simp] theorem answers_execMovhi (x wd k) : Answers s (execMovhi x wd k s) := by simp [execMovhi]

@[simp] theorem answers_execMul (x wd wa wb sh w) : Answers s (execMul x wd wa wb sh w s) := by simp [execMul]

@[simp] theorem answers_execMac (x an wa wb w) : Answers s (execMac x an wa wb w s) := by simp [execMac]

@[simp] theorem answers_execMsu (x an wa wb w) : Answers s (execMsu x an wa wb w s) := by simp [execMsu]

@[simp] theorem answers_execAdda (x an am w) : Answers s (execAdda x an am w s) := by simp [execAdda]

@[simp] theorem answers_execSuba (x an am w) : Answers s (execSuba x an am w s) := by simp [execSuba]

@[simp] theorem answers_execAclr (x an) : Answers s (execAclr x an s) := by simp [execAclr]

@[simp] theorem answers_execMova (x wd an sh w) : Answers s (execMova x wd an sh w s) := by simp [execMova]

@[simp] theorem answers_execAload (x an wa sh) : Answers s (execAload x an wa sh s) := by simp [execAload]

@[simp] theorem answers_execSincos (x wd we wa) : Answers s (execSincos x wd we wa s) := by simp [execSincos]

@[simp] theorem answers_execAtan2 (x wd wy wx) : Answers s (execAtan2 x wd wy wx s) := by simp [execAtan2]

@[simp] theorem answers_execSqrt (x wd wa sh) : Answers s (execSqrt x wd wa sh s) := by simp [execSqrt]

@[simp] theorem answers_execRsqrt (x wd wa sh) : Answers s (execRsqrt x wd wa sh s) := by simp [execRsqrt]

@[simp] theorem answers_execCmp (x pd wa wb cc) : Answers s (execCmp x pd wa wb cc s) := by simp [execCmp]

@[simp] theorem answers_execCmpi (x pd wa cc k) : Answers s (execCmpi x pd wa cc k s) := by simp [execCmpi]

@[simp] theorem answers_execPlog (x pd pa pb op) : Answers s (execPlog x pd pa pb op s) := by simp [execPlog]

@[simp] theorem answers_execBr (x d) : Answers s (execBr x d s) := by simp [execBr]

@[simp] theorem answers_execCall (x d) : Answers s (execCall x d s) := by simp [execCall]

@[simp] theorem answers_execRet (x) : Answers s (execRet x s) := by simp [execRet]

@[simp] theorem answers_execBrt (x wa n) : Answers s (execBrt x wa n s) := by simp [execBrt]

@[simp] theorem answers_execLoop (x c len) : Answers s (execLoop x c len s) := by simp [execLoop]

@[simp] theorem answers_execLoopr (x wa len) : Answers s (execLoopr x wa len s) := by simp [execLoopr]

@[simp] theorem answers_execPeriodicTrigger (c) : Answers s (execPeriodicTrigger c s) := by simp [execPeriodicTrigger]

@[simp] theorem answers_execConjunctionReady (c) : Answers s (execConjunctionReady c s) := by simp [execConjunctionReady]

@[simp] theorem answers_execDispatch (e delay) : Answers s (execDispatch e delay s) := by
  unfold execDispatch
  dsimp only
  repeat' split
  all_goals simp [↓vault_with]

@[simp] theorem answers_execAxisTick : Answers s (execAxisTick s) := by
  unfold execAxisTick
  dsimp only
  simp [↓vault_ite, ↓vault_with]

@[simp] theorem answers_execAxisLoss (n) : Answers s (execAxisLoss n s) := by simp [execAxisLoss]

@[simp] theorem answers_execAxisRestore (n) : Answers s (execAxisRestore n s) := by simp [execAxisRestore]

@[simp] theorem answers_execTmbNsRead (p) : Answers s (execTmbNsRead p s) := by simp [execTmbNsRead]

@[simp] theorem answers_execServoOffset (src o) : Answers s (execServoOffset src o s) := by simp [execServoOffset]

@[simp] theorem answers_execTimeStep : Answers s (execTimeStep s) := by
  unfold execTimeStep
  split <;> simp

@[simp] theorem answers_execSourceLost (src) : Answers s (execSourceLost src s) := by simp [execSourceLost]

@[simp] theorem answers_execSourceReturn (src) : Answers s (execSourceReturn src s) := by simp [execSourceReturn]

@[simp] theorem answers_execOcxoWarm : Answers s (execOcxoWarm s) := by simp [execOcxoWarm]

@[simp] theorem answers_execPpsInEdge : Answers s (execPpsInEdge s) := by simp [execPpsInEdge]

@[simp] theorem answers_execTmbGpost (p v) : Answers s (execTmbGpost p v s) := by simp [execTmbGpost]

@[simp] theorem answers_execPpsOutEdge : Answers s (execPpsOutEdge s) := by simp [execPpsOutEdge]

@[simp] theorem answers_execPpsPulseEnd : Answers s (execPpsPulseEnd s) := by
  unfold execPpsPulseEnd
  split <;> simp

@[simp] theorem answers_execCaptureEdge (k rising) : Answers s (execCaptureEdge k rising s) := by simp [execCaptureEdge]

@[simp] theorem answers_execPtpMessage (port dom m) : Answers s (execPtpMessage port dom m s) := by
  unfold execPtpMessage
  split <;> simp

@[simp] theorem answers_execPtpMessageInterval (port t) : Answers s (execPtpMessageInterval port t s) := by
  unfold execPtpMessageInterval
  split <;> simp

@[simp] theorem answers_execOwn (x b o) : Answers s (execOwn x b o s) := by simp [execOwn]

@[simp] theorem answers_execBankRetentionEntry (b) : Answers s (execBankRetentionEntry b s) := by
  unfold execBankRetentionEntry
  rw [answers_next]
  split <;> exact .refl _

@[simp] theorem answers_execBankWake (b) : Answers s (execBankWake b s) := by
  unfold execBankWake
  rw [answers_next]
  split <;> exact .refl _

@[simp] theorem answers_execDramScrub (ce ue) : Answers s (execDramScrub ce ue s) := by
  have h : (ue.foldl (fun s a => s.dramUe a) (s.dramCe ce)).vault = s.vault := by simp
  exact (answers_next _ _).2 (h ▸ .refl _)

@[simp] theorem answers_execDmaStart (p ch v) : Answers s (execDmaStart p ch v s) := by simp [execDmaStart]

@[simp] theorem answers_execDmaTransferComplete (ch upset ce ue) : Answers s (execDmaTransferComplete ch upset ce ue s) := by
  simp [execDmaTransferComplete]

@[simp] theorem answers_execBatchValidationEnd (b) : Answers s (execBatchValidationEnd b s) := by
  unfold execBatchValidationEnd
  rw [answers_next]
  split
  · exact .refl _
  · split
    · exact .refl _
    · extract_lets -lift +onlyGivenNames fault ops s1 s2
      have h2 : s2.vault = s.vault := by simp [s2, s1]
      clear_value s2 fault
      rcases fault with _ | ⟨i, size, field⟩
      · dsimp only
        split <;> simp [h2]
      · dsimp -zeta only
        extract_lets -lift +onlyGivenNames s3
        have h3 : Intact s.vault s3.vault := intact_foldl _ (fun u k => by simp) (h2 ▸ .refl _)
        exact intact_completeBatch (by simpa using h3) _ _

@[simp] theorem answers_execOperationIssue : Answers s (execOperationIssue s) := by
  unfold execOperationIssue
  dsimp only
  repeat' split
  all_goals simp

@[simp] theorem answers_execOperationCommit (b i upset) : Answers s (execOperationCommit b i upset s) := by
  unfold execOperationCommit
  repeat' split
  all_goals simp

@[simp] theorem answers_execSolverDeadline (b) : Answers s (execSolverDeadline b s) := by
  unfold execSolverDeadline
  split <;> simp

@[simp] theorem answers_execDeadlineGraceExpiry (b) : Answers s (execDeadlineGraceExpiry b s) := by
  unfold execDeadlineGraceExpiry
  rw [answers_next]
  split
  · exact .refl _
  · split
    · exact intact_settleBatch (intact_foldl _ (fun u i => by simp) (.refl _)) _
    · exact .refl _

@[simp] theorem answers_execTileFault (t ops) : Answers s (execTileFault t ops s) := by
  unfold execTileFault
  rw [answers_next]
  split
  · exact .refl _
  · extract_lets -lift +onlyGivenNames s1 s2 hit
    have h2 : s2.vault = s.vault := by simp [s2, s1]
    clear_value s2
    exact intact_foldl _ (fun u q => by simp) (intact_foldl _ (fun u q => by simp) (h2 ▸ .refl _))

@[simp] theorem answers_execTileSelftestEnd (t pass) : Answers s (execTileSelftestEnd t pass s) := by simp [execTileSelftestEnd]

@[simp] theorem answers_execSolTrel (p v) : Answers s (execSolTrel p v s) := by simp [execSolTrel]

@[simp] theorem answers_execSubmitSol (x wd pd wa) : Answers s (execSubmitSol x wd pd wa s) := by simp [execSubmitSol]

@[simp] theorem answers_execCanRecordWrite (n) : Answers s (execCanRecordWrite n s) := by
  unfold execCanRecordWrite
  dsimp only
  repeat' split
  all_goals simp

@[simp] theorem answers_execCfdTxcack (p n v) : Answers s (execCfdTxcack p n v s) := by simp [execCfdTxcack]

@[simp] theorem answers_execCanEntryEligible (n) : Answers s (execCanEntryEligible n s) := by simp [execCanEntryEligible]

@[simp] theorem answers_execCanArbitration (n) : Answers s (execCanArbitration n s) := by
  unfold execCanArbitration
  dsimp only
  repeat' split
  all_goals simp

@[simp] theorem answers_execCanTxComplete (n delay) : Answers s (execCanTxComplete n delay s) := by
  unfold execCanTxComplete
  dsimp only
  repeat' split
  all_goals simp

@[simp] theorem answers_execCanTxError (n f) : Answers s (execCanTxError n f s) := by
  unfold execCanTxError
  dsimp only
  repeat' split
  all_goals simp

@[simp] theorem answers_execCanBusoff (n) : Answers s (execCanBusoff n s) := by
  unfold execCanBusoff
  rw [answers_next]
  dsimp only
  split
  · exact intact_foldl _ (fun u e => by simp) (by simp)
  · exact .refl _

@[simp] theorem answers_execCfdRecov (p n v) : Answers s (execCfdRecov p n v s) := by simp [execCfdRecov]

@[simp] theorem answers_execCanBusoffRecovered (n) : Answers s (execCanBusoffRecovered n s) := by simp [execCanBusoffRecovered]

@[simp] theorem answers_execCanModeSwitch (n) : Answers s (execCanModeSwitch n s) := by simp [execCanModeSwitch]

@[simp] theorem answers_execCfdCancel (p n v) : Answers s (execCfdCancel p n v s) := by simp [execCfdCancel]

@[simp] theorem answers_execCanFrameReceived (n image age) : Answers s (execCanFrameReceived n image age s) := by
  unfold execCanFrameReceived
  dsimp only
  repeat' split
  all_goals simp

@[simp] theorem answers_execCfdRxack (p n v) : Answers s (execCfdRxack p n v s) := by simp [execCfdRxack]

@[simp] theorem answers_execCfdHpack (p n v) : Answers s (execCfdHpack p n v s) := by simp [execCfdHpack]

@[simp] theorem answers_execCanReceiveError (n by8) : Answers s (execCanReceiveError n by8 s) := by simp [execCanReceiveError]

@[simp] theorem answers_execTxq (x pd wa wb q) : Answers s (execTxq x pd wa wb q s) := by simp [execTxq]

@[simp] theorem answers_execChainOutput (c bits age) : Answers s (execChainOutput c bits age s) := by simp [execChainOutput]

@[simp] theorem answers_execMainsPhaseValid : Answers s (execMainsPhaseValid s) := by
  unfold execMainsPhaseValid
  dsimp only
  repeat' split
  all_goals simp [↓vault_with]

@[simp] theorem answers_execChainStuck (c) : Answers s (execChainStuck c s) := by simp [execChainStuck]

@[simp] theorem answers_execChainClkloss (c) : Answers s (execChainClkloss c s) := by simp [execChainClkloss]

@[simp] theorem answers_execChainFaultEnd (c cause) : Answers s (execChainFaultEnd c cause s) := by simp [execChainFaultEnd]

@[simp] theorem answers_execContactChange (n level) : Answers s (execContactChange n level s) := by simp [execContactChange]

@[simp] theorem answers_execDiscrepancyTimeout (k) : Answers s (execDiscrepancyTimeout k s) := by
  unfold execDiscrepancyTimeout
  split <;> simp

@[simp] theorem answers_execContactFault (n) : Answers s (execContactFault n s) := by simp [execContactFault]

@[simp] theorem answers_execContactFaultClear (n) : Answers s (execContactFaultClear n s) := by simp [execContactFaultClear]

@[simp] theorem answers_execTestWindowOpen (k) : Answers s (execTestWindowOpen k s) := by simp [execTestWindowOpen]

@[simp] theorem answers_execTestWindowEnd (k readOff) : Answers s (execTestWindowEnd k readOff s) := by
  unfold execTestWindowEnd
  split <;> simp

@[simp] theorem answers_execReadbackFail (k on) : Answers s (execReadbackFail k on s) := by simp [execReadbackFail]

@[simp] theorem answers_execDegradedTimeExpiry (f) : Answers s (execDegradedTimeExpiry f s) := by
  unfold execDegradedTimeExpiry
  split <;> simp

@[simp] theorem answers_execClauseWatchdog (f) : Answers s (execClauseWatchdog f s) := by simp [execClauseWatchdog]

@[simp] theorem answers_execTelegramWatchdog (slot) : Answers s (execTelegramWatchdog slot s) := by simp [execTelegramWatchdog]

@[simp] theorem answers_execSafFack (p v) : Answers s (execSafFack p v s) := by simp [execSafFack]

@[simp] theorem answers_execSafetyFault (mv) : Answers s (execSafetyFault mv s) := by simp [execSafetyFault]

@[simp] theorem answers_execSafetySelftest (pass) : Answers s (execSafetySelftest pass s) := by simp [execSafetySelftest]

@[simp] theorem answers_execSafOff (x wa) : Answers s (execSafOff x wa s) := by simp [execSafOff]

@[simp] theorem answers_execSafOn (x wa) : Answers s (execSafOn x wa s) := by simp [execSafOn]

@[simp] theorem answers_execSafRst (x wa) : Answers s (execSafRst x wa s) := by simp [execSafRst]

@[simp] theorem answers_execSafGetin (x wd) : Answers s (execSafGetin x wd s) := by
  refine (answers_next _ _).2 (intact_safIssue (fun u => ?_) (.refl _))
  split <;> simp

@[simp] theorem answers_execLoopSample (n) : Answers s (execLoopSample n s) := by simp [execLoopSample]

@[simp] theorem answers_execLoopEvaluation (lane) : Answers s (execLoopEvaluation lane s) := by
  unfold execLoopEvaluation
  dsimp only
  repeat' split
  all_goals simp [↓vault_with]

@[simp] theorem answers_execLoopOutputInstant (n) : Answers s (execLoopOutputInstant n s) := by
  unfold execLoopOutputInstant
  repeat' split
  all_goals simp

@[simp] theorem answers_execLoopEscalationCheck (n) : Answers s (execLoopEscalationCheck n s) := by simp [execLoopEscalationCheck]

@[simp] theorem answers_execLpeArm (p v) : Answers s (execLpeArm p v s) := by simp [execLpeArm]

@[simp] theorem answers_execLpePageWrite (p n page w v) : Answers s (execLpePageWrite p n page w v s) := by
  simp [execLpePageWrite]

@[simp] theorem answers_execLpeSwap (x pd wa n g) : Answers s (execLpeSwap x pd wa n g s) := by simp [execLpeSwap]

@[simp] theorem answers_execLpeSwapWrite (p v) : Answers s (execLpeSwapWrite p v s) := by simp [execLpeSwapWrite]

@[simp] theorem answers_execLaneFault (lane) : Answers s (execLaneFault lane s) := by
  unfold execLaneFault
  rw [answers_next]
  split
  · exact .refl _
  · extract_lets -lift +onlyGivenNames src s1 s2 s3 on fixed src2 s4 s5
    have h1 : s1.vault = s.vault := rfl
    clear_value s1
    have h3 : s3.vault = s.vault := by simp [s3, s2, h1]
    have h4 : s4.vault = s3.vault := rfl
    clear_value s4 s3
    have h5 : Intact s.vault s5.vault := intact_foldl _ (fun u n => by simp) (by simp [h4, h3])
    clear_value s5
    split <;> simp [h5]

@[simp] theorem answers_execCompareFire (k) : Answers s (execCompareFire k s) := by
  unfold execCompareFire
  rw [answers_next]
  dsimp only
  split
  · refine intact_inStep (fun u => intact_compareSamples ?_ _) (.refl _)
    rw [vault_fireUnits, vault_foldl, vault_bumpF]
    · exact .refl _
    · exact fun u c => vault_makeReady _ _ _
  · exact .refl _

@[simp] theorem answers_execOptRun (x wd pd wa) : Answers s (execOptRun x wd pd wa s) := by simp [execOptRun]

@[simp] theorem answers_execOptValidationEnd : Answers s (execOptValidationEnd s) := by
  unfold execOptValidationEnd
  dsimp only
  repeat' split
  all_goals simp

@[simp] theorem answers_execOptIterationEnd : Answers s (execOptIterationEnd s) := by
  unfold execOptIterationEnd
  split <;> simp

@[simp] theorem answers_execOptRunComplete : Answers s (execOptRunComplete s) := by
  unfold execOptRunComplete
  split <;> simp

@[simp] theorem answers_execOptFblimWrite (p v) : Answers s (execOptFblimWrite p v s) := by simp [execOptFblimWrite]

@[simp] theorem answers_execFusPost (p v) : Answers s (execFusPost p v s) := by simp [execFusPost]

@[simp] theorem answers_execFusUpd (p v) : Answers s (execFusUpd p v s) := by simp [execFusUpd]

@[simp] theorem answers_execFusionPropagationComplete : Answers s (execFusionPropagationComplete s) := by
  simp [execFusionPropagationComplete]

@[simp] theorem answers_execFusionUpdateComplete : Answers s (execFusionUpdateComplete s) := by
  unfold execFusionUpdateComplete
  dsimp only
  repeat' split
  all_goals simp [↓vault_foldl]

@[simp] theorem answers_execFrameInstant : Answers s (execFrameInstant s) := by
  unfold execFrameInstant
  rw [answers_next]
  extract_lets -lift +onlyGivenNames per inst
  split
  · refine intact_inStep (fun u => ?_) (.refl _)
    extract_lets -lift +onlyGivenNames el s1 s2 s3 x s4 s5
    have h1 : Intact u.vault s1.vault := intact_fusionLoad (by simp)
    clear_value s1
    have h5 : Intact u.vault s5.vault := by simp [s5, s4, s3, s2, h1]
    clear_value s5
    split <;> simp [h5]
  · exact .refl _

@[simp] theorem answers_execImuSample (valid inc) : Answers s (execImuSample valid inc s) := by simp [execImuSample]

@[simp] theorem answers_execImuFault : Answers s (execImuFault s) := by simp [execImuFault]

@[simp] theorem answers_execImuRestore : Answers s (execImuRestore s) := by simp [execImuRestore]

@[simp] theorem answers_execPosUncertain : Answers s (execPosUncertain s) := by simp [execPosUncertain]

@[simp] theorem answers_execWaveValid : Answers s (execWaveValid s) := by
  unfold execWaveValid
  dsimp only
  repeat' split
  all_goals simp [↓vault_with]

@[simp] theorem answers_execAntEnableWrite (p a v) : Answers s (execAntEnableWrite p a v s) := by simp [execAntEnableWrite]

@[simp] theorem answers_execAntOpen (a ma) : Answers s (execAntOpen a ma s) := by simp [execAntOpen]

@[simp] theorem answers_execAntOk (a ma) : Answers s (execAntOk a ma s) := by simp [execAntOk]

@[simp] theorem answers_execAntShort (a ma) : Answers s (execAntShort a ma s) := by simp [execAntShort]

@[simp] theorem answers_execAntRetry (a ma) : Answers s (execAntRetry a ma s) := by simp [execAntRetry]

@[simp] theorem answers_execAcqStart (p v) : Answers s (execAcqStart p v s) := by simp [execAcqStart]

@[simp] theorem answers_execAcqAbort (p v) : Answers s (execAcqAbort p v s) := by simp [execAcqAbort]

@[simp] theorem answers_execSearchEntryStart : Answers s (execSearchEntryStart s) := by
  unfold execSearchEntryStart
  split <;> simp

@[simp] theorem answers_execSearchEntryEnd (cells) : Answers s (execSearchEntryEnd cells s) := by
  unfold execSearchEntryEnd
  repeat' split
  all_goals simp

@[simp] theorem answers_execGnbChcfgWrite (p ch v) : Answers s (execGnbChcfgWrite p ch v s) := by simp [execGnbChcfgWrite]

@[simp] theorem answers_execGnbChloopWrite (p ch v) : Answers s (execGnbChloopWrite p ch v s) := by simp [execGnbChloopWrite]

@[simp] theorem answers_execChannelIntegration (ch m cn0 pi pq slip sym) :
    Answers s (execChannelIntegration ch m cn0 pi pq slip sym s) := by
  simp [execChannelIntegration]

@[simp] theorem answers_execChannelTrack (ch) : Answers s (execChannelTrack ch s) := by simp [execChannelTrack]

@[simp] theorem answers_execChannelPullinTimeout (ch) : Answers s (execChannelPullinTimeout ch s) := by
  simp [execChannelPullinTimeout]

@[simp] theorem answers_execChannelCode (ch) : Answers s (execChannelCode ch s) := by simp [execChannelCode]

@[simp] theorem answers_execChannelLost (ch) : Answers s (execChannelLost ch s) := by
  unfold execChannelLost
  dsimp only
  repeat' split
  all_goals simp

@[simp] theorem answers_execNavSymbolEntry (ch) : Answers s (execNavSymbolEntry ch s) := by simp [execNavSymbolEntry]

@[simp] theorem answers_execEpochStrobe (meas) : Answers s (execEpochStrobe meas s) := by
  unfold execEpochStrobe
  rw [answers_next]
  dsimp only
  split
  · refine intact_inStep (fun u => ?_) (.refl _)
    rw [vault_updGnb]
    split
    · refine intact_foldl _ (fun v c => ?_) (by simp)
      split <;> simp
    · simp
  · exact .refl _

@[simp] theorem answers_execInterferenceMeasurement (a b peak freq agc) :
    Answers s (execInterferenceMeasurement a b peak freq agc s) := by
  simp [execInterferenceMeasurement]

@[simp] theorem answers_execAgcLimit (_a _b) : Answers s (execAgcLimit _a _b s) := by simp [execAgcLimit]

@[simp] theorem answers_execGnbAcqctlWrite (p v) : Answers s (execGnbAcqctlWrite p v s) := by simp [execGnbAcqctlWrite]

@[simp] theorem answers_execGnbCn0minWrite (p v) : Answers s (execGnbCn0minWrite p v s) := by simp [execGnbCn0minWrite]

@[simp] theorem answers_execEpochBlockDelivery : Answers s (execEpochBlockDelivery s) := by
  unfold execEpochBlockDelivery
  split <;> simp

@[simp] theorem answers_execRouteDelivery (n) : Answers s (execRouteDelivery n s) := by
  unfold execRouteDelivery
  rw [answers_next]
  split
  · exact .refl _
  · exact intact_routeDeliver (.refl _) _ _

@[simp] theorem answers_execTwinTelegramCopy (c age) : Answers s (execTwinTelegramCopy c age s) := by simp [execTwinTelegramCopy]

@[simp] theorem answers_execTelegramWindowClose (slot seq) : Answers s (execTelegramWindowClose slot seq s) := by
  unfold execTelegramWindowClose
  split <;> simp

@[simp] theorem answers_execEthFrameReceived (port f age) : Answers s (execEthFrameReceived port f age s) := by
  unfold execEthFrameReceived
  dsimp only
  split
  · split
    case h_3 dom m _ =>
      split
      · exact answers_of_vault (by simp) (answers_execPtpMessage _ _ _ _)
      · simp
    all_goals simp
  · simp

@[simp] theorem answers_execEthLinkDown (port unsent) : Answers s (execEthLinkDown port unsent s) := by simp [execEthLinkDown]

@[simp] theorem answers_execEthLinkUp (port speed) : Answers s (execEthLinkUp port speed s) := by simp [execEthLinkUp]

@[simp] theorem answers_execTelSend (x pd wa wb len q) : Answers s (execTelSend x pd wa wb len q s) := by simp [execTelSend]

@[simp] theorem answers_execHeartbeatSend : Answers s (execHeartbeatSend s) := by simp [execHeartbeatSend]

@[simp] theorem answers_execHeartbeatFrame (lane frame) : Answers s (execHeartbeatFrame lane frame s) := by
  unfold execHeartbeatFrame
  rw [answers_next]
  extract_lets -lift +onlyGivenNames n
  split
  next u hu => simp [vault_of_takeFrame hu]
  next u p hu =>
    extract_lets -lift +onlyGivenNames t w w0 s1 s2 s3 st st' s4 differs src s5
    have h4 : s4.vault = s.vault := by simp [s4, s3, s2, s1, vault_of_takeFrame hu]
    clear_value s4
    have h5 : s5.vault = s4.vault := vault_updBoot s4 (f := fun _ => s5.boot) rfl
    clear_value s5
    simp [h5, h4]

@[simp] theorem answers_execHbInEdge : Answers s (execHbInEdge s) := by simp [execHbInEdge]

@[simp] theorem answers_execAlivePulseLoss : Answers s (execAlivePulseLoss s) := by simp [execAlivePulseLoss]

@[simp] theorem answers_execAuthorityRequest : Answers s (execAuthorityRequest s) := by simp [execAuthorityRequest]

@[simp] theorem answers_execArbitrationWindowEnd : Answers s (execArbitrationWindowEnd s) := by
  unfold execArbitrationWindowEnd
  split <;> simp

@[simp] theorem answers_execHoPrep (lane frame) : Answers s (execHoPrep lane frame s) := by
  unfold execHoPrep
  rw [answers_next]
  split
  next u hu => simp [vault_of_takeControl hu]
  next u c hu => simp [vault_of_takeControl hu]

@[simp] theorem answers_execHoAck (lane frame) : Answers s (execHoAck lane frame s) := by
  unfold execHoAck
  rw [answers_next]
  split
  next u hu => simp [vault_of_takeControl hu]
  next u c hu => simp [vault_of_takeControl hu]

@[simp] theorem answers_execRevertReq (lane frame) : Answers s (execRevertReq lane frame s) := by
  unfold execRevertReq
  rw [answers_next]
  split
  next u hu => simp [vault_of_takeControl hu]
  next u c hu => simp [vault_of_takeControl hu]

@[simp] theorem answers_execBtlHoreq (p v) : Answers s (execBtlHoreq p v s) := by simp [execBtlHoreq]

@[simp] theorem answers_execHandoverFail : Answers s (execHandoverFail s) := by simp [execHandoverFail]

@[simp] theorem answers_execAuthInActive : Answers s (execAuthInActive s) := by simp [execAuthInActive]

@[simp] theorem answers_execAuthInInactive : Answers s (execAuthInInactive s) := by simp [execAuthInInactive]

@[simp] theorem answers_execDualAuthority : Answers s (execDualAuthority s) := by simp [execDualAuthority]

@[simp] theorem answers_execPairBeacon (c) : Answers s (execPairBeacon c s) := by simp [execPairBeacon]

@[simp] theorem answers_execPairBeaconSend : Answers s (execPairBeaconSend s) := by simp [execPairBeaconSend]

@[simp] theorem answers_execPeerAlive : Answers s (execPeerAlive s) := by simp [execPeerAlive]

@[simp] theorem answers_execPathLoss (path) : Answers s (execPathLoss path s) := by simp [execPathLoss]

@[simp] theorem answers_execPathRestore (path) : Answers s (execPathRestore path s) := by simp [execPathRestore]

@[simp] theorem answers_execLaneTrained (lane eq) : Answers s (execLaneTrained lane eq s) := by simp [execLaneTrained]

@[simp] theorem answers_execLaneDown (lane) : Answers s (execLaneDown lane s) := by simp [execLaneDown]

@[simp] theorem answers_execEqLimit (lane eq) : Answers s (execEqLimit lane eq s) := by simp [execEqLimit]

@[simp] theorem answers_execRevertHoldoffElapsed : Answers s (execRevertHoldoffElapsed s) := by simp [execRevertHoldoffElapsed]

@[simp] theorem answers_execMirPut (x pd wa m q) : Answers s (execMirPut x pd wa m q s) := by simp [execMirPut]

@[simp] theorem answers_execEpochTransmitEnd : Answers s (execEpochTransmitEnd s) := by
  unfold execEpochTransmitEnd
  split <;> simp

@[simp] theorem answers_execEpochHeaderFrame (lane frame) : Answers s (execEpochHeaderFrame lane frame s) := by
  unfold execEpochHeaderFrame
  rw [answers_next]
  dsimp only
  split
  next u hu => simp [vault_of_takeFrame hu]
  next u p hu =>
    split
    · simp [vault_of_takeFrame hu]
    · split
      · split <;> simp [vault_of_takeFrame hu]
      · simp [vault_of_takeFrame hu]

@[simp] theorem answers_execEpochBodyFrame (lane frame) : Answers s (execEpochBodyFrame lane frame s) := by
  unfold execEpochBodyFrame
  rw [answers_next]
  dsimp only
  split
  next u hu => simp [vault_of_takeFrame hu]
  next u p hu => split <;> simp [vault_of_takeFrame hu]

@[simp] theorem answers_execEpochCommitFrame (lane frame) : Answers s (execEpochCommitFrame lane frame s) := by
  unfold execEpochCommitFrame
  rw [answers_next]
  dsimp only
  split
  next u hu => simp [vault_of_takeFrame hu]
  next u p hu => split <;> simp [vault_of_takeFrame hu]

@[simp] theorem answers_execEpochCopyTimeout (lane) : Answers s (execEpochCopyTimeout lane s) := by
  unfold execEpochCopyTimeout
  dsimp only
  repeat' split
  all_goals simp

@[simp] theorem answers_execEpochApply : Answers s (execEpochApply s) := by
  unfold execEpochApply
  split <;> simp

@[simp] theorem answers_execBtlTxn (p v) : Answers s (execBtlTxn p v s) := by simp [execBtlTxn]

@[simp] theorem answers_execTxprep (lane frame) : Answers s (execTxprep lane frame s) := by
  unfold execTxprep
  rw [answers_next]
  split
  next u hu => simp [vault_of_takeControl hu]
  next u c hu => split <;> simp [vault_of_takeControl hu]

@[simp] theorem answers_execTxdec (lane frame) : Answers s (execTxdec lane frame s) := by
  unfold execTxdec
  rw [answers_next]
  split
  next u hu => simp [vault_of_takeControl hu]
  next u c hu => split <;> simp [vault_of_takeControl hu]

@[simp] theorem answers_execTxnDecisionTimeout (g) : Answers s (execTxnDecisionTimeout g s) := by
  unfold execTxnDecisionTimeout
  split <;> simp

@[simp] theorem answers_execPeerFail : Answers s (execPeerFail s) := by simp [execPeerFail]

@[simp] theorem answers_execIsoFrame (g up w lat) : Answers s (execIsoFrame g up w lat s) := by simp [execIsoFrame]

@[simp] theorem answers_execIsoLinkLoss (g) : Answers s (execIsoLinkLoss g s) := by simp [execIsoLinkLoss]

@[simp] theorem answers_execIsoLinkRestore (g) : Answers s (execIsoLinkRestore g s) := by simp [execIsoLinkRestore]

@[simp] theorem answers_execFieldHold (g) : Answers s (execFieldHold g s) := by simp [execFieldHold]

@[simp] theorem answers_execFieldSafe (g) : Answers s (execFieldSafe g s) := by simp [execFieldSafe]

@[simp] theorem answers_execOutputApply (g k) : Answers s (execOutputApply g k s) := by
  unfold execOutputApply
  dsimp only
  repeat' split
  all_goals simp

@[simp] theorem answers_execWireBreak (n vin vfs) : Answers s (execWireBreak n vin vfs s) := by simp [execWireBreak]

@[simp] theorem answers_execShortCircuit (n vin vfs) : Answers s (execShortCircuit n vin vfs s) := by simp [execShortCircuit]

@[simp] theorem answers_execInputFaultClear (n vin vfs) : Answers s (execInputFaultClear n vin vfs s) := by
  simp [execInputFaultClear]

@[simp] theorem answers_execOutputOverload (k) : Answers s (execOutputOverload k s) := by simp [execOutputOverload]

@[simp] theorem answers_execOverloadRetry (k) : Answers s (execOverloadRetry k s) := by simp [execOverloadRetry]

@[simp] theorem answers_execDioOrst (p v) : Answers s (execDioOrst p v s) := by simp [execDioOrst]

@[simp] theorem answers_execOutputOvertemp (k tj) : Answers s (execOutputOvertemp k tj s) := by simp [execOutputOvertemp]

@[simp] theorem answers_execOutputOpenWire (k mv) : Answers s (execOutputOpenWire k mv s) := by simp [execOutputOpenWire]

@[simp] theorem answers_execFieldSupplyLow (b mv) : Answers s (execFieldSupplyLow b mv s) := by simp [execFieldSupplyLow]

@[simp] theorem answers_execFieldRailLow (mv) : Answers s (execFieldRailLow mv s) := by simp [execFieldRailLow]

@[simp] theorem answers_execLoopOpen (c) : Answers s (execLoopOpen c s) := by simp [execLoopOpen]

@[simp] theorem answers_execLoopCompliance (c) : Answers s (execLoopCompliance c s) := by simp [execLoopCompliance]

@[simp] theorem answers_execLoopOk (c) : Answers s (execLoopOk c s) := by simp [execLoopOk]

@[simp] theorem answers_execRecordStoreWrite : Answers s (execRecordStoreWrite s) := by
  unfold execRecordStoreWrite
  split <;> simp

@[simp] theorem answers_execStoreWriteFault (n block) : Answers s (execStoreWriteFault n block s) := by
  unfold execStoreWriteFault
  dsimp only
  repeat' split
  all_goals simp [↓vault_foldl]

@[simp] theorem answers_execEvrScrub (area first n) : Answers s (execEvrScrub area first n s) := by simp [execEvrScrub]

@[simp] theorem answers_execOptimeSave : Answers s (execOptimeSave s) := by simp [execOptimeSave]

@[simp] theorem answers_execEvrCur (p v) : Answers s (execEvrCur p v s) := by simp [execEvrCur]

@[simp] theorem answers_execWindowCopyEnd (p bad) : Answers s (execWindowCopyEnd p bad s) := by
  unfold execWindowCopyEnd
  dsimp only
  repeat' split
  all_goals simp

@[simp] theorem answers_execEvrFrel (p v) : Answers s (execEvrFrel p v s) := by simp [execEvrFrel]

@[simp] theorem answers_execEvrDsel (p v) : Answers s (execEvrDsel p v s) := by simp [execEvrDsel]

@[simp] theorem answers_execLog (x pd wa p c q) : Answers s (execLog x pd wa p c q s) := by simp [execLog]

@[simp] theorem answers_execSysRstOrderly (p go code) : Answers s (execSysRstOrderly p go code s) := by simp [execSysRstOrderly]

@[simp] theorem answers_execSysRstImmediate (p go code) : Answers s (execSysRstImmediate p go code s) := by
  simp [execSysRstImmediate]

@[simp] theorem answers_execUnitReset : Answers s (execUnitReset s) := by
  unfold execUnitReset
  split <;> simp

@[simp] theorem answers_execFeedPresent (railOff) : Answers s (execFeedPresent railOff s) := by simp [execFeedPresent]

@[simp] theorem answers_execSelfTestEnd (pass) : Answers s (execSelfTestEnd pass s) := by
  unfold execSelfTestEnd
  rw [answers_next]
  split
  · extract_lets -lift +onlyGivenNames src s1
    have h1 : Intact s.vault s1.vault := ⟨rfl, fun hw => ⟨rfl, rfl, hw.2.2⟩⟩
    clear_value s1
    split <;> simp [h1]
  · exact .refl _

@[simp] theorem answers_execImageCheckEnd (place0 place1) : Answers s (execImageCheckEnd place0 place1 s) := by
  unfold execImageCheckEnd
  dsimp only
  repeat' split
  all_goals simp

@[simp] theorem answers_execAddressTake (inPresent outPresent) : Answers s (execAddressTake inPresent outPresent s) := by
  unfold execAddressTake
  dsimp only
  repeat' split
  all_goals simp

@[simp] theorem answers_execPairNegotiation : Answers s (execPairNegotiation s) := by simp [execPairNegotiation]

@[simp] theorem answers_execPowerFail : Answers s (execPowerFail s) :=
  (answers_next _ _).2 (.refl _)

@[simp] theorem answers_execChainFrameSend : Answers s (execChainFrameSend s) := by simp [execChainFrameSend]

@[simp] theorem answers_execChainFrame (f) : Answers s (execChainFrame f s) := by simp [execChainFrame]

@[simp] theorem answers_execChainBreak : Answers s (execChainBreak s) := by simp [execChainBreak]

@[simp] theorem answers_execAddrChange : Answers s (execAddrChange s) := by
  unfold execAddrChange
  split <;> simp

@[simp] theorem answers_execAddrDuplicateEnd : Answers s (execAddrDuplicateEnd s) := by simp [execAddrDuplicateEnd]

@[simp] theorem answers_execStrapChange (sel solo) : Answers s (execStrapChange sel solo s) := by simp [execStrapChange]

@[simp] theorem answers_execButtonRelease (us) : Answers s (execButtonRelease us s) := by simp [execButtonRelease]

@[simp] theorem answers_execButtonStuck : Answers s (execButtonStuck s) := by simp [execButtonStuck]

@[simp] theorem answers_execButtonUnstuck : Answers s (execButtonUnstuck s) := by simp [execButtonUnstuck]

@[simp] theorem answers_execFeedLow (feed cv) : Answers s (execFeedLow feed cv s) := by simp [execFeedLow]

@[simp] theorem answers_execFeedOk (feed cv) : Answers s (execFeedOk feed cv s) := by simp [execFeedOk]

@[simp] theorem answers_execTempHigh (die pkg) : Answers s (execTempHigh die pkg s) := by simp [execTempHigh]

@[simp] theorem answers_execTempHighEnd (die pkg) : Answers s (execTempHighEnd die pkg s) := by simp [execTempHighEnd]

@[simp] theorem answers_execTempCritical (die pkg) : Answers s (execTempCritical die pkg s) := by simp [execTempCritical]

@[simp] theorem answers_execTboard (board) : Answers s (execTboard board s) := by simp [execTboard]

@[simp] theorem answers_execEnvRange (k) : Answers s (execEnvRange k s) := by
  unfold execEnvRange
  split <;> simp

@[simp] theorem answers_execEnvRangeEnd : Answers s (execEnvRangeEnd s) := by simp [execEnvRangeEnd]

@[simp] theorem answers_execClockLoss (d) : Answers s (execClockLoss d s) := by
  unfold execClockLoss
  rw [answers_next]
  extract_lets -lift +onlyGivenNames k
  split
  · exact .refl _
  · extract_lets -lift +onlyGivenNames s1
    have h1 : s1.vault = s.vault := by simp [s1]
    clear_value s1
    split
    · split <;> simp [h1]
    · exact intact_domainLost (by simp [h1]) _

@[simp] theorem answers_execClockDomainReturn (d) : Answers s (execClockDomainReturn d s) := by
  unfold execClockDomainReturn
  rw [answers_next]
  extract_lets -lift +onlyGivenNames k
  split
  · extract_lets -lift +onlyGivenNames s1
    have h1 : s1.vault = s.vault := by simp [s1]
    clear_value s1
    split
    · extract_lets -lift +onlyGivenNames rest s2
      have h2 : s2.vault = s.vault := by simp [s2, h1]
      clear_value s2
      split <;> simp [h2]
    · repeat' split
      all_goals simp [h1]
  · exact .refl _

@[simp] theorem answers_execPwrMarginWrite (p v) : Answers s (execPwrMarginWrite p v s) := by simp [execPwrMarginWrite]

@[simp] theorem answers_execAvsEvaluation (island margin) : Answers s (execAvsEvaluation island margin s) := by
  simp [execAvsEvaluation]

@[simp] theorem answers_execPwrOffWrite (p v) : Answers s (execPwrOffWrite p v s) := by simp [execPwrOffWrite]

@[simp] theorem answers_execSerialCharacter (k ch par stop age) : Answers s (execSerialCharacter k ch par stop age s) := by
  simp [execSerialCharacter]

@[simp] theorem answers_execSerialMessageEnd (k) : Answers s (execSerialMessageEnd k s) := by
  unfold execSerialMessageEnd
  dsimp only
  repeat' split
  all_goals simp

@[simp] theorem answers_execSerialBreak (k age) : Answers s (execSerialBreak k age s) := by simp [execSerialBreak]

@[simp] theorem answers_execSerialTxStart (k) : Answers s (execSerialTxStart k s) := by
  unfold execSerialTxStart
  dsimp only
  repeat' split
  all_goals simp

@[simp] theorem answers_execSerialTxSent (k) : Answers s (execSerialTxSent k s) := by
  unfold execSerialTxSent
  dsimp only
  repeat' split
  all_goals simp

@[simp] theorem answers_execEncoderSample (e) : Answers s (execEncoderSample e s) := by simp [execEncoderSample]

@[simp] theorem answers_execQuadratureEdge (e a b) : Answers s (execQuadratureEdge e a b s) := by simp [execQuadratureEdge]

@[simp] theorem answers_execZEdge (e) : Answers s (execZEdge e s) := by simp [execZEdge]

@[simp] theorem answers_execEncoderLineFault (e) : Answers s (execEncoderLineFault e s) := by simp [execEncoderLineFault]

@[simp] theorem answers_execEncoderFaultEnd (e) : Answers s (execEncoderFaultEnd e s) := by simp [execEncoderFaultEnd]

@[simp] theorem answers_execSsiReadEnd (e raw par low) : Answers s (execSsiReadEnd e raw par low s) := by
  unfold execSsiReadEnd
  dsimp only
  repeat' split
  all_goals simp

@[simp] theorem answers_execEncHome (p e v) : Answers s (execEncHome p e v s) := by simp [execEncHome]

@[simp] theorem answers_execTriggerFire (k) : Answers s (execTriggerFire k s) := by simp [execTriggerFire]

@[simp] theorem answers_execSchPlctlWrite (p v) : Answers s (execSchPlctlWrite p v s) := by simp [execSchPlctlWrite]

@[simp] theorem answers_execDiscard (p v) : Answers s (execDiscard p v s) := by simp [execDiscard]

@[simp] theorem answers_execCleCmaxclr (p v) : Answers s (execCleCmaxclr p v s) := by simp [execCleCmaxclr]

@[simp] theorem answers_execMbkOwnWrite (p v) : Answers s (execMbkOwnWrite p v s) := by simp [execMbkOwnWrite]

@[simp] theorem answers_execSysBootWrite (p v) : Answers s (execSysBootWrite p v s) := by simp [execSysBootWrite]

@[simp] theorem answers_execRegisterWrite (p addr v) : Answers s (execRegisterWrite p addr v s) := by simp [execRegisterWrite]

@[simp] theorem answers_execGet (x wd wa k) : Answers s (execGet x wd wa k s) := by simp [execGet]

@[simp] theorem answers_execPut (x ws wa k) : Answers s (execPut x ws wa k s) := by simp [execPut]

@[simp] theorem answers_execGetl (x wd wa k) : Answers s (execGetl x wd wa k s) := by simp [execGetl]

@[simp] theorem answers_execPutl (x ws wa k) : Answers s (execPutl x ws wa k s) := by simp [execPutl]

@[simp] theorem answers_execPortTimeout (x read w addr long) : Answers s (execPortTimeout x read w addr long s) := by
  simp [execPortTimeout]

@[simp] theorem answers_execFreezeSnapshot (k) : Answers s (execFreezeSnapshot k s) := by simp [execFreezeSnapshot]

@[simp] theorem answers_execFullStop (g) : Answers s (execFullStop g s) := by simp [execFullStop]

@[simp] theorem answers_execSkippedFullStop (g) : Answers s (execSkippedFullStop g s) := by simp [execSkippedFullStop]

@[simp] theorem answers_execForcedFullStop (g) : Answers s (execForcedFullStop g s) := by simp [execForcedFullStop]

@[simp] theorem answers_execProgramLoad (code values owners) : Answers s (execProgramLoad code values owners s) := by
  unfold execProgramLoad
  rw [answers_next]
  split
  · extract_lets -lift +onlyGivenNames old s1 s2 s3 s4 s5 s6 s7
    have h4 : s4.vault = s.vault := by simp [s4, s3, s2, s1]
    clear_value s4
    have h5 : Intact s.vault s5.vault := intact_foldl _ (fun u q => by simp) (h4 ▸ .refl _)
    have h6 : Intact s.vault s6.vault := by simpa [s6] using h5
    clear_value s6
    have h7 : Intact s.vault s7.vault := by simpa [s7] using h6
    clear_value s7
    simpa using h7
  · exact .refl _

@[simp] theorem answers_execBlockPowerReady (b) : Answers s (execBlockPowerReady b s) := by simp [execBlockPowerReady]

@[simp] theorem answers_execWaitAx (x pd n wa timeout) : Answers s (execWaitAx x pd n wa timeout s) := by simp [execWaitAx]

@[simp] theorem answers_execJoin (x wd pd c1 c2 timeout) : Answers s (execJoin x wd pd c1 c2 timeout s) := by simp [execJoin]

@[simp] theorem answers_execWaitT (x wd pd wa timeout) : Answers s (execWaitT x wd pd wa timeout s) := by simp [execWaitT]

@[simp] theorem answers_execWaitConditionMet (e k) : Answers s (execWaitConditionMet e k s) := by
  unfold execWaitConditionMet
  split <;> simp

@[simp] theorem answers_execWaitTimeout (e) : Answers s (execWaitTimeout e s) := by
  unfold execWaitTimeout
  split <;> simp

@[simp] theorem answers_execFstop (x) : Answers s (execFstop x s) := by simp [execFstop]

@[simp] theorem answers_execIllegalFetch (e w0 w1) : Answers s (execIllegalFetch e w0 w1 s) := by
  unfold execIllegalFetch
  split <;> simp

@[simp] theorem answers_execClauseBudget (e) : Answers s (execClauseBudget e s) := by
  unfold execClauseBudget
  split <;> simp

@[simp] theorem answers_execImemFault (e corrected) : Answers s (execImemFault e corrected s) := by
  unfold execImemFault
  dsimp only
  repeat' split
  all_goals simp

@[simp] theorem answers_execImemScrub (e a) : Answers s (execImemScrub e a s) := by simp [execImemScrub]

@[simp] theorem answers_execLockstepDiverge (p) : Answers s (execLockstepDiverge p s) := by
  unfold execLockstepDiverge
  dsimp only
  repeat' split
  all_goals simp

@[simp] theorem answers_execLockstepSelftestEnd (p pass) : Answers s (execLockstepSelftestEnd p pass s) := by
  simp [execLockstepSelftestEnd]

@[simp] theorem answers_execLd (x f wa u d q) : Answers s (execLd x f wa u d q s) := by simp [execLd]

@[simp] theorem answers_execSt (x f wa u d stall) : Answers s (execSt x f wa u d stall s) := by simp [execSt]

@[simp] theorem answers_execOpenSession (tag) : Answers s (execOpenSession tag s) := by simp [execOpenSession]

@[simp] theorem answers_execLevel (session tag token) : Answers s (execLevel session tag token s) :=
  (answers_next _ _).2 (intact_onSession (fun u lv => intact_needLevel (fun u => by simp) (.refl _)) (.refl _))

@[simp] theorem answers_execClose (session tag) : Answers s (execClose session tag s) :=
  (answers_next _ _).2 (intact_onSession (fun u lv => intact_needLevel (fun u => by simp) (.refl _)) (.refl _))

@[simp] theorem answers_execSessionTimeout (session) : Answers s (execSessionTimeout session s) := by
  unfold execSessionTimeout
  split <;> simp

@[simp] theorem answers_execPget (session tag addrs) : Answers s (execPget session tag addrs s) := by
  refine (answers_next _ _).2 (intact_onSession (fun u lv => ?_) (.refl _))
  simp

@[simp] theorem answers_execPput (session tag g pairs) : Answers s (execPput session tag g pairs s) := by
  refine (answers_next _ _).2 (intact_onSession (fun u lv => ?_) (.refl _))
  split
  · exact .refl _
  · split
    · exact .refl _
    · exact intact_foldl _ (fun u q => by simp) (by simp)

@[simp] theorem answers_execImgw (session tag slot off data) : Answers s (execImgw session tag slot off data s) := by
  refine (answers_next _ _).2 (intact_onSession (fun u lv => intact_needLevel (fun u => ?_) (.refl _)) (.refl _))
  dsimp only
  split
  · exact .refl _
  · split
    · exact .refl _
    · exact ⟨rfl, fun hw => ⟨hw.1, hw.2.1, cellsWf_cellsPut _ _ _ hw.2.2⟩⟩

@[simp] theorem answers_execImgchk (session tag slot) : Answers s (execImgchk session tag slot s) :=
  (answers_next _ _).2 (intact_onSession (fun u lv => intact_needLevel (fun u => by
    dsimp only
    repeat' split
    all_goals simp) (.refl _)) (.refl _))

@[simp] theorem answers_execReset (session tag immediate) : Answers s (execReset session tag immediate s) :=
  (answers_next _ _).2 (intact_onSession (fun u lv => intact_needLevel (fun u => by simp) (.refl _)) (.refl _))

@[simp] theorem answers_execClear (session tag client token) : Answers s (execClear session tag client token s) := by
  refine (answers_next _ _).2 (intact_onSession (fun u lv => ?_) (.refl _))
  simp

@[simp] theorem answers_execKey (session tag slot pub token) : Answers s (execKey session tag slot pub token s) :=
  (answers_next _ _).2 (intact_onSession (fun u lv => intact_needLevel (fun u => by
    dsimp only
    repeat' split
    all_goals simp) (.refl _)) (.refl _))

@[simp] theorem answers_execImageDiff : Answers s (execImageDiff s) := by
  unfold execImageDiff
  split <;> simp

end

end Sys2Proof.Machine
end

section
/-! Every command answers (tier 3): what `exec` does with the queue and the byte stores, command by command. -/
namespace Sys2Proof.Machine

/-- Every command answers, and keeps the queue and the form of the byte stores. -/
theorem answers_exec (s : State) (i : Instr) : Answers s (exec i s) := by
  cases i <;> simp [exec]

/-- Settles O58: each command's meaning answers and keeps the queue. -/
theorem everyCommandAnswers : Obligations.EveryCommandAnswers := fun i s =>
  let ⟨t, ht, hqueue, _⟩ := answers_exec s i
  ⟨t, ht, hqueue⟩

/-- Settles O59: a step is a command on the state with the rest of the queue, or one FAB clock; both keep the byte stores. -/
theorem invariantKept : Obligations.InvariantKept := by
  intro s t hs hstep
  unfold step at hstep
  split at hstep
  next c rest _ =>
    obtain ⟨u, hu, -, hform⟩ := answers_exec { s with pending := rest } c
    cases hstep.symm.trans hu
    exact hform hs
  next =>
    cases hstep
    exact (intact_tick (.refl _)).2 hs

/-- Settles O1: by the definition of a step. -/
theorem stepRunsFront : Obligations.StepRunsFront := by
  intro s c rest hqueue
  simp only [step, hqueue]

end Sys2Proof.Machine
end

section
/-! PROOFS. Readings of the state that the statements of this family share: what a record leaves of every part, what a
write of a bit, a field or a counter of one port leaves of the others. -/
namespace Sys2Proof.Machine

/-! ### What a record leaves -/

section
variable (s : State) (n : RecName) (el : Nat) (items : List Nat)

@[simp] theorem pending_record : (s.record n el items).pending = s.pending := congrArg (fun u => u.pending) (unrecorded_record s n el items)
@[simp] theorem clk_record : (s.record n el items).clk = s.clk := congrArg (fun u => u.clk) (unrecorded_record s n el items)
@[simp] theorem free_record : (s.record n el items).free = s.free := congrArg (fun u => u.free) (unrecorded_record s n el items)
@[simp] theorem priv_record : (s.record n el items).priv = s.priv := congrArg (fun u => u.priv) (unrecorded_record s n el items)
@[simp] theorem latches_record : (s.record n el items).latches = s.latches := congrArg (fun u => u.latches) (unrecorded_record s n el items)
@[simp] theorem wave_record : (s.record n el items).wave = s.wave := congrArg (fun u => u.wave) (unrecorded_record s n el items)
@[simp] theorem mains_record : (s.record n el items).mains = s.mains := congrArg (fun u => u.mains) (unrecorded_record s n el items)
@[simp] theorem opt_record : (s.record n el items).opt = s.opt := congrArg (fun u => u.opt) (unrecorded_record s n el items)
@[simp] theorem lpe_record : (s.record n el items).lpe = s.lpe := congrArg (fun u => u.lpe) (unrecorded_record s n el items)
@[simp] theorem field_record : (s.record n el items).field = s.field := congrArg (fun u => u.field) (unrecorded_record s n el items)
@[simp] theorem gnb_record : (s.record n el items).gnb = s.gnb := congrArg (fun u => u.gnb) (unrecorded_record s n el items)
@[simp] theorem dfc_record : (s.record n el items).dfc = s.dfc := congrArg (fun u => u.dfc) (unrecorded_record s n el items)
@[simp] theorem enc_record : (s.record n el items).enc = s.enc := congrArg (fun u => u.enc) (unrecorded_record s n el items)
@[simp] theorem ser_record : (s.record n el items).ser = s.ser := congrArg (fun u => u.ser) (unrecorded_record s n el items)
@[simp] theorem can_record : (s.record n el items).can = s.can := congrArg (fun u => u.can) (unrecorded_record s n el items)
@[simp] theorem fus_record : (s.record n el items).fus = s.fus := congrArg (fun u => u.fus) (unrecorded_record s n el items)
@[simp] theorem eth_record : (s.record n el items).eth = s.eth := congrArg (fun u => u.eth) (unrecorded_record s n el items)
@[simp] theorem out_record : (s.record n el items).out = s.out := congrArg (fun u => u.out) (unrecorded_record s n el items)
@[simp] theorem health_record : (s.record n el items).health = s.health := congrArg (fun u => u.health) (unrecorded_record s n el items)

/-- `reg_record`, for a port below or above the recorder's. -/
@[simp] theorem reg_record_outside {a : Nat} (h : a < 0x8000 ∨ 0x8400 ≤ a) : (s.record n el items).reg a = s.reg a :=
  reg_record s n el items fun ⟨h1, h2⟩ => by omega

@[simp] theorem holding_record : (s.record n el items).evr.holding = s.evr.holding :=
  congrArg (fun u => u.evr.holding) (unrecorded_record s n el items)

end

/-! ### Bits and fields of a word -/

@[simp] theorem bit_or_bitMask_same (w : Word) {i : Nat} (hi : i < 32) : bit (w ||| bitMask i) i = true := by
  simp [bit_or, bit_bitMask hi]

@[simp] theorem bit_or_bitMask_ne (w : Word) {i j : Nat} (hi : i < 32) (h : j ≠ i) : bit (w ||| bitMask i) j = bit w j := by
  simp [bit_or, bit_bitMask hi, h]

@[simp] theorem bit_andNot_bitMask_same (w : Word) {i : Nat} (hi : i < 32) : bit (w &&& ~~~bitMask i) i = false := by
  simp [bit_andNot, bit_bitMask hi]

@[simp] theorem bit_andNot_bitMask_ne (w : Word) {i j : Nat} (hi : i < 32) (h : j ≠ i) :
    bit (w &&& ~~~bitMask i) j = bit w j := by
  simp [bit_andNot, bit_bitMask hi, h]

@[simp] theorem fld_or_bitMask (w : Word) {i hi lo : Nat} (hi' : i < 32) (h : i < lo ∨ hi < i) :
    fld (w ||| bitMask i) hi lo = fld w hi lo :=
  fld_congr fun _ _ _ => bit_or_bitMask_ne w hi' (by omega)

@[simp] theorem fld_andNot_bitMask (w : Word) {i hi lo : Nat} (hi' : i < 32) (h : i < lo ∨ hi < i) :
    fld (w &&& ~~~bitMask i) hi lo = fld w hi lo :=
  fld_congr fun _ _ _ => bit_andNot_bitMask_ne w hi' (by omega)

/-- A replaced field leaves the fields beside it. -/
@[simp] theorem fld_setFld_outside (w : Word) {hi lo hj lj : Nat} (v : Nat) (hlo : lo ≤ hi) (h : hj < lo ∨ hi < lj) :
    fld (setFld w hi lo v) hj lj = fld w hj lj :=
  fld_congr fun _ _ _ => bit_setFld_outside w v hlo (by omega)

/-! ### Ports -/

@[simp] theorem State.reg_orBits_same (s : State) (a : Nat) (m : Word) : (s.orBits a m).reg a = s.reg a ||| m := by
  simp [State.reg_orBits]

@[simp] theorem State.reg_setReg_other (s : State) {a b : Nat} (v : Word) (h : b ≠ a) : (s.setReg a v).reg b = s.reg b :=
  State.reg_setReg_ne s v h

@[simp] theorem State.reg_orBits_other (s : State) {a b : Nat} (m : Word) (h : b ≠ a) : (s.orBits a m).reg b = s.reg b :=
  State.reg_orBits_ne s m h

@[simp] theorem sameRegs_refl (s : State) (l : List Nat) : sameRegs s s l := fun _ _ _ => rfl

/-! ### Words stored in a bank -/

theorem ofBytesLE_take_drop (ws : List Word) : ∀ i, (h : i < ws.length) →
    ofBytesLE (((wordBytes ws).drop (4 * i)).take 4) = ws[i].toNat := by
  induction ws with
  | nil => exact fun i h => absurd h (Nat.not_lt_zero i)
  | cons w t ih =>
    intro i h
    have hw : wordBytes (w :: t) = bytesLE w.toNat 4 ++ wordBytes t := rfl
    have hlen : (bytesLE w.toNat 4).length = 4 := by simp [bytesLE]
    cases i with
    | zero =>
      rw [hw, Nat.mul_zero, List.drop_zero, List.take_append_of_le_length (by omega), List.take_of_length_le (by omega),
        ofBytesLE_bytesLE]
      exact Nat.mod_eq_of_lt w.isLt
    | succ i =>
      have hdrop : (bytesLE w.toNat 4 ++ wordBytes t).drop (4 * (i + 1)) = (wordBytes t).drop (4 * i) := by
        rw [show 4 * (i + 1) = (bytesLE w.toNat 4).length + 4 * i by omega, List.drop_length_add_append]
      rw [hw, hdrop]
      exact ih i (by simpa using h)

@[simp] theorem length_wordBytes (ws : List Word) : (wordBytes ws).length = 4 * ws.length := by
  induction ws with
  | nil => rfl
  | cons w t ih =>
    have hw : wordBytes (w :: t) = bytesLE w.toNat 4 ++ wordBytes t := rfl
    have hlen : (bytesLE w.toNat 4).length = 4 := by simp [bytesLE]
    rw [hw, List.length_append, ih, hlen, List.length_cons]; omega

/-- Words stored in a bank read back. -/
theorem bankWords_storeWords {s : State} (hcanon : s.Canonical) (a : Nat) (ws : List Word) :
    (s.storeWords a ws).bankWords a ws.length = ws := by
  apply List.ext_getElem (by simp [State.bankWords])
  intro i h1 h2
  have hcell : cellsGet (cellsPut s.banks.cells a (wordBytes ws)) (a + 4 * i) 4 = ((wordBytes ws).drop (4 * i)).take 4 := by
    apply List.ext_getElem
    · simp; omega
    · intro j hj hj'
      have hj4 : j < 4 := by simpa using hj
      have hi : 4 * i + j < 4 * ws.length := by omega
      have hin : a ≤ a + 4 * i + j ∧ a + 4 * i + j < a + 4 * ws.length := by omega
      have hd : a + 4 * i + j - a = 4 * i + j := by omega
      simp only [cellsGet, List.getElem_map, List.getElem_range, cellGet_cellsPut _ _ _ _ hcanon.1, length_wordBytes, hin,
        and_self, if_true, hd, List.getElem_take, List.getElem_drop]
      simp [List.getD, hi]
  have hnum : (s.storeWords a ws).bankNum (a + 4 * i) 4 = ws[i].toNat := by
    rw [State.bankNum, ← ofBytesLE_take_drop ws i h2, ← hcell]; rfl
  simp [State.bankWords, hnum, wd]

/-- A store of words changes no byte outside. -/
theorem byteAt_storeWords_beside {s : State} (hcanon : s.Canonical) {a q : Nat} (ws : List Word) (h : q < a ∨ a + 4 * ws.length ≤ q) :
    (s.storeWords a ws).byteAt q = s.byteAt q := by
  have hlen := length_wordBytes ws
  rw [State.storeWords, storeBytes_byteAt _ _ _ _ hcanon, if_neg (by omega)]

end Sys2Proof.Machine
end

section
/-! PROOFS. Satellite search (R299, R302 to R305, R315, R316): the antenna supplies, the search lists and their results, the
interference monitor, the thresholds; then the statement `Obligations.GnssSearchResults`. -/
namespace Sys2Proof.Machine

open State (setBitR clrBitR setRegF regB regF)

/-! ### Antenna supplies (R299) -/

theorem antState_setAnt (s : State) (a : Fin 2) {st : Nat} (h : st < 8) : (s.setAnt a st).antState a = st := by
  unfold State.setAnt State.antState
  dsimp only
  split <;> simp (disch := lia) [regF, setRegF, setBitR, fld_setFld_same, Nat.mod_eq_of_lt h]

theorem antFault_setAnt (s : State) (a : Nat) {st : Nat} (h : 2 ≤ st) : (s.setAnt a st).regB Reg.GNB_STK 2 = true := by
  simp [State.setAnt, h, regB, setBitR]

theorem antSwitch_setAnt (s : State) (a : Fin 2) (st : Nat) :
    (s.setAnt a st).regB (Reg.GNB_ANT a) 31 = s.regB (Reg.GNB_ANT a) 31 := by
  unfold State.setAnt regB
  dsimp only
  split <;> simp (disch := lia) [setRegF, setBitR, bit_setFld_outside]

@[simp] theorem antState_antCurrent (s : State) (a ma : Nat) : (s.antCurrent a ma).antState a = s.antState a := by
  simp (disch := lia) [State.antState, State.antCurrent, regF, setRegF]

@[simp] theorem antState_setSupply (s : State) (a q : Nat) (x : AntSupply) : (s.setSupply q x).antState a = s.antState a := (rfl)

@[simp] theorem antState_record (s : State) (a : Fin 2) (n : RecName) (el : Nat) (items : List Nat) :
    (s.record n el items).antState a = s.antState a := by
  simp (disch := lia) [State.antState, regF]

@[simp] theorem antSwitch_antCurrent (s : State) (a ma : Nat) :
    (s.antCurrent a ma).regB (Reg.GNB_ANT a) 31 = s.regB (Reg.GNB_ANT a) 31 :=
  regB_setRegF _ _ (by omega) (.inr (.inr (by omega)))

@[simp] theorem antSwitch_setSupply (s : State) (a : Nat) (x : AntSupply) :
    (s.setSupply a x).regB (Reg.GNB_ANT a) 31 = s.regB (Reg.GNB_ANT a) 31 := (rfl)

@[simp] theorem antFault_antCurrent (s : State) (a : Fin 2) (ma : Nat) :
    (s.antCurrent a ma).regB Reg.GNB_STK 2 = s.regB Reg.GNB_STK 2 := by
  simp (disch := lia) [State.antCurrent, regB, setRegF]

@[simp] theorem antFault_setSupply (s : State) (a : Nat) (x : AntSupply) :
    (s.setSupply a x).regB Reg.GNB_STK 2 = s.regB Reg.GNB_STK 2 := (rfl)

@[simp] theorem antFault_record (s : State) (n : RecName) (el : Nat) (items : List Nat) :
    (s.record n el items).regB Reg.GNB_STK 2 = s.regB Reg.GNB_STK 2 := by
  simp (disch := lia) [regB]

theorem antEnableWrite_results {p : Party} {a : Fin 2} {v : Word} {s : State} (hturn : s.turnOf p = true)
    (hon : s.portOff (Reg.GNB_ANT a) = false) :
    (bit v 31 = true → s.regB (Reg.GNB_ANT a) 31 = false → ∃ t, exec (.antEnableWrite p a v) s = .next t ∧ t.antState a = 1)
      ∧ (bit v 31 = false → ∃ t, exec (.antEnableWrite p a v) s = .next t ∧ t.antState a = 0
          ∧ t.regB (Reg.GNB_ANT a) 31 = false) := by
  have hexec : exec (.antEnableWrite p a v) s = .next ((s.turned p).antWrite a v) :=
    congrArg Host.Outcome.next (portWrite_of_turnOf hturn hon _)
  refine ⟨fun hv hoff => ⟨_, hexec, ?_⟩, fun hv => ⟨_, hexec, ?_, ?_⟩⟩
  · have hwas : (s.turned p).regB (Reg.GNB_ANT a) 31 = false := hoff
    simp [State.antWrite, hv, hwas, antState_setAnt]
  · simp [State.antWrite, hv, antState_setAnt]
  · simp only [State.antWrite, State.putBitR, hv, Bool.not_false, if_true, antSwitch_setSupply, antSwitch_antCurrent, antSwitch_setAnt]
    simp [regB, clrBitR]

theorem antOpen_results {a : Fin 2} {ma : Nat} {s : State} (hon : s.antState a = 1) (hma : ma < 3) :
    ∃ t, exec (.antOpen a ma) s = .next t ∧ t.antState a = 2 ∧ t.regB Reg.GNB_STK 2 = true :=
  ⟨_, congrArg Host.Outcome.next (if_pos ⟨hon, hma⟩), by simp [antState_setAnt], by simp [antFault_setAnt]⟩

theorem antOk_results {a : Fin 2} {ma : Nat} {s : State} (hopen : s.antState a = 2) (hma : 3 ≤ ma) :
    ∃ t, exec (.antOk a ma) s = .next t ∧ t.antState a = 1 :=
  ⟨_, congrArg Host.Outcome.next (if_pos ⟨hopen, hma⟩), by simp [antState_setAnt]⟩

theorem antShort_results {a : Fin 2} {ma : Nat} {s : State} (hon : s.antState a = 1 ∨ s.antState a = 2) (hma : 130 < ma) :
    ∃ t, exec (.antShort a ma) s = .next t ∧ t.antState a = 3 ∧ t.regB Reg.GNB_STK 2 = true :=
  ⟨_, congrArg Host.Outcome.next (if_pos ⟨hon, hma⟩), by simp [antState_setAnt], by simp [antFault_setAnt]⟩

theorem antRetry_results {a : Fin 2} {ma : Nat} {s : State} (hshort : s.antState a = 3)
    (hdue : 1000000000 ≤ s.tb.el - (mgetD s.gnb.ants a {}).shortEl) :
    (ma ≤ 130 → ∃ t, exec (.antRetry a ma) s = .next t ∧ t.antState a = 1)
      ∧ (130 < ma → (mgetD s.gnb.ants a {}).fails = 4 → ∃ t, exec (.antRetry a ma) s = .next t ∧ t.antState a = 4)
      ∧ (130 < ma → (mgetD s.gnb.ants a {}).fails < 4 → ∃ t, exec (.antRetry a ma) s = .next t ∧ t.antState a = 3
          ∧ (mgetD t.gnb.ants a {}).fails = (mgetD s.gnb.ants a {}).fails + 1) := by
  refine ⟨fun hma => ?_, fun hma hf => ?_, fun hma hf => ?_⟩
  · exact ⟨_, congrArg Host.Outcome.next ((if_pos ⟨hshort, hdue⟩).trans (if_pos hma)), by simp [antState_setAnt]⟩
  · exact ⟨_, congrArg Host.Outcome.next (((if_pos ⟨hshort, hdue⟩).trans (if_neg (by omega))).trans (if_pos (by omega))),
      by simp [antState_setAnt]⟩
  · exact ⟨_, congrArg Host.Outcome.next (((if_pos ⟨hshort, hdue⟩).trans (if_neg (by omega))).trans (if_neg (by omega))),
      hshort, by simp [State.setSupply]⟩

/-! ### Search lists (R303 to R305) -/

theorem acqEnd_results (s : State) : s.acqEnd.gnb.acq = none ∧ s.acqEnd.regB Reg.GNB_ACQSTAT 31 = false
    ∧ s.acqEnd.regB Reg.GNB_ACQSTAT 30 = true := by
  simp (disch := lia) [State.acqEnd, regB, setBitR, clrBitR]

theorem acqStart_results {p : Party} {v : Word} {s : State} (hturn : s.turnOf p = true) (hon : s.portOff Reg.GNB_ACQ = false)
    (hidle : s.gnb.acq = none) (hcount : fld v 30 26 ≠ 0) (hmax : fld v 30 26 ≤ 16)
    (hfits : fld v 14 0 / 4 * 4 + 32 * fld v 30 26 ≤ 32768) (hown : s.owner (fld v 20 15) = gnbOwner) :
    ∃ t, exec (.acqStart p v) s = .next t
      ∧ t.gnb.acq = some { bank := fld v 20 15, off := fld v 14 0 / 4 * 4, count := fld v 30 26 }
      ∧ t.regB Reg.GNB_ACQSTAT 31 = true ∧ t.bankInUse (fld v 20 15) = true := by
  refine ⟨_, congrArg Host.Outcome.next (portWrite_of_turnOf hturn hon _), ?_⟩
  have hown' : (s.turned p).owner (fld v 20 15) = gnbOwner := hown
  have hidle' : (s.turned p).gnb.acq = none := hidle
  have hstop : (s.turned p).acqStop = s.turned p := by simp [State.acqStop, hidle']
  have hmax' : ¬ 16 < fld v 30 26 := by omega
  have hfits' : ¬ 32768 < fld v 14 0 / 4 * 4 + 32 * fld v 30 26 := by omega
  simp (disch := lia) [State.acqWrite, hstop, hcount, hmax', hfits', hown', hidle', regB, setBitR, setRegF, bit_setFld_outside]
  simp [State.bankInUse, State.markBank]

theorem acqAbort_results {p : Party} {v : Word} {q : AcqList} {s : State} (hturn : s.turnOf p = true)
    (hon : s.portOff Reg.GNB_ACQ = false) (hrun : s.gnb.acq = some q) :
    ∃ t, exec (.acqAbort p v) s = .next t ∧ t.gnb.acq = none ∧ t.regB Reg.GNB_ACQSTAT 31 = false
      ∧ t.regB Reg.GNB_ACQSTAT 30 = true := by
  refine ⟨_, congrArg Host.Outcome.next (portWrite_of_turnOf hturn hon _), ?_⟩
  have hrun' : (s.turned p).gnb.acq = some q := hrun
  simp (disch := lia) only [State.acqWrite, bit_andNot_bitMask_same, bit_andNot_bitMask_ne, bit_or_bitMask_same, State.acqStop,
    hrun', Bool.not_false, if_true]
  exact acqEnd_results _

/-- Reading an entry for the baseband leaves the baseband and the time. -/
theorem noteParity_touch_gnb (s : State) (b a n : Nat) :
    ((s.touch b).noteParity a n).1.gnb = s.gnb ∧ ((s.touch b).noteParity a n).1.tb = s.tb := by
  have h : State.Leaves (fun u => (u.gnb, u.tb)) (s.touch b) ((s.touch b).noteParity a n).1 :=
    noteParity_leaves (fun _ _ => ⟨rfl⟩) (fun _ _ _ => ⟨rfl⟩) (fun _ _ _ => ⟨rfl⟩) (fun _ _ _ _ => ⟨by simp⟩) _ a n
  exact Prod.ext_iff.1 h.eq

theorem searchEntryStart_results {q : AcqList} {s : State} (hrun : s.gnb.acq = some q) (hidle : q.active = none)
    (hon : s.gnb.stopped = false) (hok : acqEntryOk (s.bankWords (bankAddr q.bank (q.off + 32 * q.cur)) 4) = true) :
    ∃ t, exec .searchEntryStart s = .next t
      ∧ t.gnb.acq = some { q with active := some (s.bankWords (bankAddr q.bank (q.off + 32 * q.cur)) 4), snap := s.tmbNs, el := s.tb.el } := by
  obtain ⟨-, htb⟩ := noteParity_touch_gnb s q.bank (bankAddr q.bank (q.off + 32 * q.cur)) 16
  refine ⟨_, rfl, ?_⟩
  simp [hrun, hidle, hon, hok, State.updGnb, State.tmbNs, setRegF, htb]

/-! ### The result of an entry (R302) -/

/-- R302: a cell that a search prefers to another, or the same cell. -/
def AcqPeak.Leads (p c : AcqPeak) : Prop := c.sum < p.sum ∨ (c.sum = p.sum ∧ p.bin ≤ c.bin)

theorem AcqPeak.Leads.refl (p : AcqPeak) : p.Leads p := .inr ⟨rfl, le_rfl⟩

theorem AcqPeak.Leads.trans {p q r : AcqPeak} (h : p.Leads q) (k : q.Leads r) : p.Leads r := by
  unfold AcqPeak.Leads at *; omega

/-- The peak is the first cell or one of the others, and leads them all. -/
theorem acqPeak_spec (l : List AcqPeak) : ∀ first,
    (acqPeak first l = first ∨ acqPeak first l ∈ l) ∧ (acqPeak first l).Leads first ∧ ∀ c ∈ l, (acqPeak first l).Leads c := by
  induction l with
  | nil => exact fun first => ⟨.inl rfl, .refl _, by simp⟩
  | cons d l ih =>
    intro first
    let next := if first.sum < d.sum ∨ (first.sum = d.sum ∧ (d.bin < first.bin ∨ (d.bin = first.bin ∧ d.place < first.place)))
      then d else first
    have hstep : acqPeak first (d :: l) = acqPeak next l := rfl
    have hnext : (next = first ∨ next = d) ∧ next.Leads first ∧ next.Leads d := by
      simp only [next, AcqPeak.Leads]
      split <;> simp <;> omega
    obtain ⟨hfrom, hfirst, hd⟩ := hnext
    obtain ⟨hmem, hlead, hall⟩ := ih next
    rw [hstep]
    refine ⟨?_, hlead.trans hfirst, fun c hc => ?_⟩
    · rcases hmem with h | h
      · rw [h]
        exact hfrom.imp_right fun h => by simp [h]
      · exact .inr (List.mem_cons_of_mem _ h)
    · rcases List.mem_cons.1 hc with rfl | hc
      · exact hlead.trans hd
      · exact hall c hc

/-- R302: the peak of a list that is not empty is one of its cells. -/
theorem acqPeak_head {l : List AcqPeak} (d : AcqPeak) (h : l ≠ []) :
    acqPeak (l.headD d) l ∈ l ∧ ∀ c ∈ l, (acqPeak (l.headD d) l).Leads c := by
  obtain ⟨hmem, -, hall⟩ := acqPeak_spec l (l.headD d)
  have hhead : l.headD d ∈ l := by
    cases l with
    | nil => exact absurd rfl h
    | cons c l => exact List.mem_cons_self
  exact ⟨hmem.elim (fun heq => heq.symm ▸ hhead) id, hall⟩

/-- R305: going on to the next entry stores nothing; the list goes on, or has ended. -/
theorem acqNext_results (s : State) (q : AcqList) : (s.acqNext q).banks.cells = s.banks.cells
    ∧ (q.cur + 1 < q.count → (s.acqNext q).gnb.acq = some { q with cur := q.cur + 1, active := none })
    ∧ (q.count ≤ q.cur + 1 → (s.acqNext q).gnb.acq = none) := by
  unfold State.acqNext
  split
  · exact ⟨rfl, fun _ => rfl, fun _ => by omega⟩
  · exact ⟨rfl, fun _ => by omega, fun _ => (acqEnd_results s).1⟩

theorem searchEntryEnd_results {q : AcqList} {w0 w1 f0 step : Word} {cells : List AcqCell} {s : State}
    (hrun : s.gnb.acq = some q) (hactive : q.active = some [w0, w1, f0, step]) (htime : acqTime w0 ≤ s.tb.el - q.el)
    (hcanon : s.Canonical) :
    let a := bankAddr q.bank (q.off + 32 * q.cur + 16)
    let l := (List.range (fld w0 16 9)).flatMap (binCells w0 w1 f0 step cells)
    ∃ t p, exec (.searchEntryEnd cells) s = .next t
      ∧ (l ≠ [] → p ∈ l ∧ ∀ c ∈ l, c.sum < p.sum ∨ (c.sum = p.sum ∧ p.bin ≤ c.bin))
      ∧ (l = [] → p.code = fld w1 31 16 * 65536 ∧ p.bin = 0)
      ∧ t.bankWords a 4 = [BitVec.ofNat 32 p.code, BitVec.ofNat 32 (acqMetric p.sum l * 65536 + p.bin),
          (if s.regF Reg.GNB_ACQCTL 31 16 ≤ acqMetric p.sum l then 0x40000000 else 0x80000000), q.snap]
      ∧ (∀ b, b < a ∨ a + 16 ≤ b → t.byteAt b = s.byteAt b)
      ∧ (q.cur + 1 < q.count → t.gnb.acq = some { q with cur := q.cur + 1, active := none })
      ∧ (q.count ≤ q.cur + 1 → t.gnb.acq = none) := by
  intro a l
  let p := acqPeak (l.headD { sum := 0, bin := 0, place := 0, code := fld w1 31 16 * 65536 }) l
  let m := acqMetric p.sum l
  let ws := [wd p.code, wd (m * 65536 + p.bin), wd ((if s.regF Reg.GNB_ACQCTL 31 16 ≤ m then 1 else 2) * 2 ^ 30), q.snap]
  have hexec : exec (.searchEntryEnd cells) s = .next ((s.storeWords a ws).acqNext q) := by
    refine congrArg Host.Outcome.next ?_
    simp only [hrun, hactive, htime, if_true]
    rfl
  obtain ⟨hcells, hgo, hend⟩ := acqNext_results (s.storeWords a ws) q
  refine ⟨_, p, hexec, fun h => acqPeak_head _ h, fun h => ?_, ?_, fun b hb => ?_, hgo, hend⟩
  · simp [p, h, acqPeak]
  · have hwords : ((s.storeWords a ws).acqNext q).bankWords a 4 = (s.storeWords a ws).bankWords a 4 := by
      simp only [State.bankWords, State.bankNum, hcells]
    rw [hwords]
    refine (bankWords_storeWords hcanon a ws).trans ?_
    simp only [ws, wd]
    split <;> rfl
  · rw [State.byteAt, hcells]
    exact byteAt_storeWords_beside hcanon ws hb

/-! ### Interference monitor and thresholds (R315, R316) -/

theorem interferenceMeasurement_results (a b : Fin 2) (peak agc : Nat) (freq : Int) (s : State) :
    let k := 2 * a.val + b.val
    ∃ t, exec (.interferenceMeasurement a b peak freq agc) s = .next t ∧ t.regF (Reg.GNB_INT k) 31 24 = min peak 255
      ∧ (s.regF Reg.GNB_ACQCTL 15 8 ≤ min peak 255 → 2 ≤ (mgetD s.gnb.mons k {}).above → (mgetD s.gnb.mons k {}).flag = false →
          (mgetD t.gnb.mons k {}).flag = true ∧ t.regB Reg.GNB_STK 3 = true) := by
  intro k
  have hfreq : (freq % 4096).toNat < 4096 := by omega
  refine ⟨_, rfl, ?_⟩
  extract_lets -lift +onlyGivenNames s1 m hit m' raise clear s2 s3
  have hint : fld (s1.reg (Reg.GNB_INT k)) 31 24 = min peak 255 := by
    simp only [s1, State.reg_setReg_same, fld, bitsOf, wd, BitVec.toNat_ofNat, Nat.shiftRight_eq_div_pow]
    omega
  have hctl : s1.regF Reg.GNB_ACQCTL 15 8 = s.regF Reg.GNB_ACQCTL 15 8 := by simp (disch := lia) [regF, s1]
  have hm : m = mgetD s.gnb.mons k {} := rfl
  clear_value s1 m
  constructor
  · have h3 : s3.reg (Reg.GNB_INT k) = s1.reg (Reg.GNB_INT k) := by
      simp only [s3]
      split <;> simp (disch := lia) [setBitR, s2]
    clear_value s3
    split <;> simpa (disch := lia) [regF, h3] using hint
  · intro hhit habove hflag
    have hh : hit = true := decide_eq_true (hctl ▸ hhit)
    have hr : raise = true := by simp [raise, m', hh, hm, hflag, habove]
    have hc : clear = false := by simp [clear, hh]
    have h3 : s3 = (s2.setBitR Reg.GNB_STK 3).record .gnbInterference k [a.val, b.val, peak, (freq % 4096).toNat] := if_pos hr
    rw [if_neg (by simp [hc]), h3]
    simp (disch := lia) [setBitR, regB, s2, hr, hc]

theorem gnbAcqctlWrite_results {p : Party} {v : Word} {s : State} (hturn : s.turnOf p = true)
    (hon : s.portOff Reg.GNB_ACQCTL = false) (hthr : fld v 31 16 ≠ 0) (hlo : 3 ≤ fld v 15 8) (hhi : fld v 15 8 ≤ 60) :
    ∃ t, exec (.gnbAcqctlWrite p v) s = .next t ∧ t.reg Reg.GNB_ACQCTL = v &&& 0xFFFFFF00 := by
  refine ⟨_, congrArg Host.Outcome.next ((portWrite_of_turnOf hturn hon _).trans (if_neg ?_)), State.reg_setReg_same _ _ _⟩
  omega

theorem gnbCn0minWrite_results {p : Party} {v : Word} {s : State} (hturn : s.turnOf p = true)
    (hon : s.portOff Reg.GNB_CN0MIN = false) :
    (1000 ≤ fld v 15 0 → fld v 15 0 ≤ 4500 → ∃ t, exec (.gnbCn0minWrite p v) s = .next t ∧ t.reg Reg.GNB_CN0MIN = v &&& 0xFFFF)
      ∧ (4500 < fld v 15 0 → ∃ t, exec (.gnbCn0minWrite p v) s = .next t ∧ t.reg Reg.GNB_CN0MIN = s.reg Reg.GNB_CN0MIN
          ∧ t.regB Reg.GNB_STK 5 = true) := by
  refine ⟨fun hlo hhi => ?_, fun hhi => ?_⟩
  · exact ⟨_, congrArg Host.Outcome.next ((portWrite_of_turnOf hturn hon _).trans (if_neg (by omega))), State.reg_setReg_same _ _ _⟩
  · exact ⟨_, congrArg Host.Outcome.next ((portWrite_of_turnOf hturn hon _).trans (if_pos (.inr hhi))),
      State.reg_orBits_ne _ _ (by decide), by simp [regB, setBitR]⟩

/-- Settles O38: the antenna supplies, the search lists, the monitor and the thresholds, one lemma each. -/
theorem gnssSearchResults : Obligations.GnssSearchResults := by
  unfold Obligations.GnssSearchResults
  refine ⟨fun _ _ _ _ => antEnableWrite_results, fun a ma s => ⟨antOpen_results, antOk_results, antShort_results, antRetry_results⟩,
    fun p v s hturn hon => ⟨acqStart_results hturn hon, fun q => acqAbort_results hturn hon⟩, fun _ _ => searchEntryStart_results,
    fun _ _ _ _ _ _ _ => searchEntryEnd_results, interferenceMeasurement_results, fun a b s => ?_, fun _ _ _ => gnbAcqctlWrite_results,
    fun _ _ _ => gnbCn0minWrite_results⟩
  exact ⟨_, rfl, by simp [regB, setBitR], sameRegs_setBitR s _ _⟩

end Sys2Proof.Machine
end

section
/-! PROOFS. Tracking channels (R306 to R314): start, stop and loss of a channel, its integrations, the epochs and their
blocks, the navigation symbols; then the statement `Obligations.GnssChannelResults`. -/
namespace Sys2Proof.Machine

open State (setBitR clrBitR setRegF regB regF Leaves)

/-! ### A channel -/

theorem chan_updChan (s : State) (c q : Nat) (f : GnbChannel → GnbChannel) :
    (s.updChan c f).chan q = if q = c then f (s.chan c) else s.chan q := by
  simp [State.updChan, State.chan, mgetD_mput]

@[simp] theorem chan_updChan_same (s : State) (c : Nat) (f : GnbChannel → GnbChannel) : (s.updChan c f).chan c = f (s.chan c) := by
  simp [chan_updChan]

@[simp] theorem reg_updChan (s : State) (c a : Nat) (f : GnbChannel → GnbChannel) : (s.updChan c f).reg a = s.reg a := (rfl)

@[simp] theorem tb_updChan (s : State) (c : Nat) (f : GnbChannel → GnbChannel) : (s.updChan c f).tb = s.tb := (rfl)

@[simp] theorem chan_setReg (s : State) (c a : Nat) (v : Word) : (s.setReg a v).chan c = s.chan c := (rfl)

@[simp] theorem chanState_updChan (s : State) (c q : Nat) (f : GnbChannel → GnbChannel) :
    (s.updChan q f).chanState c = s.chanState c := (rfl)

/-- R308: a channel that changes state is in it. -/
theorem chanState_setChan (s : State) (c : Nat) {st : Nat} (h : st < 8) : (s.setChan c st).chanState c = st := by
  simp [State.setChan, State.chanState, regF, setRegF, fld_setFld_same, Nat.mod_eq_of_lt h]

theorem reg_setChan (s : State) {c st a : Nat} (h : a ≠ Reg.GNB_CHST c) : (s.setChan c st).reg a = s.reg a := by
  simp [State.setChan, setRegF, h]

/-! ### Configuration writes (R306) -/

theorem gnbChcfgWrite_results {p : Party} {c : Fin 160} {v : Word} {s : State} (hturn : s.turnOf p = true)
    (hon : s.portOff (Reg.GNB_CHCFG c) = false) (hprn : prnOk (fld v 29 26) (fld v 25 18) = true) (htint : fld v 17 15 ≤ 4)
    (hesp : 2 ≤ fld v 14 10) (hvsp : fld v 14 10 < fld v 9 5) :
    (bit v 31 = false → ∃ t, exec (.gnbChcfgWrite p c v) s = .next t ∧ t.chanState c = 0
        ∧ t.reg (Reg.GNB_CHCFG c) = v &&& 0xFFFFFFE0)
      ∧ (bit v 31 = true → tintMs (fld v 17 15) ≤ maxTint (fld v 29 26) →
          (turnDiff s.tmbNs (s.reg (Reg.GNB_CHT c))).natAbs ≤ 1000000000 → s.regB (Reg.GNB_CHCFG c) 31 = false →
          ∃ t, exec (.gnbChcfgWrite p c v) s = .next t ∧ t.chanState c = 1 ∧ t.reg (Reg.GNB_CHCFG c) = v &&& 0xFFFFFFE0) := by
  have hexec : exec (.gnbChcfgWrite p c v) s = .next ((s.turned p).chcfgWrite c v) :=
    congrArg Host.Outcome.next (portWrite_of_turnOf hturn hon _)
  have hsig : fld v 29 26 ≠ 7 := fun h => by simp [h, prnOk] at hprn
  have h4 : ¬ 4 < fld v 17 15 := by omega
  have h2 : ¬ fld v 14 10 < 2 := by omega
  have hv : ¬ fld v 9 5 ≤ fld v 14 10 := by omega
  refine ⟨fun hen => ⟨_, hexec, ?_⟩, fun hen hmax hdt hwas => ⟨_, hexec, ?_⟩⟩
  · have hacts : (s.turned p).chcfgWrite c v = ((s.turned p).setReg (Reg.GNB_CHCFG c) (v &&& 0xFFFFFFE0)).setChan c 0 := by
      simp [State.chcfgWrite, hsig, hprn, h4, h2, hv, hen]
    rw [hacts]
    exact ⟨chanState_setChan _ _ (by decide), (reg_setChan _ (by lia)).trans (State.reg_setReg_same _ _ _)⟩
  · have hold : bit (s.reg (Reg.GNB_CHCFG c)) 31 = false := hwas
    have hdt' : ¬ 1000000000 < (turnDiff (s.turned p).tmbNs (s.reg (Reg.GNB_CHT c))).natAbs := Nat.not_lt.2 hdt
    have hmax' : ¬ maxTint (fld v 29 26) < tintMs (fld v 17 15) := by omega
    simp (disch := lia) [State.chcfgWrite, hsig, hprn, h4, h2, hv, hen, hold, hdt', hmax', State.chanState, regF, setRegF,
      fld_setFld_same]

theorem gnbChloopWrite_results {p : Party} {c : Fin 160} {v : Word} {s : State} (hturn : s.turnOf p = true)
    (hon : s.portOff (Reg.GNB_CHLOOP c) = false) :
    (fld v 31 24 ≠ 0 → 4 ≤ fld v 23 16 → fld v 23 16 ≤ 200 → fld v 15 8 ≠ 0 → fld v 7 0 ≠ 0 →
        ∃ t, exec (.gnbChloopWrite p c v) s = .next t ∧ t.reg (Reg.GNB_CHLOOP c) = v)
      ∧ (200 < fld v 23 16 → ∃ t, exec (.gnbChloopWrite p c v) s = .next t ∧ t.reg (Reg.GNB_CHLOOP c) = s.reg (Reg.GNB_CHLOOP c)
          ∧ t.regB Reg.GNB_STK 1 = true) := by
  refine ⟨fun hp hlo hhi hf hl => ?_, fun hhi => ?_⟩
  · exact ⟨_, congrArg Host.Outcome.next ((portWrite_of_turnOf hturn hon _).trans (if_neg (by omega))), State.reg_setReg_same _ _ _⟩
  · exact ⟨_, congrArg Host.Outcome.next ((portWrite_of_turnOf hturn hon _).trans (if_pos (.inr (.inr (.inl hhi))))),
      State.reg_orBits_ne _ _ (by lia), by simp [regB, setBitR]⟩

/-! ### Integrations and states (R307, R308) -/

/-- R313: collecting a symbol leaves the loops. -/
theorem collect_loops (x : GnbChannel) (pi : Int) (last : Bool) (ep : Nat) :
    (x.collect pi last ep).meas = x.meas ∧ (x.collect pi last ep).loop = x.loop := by
  unfold GnbChannel.collect
  split <;> exact ⟨rfl, rfl⟩

theorem channelIntegration_results {c : Fin 160} {m : GnbMeas} {cn0 : Nat} {pi pq : Int} {slip sym : Bool} {s : State}
    (hrun : s.chanState c ≠ 0) (hheld : s.chanState c ≠ 4) :
    ∃ t, exec (.channelIntegration c m cn0 pi pq slip sym) s = .next t ∧ (t.chan c).meas = m
      ∧ (t.chan c).loop = s.reg (Reg.GNB_CHLOOP c) ∧ t.regF (Reg.GNB_CHST c) 15 0 = min cn0 65535
      ∧ t.chanState c = s.chanState c := by
  refine ⟨_, congrArg Host.Outcome.next (if_neg (not_or.2 ⟨hrun, hheld⟩)), ?_⟩
  extract_lets -lift +onlyGivenNames s1 low s2 s3
  have hst : fld (s1.reg (Reg.GNB_CHST c)) 15 0 = min cn0 65535 ∧ s1.chanState c = s.chanState c := by
    have hlt : min cn0 65535 < 65536 := by omega
    simp only [s1, State.chanState, regF, setRegF, State.reg_setReg_same]
    rw [fld_setFld_same _ _ (by decide) (by decide), fld_setFld_outside _ _ (by decide) (by decide)]
    exact ⟨Nat.mod_eq_of_lt hlt, rfl⟩
  have hloop : s1.reg (Reg.GNB_CHLOOP c) = s.reg (Reg.GNB_CHLOOP c) := by simp (disch := lia) [s1, setRegF]
  clear_value s1
  have h3 : (s3.chan c).meas = m ∧ (s3.chan c).loop = s.reg (Reg.GNB_CHLOOP c) ∧ s3.reg (Reg.GNB_CHST c) = s1.reg (Reg.GNB_CHST c) := by
    simp only [s3]
    split <;> simp [s2, hloop, collect_loops]
  clear_value s3
  obtain ⟨hmeas, hloops, hreg⟩ := h3
  have hreg' : fld (s3.reg (Reg.GNB_CHST c)) 15 0 = min cn0 65535 ∧ fld (s3.reg (Reg.GNB_CHST c)) 31 29 = s.regF (Reg.GNB_CHST c) 31 29 := hreg ▸ hst
  split <;> simp [hmeas, hloops, hreg', State.chanState, regF]

theorem channelState_results (c : Fin 160) (s : State) :
    (s.chanState c = 3 ∨ (s.chanState c = 1 ∧ s.tb.el - (s.chan c).startEl < 2000000000) → 100000000 ≤ s.tb.el - (s.chan c).stateEl →
        ∃ t, exec (.channelTrack c) s = .next t ∧ t.chanState c = 2)
      ∧ (s.chanState c = 1 → 2000000000 ≤ s.tb.el - (s.chan c).startEl →
          (∃ t, exec (.channelPullinTimeout c) s = .next t ∧ t.chanState c = 4) ∧ ∃ t, exec (.channelTrack c) s = .next t ∧ t.chanState c = 4)
      ∧ (s.chanState c = 2 → s.regF Reg.GNB_CN0MIN 15 0 ≤ s.regF (Reg.GNB_CHST c) 15 0 →
          ∃ t, exec (.channelCode c) s = .next t ∧ t.chanState c = 3 ∧ (t.chan c).slip = true)
      ∧ (∀ e, s.chanState c = 2 ∨ s.chanState c = 3 → (s.chan c).lowEl = some e → fld (s.chan c).loop 7 0 * 100000000 ≤ s.tb.el - e →
          ∃ t, exec (.channelLost c) s = .next t ∧ t.chanState c = 4) := by
  refine ⟨fun hst hlock => ?_, fun hst htime => ⟨?_, ?_⟩, fun hst hcn0 => ?_, fun e hst hlow htime => ?_⟩
  · exact ⟨_, congrArg Host.Outcome.next ((if_neg (by omega)).trans (if_pos ⟨by omega, hlock⟩)), chanState_setChan _ _ (by decide)⟩
  · exact ⟨_, congrArg Host.Outcome.next (if_pos ⟨hst, htime⟩), chanState_setChan _ _ (by decide)⟩
  · exact ⟨_, congrArg Host.Outcome.next (if_pos ⟨hst, htime⟩), chanState_setChan _ _ (by decide)⟩
  · exact ⟨_, congrArg Host.Outcome.next (if_pos ⟨hst, hcn0⟩), chanState_setChan _ _ (by decide), by simp⟩
  · refine ⟨s.setChan c 4, congrArg Host.Outcome.next ?_, chanState_setChan _ _ (by decide)⟩
    simp only [hlow]
    exact if_pos ⟨hst, htime⟩

/-! ### Navigation symbols (R313, R314) -/

/-- What an epoch reads that no navigation entry changes. -/
def State.epochView (s : State) : Word × Nat × List (List Word) := (s.reg Reg.GNB_EPSEQ, s.tb.t, s.gnb.blocks)

theorem navCounts_leaves_epochView (s : State) (b : Nat) : Leaves State.epochView s (s.navCounts b) := ⟨rfl⟩

theorem storeWords_leaves_epochView (s : State) (a : Nat) (ws : List Word) : Leaves State.epochView s (s.storeWords a ws) := ⟨rfl⟩

theorem updGnb_count_leaves_epochView (s : State) : Leaves State.epochView s (s.updGnb fun g => { g with navCount := g.navCount + 1 }) := ⟨rfl⟩

theorem navEntry_leaves_epochView (s : State) (c : Nat) (e : Nat × List Bool) : Leaves State.epochView s (s.navEntry c e) := by
  unfold State.navEntry
  dsimp only
  split
  · exact .after (navCounts_leaves_epochView _ _) (.after (updGnb_count_leaves_epochView _) (storeWords_leaves_epochView s _ _))
  · have hbump : Leaves State.epochView s ((s.bump Reg.GNB_NAVLOST e.2.length).updGnb fun g => { g with navLost := g.navLost + e.2.length }) :=
      ⟨by simp (disch := lia) [State.epochView, State.bump]⟩
    exact .ite (.after (navCounts_leaves_epochView _ _) hbump) hbump

theorem navWrite_leaves_epochView (s : State) (c : Nat) (full : Bool) : Leaves State.epochView s (s.navWrite c full) :=
  .after (.foldl fun u e => navEntry_leaves_epochView u c e) ⟨rfl⟩

/-- R313: the words of an entry and then the counts, stored in the current bank. -/
def State.navStore (s : State) (c : Nat) (e : Nat × List Bool) : State :=
  let cfg := s.reg (Reg.GNB_CHCFG c)
  ((s.storeWords (bankAddr s.navBank (16 + 16 * s.gnb.navCount))
      [wd (c * 2 ^ 24 + fld cfg 25 18 * 65536 + fld cfg 29 26 * 4096 + e.2.length), wd e.1, wd (symWord 31 e.2), 0]).updGnb
    (fun g => { g with navCount := g.navCount + 1 })).navCounts s.navBank

theorem navEntry_stores {s : State} (c : Nat) (e : Nat × List Bool) (hcount : s.gnb.navCount < 2047)
    (hown : s.owner s.navBank = gnbOwner) : s.navEntry c e = s.navStore c e := if_pos ⟨hcount, hown⟩

/-- R314: an entry without room or without the bank is dropped, its symbols counted. -/
theorem navEntry_drops {s : State} (c : Nat) (e : Nat × List Bool) (h : 2047 ≤ s.gnb.navCount ∨ s.owner s.navBank ≠ gnbOwner) :
    (s.navEntry c e).chan c = s.chan c ∧ (s.navEntry c e).reg Reg.GNB_NAVLOST = s.reg Reg.GNB_NAVLOST + wd e.2.length
      ∧ (s.navEntry c e).gnb.navLost = s.gnb.navLost + e.2.length := by
  let u := (s.bump Reg.GNB_NAVLOST e.2.length).updGnb fun g => { g with navLost := g.navLost + e.2.length }
  have hu : u.chan c = s.chan c ∧ u.reg Reg.GNB_NAVLOST = s.reg Reg.GNB_NAVLOST + wd e.2.length
      ∧ u.gnb.navLost = s.gnb.navLost + e.2.length := ⟨rfl, State.reg_setReg_same _ _ _, rfl⟩
  have hdrop : s.navEntry c e = if u.owner s.navBank = gnbOwner then u.navCounts s.navBank else u :=
    if_neg (by rcases h with h | h <;> simp [h])
  rw [hdrop]
  split <;> exact hu

/-- The words of a store of `ws` at offset `off` of a bank, within the bank, read back one by one. -/
theorem bankWord_storeWords_get {s : State} (hcanon : s.Canonical) (b off i : Nat) {ws : List Word} (hi : i < ws.length)
    (hfits : off + 4 * ws.length ≤ 32768) : (s.storeWords (bankAddr b off) ws).bankWord b (off + 4 * i) = ws[i] := by
  have hread := bankWords_storeWords hcanon (bankAddr b off) ws
  have haddr : bankAddr b (off + 4 * i) = bankAddr b off + 4 * i := by unfold bankAddr; omega
  have hget : ((s.storeWords (bankAddr b off) ws).bankWords (bankAddr b off) ws.length)[i]?
      = some ((s.storeWords (bankAddr b off) ws).bankWord b (off + 4 * i)) := by
    simp [State.bankWords, State.bankWord, haddr, hi]
  rw [hread, List.getElem?_eq_getElem hi] at hget
  exact (Option.some.inj hget).symm

/-- A store beside a word leaves it. -/
theorem bankWord_storeWords_beside {s : State} (hcanon : s.Canonical) {a b off : Nat} {ws : List Word}
    (h : bankAddr b off + 4 ≤ a ∨ a + 4 * ws.length ≤ bankAddr b off) : (s.storeWords a ws).bankWord b off = s.bankWord b off := by
  have hcells : ∀ i, i < 4 → cellGet (s.storeWords a ws).banks.cells (bankAddr b off + i) = cellGet s.banks.cells (bankAddr b off + i) :=
    fun i hi => byteAt_storeWords_beside hcanon ws (by omega)
  simp only [State.bankWord, State.bankNum, cellsGet]
  rw [List.map_congr_left fun i hi => hcells i (List.mem_range.1 hi)]

theorem navStore_gnb (s : State) (c q : Nat) (e : Nat × List Bool) :
    (s.navStore c e).gnb.navCount = s.gnb.navCount + 1 ∧ (s.navStore c e).chan q = s.chan q := by
  have hcounts : ∀ (u : State) b, (u.navCounts b).gnb = u.gnb := fun _ _ => rfl
  have hstore : ∀ (u : State) a ws, (u.storeWords a ws).gnb = u.gnb := fun _ _ _ => rfl
  simp only [State.navStore, State.chan, hcounts, State.updGnb, hstore, and_self]

theorem navStore_results {s : State} (c : Nat) (e : Nat × List Bool) (hcount : s.gnb.navCount < 2047) (hcanon : s.Canonical) :
    (s.navStore c e).bankWord s.navBank (16 + 16 * s.gnb.navCount + 4) = BitVec.ofNat 32 e.1
      ∧ (s.navStore c e).bankWord s.navBank 0 = BitVec.ofNat 32 (s.gnb.navCount + 1) := by
  unfold State.navStore
  extract_lets -lift +onlyGivenNames cfg
  generalize hws : [wd (c * 2 ^ 24 + fld cfg 25 18 * 65536 + fld cfg 29 26 * 4096 + e.2.length), wd e.1, wd (symWord 31 e.2), 0] = ws
  let s1 := (s.storeWords (bankAddr s.navBank (16 + 16 * s.gnb.navCount)) ws).updGnb fun g => { g with navCount := g.navCount + 1 }
  have hcanon1 : s1.Canonical := storeWords_canonical s _ _ hcanon
  have hlen : ws.length = 4 := by rw [← hws]; rfl
  constructor
  · calc (s1.navCounts s.navBank).bankWord s.navBank (16 + 16 * s.gnb.navCount + 4)
        = s1.bankWord s.navBank (16 + 16 * s.gnb.navCount + 4) :=
          bankWord_storeWords_beside hcanon1 (.inr (by simp only [bankAddr, List.length_cons, List.length_nil]; omega))
      _ = ws[1] := bankWord_storeWords_get hcanon _ _ 1 (by omega) (by omega)
      _ = BitVec.ofNat 32 e.1 := by simp [← hws, wd]
  · exact bankWord_storeWords_get (ws := [wd s1.gnb.navCount, wd s1.gnb.navLost]) hcanon1 _ 0 0 (by simp) (by simp)

/-- R313: the entry of 32 symbols is stored, and the counts of the bank. -/
theorem navSymbolEntry_results {c : Fin 160} {e : Nat × List Bool} {s : State} (hen : s.regB Reg.GNB_NAVCTL 31 = true)
    (hsyms : (s.chan c).syms = [e]) :
    (e.2.length = 32 → s.gnb.navCount < 2047 → s.owner s.navBank = gnbOwner → s.Canonical →
        ∃ t, exec (.navSymbolEntry c) s = .next t ∧ t.gnb.navCount = s.gnb.navCount + 1 ∧ (t.chan c).syms = []
          ∧ t.bankWord s.navBank (16 + 16 * s.gnb.navCount + 4) = BitVec.ofNat 32 e.1
          ∧ t.bankWord s.navBank 0 = BitVec.ofNat 32 (s.gnb.navCount + 1))
      ∧ (e.2.length = 32 → 2047 ≤ s.gnb.navCount →
          ∃ t, exec (.navSymbolEntry c) s = .next t ∧ (t.chan c).syms = []
            ∧ t.reg Reg.GNB_NAVLOST = s.reg Reg.GNB_NAVLOST + 32 ∧ t.gnb.navLost = s.gnb.navLost + 32)
      ∧ (e.2.length < 32 → ∃ t, exec (.navSymbolEntry c) s = .next t ∧ (t.chan c).syms = [e] ∧ sameBytes s t ∧ sameRegs s t []) := by
  let u := s.updChan c fun x => { x with syms := [] }
  have hfull : e.2.length = 32 → exec (.navSymbolEntry c) s = .next (u.navEntry c e) := fun hlen =>
    congrArg Host.Outcome.next ((if_pos hen).trans (by simp [State.navWrite, hsyms, hlen, u]))
  have hu : (u.chan c).syms = [] := by simp [u]
  have hread : u.gnb.navCount = s.gnb.navCount ∧ u.navBank = s.navBank ∧ u.gnb.navLost = s.gnb.navLost := ⟨rfl, rfl, rfl⟩
  have hregs : u.reg Reg.GNB_NAVLOST = s.reg Reg.GNB_NAVLOST := rfl
  have hkeep : (s.Canonical → u.Canonical) ∧ u.owner s.navBank = s.owner s.navBank := ⟨id, rfl⟩
  clear_value u
  obtain ⟨hn, hb, hl⟩ := hread
  refine ⟨fun hlen hcount hown hcanon => ⟨_, hfull hlen, ?_⟩, fun hlen hcount => ⟨_, hfull hlen, ?_⟩, fun hlen => ?_⟩
  · obtain ⟨hword, hcount'⟩ := navStore_results (s := u) c e (hn ▸ hcount) (hkeep.1 hcanon)
    obtain ⟨hgnb, hchan⟩ := navStore_gnb u c c e
    rw [navEntry_stores c e (hn ▸ hcount) (by rw [hb, hkeep.2, hown]), ← hn, ← hb]
    exact ⟨hgnb, (congrArg GnbChannel.syms hchan).trans hu, hword, hcount'⟩
  · obtain ⟨hchan, hreg, hlost⟩ := navEntry_drops (s := u) c e (.inl (hn ▸ hcount))
    rw [hlen] at hreg hlost
    exact ⟨(congrArg GnbChannel.syms hchan).trans hu, hreg.trans (congrArg (· + 32) hregs), hl ▸ hlost⟩
  · have hne : e.2.length ≠ 32 := by omega
    refine ⟨_, congrArg Host.Outcome.next (if_pos hen), ?_⟩
    simp only [State.navWrite, hsyms, Bool.not_true, Bool.false_or, List.filter_cons, List.filter_nil, if_false,
      List.foldl_nil, beq_eq_false_iff_ne.2 hne, Bool.not_false, if_true, Bool.false_eq_true]
    exact ⟨by simp, fun _ => ⟨rfl, rfl⟩, fun _ _ _ => rfl⟩

/-! ### Epochs (R310 to R312) -/

/-- R311: a block is whole records of eight words. -/
theorem length_records (s : State) (f : Nat → GnbMeas) (l : List Nat) :
    (l.map fun c => s.chanRecord c (f c)).flatten.length = 8 * l.length := by
  induction l with
  | nil => rfl
  | cons c l ih => simp only [List.map_cons, List.flatten_cons, List.length_append, ih, List.length_cons]; simp [State.chanRecord]; omega

theorem epochStrobe_results {meas : List (Nat × GnbMeas)} {s : State} (hen : s.regB Reg.GNB_EPCTL 31 = true)
    (hper : 0 < s.regF Reg.GNB_EPCTL 15 0 * 1000000) (hon : s.gnb.stopped = false)
    (hdue : s.gnb.lastT / (s.regF Reg.GNB_EPCTL 15 0 * 1000000) < s.tb.t / (s.regF Reg.GNB_EPCTL 15 0 * 1000000))
    (hstep : s.noStep) :
    ∃ t block, exec (.epochStrobe meas) s = .next t ∧ t.reg Reg.GNB_EPSEQ = s.reg Reg.GNB_EPSEQ + 1 ∧ t.gnb.lastT = s.tb.t
      ∧ t.gnb.blocks = s.gnb.blocks ++ [block] ∧ block.head? = some (s.reg Reg.GNB_EPSEQ + 1) ∧ block.length % 8 = 0 := by
  suffices h : ∃ t, exec (.epochStrobe meas) s = .next t ∧ t.reg Reg.GNB_EPSEQ = s.reg Reg.GNB_EPSEQ + 1 ∧ t.gnb.lastT = s.tb.t
      ∧ ∃ block, t.gnb.blocks = s.gnb.blocks ++ [block] ∧ block.head? = some (s.reg Reg.GNB_EPSEQ + 1) ∧ block.length % 8 = 0 by
    obtain ⟨t, hexec, hseq, hlast, block, hblock⟩ := h
    exact ⟨t, block, hexec, hseq, hlast, hblock⟩
  have hdue' : (s.regB Reg.GNB_EPCTL 31 && s.regF Reg.GNB_EPCTL 15 0 * 1000000 != 0 && !s.gnb.stopped
      && decide (s.gnb.lastT / (s.regF Reg.GNB_EPCTL 15 0 * 1000000) < s.tb.t / (s.regF Reg.GNB_EPCTL 15 0 * 1000000))) = true := by
    simp [hen, hon, hdue]; omega
  refine ⟨_, congrArg Host.Outcome.next ((if_pos hdue').trans (inStep_of_noStep hstep true 3 _)), ?_⟩
  extract_lets -lift +onlyGivenNames t s1 chs val block s2
  have h1 : s1.reg Reg.GNB_EPSEQ = s.reg Reg.GNB_EPSEQ + 1 := State.reg_setReg_same _ _ _
  have hblock : block.head? = some (s.reg Reg.GNB_EPSEQ + 1) ∧ block.length % 8 = 0 := by
    have hlen : block.length = 8 + 8 * chs.length := by
      rw [List.length_append, length_records]; rfl
    exact ⟨congrArg some h1, by omega⟩
  have h2 : Leaves State.epochView s1 s2 := .ite (.foldl fun u c => .ite (.refl u) (navWrite_leaves_epochView u c false)) (.refl s1)
  have hview : (s2.reg Reg.GNB_EPSEQ, s2.tb.t, s2.gnb.blocks) = (s1.reg Reg.GNB_EPSEQ, s.tb.t, s.gnb.blocks) := h2.eq
  clear_value s1 s2 block
  obtain ⟨hseq, ht, hblocks⟩ : s2.reg Reg.GNB_EPSEQ = s1.reg Reg.GNB_EPSEQ ∧ s2.tb.t = s.tb.t ∧ s2.gnb.blocks = s.gnb.blocks := by
    simpa using hview
  exact ⟨hseq.trans h1, ht, block, congrArg (· ++ [block]) hblocks, hblock⟩

/-! ### Blocks delivered (R312) -/

theorem fusDeliver_leaves_gnb (s : State) (k : Nat) (ws : List Word) : Leaves State.gnb s (s.fusDeliver k ws) := by
  unfold State.fusDeliver
  refine .ite ?_ (.refl s)
  dsimp only
  split <;> exact ⟨rfl⟩

theorem ringWrite_leaves_gnb (b base len : Nat) (ws : List Word) : ∀ (p : Nat) (s : State),
    Leaves State.gnb s (s.ringWrite b base len p ws) := by
  induction ws with
  | nil => exact fun _ s => .refl s
  | cons w t ih => exact fun p s => .after (ih _ _) ⟨rfl⟩

theorem ringDeliver_leaves_gnb (s : State) (n : Nat) (el : List Word) : Leaves State.gnb s (s.ringDeliver n el) := by
  unfold State.ringDeliver
  have hwrite := fun b base len p => ringWrite_leaves_gnb b base len el p (s.touch b)
  exact .ite ⟨(hwrite _ _ _ _).eq⟩ ⟨rfl⟩

theorem routeDeliver_leaves_gnb (s : State) (n : Nat) (el : List Word) : Leaves State.gnb s (s.routeDeliver n el) := by
  unfold State.routeDeliver
  refine .ite ⟨rfl⟩ ?_
  split
  · exact ringDeliver_leaves_gnb s n el
  · exact ⟨rfl⟩
  · exact fusDeliver_leaves_gnb s _ el

theorem blockEvent_leaves_gnb (s : State) (cls idx : Nat) : Leaves State.gnb s (s.blockEvent cls idx) := by
  obtain ⟨x, h⟩ := blockEvent_eq s cls idx
  exact ⟨by rw [h]⟩

theorem epochBlockDelivery_results {b : List Word} {rest : List (List Word)} {s : State} (h : s.gnb.blocks = b :: rest) :
    ∃ t, exec .epochBlockDelivery s = .next t ∧ t.gnb.blocks = rest := by
  let u := s.updGnb fun g => { g with blocks := rest }
  have hexec : exec .epochBlockDelivery s = .next ((u.deliverNow 3 0 b).blockEvent 2 0) := by
    refine congrArg Host.Outcome.next ?_
    simp only [h]
    rfl
  have hgnb : Leaves State.gnb u ((u.deliverNow 3 0 b).blockEvent 2 0) :=
    .after (blockEvent_leaves_gnb _ _ _) (.foldl fun v n => routeDeliver_leaves_gnb v n b)
  exact ⟨_, hexec, congrArg Gnb.blocks hgnb.eq⟩

/-- Settles O39: the writes of a channel, its integrations and states, the epochs and the symbols, one lemma each. -/
theorem gnssChannelResults : Obligations.GnssChannelResults := by
  unfold Obligations.GnssChannelResults
  exact ⟨fun _ _ _ _ => gnbChcfgWrite_results, fun _ _ _ _ => gnbChloopWrite_results,
    fun _ _ _ _ _ _ _ _ => channelIntegration_results, channelState_results, fun _ _ => epochStrobe_results,
    fun _ _ _ => epochBlockDelivery_results, fun _ _ _ => navSymbolEntry_results⟩

end Sys2Proof.Machine
end

section
/-! PROOFS. The time count (R319, R321 to R324, R326, R327): the latch of a reading party, the servo, a step at the second
boundary, sources lost and returned; then the statement `Obligations.TimeCountResults`. -/
namespace Sys2Proof.Machine

open State (setBitR clrBitR setRegF regB regF Leaves)

/-! ### The latch of a reading party (R319) -/

@[simp] theorem preg_setPreg_same (s : State) (p a : Nat) (v : Word) : (s.setPreg p a v).preg p a = v := by
  simp [State.preg, State.setPreg]

@[simp] theorem preg_setPreg_ne (s : State) (p : Nat) {a b : Nat} (v : Word) (h : b ≠ a) : (s.setPreg p a v).preg p b = s.preg p b := by
  simp [State.preg, State.setPreg, mgetD_mput, h]

theorem tmbNsRead_results {p : Party} {s : State} (hturn : s.inTurn 0 = true) :
    ∃ t, exec (.tmbNsRead p) s = .next t ∧ t.preg (partyNo p) Reg.TMB_NSHI = BitVec.ofNat 32 (s.tb.t / 2 ^ 32)
      ∧ t.preg (partyNo p) Reg.TMB_SEC = BitVec.ofNat 32 (s.tb.t / 1000000000)
      ∧ t.preg (partyNo p) Reg.TMB_SUB = BitVec.ofNat 32 (s.tb.t % 1000000000) ∧ t.tb = s.tb ∧ t.regs = s.regs := by
  refine ⟨_, congrArg Host.Outcome.next (if_pos hturn), ?_⟩
  simp -implicitDefEqProofs (disch := lia) [State.latchTime, wd]

/-! ### The servo (R323, R324) -/

/-- What an offset leaves alone: T, the elapsed time, the posts, TMB_OFS. -/
def State.offsetView (s : State) : Nat × Nat × Option Nat × Word := (s.tb.t, s.tb.el, s.tb.lastGpost, s.reg Reg.TMB_OFS)

theorem updTb_leaves_offsetView (s : State) {f : Timebase → Timebase}
    (hf : ∀ b, (f b).t = b.t ∧ (f b).el = b.el ∧ (f b).lastGpost = b.lastGpost) : Leaves State.offsetView s (s.updTb f) :=
  ⟨by simp only [State.offsetView, State.updTb_tb, hf, State.reg_updTb]⟩

theorem formUnc_leaves_offsetView (s : State) : Leaves State.offsetView s s.formUnc :=
  ⟨by simp -implicitDefEqProofs (disch := lia) [State.offsetView, State.formUnc]⟩

theorem noteOffset_leaves_offsetView (s : State) (o : Int) : Leaves State.offsetView s (s.noteOffset o) :=
  .after (formUnc_leaves_offsetView _) (updTb_leaves_offsetView _ fun _ => ⟨rfl, rfl, rfl⟩)

theorem decideStep_leaves_offsetView (s : State) (o : Int) : Leaves State.offsetView s (s.decideStep o) :=
  .after (formUnc_leaves_offsetView _) ⟨rfl⟩

theorem servo_leaves_offsetView (s : State) (o : Int) : Leaves State.offsetView s (s.servo o) :=
  ⟨by simp -implicitDefEqProofs (disch := lia) [State.offsetView, State.servo]⟩

/-- R326: the set of offsets and the state of the timebase do not touch the servo. -/
def State.servoView (s : State) : Int × Option Int × Word := (s.tb.rate, s.tb.step, s.reg Reg.TMB_FADJ)

theorem updTb_leaves_servoView (s : State) {f : Timebase → Timebase} (hf : ∀ b, (f b).rate = b.rate ∧ (f b).step = b.step) :
    Leaves State.servoView s (s.updTb f) :=
  ⟨by simp only [State.servoView, State.updTb_tb, hf, State.reg_updTb]⟩

theorem formUnc_leaves_servoView (s : State) : Leaves State.servoView s s.formUnc :=
  ⟨by simp -implicitDefEqProofs (disch := lia) [State.servoView, State.formUnc]⟩

theorem noteOffset_leaves_servoView (s : State) (o : Int) : Leaves State.servoView s (s.noteOffset o) :=
  .after (formUnc_leaves_servoView _) (updTb_leaves_servoView _ fun _ => ⟨rfl, rfl⟩)

/-- R323: the rate of the servo stays in its range, and TMB_FADJ shows it. -/
theorem servo_results (s : State) (o : Int) : -128000000 ≤ (s.servo o).tb.rate ∧ (s.servo o).tb.rate ≤ 128000000
    ∧ (s.servo o).tb.step = s.tb.step ∧ (s.servo o).reg Reg.TMB_FADJ = BitVec.ofInt 32 (s.servo o).tb.rate := by
  obtain ⟨hlo, hhi⟩ := clampI_mem (lo := -128000000) (hi := 128000000) (by decide)
    (-(clampI (-128000000) 128000000 (s.tb.f + rdiv (o * (s.regF Reg.TMB_GAIN 23 16 : Int)) (s.regF Reg.TMB_GAIN 4 0))
      + clampI (-((s.regF Reg.TMB_SRV 8 0 : Nat) * 256000)) ((s.regF Reg.TMB_SRV 8 0 : Nat) * 256000)
        (rdiv (o * (s.regF Reg.TMB_GAIN 31 24 : Int)) (s.regF Reg.TMB_GAIN 12 8))))
  exact ⟨hlo, hhi, rfl, State.reg_setReg_same _ _ _⟩

/-- R323: an offset within the threshold moves the servo. -/
theorem takeOffset_small {o : Int} {s : State} (hstep : s.tb.step = none) (hthr : o.natAbs ≤ s.regF Reg.TMB_STEPTHR 15 0 * 1000) :
    Leaves State.servoView ((s.setReg Reg.TMB_OFS (sat32 o)).servo o) (s.takeOffset o)
      ∧ Leaves State.offsetView (s.setReg Reg.TMB_OFS (sat32 o)) (s.takeOffset o) := by
  have hnot : ¬ s.tb.step.isSome = true := by simp [hstep]
  have hthr' : (s.setReg Reg.TMB_OFS (sat32 o)).regF Reg.TMB_STEPTHR 15 0 = s.regF Reg.TMB_STEPTHR 15 0 := by
    simp -implicitDefEqProofs (disch := lia) [regF]
  unfold State.takeOffset
  rw [if_neg hnot]
  extract_lets -lift +onlyGivenNames u thr
  have hle : ¬ thr < o.natAbs := by
    rw [show thr = s.regF Reg.TMB_STEPTHR 15 0 * 1000 from congrArg (· * 1000) hthr']; omega
  rw [if_neg hle]
  extract_lets -lift +onlyGivenNames v small w
  have hv : Leaves State.offsetView u v := servo_leaves_offsetView u o
  have hw : Leaves State.servoView v w := .after (noteOffset_leaves_servoView _ _) (updTb_leaves_servoView _ fun _ => ⟨rfl, rfl⟩)
  have hw' : Leaves State.offsetView v w := .after (noteOffset_leaves_offsetView _ _) (updTb_leaves_offsetView _ fun _ => ⟨rfl, rfl, rfl⟩)
  have hlock : ∀ x : State, Leaves State.servoView x (x.setRegF Reg.TMB_STAT 31 30 2)
      ∧ Leaves State.offsetView x (x.setRegF Reg.TMB_STAT 31 30 2) := fun x =>
    ⟨⟨by simp -implicitDefEqProofs (disch := lia) [State.servoView, setRegF]⟩, ⟨by simp -implicitDefEqProofs (disch := lia) [State.offsetView, setRegF]⟩⟩
  clear_value w small
  exact ⟨.ite (.after (updTb_leaves_servoView _ fun _ => ⟨rfl, rfl⟩) (.after (hlock w).1 hw)) hw,
    .ite (.after (updTb_leaves_offsetView _ fun _ => ⟨rfl, rfl, rfl⟩) (.after (hlock w).2 (.after hw' hv))) (.after hw' hv)⟩

/-- R324: an offset that is no part of a pending step is shown in TMB_OFS. -/
theorem takeOffset_offsetView (s : State) (o : Int) : (s.takeOffset o).tb.lastGpost = s.tb.lastGpost
    ∧ (s.tb.step = none → (s.takeOffset o).reg Reg.TMB_OFS = sat32 o) := by
  by_cases hstep : s.tb.step = none
  · suffices h : Leaves State.offsetView (s.setReg Reg.TMB_OFS (sat32 o)) (s.takeOffset o) by
      have hview := h.eq
      simp only [State.offsetView, Prod.mk.injEq, State.setReg_tb, State.reg_setReg_same] at hview
      obtain ⟨-, -, hpost, hofs⟩ := hview
      exact ⟨hpost, fun _ => hofs⟩
    by_cases hthr : o.natAbs ≤ s.regF Reg.TMB_STEPTHR 15 0 * 1000
    · exact (takeOffset_small hstep hthr).2
    · have hthr' : (s.setReg Reg.TMB_OFS (sat32 o)).regF Reg.TMB_STEPTHR 15 0 = s.regF Reg.TMB_STEPTHR 15 0 := by
        simp -implicitDefEqProofs (disch := lia) [regF]
      unfold State.takeOffset
      rw [if_neg (by simp [hstep])]
      dsimp only
      rw [if_pos (by omega)]
      exact .ite (decideStep_leaves_offsetView _ _) (.after (noteOffset_leaves_offsetView _ _) (updTb_leaves_offsetView _ fun _ => ⟨rfl, rfl, rfl⟩))
  · exact ⟨by rw [State.takeOffset, if_pos (Option.isSome_iff_ne_none.2 hstep)], fun h => absurd h hstep⟩

/-- R324: the step that answers an offset is its nearest multiple of 4. -/
theorem stepOf_offset (o : Int) : 4 * rdiv (-o) 2 % 4 = 0 ∧ (4 * rdiv (-o) 2 + o).natAbs ≤ 2 := by
  unfold rdiv
  dsimp only
  constructor
  · omega
  · split
    · omega
    · split <;> omega

theorem servoOffset_results {src : Nat} {o : Int} {s : State} (hsrc : src ≠ 0) (huse : src = s.srcInUse) (hstep : s.tb.step = none) :
    (o.natAbs ≤ s.regF Reg.TMB_STEPTHR 15 0 * 1000 → ∃ t, exec (.servoOffset src o) s = .next t ∧ t.reg Reg.TMB_OFS = sat32 o
        ∧ t.reg Reg.TMB_FADJ = BitVec.ofInt 32 t.tb.rate ∧ -128000000 ≤ t.tb.rate ∧ t.tb.rate ≤ 128000000 ∧ t.tb.step = none
        ∧ t.tb.t = s.tb.t)
      ∧ (s.regF Reg.TMB_STEPTHR 15 0 * 1000 < o.natAbs → s.tb.everLocked = false → s.tb.fresh = true →
          ∃ t d, exec (.servoOffset src o) s = .next t ∧ t.tb.step = some d ∧ d % 4 = 0 ∧ (d + o).natAbs ≤ 2
            ∧ t.tb.rate = s.tb.rate ∧ t.tb.t = s.tb.t) := by
  have hexec : exec (.servoOffset src o) s = .next (s.takeOffset o) := congrArg Host.Outcome.next (if_pos ⟨hsrc, huse⟩)
  refine ⟨fun hthr => ⟨_, hexec, ?_⟩, fun hthr hnever hfresh => ?_⟩
  · obtain ⟨hservo, hoffset⟩ := takeOffset_small hstep hthr
    obtain ⟨hlo, hhi, hnone, hshow⟩ := servo_results (s.setReg Reg.TMB_OFS (sat32 o)) o
    have hT : ((s.setReg Reg.TMB_OFS (sat32 o)).servo o).tb.t = s.tb.t := rfl
    generalize (s.setReg Reg.TMB_OFS (sat32 o)).servo o = u at *
    obtain ⟨hrate, hst, hfadj⟩ : (s.takeOffset o).tb.rate = u.tb.rate ∧ (s.takeOffset o).tb.step = u.tb.step
        ∧ (s.takeOffset o).reg Reg.TMB_FADJ = u.reg Reg.TMB_FADJ := by
      simpa only [State.servoView, Prod.mk.injEq] using hservo.eq
    have ht : (s.takeOffset o).tb.t = s.tb.t := congrArg Prod.fst hoffset.eq
    rw [hrate, hst, hfadj, ht]
    exact ⟨(takeOffset_offsetView s o).2 hstep, hshow, hlo, hhi, hnone.trans hstep, rfl⟩
  · have hthr' : (s.setReg Reg.TMB_OFS (sat32 o)).regF Reg.TMB_STEPTHR 15 0 = s.regF Reg.TMB_STEPTHR 15 0 := by
      simp -implicitDefEqProofs (disch := lia) [regF]
    have hlarge : (s.setReg Reg.TMB_OFS (sat32 o)).regF Reg.TMB_STEPTHR 15 0 * 1000 < o.natAbs := by rw [hthr']; exact hthr
    have hfirst : ((!(s.setReg Reg.TMB_OFS (sat32 o)).tb.everLocked && (s.setReg Reg.TMB_OFS (sat32 o)).tb.fresh)
        || decide ((s.setReg Reg.TMB_OFS (sat32 o)).tb.overs = 1)) = true := by rw [State.setReg_tb, hnever, hfresh]; rfl
    have hacts : s.takeOffset o = (s.setReg Reg.TMB_OFS (sat32 o)).decideStep o := by
      unfold State.takeOffset
      rw [if_neg (by simp [hstep])]
      dsimp only
      rw [if_pos hlarge, if_pos hfirst]
    obtain ⟨hmul, hnear⟩ := stepOf_offset o
    exact ⟨_, _, hexec.trans (congrArg _ hacts), rfl, hmul, hnear, rfl, rfl⟩

/-! ### The step at the second boundary (R324) -/

theorem evalAxis_leaves_tbRegs (s : State) (n : Nat) (jump : Bool) : Leaves (fun u => (u.tb, u.regs)) s (s.evalAxis n jump) :=
  .after (.foldl fun _ _ => ⟨rfl⟩) (.foldl fun _ _ => ⟨rfl⟩)

theorem jumpFusion_leaves_tb (s : State) : Leaves State.tb s s.jumpFusion := by
  have h : Leaves State.tb s (s.fus.queue.foldl (fun s q => (s.drop (Reg.FUS_NPEND q.slot)).bump (Reg.FUS_NLATE q.slot)) s) :=
    .foldl fun _ _ => ⟨rfl⟩
  exact ⟨h.eq⟩

/-- T and the pending step. -/
def State.stepView (s : State) : Nat × Option Int := (s.tb.t, s.tb.step)

theorem stepView_fields {s t : State} (h : Leaves State.stepView s t) : t.tb.t = s.tb.t ∧ t.tb.step = s.tb.step :=
  Prod.ext_iff.1 h.eq

theorem stepView_of_tb {s t : State} (h : Leaves State.tb s t) : Leaves State.stepView s t := ⟨by rw [State.stepView, h.eq, State.stepView]⟩

theorem regridTriggers_leaves_stepView (s : State) : Leaves State.stepView s s.regridTriggers :=
  ⟨by simp -implicitDefEqProofs [State.stepView, State.regridTriggers]⟩

/-- The parts of the step that name the ports it sets. -/
theorem applyStep_results (s : State) (old boundary : Nat) (d : Int) :
    ((s.applyStep old boundary d).tb.t : Int) = ((boundary : Nat) + d) % 2 ^ 64 ∧ (s.applyStep old boundary d).tb.step = none
      ∧ (d.natAbs < 0x40000000 → (s.applyStep old boundary d).regB Reg.TMB_STK 0 = true
          ∧ (s.applyStep old boundary d).reg Reg.TMB_NSTEP = s.reg Reg.TMB_NSTEP + 1) := by
  unfold State.applyStep
  extract_lets -lift +onlyGivenNames t' jump s1 src s2 s3 s4 s5
  have ht' : t' < 2 ^ 64 := by simp only [t']; omega
  have h3 : s3.stepView = (t', none) := congrArg (fun n => (n, none)) (Nat.mod_eq_of_lt ht')
  have hn3 : s3.reg Reg.TMB_NSTEP = s.reg Reg.TMB_NSTEP := State.reg_setReg_ne _ _ (by decide)
  have h4 : s4.stepView = (t', none) ∧ s4.regB Reg.TMB_STK 0 = true ∧ s4.reg Reg.TMB_NSTEP = s.reg Reg.TMB_NSTEP + 1 := by
    refine ⟨?_, ?_, ?_⟩
    · simpa [s4, State.stepView, State.bump, setBitR] using h3
    · simp -implicitDefEqProofs (disch := lia) [s4, setBitR, regB]
    · simp -implicitDefEqProofs (disch := lia) [s4, setBitR, State.bump, hn3, wd]
  have h5 : s5.stepView = (t', none) ∧ s5.regB Reg.TMB_STK 0 = true ∧ s5.reg Reg.TMB_NSTEP = s.reg Reg.TMB_NSTEP + 1 := by
    simp only [s5]
    split
    · simpa (disch := lia) [State.stepView, setBitR, regB] using h4
    · exact h4
  clear_value s5
  obtain ⟨hview, hstk, hn⟩ := h5
  have hT : (t' : Int) = ((boundary : Nat) + d) % 2 ^ 64 := by simp only [t']; omega
  obtain ⟨ht5, hst5⟩ : s5.tb.t = t' ∧ s5.tb.step = none := Prod.ext_iff.1 hview
  clear_value t'
  split
  case isTrue hj =>
    have hbig : ¬ d.natAbs < 0x40000000 := Nat.not_lt.2 (of_decide_eq_true hj)
    extract_lets -lift +onlyGivenNames s6 s7 s8
    have h6 : Leaves State.stepView s5 s6 := ⟨by simp [s6, State.stepView, setBitR]⟩
    have h7 : Leaves State.stepView s6 s7 := stepView_of_tb ⟨congrArg Prod.fst (evalAxis_leaves_tbRegs s6 0 true).eq⟩
    have h8 : Leaves State.stepView s7 s8 := .foldl fun _ _ => ⟨rfl⟩
    have h9 := regridTriggers_leaves_stepView s8
    have h10 : Leaves State.stepView s8.regridTriggers s8.regridTriggers.jumpFusion := stepView_of_tb (jumpFusion_leaves_tb _)
    generalize s8.regridTriggers.jumpFusion = w at h10
    obtain ⟨ht, hst⟩ := stepView_fields (.after h10 (.after h9 (.after h8 (.after h7 h6))))
    rw [ht, hst, ht5, hst5]
    exact ⟨hT, rfl, fun hsmall => absurd hsmall hbig⟩
  case isFalse =>
    extract_lets -lift +onlyGivenNames s6
    have h6 : Leaves (fun u => (u.tb, u.regs)) s5 s6 := evalAxis_leaves_tbRegs s5 0 false
    have hend : ∀ w, Leaves (fun u => (u.tb, u.regs)) s5 w → (w.tb.t : Int) = ((boundary : Nat) + d) % 2 ^ 64 ∧ w.tb.step = none
        ∧ (d.natAbs < 0x40000000 → w.regB Reg.TMB_STK 0 = true ∧ w.reg Reg.TMB_NSTEP = s.reg Reg.TMB_NSTEP + 1) := by
      intro w hw
      obtain ⟨htb, hregs⟩ := Prod.ext_iff.1 hw.eq
      simp only [regB, State.reg] at htb hregs hstk hn ⊢
      rw [htb, hregs, ht5, hst5]
      exact ⟨hT, rfl, fun _ => ⟨hstk, hn⟩⟩
    refine hend _ (.ite (.after (.foldl fun u c => ?_) h6) h6)
    dsimp only
    split
    · exact .refl u
    · exact .ite ⟨rfl⟩ (.refl u)

theorem timeStep_results {d : Int} {s : State} (hstep : s.tb.step = some d)
    (hdue : s.tb.t / 1000000000 < (s.tb.t + (tbcAdvance s.tb.acc s.tb.rate).1) / 1000000000) :
    let b := (s.tb.t + (tbcAdvance s.tb.acc s.tb.rate).1) / 1000000000
    ∃ t, exec .timeStep s = .next t ∧ (t.tb.t : Int) = ((b * 1000000000 : Nat) + d) % 2 ^ 64 ∧ t.tb.step = none
      ∧ (d.natAbs < 0x40000000 → t.regB Reg.TMB_STK 0 = true ∧ t.reg Reg.TMB_NSTEP = s.reg Reg.TMB_NSTEP + 1) := by
  intro b
  let u := s.updTb fun x => { x with acc := (tbcAdvance x.acc x.rate).2, el := x.el + 4 }
  have hexec : exec .timeStep s = .next (u.applyStep s.tb.t (b * 1000000000) d) := by
    refine congrArg Host.Outcome.next ?_
    simp only [hstep]
    exact if_pos hdue
  exact ⟨_, hexec, applyStep_results u s.tb.t (b * 1000000000) d⟩

/-! ### Sources (R326, R327) -/

theorem useSource_results (s : State) {c : Nat} (hc : c < 8) : (s.useSource c).tb.valid = s.tb.valid ∧ (s.useSource c).srcInUse = c
    ∧ (s.useSource c).tbState = 1 := by
  have hend : s.endHoldover.tb = s.tb := by
    unfold State.endHoldover
    split <;> simp -implicitDefEqProofs
  simp -implicitDefEqProofs (disch := lia) [State.useSource, hend, State.srcInUse, State.tbState, regF, setRegF, State.bump, fld_setFld_same,
    Nat.mod_eq_of_lt hc]

theorem noSource_valid (s : State) : s.noSource.tb.valid = s.tb.valid := by
  unfold State.noSource
  extract_lets -lift +onlyGivenNames st s1 s2
  have h2 : s2.tb = s.tb := by simp -implicitDefEqProofs [s2, s1, setRegF, State.bump]
  clear_value s2
  split
  · simp -implicitDefEqProofs [setRegF, setBitR, h2]
  · dsimp only
    split <;> simp -implicitDefEqProofs [setRegF, h2]

/-- R326: a unit that was locked and is warm goes to HOLDOVER. -/
theorem noSource_locked {s : State} (hlock : s.tbState = 2) (hwarm : s.regB Reg.TMB_STAT 29 = true) :
    s.noSource.tbState = 3 ∧ s.noSource.srcInUse = 0 ∧ s.noSource.regB Reg.TMB_STK 2 = true
      ∧ s.noSource.regB Reg.TMB_STK 1 = s.regB Reg.TMB_STK 1 := by
  unfold State.noSource
  extract_lets -lift +onlyGivenNames st s1 s2
  have h2 : s2.srcInUse = 0 ∧ s2.regB Reg.TMB_STAT 29 = true ∧ s2.regB Reg.TMB_STK 1 = s.regB Reg.TMB_STK 1 := by
    refine ⟨?_, ?_, ?_⟩
    · simp -implicitDefEqProofs (disch := lia) [s2, State.srcInUse, regF, setRegF, fld_setFld_same]
    · simpa (disch := lia) [s2, s1, State.bump, regB, setRegF, bit_setFld_outside] using hwarm
    · simp -implicitDefEqProofs (disch := lia) [s2, s1, State.bump, regB, setRegF]
  clear_value s2
  obtain ⟨hsrc, hw, hstk⟩ := h2
  rw [if_pos ⟨.inl hlock, hw⟩]
  simp -implicitDefEqProofs (disch := lia) [State.tbState, State.srcInUse, regF, regB, setRegF, setBitR, fld_setFld_same] at hsrc hstk ⊢
  exact ⟨hsrc, hstk⟩

theorem chooseSource_valid (s : State) : s.chooseSource.tb.valid = s.tb.valid := by
  unfold State.chooseSource
  dsimp only
  split
  · rfl
  · split
    · exact noSource_valid s
    · have hend : s.endHoldover.tb = s.tb := by
        unfold State.endHoldover
        split <;> simp -implicitDefEqProofs
      simp -implicitDefEqProofs [State.useSource, hend, setRegF, State.bump]

theorem sourceLost_results {src : Nat} {s : State} (hvalid : s.tb.valid.contains src = true) (hsilent : s.sourceSilent src = true) :
    ∃ t, exec (.sourceLost src) s = .next t ∧ t.tb.valid.contains src = false
      ∧ (s.tb.valid = [src] → src ≠ 0 → src = s.srcInUse → s.tbState = 2 → s.regB Reg.TMB_STAT 29 = true →
          t.tbState = 3 ∧ t.srcInUse = 0 ∧ t.regB Reg.TMB_STK 1 = true ∧ t.regB Reg.TMB_STK 2 = true) := by
  refine ⟨_, congrArg Host.Outcome.next (if_pos (by simp only [hvalid, hsilent, Bool.and_self])), ?_, ?_⟩
  · dsimp only
    rw [chooseSource_valid]
    split <;> simp [setBitR]
  · intro honly hsrc huse hlock hwarm
    extract_lets -lift +onlyGivenNames inUse s1
    rw [if_pos (decide_eq_true huse)]
    have h1 : s1.tb.valid = [] := by simp [s1, honly]
    let u := s1.setBitR Reg.TMB_STK 1
    have hbest : u.bestSource = 0 := by simp [State.bestSource, u, setBitR, h1]
    have hst : u.tbState = 2 ∧ u.srcInUse = s.srcInUse ∧ u.regB Reg.TMB_STAT 29 = true ∧ u.regB Reg.TMB_STK 1 = true := by
      have hstat : u.reg Reg.TMB_STAT = s.reg Reg.TMB_STAT := State.reg_orBits_ne _ _ (by decide)
      have hstk : u.regB Reg.TMB_STK 1 = true := by simp [u, setBitR, regB]
      exact ⟨(congrArg (fld · 31 30) hstat).trans hlock, congrArg (fld · 28 26) hstat, (congrArg (bit · 29) hstat).trans hwarm, hstk⟩
    obtain ⟨hlock', huse', hwarm', hstk⟩ := hst
    have hchoose : u.chooseSource = u.noSource := by
      unfold State.chooseSource
      dsimp only
      rw [hbest, if_neg (by omega), if_pos rfl]
    obtain ⟨h3, h0, hstk2, hstk1⟩ := noSource_locked hlock' hwarm'
    show u.chooseSource.tbState = 3 ∧ _
    rw [hchoose]
    exact ⟨h3, h0, hstk1.trans hstk, hstk2⟩

theorem sourceReturn_results {src : Nat} {s : State} (h1 : 1 ≤ src) (h6 : src ≤ 6) (hlost : s.tb.valid.contains src = false)
    (hheard : s.sourceSilent src = false) :
    ∃ t, exec (.sourceReturn src) s = .next t ∧ t.tb.valid.contains src = true
      ∧ (s.srcInUse = 0 → s.regF Reg.TMB_SRV 31 28 = src → t.srcInUse = src ∧ t.tbState = 1) := by
  refine ⟨_, congrArg Host.Outcome.next (if_pos ⟨h1, h6, hlost, hheard⟩), ?_, fun hfree hfirst => ?_⟩
  · rw [chooseSource_valid]
    simp
  · let u := s.updTb fun b => { b with valid := b.valid ++ [src] }
    have hbest : u.bestSource = src := by
      have hu : u.regF Reg.TMB_SRV 31 28 = src := hfirst
      have hne : src ≠ 0 := by omega
      simp [State.bestSource, hu, hne, u]
    have hchoose : u.chooseSource = u.useSource src := by
      have hfree' : u.srcInUse = 0 := hfree
      unfold State.chooseSource
      dsimp only
      rw [hbest, hfree', if_neg (by omega), if_neg (by omega)]
    obtain ⟨-, huse, hst⟩ := useSource_results u (c := src) (by omega)
    show u.chooseSource.srcInUse = src ∧ _
    rw [hchoose]
    exact ⟨huse, hst⟩

/-! ### Edges and posts (R321, R322) -/

theorem ppsInEdge_results (s : State) :
    (s.tb.ppsInEl = none → ∃ t, exec .ppsInEdge s = .next t ∧ t.reg Reg.TMB_NPPSBAD = s.reg Reg.TMB_NPPSBAD + 1
        ∧ t.tb.ppsInEl = some s.tb.el)
      ∧ (∀ e, s.tb.ppsInEl = some e → 999000000 ≤ s.tb.el - e → s.tb.el - e ≤ 1001000000 → s.srcInUse = 6 → s.tb.step = none →
          ∃ t, exec .ppsInEdge s = .next t ∧ t.reg Reg.TMB_OFS = sat32 (ppsOffset s.tb.t (s.regF Reg.TMB_PPS 22 0))) := by
  refine ⟨fun hnone => ⟨_, rfl, ?_⟩, fun e he hlo hhi huse hstep => ⟨_, rfl, ?_⟩⟩
  · simp [hnone, State.bump, wd]
  · let u := s.updTb fun b => { b with ppsInEl := some b.el }
    have huse' : u.srcInUse = 6 := huse
    have hok : (!(decide (999000000 ≤ s.tb.el - e) && decide (s.tb.el - e ≤ 1001000000))) = false := by simp [hlo, hhi]
    simp only [he]
    rw [if_neg (by simp only [hok]; decide), if_pos huse']
    exact (takeOffset_offsetView u _).2 hstep

theorem tmbGpost_results {p : Party} {v : Word} {s : State} (hturn : s.turnOf p = true) :
    (1000000000 < turnDiff s.tmbNs v → ∃ t, exec (.tmbGpost p v) s = .next t ∧ t.regB Reg.TMB_STK 4 = true ∧ t.tb = s.tb)
      ∧ (turnDiff s.tmbNs v ≤ 1000000000 → ∃ t, exec (.tmbGpost p v) s = .next t ∧ t.tb.lastGpost = some s.tb.el) := by
  refine ⟨fun hlate => ?_, fun hok => ?_⟩
  · exact ⟨_, congrArg Host.Outcome.next ((byParty_of_turnOf hturn _).trans (if_pos hlate)), by simp [regB, setBitR], rfl⟩
  · refine ⟨_, congrArg Host.Outcome.next ((byParty_of_turnOf hturn _).trans (if_neg (Int.not_lt.2 hok))), ?_⟩
    dsimp only
    split
    · exact (takeOffset_offsetView _ _).1
    · rfl

/-- Settles O40: the latch, the servo, the step, the sources and the posts, one lemma each. -/
theorem timeCountResults : Obligations.TimeCountResults := by
  unfold Obligations.TimeCountResults
  refine ⟨fun _ _ => tmbNsRead_results, fun _ _ _ => servoOffset_results, fun _ _ => timeStep_results, fun _ _ => sourceLost_results,
    fun _ _ => sourceReturn_results, fun s hwarm => ?_, ppsInEdge_results, fun _ _ _ => tmbGpost_results⟩
  exact ⟨_, congrArg Host.Outcome.next (if_pos hwarm), by simp [regB, setBitR], sameRegs_setBitR s _ _⟩

end Sys2Proof.Machine
end

section
/-! PROOFS. Signals of the time (R328 to R331, R337, R338): the second pulse, captures, trigger units, the messages of the
precision time protocol; then the statement `Obligations.TimeSignalResults`. -/
namespace Sys2Proof.Machine

open State (setBitR clrBitR setRegF regB regF Leaves)

/-! ### The second pulse (R330, R331) -/

theorem ppsOutEdge_results {s : State} (hdue : s.tb.ppsLast < s.tb.t / 1000000000) (hstep : s.noStep) :
    (s.tb.ppsEl = none → ∃ t, exec .ppsOutEdge s = .next t ∧ t.tb.ppsHigh = true ∧ t.tb.ppsEl = some s.tb.el
        ∧ t.tb.ppsLast = s.tb.t / 1000000000)
      ∧ (∀ e, s.tb.ppsEl = some e → s.tb.el - e < 500000000 →
          ∃ t, exec .ppsOutEdge s = .next t ∧ t.tb.ppsEl = some e ∧ t.reg Reg.TMB_NOMIT = s.reg Reg.TMB_NOMIT + 1
            ∧ t.regB Reg.TMB_STK 3 = true) := by
  refine ⟨fun hnone => ⟨_, congrArg Host.Outcome.next ((if_pos hdue).trans (inStep_of_noStep hstep true 4 _)), ?_⟩,
    fun e he hsoon => ⟨_, congrArg Host.Outcome.next ((if_pos hdue).trans (inStep_of_noStep hstep true 4 _)), ?_⟩⟩
  · simp [hnone]
  · simp (disch := lia) [he, hsoon, State.bump, setBitR, regB, wd]

theorem ppsPulseEnd_results {e : Nat} {s : State} (he : s.tb.ppsEl = some e) (hhigh : s.tb.ppsHigh = true)
    (hdue : s.regF Reg.TMB_PPS 31 23 * 1000000 ≤ s.tb.el - e) :
    ∃ t, exec .ppsPulseEnd s = .next t ∧ t.tb.ppsHigh = false ∧ t.regs = s.regs := by
  refine ⟨s.updTb fun b => { b with ppsHigh := false }, congrArg Host.Outcome.next ?_, rfl, rfl⟩
  simp [he, hhigh, hdue]

/-! ### Captures (R337) -/

theorem captureEdge_results {k : Fin 16} {rising : Bool} {s : State} (hen : s.regB (Reg.TMB_CAP k) 31 = true)
    (hedge : s.regB (Reg.TMB_CAP k) (if rising then 4 else 5) = true) (hsrc : s.regF (Reg.TMB_CAP k) 3 0 ≠ 0) :
    (mget s.tb.capture k = none → ∃ t, exec (.captureEdge k rising) s = .next t
        ∧ mget t.tb.capture k = some { last := some s.tb.el, lost := false }
        ∧ ∃ w, t.banks.routeQ = s.banks.routeQ ++ (s.routesOf 6 k).map (fun n => (n, [s.tmbNs, w])))
      ∧ (∀ e l, mget s.tb.capture k = some { last := some e, lost := l } → s.tb.el - e < 1000 →
          ∃ t, exec (.captureEdge k rising) s = .next t ∧ t.reg Reg.TMB_NCAPLOST = s.reg Reg.TMB_NCAPLOST + 1
            ∧ mget t.tb.capture k = some { last := some s.tb.el, lost := true } ∧ t.banks = s.banks) := by
  have htaken : (bit (s.reg (Reg.TMB_CAP k)) 31 && (if rising then bit (s.reg (Reg.TMB_CAP k)) 4 else bit (s.reg (Reg.TMB_CAP k)) 5)
      && fld (s.reg (Reg.TMB_CAP k)) 3 0 != 0) = true := by
    have hon : bit (s.reg (Reg.TMB_CAP k)) 31 = true := hen
    have hne : (fld (s.reg (Reg.TMB_CAP k)) 3 0 != 0) = true := bne_iff_ne.2 hsrc
    cases rising <;> simpa [hon, hne, regB] using hedge
  refine ⟨fun hnone => ⟨_, congrArg Host.Outcome.next (if_pos htaken), ?_⟩,
    fun e l hlast hsoon => ⟨_, congrArg Host.Outcome.next (if_pos htaken), ?_⟩⟩
  · simp only [mgetD, hnone, Option.getD_none, Bool.false_eq_true, if_false]
    let w1 := s.tb.t / 2 ^ 32 % 65536 * 65536 + 2 * b2n (!rising) + b2n false
    let s1 := s.updTb fun b => { b with capture := mput b.capture k { last := some b.el, lost := false } }
    obtain ⟨x, hx⟩ := blockEvent_eq (s1.produce 6 k [s.tmbNs, wd w1]) 5 k
    have hroute : (s1.produce 6 k [s.tmbNs, wd w1]).banks.routeQ
        = s.banks.routeQ ++ (s.routesOf 6 k).map (fun n => (n, [s.tmbNs, wd w1])) := rfl
    have hcap : mget (s1.produce 6 k [s.tmbNs, wd w1]).tb.capture k = some { last := some s.tb.el, lost := false } := by
      simp [s1]
    have hend : ∀ t, t = (s1.produce 6 k [s.tmbNs, wd w1]).blockEvent 5 k → mget t.tb.capture k = some { last := some s.tb.el, lost := false }
        ∧ ∃ w, t.banks.routeQ = s.banks.routeQ ++ (s.routesOf 6 k).map (fun n => (n, [s.tmbNs, w])) := by
      rintro t rfl
      rw [hx]
      exact ⟨hcap, wd w1, hroute⟩
    exact hend _ rfl
  · simp [mgetD, hlast, hsoon, State.bump, wd]

/-! ### Trigger units (R338) -/

theorem triggerFire_results {k : Fin 16} {s : State} (hen : s.regB (Reg.TMB_TRGA k) 31 = true)
    (hcmp : s.regB (Reg.TMB_TRGA k) 30 = true) (hdue : s.sched.trigDue.contains k.val = true) (hdest : s.regF (Reg.TMB_TRGA k) 23 20 = 2) :
    ∃ t, exec (.triggerFire k) s = .next t ∧ t.sched.trigDue = s.sched.trigDue.erase k
      ∧ (t.encCh (s.regF (Reg.TMB_TRGA k) 19 16 % 8)).due = true := by
  let u : State := { s with sched := { s.sched with trigDue := s.sched.trigDue.erase k } }
  have hdest' : fld (u.reg (Reg.TMB_TRGA k)) 23 20 = 2 := hdest
  have hact : (s.trigTake k).trigAct k = u.updEnc (s.regF (Reg.TMB_TRGA k) 19 16 % 8) fun x => { x with due := true } := by
    have htake : s.trigTake k = u := if_pos hcmp
    rw [htake, State.trigAct]
    simp only [hdest']
    rfl
  have hfired : (s.regB (Reg.TMB_TRGA k) 31 && s.trigFired k) = true := by
    rw [State.trigFired, if_pos hcmp, hen, hdue]; rfl
  refine ⟨_, congrArg Host.Outcome.next ((if_pos hfired).trans ((if_pos (by simp [hcmp])).trans hact)), rfl, ?_⟩
  simp [State.updEnc, State.encCh]

/-! ### Messages of the precision time protocol (R328) -/

/-- Choosing the port states touches only their fields. -/
theorem ptpDecide_leaves (s : State) : Leaves (fun u => (u.tb, u.out, fun q => u.regF (Reg.TMB_PTPS q) 27 0)) s s.ptpDecide := by
  refine .foldl fun u p => ⟨?_⟩
  refine Prod.ext rfl (Prod.ext rfl (funext fun q => ?_))
  by_cases h : Reg.TMB_PTPS q = Reg.TMB_PTPS p
  · simp (disch := lia) [regF, setRegF, h]
  · exact congrArg (fld · 27 0) (State.reg_setReg_ne u _ h)

theorem ptpDecide_reads (s : State) (q : Nat) : s.ptpDecide.tb = s.tb
    ∧ s.ptpDecide.regF (Reg.TMB_PTPS q) 27 0 = s.regF (Reg.TMB_PTPS q) 27 0 := by
  obtain ⟨htb, hrest⟩ := Prod.ext_iff.1 (ptpDecide_leaves s).eq
  exact ⟨htb, congrFun (Prod.ext_iff.1 hrest).2 q⟩

theorem ptp_updPtp (s : State) (p : Nat) (f : PtpPort → PtpPort) : mgetD (s.updPtp p f).tb.ptp p {} = f (mgetD s.tb.ptp p {}) := by
  simp [State.updPtp]

theorem ptpMessage_results {p : Fin 4} {dom : Nat} {s : State} (hen : s.regB (Reg.TMB_PTPC p) 31 = true)
    (hrun : s.domainOut (7 + p) = false) :
    (dom ≠ s.regF Reg.TMB_PTPG 6 0 → ∀ m, exec (.ptpMessage p dom m) s = .next s)
      ∧ (dom = s.regF Reg.TMB_PTPG 6 0 →
          (∀ ds, (mgetD s.tb.ptp p {}).gm = 0 → ∃ t, exec (.ptpMessage p dom (.announce ds)) s = .next t ∧ (mgetD t.tb.ptp p {}).best = ds)
          ∧ (∀ d, s.regB (Reg.TMB_PTPC p) 28 = false → ∃ t, exec (.ptpMessage p dom (.delayResp d)) s = .next t
              ∧ t.regF (Reg.TMB_PTPS p) 27 0 = min d 0xFFFFFFF ∧ (mgetD t.tb.ptp p {}).delayKnown = true)
          ∧ (s.regB (Reg.ETH_PSTAT p) 31 = true → s.domainOut 6 = false → ∃ t, exec (.ptpMessage p dom (.management true)) s = .next t
              ∧ sent s t (.ptp p 13 0 dom (s.regB (Reg.TMB_PTPC p) 27) []))) := by
  have hother : dom ≠ s.regF Reg.TMB_PTPG 6 0 →
      (!(s.regB (Reg.TMB_PTPC p) 31) || dom != s.regF Reg.TMB_PTPG 6 0 || s.domainOut (7 + p)) = true := fun h => by simp [h]
  have hown : dom = s.regF Reg.TMB_PTPG 6 0 →
      ¬ (!(s.regB (Reg.TMB_PTPC p) 31) || dom != s.regF Reg.TMB_PTPG 6 0 || s.domainOut (7 + p)) = true := fun h => by
    simp only [hen, hrun, h, bne_self_eq_false, Bool.not_true, Bool.or_self, Bool.false_eq_true, not_false_eq_true]
  refine ⟨fun hdom m => congrArg Host.Outcome.next (if_pos (hother hdom)),
    fun hdom => ⟨fun ds hgm => ?_, fun d hp2p => ?_, fun hlink hetx => ?_⟩⟩
  · refine ⟨_, congrArg Host.Outcome.next (if_neg (hown hdom)), ?_⟩
    dsimp only
    rw [if_neg (by simp [hgm]), (ptpDecide_reads _ 0).1, ptp_updPtp]
  · refine ⟨_, congrArg Host.Outcome.next ((if_neg (hown hdom)).trans (if_neg (by simp [hp2p]))), ?_⟩
    have hlt : min d 0xFFFFFFF < 2 ^ (27 + 1 - 0) := by omega
    unfold State.ptpDelay
    obtain ⟨htb, hfield⟩ := ptpDecide_reads
      ((s.setRegF (Reg.TMB_PTPS p) 27 0 (min d 0xFFFFFFF)).updPtp p fun x => { x with delayKnown := true }) p
    rw [htb, hfield, ptp_updPtp]
    exact ⟨(regF_setRegF_same s _ _ (by decide) (by decide)).trans (Nat.mod_eq_of_lt hlt), rfl⟩
  · refine ⟨_, congrArg Host.Outcome.next ((if_neg (hown hdom)).trans ((if_pos rfl).trans
      ((if_pos hlink).trans (if_neg (by simp [hetx]))))), ?_⟩
    rw [← hdom]
    rfl

theorem ptpSend_linked {s : State} {p : Nat} (hlink : s.regB (Reg.ETH_PSTAT p) 31 = true) (hetx : s.domainOut 6 = false)
    (kind seq : Nat) (body : List Nat) :
    s.ptpSend p kind seq body = s.emit (.ptp p kind seq (s.regF Reg.TMB_PTPG 6 0) (s.regB (Reg.TMB_PTPC p) 27) body) :=
  (if_pos hlink).trans (if_neg (by simp [hetx]))

@[simp] theorem tb_ptpSend (s : State) (p kind seq : Nat) (body : List Nat) : (s.ptpSend p kind seq body).tb = s.tb := by
  unfold State.ptpSend State.etherOut
  split
  · split <;> rfl
  · rfl

theorem out_sendSync {s : State} {p : Nat} (hlink : s.regB (Reg.ETH_PSTAT p) 31 = true) (hetx : s.domainOut 6 = false) :
    (s.sendSync p).out = s.out ++ (if s.regB (Reg.TMB_PTPC p) 29
      then [.ptp p 0 (mgetD s.tb.ptp p {}).syncSeq (s.regF Reg.TMB_PTPG 6 0) (s.regB (Reg.TMB_PTPC p) 27) [s.tb.t]]
      else [.ptp p 0 (mgetD s.tb.ptp p {}).syncSeq (s.regF Reg.TMB_PTPG 6 0) (s.regB (Reg.TMB_PTPC p) 27) [],
        .ptp p 8 (mgetD s.tb.ptp p {}).syncSeq (s.regF Reg.TMB_PTPG 6 0) (s.regB (Reg.TMB_PTPC p) 27) [s.tb.t]]) := by
  have hupd : ∀ (u : State) f, (u.updPtp p f).out = u.out := fun _ _ => rfl
  have hfirst := ptpSend_linked hlink hetx 0 (mgetD s.tb.ptp p {}).syncSeq []
  simp only [State.sendSync, hupd]
  split
  · rw [ptpSend_linked hlink hetx]; rfl
  · rw [hfirst]
    let u := s.emit (.ptp p 0 (mgetD s.tb.ptp p {}).syncSeq (s.regF Reg.TMB_PTPG 6 0) (s.regB (Reg.TMB_PTPC p) 27) [])
    have hnext := ptpSend_linked (s := u) (p := p) hlink hetx 8 (mgetD s.tb.ptp p {}).syncSeq [s.tb.t]
    exact (congrArg State.out hnext).trans (List.append_assoc _ _ _)

theorem ptpMessageInterval_results {p : Fin 4} {s : State} (hen : s.regB (Reg.TMB_PTPC p) 31 = true) :
    let x := mgetD s.tb.ptp p {}
    let udp := s.regB (Reg.TMB_PTPC p) 27
    let dom := s.regF Reg.TMB_PTPG 6 0
    (∃ t, exec (.ptpMessageInterval p .announceReceipt) s = .next t ∧ (mgetD t.tb.ptp p {}).best = [])
    ∧ (s.regF (Reg.TMB_PTPS p) 31 28 = 6 → s.regB (Reg.ETH_PSTAT p) 31 = true → s.domainOut 6 = false →
      (s.silentFor (ptpInterval (s.regF (Reg.TMB_PTPC p) 15 12)) x.syncSent = true →
        ∃ t, exec (.ptpMessageInterval p .sync) s = .next t ∧ (mgetD t.tb.ptp p {}).syncSent = some s.tb.el
          ∧ t.out = s.out ++ (if s.regB (Reg.TMB_PTPC p) 29 then [.ptp p 0 x.syncSeq dom udp [s.tb.t]]
              else [.ptp p 0 x.syncSeq dom udp [], .ptp p 8 x.syncSeq dom udp [s.tb.t]]))
      ∧ (s.silentFor (ptpInterval (s.regF (Reg.TMB_PTPC p) 7 4)) x.annSent = true →
        ∃ t, exec (.ptpMessageInterval p .announce) s = .next t ∧ (mgetD t.tb.ptp p {}).annSent = some s.tb.el
          ∧ sent s t (.ptp p 11 x.annSeq dom udp s.ptpAnnounced))) := by
  intro x udp dom
  have hon : ¬ (!(bit (s.reg (Reg.TMB_PTPC p)) 31)) = true := by
    have h : bit (s.reg (Reg.TMB_PTPC p)) 31 = true := hen
    simp [h]
  refine ⟨⟨_, congrArg Host.Outcome.next (if_neg hon), ?_⟩, fun hmaster hlink hetx => ⟨fun hdue => ?_, fun hdue => ?_⟩⟩
  · rw [(ptpDecide_reads _ 0).1, ptp_updPtp]
  · refine ⟨_, congrArg Host.Outcome.next ((if_neg hon).trans (if_pos ⟨hmaster, hdue⟩)), ?_, out_sendSync hlink hetx⟩
    unfold State.sendSync
    dsimp only
    rw [ptp_updPtp]
    split <;> simp only [tb_ptpSend]
  · refine ⟨_, congrArg Host.Outcome.next ((if_neg hon).trans (if_pos ⟨hmaster, hdue⟩)), ?_, ?_⟩
    · rw [ptpSend_linked hlink hetx, ptp_updPtp]
    · rw [ptpSend_linked hlink hetx]
      rfl

/-- Settles O41: the pulse, the captures, the trigger units, the messages and their intervals, one lemma each. -/
theorem timeSignalResults : Obligations.TimeSignalResults := by
  unfold Obligations.TimeSignalResults
  exact ⟨fun _ => ppsOutEdge_results, fun _ _ => ppsPulseEnd_results, fun _ _ _ => captureEdge_results, fun _ _ => triggerFire_results,
    fun _ _ _ => ptpMessage_results, fun _ _ => ptpMessageInterval_results⟩

end Sys2Proof.Machine
end

section
/-! PROOFS. Reception on the CAN channels (R493 to R496); then the statement `Obligations.CanReceiveResults`. -/
namespace Sys2Proof.Machine

open State (setBitR clrBitR setRegF regB regF)

/-! ### A channel and its error counters -/

@[simp] theorem canCh_updCan_same (s : State) (n : Nat) (f : CanChannel → CanChannel) : (s.updCan n f).canCh n = f (s.canCh n) := by
  simp [State.updCan, State.canCh]

@[simp] theorem canCh_setReg (s : State) (a : Nat) (v : Word) (n : Nat) : (s.setReg a v).canCh n = s.canCh n := (rfl)
@[simp] theorem canCh_orBits (s : State) (a : Nat) (m : Word) (n : Nat) : (s.orBits a m).canCh n = s.canCh n := (rfl)
@[simp] theorem canCh_emit (s : State) (o : OutItem) (n : Nat) : (s.emit o).canCh n = s.canCh n := (rfl)
@[simp] theorem canCh_record (s : State) (r : RecName) (el : Nat) (l : List Nat) (n : Nat) : (s.record r el l).canCh n = s.canCh n := by
  simp [State.canCh]

/-- R479: `t` differs from `s` in the error counters of channel `n`, the two ports that show them, what the clock has
set and the free values used. -/
def CountersMoved (n : Nat) (s t : State) : Prop :=
  (∃ r k x tec rc, t = { s.updCan n (fun x => { x with tec := tec, rec_ := rc }) with regs := r, free := k, now := x })
    ∧ ∀ a, a ≠ Reg.CFD_STAT n → a ≠ Reg.CFD_STK n → t.reg a = s.reg a

theorem CountersMoved.setReg {n : Nat} {s t : State} (h : CountersMoved n s t) {a : Nat} (ha : a = Reg.CFD_STAT n ∨ a = Reg.CFD_STK n)
    (v : Word) : CountersMoved n s (t.setReg a v) := by
  obtain ⟨⟨r, k, x, tec, rc, rfl⟩, hr⟩ := h
  refine ⟨⟨_, k, _, tec, rc, rfl⟩, fun q h1 h2 => (State.reg_setReg_ne _ v ?_).trans (hr q h1 h2)⟩
  rcases ha with rfl | rfl <;> assumption

theorem CountersMoved.setBitR {n : Nat} {s t : State} (h : CountersMoved n s t) {a : Nat} (ha : a = Reg.CFD_STAT n ∨ a = Reg.CFD_STK n)
    (i : Nat) : CountersMoved n s (t.setBitR a i) := by
  obtain ⟨⟨r, k, x, tec, rc, rfl⟩, hr⟩ := h
  refine ⟨⟨_, k, _, tec, rc, rfl⟩, fun q h1 h2 => (State.reg_orBits_ne _ _ ?_).trans (hr q h1 h2)⟩
  rcases ha with rfl | rfl <;> assumption

theorem canCounters_moves (s : State) (n tec rc : Nat) : CountersMoved n s (s.canCounters n tec rc) := by
  have hupd : CountersMoved n s (s.updCan n fun x => { x with tec := tec, rec_ := rc }) := ⟨⟨s.regs, s.free, s.now, tec, rc, rfl⟩, fun _ _ _ => rfl⟩
  unfold State.canCounters
  extract_lets u v
  have hshown : CountersMoved n s v := (hupd.setReg (.inl rfl) _).setReg (.inl rfl) _
  clear_value v
  split
  · exact hshown
  split
  · have hpassive : CountersMoved n s (if v.canBus n = 0 then v.setBitR (Reg.CFD_STK n) 2 else v) := by
      split
      · exact hshown.setBitR (.inr rfl) 2
      · exact hshown
    exact hpassive.setReg (.inl rfl) _
  · exact hshown.setReg (.inl rfl) _

theorem canRxOk_moves (s : State) (n : Nat) : CountersMoved n s (s.canRxOk n) := by
  by_cases hhigh : 128 ≤ (s.canCh n).rec_
  · have hrun : s.canRxOk n = s.freeValue.2.canCounters n (s.canCh n).tec (119 + s.freeValue.1.toNat % 9) := if_pos hhigh
    obtain ⟨⟨r, k, x, tec, rc, ht⟩, hr⟩ := canCounters_moves s.freeValue.2 n (s.canCh n).tec (119 + s.freeValue.1.toNat % 9)
    exact ⟨⟨r, k, x, tec, rc, hrun.trans ht⟩, hrun ▸ hr⟩
  · have hrun : s.canRxOk n = s.canCounters n (s.canCh n).tec ((s.canCh n).rec_ - 1) := if_neg hhigh
    exact hrun ▸ canCounters_moves s n _ _

section
variable {s t : State} {n : Nat} (h : CountersMoved n s t)
include h

/-- What the sorting of a frame reads is not touched by the error counters. -/
theorem CountersMoved.canFilter_eq (image : List Word) : t.canFilter n image = s.canFilter n image := by
  have hid (f : Nat) : t.reg (Reg.CFD_FID n f) = s.reg (Reg.CFD_FID n f) := h.2 _ (by lia) (by lia)
  have hmask (f : Nat) : t.reg (Reg.CFD_FMSK n f) = s.reg (Reg.CFD_FMSK n f) := h.2 _ (by lia) (by lia)
  simp only [State.canFilter, hid, hmask]

theorem CountersMoved.rx_eq : (t.canCh n).rx = (s.canCh n).rx := by
  obtain ⟨⟨r, k, x, tec, rc, rfl⟩, -⟩ := h
  simp [State.canCh, State.updCan]

theorem CountersMoved.tb_eq : t.tb = s.tb := by
  obtain ⟨⟨r, k, x, tec, rc, rfl⟩, -⟩ := h
  rfl

end

/-! ### An entry of the receive queue (R494, R495) -/

theorem canRoute_eq (s : State) (n : Nat) (e : List Word) : ∃ b, s.canRoute n e = { s with banks := b } := by
  unfold State.canRoute
  split
  · exact ⟨_, rfl⟩
  · exact ⟨s.banks, rfl⟩

@[simp] theorem canCh_canRoute (s : State) (n : Nat) (e : List Word) (k : Nat) : (s.canRoute n e).canCh k = s.canCh k := by
  obtain ⟨b, hb⟩ := canRoute_eq s n e
  rw [hb]; rfl

@[simp] theorem reg_canRoute (s : State) (n : Nat) (e : List Word) (a : Nat) : (s.canRoute n e).reg a = s.reg a := by
  obtain ⟨b, hb⟩ := canRoute_eq s n e
  rw [hb]; rfl

theorem canQueue_room {s : State} {n : Nat} (e : List Word) (hroom : (s.canCh n).rx.length < 128) :
    ((s.canQueue n e).canCh n).rx = (s.canCh n).rx ++ [e]
      ∧ (s.canQueue n e).reg (Reg.CFD_NRX n) = s.reg (Reg.CFD_NRX n)
      ∧ (s.canQueue n e).reg (Reg.CFD_NRXW n) = s.reg (Reg.CFD_NRXW n) + 1
      ∧ (s.canQueue n e).reg (Reg.CFD_RXSTAT n) = BitVec.ofNat 32 ((s.canCh n).rx.length + 1) := by
  have hrun : s.canQueue n e = _ := if_neg (Nat.not_le.2 hroom)
  rw [hrun]
  simp (disch := lia) [State.bump, wd]

theorem canQueue_full {s : State} {n : Nat} (e : List Word) (hn : n < 6) (hfull : 128 ≤ (s.canCh n).rx.length) :
    ((s.canQueue n e).canCh n).rx = (s.canCh n).rx ∧ (s.canQueue n e).reg (Reg.CFD_NRXLOST n) = s.reg (Reg.CFD_NRXLOST n) + 1
      ∧ (s.canQueue n e).regB (Reg.CFD_STK n) 3 = true := by
  have hrun : s.canQueue n e = _ := if_pos hfull
  rw [hrun]
  split <;> simp (disch := lia) [State.bump, setBitR, regB, wd]

/-! ### A high-priority buffer (R496) -/

/-- Words written to ports, each at the address of its place. -/
def State.putPorts (s : State) (adr : Nat → Nat) (l : List (Word × Nat)) : State := l.foldl (fun s q => s.setReg (adr q.2) q.1) s

theorem reg_putPorts_beside (adr : Nat → Nat) (l : List (Word × Nat)) (s : State) {a : Nat} (h : ∀ q ∈ l, a ≠ adr q.2) :
    (s.putPorts adr l).reg a = s.reg a := by
  induction l generalizing s with
  | nil => rfl
  | cons q l ih =>
    exact (ih _ fun r hr => h r (List.mem_cons_of_mem _ hr)).trans (State.reg_setReg_ne _ _ (h q List.mem_cons_self))

theorem reg_putPorts_zipIdx {adr : Nat → Nat} (hadr : ∀ i j, adr i = adr j → i = j) (w : Word) (e : List Word) :
    ∀ (k i : Nat) (s : State), e[i]? = some w → (s.putPorts adr (e.zipIdx k)).reg (adr (k + i)) = w := by
  induction e with
  | nil => intro k i s h; simp at h
  | cons v l ih =>
    intro k i s h
    cases i with
    | zero =>
      have hrest : ∀ q ∈ l.zipIdx (k + 1), adr (k + 0) ≠ adr q.2 := fun q hq heq => by
        have := List.le_snd_of_mem_zipIdx hq
        have := hadr _ _ heq
        omega
      exact (reg_putPorts_beside adr _ _ hrest).trans (by simpa using h)
    | succ i => exact (congrArg _ (congrArg adr (by omega))).trans (ih (k + 1) i (s.setReg (adr k) v) (by simpa using h))

@[simp] theorem canCh_putPorts (s : State) (adr : Nat → Nat) (l : List (Word × Nat)) (n : Nat) : (s.putPorts adr l).canCh n = s.canCh n :=
  foldl_keeps (fun u : State => u.canCh n = s.canCh n) _ l s rfl fun _ _ _ hu => hu

theorem length_rxEntry (image : List Word) (t f : Nat) (d : Bool) : (rxEntry image t f d).length = 20 := by
  simp [rxEntry, dataWords]

@[simp] theorem canCh_blockEvent (s : State) (cls idx n : Nat) : (s.blockEvent cls idx).canCh n = s.canCh n := by
  obtain ⟨x, hx⟩ := blockEvent_eq s cls idx
  rw [hx]; rfl

@[simp] theorem reg_blockEvent (s : State) (cls idx a : Nat) : (s.blockEvent cls idx).reg a = s.reg a := by
  obtain ⟨x, hx⟩ := blockEvent_eq s cls idx
  rw [hx]; rfl

theorem canBuffer_free {s : State} {n f : Nat} (image : List Word) (t : Nat) (hfree : s.regB (Reg.CFD_HPSTAT n) (f % 8) = false) :
    (s.canBuffer n f image t).regB (Reg.CFD_HPSTAT n) (f % 8) = true
      ∧ ((s.canBuffer n f image t).canCh n).rx = (s.canCh n).rx
      ∧ (s.canBuffer n f image t).reg (Reg.CFD_NRXW n) = s.reg (Reg.CFD_NRXW n) + 1
      ∧ (∀ i w, (rxEntry image t f false)[i]? = some w → (s.canBuffer n f image t).reg (Reg.CFD_HPB n (f % 8) i) = w) := by
  have hrun : s.canBuffer n f image t = ((((s.putPorts (Reg.CFD_HPB n (f % 8)) ((rxEntry image t f false).zipIdx)).setBitR
    (Reg.CFD_HPSTAT n) (f % 8)).bump (Reg.CFD_NRXW n)).canRoute n (rxEntry image t f false)).blockEvent 4 (8 * n + f % 8) :=
    if_neg (by simp [hfree])
  have hbelow : ∀ a, a < 0x7100 + 512 * n → (s.putPorts (Reg.CFD_HPB n (f % 8)) ((rxEntry image t f false).zipIdx)).reg a = s.reg a :=
    fun a ha => reg_putPorts_beside _ _ _ fun q _ => by lia
  have hst := hbelow (Reg.CFD_HPSTAT n) (by lia)
  have hnw := hbelow (Reg.CFD_NRXW n) (by lia)
  have hwords := reg_putPorts_zipIdx (adr := Reg.CFD_HPB n (f % 8)) (fun i j h => by lia)
  have hlow : f % 8 < 8 := Nat.mod_lt _ (by decide)
  rw [hrun]
  refine ⟨?_, ?_, ?_, fun i w h => ?_⟩
  · simp (disch := lia) [State.bump, setBitR, regB]
  · simp [State.bump, setBitR]
  · simp (disch := lia) [State.bump, setBitR, hnw, wd]
  · have hport := hwords w _ 0 i s h
    rw [Nat.zero_add] at hport
    simpa (disch := lia) [State.bump, setBitR] using hport

/-! ### Acknowledgements (R495, R496) -/

@[simp] theorem can_partyEsf (s : State) (p : Party) (b : EsfBit) : (s.partyEsf p b).can = s.can := by
  unfold State.partyEsf State.lateEsf
  split
  · split
    · rfl
    · dsimp only
      split <;> rfl
  · rfl

@[simp] theorem priv_partyEsf (s : State) (p : Party) (b : EsfBit) : (s.partyEsf p b).priv = s.priv := by
  unfold State.partyEsf State.lateEsf
  split
  · split
    · rfl
    · dsimp only
      split <;> rfl
  · rfl

/-- R496: an acknowledgement frees the buffers it names. -/
theorem hpackWrite_bit (s : State) (n : Nat) (v : Word) {b : Nat} (hb : b < 8) :
    (s.hpackWrite n v).regB (Reg.CFD_HPSTAT n) b = (s.regB (Reg.CFD_HPSTAT n) b && !bit v b) := by
  have hmask : (0xFF : Word).getLsbD b = true := (by decide : ∀ b < 8, (0xFF : Word).getLsbD b = true) b hb
  have hnamed : bit (v &&& 255#32) b = bit v b :=
    BitVec.getLsbD_and.trans ((congrArg (v.getLsbD b && ·) hmask).trans (Bool.and_true _))
  simp [State.hpackWrite, regB, bit_andNot, hnamed]

theorem canAck_results {p : Party} {n : Fin 6} {v : Word} {s : State} (hturn : s.turnOf p = true) :
    (0 < fld v 7 0 → fld v 7 0 ≤ (s.canCh n).rx.length → ∃ t, exec (.cfdRxack p n v) s = .next t
        ∧ (t.canCh n).rx = (s.canCh n).rx.drop (fld v 7 0)
        ∧ t.reg (Reg.CFD_RXSTAT n) = BitVec.ofNat 32 ((s.canCh n).rx.length - fld v 7 0) ∧ sameRegs s t [Reg.CFD_RXSTAT n])
    ∧ (fld v 7 0 = 0 ∨ (s.canCh n).rx.length < fld v 7 0 → ∃ t, exec (.cfdRxack p n v) s = .next t ∧ t.can = s.can ∧ t.priv = s.priv)
    ∧ (∃ t, exec (.cfdHpack p n v) s = .next t ∧ (∀ b, b < 8 → t.regB (Reg.CFD_HPSTAT n) b = (s.regB (Reg.CFD_HPSTAT n) b && !bit v b))
        ∧ t.can = s.can ∧ sameRegs s t [Reg.CFD_HPSTAT n]) := by
  have hch : (s.turned p).canCh n = s.canCh n := rfl
  refine ⟨fun hpos hle => ⟨_, congrArg Host.Outcome.next ((byParty_of_turnOf hturn _).trans (if_neg (not_or.2 ⟨by omega, by rw [hch]; omega⟩))), ?_⟩,
    fun hbad => ⟨_, congrArg Host.Outcome.next ((byParty_of_turnOf hturn _).trans (if_pos hbad)), ?_⟩,
    ⟨_, congrArg Host.Outcome.next (byParty_of_turnOf hturn _), fun b hb => ?_, rfl, sameRegs_setReg (s.turned p) _ _⟩⟩
  · refine ⟨by simp [hch], by simp [wd, hch], fun a ha hr => ?_⟩
    exact sameRegs_setReg _ _ _ a ha hr
  · simp [State.turned]
  · exact hpackWrite_bit _ _ _ hb

/-! ### A frame received (R493 to R496) -/

theorem canFrameReceived_results {n : Fin 6} {image : List Word} {age : Nat} {s : State} (hen : s.regB (Reg.CFD_CTL n) 31 = true)
    (hbus : s.canBus n < 2) (hfd : bit (image.head?.getD 0) 30 = false ∨ s.regB (Reg.CFD_CTL n) 27 = true) :
    (∀ f, s.canFilter n image = some f → s.regF (Reg.CFD_FMSK n f) 31 30 = 0 → (s.canCh n).rx.length < 128 →
      ∃ t, exec (.canFrameReceived n image age) s = .next t ∧ (t.canCh n).rx = (s.canCh n).rx ++ [rxEntry image (s.tb.t - age) f false]
        ∧ t.reg (Reg.CFD_NRX n) = s.reg (Reg.CFD_NRX n) + 1 ∧ t.reg (Reg.CFD_NRXW n) = s.reg (Reg.CFD_NRXW n) + 1
        ∧ t.reg (Reg.CFD_RXSTAT n) = BitVec.ofNat 32 ((s.canCh n).rx.length + 1))
    ∧ (∀ f, s.canFilter n image = some f → s.regF (Reg.CFD_FMSK n f) 31 30 = 0 → 128 ≤ (s.canCh n).rx.length →
      ∃ t, exec (.canFrameReceived n image age) s = .next t ∧ (t.canCh n).rx = (s.canCh n).rx
        ∧ t.reg (Reg.CFD_NRXLOST n) = s.reg (Reg.CFD_NRXLOST n) + 1 ∧ t.regB (Reg.CFD_STK n) 3 = true)
    ∧ (∀ f, s.canFilter n image = some f → s.regF (Reg.CFD_FMSK n f) 31 30 = 1 → s.regB (Reg.CFD_HPSTAT n) (f % 8) = false →
      ∃ t, exec (.canFrameReceived n image age) s = .next t ∧ t.regB (Reg.CFD_HPSTAT n) (f % 8) = true
        ∧ (t.canCh n).rx = (s.canCh n).rx ∧ t.reg (Reg.CFD_NRXW n) = s.reg (Reg.CFD_NRXW n) + 1
        ∧ (∀ i w, (rxEntry image (s.tb.t - age) f false)[i]? = some w → t.reg (Reg.CFD_HPB n (f % 8) i) = w))
    ∧ (s.canFilter n image = none → s.regB (Reg.CFD_CTL n) 23 = false →
      ∃ t, exec (.canFrameReceived n image age) s = .next t ∧ t.reg (Reg.CFD_NRXREJ n) = s.reg (Reg.CFD_NRXREJ n) + 1
        ∧ (t.canCh n).rx = (s.canCh n).rx ∧ sameRegs s t [Reg.CFD_NRXREJ n, Reg.CFD_STAT n, Reg.CFD_STK n]) := by
  have htaken : (s.regB (Reg.CFD_CTL n) 31 && decide (s.canBus n < 2)) = true := by simp [hen, hbus]
  have hformat : ¬ (bit (image.head?.getD 0) 30 && !(s.regB (Reg.CFD_CTL n) 27)) = true := by
    rcases hfd with h | h <;> rw [h] <;> simp
  have hmoved := canRxOk_moves s n
  have hrun : ∀ u, u = s.canRxOk n → exec (.canFrameReceived n image age) s = .next (match u.canFilter n image with
      | some f => match u.regF (Reg.CFD_FMSK n f) 31 30 with
        | 0 => (u.bump (Reg.CFD_NRX n)).canQueue n (rxEntry image (u.tb.t - age) f false)
        | 1 => (u.bump (Reg.CFD_NRX n)).canBuffer n f image (u.tb.t - age)
        | _ => u.bump (Reg.CFD_NRXREJ n)
      | none =>
        if u.regB (Reg.CFD_CTL n) 23 then (u.freeValue.2.bump (Reg.CFD_NRX n)).canQueue n (rxEntry image (u.tb.t - age) (u.freeValue.1.toNat % 32) false)
        else u.bump (Reg.CFD_NRXREJ n)) := by
    rintro u rfl
    exact congrArg Host.Outcome.next ((if_pos htaken).trans (if_neg hformat))
  generalize s.canRxOk n = u at hmoved hrun
  have hreg := hmoved.2
  have hmask (f : Nat) : u.regF (Reg.CFD_FMSK n f) 31 30 = s.regF (Reg.CFD_FMSK n f) 31 30 := congrArg (fld · 31 30) (hreg _ (by lia) (by lia))
  have hrx : ((u.bump (Reg.CFD_NRX n)).canCh n).rx = (s.canCh n).rx := hmoved.rx_eq
  have hnrx : (u.bump (Reg.CFD_NRX n)).reg (Reg.CFD_NRX n) = s.reg (Reg.CFD_NRX n) + 1 := by
    simp [State.bump, wd, hreg (Reg.CFD_NRX n) (by lia) (by lia)]
  have hother (a : Nat) (h : a ≠ Reg.CFD_NRX n) (h1 : a ≠ Reg.CFD_STAT n) (h2 : a ≠ Reg.CFD_STK n) :
      (u.bump (Reg.CFD_NRX n)).reg a = s.reg a := by
    simp [State.bump, h, hreg a h1 h2]
  let w := u.bump (Reg.CFD_NRX n)
  let e := fun f => rxEntry image (s.tb.t - age) f false
  refine ⟨fun f hf hq hroom => ⟨w.canQueue n (e f), (hrun u rfl).trans ?_, ?_⟩, fun f hf hq hfull => ⟨w.canQueue n (e f), (hrun u rfl).trans ?_, ?_⟩,
    fun f hf hb hfree => ⟨w.canBuffer n f image (s.tb.t - age), (hrun u rfl).trans ?_, ?_⟩, fun hf hlisten => ⟨u.bump (Reg.CFD_NRXREJ n), (hrun u rfl).trans ?_, ?_⟩⟩
  · rw [hmoved.canFilter_eq, hf, hmoved.tb_eq]
    dsimp only
    rw [hmask, hq]
    rfl
  · obtain ⟨h1, h2, h3, h4⟩ := canQueue_room (s := u.bump (Reg.CFD_NRX n)) (n := n) (rxEntry image (s.tb.t - age) f false) (hrx ▸ hroom)
    rw [hrx] at h1 h4
    exact ⟨h1, h2.trans hnrx, h3.trans (congrArg (· + 1) (hother _ (by lia) (by lia) (by lia))), h4⟩
  · rw [hmoved.canFilter_eq, hf, hmoved.tb_eq]
    dsimp only
    rw [hmask, hq]
    rfl
  · obtain ⟨h1, h2, h3⟩ := canQueue_full (s := u.bump (Reg.CFD_NRX n)) (n := n) (rxEntry image (s.tb.t - age) f false) n.isLt (hrx ▸ hfull)
    exact ⟨h1.trans hrx, h2.trans (congrArg (· + 1) (hother _ (by lia) (by lia) (by lia))), h3⟩
  · rw [hmoved.canFilter_eq, hf, hmoved.tb_eq]
    dsimp only
    rw [hmask, hb]
    rfl
  · have hstat := hother (Reg.CFD_HPSTAT n) (by lia) (by lia) (by lia)
    obtain ⟨h1, h2, h3, h4⟩ := canBuffer_free (s := u.bump (Reg.CFD_NRX n)) (n := n) (f := f) image (s.tb.t - age)
      ((congrArg (bit · _) hstat).trans hfree)
    exact ⟨h1, h2.trans hrx, h3.trans (congrArg (· + 1) (hother _ (by lia) (by lia) (by lia))), h4⟩
  · have hlisten' : u.regB (Reg.CFD_CTL n) 23 = false := (congrArg (bit · 23) (hreg _ (by lia) (by lia))).trans hlisten
    rw [hmoved.canFilter_eq, hf]
    dsimp only
    rw [hlisten', if_neg Bool.false_ne_true]
  · have hch : ((u.bump (Reg.CFD_NRXREJ n)).canCh n).rx = (s.canCh n).rx := hmoved.rx_eq
    refine ⟨?_, hch, fun a ha _ => ?_⟩
    · simp [State.bump, wd, hreg (Reg.CFD_NRXREJ n) (by lia) (by lia)]
    · simp only [List.mem_cons, List.not_mem_nil, or_false, not_or] at ha
      obtain ⟨h1, h2, h3⟩ := ha
      simp [State.bump, h1, hreg a h2 h3]

/-- Settles O50: a frame received and the acknowledgements, one lemma each. -/
theorem canReceiveResults : Obligations.CanReceiveResults := by
  unfold Obligations.CanReceiveResults
  exact ⟨fun _ _ _ _ => canFrameReceived_results, fun _ _ _ _ => canAck_results⟩

end Sys2Proof.Machine
end

section
/-! PROOFS. Transmission on the CAN channels (R478, R479, R483 to R488, R490, R491); then the statement
`Obligations.CanTransmitResults`. -/
namespace Sys2Proof.Machine

open State (setBitR clrBitR setRegF regB regF Leaves)

/-! ### The end of an entry and its record (R485, R489 to R491) -/

@[simp] theorem canCh_touch (s : State) (b n : Nat) : (s.touch b).canCh n = s.canCh n := (rfl)
@[simp] theorem canCh_storeBytes (s : State) (a : Nat) (l : List Byte) (n : Nat) : (s.storeBytes a l).canCh n = s.canCh n := (rfl)

/-- What the record of an entry leaves alone: what has left the unit, the queue, the transmit error counter, the state of the bus,
the counters of the ends, the sticky bits but TXCLOST. -/
def State.canBeside (n : Nat) (u : State) : List OutItem × List CanEntry × Nat × Word × (Fin 16 → Word) × (Fin 6 → Bool) :=
  (u.out, (u.canCh n).queue, (u.canCh n).tec, u.reg (Reg.CFD_STAT n), fun i => u.reg (Reg.CFD_NST n i), fun i => u.regB (Reg.CFD_STK n) i)

theorem canRecord_leaves {n : Nat} (hn : n < 6) (s : State) (r : List Word) : Leaves (State.canBeside n) s (s.canRecord n r) := by
  unfold State.canRecord
  refine .ite ⟨?_⟩ (.ite ⟨?_⟩ ⟨?_⟩)
  · simp (disch := lia) [State.canBeside, State.canPut, State.canRingStat, State.bump, State.drop, State.storeWords, regB]
  · simp (disch := lia) [State.canBeside, regB]
  · split <;> simp (disch := lia) [State.canBeside, State.bump, setBitR, regB]

theorem canEnd_leaves {n : Nat} (hn : n < 6) (s : State) (e : CanEntry) (status cause : Nat) :
    (s.canEnd n e status cause).canBeside n
      = ((s.updCan n (fun x => { x with queue := x.queue.filter (fun q => q.no != e.no) })).bump (Reg.CFD_NST n status)).canBeside n :=
  (canRecord_leaves hn _ _).eq

section
variable {n : Nat} (hn : n < 6) (s : State) (e : CanEntry) (status cause : Nat)
include hn

theorem out_canEnd : (s.canEnd n e status cause).out = s.out := congrArg Prod.fst (canEnd_leaves hn s e status cause)

theorem queue_canEnd : ((s.canEnd n e status cause).canCh n).queue = (s.canCh n).queue.filter (fun q => q.no != e.no) :=
  (congrArg (fun v => v.2.1) (canEnd_leaves hn s e status cause)).trans (by simp [State.canBeside, State.bump])

theorem tec_canEnd : ((s.canEnd n e status cause).canCh n).tec = (s.canCh n).tec :=
  (congrArg (fun v => v.2.2.1) (canEnd_leaves hn s e status cause)).trans (by simp [State.canBeside, State.bump])

theorem stat_canEnd : (s.canEnd n e status cause).reg (Reg.CFD_STAT n) = s.reg (Reg.CFD_STAT n) :=
  (congrArg (fun v => v.2.2.2.1) (canEnd_leaves hn s e status cause)).trans (by simp (disch := lia) [State.canBeside, State.bump])

theorem nst_canEnd (h : status < 16) : (s.canEnd n e status cause).reg (Reg.CFD_NST n status) = s.reg (Reg.CFD_NST n status) + 1 :=
  (congrFun (congrArg (fun v => v.2.2.2.2.1) (canEnd_leaves hn s e status cause)) ⟨status, h⟩).trans
    (by simp [State.canBeside, State.bump, wd])

theorem stk_canEnd {i : Nat} (h : i < 6) : (s.canEnd n e status cause).regB (Reg.CFD_STK n) i = s.regB (Reg.CFD_STK n) i :=
  (congrFun (congrArg (fun v => v.2.2.2.2.2) (canEnd_leaves hn s e status cause)) ⟨i, h⟩).trans
    (by simp (disch := lia) [State.canBeside, State.bump, regB])

/-- R485: of a list of entries that end the queue keeps none, and the counter of their end takes each. -/
theorem canEnd_foldl (h : status < 16) (l : List CanEntry) : ∀ s : State,
    let t := l.foldl (fun s e => s.canEnd n e status cause) s
    (t.canCh n).queue = (s.canCh n).queue.filter (fun q => l.all fun e => q.no != e.no)
      ∧ t.reg (Reg.CFD_NST n status) = s.reg (Reg.CFD_NST n status) + BitVec.ofNat 32 l.length
      ∧ t.reg (Reg.CFD_STAT n) = s.reg (Reg.CFD_STAT n)
      ∧ ∀ i, i < 6 → t.regB (Reg.CFD_STK n) i = s.regB (Reg.CFD_STK n) i := by
  induction l with
  | nil => intro s; simp
  | cons e l ih =>
    intro s
    obtain ⟨hq, hc, hs, hb⟩ := ih (s.canEnd n e status cause)
    refine ⟨?_, ?_, hs.trans (stat_canEnd hn ..), fun i hi => (hb i hi).trans (stk_canEnd hn _ _ _ _ hi)⟩
    · refine hq.trans ?_
      rw [queue_canEnd hn, List.filter_filter]
      simp [Bool.and_comm]
    · refine hc.trans ?_
      rw [nst_canEnd hn _ _ _ _ h, List.length_cons, BitVec.add_assoc, Nat.add_comm, BitVec.ofNat_add]
      rfl

end

theorem filter_own_numbers (l : List CanEntry) : l.filter (fun q => l.all fun e => q.no != e.no) = [] := by
  simp only [List.filter_eq_nil_iff, List.all_eq_true, bne_iff_ne, not_forall, not_not]
  exact fun q hq => ⟨q, hq, rfl⟩

/-! ### Eligible entries and their arbitration (R483, R484) -/

theorem canEntryEligible_results {n : Fin 6} {s : State} : ∃ t, exec (.canEntryEligible n) s = .next t ∧ t.regs = s.regs
      ∧ (∀ e, e ∈ (s.canCh n).queue → e.el + 500 ≤ s.tb.el → { e with eligible := true } ∈ (t.canCh n).queue)
      ∧ (∀ e, e ∈ (s.canCh n).queue → s.tb.el < e.el + 500 → e ∈ (t.canCh n).queue) := by
  refine ⟨_, rfl, rfl, fun e he hdue => ?_, fun e he hsoon => ?_⟩ <;> rw [canCh_updCan_same]
  · exact List.mem_map.2 ⟨e, he, if_pos hdue⟩
  · exact List.mem_map.2 ⟨e, he, if_neg (Nat.not_le.2 hsoon)⟩

/-- R484: `b` is an eligible entry of the list, and none eligible has a lower arbitration field. -/
def Wins (l : List CanEntry) (b : CanEntry) : Prop :=
  b ∈ l ∧ b.eligible = true ∧ ∀ e ∈ l, e.eligible = true → arbField b.image ≤ arbField e.image

/-- The better of an entry found so far and a new one. -/
def betterEntry (b : Option CanEntry) (e : CanEntry) : Option CanEntry :=
  match b with
  | none => some e
  | some x => if arbField e.image < arbField x.image then some e else some x

theorem betterEntry_foldl (l : List CanEntry) : ∀ x : CanEntry, ∃ b, l.foldl betterEntry (some x) = some b ∧ b ∈ x :: l
    ∧ ∀ e ∈ x :: l, arbField b.image ≤ arbField e.image := by
  induction l with
  | nil => exact fun x => ⟨x, rfl, by simp, by simp⟩
  | cons y l ih =>
    intro x
    by_cases h : arbField y.image < arbField x.image
    · obtain ⟨b, hb, hin, hmin⟩ := ih y
      refine ⟨b, ?_, List.mem_cons_of_mem _ hin, ?_⟩
      · rw [List.foldl_cons, betterEntry, if_pos h, hb]
      · have := hmin y List.mem_cons_self
        exact List.forall_mem_cons.2 ⟨by omega, hmin⟩
    · obtain ⟨b, hb, hin, hmin⟩ := ih x
      obtain ⟨hx, hl⟩ := List.forall_mem_cons.1 hmin
      refine ⟨b, ?_, ?_, List.forall_mem_cons.2 ⟨hx, List.forall_mem_cons.2 ⟨by omega, hl⟩⟩⟩
      · rw [List.foldl_cons, betterEntry, if_neg h, hb]
      · rcases List.mem_cons.1 hin with rfl | hin
        · exact List.mem_cons_self
        · exact List.mem_cons_of_mem _ (List.mem_cons_of_mem _ hin)

theorem bestEntry_eq (l : List CanEntry) : bestEntry l = (l.filter (fun e => e.eligible)).foldl betterEntry none := by
  unfold bestEntry
  congr 1

theorem bestEntry_wins {l : List CanEntry} {e : CanEntry} (he : e ∈ l) (hel : e.eligible = true) : ∃ b, bestEntry l = some b ∧ Wins l b := by
  have hmem : e ∈ l.filter (fun e => e.eligible) := List.mem_filter.2 ⟨he, hel⟩
  obtain ⟨x, l', hl⟩ := List.exists_cons_of_ne_nil (List.ne_nil_of_mem hmem)
  obtain ⟨b, hb, hin, hmin⟩ := betterEntry_foldl l' x
  rw [← hl] at hin hmin
  obtain ⟨hbl, hbel⟩ := List.mem_filter.1 hin
  refine ⟨b, ?_, hbl, hbel, fun q hq hqel => hmin q (List.mem_filter.2 ⟨hq, hqel⟩)⟩
  rw [bestEntry_eq, hl, List.foldl_cons, betterEntry, hb]

theorem bestEntry_none {l : List CanEntry} (h : ∀ e ∈ l, e.eligible = false) : bestEntry l = none := by
  have hnil : l.filter (fun e => e.eligible) = [] := List.filter_eq_nil_iff.2 fun e he => by simp [h e he]
  rw [bestEntry_eq, hnil]; rfl

/-- An entry put into a queue that holds its number is found when it alone has started. -/
theorem canSending_canPutEntry {s : State} {n : Nat} {b e : CanEntry} (hb : b ∈ (s.canCh n).queue) (hno : b.no = e.no)
    (hst : e.started = true) (hidle : s.canSending n = none) : (s.canPutEntry n e).canSending n = some e := by
  have hall : ∀ q ∈ (s.canCh n).queue, q.started = false := fun q hq => by
    simpa using List.find?_eq_none.1 hidle q hq
  unfold State.canSending State.canPutEntry
  rw [canCh_updCan_same]
  generalize (s.canCh n).queue = l at hb hall
  induction l with
  | nil => exact absurd hb List.not_mem_nil
  | cons q l ih =>
    by_cases hq : q.no = e.no
    · simp [hq, hst]
    · have hin : b ∈ l := (List.mem_cons.1 hb).resolve_left fun h => hq (h ▸ hno)
      have hfirst : q.started = false := hall q List.mem_cons_self
      simpa [hq, hfirst] using ih hin fun r hr => hall r (List.mem_cons_of_mem _ hr)

theorem canArbitration_results {n : Fin 6} {s : State} (hsends : s.canSends n = true) (heff : s.canEff n = 0) (hidle : s.canSending n = none) :
    (∀ e, e ∈ (s.canCh n).queue → e.eligible = true →
      ∃ t b, exec (.canArbitration n) s = .next t ∧ t.canSending n = some { b with started := true, att := b.att + 1, sof := some s.tb.t }
        ∧ b ∈ (s.canCh n).queue ∧ b.eligible = true ∧ arbField b.image ≤ arbField e.image ∧ t.regs = s.regs)
    ∧ ((∀ e, e ∈ (s.canCh n).queue → e.eligible = false) → exec (.canArbitration n) s = .next s) := by
  have hready : (s.canSends n && s.canEff n == 0 && (s.canSending n).isNone) = true := by simp [hsends, heff, hidle]
  have hrun : exec (.canArbitration n) s = .next (match bestEntry (s.canCh n).queue with
      | none => s
      | some e => s.canPutEntry n { e with started := true, att := e.att + 1, sof := some s.tb.t }) :=
    congrArg Host.Outcome.next (if_pos hready)
  refine ⟨fun e he hel => ?_, fun hnone => ?_⟩
  · obtain ⟨b, hbest, hin, hbel, hmin⟩ := bestEntry_wins he hel
    rw [hbest] at hrun
    exact ⟨_, b, hrun, canSending_canPutEntry hin rfl rfl hidle, hin, hbel, hmin e he hel, rfl⟩
  · rw [hrun, bestEntry_none hnone]

/-! ### Completion and failure (R485, R487, R488) -/

theorem canCh_canCounters (s : State) (n tec rc : Nat) :
    (s.canCounters n tec rc).canCh n = { s.canCh n with tec := tec, rec_ := rc } := by
  unfold State.canCounters
  extract_lets u v
  have hv : v.canCh n = { s.canCh n with tec := tec, rec_ := rc } := by simp [v, u, setRegF]
  clear_value v
  split
  · exact hv
  split
  · have hpassive : State.canCh (if v.canBus n = 0 then v.setBitR (Reg.CFD_STK n) 2 else v) n = v.canCh n := by
      split <;> simp [setBitR]
    exact (canCh_setReg _ _ _ _).trans (hpassive.trans hv)
  · exact (canCh_setReg _ _ _ _).trans hv

theorem CountersMoved.out_eq {s t : State} {n : Nat} (h : CountersMoved n s t) : t.out = s.out := by
  obtain ⟨⟨r, k, x, tec, rc, rfl⟩, -⟩ := h
  rfl

theorem canTxComplete_results {n : Fin 6} {delay : Nat} {e : CanEntry} {s : State} (hsend : s.canSending n = some e) :
    ∃ t, exec (.canTxComplete n delay) s = .next t ∧ sent s t (.can n e.image)
      ∧ (t.canCh n).queue = (s.canCh n).queue.filter (fun q => q.no != e.no) ∧ (t.canCh n).tec = (s.canCh n).tec - 1
      ∧ t.reg (Reg.CFD_NST n (if e.cancelled then 1 else 0)) = s.reg (Reg.CFD_NST n (if e.cancelled then 1 else 0)) + 1 := by
  obtain ⟨u, hu, hcan, hout, hreg⟩ : ∃ u : State, exec (.canTxComplete n delay) s
      = .next (((u.canCounters n ((u.canCh n).tec - 1) (u.canCh n).rec_).emit (.can n e.image)).canEnd n e (if e.cancelled then 1 else 0) 0)
      ∧ u.canCh n = s.canCh n ∧ u.out = s.out ∧ ∀ a, a ≠ Reg.CFD_STAT n → u.reg a = s.reg a := by
    refine ⟨if (bit (e.image.head?.getD 0) 30 && s.regB (Reg.CFD_TDC n) 31) = true
      then s.setRegF (Reg.CFD_STAT n) 23 16 (min delay 255) else s, congrArg Host.Outcome.next ?_, ?_⟩
    · simp only [hsend]
    · split
      · exact ⟨rfl, rfl, fun a h => State.reg_setReg_ne _ _ h⟩
      · exact ⟨rfl, rfl, fun _ _ => rfl⟩
  have hmoved := canCounters_moves u n ((u.canCh n).tec - 1) (u.canCh n).rec_
  have hch := canCh_canCounters u n ((u.canCh n).tec - 1) (u.canCh n).rec_
  generalize u.canCounters n ((u.canCh n).tec - 1) (u.canCh n).rec_ = w at hu hmoved hch
  refine ⟨_, hu, ?_, ?_, ?_, ?_⟩
  · exact (out_canEnd n.isLt ..).trans (congrArg (· ++ [OutItem.can n e.image]) (hmoved.out_eq.trans hout))
  · rw [queue_canEnd n.isLt, canCh_emit, hch, hcan]
  · rw [tec_canEnd n.isLt, canCh_emit, hch, hcan]
  · have hlow : (if e.cancelled then 1 else 0) < 16 := by split <;> decide
    rw [nst_canEnd n.isLt _ _ _ _ hlow, State.reg_emit, hmoved.2 _ (by lia) (by lia), hreg _ (by lia)]

theorem canTxError_results {n : Fin 6} {f : CanFail} {e : CanEntry} {s : State} (hsend : s.canSending n = some e) :
    let t0 := (s.canCh n).tec
    (e.cancelled = false → bit (e.image.head?.getD 0) 27 = false → (f = .dataBit → e.coll = 0) →
      ∃ t, exec (.canTxError n f) s = .next t ∧ (∀ q, q ∈ (t.canCh n).queue → q.no = e.no → q.started = false)
        ∧ (t.canCh n).queue.length = (s.canCh n).queue.length
        ∧ (t.canCh n).tec = if f = .arbitration then t0 else t0 + 8)
    ∧ (e.cancelled = true → ∃ t, exec (.canTxError n f) s = .next t ∧ t.reg (Reg.CFD_NST n 2) = s.reg (Reg.CFD_NST n 2) + 1
        ∧ (t.canCh n).queue = (s.canCh n).queue.filter (fun q => q.no != e.no))
    ∧ (e.cancelled = false → bit (e.image.head?.getD 0) 27 = true → ∃ t, exec (.canTxError n f) s = .next t
        ∧ t.reg (Reg.CFD_NST n 3) = s.reg (Reg.CFD_NST n 3) + 1 ∧ (t.canCh n).queue = (s.canCh n).queue.filter (fun q => q.no != e.no)) := by
  intro t0
  obtain ⟨u, hu, hqueue, htec, hreg⟩ : ∃ u : State, u = (if f = .arbitration then s else s.canCounters n ((s.canCh n).tec + 8) (s.canCh n).rec_)
      ∧ (u.canCh n).queue = (s.canCh n).queue ∧ (u.canCh n).tec = (if f = .arbitration then t0 else t0 + 8)
      ∧ ∀ a, a ≠ Reg.CFD_STAT n → a ≠ Reg.CFD_STK n → u.reg a = s.reg a := by
    refine ⟨_, rfl, ?_⟩
    split
    · exact ⟨rfl, rfl, fun _ _ _ => rfl⟩
    · rw [canCh_canCounters]
      exact ⟨rfl, rfl, (canCounters_moves s n _ _).2⟩
  let coll := if f = .dataBit then e.coll + 1 else 0
  have hrun : exec (.canTxError n f) s = .next (if e.cancelled then u.canEnd n e 2 1
      else if bit (e.image.head?.getD 0) 27 then u.canEnd n e 3 (if f = .arbitration then 2 else 1)
      else if 2 ≤ coll then
        ((u.setBitR (Reg.CFD_STK n) 4).record .canIdCollision n [n, fld ((e.image[1]?).getD 0) 28 0]).canEnd n e 4 0
      else u.canPutEntry n { e with started := false, coll := coll }) := by
    refine congrArg Host.Outcome.next ?_
    simp only [hsend, hu, coll]
  refine ⟨fun hkeep hmany hcoll => ?_, fun hcan => ?_, fun hkeep hone => ?_⟩
  · have hfew : ¬ 2 ≤ coll := by
      simp only [coll]
      split
      · next h => simp [hcoll h]
      · decide
    refine ⟨_, hrun.trans (congrArg Host.Outcome.next ((if_neg (by simp [hkeep])).trans ((if_neg (by rw [hmany]; decide)).trans (if_neg hfew)))),
      fun q hq hno => ?_, ?_, ?_⟩
    · rw [State.canPutEntry, canCh_updCan_same] at hq
      obtain ⟨r, hr, rfl⟩ := List.mem_map.1 hq
      by_cases h : r.no = e.no
      · rw [if_pos h]
      · rw [if_neg h] at hno
        exact absurd hno h
    · simp [State.canPutEntry, hqueue]
    · simp [State.canPutEntry, htec]
  · refine ⟨_, hrun.trans (congrArg Host.Outcome.next (if_pos hcan)), ?_, ?_⟩
    · rw [nst_canEnd n.isLt _ _ _ _ (by decide), hreg _ (by lia) (by lia)]
    · rw [queue_canEnd n.isLt, hqueue]
  · refine ⟨_, hrun.trans (congrArg Host.Outcome.next ((if_neg (by simp [hkeep])).trans (if_pos hone))), ?_, ?_⟩
    · rw [nst_canEnd n.isLt _ _ _ _ (by decide), hreg _ (by lia) (by lia)]
    · rw [queue_canEnd n.isLt, hqueue]

/-! ### Bus-off and recovery (R479, R486), the effective mode (R478) -/

theorem canBusoff_results {n : Fin 6} {s : State} (hen : s.regB (Reg.CFD_CTL n) 31 = true) (hbus : s.canBus n < 2)
    (htec : 256 ≤ (s.canCh n).tec) :
    ∃ t, exec (.canBusoff n) s = .next t ∧ t.canBus n = (if s.regB (Reg.CFD_CTL n) 25 then 3 else 2) ∧ (t.canCh n).queue = []
      ∧ t.regB (Reg.CFD_STK n) 1 = true ∧ t.reg (Reg.CFD_NST n 7) = s.reg (Reg.CFD_NST n 7) + BitVec.ofNat 32 (s.canCh n).queue.length := by
  have hoff : (s.regB (Reg.CFD_CTL n) 31 && decide (s.canBus n < 2) && decide (256 ≤ (s.canCh n).tec)) = true := by simp [hen, hbus, htec]
  let u := ((s.setRegF (Reg.CFD_STAT n) 31 30 (if s.regB (Reg.CFD_CTL n) 25 then 3 else 2)).setBitR (Reg.CFD_STK n) 1).record .canBusoff n
    [n, (s.canCh n).tec, (s.canCh n).rec_]
  obtain ⟨hqueue, hcount, hstat, hstk⟩ := canEnd_foldl n.isLt 7 0 (by decide) (s.canCh n).queue u
  refine ⟨_, congrArg Host.Outcome.next (if_pos hoff), (congrArg (fld · 31 30) hstat).trans ?_, hqueue.trans ?_,
    (hstk 1 (by decide)).trans ?_, hcount.trans ?_⟩
  · simp (disch := lia) [u, setRegF, setBitR, fld_setFld_same]
    split <;> decide
  · have hch : u.canCh n = s.canCh n := by simp [u, setRegF, setBitR]
    rw [hch, filter_own_numbers]
  · simp (disch := lia) [u, setRegF, setBitR, regB]
  · simp (disch := lia) [u, setRegF, setBitR]

theorem cfdRecov_results {p : Party} {n : Fin 6} {v : Word} {s : State} (hturn : s.turnOf p = true) :
    (bit v 0 = true → s.canBus n = 2 → ∃ t, exec (.cfdRecov p n v) s = .next t ∧ t.canBus n = 3 ∧ sameRegs s t [Reg.CFD_STAT n])
    ∧ (bit v 0 = false ∨ s.canBus n ≠ 2 → exec (.cfdRecov p n v) s = .next (s.turned p)) := by
  have hbus : (s.turned p).canBus n = s.canBus n := rfl
  refine ⟨fun hv hoff => ⟨_, congrArg Host.Outcome.next ((byParty_of_turnOf hturn _).trans (if_pos (by simp [hv, hbus, hoff]))), ?_,
      sameRegs_setReg _ _ _⟩,
    fun hno => congrArg Host.Outcome.next ((byParty_of_turnOf hturn _).trans (if_neg ?_))⟩
  · simp [State.canBus, regF, setRegF, fld_setFld_same]
  · rw [hbus]
    rcases hno with h | h <;> simp [h]

/-- R479: with both counters at 0 a channel that takes part is error-active. -/
theorem canCounters_zero {s : State} (n : Nat) (hbus : s.canBus n = 0) : (s.canCounters n 0 0).canBus n = 0
    ∧ ∀ a, a ≠ Reg.CFD_STAT n → (s.canCounters n 0 0).reg a = s.reg a := by
  have hrun : s.canCounters n 0 0 = ((((s.updCan n fun x => { x with tec := 0, rec_ := 0 }).setRegF (Reg.CFD_STAT n) 7 0 (min 0 255)).setRegF
      (Reg.CFD_STAT n) 15 8 (min 0 255)).setRegF (Reg.CFD_STAT n) 31 30 0) := by
    refine (if_neg ?_).trans (if_neg (by decide))
    have hstat : fld (s.reg (Reg.CFD_STAT n)) 31 30 = 0 := hbus
    simp (disch := lia) [State.canBus, regF, setRegF, hstat]
  rw [hrun]
  refine ⟨?_, fun a ha => ?_⟩
  · simp [State.canBus, regF, setRegF, fld_setFld_same]
  · simp [setRegF, ha]

theorem canBus_mode_results {n : Fin 6} {s : State} :
    (s.canBus n = 3 → ∃ t, exec (.canBusoffRecovered n) s = .next t ∧ t.canBus n = 0 ∧ (t.canCh n).tec = 0 ∧ (t.canCh n).rec_ = 0
        ∧ sameRegs s t [Reg.CFD_STAT n])
    ∧ (s.regB (Reg.CFD_CTL n) 31 = true → s.canSending n = none → ∃ t, exec (.canModeSwitch n) s = .next t ∧ t.canMode n = s.canEff n
        ∧ sameRegs s t [Reg.CFD_STAT n])
    ∧ (∀ by8 : Bool, s.regB (Reg.CFD_CTL n) 31 = true → s.canBus n < 2 → ∃ t, exec (.canReceiveError n by8) s = .next t
        ∧ (t.canCh n).rec_ = min ((s.canCh n).rec_ + if by8 then 8 else 1) 255 ∧ sameRegs s t [Reg.CFD_STAT n, Reg.CFD_STK n]) := by
  refine ⟨fun hrec => ⟨_, congrArg Host.Outcome.next (if_pos hrec), ?_⟩,
    fun hen hidle => ⟨_, congrArg Host.Outcome.next (if_pos (by simp [hen, hidle])), ?_, sameRegs_setReg _ _ _⟩,
    fun by8 hen hbus => ⟨_, congrArg Host.Outcome.next (if_pos (by simp [hen, hbus])), ?_, fun a ha _ => ?_⟩⟩
  · have hbus : (s.setRegF (Reg.CFD_STAT n) 31 30 0).canBus n = 0 := by simp [State.canBus, regF, setRegF, fld_setFld_same]
    obtain ⟨hstat, hregs⟩ := canCounters_zero n hbus
    have hch := canCh_canCounters (s.setRegF (Reg.CFD_STAT n) 31 30 0) n 0 0
    refine ⟨(congrArg (fld · 31 30) (reg_record_outside _ _ _ _ (by lia))).trans hstat, ?_, ?_, fun a ha hr => ?_⟩
    · rw [canCh_record, hch]
    · rw [canCh_record, hch]
    · have hne : a ≠ Reg.CFD_STAT n := List.ne_of_not_mem_cons ha
      exact (sameRegs_record _ _ _ _ [] a List.not_mem_nil hr).trans ((hregs a hne).trans (State.reg_setReg_ne _ _ hne))
  · have hlt : s.canEff n < 8 := by
      unfold State.canEff
      split
      · split <;> decide
      · exact Nat.mod_lt _ (by decide)
    simp [State.canMode, regF, setRegF, fld_setFld_same, Nat.mod_eq_of_lt hlt]
  · exact congrArg (fun x => x.rec_) (canCh_canCounters s n _ _)
  · simp only [List.mem_cons, List.not_mem_nil, or_false, not_or] at ha
    exact (canCounters_moves s n _ _).2 a ha.1 ha.2

/-! ### Cancelling (R487) -/

theorem cfdCancel_results {p : Party} {n : Fin 6} {v : Word} {s : State} (hturn : s.turnOf p = true) :
    ((s.canCh n).queue = [] → ∃ t, exec (.cfdCancel p n v) s = .next t ∧ t.regB (Reg.CFD_STK n) 5 = true ∧ sameRegs s t [Reg.CFD_STK n])
    ∧ (bit v 16 = true → (∀ e, e ∈ (s.canCh n).queue → e.started = false) → (s.canCh n).queue ≠ [] →
      ∃ t, exec (.cfdCancel p n v) s = .next t ∧ (t.canCh n).queue = []
        ∧ t.reg (Reg.CFD_NST n 2) = s.reg (Reg.CFD_NST n 2) + BitVec.ofNat 32 (s.canCh n).queue.length) := by
  have hch : (s.turned p).canCh n = s.canCh n := rfl
  refine ⟨fun hnone => ⟨_, congrArg Host.Outcome.next ((byParty_of_turnOf hturn _).trans (if_pos (by simp [hch, hnone]))), ?_,
      sameRegs_setBitR _ _ _⟩, fun hall hwait hsome => ?_⟩
  · simp (disch := lia) [setBitR, regB]
  · have hhits : ((s.turned p).canCh n).queue.filter (fun e => bit v 16 || fld (e.image.head?.getD 0) 15 0 == fld v 15 0) = (s.canCh n).queue := by
      rw [hch]
      exact List.filter_eq_self.2 fun e _ => by simp [hall]
    have hends : ((s.canCh n).queue.foldl (fun s e => if e.started then s.canPutEntry n { e with cancelled := true } else s.canEnd n e 2 0) (s.turned p))
        = (s.canCh n).queue.foldl (fun s e => s.canEnd n e 2 0) (s.turned p) :=
      List.foldl_ext _ _ _ fun u e he => if_neg (by simp [hwait e he])
    obtain ⟨hqueue, hcount, -, -⟩ := canEnd_foldl n.isLt 2 0 (by decide) (s.canCh n).queue (s.turned p)
    refine ⟨_, congrArg Host.Outcome.next ((byParty_of_turnOf hturn _).trans ((if_neg ?_).trans ((congrArg _ hhits).trans hends))),
      hqueue.trans (filter_own_numbers _), hcount⟩
    rw [hhits]
    simp [hsome]

/-! ### Completion records (R490, R491) -/

theorem canPut_results {s : State} {n : Nat} (r : List Word) :
    (s.canPut n r).canCh n = { s.canCh n with wptr := ((s.canCh n).wptr + 1) % max (s.canRing n) 1, unack := (s.canCh n).unack + 1 }
      ∧ (s.canPut n r).reg (Reg.CFD_NTXC n) = s.reg (Reg.CFD_NTXC n) + 1 ∧ (s.canPut n r).reg (Reg.CFD_TXCW n) = s.reg (Reg.CFD_TXCW n)
      ∧ (s.canPut n r).banks = ((s.touch (fld (s.reg (Reg.CFD_TXCR n)) 31 26)).storeWords
          (bankAddr (fld (s.reg (Reg.CFD_TXCR n)) 31 26) (4 * (fld (s.reg (Reg.CFD_TXCR n)) 25 13 + 4 * (s.canCh n).wptr))) r).banks := by
  refine ⟨?_, ?_, ?_, rfl⟩
  · simp [State.canPut, State.canRingStat, State.bump, State.drop, State.storeWords, State.canRing]
    rfl
  · simp (disch := lia) [State.canPut, State.canRingStat, State.bump, State.drop, State.storeWords, wd]
  · simp (disch := lia) [State.canPut, State.canRingStat, State.bump, State.drop, State.storeWords]

theorem bankWords_of_banks {s t : State} (h : t.banks = s.banks) (a n : Nat) : t.bankWords a n = s.bankWords a n := by
  unfold State.bankWords State.bankNum
  rw [h]

theorem canRecordWrite_results {n : Fin 6} {r : List Word} {l : List (List Word)} {s : State} (hstore : (s.canCh n).store = r :: l)
    (hroom : (s.canCh n).unack < s.canRing n) :
    ∃ t, exec (.canRecordWrite n) s = .next t ∧ (t.canCh n).store = l ∧ (t.canCh n).unack = (s.canCh n).unack + 1
      ∧ t.reg (Reg.CFD_NTXC n) = s.reg (Reg.CFD_NTXC n) + 1 ∧ t.reg (Reg.CFD_TXCW n) = BitVec.ofNat 32 l.length
      ∧ (s.Canonical → r.length = 4 → t.bankWords (bankAddr (s.regF (Reg.CFD_TXCR n) 31 26)
          (4 * (s.regF (Reg.CFD_TXCR n) 25 13 + 4 * (s.canCh n).wptr))) 4 = r) := by
  let u := (s.updCan n (fun x => { x with store := l })).setReg (Reg.CFD_TXCW n) (wd l.length)
  let t := if l.isEmpty && (s.canCh n).lostOn then ((u.canPut n r).updCan n (fun x => { x with lostOn := false })).record .canTxcResume n [n]
    else u.canPut n r
  have hrun : exec (.canRecordWrite n) s = .next t := by
    refine congrArg Host.Outcome.next ?_
    simp only [hstore, if_pos hroom, t, u]
  obtain ⟨hch, hntxc, htxcw, hbanks⟩ := canPut_results (s := u) (n := n) r
  have hu : u.canCh n = { s.canCh n with store := l } := by simp [u]
  have hend : (t.canCh n).store = ((u.canPut n r).canCh n).store ∧ (t.canCh n).unack = ((u.canPut n r).canCh n).unack
      ∧ t.reg (Reg.CFD_NTXC n) = (u.canPut n r).reg (Reg.CFD_NTXC n) ∧ t.reg (Reg.CFD_TXCW n) = (u.canPut n r).reg (Reg.CFD_TXCW n)
      ∧ t.banks = (u.canPut n r).banks := by
    simp only [t]
    split
    · simp (disch := lia)
    · exact ⟨rfl, rfl, rfl, rfl, rfl⟩
  obtain ⟨h1, h2, h3, h4, h5⟩ := hend
  refine ⟨t, hrun, ?_, ?_, ?_, ?_, fun hcanon hlen => ?_⟩
  · rw [h1, hch, hu]
  · rw [h2, hch, hu]
  · rw [h3, hntxc]; simp (disch := lia) [u]
  · rw [h4, htxcw]; simp [u, wd]
  · have hcr : u.reg (Reg.CFD_TXCR n) = s.reg (Reg.CFD_TXCR n) := by simp (disch := lia) [u]
    have hread := bankWords_storeWords (s := u.touch (fld (u.reg (Reg.CFD_TXCR n)) 31 26)) hcanon
      (bankAddr (fld (u.reg (Reg.CFD_TXCR n)) 31 26) (4 * (fld (u.reg (Reg.CFD_TXCR n)) 25 13 + 4 * (u.canCh n).wptr))) r
    rw [hlen, hcr, hu] at hread
    rw [hcr, hu] at hbanks
    exact (bankWords_of_banks (h5.trans hbanks) _ _).trans hread

theorem cfdTxcack_results {p : Party} {n : Fin 6} {v : Word} {s : State} (hturn : s.turnOf p = true) :
    (0 < fld v 10 0 → fld v 10 0 ≤ (s.canCh n).unack → ∃ t, exec (.cfdTxcack p n v) s = .next t
        ∧ (t.canCh n).unack = (s.canCh n).unack - fld v 10 0 ∧ sameRegs s t [Reg.CFD_TXCST n])
    ∧ (fld v 10 0 = 0 ∨ (s.canCh n).unack < fld v 10 0 → ∃ t, exec (.cfdTxcack p n v) s = .next t ∧ t.can = s.can ∧ t.priv = s.priv) := by
  have hch : (s.turned p).canCh n = s.canCh n := rfl
  refine ⟨fun hpos hle => ⟨_, congrArg Host.Outcome.next ((byParty_of_turnOf hturn _).trans (if_neg (not_or.2 ⟨by omega, by rw [hch]; omega⟩))), ?_⟩,
    fun hbad => ⟨_, congrArg Host.Outcome.next ((byParty_of_turnOf hturn _).trans (if_pos hbad)), ?_⟩⟩
  · exact ⟨by simp [State.canRingStat, hch], sameRegs_setReg _ _ _⟩
  · simp [State.turned]

/-- Settles O49: eligible entries, their ends, the state of the bus and the completion records, one lemma each. -/
theorem canTransmitResults : Obligations.CanTransmitResults := by
  unfold Obligations.CanTransmitResults
  exact ⟨fun _ _ => canEntryEligible_results, fun _ _ => canArbitration_results, fun _ _ _ _ => canTxComplete_results,
    fun _ _ _ _ => canTxError_results, fun _ _ => canBusoff_results, fun _ _ _ _ => cfdRecov_results, fun _ _ => canBus_mode_results,
    fun _ _ _ _ => cfdCancel_results, fun _ _ _ _ => canRecordWrite_results, fun _ _ _ _ => cfdTxcack_results⟩

end Sys2Proof.Machine
end

section
/-! PROOFS. An element handed over by the routes (R43 to R45): what its delivery reads and what it leaves. -/
namespace Sys2Proof.Machine

open State (Leaves)

/-- A port of the banks, the routes, the loops or the fusion. -/
def routingPort (q : Nat × Word) : Bool := decide (q.1 < 0x4600)

/-- The ports that the list of the routes is read from. -/
def State.routing (s : State) : SMap Word := s.regs.filter routingPort

@[simp] theorem routing_setReg (s : State) {a : Nat} (v : Word) (h : 0x4600 ≤ a) : (s.setReg a v).routing = s.routing :=
  filter_mput routingPort (fun _ => decide_eq_false (Nat.not_lt.2 h)) _

@[simp] theorem routing_orBits (s : State) {a : Nat} (m : Word) (h : 0x4600 ≤ a) : (s.orBits a m).routing = s.routing :=
  routing_setReg s _ h

@[simp] theorem routing_record (s : State) (n : RecName) (el : Nat) (items : List Nat) : (s.record n el items).routing = s.routing := by
  have hfilter (m : SMap Word) : m.filter routingPort = (m.filter ownPort).filter routingPort := by
    rw [List.filter_filter]
    refine List.filter_congr fun q _ => ?_
    simp only [routingPort, ownPort]
    by_cases h : q.1 < 0x4600
    · simp [h]; omega
    · simp [h]
  have hown : (s.record n el items).regs.filter ownPort = s.regs.filter ownPort := congrArg State.regs (unrecorded_record s n el items)
  rw [State.routing, hfilter, hown, ← hfilter, State.routing]

theorem listed_of_routing {s t : State} (h : t.routing = s.routing) {base stride count : Nat} (hlow : base + stride * count ≤ 0x4600) :
    t.listed base stride count = s.listed base stride count := by
  have hread (u : State) : u.listed base stride count = u.routing.filterMap (fun x =>
      if base ≤ x.1 ∧ x.1 < base + stride * count ∧ (x.1 - base) % stride = 0 then some ((x.1 - base) / stride) else none) := by
    rw [State.routing, List.filterMap_filter]
    refine List.filterMap_congr fun q _ => ?_
    by_cases hq : q.1 < 0x4600
    · have hin : routingPort q = true := decide_eq_true hq
      rw [hin, if_pos rfl]
    · have hout : routingPort q = false := decide_eq_false hq
      rw [hout, if_neg Bool.false_ne_true, if_neg fun h => hq (Nat.lt_of_lt_of_le h.2.1 hlow)]
  rw [hread t, hread s, h]

theorem reg_of_routing {s t : State} (h : t.routing = s.routing) {a : Nat} (ha : a < 0x4600) : t.reg a = s.reg a := by
  have hread (u : State) : mget u.routing a = mget u.regs a := mget_filter routingPort (fun _ => decide_eq_true ha) _
  rw [State.reg, State.reg, mgetD, mgetD, ← hread t, h, hread s]

/-- R43: which routes take an element is read from the ports of the routes. -/
theorem routesOf_of_routing {s t : State} (h : t.routing = s.routing) (cls idx : Nat) : t.routesOf cls idx = s.routesOf cls idx := by
  unfold State.routesOf
  rw [listed_of_routing h (by decide)]
  refine List.filter_congr fun n hn => ?_
  have hport : Reg.MBK_RTS n < 0x4600 := by have := lt_of_mem_listed hn; lia
  simp only [State.regB, State.regF, reg_of_routing h hport]

/-- The unit without what the delivery of an element moves. -/
def State.unrouted (s : State) : State :=
  { s with regs := s.regs.filter (fun q => !routingPort q), banks := {}, lpe := {}, fus := {} }

@[simp] theorem reg_unrouted (s : State) {a : Nat} (h : 0x4600 ≤ a) : s.unrouted.reg a = s.reg a := by
  have hport : ∀ w, (!routingPort (a, w)) = true := fun _ => by simpa [routingPort] using h
  simp only [State.reg, mgetD, State.unrouted, mget_filter (fun q => !routingPort q) hport]

theorem unrouted_setReg (s : State) {a : Nat} (v : Word) (h : a < 0x4600) : (s.setReg a v).unrouted = s.unrouted := by
  have hport : ∀ w, (!routingPort (a, w)) = false := fun _ => by simpa [routingPort] using h
  simp only [State.unrouted, State.setReg, filter_mput (fun q => !routingPort q) hport]

theorem unrouted_ringWrite (b base len : Nat) (ws : List Word) : ∀ (p : Nat) (s : State),
    (s.ringWrite b base len p ws).unrouted = s.unrouted := by
  induction ws with
  | nil => exact fun _ _ => rfl
  | cons w t ih => exact fun p s => ih _ _

theorem unrouted_ringDeliver (s : State) {n : Nat} (hn : n < 64) (el : List Word) : (s.ringDeliver n el).unrouted = s.unrouted := by
  have hport : Reg.MBK_RTC n < 0x4600 := by lia
  unfold State.ringDeliver
  dsimp only
  split
  · exact (unrouted_setReg _ _ hport).trans (unrouted_ringWrite _ _ _ _ _ _)
  · exact unrouted_setReg _ _ hport

theorem unrouted_fusDeliver (s : State) {k : Nat} (hk : k < 64) (ws : List Word) : (s.fusDeliver k ws).unrouted = s.unrouted := by
  unfold State.fusDeliver
  split
  · have hover : ∀ u : State, ((u.bump (Reg.FUS_NRECV k)).updRf k (fun x => { x with held := some (ws, u.tb.el) })).unrouted = u.unrouted :=
      fun u => unrouted_setReg u _ (by lia)
    split
    · exact (hover _).trans (unrouted_setReg s _ (by lia))
    · exact (hover _).trans (unrouted_setReg s _ (by lia))
  · rfl

theorem unrouted_routeDeliver (s : State) {n : Nat} (hn : n < 64) (el : List Word) : (s.routeDeliver n el).unrouted = s.unrouted := by
  unfold State.routeDeliver
  dsimp only
  split
  · exact unrouted_setReg _ _ (by lia)
  split
  · exact unrouted_ringDeliver s hn el
  · rfl
  · exact unrouted_fusDeliver s (Nat.mod_lt _ (by decide)) el

theorem unrouted_deliverNow (s : State) (cls idx : Nat) (el : List Word) : (s.deliverNow cls idx el).unrouted = s.unrouted :=
  foldl_keeps (fun u : State => u.unrouted = s.unrouted) _ _ s rfl fun u _ hn hu =>
    (unrouted_routeDeliver u (lt_of_mem_listed (List.mem_filter.1 hn).1) el).trans hu

@[simp] theorem reg_deliverNow (s : State) (cls idx : Nat) (el : List Word) {a : Nat} (h : 0x4600 ≤ a) :
    (s.deliverNow cls idx el).reg a = s.reg a := by
  rw [← reg_unrouted _ h, unrouted_deliverNow, reg_unrouted _ h]

@[simp] theorem ser_deliverNow (s : State) (cls idx : Nat) (el : List Word) : (s.deliverNow cls idx el).ser = s.ser :=
  congrArg (fun u => u.ser) (unrouted_deliverNow s cls idx el)
@[simp] theorem eth_deliverNow (s : State) (cls idx : Nat) (el : List Word) : (s.deliverNow cls idx el).eth = s.eth :=
  congrArg (fun u => u.eth) (unrouted_deliverNow s cls idx el)
@[simp] theorem tb_deliverNow (s : State) (cls idx : Nat) (el : List Word) : (s.deliverNow cls idx el).tb = s.tb :=
  congrArg (fun u => u.tb) (unrouted_deliverNow s cls idx el)
@[simp] theorem saf_deliverNow (s : State) (cls idx : Nat) (el : List Word) : (s.deliverNow cls idx el).saf = s.saf :=
  congrArg (fun u => u.saf) (unrouted_deliverNow s cls idx el)
@[simp] theorem pair_deliverNow (s : State) (cls idx : Nat) (el : List Word) : (s.deliverNow cls idx el).pair = s.pair :=
  congrArg (fun u => u.pair) (unrouted_deliverNow s cls idx el)

end Sys2Proof.Machine
end

section
/-! PROOFS. The serial channels (R463 to R471): messages received and sent; then the statement `Obligations.SerialResults`. -/
namespace Sys2Proof.Machine

open State (setBitR clrBitR setRegF regB regF Leaves)

@[simp] theorem serCh_updSer_same (s : State) (k : Nat) (f : SerChannel → SerChannel) : (s.updSer k f).serCh k = f (s.serCh k) := by
  simp [State.updSer, State.serCh]

theorem serCh_of_ser {s t : State} (h : t.ser = s.ser) (k : Nat) : t.serCh k = s.serCh k := by
  rw [State.serCh, h, State.serCh]

@[simp] theorem serCh_setReg (s : State) (a : Nat) (v : Word) (k : Nat) : (s.setReg a v).serCh k = s.serCh k := (rfl)
@[simp] theorem serCh_orBits (s : State) (a : Nat) (m : Word) (k : Nat) : (s.orBits a m).serCh k = s.serCh k := (rfl)
@[simp] theorem serCh_unmarkTag (s : State) (t k : Nat) : (s.unmarkTag t).serCh k = s.serCh k := (rfl)
@[simp] theorem serCh_emit (s : State) (o : OutItem) (k : Nat) : (s.emit o).serCh k = s.serCh k := (rfl)
@[simp] theorem serCh_record (s : State) (n : RecName) (el : Nat) (l : List Nat) (k : Nat) : (s.record n el l).serCh k = s.serCh k :=
  serCh_of_ser (ser_record s n el l) k
@[simp] theorem serCh_deliverNow (s : State) (cls idx : Nat) (el : List Word) (k : Nat) : (s.deliverNow cls idx el).serCh k = s.serCh k :=
  serCh_of_ser (ser_deliverNow s cls idx el) k
@[simp] theorem serCh_blockEvent (s : State) (cls idx k : Nat) : (s.blockEvent cls idx).serCh k = s.serCh k := by
  obtain ⟨x, hx⟩ := blockEvent_eq s cls idx
  rw [hx]; rfl

/-! ### Receiving (R463, R464, R466) -/

theorem serialCharacter_results {k : Fin 4} {ch : Byte} {par stop : Bool} {age : Nat} {s : State} (hlisten : s.serListens k = true)
    (hended : (s.serCh k).ended = []) (hbits : s.regB (Reg.SER_CFG k) 28 = false) :
    (∀ m, (s.serCh k).cur = some m → m.bytes.length < 255 → s.regB (Reg.SER_CFG k) 24 = false →
      ∃ t m', exec (.serialCharacter k ch par stop age) s = .next t ∧ (t.serCh k).cur = some m' ∧ m'.bytes = m.bytes ++ [ch]
        ∧ m'.stamp = m.stamp ∧ m'.ferr = (m.ferr || !stop) ∧ t.regs = s.regs)
    ∧ ((s.serCh k).cur = none → s.regB (Reg.SER_CFG k) 24 = true → ch.toNat = s.regF (Reg.SER_CFG k) 23 16 →
      ∃ t m', exec (.serialCharacter k ch par stop age) s = .next t ∧ (t.serCh k).cur = none ∧ (t.serCh k).ended = [m']
        ∧ m'.bytes = [ch] ∧ m'.dlm = true ∧ m'.stamp = s.tb.t - age ∧ m'.ferr = !stop)
    ∧ (∀ m, (s.serCh k).cur = some m → 512 ≤ m.bytes.length →
      ∃ t, exec (.serialCharacter k ch par stop age) s = .next t ∧ (t.serCh k).cur = some m ∧ (t.serCh k).lost = true
        ∧ t.reg (Reg.SER_NRXOVR k) = s.reg (Reg.SER_NRXOVR k) + 1) := by
  have hon : ¬ (!(s.serListens k)) = true := by simp [hlisten]
  have h28 : bit (s.reg (Reg.SER_CFG k)) 28 = false := hbits
  simp only [exists_and_left]
  refine ⟨fun m hcur hlen hdlm => ⟨_, congrArg Host.Outcome.next (if_neg hon), ?_⟩,
    fun hcur hdlm hch => ⟨_, congrArg Host.Outcome.next (if_neg hon), ?_⟩,
    fun m hcur hlen => ⟨_, congrArg Host.Outcome.next (if_neg hon), ?_⟩⟩
  · have h24 : bit (s.reg (Reg.SER_CFG k)) 24 = false := hdlm
    have hheld : ¬ 512 ≤ m.bytes.length := by omega
    have hfull : ¬ 256 ≤ m.bytes.length + 1 := by omega
    simp [hended, hcur, hheld, hfull, h28, h24]
  · have h24 : bit (s.reg (Reg.SER_CFG k)) 24 = true := hdlm
    have hch' : ch.toNat = fld (s.reg (Reg.SER_CFG k)) 23 16 := hch
    simp [hended, hcur, h28, h24, hch', State.serEndMessage]
  · simp [hended, hcur, hlen, State.bump, wd]

/-- The serial channels, the routes, and every port but the sticky bits of channel `k` and the recorder's. -/
def State.serReport (k : Nat) (u : State) : Serial × SMap Word × (Nat → Word) :=
  (u.ser, u.routing, fun a => if a = Reg.SER_STK k ∨ 0x8000 ≤ a then 0 else u.reg a)

theorem serReport_reads {k : Nat} {s t : State} (h : Leaves (State.serReport k) s t) :
    t.serCh k = s.serCh k ∧ (∀ i, t.routesOf 11 i = s.routesOf 11 i)
      ∧ ∀ a, 0x5C05 ≤ a % 16 + 0x5C00 → 0x5C00 ≤ a → a < 0x5C40 → t.reg a = s.reg a := by
  obtain ⟨hser, hrest⟩ := Prod.ext_iff.1 h.eq
  obtain ⟨hrouting, hreg⟩ := Prod.ext_iff.1 hrest
  refine ⟨serCh_of_ser hser k, routesOf_of_routing hrouting 11, fun a h1 h2 h3 => ?_⟩
  have hne : ¬ (a = Reg.SER_STK k ∨ 0x8000 ≤ a) := by lia
  have := congrFun hreg a
  simpa only [State.serReport, if_neg hne] using this

/-- R465: an error first met is noted and recorded. -/
theorem serError_leaves (s : State) (k : Nat) (c : Bool) (b : Nat) :
    Leaves (State.serReport k) s (if c then s.setBitR (Reg.SER_STK k) b else s) := by
  refine .ite ⟨?_⟩ (.refl s)
  refine Prod.ext rfl (Prod.ext (routing_orBits _ _ (by lia)) (funext fun a => ?_))
  dsimp only [State.serReport]
  split
  · rfl
  · next h => exact State.reg_orBits_ne _ _ (not_or.1 h).1

theorem record_leaves_serReport (s : State) (k : Nat) (n : RecName) (el : Nat) (l : List Nat) :
    Leaves (State.serReport k) s (s.record n el l) := by
  refine ⟨Prod.ext (ser_record s n el l) (Prod.ext (routing_record s n el l) (funext fun a => ?_))⟩
  dsimp only [State.serReport]
  split
  · rfl
  · next h => exact reg_record_outside s n el l (.inl (Nat.not_le.1 (not_or.1 h).2))

/-- R465 to R467: the channel after a delivery: nothing moves in what is being received and sent, and the message is counted. -/
theorem serDeliver_results (s : State) {k : Nat} (hk : k < 4) (m : SerMessage) :
    ((s.serDeliver k m).serCh k).cur = (s.serCh k).cur ∧ ((s.serDeliver k m).serCh k).ended = (s.serCh k).ended
      ∧ (s.serDeliver k m).reg (Reg.SER_NRXM k) = s.reg (Reg.SER_NRXM k) + 1
      ∧ (s.routesOf 11 k = [] → (s.serDeliver k m).reg (Reg.SER_NRXNR k) = s.reg (Reg.SER_NRXNR k) + 1)
      ∧ (s.routesOf 11 k ≠ [] → (s.serDeliver k m).reg (Reg.SER_NRXD k) = s.reg (Reg.SER_NRXD k) + 1) := by
  unfold State.serDeliver
  extract_lets -lift x bad set u v
  have hu : Leaves (State.serReport k) s u := .ite (.after (record_leaves_serReport _ _ _ _ _)
    (.after (serError_leaves _ _ _ _) (.after (serError_leaves _ _ _ _) (.after (serError_leaves _ _ _ _) (serError_leaves _ _ _ _)))))
    (.refl s)
  obtain ⟨hch, hroutes, hreg⟩ := serReport_reads hu
  have hroutes' : v.routesOf 11 k = s.routesOf 11 k := (routesOf_of_routing (routing_setReg u _ (by lia)) 11 k).trans (hroutes k)
  have hv : v = u.bump (Reg.SER_NRXM k) := rfl
  clear_value u v
  subst hv
  have h1 := hreg (Reg.SER_NRXM k) (by lia) (by lia) (by lia)
  have h2 := hreg (Reg.SER_NRXNR k) (by lia) (by lia) (by lia)
  have h3 := hreg (Reg.SER_NRXD k) (by lia) (by lia) (by lia)
  by_cases hnone : s.routesOf 11 k = []
  · rw [if_pos (by rw [hroutes', hnone]; rfl)]
    simp (disch := lia) [State.bump, wd, hch, h1, h2, hnone]
  · rw [if_neg (by rw [hroutes']; simpa using hnone)]
    rename_i w
    simp (disch := lia) [w, State.bump, wd, hch, h1, h3, hnone]

theorem serialMessageEnd_results {k : Fin 4} {m : SerMessage} {s : State} :
    (∀ l, (s.serCh k).ended = m :: l → ∃ t, exec (.serialMessageEnd k) s = .next t ∧ (t.serCh k).ended = l
        ∧ t.reg (Reg.SER_NRXM k) = s.reg (Reg.SER_NRXM k) + 1
        ∧ (s.routesOf 11 k = [] → t.reg (Reg.SER_NRXNR k) = s.reg (Reg.SER_NRXNR k) + 1)
        ∧ (s.routesOf 11 k ≠ [] → t.reg (Reg.SER_NRXD k) = s.reg (Reg.SER_NRXD k) + 1))
    ∧ ((s.serCh k).ended = [] → (s.serCh k).cur = some m → s.regF (Reg.SER_CFG k) 15 8 * s.serBit k ≤ s.tb.el - (s.serCh k).lastEl →
      ∃ t, exec (.serialMessageEnd k) s = .next t ∧ (t.serCh k).cur = none ∧ t.reg (Reg.SER_NRXM k) = s.reg (Reg.SER_NRXM k) + 1) := by
  refine ⟨fun l hended => ?_, fun hended hcur hidle => ?_⟩
  · obtain ⟨-, hq, hrest⟩ := serDeliver_results (s.updSer k fun x => { x with ended := l }) k.isLt m
    refine ⟨_, congrArg Host.Outcome.next ?_, hq.trans (by rw [serCh_updSer_same]), hrest⟩
    simp only [hended]
  · obtain ⟨hcur', -, hcount, -⟩ := serDeliver_results (s.updSer k fun x => { x with cur := none }) k.isLt m
    refine ⟨_, congrArg Host.Outcome.next ?_, hcur'.trans (by rw [serCh_updSer_same]), hcount⟩
    simp only [hended, hcur, if_pos hidle]

theorem serialBreak_results {k : Fin 4} {age : Nat} {s : State} (hlisten : s.serListens k = true) :
    ∃ t m', exec (.serialBreak k age) s = .next t ∧ (t.serCh k).cur = none ∧ (t.serCh k).ended = (s.serCh k).ended ++ [m'] ∧ m'.brk = true
      ∧ t.regs = s.regs := by
  simp only [exists_and_left]
  refine ⟨_, congrArg Host.Outcome.next (if_pos hlisten), ?_⟩
  simp [State.serEndMessage]

/-! ### Transmitting (R468 to R471) -/

theorem serEnd_results (s : State) {k : Nat} (hk : k < 4) (m : SerTx) :
    (((s.serEnd k m .noauth).serCh k).txq = (s.serCh k).txq.filter (fun q => q.tag != m.tag)
      ∧ (s.serEnd k m .noauth).reg (Reg.SER_NTXNOAUTH k) = s.reg (Reg.SER_NTXNOAUTH k) + 1
      ∧ (s.serEnd k m .noauth).reg (Reg.SER_NTXPEND k) = s.reg (Reg.SER_NTXPEND k) - 1)
    ∧ (((s.serEnd k m .sent).serCh k).txq = (s.serCh k).txq.filter (fun q => q.tag != m.tag)
      ∧ (s.serEnd k m .sent).out = s.out
      ∧ (s.serEnd k m .sent).reg (Reg.SER_NTXSENT k) = s.reg (Reg.SER_NTXSENT k) + 1
      ∧ (s.serEnd k m .sent).reg (Reg.SER_NTXPEND k) = s.reg (Reg.SER_NTXPEND k) - 1) := by
  unfold State.serEnd State.serStatus
  dsimp only
  refine ⟨?_, ?_⟩
  · split <;> simp (disch := lia) [State.bump, State.drop, setBitR, wd]
  · simp (disch := lia) [State.bump, State.drop, wd]

theorem serialTxStart_results {k : Fin 4} {m : SerTx} {l : List SerTx} {s : State} (hq : (s.serCh k).txq = m :: l) (hwait : m.start = none)
    (hline : (s.serCh k).cur = none ∨ s.regB (Reg.SER_CFG k) 30 = false) :
    (s.serIdle k = false → exec (.serialTxStart k) s = .next s)
    ∧ (s.serIdle k = true → s.regB (Reg.SER_CFG k) 29 = false ∨ s.hold = true → ∃ t, exec (.serialTxStart k) s = .next t
        ∧ t.serSending k = some { m with start := some s.tb.el } ∧ t.regs = s.regs)
    ∧ (s.serIdle k = true → s.regB (Reg.SER_CFG k) 29 = true → s.hold = false → ∃ t, exec (.serialTxStart k) s = .next t
        ∧ t.reg (Reg.SER_NTXNOAUTH k) = s.reg (Reg.SER_NTXNOAUTH k) + 1 ∧ t.reg (Reg.SER_NTXPEND k) = s.reg (Reg.SER_NTXPEND k) - 1
        ∧ (t.serCh k).txq = l.filter (fun q => q.tag != m.tag)) := by
  let c := s.reg (Reg.SER_CFG k)
  have hrun : exec (.serialTxStart k) s = .next (if m.start.isSome || !(s.serIdle k) then s
      else if bit c 30 && (s.serCh k).cur.isSome then s
      else if bit c 29 && !s.hold then s.serEnd k m .noauth
      else s.updSer k (fun x => { x with txq := x.txq.map (fun y => if y.tag = m.tag then { y with start := some s.tb.el } else y) })) := by
    refine congrArg Host.Outcome.next ?_
    simp only [hq, c]
  have hfree : ¬ (bit c 30 && (s.serCh k).cur.isSome) = true := by
    rcases hline with h | h
    · simp [h]
    · have h30 : bit c 30 = false := h
      simp [h30]
  refine ⟨fun hbusy => hrun.trans (congrArg Host.Outcome.next (if_pos (by simp [hbusy]))), fun hidle hmay => ?_, fun hidle hauth hhold => ?_⟩
  · have hgo : ¬ (bit c 29 && !s.hold) = true := by
      rcases hmay with h | h
      · have h29 : bit c 29 = false := h
        simp [h29]
      · simp [h]
    refine ⟨_, hrun.trans (congrArg Host.Outcome.next ((if_neg (by simp [hwait, hidle])).trans ((if_neg hfree).trans (if_neg hgo)))), ?_, rfl⟩
    simp [State.serSending, hq]
  · have h29 : bit c 29 = true := hauth
    obtain ⟨⟨htxq, hcount, hpend⟩, -⟩ := serEnd_results s k.isLt m
    refine ⟨_, hrun.trans (congrArg Host.Outcome.next ((if_neg (by simp [hwait, hidle])).trans ((if_neg hfree).trans
      (if_pos (by simp [h29, hhold]))))), hcount, hpend, htxq.trans ?_⟩
    simp [hq]

/-- What the words in error of a message leave: the channels, what has left the unit, the bytes of the banks. -/
theorem noteParity_leaves_serial (s : State) (a n : Nat) :
    Leaves (fun u => (u.ser, u.out, u.banks.cells)) s (s.noteParity a n).1 :=
  noteParity_leaves (fun _ _ => ⟨rfl⟩) (fun _ _ _ => ⟨rfl⟩) (fun _ _ _ => ⟨rfl⟩) (fun u n el l => ⟨by simp⟩) s a n

theorem serialTxSent_results {k : Fin 4} {m : SerTx} {e : Nat} {s : State} (hsend : s.serSending k = some m) (hstart : m.start = some e)
    (hdue : e + m.len * s.serCharBits k * s.serBit k ≤ s.tb.el) (hbits : s.regB (Reg.SER_CFG k) 28 = false) :
    ∃ t, exec (.serialTxSent k) s = .next t ∧ sent s t (.serial k (cellsGet s.banks.cells m.addr m.len))
      ∧ t.reg (Reg.SER_NTXSENT k) = s.reg (Reg.SER_NTXSENT k) + 1 ∧ t.reg (Reg.SER_NTXPEND k) = s.reg (Reg.SER_NTXPEND k) - 1
      ∧ (t.serCh k).txq = (s.serCh k).txq.filter (fun q => q.tag != m.tag) := by
  have hdue' : m.start.getD 0 + m.len * s.serCharBits k * s.serBit k ≤ s.tb.el := by simpa [hstart] using hdue
  have hview := (noteParity_leaves_serial (s.touch (m.addr / 32768)) m.addr m.len).eq
  have hreg : ∀ a, 0x0803 < a → a < 0x8000 → ((s.touch (m.addr / 32768)).noteParity m.addr m.len).1.reg a = s.reg a := fun a h1 h2 =>
    (seenAt_fields (noteParity_leaves_seenAt _ m.addr m.len h1 h2)).2.2
  obtain ⟨u, hu⟩ : ∃ u, u = ((s.touch (m.addr / 32768)).noteParity m.addr m.len).1 := ⟨_, rfl⟩
  let bytes := if u.regB (Reg.SER_CFG k) 28 then (cellsGet u.banks.cells m.addr m.len).map (fun b => b &&& 0x7F) else cellsGet u.banks.cells m.addr m.len
  let w := u.emit (.serial k bytes)
  let v := w.updSer k (fun x => { x with sentEl := some w.tb.el, drvEl := w.tb.el + w.regF (Reg.SER_CFG k) 7 0 * w.serBit k })
  have hrun : exec (.serialTxSent k) s = .next (v.serEnd k m .sent) := by
    refine congrArg Host.Outcome.next ?_
    simp only [hsend]
    rw [if_pos hdue']
    simp only [v, w, bytes, hu]
  rw [← hu] at hview hreg
  clear hu
  obtain ⟨hser, hrest⟩ := Prod.mk.inj hview
  obtain ⟨hout, hcells⟩ := Prod.mk.inj hrest
  have hcfg : u.regB (Reg.SER_CFG k) 28 = false := (congrArg (bit · 28) (hreg _ (by lia) (by lia))).trans hbits
  have hbytes : bytes = cellsGet s.banks.cells m.addr m.len := by
    simp only [bytes, hcfg, Bool.false_eq_true, if_false, hcells, State.touch]
  obtain ⟨-, htxq, houtEnd, hcount, hpend⟩ := serEnd_results v k.isLt m
  refine ⟨_, hrun, houtEnd.trans ?_, hcount.trans ?_, hpend.trans ?_, htxq.trans ?_⟩
  · exact (congrArg (u.out ++ [OutItem.serial k ·]) hbytes).trans (congrArg (· ++ _) hout)
  · exact congrArg (· + 1) (hreg _ (by lia) (by lia))
  · exact congrArg (· - 1) (hreg _ (by lia) (by lia))
  · have hch : u.serCh k = s.serCh k := serCh_of_ser hser k
    simp [v, w, hch]

/-- Settles O48: characters, ends of messages and breaks received; messages started and sent; one lemma each. -/
theorem serialResults : Obligations.SerialResults := by
  unfold Obligations.SerialResults
  exact ⟨fun _ _ _ _ _ _ => serialCharacter_results, fun _ _ _ => serialMessageEnd_results, fun _ _ _ => serialBreak_results,
    fun _ _ _ _ => serialTxStart_results, fun _ _ _ _ => serialTxSent_results⟩

end Sys2Proof.Machine
end

section
/-! PROOFS. What the safety block moves and what it leaves (R386 to R410): its own status ports and store, and what a record moves. -/
namespace Sys2Proof.Machine

open State (setBitR clrBitR setRegF regB regF Leaves)

/-- A status port or a counter of the safety block. -/
def safPort (a : Nat) : Bool := (decide (0x5800 ≤ a) && decide (a < 0x5810)) || (decide (0x5980 ≤ a) && decide (a < 0x5990))

/-- The entry of a port that neither the safety block nor the recorder moves. -/
def plainPort (q : Nat × Word) : Bool := ownPort q && !safPort q.1

/-- The unit without what the safety block moves. -/
def State.unsaf (s : State) : State :=
  { s with regs := s.regs.filter plainPort, now := {}, saf := {}, evr := { holding := s.evr.holding, pcc := s.evr.pcc } }

theorem unsaf_setReg (s : State) {a : Nat} (v : Word) (h : safPort a = true) : (s.setReg a v).unsaf = s.unsaf := by
  have hport : ∀ w, plainPort (a, w) = false := fun _ => by simp [plainPort, h]
  simp only [State.unsaf, State.setReg, filter_mput plainPort hport]

theorem unsaf_orBits (s : State) {a : Nat} (m : Word) (h : safPort a = true) : (s.orBits a m).unsaf = s.unsaf := unsaf_setReg s _ h

theorem unsaf_updSaf (s : State) (f : Saf → Saf) : (s.updSaf f).unsaf = s.unsaf := rfl

theorem unsaf_unrecorded (s : State) : s.unrecorded.unsaf = s.unsaf := by
  have hfilter : (s.regs.filter ownPort).filter plainPort = s.regs.filter plainPort := by
    rw [List.filter_filter]
    exact List.filter_congr fun q _ => by simp [plainPort, Bool.and_comm]
  simp only [State.unsaf, State.unrecorded, hfilter]

theorem unsaf_record (s : State) (n : RecName) (el : Nat) (items : List Nat) : (s.record n el items).unsaf = s.unsaf := by
  rw [← unsaf_unrecorded, unrecorded_record, unsaf_unrecorded]

section
variable {s t : State} (h : t.unsaf = s.unsaf)
include h

theorem reg_of_unsaf {a : Nat} (hsaf : safPort a = false) (hrec : ¬ recorderPort a) : t.reg a = s.reg a := by
  have hport : ∀ w, plainPort (a, w) = true := fun w => by simp [plainPort, ownPort_eq_true hrec, hsaf]
  have hread (u : State) : u.unsaf.reg a = u.reg a := by
    simp only [State.reg, mgetD, State.unsaf, mget_filter plainPort hport]
  rw [← hread t, h, hread s]

/-- The settings of the outputs, the functions and the pairs stand. -/
theorem regB_of_unsaf {a : Nat} (i : Nat) (hsaf : safPort a = false) (hrec : ¬ recorderPort a) : t.regB a i = s.regB a i :=
  congrArg (bit · i) (reg_of_unsaf h hsaf hrec)

end

/-! ### The operations of the block -/

section
variable (s : State)

theorem unsaf_safOutOff (k : Nat) : (s.safOutOff k).unsaf = s.unsaf := unsaf_setReg s _ (by decide)

theorem unsaf_enterSafe (f cause : Nat) : (s.enterSafe f cause).unsaf = s.unsaf := by
  unfold State.enterSafe
  split
  · rfl
  · refine (unsaf_record _ _ _ _).trans ((unsaf_orBits _ _ (by decide)).trans ((unsaf_orBits _ _ (by decide)).trans ?_))
    refine foldl_keeps (fun u : State => u.unsaf = s.unsaf) _ _ s rfl fun u k _ hu => ?_
    split
    · exact (unsaf_safOutOff u k).trans hu
    · exact hu

theorem unsaf_redegrade : s.redegrade.unsaf = s.unsaf := by
  refine foldl_keeps (fun u : State => u.unsaf = s.unsaf) _ _ s rfl fun u f _ hu => ?_
  dsimp only
  split
  · exact (unsaf_setReg u _ (by decide)).trans hu
  split
  · exact hu
  · exact (unsaf_record _ _ _ _).trans ((unsaf_orBits _ _ (by decide)).trans ((unsaf_orBits _ _ (by decide)).trans hu))

theorem unsaf_outputFault (k check : Nat) : (s.outputFault k check).unsaf = s.unsaf := by
  unfold State.outputFault
  extract_lets was u v
  have hv : v.unsaf = s.unsaf := (unsaf_safOutOff _ _).trans ((unsaf_record _ _ _ _).trans ((unsaf_orBits _ _ (by decide)).trans
    ((unsaf_setReg _ _ (by decide)).trans (unsaf_orBits _ _ (by decide)))))
  clear_value v
  split
  · exact hv
  · refine (unsaf_redegrade _).trans ?_
    exact foldl_keeps (fun u : State => u.unsaf = s.unsaf) _ _ v hv fun u f _ hu => (unsaf_enterSafe u f 3).trans hu

theorem unsaf_linkFault : s.linkFault.unsaf = s.unsaf := by
  unfold State.linkFault
  split
  · refine foldl_keeps (fun u : State => u.unsaf = s.unsaf) _ _ s rfl fun u k _ hu => ?_
    split
    · exact (unsaf_outputFault u k 1).trans hu
    · exact hu
  · rfl

theorem safPort_slotBit (k : Nat) : safPort (slotBit Reg.SAF_TDEG0 Reg.SAF_TDEG1 k).1 = true
    ∧ safPort (slotBit Reg.SAF_TVAL0 Reg.SAF_TVAL1 k).1 = true := by
  unfold slotBit
  split <;> exact ⟨rfl, rfl⟩

theorem unsaf_safDelivered (k : Nat) (single : Bool) : (s.safDelivered k single).unsaf = s.unsaf := by
  obtain ⟨hdeg, hval⟩ := safPort_slotBit k
  unfold State.safDelivered
  extract_lets d run u v q w
  have hv : v.unsaf = s.unsaf := by
    simp only [v]
    split
    · exact (unsaf_orBits _ _ hdeg).trans (unsaf_setReg _ _ (by decide))
    split
    · exact unsaf_setReg _ _ hdeg
    · rfl
  have hw : w.unsaf = s.unsaf := by
    simp only [w]
    split
    · exact (unsaf_orBits v _ hval).trans hv
    · exact hv
  exact (unsaf_redegrade w).trans hw

theorem unsaf_safTelDiff (k : Nat) : (s.safTelDiff k).unsaf = s.unsaf :=
  (unsaf_orBits _ _ (by decide)).trans (unsaf_setReg s _ (by decide))

end

/-! ### A cause of bad health (R50) -/

@[simp] theorem healthy_addHealth (s : State) (h : HealthCause) : (s.addHealth h).healthy = false := by
  obtain ⟨l, q, hl, hx⟩ := addHealth_eq s h
  rw [hx]
  simpa [State.healthy] using hl

@[simp] theorem reg_addHealth (s : State) (h : HealthCause) (a : Nat) : (s.addHealth h).reg a = s.reg a := by
  obtain ⟨l, q, -, hx⟩ := addHealth_eq s h
  rw [hx]; rfl

@[simp] theorem healthy_record (s : State) (n : RecName) (el : Nat) (items : List Nat) : (s.record n el items).healthy = s.healthy := by
  simp [State.healthy]

@[simp] theorem healthy_setReg (s : State) (a : Nat) (v : Word) : (s.setReg a v).healthy = s.healthy := (rfl)
@[simp] theorem healthy_orBits (s : State) (a : Nat) (m : Word) : (s.orBits a m).healthy = s.healthy := (rfl)

end Sys2Proof.Machine
end

section
/-! PROOFS. Ethernet frames, telegram windows, links (R506, R507, R510 to R512, R550, R587); then the statement
`Obligations.EthernetResults`. -/
namespace Sys2Proof.Machine

open State (setBitR clrBitR setRegF regB regF Leaves)

/-! ### Frames (R507, R550) -/

/-- R550: a duplicate address makes the unit unhealthy and stands in the sticky bits of the system and of the block. -/
theorem duplicateAddress_results (s : State) (p : Nat) : (s.duplicateAddress p).healthy = false
    ∧ (s.duplicateAddress p).regB Reg.SYS_STK 5 = true ∧ (s.duplicateAddress p).regB Reg.ETH_STK 4 = true := by
  let u := (s.setBitR Reg.SYS_STK 5).setBitR Reg.ETH_STK 4
  have hreg (a : Nat) (h : a < 0x8000) : (s.duplicateAddress p).reg a = u.reg a :=
    (reg_record_outside _ _ _ _ (.inl h)).trans (reg_addHealth u .dupAddr a)
  have hbad : (u.addHealth .dupAddr).healthy = false := healthy_addHealth u .dupAddr
  refine ⟨(healthy_record _ _ _ _).trans hbad, (congrArg (bit · 5) (hreg _ (by lia))).trans ?_, (congrArg (bit · 4) (hreg _ (by lia))).trans ?_⟩
  · simp (disch := lia) [u, setBitR]
  · simp (disch := lia) [u, setBitR]

theorem ethFrameReceived_results {p : Fin 4} {f : EthFrame} {age : Nat} {s : State} (hen : s.regB (Reg.ETH_PCFG p) 31 = true)
    (hlink : s.regB (Reg.ETH_PSTAT p) 31 = true) :
    (f.kind = .badFcs → ∃ t, exec (.ethFrameReceived p f age) s = .next t ∧ t.reg (Reg.ETH_NFCS p) = s.reg (Reg.ETH_NFCS p) + 1
        ∧ sameRegs s t [Reg.ETH_NFCS p])
    ∧ (f.kind = .other → s.filterFor p f = none → ∃ t, exec (.ethFrameReceived p f age) s = .next t
        ∧ t.reg (Reg.ETH_NRX p) = s.reg (Reg.ETH_NRX p) + 1 ∧ t.reg (Reg.ETH_NNOFLT p) = s.reg (Reg.ETH_NNOFLT p) + 1
        ∧ sameRegs s t [Reg.ETH_NRX p, Reg.ETH_NNOFLT p])
    ∧ (∀ c, f.kind = .twin c true → p.val < 2 → c.src = s.regF Reg.SYS_ADDR 7 0 →
      ∃ t, exec (.ethFrameReceived p f age) s = .next t ∧ t.healthy = false ∧ t.regB Reg.SYS_STK 5 = true ∧ t.regB Reg.ETH_STK 4 = true) := by
  have hup : (s.regB (Reg.ETH_PCFG p) 31 && s.regB (Reg.ETH_PSTAT p) 31) = true := by simp [hen, hlink]
  refine ⟨fun hkind => ⟨s.bump (Reg.ETH_NFCS p), (if_pos hup).trans (by simp only [hkind]), ?_, sameRegs_setReg _ _ _⟩, fun hkind hnone => ?_,
    fun c hkind hlan hown => ?_⟩
  · simp [State.bump, wd]
  · have hnone' : (s.bump (Reg.ETH_NRX p)).filterFor p f = none := by
      rw [← hnone]
      have hreg (n : Nat) : (s.bump (Reg.ETH_NRX p)).reg (Reg.ETH_FLTA n) = s.reg (Reg.ETH_FLTA n) := State.reg_setReg_ne _ _ (by lia)
      have hregB (n : Nat) : (s.bump (Reg.ETH_NRX p)).reg (Reg.ETH_FLTB n) = s.reg (Reg.ETH_FLTB n) := State.reg_setReg_ne _ _ (by lia)
      simp only [State.filterFor, hreg, hregB]
    refine ⟨(s.bump (Reg.ETH_NRX p)).bump (Reg.ETH_NNOFLT p), (if_pos hup).trans ?_, ?_, ?_, fun a ha _ => ?_⟩
    · rw [hkind]
      dsimp only [State.filterFrame]
      rw [hnone']
    · simp (disch := lia) [State.bump, wd]
    · simp (disch := lia) [State.bump, wd]
    · simp only [List.mem_cons, List.not_mem_nil, or_false, not_or] at ha
      simp [State.bump, ha.1, ha.2]
  · have hp : ¬ 2 ≤ p.val := Nat.not_le.2 hlan
    have hown' : c.src = (s.bump (Reg.ETH_NRX p)).regF Reg.SYS_ADDR 7 0 :=
      hown.trans (congrArg (fld · 7 0) (State.reg_setReg_ne _ _ (by lia))).symm
    refine ⟨(s.bump (Reg.ETH_NRX p)).duplicateAddress p, (if_pos hup).trans ?_, ?_⟩
    · rw [hkind]
      exact (if_neg hp).trans ((if_neg (by decide)).trans (if_pos hown'))
    · exact duplicateAddress_results _ _

/-! ### Copies of a telegram (R510 to R515) -/

@[simp] theorem tel_updTel_same (s : State) (k : Nat) (f : TelSlot → TelSlot) : (s.updTel k f).tel k = f (s.tel k) := by
  simp [State.updTel, State.tel]

@[simp] theorem tel_setReg (s : State) (a : Nat) (v : Word) (k : Nat) : (s.setReg a v).tel k = s.tel k := (rfl)
@[simp] theorem tel_orBits (s : State) (a : Nat) (m : Word) (k : Nat) : (s.orBits a m).tel k = s.tel k := (rfl)

theorem tel_of_eth {s t : State} (h : t.eth = s.eth) (k : Nat) : t.tel k = s.tel k := by rw [State.tel, h, State.tel]

@[simp] theorem tel_blockEvent (s : State) (cls idx k : Nat) : (s.blockEvent cls idx).tel k = s.tel k := by
  obtain ⟨x, hx⟩ := blockEvent_eq s cls idx
  rw [hx]; rfl

theorem turnDiff_self (w : Word) : turnDiff w w = 0 := by simp [turnDiff]

/-- R515: the first delivery of a run. -/
theorem deliver_first {s : State} {k : Nat} (c : TelCopy) (hnew : (s.tel k).began = none) :
    ((s.deliver k c).tel k).payload = c.payload ∧ ((s.deliver k c).tel k).delEl = some s.tb.el
      ∧ (s.deliver k c).reg (Reg.ETH_NDEL k) = s.reg (Reg.ETH_NDEL k) + 1
      ∧ (s.deliver k c).reg (Reg.ETH_LAST k) = BitVec.ofNat 32 c.seq
      ∧ ((s.deliver k c).tel k).windows = (s.tel k).windows := by
  unfold State.deliver
  simp (disch := lia) [hnew, State.bump, setRegF, wd]

theorem slotSafe_deliver (s : State) (k : Nat) (c : TelCopy) : (s.deliver k c).slotSafe k = s.slotSafe k := by
  unfold State.deliver
  dsimp only
  split <;> simp (disch := lia) [State.slotSafe, State.bump, setRegF, regB]

/-- R511: no window lies below that of a sequence when it is the only one open. -/
theorem closeBelow_lone {s : State} {k : Nat} {w : TelWindow} (h : (s.tel k).windows = [w]) : s.closeBelow k w.seq = s := by
  have hnone : ((s.tel k).windows.filter fun v => decide (turnDiff (wd v.seq) (wd w.seq) < 0)) = [] := by
    simp [h, turnDiff_self]
  exact (congrArg (fun l => (sortByKey (fun v : TelWindow => (wd v.seq - wd w.seq).toNat) l).foldl (fun s v => s.decideWindow k v) s) hnone).trans rfl

/-- R511: one copy does not fill a window. -/
theorem windowFull_single {s : State} {k : Nat} {w : TelWindow} {x : TelCopy × Nat} (h : w.copies = [x]) (hsafe : s.slotSafe k = false) :
    s.windowFull k w = false := by
  have hexp : 2 ≤ s.expected k := by
    unfold State.expected
    split <;> decide
  have hone : ((w.copies.map (fun c => (c.1.src, c.1.lan.val))).eraseDups).length = 1 := by rw [h]; rfl
  simp only [State.windowFull, hsafe, hone, Bool.false_and, Bool.or_false, decide_eq_false_iff_not]
  omega

/-- The window that the first copy of a sequence opens. -/
def firstWindow (el : Nat) (c : TelCopy) (arr : Nat) : TelWindow := { seq := c.seq, el := el, copies := [(c, arr)] }

/-- R512: a first copy joins a window that stands alone on a slot without safety; with AUTH it is delivered. -/
theorem joinWindow_lone {u v : State} {k : Nat} {w : TelWindow} (c : TelCopy) (arr : Nat) (hseq : w.seq = c.seq) (hempty : w.copies = [])
    (hwait : w.delivered = none) (hv : u.putWindow k { w with copies := w.copies ++ [(c, arr)] } = v)
    (hvwin : (v.tel k).windows = [{ w with copies := w.copies ++ [(c, arr)] }]) (hvsafe : v.slotSafe k = false) (hvnew : (v.tel k).began = none) :
    u.joinWindow k w c arr = if c.auth then (v.deliver k c).putWindow k
      { w with copies := w.copies ++ [(c, arr)], delivered := some w.copies.length } else v := by
  obtain ⟨w1, hw1⟩ : ∃ w1, w1 = { w with copies := w.copies ++ [(c, arr)] } := ⟨_, rfl⟩
  have hseq1 : w1.seq = c.seq := by rw [hw1]; exact hseq
  have hcopies : w1.copies = [(c, arr)] := by rw [hw1, hempty]; rfl
  have hbelow : v.closeBelow k c.seq = v := by
    rw [← hw1] at hvwin
    exact hseq1 ▸ closeBelow_lone hvwin
  unfold State.joinWindow
  dsimp only
  rw [hv, hvsafe, if_neg Bool.false_ne_true, hwait]
  dsimp only [Option.bind_none]
  rw [hbelow, hempty, List.foldl_nil]
  by_cases hauth : c.auth = true
  · rw [if_pos hauth]
    obtain ⟨q, hq⟩ : ∃ q : TelWindow, q = { w with copies := [] ++ [(c, arr)], delivered := some ([] : List (TelCopy × Nat)).length } :=
      ⟨_, rfl⟩
    have hqcopies : q.copies = [(c, arr)] := by rw [hq]; rfl
    have hqseq : q.seq = w.seq := by rw [hq]
    rw [← hq]
    have hwins : (((v.deliver k c).putWindow k q).tel k).windows = [q] := by
      simp [State.putWindow, (deliver_first c hvnew).2.2.2.2, hvwin, hqseq]
    have hqsafe : ((v.deliver k c).putWindow k q).slotSafe k = false := (slotSafe_deliver v k c).trans hvsafe
    rw [hwins, List.find?_cons_of_pos (by simp [hqseq, hseq])]
    exact if_neg (by rw [windowFull_single hqcopies hqsafe]; decide)
  · rw [← hw1] at hvwin
    rw [if_neg hauth, hvwin, List.find?_cons_of_pos (by simp [hseq1])]
    exact if_neg (by rw [windowFull_single hcopies hvsafe]; decide)

/-- R511, R512: on a slot without safety and without windows the first copy opens a window; with AUTH it is delivered. -/
theorem openWindow_first {s : State} {k : Nat} (c : TelCopy) (arr : Nat) (hsafe : s.slotSafe k = false) (hwin : (s.tel k).windows = [])
    (hnew : (s.tel k).began = none) : ∃ v : State, s.openWindow k c arr = (if c.auth then
        (v.deliver k c).putWindow k { firstWindow s.tb.el c arr with delivered := some 0 } else v)
      ∧ (v.tel k).windows = [firstWindow s.tb.el c arr] ∧ (v.tel k).began = none ∧ (∀ a, v.reg a = s.reg a) ∧ v.tb = s.tb := by
  let w : TelWindow := { seq := c.seq, el := s.tb.el }
  let u := s.updTel k fun x => { x with windows := x.windows ++ [w] }
  have hopen : s.openWindow k c arr = u.joinWindow k w c arr := by
    have hpast : s.pastSeq k c.seq = false := by simp [State.pastSeq, hnew]
    simp only [State.openWindow, hwin, hpast, Bool.false_eq_true, if_false]
    rfl
  let v := u.putWindow k (firstWindow s.tb.el c arr)
  have hvwin : (v.tel k).windows = [firstWindow s.tb.el c arr] := by
    simp [v, u, w, State.putWindow, hwin, firstWindow]
  have hvnew : (v.tel k).began = none := by simp [v, u, State.putWindow, hnew]
  exact ⟨v, hopen.trans (joinWindow_lone c arr rfl rfl rfl rfl hvwin hsafe hvnew), hvwin, hvnew, fun _ => rfl, rfl⟩

theorem twinTelegramCopy_results {c : TelCopy} {age : Nat} {s : State} :
    (s.slotFor c.stream c.src = none → ∃ t, exec (.twinTelegramCopy c age) s = .next t
        ∧ t.reg (Reg.ETH_NNOSLOT c.lan) = s.reg (Reg.ETH_NNOSLOT c.lan) + 1 ∧ t.eth = s.eth)
    ∧ (∀ k, s.slotFor c.stream c.src = some k → c.safe = false → s.slotSafe k = false → (s.tel k).windows = [] → (s.tel k).began = none →
      (s.tel k).closed = [] →
      (c.auth = true → ∃ t, exec (.twinTelegramCopy c age) s = .next t ∧ (t.tel k).payload = c.payload ∧ (t.tel k).delEl = some s.tb.el
          ∧ t.reg (Reg.ETH_NDEL k) = s.reg (Reg.ETH_NDEL k) + 1 ∧ t.reg (Reg.ETH_LAST k) = BitVec.ofNat 32 c.seq)
      ∧ (c.auth = false → ∃ t, exec (.twinTelegramCopy c age) s = .next t
          ∧ (t.tel k).windows = [{ seq := c.seq, el := s.tb.el, copies := [(c, s.tb.t - age)] }]
          ∧ t.reg (Reg.ETH_NDEL k) = s.reg (Reg.ETH_NDEL k))) := by
  refine ⟨fun hnone => ⟨s.bump (Reg.ETH_NNOSLOT c.lan), congrArg Host.Outcome.next ?_, State.reg_setReg_same _ _ _, rfl⟩,
    fun k hslot hplain hsafe hwin hnew hclosed => ?_⟩
  · unfold State.telCopy
    rw [hnone]
  · obtain ⟨v, hopen, hvwin, hvnew, hreg, htb⟩ := openWindow_first c (s.tb.t - age) hsafe hwin hnew
    have hrun : exec (.twinTelegramCopy c age) s = .next (s.openWindow k c (s.tb.t - age)) := by
      refine congrArg Host.Outcome.next ?_
      have hpast : s.pastSeq k c.seq = false := by simp [State.pastSeq, hnew]
      unfold State.telCopy
      simp [hslot, hplain, hsafe, hwin, hpast, hclosed]
    rw [hopen] at hrun
    refine ⟨fun hauth => ?_, fun hauth => ?_⟩
    · obtain ⟨h1, h2, h3, h4, -⟩ := deliver_first c hvnew
      rw [hauth, if_pos rfl] at hrun
      refine ⟨_, hrun, ?_, ?_, h3.trans (congrArg (· + 1) (hreg _)), h4⟩
      · simpa [State.putWindow] using h1
      · simpa [State.putWindow, htb] using h2
    · rw [hauth, if_neg Bool.false_ne_true] at hrun
      exact ⟨v, hrun, hvwin, hreg _⟩

/-! ### The end of a window (R511) -/

/-- The windows of slot `k`. -/
def State.windowsOf (k : Nat) (s : State) : List TelWindow := (s.tel k).windows

section
variable {k : Nat}

theorem windows_of_eth {s t : State} (h : t.eth = s.eth) : Leaves (State.windowsOf k) s t := ⟨congrArg TelSlot.windows (tel_of_eth h k)⟩

theorem setReg_leaves_windows (s : State) (a : Nat) (v : Word) : Leaves (State.windowsOf k) s (s.setReg a v) := ⟨rfl⟩

theorem updTel_leaves_windows {s : State} {f : TelSlot → TelSlot} (hf : ∀ x, (f x).windows = x.windows) :
    Leaves (State.windowsOf k) s (s.updTel k f) := ⟨by simp [State.windowsOf, hf]⟩

theorem deliver_leaves_windows (s : State) (c : TelCopy) : Leaves (State.windowsOf k) s (s.deliver k c) := by
  unfold State.deliver
  extract_lets x u gap lost v w
  have hw : Leaves (State.windowsOf k) s w := windows_of_eth (by simp only [w, v, u]; split <;> rfl)
  clear_value w
  exact .after ⟨congrArg TelSlot.windows (tel_blockEvent _ _ _ _)⟩ (.after (updTel_leaves_windows fun _ => rfl) hw)

theorem compareCopy_leaves_windows (s : State) (d c : TelCopy) : Leaves (State.windowsOf k) s (s.compareCopy k d c) := by
  refine windows_of_eth ?_
  unfold State.compareCopy
  dsimp only
  split
  · split <;> rfl
  · rfl

theorem queueElement_leaves_windows (s : State) (q : Nat) (el : List Word) : Leaves (State.windowsOf k) s (s.queueElement q el) := by
  unfold State.queueElement
  split
  · exact windows_of_eth rfl
  · exact .after ⟨congrArg TelSlot.windows (tel_blockEvent _ _ _ _)⟩ (windows_of_eth (eth_deliverNow _ _ _ _))

theorem afterDelivery_leaves_windows (s : State) (w : TelWindow) (d : TelCopy) (arr : Nat) :
    Leaves (State.windowsOf k) s (s.afterDelivery k w d arr) := by
  unfold State.afterDelivery
  extract_lets lans single v u cfg
  have hu : Leaves (State.windowsOf k) s u := by
    simp only [u, v]
    split
    · exact .after (updTel_leaves_windows fun _ => rfl) (windows_of_eth rfl)
    · have hrun : Leaves (State.windowsOf k) s (s.updTel k fun x => { x with bothRun := x.bothRun + 1 }) := updTel_leaves_windows fun _ => rfl
      exact .ite (.after (setReg_leaves_windows _ _ _) hrun) hrun
  exact .ite (.after (queueElement_leaves_windows _ _ _) hu) hu

theorem safety_leaves_windows {s t : State} (h : t.unsaf = s.unsaf) : Leaves (State.windowsOf k) s t :=
  windows_of_eth (congrArg (fun u => u.eth) h)

/-- R511: a window that is decided is gone, and the others stand. -/
theorem decideWindow_windows (s : State) (w : TelWindow) :
    ((s.decideWindow k w).tel k).windows = (s.tel k).windows.filter (fun v => v.seq != w.seq) := by
  have hcompare (d : TelCopy) (l : List (TelCopy × Nat)) (u : State) :
      Leaves (State.windowsOf k) u (l.foldl (fun s c => s.compareCopy k d c.1) u) :=
    .foldl fun v c => compareCopy_leaves_windows v d c.1
  obtain ⟨u, hu⟩ : ∃ u, u = s.updTel k fun x => { x with windows := x.windows.filter (fun v => v.seq != w.seq) } := ⟨_, rfl⟩
  have hgone : (u.tel k).windows = (s.tel k).windows.filter (fun v => v.seq != w.seq) := by rw [hu, tel_updTel_same]
  suffices h : Leaves (State.windowsOf k) u (s.decideWindow k w) from h.eq.trans hgone
  unfold State.decideWindow
  dsimp only
  rw [← hu]
  clear hu hgone
  split
  · split
    · exact .refl u
    · split
      · exact .refl u
      · split
        · exact .after (safety_leaves_windows (unsaf_safTelDiff _ k)) (.after (updTel_leaves_windows fun _ => rfl) (windows_of_eth rfl))
        · exact .after (safety_leaves_windows (unsaf_safDelivered _ k _)) (.after (afterDelivery_leaves_windows _ _ _ _)
            (.after (hcompare _ _ _) (.after (setReg_leaves_windows _ _ _) (deliver_leaves_windows u _))))
  · split
    · exact afterDelivery_leaves_windows u _ _ _
    · split
      · exact .refl u
      · exact .after (afterDelivery_leaves_windows _ _ _ _) (.after (hcompare _ _ _) (deliver_leaves_windows u _))

end

theorem telegramWindowClose_results {k : Fin 64} {w : TelWindow} {s : State} (hwin : (s.tel k).windows = [w]) (hdue : 500000 ≤ s.tb.el - w.el) :
    ∃ t, exec (.telegramWindowClose k w.seq) s = .next t ∧ (t.tel k).windows = [] := by
  have hrun : exec (.telegramWindowClose k w.seq) s = .next (s.closeWindow k w) := by
    refine congrArg Host.Outcome.next ?_
    rw [hwin, List.find?_cons_of_pos (by simp)]
    exact if_pos (by simp [hdue])
  refine ⟨_, hrun, ?_⟩
  rw [State.closeWindow, closeBelow_lone hwin, decideWindow_windows, hwin]
  simp

/-! ### Links (R506, R587) -/

theorem ethLinkDown_results {p : Fin 4} {unsent : Nat} {s : State} (hlink : s.regB (Reg.ETH_PSTAT p) 31 = true) :
    ∃ t, exec (.ethLinkDown p unsent) s = .next t ∧ t.regB (Reg.ETH_PSTAT p) 31 = false ∧ t.regB Reg.ETH_STK 0 = true
      ∧ t.reg (Reg.ETH_NLINK p) = s.reg (Reg.ETH_NLINK p) + 1
      ∧ t.reg (Reg.ETH_NTXLD p) = s.reg (Reg.ETH_NTXLD p) + BitVec.ofNat 32 unsent := by
  refine ⟨_, congrArg Host.Outcome.next (if_pos hlink), ?_⟩
  simp (disch := lia) [clrBitR, setBitR, State.bump, State.drop, regB, wd]

theorem ethLinkUp_results {p : Fin 4} {speed : Fin 3} {s : State} (hen : s.regB (Reg.ETH_PCFG p) 31 = true) :
    (s.domainOut (7 + p) = true → exec (.ethLinkUp p speed) s = .next s)
    ∧ (s.domainOut (7 + p) = false → ∃ t, exec (.ethLinkUp p speed) s = .next t ∧ t.regB (Reg.ETH_PSTAT p) 31 = true ∧ sameRegs s t [Reg.ETH_PSTAT p]
      ∧ (s.regF (Reg.ETH_PCFG p) 30 29 = 1 → t.regF (Reg.ETH_PSTAT p) 30 29 = 1)) := by
  refine ⟨fun hout => congrArg Host.Outcome.next (if_neg (by simp [hout])),
    fun hin => ⟨_, congrArg Host.Outcome.next (if_pos (by simp [hen, hin])), ?_, sameRegs_setReg _ _ _, fun hforced => ?_⟩⟩
  · have hup : ∀ code < 4, bit (wd (2 ^ 31 + code * 2 ^ 29)) 31 = true := by decide
    rw [regB, State.reg_setReg_same]
    refine hup _ ?_
    split
    · decide
    · decide
    · split <;> decide
    · split
      · decide
      · exact Nat.lt_succ_of_lt speed.isLt
  · rw [regF, State.reg_setReg_same, hforced]
    exact (by decide : fld (wd (2 ^ 31 + 1 * 2 ^ 29)) 30 29 = 1)

/-- Settles O42: frames, copies, windows and links, one lemma each. -/
theorem ethernetResults : Obligations.EthernetResults := by
  unfold Obligations.EthernetResults
  exact ⟨fun _ _ _ _ => ethFrameReceived_results, fun _ _ _ => twinTelegramCopy_results, fun _ _ _ => telegramWindowClose_results,
    fun _ _ _ => ethLinkDown_results, fun _ _ _ => ethLinkUp_results⟩

end Sys2Proof.Machine
end

section
/-! PROOFS. The rules of the safety block (R396 to R405): outputs switch off, functions enter the safe state, degraded conditions are
formed again, a failed check marks its output. -/
namespace Sys2Proof.Machine

open State (setBitR clrBitR setRegF regB regF Leaves)

/-! ### Moves towards the safe state -/

/-- `t` follows `s` by moves of the safety block: no output is switched on, no function leaves its safe state, no sticky bit is
cleared, and the ports beside SAF_STAT, SAF_FSTAT and SAF_STK stand. -/
structure Safer (s t : State) : Prop where
  beside : t.unsaf = s.unsaf
  regs : ∀ a, a ≠ Reg.SAF_STAT → a ≠ Reg.SAF_FSTAT → a ≠ Reg.SAF_STK → ¬ recorderPort a → t.reg a = s.reg a
  off : ∀ k, s.regB Reg.SAF_STAT k = false → t.regB Reg.SAF_STAT k = false
  fault : t.regB Reg.SAF_STAT 31 = s.regB Reg.SAF_STAT 31
  safe : ∀ f, s.funSafe f = true → t.funSafe f = true
  stk : ∀ i, s.regB Reg.SAF_STK i = true → t.regB Reg.SAF_STK i = true
  saf : ∃ w d, t.saf = { s.saf with waiton := w, degEl := d } ∧ ∀ k, s.saf.waiton.contains k = false → w.contains k = false

theorem Safer.refl (s : State) : Safer s s :=
  ⟨rfl, fun _ _ _ _ _ => rfl, fun _ h => h, rfl, fun _ h => h, fun _ h => h, _, _, rfl, fun _ h => h⟩

theorem Safer.trans {s t u : State} (h : Safer s t) (k : Safer t u) : Safer s u := by
  obtain ⟨w, d, hw, hin⟩ := h.saf
  obtain ⟨w', d', hw', hin'⟩ := k.saf
  refine ⟨k.beside.trans h.beside, fun a h1 h2 h3 h4 => (k.regs a h1 h2 h3 h4).trans (h.regs a h1 h2 h3 h4), fun q hq => k.off q (h.off q hq),
    k.fault.trans h.fault, fun f hf => k.safe f (h.safe f hf), fun i hi => k.stk i (h.stk i hi), w', d', ?_, fun q hq => ?_⟩
  · rw [hw', hw]
  · exact hin' q (by rw [hw]; exact hin q hq)

theorem Safer.foldl {α : Type} {f : State → α → State} {l : List α} (h : ∀ u, ∀ a ∈ l, Safer u (f u a)) (s : State) : Safer s (l.foldl f s) :=
  foldl_keeps (Safer s) f l s (.refl s) fun u a ha hu => hu.trans (h u a ha)

theorem Safer.regB_eq {s t : State} (h : Safer s t) {a : Nat} (i : Nat) (h1 : a ≠ Reg.SAF_STAT) (h2 : a ≠ Reg.SAF_FSTAT)
    (h3 : a ≠ Reg.SAF_STK) (h4 : ¬ recorderPort a) : t.regB a i = s.regB a i := congrArg (bit · i) (h.regs a h1 h2 h3 h4)

theorem Safer.isSafOut_eq {s t : State} (h : Safer s t) {k : Nat} (hk : k < 16) : t.isSafOut k = s.isSafOut k :=
  h.regB_eq 31 (by lia) (by lia) (by lia) (not_recorderPort (by lia))

theorem regB_setBitR_of_set {s : State} {a b j i : Nat} (h : s.regB b j = true) : (s.setBitR a i).regB b j = true := by
  rw [regB, setBitR, State.reg_orBits]
  split
  case isTrue hb =>
    subst hb
    rw [bit_or, show bit (s.reg b) j = true from h]; rfl
  case isFalse => exact h

theorem safOutOff_safer (s : State) {k : Nat} (hk : k < 16) : Safer s (s.safOutOff k) where
  beside := unsaf_safOutOff s k
  regs a h _ _ _ := State.reg_setReg_ne s _ h
  off q h := regB_clrBitR_of_clear k h
  fault := (regB_clrBitR s (by omega) _ _ _).trans (if_neg (by omega))
  safe f h := (regB_clrBitR s (by omega) _ _ _).trans ((if_neg fun hp => absurd hp.1 (by decide)).trans h)
  stk i h := (regB_clrBitR s (by omega) _ _ _).trans ((if_neg fun hp => absurd hp.1 (by decide)).trans h)
  saf := ⟨_, _, rfl, fun q h => by
    simp only [List.contains_eq_mem, decide_eq_false_iff_not, List.mem_filter, not_and] at h ⊢
    exact fun hq => absurd hq h⟩

theorem setBitR_safer (s : State) {a i : Nat} (h : a = Reg.SAF_STK ∨ a = Reg.SAF_FSTAT) : Safer s (s.setBitR a i) where
  beside := unsaf_orBits s _ (by rcases h with rfl | rfl <;> decide)
  regs b h1 h2 h3 _ := State.reg_orBits_ne s _ (by rcases h with rfl | rfl <;> assumption)
  off q hq := (congrArg (bit · q) (State.reg_orBits_ne s _ (by rcases h with rfl | rfl <;> decide))).trans hq
  fault := congrArg (bit · 31) (State.reg_orBits_ne s _ (by rcases h with rfl | rfl <;> decide))
  safe f hf := regB_setBitR_of_set hf
  stk j hj := regB_setBitR_of_set hj
  saf := ⟨_, _, rfl, fun _ hq => hq⟩

/-- A degraded condition withdrawn leaves the safe states. -/
theorem clrFstat_safer (s : State) {f : Nat} (hf : f < 16) : Safer s (s.clrBitR Reg.SAF_FSTAT f) where
  beside := unsaf_setReg s _ (by decide)
  regs b _ h2 _ _ := State.reg_setReg_ne s _ h2
  off q hq := (congrArg (bit · q) (State.reg_setReg_ne s _ (by decide))).trans hq
  fault := congrArg (bit · 31) (State.reg_setReg_ne s _ (by decide))
  safe g hg := (regB_clrBitR s (by omega) _ _ _).trans ((if_neg (by omega)).trans hg)
  stk j hj := (congrArg (bit · j) (State.reg_setReg_ne s _ (by decide))).trans hj
  saf := ⟨_, _, rfl, fun _ hq => hq⟩

theorem degEl_safer (s : State) (g : SMap Nat → SMap Nat) : Safer s (s.updSaf fun x => { x with degEl := g x.degEl }) :=
  ⟨rfl, fun _ _ _ _ _ => rfl, fun _ h => h, rfl, fun _ h => h, fun _ h => h, _, _, rfl, fun _ h => h⟩

theorem record_safer (s : State) (n : RecName) (el : Nat) (items : List Nat) : Safer s (s.record n el items) where
  beside := unsaf_record s n el items
  regs a _ _ _ h := reg_record s n el items h
  off q hq := (congrArg (bit · q) (reg_record_outside s n el items (by lia))).trans hq
  fault := congrArg (bit · 31) (reg_record_outside s n el items (by lia))
  safe f hf := (congrArg (bit · (16 + f)) (reg_record_outside s n el items (by lia))).trans hf
  stk j hj := (congrArg (bit · j) (reg_record_outside s n el items (by lia))).trans hj
  saf := ⟨_, _, saf_record s n el items, fun _ hq => hq⟩

/-- The outputs that a condition names switched off. -/
theorem outputsOff_safer (c : State → Nat → Bool) (s : State) :
    Safer s ((List.range 16).foldl (fun s k => if c s k then s.safOutOff k else s) s) :=
  .foldl (fun u k hk => by
    split
    · exact safOutOff_safer u (List.mem_range.1 hk)
    · exact .refl u) s

theorem regB_outputsOff {c : State → Nat → Bool} (hstable : ∀ u q k, c (u.safOutOff q) k = c u k) {s : State} {k : Nat} (hk : k < 16)
    (hc : c s k = true) :
    ((List.range 16).foldl (fun s k => if c s k then s.safOutOff k else s) s).regB Reg.SAF_STAT k = false := by
  let f := fun (u : State) k => if c u k then u.safOutOff k else u
  have hstep (u : State) (a b : Nat) : c (f u a) b = c u b := by
    simp only [f]
    split
    · exact hstable u a b
    · rfl
  have hkept : c ((List.range 16).foldl f s) k = c s k := foldl_keeps (fun u => c u k = c s k) f _ s rfl fun u a _ hu => (hstep u a k).trans hu
  refine foldl_establishes (f := f) (fun k u => c u k = true → u.regB Reg.SAF_STAT k = false) (List.range 16) s (fun u q hq hcq => ?_)
    (fun u a b hu hcb => ?_) k (List.mem_range.2 hk) (hkept.trans hc)
  · rw [hstep] at hcq
    simp only [f, hcq, if_true]
    exact (regB_clrBitR u (by have := List.mem_range.1 hq; omega) _ _ _).trans (if_pos ⟨rfl, rfl⟩)
  · rw [hstep] at hcb
    simp only [f]
    split
    · exact regB_clrBitR_of_clear a (hu hcb)
    · exact hu hcb

/-! ### Functions (R403, R404) -/

theorem enterSafe_safer (s : State) (f cause : Nat) : Safer s (s.enterSafe f cause) := by
  unfold State.enterSafe
  split
  · exact .refl s
  · exact (outputsOff_safer _ s).trans ((setBitR_safer _ (.inr rfl)).trans ((setBitR_safer _ (.inl rfl)).trans (record_safer _ _ _ _)))

theorem redegrade_safer (s : State) : Safer s s.redegrade :=
  .foldl (fun u f hf => by
    dsimp only
    split
    · exact (clrFstat_safer u (List.mem_range.1 hf)).trans (degEl_safer _ fun m => mdel m f)
    split
    · exact .refl u
    · exact (setBitR_safer u (.inr rfl)).trans ((setBitR_safer _ (.inl rfl)).trans ((degEl_safer _ fun m => mput m f _).trans
        (record_safer _ _ _ _)))) s

theorem enterSafe_safe (s : State) {f : Nat} (cause : Nat) (hf : f < 16) : (s.enterSafe f cause).funSafe f = true := by
  unfold State.enterSafe
  split
  · assumption
  · simp (disch := lia) [State.funSafe, regB, setBitR]

/-- R404: the outputs that a function names are off once it has entered its safe state. -/
theorem enterSafe_off {s : State} {f k : Nat} (cause : Nat) (hsafe : s.funSafe f = false) (hk : k < 16)
    (hname : s.regB (Reg.SAF_FB f) (16 + k) = true) (hout : s.isSafOut k = true) : (s.enterSafe f cause).regB Reg.SAF_STAT k = false := by
  have hoff := regB_outputsOff (c := fun u k => u.regB (Reg.SAF_FB f) (16 + k) && u.isSafOut k)
    (fun u q k => congrArg₂ (· && ·) (congrArg (bit · (16 + k)) (State.reg_setReg_ne u _ (by lia))) (isSafOut_safOutOff u q k))
    hk (s := s) (by simp [hname, hout])
  have hrest := (setBitR_safer ((List.range 16).foldl (fun s k => if s.regB (Reg.SAF_FB f) (16 + k) && s.isSafOut k then s.safOutOff k else s) s)
    (i := 16 + f) (.inr rfl)).trans ((setBitR_safer _ (i := 7) (.inl rfl)).trans (record_safer _ .safSafestate f [f, cause]))
  have hrun : s.enterSafe f cause = _ := if_neg (by simp [hsafe])
  rw [hrun]
  exact hrest.off k hoff

/-- Functions that enter their safe state one after another are all in it afterwards. -/
theorem enterSafe_foldl_safe (cause : Nat) (l : List Nat) (hl : ∀ f ∈ l, f < 16) (s : State) :
    ∀ f ∈ l, (l.foldl (fun s f => s.enterSafe f cause) s).funSafe f = true :=
  foldl_establishes (fun f u => State.funSafe u f = true) l s (fun u f hf => enterSafe_safe u cause (hl f hf))
    fun u a b hu => (enterSafe_safer u a cause).safe b hu

theorem enterSafe_foldl_safer (cause : Nat) (l : List Nat) (s : State) : Safer s (l.foldl (fun s f => s.enterSafe f cause) s) :=
  .foldl (fun u f _ => enterSafe_safer u f cause) s

theorem lt_of_mem_funsWith {s : State} {p : Nat → Bool} {f : Nat} (h : f ∈ s.funsWith p) : f < 16 :=
  List.mem_range.1 (List.mem_filter.1 h).1

/-! ### Safety faults (R389) -/

theorem safetyFault_results (s : State) (cause : Nat) : (s.safetyFault cause).regB Reg.SAF_STAT 31 = true ∧ (s.safetyFault cause).healthy = false
    ∧ ∀ k, k < 16 → s.isSafOut k = true → (s.safetyFault cause).regB Reg.SAF_STAT k = false := by
  refine ⟨?_, healthy_addHealth _ _, fun k hk hout => ?_⟩
  · simp (disch := lia) [State.safetyFault, regB, setBitR]
  · have hoff := regB_outputsOff (c := State.isSafOut) (fun u q k => isSafOut_safOutOff u q k) hk hout
    unfold State.safetyFault
    rw [regB, reg_addHealth, reg_record_outside _ _ _ _ (by lia)]
    exact (regB_setBitR _ (by decide) _ _ _).trans ((if_neg (by omega)).trans hoff)

/-! ### A failed check of an output (R400, R401) -/

/-- The outputs that a failed check of output `k` makes faulty without a sound partner. -/
def State.faultyWith (s : State) (k : Nat) : List Nat :=
  match s.partner k with
  | some q => if s.regB Reg.SAF_OFLT q then [k, q] else []
  | none => [k]

theorem safPort_of_setting {a : Nat} (h1 : 0x5810 ≤ a) (h2 : a < 0x5980) : safPort a = false := by
  simp [safPort]; omega

/-- R400: a failed check marked: its output counts, is off and waits for no window. -/
def State.checkFailed (s : State) (k check : Nat) : State :=
  ((((s.setBitR Reg.SAF_OFLT k).bump Reg.SAF_NTPFAIL).setBitR Reg.SAF_STK 3).record .safTpFail k [k, check]).safOutOff k

theorem outputFault_eq (s : State) (k check : Nat) : s.outputFault k check = if s.regB Reg.SAF_OFLT k then s.checkFailed k check
    else (((s.checkFailed k check).funsWith fun f => ((s.checkFailed k check).faultyWith k).any fun q =>
      (s.checkFailed k check).regB (Reg.SAF_FB f) (16 + q)).foldl (fun s f => s.enterSafe f 3) (s.checkFailed k check)).redegrade := rfl

theorem outputFault_safer (s : State) (k check : Nat) : Safer (s.checkFailed k check) (s.outputFault k check) := by
  rw [outputFault_eq]
  split
  · exact .refl _
  · exact (enterSafe_foldl_safer 3 _ _).trans (redegrade_safer _)

theorem checkFailed_results (s : State) {k : Nat} (check : Nat) (hk : k < 16) :
    (∀ q, (s.checkFailed k check).regB Reg.SAF_OFLT q = (decide (q = k) || s.regB Reg.SAF_OFLT q))
      ∧ (s.checkFailed k check).reg Reg.SAF_NTPFAIL = s.reg Reg.SAF_NTPFAIL + 1
      ∧ (s.checkFailed k check).regB Reg.SAF_STK 3 = true
      ∧ (s.checkFailed k check).regB Reg.SAF_STAT k = false
      ∧ (s.checkFailed k check).saf = { s.saf with waiton := s.saf.waiton.filter (fun q => q != k) }
      ∧ (s.checkFailed k check).unsaf = s.unsaf := by
  have hreg (a : Nat) (h : a ≠ Reg.SAF_STAT) (hlow : a < 0x8000) : (s.checkFailed k check).reg a
      = (((s.setBitR Reg.SAF_OFLT k).bump Reg.SAF_NTPFAIL).setBitR Reg.SAF_STK 3).reg a :=
    (State.reg_setReg_ne _ _ h).trans (reg_record_outside _ _ _ _ (.inl hlow))
  refine ⟨fun q => ?_, ?_, ?_, ?_, ?_, ?_⟩
  · rw [regB, hreg _ (by lia) (by lia)]
    simp (disch := lia) [State.bump, setBitR, regB, bit_or, bit_bitMask, Bool.or_comm]
  · rw [hreg _ (by lia) (by lia)]
    simp (disch := lia) [State.bump, setBitR, wd]
  · rw [regB, hreg _ (by lia) (by lia)]
    simp (disch := lia) [setBitR]
  · exact (regB_clrBitR _ (by omega) _ _ _).trans (if_pos ⟨rfl, rfl⟩)
  · simp [State.checkFailed, State.safOutOff, State.updSaf, State.bump, setBitR, clrBitR]
  · exact (unsaf_setReg _ _ (by decide)).trans ((unsaf_record _ _ _ _).trans ((unsaf_orBits _ _ (by decide)).trans
      ((unsaf_setReg _ _ (by decide)).trans (unsaf_orBits _ _ (by decide)))))

theorem outputFault_results (s : State) {k : Nat} (check : Nat) (hk : k < 16) :
    (s.outputFault k check).regB Reg.SAF_OFLT k = true
      ∧ (s.outputFault k check).reg Reg.SAF_NTPFAIL = s.reg Reg.SAF_NTPFAIL + 1
      ∧ (s.outputFault k check).regB Reg.SAF_STK 3 = true
      ∧ (s.outputFault k check).regB Reg.SAF_STAT k = false
      ∧ (∀ q, s.regB Reg.SAF_OFLT q = true → (s.outputFault k check).regB Reg.SAF_OFLT q = true)
      ∧ (∃ w d, (s.outputFault k check).saf = { s.saf with waiton := w, degEl := d }
          ∧ ∀ q, s.saf.waiton.contains q = false → w.contains q = false)
      ∧ (s.regB Reg.SAF_OFLT k = false → ∀ f, f < 16 → (∀ q, s.partner k = some q → s.regB Reg.SAF_OFLT q = true) → s.funOn f = true →
          s.regB (Reg.SAF_FB f) (16 + k) = true ∨ (∃ q, s.partner k = some q ∧ s.regB (Reg.SAF_FB f) (16 + q) = true) →
          (s.outputFault k check).funSafe f = true) := by
  obtain ⟨hflt, hcount, hstk, hoff, hsaf, hbeside⟩ := checkFailed_results s check hk
  have hsafer := outputFault_safer s k check
  have hmark : ∀ q, (s.outputFault k check).regB Reg.SAF_OFLT q = (decide (q = k) || s.regB Reg.SAF_OFLT q) := fun q =>
    (hsafer.regB_eq q (by decide) (by decide) (by decide) (not_recorderPort (by decide))).trans (hflt q)
  refine ⟨by simp [hmark], (hsafer.regs _ (by decide) (by decide) (by decide) (not_recorderPort (by decide))).trans hcount,
    hsafer.stk 3 hstk, hsafer.off k hoff, fun q hq => by simp [hmark, hq], ?_, fun hnew f hf hpair hon hname => ?_⟩
  · obtain ⟨w, d, hw, hin⟩ := hsafer.saf
    refine ⟨w, d, by rw [hw, hsaf], fun q hq => hin q ?_⟩
    rw [hsaf]
    simp only [List.contains_eq_mem, decide_eq_false_iff_not, List.mem_filter, not_and] at hq ⊢
    exact fun h => absurd h hq
  · rw [outputFault_eq, if_neg (by simp [hnew])]
    refine (redegrade_safer _).safe f (enterSafe_foldl_safe 3 _ (fun g hg => lt_of_mem_funsWith hg) _ f ?_)
    have hcfg (a i : Nat) (h1 : safPort a = false) (h2 : ¬ recorderPort a) : (s.checkFailed k check).regB a i = s.regB a i :=
      regB_of_unsaf hbeside i h1 h2
    have hfb (i : Nat) : (s.checkFailed k check).regB (Reg.SAF_FB f) i = s.regB (Reg.SAF_FB f) i :=
      hcfg _ _ (safPort_of_setting (by lia) (by lia)) (not_recorderPort (by lia))
    have hpartner : (s.checkFailed k check).partner k = s.partner k := by
      have hocfg (n : Nat) (hn : n < 16) : (s.checkFailed k check).regB (Reg.SAF_OCFG n) 30 = s.regB (Reg.SAF_OCFG n) 30 :=
        hcfg _ _ (safPort_of_setting (by lia) (by lia)) (not_recorderPort (by lia))
      simp only [State.partner, hocfg k hk, hocfg (k - 8) (by omega)]
    have hfaulty : ∀ q, q = k ∨ s.partner k = some q → q ∈ (s.checkFailed k check).faultyWith k := by
      unfold State.faultyWith
      rw [hpartner]
      intro q hq
      cases hp : s.partner k with
      | none =>
        obtain rfl := hq.resolve_right (by simp [hp])
        exact List.mem_singleton_self q
      | some r =>
        dsimp only
        rw [if_pos (by simp [hflt, hpair r hp])]
        rcases hq with rfl | hq
        · simp
        · obtain rfl : r = q := Option.some.inj (hp.symm.trans hq)
          simp
    refine List.mem_filter.2 ⟨List.mem_range.2 hf, ?_⟩
    have hon' : (s.checkFailed k check).funOn f = true :=
      (hcfg _ _ (safPort_of_setting (by lia) (by lia)) (not_recorderPort (by lia))).trans hon
    rw [hon', Bool.true_and, List.any_eq_true]
    rcases hname with h | ⟨q, hq, h⟩
    · exact ⟨k, hfaulty k (.inl rfl), (hfb _).trans h⟩
    · exact ⟨q, hfaulty q (.inr hq), (hfb _).trans h⟩

end Sys2Proof.Machine
end

section
/-! PROOFS. Safety functions into their safe state and out of it by acknowledgement (R389, R404 to R406, R409); then the statement
`Obligations.SafetyFunctions`. -/
namespace Sys2Proof.Machine

open State (setBitR clrBitR setRegF regB regF Leaves)

/-! ### Into the safe state -/

theorem exec_safetyFault_results {mv : Nat} {s : State} :
    (mv < 800 ∨ 900 < mv → ∃ t, exec (.safetyFault mv) s = .next t ∧ t.regB Reg.SAF_STAT 31 = true
        ∧ t.healthy = false ∧ ∀ k, k < 16 → s.isSafOut k = true → t.regB Reg.SAF_STAT k = false)
    ∧ (800 ≤ mv → mv ≤ 900 → exec (.safetyFault mv) s = .next s) :=
  ⟨fun hout => ⟨_, congrArg Host.Outcome.next (if_pos hout), safetyFault_results s 2⟩,
    fun hlo hhi => congrArg Host.Outcome.next (if_neg (by omega))⟩

theorem safetySelftest_results {s : State} : (∃ t, exec (.safetySelftest false) s = .next t ∧ t.regB Reg.SAF_STAT 31 = true ∧ t.healthy = false
        ∧ ∀ k, k < 16 → s.isSafOut k = true → t.regB Reg.SAF_STAT k = false)
    ∧ exec (.safetySelftest true) s = .next s :=
  ⟨⟨_, rfl, safetyFault_results s 1⟩, rfl⟩

theorem degradedTimeExpiry_results {f : Fin 16} {e : Nat} {s : State} (hdeg : mget s.saf.degEl f = some e) (hon : s.funOn f = true)
    (hsafe : s.funSafe f = false) (hdue : s.regF (Reg.SAF_FE f) 12 0 * 60000000000 ≤ s.tb.el - e) :
    ∃ t, exec (.degradedTimeExpiry f) s = .next t ∧ t.funSafe f = true ∧ t.reg Reg.SAF_NDEGEXP = s.reg Reg.SAF_NDEGEXP + 1
      ∧ ∀ k, k < 16 → s.regB (Reg.SAF_FB f) (16 + k) = true → s.isSafOut k = true → t.regB Reg.SAF_STAT k = false := by
  let u := s.bump Reg.SAF_NDEGEXP
  have hother (a i : Nat) (h : a ≠ Reg.SAF_NDEGEXP) : u.regB a i = s.regB a i := congrArg (bit · i) (State.reg_setReg_ne s _ h)
  refine ⟨u.enterSafe f 0, congrArg Host.Outcome.next ?_, enterSafe_safe u 0 f.isLt, ?_, fun k hk hname hout => ?_⟩
  · simp only [hdeg]
    exact if_pos (by simp [hon, hsafe, hdue])
  · exact ((enterSafe_safer u f 0).regs _ (by decide) (by decide) (by decide) (not_recorderPort (by decide))).trans (State.reg_setReg_same _ _ _)
  · exact enterSafe_off 0 ((hother _ _ (by decide)).trans hsafe) hk ((hother _ _ (by lia)).trans hname) ((hother _ _ (by lia)).trans hout)

theorem clauseWatchdog_results {f : Fin 16} {s : State} (hon : s.funOn f = true) (hsafe : s.funSafe f = false)
    (hdue : s.regF (Reg.SAF_FA f) 27 16 * 1000000 ≤ s.tb.el - mgetD s.saf.wdEl f 0) :
    ∃ t, exec (.clauseWatchdog f) s = .next t ∧ t.funSafe f = true ∧ t.regB Reg.SAF_STK 7 = true
      ∧ ∀ k, k < 16 → s.regB (Reg.SAF_FB f) (16 + k) = true → s.isSafOut k = true → t.regB Reg.SAF_STAT k = false := by
  refine ⟨s.enterSafe f 1, congrArg Host.Outcome.next (if_pos (by simp [hon, hdue])), enterSafe_safe s 1 f.isLt, ?_,
    fun k hk hname hout => enterSafe_off 1 hsafe hk hname hout⟩
  unfold State.enterSafe
  rw [if_neg (by simp [hsafe])]
  simp (disch := lia) [regB, setBitR]

/-- Which functions name a slot is set in ports that the safety block does not move. -/
theorem funsOfSlot_of_unsaf {s t : State} (h : t.unsaf = s.unsaf) (k : Nat) : t.funsOfSlot k = s.funsOfSlot k := by
  have hreg (a i : Nat) (h1 : 0x5810 ≤ a) (h2 : a < 0x5980) : t.regB a i = s.regB a i :=
    regB_of_unsaf h i (safPort_of_setting h1 h2) (not_recorderPort (by omega))
  unfold State.funsOfSlot State.funsWith
  refine List.filter_congr fun f hf => ?_
  have hf := List.mem_range.1 hf
  simp only [State.funOn, hreg (Reg.SAF_FA f) _ (by lia) (by lia), hreg (Reg.SAF_FC f) _ (by lia) (by lia), hreg (Reg.SAF_FD f) _ (by lia) (by lia)]

theorem telegramWatchdog_results {k : Fin 64} {s : State} (hen : s.regB (Reg.SAF_TWD k) 31 = true) (hnew : s.saf.expired.contains k.val = false)
    (hdue : s.regF (Reg.SAF_TWD k) 15 0 * 100000 ≤ s.tb.el - mgetD s.saf.slotEl k 0) :
    ∃ t, exec (.telegramWatchdog k) s = .next t ∧ t.saf.expired.contains k.val = true
      ∧ t.regB (slotBit Reg.SAF_TVAL0 Reg.SAF_TVAL1 k).1 (slotBit Reg.SAF_TVAL0 Reg.SAF_TVAL1 k).2 = false
      ∧ t.reg Reg.SAF_NTELTMO = s.reg Reg.SAF_NTELTMO + 1 ∧ ∀ f, f ∈ s.funsOfSlot k → t.funSafe f = true := by
  let q := slotBit Reg.SAF_TVAL0 Reg.SAF_TVAL1 k
  have hq : (q.1 = Reg.SAF_TVAL0 ∨ q.1 = Reg.SAF_TVAL1) ∧ q.2 < 32 := by
    simp only [q, slotBit]
    split
    · exact ⟨.inl rfl, by omega⟩
    · exact ⟨.inr rfl, by omega⟩
  let v := ((((s.clrBitR q.1 q.2).updSaf (fun x => { x with expired := x.expired ++ [k.val] })).bump Reg.SAF_NTELTMO).setBitR Reg.SAF_STK 6).record
    .safTelTimeout k [k]
  have hv (a : Nat) (h1 : a ≠ Reg.SAF_NTELTMO) (h2 : a ≠ Reg.SAF_STK) (h3 : a < 0x8000) : v.reg a = (s.clrBitR q.1 q.2).reg a :=
    (reg_record_outside _ _ _ _ (.inl h3)).trans ((State.reg_orBits_ne _ _ h2).trans (State.reg_setReg_ne _ _ h1))
  have hsafer := enterSafe_foldl_safer 2 (v.funsOfSlot k) v
  have hbeside : v.unsaf = s.unsaf := (unsaf_record _ _ _ _).trans ((unsaf_orBits _ _ (by decide)).trans ((unsaf_setReg _ _ (by decide)).trans
    (unsaf_setReg s _ (by rcases hq.1 with h | h <;> rw [h] <;> decide))))
  have hfuns : v.funsOfSlot k = s.funsOfSlot k := funsOfSlot_of_unsaf hbeside k
  have htval : q.1 ≠ Reg.SAF_STAT ∧ q.1 ≠ Reg.SAF_FSTAT ∧ q.1 ≠ Reg.SAF_STK ∧ q.1 ≠ Reg.SAF_NTELTMO ∧ q.1 < 0x8000 := by
    rcases hq.1 with h | h <;> rw [h] <;> decide
  have hguard : (s.regB (Reg.SAF_TWD k) 31 && !(s.saf.expired.contains k.val)
      && decide (s.regF (Reg.SAF_TWD k) 15 0 * 100000 ≤ s.tb.el - mgetD s.saf.slotEl k 0)) = true := by
    rw [hen, hnew, decide_eq_true hdue]; rfl
  have hsaf : v.saf = { s.saf with expired := s.saf.expired ++ [k.val] } := by
    simp [v, State.updSaf, State.bump, setBitR, clrBitR]
  have hcount : v.reg Reg.SAF_NTELTMO = s.reg Reg.SAF_NTELTMO + 1 := by
    have hne : q.1 ≠ Reg.SAF_NTELTMO := htval.2.2.2.1
    simp (disch := lia) [v, State.bump, setBitR, clrBitR, wd]
  have hrun : exec (.telegramWatchdog k) s = .next ((v.funsOfSlot k).foldl (fun s f => s.enterSafe f 2) v) :=
    congrArg Host.Outcome.next (if_pos hguard)
  clear_value v
  refine ⟨_, hrun, ?_, ?_, ?_, fun f hf => ?_⟩
  · obtain ⟨w, d, hw, -⟩ := hsafer.saf
    rw [hw, hsaf]
    simp
  · obtain ⟨h1, h2, h3, h4, h5⟩ := htval
    exact (hsafer.regB_eq _ h1 h2 h3 (not_recorderPort h5)).trans ((congrArg (bit · q.2) (hv _ h4 h3 h5)).trans
      ((regB_clrBitR s hq.2 _ _ _).trans (if_pos ⟨rfl, rfl⟩)))
  · exact (hsafer.regs _ (by decide) (by decide) (by decide) (not_recorderPort (by decide))).trans hcount
  · rw [← hfuns] at hf
    exact enterSafe_foldl_safe 2 _ (fun g hg => lt_of_mem_funsWith hg) v f hf

/-! ### Acknowledgement (R405) -/

/-- A fold over a range in which one index acts. -/
theorem foldl_range_one {σ : Type} {f : σ → Nat → σ} {k n : Nat} (hk : k < n) (hne : ∀ u g, g ≠ k → f u g = u) (s : σ) :
    (List.range n).foldl f s = f s k := by
  induction n with
  | zero => omega
  | succ n ih =>
    rw [List.range_succ, List.foldl_append, List.foldl_cons, List.foldl_nil]
    by_cases h : k = n
    · subst h
      have hbelow : (List.range k).foldl f s = s :=
        foldl_keeps (fun u => u = s) f _ s rfl fun u g hg hu => (hne u g (Nat.ne_of_lt (List.mem_range.1 hg))).trans hu
      rw [hbelow]
    · rw [hne _ n (Ne.symm h), ih (by omega)]

/-- R403: degraded conditions formed again leave the safe states and the outputs. -/
theorem redegrade_leaves_safe (s : State) (f : Nat) : Leaves (fun u => (u.funSafe f, u.reg Reg.SAF_STAT)) s s.redegrade := by
  unfold State.redegrade
  refine ⟨foldl_keeps (fun u : State => (u.funSafe f, u.reg Reg.SAF_STAT) = (s.funSafe f, s.reg Reg.SAF_STAT)) _ _ s rfl fun u g hg hu => ?_⟩
  have hg := List.mem_range.1 hg
  refine Eq.trans ?_ hu
  dsimp only
  split
  · refine Prod.ext ?_ (State.reg_setReg_ne u _ (by decide))
    exact (regB_clrBitR u (by omega) _ _ _).trans (if_neg (by omega))
  split
  · rfl
  · have hreg : ∀ (w : State) h i a, a < 0x8000 → ((w.updSaf h).record .safDegraded g i).reg a = w.reg a :=
      fun w h i a ha => reg_record_outside (w.updSaf h) _ _ _ (.inl ha)
    refine Prod.ext ?_ ?_
    · refine (congrArg (bit · (16 + f)) (hreg _ _ _ _ (by decide))).trans ?_
      exact (congrArg (bit · (16 + f)) (State.reg_orBits_ne _ _ (by decide))).trans ((regB_setBitR u (by omega) _ _ _).trans (if_neg (by omega)))
    · refine (hreg _ _ _ _ (by decide)).trans ?_
      exact (State.reg_orBits_ne _ _ (by decide)).trans (State.reg_orBits_ne _ _ (by decide))

theorem ackFun_refused {s : State} {f : Nat} (h : ∃ q, q ∈ s.saf.expired ∧ f ∈ s.funsOfSlot q) :
    s.ackFun f = (s.bump Reg.SAF_NRSTREF).setBitR Reg.SAF_STK 1 := by
  obtain ⟨q, hq, hf⟩ := h
  have hstale : (s.saf.expired.any fun q => (s.funsOfSlot q).contains f) = true :=
    List.any_eq_true.2 ⟨q, hq, by simpa using hf⟩
  exact if_pos (by rw [hstale, Bool.or_true])

theorem ackFun_taken {s : State} {f : Nat} (hdeg : s.degradedOf f = [])
    (hflt : ∀ k, k < 16 → s.regB (Reg.SAF_FB f) (16 + k) = true → s.regB Reg.SAF_OFLT k = false)
    (hfresh : ∀ q, q ∈ s.saf.expired → f ∉ s.funsOfSlot q) :
    s.ackFun f = (((s.clrBitR Reg.SAF_FSTAT (16 + f)).record .safAck f [f]).updSaf fun x => { x with wdEl := mput x.wdEl f s.tb.el }).redegrade := by
  have hsound : s.soundFaults f = [] := by
    refine List.filter_eq_nil_iff.2 fun k hk => ?_
    by_cases h : s.regB (Reg.SAF_FB f) (16 + k) = true
    · simp [h, hflt k (List.mem_range.1 hk) h]
    · simp [h]
  have hfailing : ((List.range 16).any fun k => s.regB (Reg.SAF_FB f) (16 + k) && s.regB Reg.SAF_OFLT k && !((s.soundFaults f).contains k)) = false := by
    refine List.any_eq_false.2 fun k hk => ?_
    by_cases h : s.regB (Reg.SAF_FB f) (16 + k) = true
    · simp [h, hflt k (List.mem_range.1 hk) h]
    · simp [h]
  have hstale : (s.saf.expired.any fun q => (s.funsOfSlot q).contains f) = false :=
    List.any_eq_false.2 fun q hq => by simpa using hfresh q hq
  unfold State.ackFun
  dsimp only
  rw [hfailing, hstale, hdeg, hsound, if_neg (by simp)]
  simp [clrBitR]

theorem safFack_results {e : Fin 8} {r : Run} {f : Fin 16} {s : State} (hrun : (s.eng e).run = some r) (hlock : r.lock = true)
    (hclause : s.safetyClause r.clause = true) (hturn : s.turnOf (.eng e) = true) (hon : s.funOn f = true) :
    (s.degradedOf f = [] → (∀ k, k < 16 → s.regB (Reg.SAF_FB f) (16 + k) = true → s.regB Reg.SAF_OFLT k = false) →
      (∀ q, q ∈ s.saf.expired → f.val ∉ s.funsOfSlot q) →
      ∃ t, exec (.safFack (.eng e) (bitMask f)) s = .next t ∧ t.funSafe f = false ∧ mget t.saf.wdEl f = some s.tb.el
        ∧ sameRegs s t [Reg.SAF_FSTAT, Reg.SAF_STK])
    ∧ ((∃ q, q ∈ s.saf.expired ∧ f.val ∈ s.funsOfSlot q) → ∃ t, exec (.safFack (.eng e) (bitMask f)) s = .next t
        ∧ t.funSafe f = s.funSafe f ∧ t.reg Reg.SAF_NRSTREF = s.reg Reg.SAF_NRSTREF + 1 ∧ t.regB Reg.SAF_STK 1 = true
        ∧ sameRegs s t [Reg.SAF_NRSTREF, Reg.SAF_STK]) := by
  obtain ⟨u, hu⟩ : ∃ u, u = s.turned (.eng e) := ⟨_, rfl⟩
  have hexec : exec (.safFack (.eng e) (bitMask f)) s = .next (u.ackFun f) := by
    have hparty : u.safetyParty (.eng e) = true := by
      have hrun' : (u.eng e.val).run = some r := by rw [hu]; exact hrun
      have hclause' : u.safetyClause r.clause = true := by rw [hu]; exact hclause
      simp [State.safetyParty, hrun', hlock, hclause']
    have hon' : u.funOn f = true := by rw [hu]; exact hon
    refine congrArg Host.Outcome.next ((byParty_of_turnOf hturn _).trans (hu ▸ (if_pos hparty).trans ?_))
    have hbit (g : Nat) : bit (bitMask f) g = decide (g = f.val) := bit_bitMask (by omega) g
    refine (foldl_range_one f.isLt (fun u g hg => ?_) u).trans (if_pos ?_)
    · exact if_neg (by simp [hbit, hg])
    · simp [hbit, hon']
  have hdeg : u.degradedOf f = s.degradedOf f := by rw [hu]; rfl
  have hslot (q : Nat) : u.funsOfSlot q = s.funsOfSlot q := by rw [hu]; rfl
  have hreg (a : Nat) : u.reg a = s.reg a := by rw [hu]; rfl
  have hsaf : u.saf = s.saf := by rw [hu]; rfl
  have htb : u.tb = s.tb := by rw [hu]; rfl
  clear hu
  refine ⟨fun hnone hflt hfresh => ⟨_, hexec, ?_⟩, fun hstale => ⟨_, hexec, ?_⟩⟩
  · rw [ackFun_taken (s := u) (f := f) (hdeg.trans hnone) (fun k hk hname => (congrArg (bit · k) (hreg _)).trans
      (hflt k hk ((congrArg (bit · (16 + k)) (hreg _)).symm.trans hname))) (by simpa only [hsaf, hslot] using hfresh)]
    obtain ⟨w, hw⟩ : ∃ w, w = ((u.clrBitR Reg.SAF_FSTAT (16 + f)).record .safAck f [f.val]).updSaf fun x =>
      { x with wdEl := mput x.wdEl f u.tb.el } := ⟨_, rfl⟩
    have hwreg (a : Nat) (h : ¬ recorderPort a) : w.reg a = (u.clrBitR Reg.SAF_FSTAT (16 + f)).reg a := by
      rw [hw]; exact reg_record _ _ _ _ h
    have hwd : mget w.saf.wdEl f = some s.tb.el := by
      rw [hw, ← htb]
      exact mget_mput_same _ _ _
    rw [← hw]
    clear hw
    obtain ⟨hsafe, hstat⟩ := Prod.ext_iff.1 (redegrade_leaves_safe w f).eq
    have hsafer := redegrade_safer w
    refine ⟨hsafe.trans ?_, ?_, fun a ha hr => ?_⟩
    · exact (congrArg (bit · (16 + f.val)) (hwreg _ (not_recorderPort (by decide)))).trans
        ((regB_clrBitR u (by omega) _ _ _).trans (if_pos ⟨rfl, rfl⟩))
    · obtain ⟨l, d, hl, -⟩ := hsafer.saf
      rw [hl]
      exact hwd
    · simp only [List.mem_cons, List.not_mem_nil, or_false, not_or] at ha
      obtain ⟨h1, h2⟩ := ha
      have hkept : w.redegrade.reg a = w.reg a := by
        by_cases h : a = Reg.SAF_STAT
        · rw [h]; exact hstat
        · exact hsafer.regs a h h1 h2 hr
      exact hkept.trans ((hwreg a hr).trans ((State.reg_setReg_ne u _ h1).trans (hreg a)))
  · rw [ackFun_refused (s := u) (f := f) (by simpa only [hsaf, hslot] using hstale)]
    refine ⟨?_, ?_, ?_, fun a ha _ => ?_⟩
    · simp (disch := lia) [State.funSafe, regB, State.bump, setBitR, hreg]
    · simp (disch := lia) [State.bump, setBitR, hreg, wd]
    · simp (disch := lia) [State.bump, setBitR, regB]
    · simp only [List.mem_cons, List.not_mem_nil, or_false, not_or] at ha
      simp [State.bump, setBitR, ha.1, ha.2, hreg]

/-- Settles O44: the ways into the safe state and the acknowledgement out of it, one lemma each. -/
theorem safetyFunctions : Obligations.SafetyFunctions := by
  unfold Obligations.SafetyFunctions
  exact ⟨fun _ _ => exec_safetyFault_results, fun _ => safetySelftest_results, fun _ _ _ => degradedTimeExpiry_results,
    fun _ _ => clauseWatchdog_results, fun _ _ => telegramWatchdog_results, fun _ _ _ _ => safFack_results⟩

end Sys2Proof.Machine
end

section
/-! PROOFS. Safety contacts, test windows and read-backs (R391 to R394, R397 to R401); then the statement
`Obligations.SafetyInputsAndOutputs`. -/
namespace Sys2Proof.Machine

open State (setBitR clrBitR setRegF regB regF Leaves)

/-! ### A pair formed again (R390, R392, R394) -/

theorem regB_updSaf (s : State) (f : Saf → Saf) (a i : Nat) : (s.updSaf f).regB a i = s.regB a i := rfl

/-- R390: the state of a pair, given a value that may be the one it has. -/
theorem regB_pairState {u v : State} {k : Nat} (hk : k < 16) (hv : v.regs = u.regs) (b : Bool) :
    State.regB (if b = u.regB Reg.SAF_PSTAT k then v else (v.putBitR Reg.SAF_PSTAT k b).blockEvent 7 k) Reg.SAF_PSTAT k = b := by
  split
  · next h =>
    rw [h, regB, State.reg, hv]
    rfl
  · rw [regB, reg_blockEvent]
    exact (regB_putBitR v (by omega) _ _ _ _).trans (if_pos ⟨rfl, rfl⟩)

/-- R390: with two sound contacts and no discrepancy a pair permits when neither contact reads its safe level. -/
theorem evalPair_sound {s : State} {k : Nat} (hk : k < 16) (hon : s.regB (Reg.SAF_PCFG k) 31 = true)
    (hdisc : s.regB Reg.SAF_PSTAT (16 + k) = false) (h1 : s.contactBad k = false) (h2 : s.contactBad (16 + k) = false) :
    (s.evalPair k).regB Reg.SAF_PSTAT k = ((bit s.saf.lev k != false) && (bit s.saf.lev (16 + k) != s.regB (Reg.SAF_PCFG k) 30)) := by
  unfold State.evalPair
  rw [if_neg (by simp [hon])]
  simp only [State.safeLevels, regB_updSaf, hdisc, h1, h2, Bool.false_and, Bool.false_eq_true, if_false, Bool.not_false, Bool.true_and,
    Bool.false_or]
  refine regB_pairState (u := s) hk ?_ _
  simp only [State.updSaf_regs]

section
variable {α : Type} {V : State → α} (hset : ∀ u v, Leaves V u (State.setReg u Reg.SAF_PSTAT v))
  (hor : ∀ u m, Leaves V u (State.orBits u Reg.SAF_PSTAT m)) (hev : ∀ u c i, Leaves V u (State.blockEvent u c i))
  (hsaf : ∀ u, ∀ f : Saf → Saf, (∀ x, (f x).soundEl = x.soundEl ∧ (f x).lev = x.lev) → Leaves V u (State.updSaf u f))
include hset hor hev hsaf

/-- R390, R392: a pair formed again moves SAF_PSTAT, its timers and the block events only. -/
theorem evalPair_leaves (s : State) (k : Nat) : Leaves V s (s.evalPair k) := by
  have hput (u : State) (i : Nat) (b : Bool) : Leaves V u (u.putBitR Reg.SAF_PSTAT i b) := by
    unfold State.putBitR
    split
    · exact hor u _
    · exact hset u _
  unfold State.evalPair
  refine .ite (.ite (.after (hev _ _ _) (hset s _)) (.refl s)) ?_
  dsimp only [State.safeLevels]
  refine .ite ?_ (.after (hev _ _ _) (.after (hput _ _ _) ?_))
  all_goals
    refine .ite (.ite (.after (hset _ _) ?_) (.ite ?_ (.after (hsaf _ _ fun _ => ⟨rfl, rfl⟩) ?_))) ?_
    all_goals exact .after (hsaf _ _ fun _ => ⟨rfl, rfl⟩) (hsaf s _ fun _ => ⟨rfl, rfl⟩)

end

/-- What a pair formed again leaves: the faults of the contacts, their levels and soundness, the field side, the unit's time. -/
def State.besidePair (u : State) : Word × SMap Nat × Word × FieldIo × Timebase :=
  (u.reg Reg.SAF_PFLT, u.saf.soundEl, u.saf.lev, u.field, u.tb)

theorem evalPair_leaves_besidePair (s : State) (k : Nat) : Leaves State.besidePair s (s.evalPair k) := by
  refine evalPair_leaves (fun u v => ⟨Prod.ext (State.reg_setReg_ne u v (by decide)) rfl⟩)
    (fun u m => ⟨Prod.ext (State.reg_orBits_ne u m (by decide)) rfl⟩) (fun u c i => ?_)
    (fun u f h => ⟨Prod.ext rfl (Prod.ext (h u.saf).1 (Prod.ext (h u.saf).2 rfl))⟩) s k
  obtain ⟨x, hx⟩ := blockEvent_eq u c i
  exact ⟨by rw [hx]; rfl⟩

/-! ### Contacts (R391, R392, R394) -/

theorem redegrade_leaves_besidePair (s : State) : Leaves State.besidePair s s.redegrade := by
  have h := redegrade_safer s
  obtain ⟨w, d, hsaf, -⟩ := h.saf
  refine ⟨Prod.ext (h.regs _ (by decide) (by decide) (by decide) (not_recorderPort (by decide))) ?_⟩
  have hfield : s.redegrade.field = s.field := congrArg (fun u => u.field) h.beside
  have htb : s.redegrade.tb = s.tb := congrArg (fun u => u.tb) h.beside
  simp only [State.besidePair, hsaf, hfield, htb]

/-- What a pair formed again and the degraded conditions leave, read apart. -/
theorem besidePair_reads {s t : State} (h : Leaves State.besidePair s t) :
    t.reg Reg.SAF_PFLT = s.reg Reg.SAF_PFLT ∧ t.saf.soundEl = s.saf.soundEl ∧ t.saf.lev = s.saf.lev ∧ t.field = s.field := by
  obtain ⟨h1, h2⟩ := Prod.ext_iff.1 h.eq
  obtain ⟨h2, h3⟩ := Prod.ext_iff.1 h2
  obtain ⟨h3, h4⟩ := Prod.ext_iff.1 h3
  exact ⟨h1, h2, h3, (Prod.ext_iff.1 h4).1⟩

theorem contactChange_results {n : Fin 32} {level : Bool} {s : State} :
    let k := n.val % 16
    s.regB (Reg.SAF_PCFG k) 31 = true → bit s.field.raw n = level → bit s.saf.lev n ≠ level →
    s.regF (Reg.SAF_PCFG k) 23 16 * 100000 ≤ s.tb.el - mgetD s.field.rawEl n 0 →
    ∃ t, exec (.contactChange n level) s = .next t ∧ t.saf.lev = setBit s.saf.lev n level
      ∧ (s.regB Reg.SAF_PSTAT (16 + k) = false → s.contactBad k = false → s.contactBad (16 + k) = false →
          t.regB Reg.SAF_PSTAT k = ((bit t.saf.lev k != false) && (bit t.saf.lev (16 + k) != s.regB (Reg.SAF_PCFG k) 30))) := by
  intro k hon hraw hlev hheld
  have hguard : (s.regB (Reg.SAF_PCFG k) 31 && bit s.field.raw n.val == level
      && decide (s.regF (Reg.SAF_PCFG k) 23 16 * 100000 ≤ s.tb.el - mgetD s.field.rawEl n 0) && bit s.saf.lev n.val != level) = true := by
    rw [hon, hraw, decide_eq_true hheld, bne_iff_ne.2 hlev]
    simp
  obtain ⟨u, hu⟩ : ∃ u, u = s.updSaf fun x => { x with lev := setBit x.lev n level } := ⟨_, rfl⟩
  have hrun : exec (.contactChange n level) s = .next (u.evalPair k) := by
    rw [hu]; exact congrArg Host.Outcome.next (if_pos hguard)
  have hreg (a i : Nat) : u.regB a i = s.regB a i := by rw [hu]; rfl
  have hulev : u.saf.lev = setBit s.saf.lev n level := by rw [hu]; rfl
  obtain ⟨-, -, hkept, -⟩ := besidePair_reads (evalPair_leaves_besidePair u k)
  refine ⟨_, hrun, hkept.trans hulev, fun hdisc h1 h2 => ?_⟩
  have hpair := evalPair_sound (s := u) (Nat.mod_lt _ (by decide)) ((hreg _ _).trans hon) ((hreg _ _).trans hdisc) ((hreg _ _).trans h1)
    ((hreg _ _).trans h2)
  rw [hkept]
  rw [hreg] at hpair
  exact hpair

theorem discrepancyTimeout_results {k : Fin 16} {e : Nat} {s : State} (hmix : mget s.saf.mixEl k = some e)
    (hdue : s.regF (Reg.SAF_PCFG k) 8 0 * 1000000 ≤ s.tb.el - e) :
    ∃ t, exec (.discrepancyTimeout k) s = .next t ∧ t.regB Reg.SAF_PSTAT (16 + k) = true
      ∧ t.regB Reg.SAF_STK 2 = true ∧ t.reg Reg.SAF_NDISC = s.reg Reg.SAF_NDISC + 1 ∧ mget t.saf.mixEl k = none := by
  let u := s.updSaf fun x => { x with mixEl := mdel x.mixEl k.val, clearable := x.clearable.filter (fun q => q != k.val) }
  let v := (((u.setBitR Reg.SAF_PSTAT (16 + k)).setBitR Reg.SAF_STK 2).bump Reg.SAF_NDISC).record .safDisc k
    [k.val, b2n (bit u.saf.lev k.val), b2n (bit u.saf.lev (16 + k.val))]
  have hrun : exec (.discrepancyTimeout k) s = .next (v.blockEvent 7 k) := by
    refine congrArg Host.Outcome.next ?_
    simp only [hmix]
    exact if_pos hdue
  obtain ⟨x, hx⟩ := blockEvent_eq v 7 k
  have hsaf : (v.blockEvent 7 k).saf = u.saf := by rw [hx]; exact saf_record _ _ _ _
  refine ⟨_, hrun, ?_, ?_, ?_, ?_⟩
  · rw [regB, reg_blockEvent]
    simp (disch := lia) [v, State.bump, setBitR]
  · rw [regB, reg_blockEvent]
    simp (disch := lia) [v, State.bump, setBitR]
  · rw [reg_blockEvent]
    simp (disch := lia) [v, u, State.bump, setBitR, wd]
  · rw [hsaf]
    exact mget_mdel_same _ _

/-- R394: the soundness of a contact begins afresh. -/
def State.unsound (s : State) (n : Nat) : State := s.updSaf fun x => { x with soundEl := mdel x.soundEl n }

theorem contactFault_results {n : Fin 32} {s : State} :
    (s.regB (Reg.SAF_PCFG (n % 16)) 31 = true → s.contactBad n = false →
      (mgetD s.field.diag n 0 ≠ 0 ∨ s.regB (Reg.DIO_LINK (n / 16)) 31 = false) →
      ∃ t, exec (.contactFault n) s = .next t ∧ t.regB Reg.SAF_PFLT n = true ∧ mget t.saf.soundEl n = none ∧ t.field = s.field)
    ∧ (s.contactBad n = true → s.contactClean n = false →
      (∃ t, exec (.contactFault n) s = .next t ∧ t.regB Reg.SAF_PFLT n = true ∧ mget t.saf.soundEl n = none ∧ t.regs = s.regs)
      ∧ exec (.contactFaultClear n) s = .next s) := by
  refine ⟨fun hon hbad hreason => ?_, fun hbad hclean => ⟨⟨s.unsound n, ?_, hbad, mget_mdel_same _ _, rfl⟩, ?_⟩⟩
  · have hclean : ¬ s.contactClean n.val = true := by
      unfold State.contactClean
      rcases hreason with h | h <;> simp [h]
    let v := (s.unsound n).setBitR Reg.SAF_PFLT n
    have hrun : exec (.contactFault n) s = .next (v.evalPair (n % 16)).redegrade := by
      refine congrArg Host.Outcome.next ((if_neg hclean).trans (if_pos ?_))
      have hbad' : (s.unsound n).contactBad n = false := hbad
      have hon' : (s.unsound n).regB (Reg.SAF_PCFG (n % 16)) 31 = true := hon
      exact (congrArg₂ (· && !·) hon' hbad').trans rfl
    obtain ⟨hflt, hsound, -, hfield⟩ := besidePair_reads (.after (redegrade_leaves_besidePair _) (evalPair_leaves_besidePair v (n % 16)))
    refine ⟨_, hrun, (congrArg (bit · n.val) hflt).trans ((regB_setBitR _ n.isLt _ _ _).trans (if_pos ⟨rfl, rfl⟩)), ?_, hfield⟩
    rw [hsound]
    exact mget_mdel_same _ _
  · refine congrArg Host.Outcome.next ((if_neg (by simp [hclean])).trans (if_neg ?_))
    have hbad' : (s.unsound n).contactBad n = true := hbad
    have hidle : ((s.unsound n).regB (Reg.SAF_PCFG (n % 16)) 31 && !((s.unsound n).contactBad n)) = false := by rw [hbad']; simp
    exact ne_true_of_eq_false hidle
  · exact congrArg Host.Outcome.next (if_neg (by simp [hclean]))

theorem contactFaultClear_results {n : Fin 32} {e g : Nat} {s : State} (hbad : s.contactBad n = true) (hclean : s.contactClean n = true)
    (hsound : mget s.saf.soundEl n = some e) (hagree : mget s.saf.agreeEl (n % 16) = some g) (hlong : 100000000 ≤ s.tb.el - e)
    (hlong' : 100000000 ≤ s.tb.el - g) :
    ∃ t, exec (.contactFaultClear n) s = .next t ∧ t.regB Reg.SAF_PFLT n = false ∧ t.saf.lev = s.saf.lev := by
  let v := s.clrBitR Reg.SAF_PFLT n
  have hrun : exec (.contactFaultClear n) s = .next (v.evalPair (n % 16)).redegrade :=
    congrArg Host.Outcome.next (if_pos (by simp [hbad, hclean, hsound, hagree, hlong, hlong']))
  obtain ⟨hflt, -, hlev, -⟩ := besidePair_reads (.after (redegrade_leaves_besidePair _) (evalPair_leaves_besidePair v (n % 16)))
  exact ⟨_, hrun, (congrArg (bit · n.val) hflt).trans ((regB_clrBitR s n.isLt _ _ _).trans (if_pos ⟨rfl, rfl⟩)), hlev⟩

/-! ### Test windows and read-backs (R397 to R401) -/

theorem testWindowOpen_results {k : Fin 16} {s : State} (hout : s.isSafOut k = true) (hwin : mget s.saf.window k = none)
    (hdue : s.windowIndex k (mgetD s.saf.winT k 0) < s.windowIndex k s.tb.t) :
    ∃ t, exec (.testWindowOpen k) s = .next t ∧ mget t.saf.window k = some s.tb.el ∧ t.safOutOn k = false ∧ t.regs = s.regs := by
  let t := s.updSaf fun x => { x with window := mput x.window k.val s.tb.el, winT := mput x.winT k.val s.tb.t }
  have hopen : mget t.saf.window k = some s.tb.el := mget_mput_same _ _ _
  exact ⟨t, congrArg Host.Outcome.next (if_pos (by simp [hout, hwin, hdue])), hopen, by simp [State.safOutOn, hopen], rfl⟩

theorem testWindowEnd_results {k : Fin 16} {off : Bool} {e : Nat} {s : State} (hwin : mget s.saf.window k = some e)
    (hdue : s.regF (Reg.SAF_OCFG k) 24 16 * 1000 ≤ s.tb.el - e) :
    ∃ t, exec (.testWindowEnd k off) s = .next t ∧ mget t.saf.window k = none ∧ t.saf.waiton.contains k.val = false
      ∧ (s.hold = false ∨ off = true → t.regs = s.regs)
      ∧ (s.hold = true → off = false → s.regB Reg.SAF_OFLT k = false → t.regB Reg.SAF_OFLT k = true
          ∧ t.reg Reg.SAF_NTPFAIL = s.reg Reg.SAF_NTPFAIL + 1 ∧ t.regB Reg.SAF_STK 3 = true ∧ t.regB Reg.SAF_STAT k = false) := by
  obtain ⟨u, hu⟩ : ∃ u, u = s.updSaf fun x => { x with window := mdel x.window k.val, waiton := x.waiton.filter (fun q => q != k.val) } := ⟨_, rfl⟩
  have hrun : exec (.testWindowEnd k off) s = .next (if u.hold && !off then u.outputFault k 0 else u) := by
    refine congrArg Host.Outcome.next ?_
    simp only [hwin, hu]
    exact if_pos hdue
  have hclosed : mget u.saf.window k = none := by rw [hu]; exact mget_mdel_same _ _
  have hwait : u.saf.waiton.contains k.val = false := by rw [hu]; simp [State.updSaf]
  have hhold : u.hold = s.hold := by rw [hu]; rfl
  have hregs : u.regs = s.regs := by rw [hu]; rfl
  have hreg (a : Nat) : u.reg a = s.reg a := by rw [hu]; rfl
  clear hu
  obtain ⟨hflt, hcount, hstk, hstat, -, ⟨w, d, hsaf, hin⟩, -⟩ := outputFault_results u 0 k.isLt
  refine ⟨_, hrun, ?_, ?_, fun hno => ?_, fun hh hoff hnew => ?_⟩
  · split
    · rw [hsaf]; exact hclosed
    · exact hclosed
  · split
    · rw [hsaf]; exact hin k hwait
    · exact hwait
  · rw [if_neg (by rw [hhold]; rcases hno with h | h <;> simp [h])]
    exact hregs
  · rw [if_pos (by rw [hhold, hh, hoff]; rfl)]
    exact ⟨hflt, hcount.trans (congrArg (· + 1) (hreg _)), hstk, hstat⟩

theorem readbackFail_results {k : Fin 16} {s : State} (hhold : s.hold = true) (hout : s.isSafOut k = true) (hwin : mget s.saf.window k = none)
    (hnew : s.regB Reg.SAF_OFLT k = false) :
    ∃ t, exec (.readbackFail k (s.safOutOn k)) s = .next t ∧ t.regB Reg.SAF_OFLT k = true
      ∧ t.reg Reg.SAF_NTPFAIL = s.reg Reg.SAF_NTPFAIL + 1 ∧ t.regB Reg.SAF_STAT k = false
      ∧ (∀ f, f < 16 → (∀ q, s.partner k = some q → s.regB Reg.SAF_OFLT q = true) → s.funOn f = true →
          s.regB (Reg.SAF_FB f) (16 + k) = true ∨ (∃ q, s.partner k = some q ∧ s.regB (Reg.SAF_FB f) (16 + q) = true) → t.funSafe f = true) := by
  obtain ⟨hflt, hcount, -, hstat, -, -, hfuns⟩ := outputFault_results s (if s.safOutOn k then 1 else 2) k.isLt
  exact ⟨_, congrArg Host.Outcome.next (if_pos (by simp [hhold, hout, hwin])), hflt, hcount, hstat, hfuns hnew⟩

/-- Settles O43: contacts, windows and read-backs, one lemma each. -/
theorem safetyInputsAndOutputs : Obligations.SafetyInputsAndOutputs := by
  unfold Obligations.SafetyInputsAndOutputs
  exact ⟨fun _ _ _ => contactChange_results, fun _ _ _ => discrepancyTimeout_results, fun _ _ => contactFault_results.1,
    fun _ _ => contactFault_results.2, fun _ _ _ _ => contactFaultClear_results, fun _ _ => testWindowOpen_results,
    fun _ _ _ _ => testWindowEnd_results, fun _ _ => readbackFail_results⟩

end Sys2Proof.Machine
end

section
/-! PROOFS. Folds over numbered things, and bits gathered into a number: facts that the field groups and the recorder share. -/
namespace Sys2Proof.Machine

open State (setBitR clrBitR setRegF regB regF Leaves)

/-- What each member of a list establishes and every member keeps holds of each member after the fold. -/
theorem foldl_establishes_of_mem {α σ : Type} {f : σ → α → σ} (Q : α → σ → Prop) (l : List α) (s : σ) (hset : ∀ u, ∀ a ∈ l, Q a (f u a))
    (hkeep : ∀ u, ∀ a ∈ l, ∀ b, Q b u → Q b (f u a)) : ∀ a ∈ l, Q a (l.foldl f s) := by
  induction l generalizing s with
  | nil => exact fun a ha => absurd ha (by simp)
  | cons b t ih =>
    intro a ha
    rcases List.mem_cons.1 ha with rfl | ha
    · exact foldl_keeps (Q a) f t _ (hset s a (by simp)) fun u c hc hu => hkeep u c (List.mem_cons_of_mem _ hc) a hu
    · exact ih (f s b) (fun u c hc => hset u c (List.mem_cons_of_mem _ hc)) (fun u c hc => hkeep u c (List.mem_cons_of_mem _ hc)) a ha

/-- The number whose bit `k` says `p k`. -/
theorem testBit_gathered (p : Nat → Bool) (n : Nat) : (List.range n).foldl (fun m k => if p k then m + 2 ^ k else m) 0 < 2 ^ n
    ∧ ∀ k, k < n → ((List.range n).foldl (fun m k => if p k then m + 2 ^ k else m) 0).testBit k = p k := by
  induction n with
  | zero => exact ⟨by simp, fun k hk => absurd hk (Nat.not_lt_zero k)⟩
  | succ n ih =>
    rw [List.range_succ, List.foldl_append]
    obtain ⟨hlt, hbit⟩ := ih
    generalize (List.range n).foldl (fun m k => if p k then m + 2 ^ k else m) 0 = m at hlt hbit
    have hpow : 2 ^ (n + 1) = 2 ^ n + 2 ^ n := by omega
    have hclear : m.testBit n = false := Nat.testBit_lt_two_pow hlt
    cases hp : p n with
    | false =>
      refine ⟨by simp [hp]; omega, fun k hk => ?_⟩
      simp only [List.foldl_cons, List.foldl_nil, hp, Bool.false_eq_true, if_false]
      rcases Nat.lt_succ_iff_lt_or_eq.1 hk with h | rfl
      · exact hbit k h
      · rw [hclear, hp]
    | true =>
      refine ⟨by simp [hp]; omega, fun k hk => ?_⟩
      simp only [List.foldl_cons, List.foldl_nil, hp, if_true]
      rw [Nat.add_comm]
      rcases Nat.lt_succ_iff_lt_or_eq.1 hk with h | rfl
      · rw [Nat.testBit_two_pow_add_gt h, hbit k h]
      · rw [Nat.testBit_two_pow_add_eq, hclear, hp, Bool.not_false]

theorem bit_gathered (p : Nat → Bool) {n k : Nat} (hn : n ≤ 32) (hk : k < n) :
    bit (wd ((List.range n).foldl (fun m k => if p k then m + 2 ^ k else m) 0)) k = p k := by
  obtain ⟨hlt, hbit⟩ := testBit_gathered p n
  have hfit : (List.range n).foldl (fun m k => if p k then m + 2 ^ k else m) 0 < 2 ^ 32 :=
    Nat.lt_of_lt_of_le hlt (Nat.pow_le_pow_right (by decide) hn)
  rw [bit, wd, BitVec.toNat_ofNat, Nat.mod_eq_of_lt hfit, hbit k hk]

theorem mget_map_range {α : Type} (f : Nat → α) {n k : Nat} (h : k < n) : mget ((List.range n).map fun c => (c, f c)) k = some (f k) := by
  have hgen : ∀ (m d : Nat), d ≤ k → k < d + m → mget ((List.range' d m).map fun c => (c, f c)) k = some (f k) := by
    intro m
    induction m with
    | zero => exact fun d h1 h2 => by omega
    | succ m ih =>
      intro d h1 h2
      rw [List.range'_succ, List.map_cons, mget]
      split
      · next he => rw [he]
      · exact ih (d + 1) (by omega) (by omega)
  rw [List.range_eq_range']
  exact hgen n 0 (by omega) (by omega)

/-! ### Bits of a port, put one by one -/

theorem regB_setBitR_other (s : State) {a b : Nat} (i j : Nat) (h : b ≠ a) : (s.setBitR a i).regB b j = s.regB b j :=
  congrArg (bit · j) (State.reg_orBits_ne s _ h)

theorem regB_putBitR_same (s : State) {a i : Nat} (hi : i < 32) (v : Bool) : (s.putBitR a i v).regB a i = v :=
  (regB_putBitR s hi _ _ _ _).trans (if_pos ⟨rfl, rfl⟩)

theorem regB_putBitR_other (s : State) {a b i j : Nat} (hi : i < 32) (v : Bool) (h : b = a → j ≠ i) : (s.putBitR a i v).regB b j = s.regB b j :=
  (regB_putBitR s hi _ _ _ _).trans (if_neg fun hp => h hp.1 hp.2)

end Sys2Proof.Machine
end

section
/-! PROOFS. The high-side outputs and the current loops (R433 to R437, R440); then the statement `Obligations.OutputsAndLoops`. -/
namespace Sys2Proof.Machine

open State (setBitR clrBitR setRegF regB regF Leaves)

theorem sameRegs_widen {s t : State} {l m : List Nat} (h : sameRegs s t l) (hl : ∀ a ∈ l, a ∈ m) : sameRegs s t m :=
  fun a ha hr => h a (fun hm => ha (hl a hm)) hr

theorem sameRegs_clrBitR (s : State) (a i : Nat) : sameRegs s (s.clrBitR a i) [a] := sameRegs_setReg s a _

theorem sameRegs_putBitR (s : State) (a i : Nat) (b : Bool) : sameRegs s (s.putBitR a i b) [a] := fun _ h _ =>
  reg_putBitR_ne s i b (List.ne_of_not_mem_cons h)

@[simp] theorem field_putBitR (s : State) (a i : Nat) (b : Bool) : (s.putBitR a i b).field = s.field := by cases b <;> rfl

/-! ### Reports of the outputs (R434, R435) -/

theorem outReport_results (s : State) (k : Fin 16) {what : Nat} (h : what ≤ 2) :
    (s.outReport k what).regB (Reg.DIO_ODIAG k) (31 - what) = true ∧ (s.outReport k what).field = s.field ∧ (s.outReport k what).tb = s.tb
      ∧ sameRegs s (s.outReport k what) [Reg.DIO_ODIAG k, Reg.DIO_STK] := by
  have hmark : (s.setBitR (Reg.DIO_ODIAG k) (31 - what)).regB (Reg.DIO_ODIAG k) (31 - what) = true :=
    (regB_setBitR s (by omega) _ _ _).trans (if_pos ⟨rfl, rfl⟩)
  have hrest : sameRegs s (s.setBitR (Reg.DIO_ODIAG k) (31 - what)) [Reg.DIO_ODIAG k, Reg.DIO_STK] :=
    sameRegs_widen (sameRegs_setBitR s _ _) (by simp)
  unfold State.outReport
  extract_lets d sound
  split
  · next hset => exact ⟨hset, rfl, rfl, sameRegs_refl s _⟩
  split
  · refine ⟨?_, field_record _ _ _ _, tb_record _ _ _ _, sameRegs_trans hrest
      (sameRegs_trans (sameRegs_widen (sameRegs_setBitR _ _ _) (by simp)) (sameRegs_record _ _ _ _ _))⟩
    rw [regB, reg_record_outside _ _ _ _ (by lia)]
    exact (regB_setBitR_other _ _ _ (by lia)).trans hmark
  · exact ⟨hmark, rfl, rfl, hrest⟩

/-- R435: an output with a reported overload, overtemperature or stage fault is off. -/
theorem outDriven_of_fault {s : State} {k : Nat} (h : s.regB (Reg.DIO_ODIAG k) 31 = true ∨ s.regB (Reg.DIO_ODIAG k) 30 = true
    ∨ s.field.railLow = true) : s.outDriven k = false := by
  unfold State.outDriven
  rcases h with h | h | h <;> simp [h]

theorem outputOverload_results {k : Fin 16} {s : State} (h : s.regB (Reg.DIO_OCFG k) 31 = true ∨ s.isSafOut k = true) :
    ∃ t, exec (.outputOverload k) s = .next t ∧ t.regB (Reg.DIO_ODIAG k) 31 = true ∧ t.outDriven k = false ∧ mget t.field.ovlEl k = some s.tb.el
        ∧ sameRegs s t [Reg.DIO_ODIAG k, Reg.DIO_STK] := by
  obtain ⟨hmark, -, htb, hregs⟩ := outReport_results s k (what := 0) (by decide)
  refine ⟨_, congrArg Host.Outcome.next (if_pos (by simpa using h)), hmark, outDriven_of_fault (.inl hmark), ?_, hregs⟩
  exact mget_mput_same _ _ _

theorem overloadRetry_results {k : Fin 16} {s : State} {e : Nat} (hovl : s.regB (Reg.DIO_ODIAG k) 31 = true)
    (hauto : s.regB (Reg.DIO_OCFG k) 27 = true) (hel : mget s.field.ovlEl k = some e) (hdue : 1000000000 ≤ s.tb.el - e) :
    ∃ t, exec (.overloadRetry k) s = .next t ∧ t.regB (Reg.DIO_ODIAG k) 31 = false ∧ mget t.field.ovlEl k = none
      ∧ sameRegs s t [Reg.DIO_ODIAG k] := by
  have hsince : mgetD s.field.ovlEl k 0 = e := by simp [mgetD, hel]
  exact ⟨_, congrArg Host.Outcome.next (if_pos (by simp [hovl, hauto, hsince, hdue])), (regB_clrBitR s (by decide) _ _ _).trans (if_pos ⟨rfl, rfl⟩),
    mget_mdel_same _ _, sameRegs_clrBitR s _ _⟩

theorem outputOvertemp_results {k : Fin 16} {s : State} {tj : Int} :
    (165 ≤ tj → ∃ t, exec (.outputOvertemp k tj) s = .next t ∧ t.regB (Reg.DIO_ODIAG k) 30 = true ∧ t.outDriven k = false)
    ∧ (145 ≤ tj → tj < 165 → exec (.outputOvertemp k tj) s = .next s)
    ∧ (tj < 145 → ∃ t, exec (.outputOvertemp k tj) s = .next t ∧ t.regB (Reg.DIO_ODIAG k) 30 = false ∧ sameRegs s t [Reg.DIO_ODIAG k]) := by
  obtain ⟨hmark, -⟩ := outReport_results s k (what := 1) (by decide)
  exact ⟨fun h => ⟨_, congrArg Host.Outcome.next (if_pos h), hmark, outDriven_of_fault (.inr (.inl hmark))⟩,
    fun h1 h2 => congrArg Host.Outcome.next ((if_neg (by omega)).trans (if_neg (by omega))),
    fun h => ⟨_, congrArg Host.Outcome.next ((if_neg (by omega)).trans (if_pos h)), (regB_clrBitR s (by decide) _ _ _).trans (if_pos ⟨rfl, rfl⟩),
      sameRegs_clrBitR s _ _⟩⟩

theorem outputOpenWire_results {k : Fin 16} {s : State} {mv : Nat} (hon : s.regB (Reg.DIO_OCFG k) 29 = true) (hoff : s.outDriven k = false) :
    (2000 < mv → ∃ t, exec (.outputOpenWire k mv) s = .next t ∧ t.regB (Reg.DIO_ODIAG k) 29 = true)
    ∧ (mv ≤ 2000 → ∃ t, exec (.outputOpenWire k mv) s = .next t ∧ t.regB (Reg.DIO_ODIAG k) 29 = false ∧ sameRegs s t [Reg.DIO_ODIAG k]) := by
  have hrun : (s.regB (Reg.DIO_OCFG k) 29 && !(s.outDriven k)) = true := by simp [hon, hoff]
  exact ⟨fun h => ⟨_, congrArg Host.Outcome.next ((if_pos hrun).trans (if_pos h)), (outReport_results s k (what := 2) (by decide)).1⟩,
    fun h => ⟨_, congrArg Host.Outcome.next ((if_pos hrun).trans (if_neg (by omega))), (regB_clrBitR s (by decide) _ _ _).trans (if_pos ⟨rfl, rfl⟩),
      sameRegs_clrBitR s _ _⟩⟩

/-! ### Overloads cleared by a write (R434) -/

/-- R434: the latched overload of one output cleared. -/
def State.clearOverload (s : State) (k : Nat) : State :=
  (s.clrBitR (Reg.DIO_ODIAG k) 31).updField fun x => { x with ovlEl := mdel x.ovlEl k }

theorem orstWrite_eq (s : State) (v : Word) :
    s.orstWrite v = (List.range 16).foldl (fun s k => if bit v k then s.clearOverload k else s) s := rfl

theorem clearOverload_ne (s : State) {k q : Nat} (h : k ≠ q) : (s.clearOverload q).reg (Reg.DIO_ODIAG k) = s.reg (Reg.DIO_ODIAG k)
    ∧ mget (s.clearOverload q).field.ovlEl k = mget s.field.ovlEl k := ⟨State.reg_setReg_ne s _ (by lia), mget_mdel_ne _ h⟩

theorem orstWrite_clears (s : State) {v : Word} {k : Nat} (hk : k < 16) (hv : bit v k = true) :
    (s.orstWrite v).regB (Reg.DIO_ODIAG k) 31 = false ∧ mget (s.orstWrite v).field.ovlEl k = none := by
  rw [orstWrite_eq]
  refine foldl_establishes (fun (k : Nat) (u : State) => bit v k = true → u.regB (Reg.DIO_ODIAG k) 31 = false ∧ mget u.field.ovlEl k = none)
    (List.range 16) s (fun u q _ hq => ?_) (fun u q j hu hj => ?_) k (List.mem_range.2 hk) hv
  · rw [if_pos hq]
    exact ⟨(regB_clrBitR u (by decide) _ _ _).trans (if_pos ⟨rfl, rfl⟩), mget_mdel_same _ _⟩
  · by_cases hjq : j = q
    · subst hjq
      rw [if_pos hj]
      exact ⟨(regB_clrBitR u (by decide) _ _ _).trans (if_pos ⟨rfl, rfl⟩), mget_mdel_same _ _⟩
    · split
      · exact ⟨(congrArg (bit · 31) (clearOverload_ne u hjq).1).trans (hu hj).1, (clearOverload_ne u hjq).2.trans (hu hj).2⟩
      · exact hu hj

theorem orstWrite_leaves (s : State) (v : Word) : sameRegs s (s.orstWrite v) ((List.range 16).map Reg.DIO_ODIAG)
    ∧ ∀ k, bit v k = false → (s.orstWrite v).reg (Reg.DIO_ODIAG k) = s.reg (Reg.DIO_ODIAG k) := by
  rw [orstWrite_eq]
  refine ⟨foldl_keeps (sameRegs s · _) _ _ s (sameRegs_refl s _) fun u q hq hu => ?_, fun k hv =>
    foldl_keeps (fun u : State => u.reg (Reg.DIO_ODIAG k) = s.reg (Reg.DIO_ODIAG k)) _ _ s rfl fun u q _ hu => ?_⟩
  · split
    · exact sameRegs_trans hu (sameRegs_widen (sameRegs_clrBitR u _ _) fun a ha => by
        obtain rfl := List.mem_singleton.1 ha
        exact List.mem_map.2 ⟨q, hq, rfl⟩)
    · exact hu
  · split
    · next hq => exact (clearOverload_ne u (fun h => by rw [h, hq] at hv; cases hv)).1.trans hu
    · exact hu

theorem dioOrst_results {p : Party} {v : Word} {s : State} (hturn : s.turnOf p = true) : ∃ t, exec (.dioOrst p v) s = .next t
      ∧ (∀ k, k < 16 → (bit v k = true → t.regB (Reg.DIO_ODIAG k) 31 = false ∧ mget t.field.ovlEl k = none)
          ∧ (bit v k = false → t.reg (Reg.DIO_ODIAG k) = s.reg (Reg.DIO_ODIAG k)))
      ∧ sameRegs s t ((List.range 16).map Reg.DIO_ODIAG) := by
  obtain ⟨hsame, hkept⟩ := orstWrite_leaves (s.turned p) v
  exact ⟨_, congrArg Host.Outcome.next (byParty_of_turnOf hturn _), fun k hk => ⟨orstWrite_clears (s.turned p) hk, hkept k⟩, hsame⟩

/-! ### Supplies (R437) -/

theorem fieldSupplyLow_results {b : Fin 2} {mv : Nat} {s : State} :
    (mv < 18000 → ∃ t, exec (.fieldSupplyLow b mv) s = .next t ∧ t.regB Reg.DIO_STK (7 + b) = true ∧ sameRegs s t [Reg.DIO_STK])
    ∧ (18000 ≤ mv → exec (.fieldSupplyLow b mv) s = .next s) :=
  ⟨fun h => ⟨_, congrArg Host.Outcome.next (if_pos h),
      (congrArg (bit · (7 + b.val)) (reg_record_outside _ _ _ _ (by lia))).trans ((regB_setBitR s (by omega) _ _ _).trans (if_pos ⟨rfl, rfl⟩)),
      sameRegs_trans (sameRegs_setBitR s _ _) (sameRegs_record _ _ _ _ _)⟩,
    fun h => congrArg Host.Outcome.next (if_neg (by omega))⟩

/-- R437: the stage fault of loop `c` reported or withdrawn. -/
def State.loopStage (s : State) (low : Bool) (c : Nat) : State :=
  (if low && !(s.regB Reg.CLO_CSTAT (24 + c)) then s.setBitR Reg.CLO_STK (24 + c) else s).putBitR Reg.CLO_CSTAT (24 + c) low

/-- R437: the stage faults of the outputs follow the rail. -/
def State.outputStages (s : State) (low : Bool) : State := (List.range 16).foldl (fun s k => s.putBitR (Reg.DIO_ODIAG k) 28 low) s

/-- R437: the stage faults of the loops follow the rail. -/
def State.loopStages (s : State) (low : Bool) : State := (List.range 8).foldl (fun s c => s.loopStage low c) s

theorem loopStage_leaves (s : State) (low : Bool) {c : Nat} (hc : c < 8) : (s.loopStage low c).field = s.field
    ∧ (∀ a i, a ≠ Reg.CLO_STK → (a = Reg.CLO_CSTAT → i ≠ 24 + c) → (s.loopStage low c).regB a i = s.regB a i)
    ∧ (s.loopStage low c).regB Reg.CLO_CSTAT (24 + c) = low := by
  unfold State.loopStage
  refine ⟨?_, fun a i h1 h2 => ?_, regB_putBitR_same _ (by omega) low⟩
  · rw [field_putBitR]
    split <;> rfl
  · rw [regB_putBitR_other _ (by omega) low h2]
    split
    · exact regB_setBitR_other s _ _ h1
    · rfl

theorem outputStages_results (s : State) (low : Bool) : (s.outputStages low).field = s.field
    ∧ ∀ k, k < 16 → (s.outputStages low).regB (Reg.DIO_ODIAG k) 28 = low := by
  refine ⟨foldl_keeps (fun u : State => u.field = s.field) _ _ s rfl fun u k _ hu => (field_putBitR u _ _ _).trans hu, fun k hk => ?_⟩
  refine foldl_establishes (fun k u => State.regB u (Reg.DIO_ODIAG k) 28 = low) (List.range 16) s
    (fun u q _ => regB_putBitR_same u (by decide) low) (fun u q j hu => ?_) k (List.mem_range.2 hk)
  exact (regB_putBitR u (by decide) _ _ _ _).trans (ite_eq_left_iff.2 fun _ => hu)

theorem loopStages_results (s : State) (low : Bool) : (s.loopStages low).field = s.field
    ∧ (∀ k, k < 16 → (s.loopStages low).regB (Reg.DIO_ODIAG k) 28 = s.regB (Reg.DIO_ODIAG k) 28)
    ∧ ∀ c, c < 8 → (s.loopStages low).regB Reg.CLO_CSTAT (24 + c) = low := by
  refine ⟨foldl_keeps (fun u : State => u.field = s.field) _ _ s rfl fun u c hc hu => ?_, fun k hk => ?_, fun c hc => ?_⟩
  · exact (loopStage_leaves u low (List.mem_range.1 hc)).1.trans hu
  · refine foldl_keeps (fun u : State => u.regB (Reg.DIO_ODIAG k) 28 = s.regB (Reg.DIO_ODIAG k) 28) _ _ s rfl fun u c hc hu => ?_
    exact ((loopStage_leaves u low (List.mem_range.1 hc)).2.1 _ _ (by lia) fun h => absurd h (by lia)).trans hu
  · refine foldl_establishes_of_mem (fun c u => State.regB u Reg.CLO_CSTAT (24 + c) = low) (List.range 8) s
      (fun u q hq => (loopStage_leaves u low (List.mem_range.1 hq)).2.2) (fun u q hq j hu => ?_) c (List.mem_range.2 hc)
    by_cases hj : j = q
    · rw [hj]
      exact (loopStage_leaves u low (List.mem_range.1 hq)).2.2
    · exact ((loopStage_leaves u low (List.mem_range.1 hq)).2.1 _ _ (by decide) fun _ => by omega).trans hu

theorem fieldRailLow_results {mv : Nat} {s : State} : ∃ t, exec (.fieldRailLow mv) s = .next t ∧ t.field.railLow = decide (mv < 14000)
      ∧ (∀ k, k < 16 → t.regB (Reg.DIO_ODIAG k) 28 = decide (mv < 14000) ∧ (mv < 14000 → t.outDriven k = false))
      ∧ (∀ c, c < 8 → t.regB Reg.CLO_CSTAT (24 + c) = decide (mv < 14000) ∧ (mv < 14000 → t.loopCurrent c = 0)) := by
  let low := decide (mv < 14000)
  let u := s.updField fun x => { x with railLow := low }
  obtain ⟨hofield, hout⟩ := outputStages_results u low
  obtain ⟨hlfield, hdiag, hloop⟩ := loopStages_results (u.outputStages low) low
  have hrail : ((u.outputStages low).loopStages low).field.railLow = low := congrArg FieldIo.railLow (hlfield.trans hofield)
  refine ⟨(u.outputStages low).loopStages low, rfl, hrail, fun k hk => ⟨(hdiag k hk).trans (hout k hk), fun h => ?_⟩,
    fun c hc => ⟨hloop c hc, fun h => ?_⟩⟩
  · exact outDriven_of_fault (.inr (.inr (hrail.trans (decide_eq_true h))))
  · have hlow : low = true := decide_eq_true h
    rw [State.loopCurrent, hrail, hlow, Bool.not_true, Bool.and_false, if_neg Bool.false_ne_true]

/-! ### Loops (R440) -/

theorem loopReport_results (s : State) (c : Nat) {pos : Nat} (n : RecName) (h : pos < 32) :
    (s.loopReport c pos n).regB Reg.CLO_CSTAT pos = true ∧ sameRegs s (s.loopReport c pos n) [Reg.CLO_CSTAT, Reg.CLO_STK] := by
  have hmark : (s.setBitR Reg.CLO_CSTAT pos).regB Reg.CLO_CSTAT pos = true := (regB_setBitR s h _ _ _).trans (if_pos ⟨rfl, rfl⟩)
  have hrest : sameRegs s (s.setBitR Reg.CLO_CSTAT pos) [Reg.CLO_CSTAT, Reg.CLO_STK] := sameRegs_widen (sameRegs_setBitR s _ _) (by simp)
  unfold State.loopReport
  extract_lets sound u
  split
  · exact ⟨(congrArg (bit · pos) (reg_record_outside _ _ _ _ (by decide))).trans ((regB_setBitR_other _ _ _ (by decide)).trans hmark),
      sameRegs_trans hrest (sameRegs_trans (sameRegs_widen (sameRegs_setBitR _ _ _) (by simp)) (sameRegs_record _ _ _ _ _))⟩
  · exact ⟨hmark, hrest⟩

theorem loopReports {c : Fin 8} {s : State} (hrun : s.loopChecks = true) :
    (s.loopOpenNow c = true → ∃ t, exec (.loopOpen c) s = .next t ∧ t.regB Reg.CLO_CSTAT (8 + c) = true
        ∧ sameRegs s t [Reg.CLO_CSTAT, Reg.CLO_STK])
    ∧ (s.loopOpenNow c = false → s.loopOffNow c = true → ∃ t, exec (.loopCompliance c) s = .next t
        ∧ t.regB Reg.CLO_CSTAT c = true ∧ sameRegs s t [Reg.CLO_CSTAT, Reg.CLO_STK]) :=
  ⟨fun ho => ⟨_, congrArg Host.Outcome.next (if_pos (by simp [hrun, ho])), loopReport_results s c _ (by omega)⟩,
    fun ho hoff => ⟨_, congrArg Host.Outcome.next (if_pos (by simp [hrun, ho, hoff])), loopReport_results s c _ (by omega)⟩⟩

/-- A bit of CLO_CSTAT withdrawn where it stands. -/
def State.withdraw (s : State) (i : Nat) : State := if s.regB Reg.CLO_CSTAT i then s.clrBitR Reg.CLO_CSTAT i else s

theorem withdraw_results (s : State) {i : Nat} (hi : i < 32) : (s.withdraw i).regB Reg.CLO_CSTAT i = false
    ∧ (∀ j, j ≠ i → (s.withdraw i).regB Reg.CLO_CSTAT j = s.regB Reg.CLO_CSTAT j) ∧ sameRegs s (s.withdraw i) [Reg.CLO_CSTAT] := by
  unfold State.withdraw
  split
  · exact ⟨(regB_clrBitR s hi _ _ _).trans (if_pos ⟨rfl, rfl⟩), fun j hj => (regB_clrBitR s hi _ _ _).trans (if_neg fun h => hj h.2),
      sameRegs_clrBitR s _ _⟩
  · next h => exact ⟨Bool.eq_false_iff.2 h, fun _ _ => rfl, sameRegs_refl s _⟩

theorem loopOk_results {c : Fin 8} {s : State} (hbad : s.regB Reg.CLO_CSTAT (8 + c) = true ∨ s.regB Reg.CLO_CSTAT c = true)
    (hopen : s.loopOpenNow c = false) (hoff : s.loopOffNow c = false) :
    ∃ t, exec (.loopOk c) s = .next t ∧ t.regB Reg.CLO_CSTAT (8 + c) = false ∧ t.regB Reg.CLO_CSTAT c = false
      ∧ sameRegs s t [Reg.CLO_CSTAT] := by
  obtain ⟨h1, hother, hsame⟩ := withdraw_results s (i := 8 + c) (by omega)
  obtain ⟨h2, hother', hsame'⟩ := withdraw_results (s.withdraw (8 + c)) (i := c) (by omega)
  have hkept : (s.withdraw (8 + c)).regB Reg.CLO_CSTAT c = s.regB Reg.CLO_CSTAT c := hother c (by omega)
  refine ⟨((s.withdraw (8 + c)).withdraw c).record .cloLoopOk c [c.val], ?_, ?_, ?_, ?_⟩
  · have hguard : ((s.regB Reg.CLO_CSTAT (8 + c.val) && !(s.loopOpenNow c.val)) || (s.regB Reg.CLO_CSTAT c.val && !(s.loopOffNow c.val))) = true := by
      rw [hopen, hoff]
      simpa using hbad
    refine congrArg Host.Outcome.next ((if_pos hguard).trans ?_)
    rw [State.withdraw, hkept, State.withdraw, hopen, hoff]
    simp
  · exact (congrArg (bit · (8 + c.val)) (reg_record_outside _ _ _ _ (by decide))).trans ((hother' _ (by omega)).trans h1)
  · exact (congrArg (bit · c.val) (reg_record_outside _ _ _ _ (by decide))).trans h2
  · exact sameRegs_trans (sameRegs_trans hsame hsame') (sameRegs_record _ _ _ _ _)

/-- Settles O46: outputs, supplies and loops, one lemma each. -/
theorem outputsAndLoops : Obligations.OutputsAndLoops := by
  unfold Obligations.OutputsAndLoops
  exact ⟨fun _ _ => ⟨outputOverload_results, fun _ => overloadRetry_results, fun _ => outputOvertemp_results, fun _ => outputOpenWire_results⟩,
    fun _ _ _ => dioOrst_results, fun _ _ _ => fieldSupplyLow_results, fun _ _ => fieldRailLow_results,
    fun _ _ => ⟨fun h => (loopReports h).1, fun h => (loopReports h).2, loopOk_results⟩⟩

end Sys2Proof.Machine
end

section
/-! PROOFS. The field groups (R418 to R432): what a contact's report leaves of the field side, what a report of an input, a channel of an
up-frame and the marking of a link do. -/
namespace Sys2Proof.Machine

open State (setBitR clrBitR setRegF regB regF Leaves)

/-! ### A contact's report leaves the field side (R394) -/

/-- A port of the field groups. -/
def ioPort (q : Nat × Word) : Bool := decide (0x6000 ≤ q.1) && decide (q.1 < 0x6800)

/-- The field side: its ports and its store, and the unit's time. -/
def State.ioSide (u : State) : SMap Word × FieldIo × Timebase := (u.regs.filter ioPort, u.field, u.tb)

theorem setReg_leaves_ioSide (s : State) {a : Nat} (v : Word) (h : a < 0x6000) : Leaves State.ioSide s (s.setReg a v) :=
  ⟨Prod.ext (filter_mput ioPort (fun _ => by simp [ioPort]; omega) _) rfl⟩

theorem blockEvent_leaves_ioSide (s : State) (cls idx : Nat) : Leaves State.ioSide s (s.blockEvent cls idx) := by
  obtain ⟨x, hx⟩ := blockEvent_eq s cls idx
  exact ⟨by rw [hx]; rfl⟩

theorem ioSide_of_unsaf {s t : State} (h : t.unsaf = s.unsaf) : Leaves State.ioSide s t := by
  have hregs (u : State) : u.regs.filter ioPort = u.unsaf.regs.filter ioPort := by
    rw [State.unsaf, List.filter_filter]
    refine List.filter_congr fun q _ => ?_
    by_cases hq : 0x6000 ≤ q.1 ∧ q.1 < 0x6800
    · have hown : ownPort q = true := ownPort_eq_true (a := q.1) (not_recorderPort (by omega)) q.2
      have hsaf : safPort q.1 = false := by simp [safPort]; omega
      simp [plainPort, hown, hsaf]
    · have hio : ioPort q = false := by simp only [ioPort]; simp; omega
      rw [hio, Bool.false_and]
  have hfield : t.field = s.field := congrArg (fun u => u.field) h
  have htb : t.tb = s.tb := congrArg (fun u => u.tb) h
  exact ⟨by simp only [State.ioSide, hregs t, h, ← hregs s, hfield, htb]⟩

theorem evalPair_leaves_ioSide (s : State) (k : Nat) : Leaves State.ioSide s (s.evalPair k) :=
  evalPair_leaves (fun u v => setReg_leaves_ioSide u v (by decide)) (fun u _ => ⟨(setReg_leaves_ioSide u _ (by decide)).eq⟩)
    blockEvent_leaves_ioSide (fun _ _ _ => ⟨rfl⟩) s k

theorem contactFault_leaves_ioSide (s : State) (n : Nat) : Leaves State.ioSide s (s.contactFault n) := by
  have hbad (u : State) : Leaves State.ioSide u (u.setBitR Reg.SAF_PFLT n) := ⟨(setReg_leaves_ioSide u _ (by decide)).eq⟩
  refine .after (s := s) (t := s.unsound n) (.ite ?_ (.refl _)) ⟨rfl⟩
  exact .after (ioSide_of_unsaf (unsaf_redegrade _)) (.after (evalPair_leaves_ioSide _ _) (hbad _))

theorem contactSound_leaves_ioSide (s : State) (n : Nat) : Leaves State.ioSide s (s.contactSound n) := .ite ⟨rfl⟩ (.refl s)

theorem regs_contactSound (s : State) (n : Nat) : (s.contactSound n).regs = s.regs := by
  unfold State.contactSound
  split <;> rfl

theorem ioSide_reads {s t : State} (h : Leaves State.ioSide s t) :
    (∀ a, 0x6000 ≤ a → a < 0x6800 → t.reg a = s.reg a) ∧ t.field = s.field ∧ t.tb = s.tb := by
  obtain ⟨hregs, hrest⟩ := Prod.ext_iff.1 h.eq
  obtain ⟨hfield, htb⟩ := Prod.ext_iff.1 hrest
  refine ⟨fun a h1 h2 => ?_, hfield, htb⟩
  have hport : ∀ w, ioPort (a, w) = true := fun _ => by simp [ioPort, h1, h2]
  have hregs : t.regs.filter ioPort = s.regs.filter ioPort := hregs
  simp only [State.reg, mgetD]
  rw [← mget_filter ioPort hport, hregs, mget_filter ioPort hport]

/-! ### The inputs as they now read (R430) -/

theorem refreshInputs_leaves (s : State) : s.refreshInputs.field = s.field ∧ s.refreshInputs.tb = s.tb
    ∧ ∀ a, a ≠ Reg.DIO_INVL → a ≠ Reg.DIO_INL → a ≠ Reg.DIO_ILIVE → s.refreshInputs.reg a = s.reg a :=
  ⟨rfl, rfl, fun _ h1 h2 h3 => (State.reg_setReg_ne _ _ h3).trans ((State.reg_setReg_ne _ _ h2).trans (State.reg_setReg_ne _ _ h1))⟩

theorem bit_and (v w : Word) (i : Nat) : bit (v &&& w) i = (bit v i && bit w i) := by simp [bit]

/-- R430: an invalid input shows neither validity nor level. -/
theorem refreshInputs_invalid (s : State) {n : Nat} (hn : n < 32) (h : s.inputValid n = false) :
    s.refreshInputs.regB Reg.DIO_INVL n = false ∧ s.refreshInputs.regB Reg.DIO_INL n = false := by
  have hv := (bit_gathered s.inputValid (Nat.le_refl 32) hn).trans h
  have hinvl : s.refreshInputs.reg Reg.DIO_INVL = wd ((List.range 32).foldl (fun m n => if s.inputValid n then m + 2 ^ n else m) 0) :=
    (State.reg_setReg_ne _ _ (by decide)).trans ((State.reg_setReg_ne _ _ (by decide)).trans (State.reg_setReg_same _ _ _))
  have hinl : s.refreshInputs.reg Reg.DIO_INL = s.field.acc &&& wd ((List.range 32).foldl (fun m n => if s.inputValid n then m + 2 ^ n else m) 0) :=
    (State.reg_setReg_ne _ _ (by decide)).trans (State.reg_setReg_same _ _ _)
  exact ⟨by rw [regB, hinvl]; exact hv, by rw [regB, hinl, bit_and, hv, Bool.and_false]⟩

/-! ### The report of an input (R429, R430) -/

/-- R430: the report of input `n` marked in its ports. -/
def State.diagMarked (s : State) (n d : Nat) : State :=
  ((s.updField fun x => { x with diag := mput x.diag n d }).putBitR Reg.DIO_IWB n (d == 1)).putBitR Reg.DIO_ISC n (decide (2 ≤ d))

/-- R429: the report of a sound input that is no longer sound noted in DIO_STK and recorded. -/
def State.diagNoted (s : State) (n d : Nat) : State :=
  if mgetD s.field.diag n 0 ≠ 0 then s.diagMarked n d
  else if d = 1 then ((s.diagMarked n d).setBitR Reg.DIO_STK 2).record .dioWirebreak n [n]
  else ((s.diagMarked n d).setBitR Reg.DIO_STK 3).record .dioShort n [n]

theorem setDiag_sound (s : State) {n : Nat} (h : mgetD s.field.diag n 0 ≠ 0) :
    s.setDiag n 0 = ((s.diagMarked n 0).contactSound n).refreshInputs := if_neg (Ne.symm h)

theorem setDiag_fault (s : State) {n d : Nat} (h : d ≠ mgetD s.field.diag n 0) (hd : d ≠ 0) :
    s.setDiag n d = ((s.diagNoted n d).contactFault n).refreshInputs := by
  unfold State.setDiag
  rw [if_neg h, State.diagNoted]
  simp only [hd, if_false]
  rfl

theorem diagMarked_results (s : State) {n : Nat} (d : Nat) (hn : n < 32) : (s.diagMarked n d).regB Reg.DIO_IWB n = (d == 1)
    ∧ (s.diagMarked n d).regB Reg.DIO_ISC n = decide (2 ≤ d) ∧ (s.diagMarked n d).field = { s.field with diag := mput s.field.diag n d }
    ∧ ∀ a, a ≠ Reg.DIO_IWB → a ≠ Reg.DIO_ISC → (s.diagMarked n d).reg a = s.reg a := by
  refine ⟨(regB_putBitR_other _ hn _ fun h => absurd h (by decide)).trans (regB_putBitR_same _ hn _), regB_putBitR_same _ hn _, ?_,
    fun a h1 h2 => (reg_putBitR_ne _ _ _ h2).trans (reg_putBitR_ne _ _ _ h1)⟩
  simp only [State.diagMarked, field_putBitR, State.updField_field]

theorem diagNoted_results (s : State) {n : Nat} (d : Nat) (hn : n < 32) : (s.diagNoted n d).regB Reg.DIO_IWB n = (d == 1)
    ∧ (s.diagNoted n d).regB Reg.DIO_ISC n = decide (2 ≤ d) ∧ (s.diagNoted n d).field = { s.field with diag := mput s.field.diag n d }
    ∧ (∀ a, a ≠ Reg.DIO_IWB → a ≠ Reg.DIO_ISC → a ≠ Reg.DIO_STK → a < 0x8000 → (s.diagNoted n d).reg a = s.reg a)
    ∧ (mgetD s.field.diag n 0 = 0 → (s.diagNoted n d).regB Reg.DIO_STK (if d = 1 then 2 else 3) = true) := by
  obtain ⟨hwb, hsc, hfield, hreg⟩ := diagMarked_results s d hn
  have hnote (i : Nat) (hi : i < 32) (name : RecName) (l : List Nat) :
      let u := ((s.diagMarked n d).setBitR Reg.DIO_STK i).record name n l
      u.regB Reg.DIO_IWB n = (d == 1) ∧ u.regB Reg.DIO_ISC n = decide (2 ≤ d) ∧ u.field = { s.field with diag := mput s.field.diag n d }
        ∧ (∀ a, a ≠ Reg.DIO_IWB → a ≠ Reg.DIO_ISC → a ≠ Reg.DIO_STK → a < 0x8000 → u.reg a = s.reg a) ∧ u.regB Reg.DIO_STK i = true := by
    intro u
    have hstand (a : Nat) (ha : a ≠ Reg.DIO_STK) (hlow : a < 0x8000) : u.reg a = (s.diagMarked n d).reg a :=
      (reg_record_outside _ _ _ _ (.inl hlow)).trans (State.reg_orBits_ne _ _ ha)
    refine ⟨(congrArg (bit · n) (hstand _ (by decide) (by decide))).trans hwb, (congrArg (bit · n) (hstand _ (by decide) (by decide))).trans hsc,
      (field_record _ _ _ _).trans hfield, fun a h1 h2 h3 h4 => (hstand a h3 h4).trans (hreg a h1 h2), ?_⟩
    exact (congrArg (bit · i) (reg_record_outside _ _ _ _ (by decide))).trans ((regB_setBitR _ hi _ _ _).trans (if_pos ⟨rfl, rfl⟩))
  unfold State.diagNoted
  split
  · next h => exact ⟨hwb, hsc, hfield, fun a h1 h2 _ _ => hreg a h1 h2, fun h0 => absurd h0 h⟩
  split
  · obtain ⟨h1, h2, h3, h4, h5⟩ := hnote 2 (by decide) .dioWirebreak [n]
    exact ⟨h1, h2, h3, h4, fun _ => h5⟩
  · obtain ⟨h1, h2, h3, h4, h5⟩ := hnote 3 (by decide) .dioShort [n]
    exact ⟨h1, h2, h3, h4, fun _ => h5⟩

/-- The ports that a report of an input moves on the field side. -/
def inputPorts : List Nat := [Reg.DIO_INL, Reg.DIO_INVL, Reg.DIO_ILIVE, Reg.DIO_IWB, Reg.DIO_ISC, Reg.DIO_STK]

theorem setDiag_results (s : State) {n d : Nat} (hn : n < 32) (h : d ≠ mgetD s.field.diag n 0) :
    (s.setDiag n d).field = { s.field with diag := mput s.field.diag n d }
      ∧ (s.setDiag n d).regB Reg.DIO_IWB n = (d == 1) ∧ (s.setDiag n d).regB Reg.DIO_ISC n = decide (2 ≤ d)
      ∧ ∀ a, 0x6000 ≤ a → a < 0x6800 → a ∉ inputPorts → (s.setDiag n d).reg a = s.reg a := by
  have hwhole (u v : State) (hu : u.field = { s.field with diag := mput s.field.diag n d }) (hwb : u.regB Reg.DIO_IWB n = (d == 1))
      (hsc : u.regB Reg.DIO_ISC n = decide (2 ≤ d)) (hrest : ∀ a, 0x6000 ≤ a → a < 0x6800 → a ∉ inputPorts → u.reg a = s.reg a)
      (hv : Leaves State.ioSide u v) : v.refreshInputs.field = { s.field with diag := mput s.field.diag n d }
      ∧ v.refreshInputs.regB Reg.DIO_IWB n = (d == 1) ∧ v.refreshInputs.regB Reg.DIO_ISC n = decide (2 ≤ d)
      ∧ ∀ a, 0x6000 ≤ a → a < 0x6800 → a ∉ inputPorts → v.refreshInputs.reg a = s.reg a := by
    obtain ⟨hfield, -, hreg⟩ := refreshInputs_leaves v
    obtain ⟨hio, hvfield, -⟩ := ioSide_reads hv
    refine ⟨hfield.trans (hvfield.trans hu), (congrArg (bit · n) ((hreg _ (by decide) (by decide) (by decide)).trans (hio _ (by decide) (by decide)))).trans hwb,
      (congrArg (bit · n) ((hreg _ (by decide) (by decide) (by decide)).trans (hio _ (by decide) (by decide)))).trans hsc, fun a h1 h2 h3 => ?_⟩
    have hne : a ≠ Reg.DIO_INL ∧ a ≠ Reg.DIO_INVL ∧ a ≠ Reg.DIO_ILIVE := by simp [inputPorts] at h3; omega
    exact (hreg a hne.2.1 hne.1 hne.2.2).trans ((hio a h1 h2).trans (hrest a h1 h2 h3))
  by_cases hd : d = 0
  · subst hd
    obtain ⟨hwb, hsc, hfield, hreg⟩ := diagMarked_results s 0 hn
    rw [setDiag_sound s (Ne.symm h)]
    exact hwhole _ _ hfield hwb hsc (fun a _ _ h3 => hreg a (by simp [inputPorts] at h3; omega) (by simp [inputPorts] at h3; omega))
      (contactSound_leaves_ioSide _ n)
  · obtain ⟨hwb, hsc, hfield, hreg, -⟩ := diagNoted_results s d hn
    rw [setDiag_fault s h hd]
    exact hwhole _ _ hfield hwb hsc (fun a _ h2 h3 => hreg a (by simp [inputPorts] at h3; omega) (by simp [inputPorts] at h3; omega)
      (by simp [inputPorts] at h3; omega) (by omega)) (contactFault_leaves_ioSide _ n)

/-- R429, R430: a sound input that reports a fault is invalid at once, and the fault shows in DIO_STK. -/
theorem setDiag_new (s : State) {n d : Nat} (hn : n < 32) (hsound : mgetD s.field.diag n 0 = 0) (hd : d ≠ 0) :
    (s.setDiag n d).inputValid n = false ∧ (s.setDiag n d).regB Reg.DIO_STK (if d = 1 then 2 else 3) = true
      ∧ (s.setDiag n d).regB Reg.DIO_INVL n = false ∧ (s.setDiag n d).regB Reg.DIO_INL n = false := by
  obtain ⟨-, -, hfield, -, hstk⟩ := diagNoted_results s d hn
  obtain ⟨hio, hvfield, -⟩ := ioSide_reads (contactFault_leaves_ioSide (s.diagNoted n d) n)
  have hinvalid (u : State) (hu : u.field = (s.diagNoted n d).field) : u.inputValid n = false := by
    have hdiag : mgetD u.field.diag n 0 = d := by rw [hu, hfield]; exact mgetD_mput_same _ _ _ _
    rw [State.inputValid, hdiag, beq_eq_false_iff_ne.2 hd, Bool.and_false]
  rw [setDiag_fault s (by omega) hd]
  obtain ⟨hinvl, hinl⟩ := refreshInputs_invalid _ hn (hinvalid _ hvfield)
  obtain ⟨-, -, hreg⟩ := refreshInputs_leaves ((s.diagNoted n d).contactFault n)
  exact ⟨hinvalid _ hvfield, (congrArg (bit · _) ((hreg _ (by decide) (by decide) (by decide)).trans (hio _ (by decide) (by decide)))).trans (hstk hsound),
    hinvl, hinl⟩

end Sys2Proof.Machine
end

section
/-! PROOFS. The isolation links and the inputs (R418 to R430); then the statement `Obligations.FieldLinksAndInputs`. -/
namespace Sys2Proof.Machine

open State (setBitR clrBitR setRegF regB regF Leaves)

/-! ### What the payload of an up-frame leaves (R419) -/

/-- The link's port of group `g`, when its last frame came and how many came in a row. -/
def State.linkSide (g : Nat) (u : State) : Word × SMap Nat × SMap Nat := (u.reg (Reg.DIO_LINK g), u.field.upEl, u.field.run)

theorem bit_setBit_ne (w : Word) {i j : Nat} (b : Bool) (h : j ≠ i) : bit (setBit w i b) j = bit w j :=
  bit_setFld_outside w _ (Nat.le_refl i) (by omega)

theorem inputEvent_leaves (s : State) {g : Nat} (hg : g < 4) (n : Nat) (level : Bool) :
    Leaves (State.linkSide g) s (s.inputEvent n level) ∧ (s.inputEvent n level).field.raw = s.field.raw
      ∧ (s.inputEvent n level).field.diag = s.field.diag := by
  unfold State.inputEvent
  extract_lets ev lost t w1 u v
  have hu : Leaves (State.linkSide g) s u ∧ u.field = s.field := by
    simp only [u]
    split
    · exact ⟨⟨Prod.ext (State.reg_setReg_ne s _ (by lia)) rfl⟩, rfl⟩
    · exact ⟨.refl s, rfl⟩
  clear_value u
  by_cases hc : (s.inputValid n && (if level then ev.testBit 0 else ev.testBit 1)) = true
  · obtain ⟨x, hx⟩ := blockEvent_eq (v.produce 7 (n / 16) [wd t, wd w1]) 6 n
    rw [if_pos hc, hx]
    exact ⟨.after (t := u) ⟨rfl⟩ hu.1, (congrArg FieldIo.raw hu.2 : u.field.raw = _), (congrArg FieldIo.diag hu.2 : u.field.diag = _)⟩
  · rw [if_neg hc]
    exact ⟨.refl s, rfl, rfl⟩

theorem takeLevel_results (s : State) {g n : Nat} (hg : g < 4) (hn : n < 32) (lev edge multi first : Bool) (at_ : Nat) :
    Leaves (State.linkSide g) s (s.takeLevel n lev edge multi first at_) ∧ (s.takeLevel n lev edge multi first at_).field.diag = s.field.diag
      ∧ bit (s.takeLevel n lev edge multi first at_).field.raw n = lev
      ∧ ∀ i, i ≠ n → bit (s.takeLevel n lev edge multi first at_).field.raw i = bit s.field.raw i := by
  unfold State.takeLevel
  extract_lets changed q u filt ok v
  have hsame : bit u.field.raw n = lev := bit_setBit_same _ hn lev
  have hother : ∀ i, i ≠ n → bit u.field.raw i = bit s.field.raw i := fun i h => bit_setBit_ne _ lev h
  have hdiag : u.field.diag = s.field.diag := rfl
  have hlink : Leaves (State.linkSide g) s u := ⟨rfl⟩
  clear_value u
  split
  · split
    · exact ⟨.after (t := u) ⟨rfl⟩ hlink, hdiag, hsame, hother⟩
    · obtain ⟨hkept, hraw, hd⟩ := inputEvent_leaves v hg n lev
      exact ⟨.after hkept (.after (t := u) ⟨rfl⟩ hlink), hd.trans hdiag, by rw [hraw]; exact hsame, fun i h => by rw [hraw]; exact hother i h⟩
  · exact ⟨hlink, hdiag, hsame, hother⟩

theorem setDiag_leaves (s : State) {g n : Nat} (hg : g < 4) (hn : n < 32) (d : Nat) :
    Leaves (State.linkSide g) s (s.setDiag n d) ∧ (s.setDiag n d).field.raw = s.field.raw
      ∧ ∀ i, mgetD (s.setDiag n d).field.diag i 0 = if i = n then d else mgetD s.field.diag i 0 := by
  by_cases h : d = mgetD s.field.diag n 0
  · have hidle : s.setDiag n d = s := if_pos h
    rw [hidle]
    refine ⟨.refl s, rfl, fun i => ?_⟩
    split
    · next hi => rw [hi, h]
    · rfl
  · obtain ⟨hfield, -, -, hreg⟩ := setDiag_results s hn h
    have hlink := hreg (Reg.DIO_LINK g) (by lia) (by lia) (by simp [inputPorts]; lia)
    rw [hfield]
    exact ⟨⟨Prod.ext hlink (by rw [State.linkSide, hfield]; rfl)⟩, rfl, fun i => mgetD_mput _ _ _ _ _⟩

/-! ### Inputs (R427, R428, R430) -/

/-- R419: channel `c` of an up-frame of an input group. -/
def State.inputChannel (s : State) (g : Nat) (first : Bool) (w start c : Nat) : State :=
  (s.takeLevel (16 * g + c) (w.testBit (231 - c)) (w.testBit (215 - c)) (w.testBit (199 - c)) first
    (start + 1000 * chanField w 183 3 c)).setDiag (16 * g + c) (chanField w 135 2 c)

/-- R419: the sensor supply and the temperature of an up-frame of an input group. -/
def State.inputSupply (s : State) (g w : Nat) : State :=
  ((if g = 0 then s.setRegF Reg.DIO_VSENSE 15 0 (bitsOf w 103 92) else s.setRegF Reg.DIO_VSENSE 31 16 (bitsOf w 103 92)).updField
    fun x => { x with temps := mput x.temps g (sext 8 (bitsOf w 91 84)) }).refreshInputs

theorem inputFrame_eq (s : State) (g : Nat) (first : Bool) (w start : Nat) : s.inputFrame g first w start
    = ((List.range 16).foldl (fun s c => s.inputChannel g first w start c) s).inputSupply g w := rfl

theorem inputSupply_leaves (s : State) {g : Nat} (hg : g < 4) (w : Nat) : Leaves (State.linkSide g) s (s.inputSupply g w)
    ∧ (s.inputSupply g w).field.raw = s.field.raw ∧ (s.inputSupply g w).field.diag = s.field.diag := by
  unfold State.inputSupply
  obtain ⟨u, hu⟩ : ∃ u, u = if g = 0 then s.setRegF Reg.DIO_VSENSE 15 0 (bitsOf w 103 92) else s.setRegF Reg.DIO_VSENSE 31 16 (bitsOf w 103 92) :=
    ⟨_, rfl⟩
  have hfield : u.field = s.field := by rw [hu]; split <;> rfl
  have hlink : u.reg (Reg.DIO_LINK g) = s.reg (Reg.DIO_LINK g) := by
    rw [hu]
    split
    · exact State.reg_setReg_ne s _ (by lia)
    · exact State.reg_setReg_ne s _ (by lia)
  rw [← hu]
  have hrefresh := (refreshInputs_leaves (u.updField fun x => { x with temps := mput x.temps g (sext 8 (bitsOf w 91 84)) })).2.2
    (Reg.DIO_LINK g) (by lia) (by lia) (by lia)
  exact ⟨⟨Prod.ext (hrefresh.trans hlink) (congrArg (fun x => (x.upEl, x.run)) hfield)⟩, (congrArg FieldIo.raw hfield : u.field.raw = _),
    (congrArg FieldIo.diag hfield : u.field.diag = _)⟩

theorem inputChannel_results (s : State) {g : Nat} (hg : g < 2) (first : Bool) (w start : Nat) {c : Nat} (hc : c < 16) :
    Leaves (State.linkSide g) s (s.inputChannel g first w start c)
      ∧ (∀ i, mgetD (s.inputChannel g first w start c).field.diag i 0
          = if i = 16 * g + c then chanField w 135 2 c else mgetD s.field.diag i 0)
      ∧ bit (s.inputChannel g first w start c).field.raw (16 * g + c) = w.testBit (231 - c)
      ∧ ∀ i, i ≠ 16 * g + c → bit (s.inputChannel g first w start c).field.raw i = bit s.field.raw i := by
  obtain ⟨hlink, hdiag, hsame, hother⟩ := takeLevel_results s (g := g) (n := 16 * g + c) (by omega) (by omega) (w.testBit (231 - c))
    (w.testBit (215 - c)) (w.testBit (199 - c)) first (start + 1000 * chanField w 183 3 c)
  obtain ⟨hlink', hraw, hd⟩ := setDiag_leaves (s.takeLevel (16 * g + c) (w.testBit (231 - c)) (w.testBit (215 - c)) (w.testBit (199 - c)) first
    (start + 1000 * chanField w 183 3 c)) (g := g) (n := 16 * g + c) (by omega) (by omega) (chanField w 135 2 c)
  exact ⟨.after hlink' hlink, fun i => (hd i).trans (by rw [hdiag]), (congrArg (bit · _) hraw).trans hsame,
    fun i hi => (congrArg (bit · i) hraw).trans (hother i hi)⟩

theorem inputFrame_results (s : State) {g : Nat} (hg : g < 2) (first : Bool) (w start : Nat) :
    Leaves (State.linkSide g) s (s.inputFrame g first w start)
      ∧ ∀ c, c < 16 → mgetD (s.inputFrame g first w start).field.diag (16 * g + c) 0 = chanField w 135 2 c
        ∧ bit (s.inputFrame g first w start).field.raw (16 * g + c) = w.testBit (231 - c) := by
  rw [inputFrame_eq]
  obtain ⟨hlink, hraw, hdiag⟩ := inputSupply_leaves ((List.range 16).foldl (fun s c => s.inputChannel g first w start c) s) (g := g) (by omega) w
  refine ⟨.after hlink ?_, fun c hc => ?_⟩
  · exact foldl_keeps (Leaves (State.linkSide g) s) _ _ s (.refl s) fun u c hc hu =>
      .after (inputChannel_results u hg first w start (List.mem_range.1 hc)).1 hu
  · rw [hraw, hdiag]
    refine foldl_establishes_of_mem (fun c u => mgetD (State.field u).diag (16 * g + c) 0 = chanField w 135 2 c
      ∧ bit (State.field u).raw (16 * g + c) = w.testBit (231 - c)) (List.range 16) s (fun u q hq => ?_) (fun u q hq j hj => ?_) c (List.mem_range.2 hc)
    · obtain ⟨-, hd, hr, -⟩ := inputChannel_results u hg first w start (List.mem_range.1 hq)
      exact ⟨(hd _).trans (if_pos rfl), hr⟩
    · obtain ⟨-, hd, hr, hother⟩ := inputChannel_results u hg first w start (List.mem_range.1 hq)
      by_cases hjq : j = q
      · rw [hjq]
        exact ⟨(hd _).trans (if_pos rfl), hr⟩
      · exact ⟨(hd _).trans ((if_neg (by omega)).trans hj.1), (hother _ (by omega)).trans hj.2⟩

/-! ### Outputs (R419, R435) -/

/-- R419: channel `k` of an up-frame of the outputs. -/
def State.outputChannel (s : State) (w k : Nat) : State :=
  let s := s.putBitR Reg.DIO_OSTAT (16 + k) (w.testBit (231 - k))
  let s := if w.testBit (215 - k) then (s.outReport k 0).updField (fun x =>
      { x with ovlEl := if (mget x.ovlEl k).isSome then x.ovlEl else mput x.ovlEl k s.tb.el }) else s
  let s := if w.testBit (199 - k) then s.outReport k 1 else s.clrBitR (Reg.DIO_ODIAG k) 30
  let s := if w.testBit (183 - k) then s.outReport k 2 else s.clrBitR (Reg.DIO_ODIAG k) 29
  s.setRegF (Reg.DIO_ODIAG k) 5 0 (chanField w 167 6 k)

/-- R419: the supplies and the temperature of an up-frame of the outputs. -/
def State.outputSupply (s : State) (w : Nat) : State :=
  (s.setReg Reg.DIO_FS (wd (bitsOf w 71 60 * 65536 + bitsOf w 59 48))).updField
    fun x => { x with temps := mput x.temps 2 (sext 8 (bitsOf w 47 40)) }

theorem outputFrame_eq (s : State) (w : Nat) :
    s.outputFrame w = ((List.range 16).foldl (fun s k => s.outputChannel w k) s).outputSupply w := rfl

/-- The link of the outputs and their read-back. -/
def State.readBack (u : State) : (Word × SMap Nat × SMap Nat) × Word := (u.linkSide 2, u.reg Reg.DIO_OSTAT)

theorem outReport_leaves_readBack (s : State) (k : Fin 16) {what : Nat} (h : what ≤ 2) : Leaves State.readBack s (s.outReport k what) := by
  obtain ⟨-, hfield, -, hregs⟩ := outReport_results s k h
  have hreg (a : Nat) (ha : a = Reg.DIO_OSTAT ∨ a = Reg.DIO_LINK 2) : (s.outReport k what).reg a = s.reg a :=
    hregs a (by simp only [List.mem_cons, List.not_mem_nil, or_false]; lia) (not_recorderPort (by lia))
  exact ⟨Prod.ext (Prod.ext (hreg _ (.inr rfl)) (congrArg (fun x => (x.upEl, x.run)) hfield)) (hreg _ (.inl rfl))⟩

theorem odiag_leaves_readBack (s : State) (k : Fin 16) (v : Word) : Leaves State.readBack s (s.setReg (Reg.DIO_ODIAG k) v) :=
  ⟨Prod.ext (Prod.ext (State.reg_setReg_ne s v (by lia)) rfl) (State.reg_setReg_ne s v (by lia))⟩

theorem outputChannel_leaves (s : State) (w : Nat) (k : Fin 16) :
    Leaves State.readBack (s.putBitR Reg.DIO_OSTAT (16 + k) (w.testBit (231 - k))) (s.outputChannel w k) := by
  unfold State.outputChannel
  extract_lets u v x y
  have hv : Leaves State.readBack u v := .ite (.after (t := u.outReport k 0) ⟨rfl⟩ (outReport_leaves_readBack u k (by decide))) (.refl u)
  have hx : Leaves State.readBack u x := .ite (.after (outReport_leaves_readBack v k (by decide)) hv) (.after (odiag_leaves_readBack v k _) hv)
  have hy : Leaves State.readBack u y := .ite (.after (outReport_leaves_readBack x k (by decide)) hx) (.after (odiag_leaves_readBack x k _) hx)
  exact .after (odiag_leaves_readBack y k _) hy

theorem outputChannel_results (s : State) (w : Nat) {k : Nat} (hk : k < 16) : Leaves (State.linkSide 2) s (s.outputChannel w k)
    ∧ ∀ i, (s.outputChannel w k).regB Reg.DIO_OSTAT i = if i = 16 + k then w.testBit (231 - k) else s.regB Reg.DIO_OSTAT i := by
  obtain ⟨hlink, hback⟩ := Prod.ext_iff.1 (outputChannel_leaves s w ⟨k, hk⟩).eq
  refine ⟨⟨hlink.trans (Prod.ext (reg_putBitR_ne s _ _ (by decide)) (congrArg (fun x => (x.upEl, x.run)) (field_putBitR s _ _ _)))⟩, fun i => ?_⟩
  refine (congrArg (bit · i) hback).trans ((regB_putBitR s (by omega) _ _ _ _).trans ?_)
  simp

theorem outputFrame_results (s : State) (w : Nat) : Leaves (State.linkSide 2) s (s.outputFrame w)
    ∧ ∀ k, k < 16 → (s.outputFrame w).regB Reg.DIO_OSTAT (16 + k) = w.testBit (231 - k) := by
  rw [outputFrame_eq]
  refine ⟨.after ⟨Prod.ext (State.reg_setReg_ne _ _ (by decide)) rfl⟩ (foldl_keeps (Leaves (State.linkSide 2) s) _ _ s (.refl s)
    fun u k hk hu => .after (outputChannel_results u w (List.mem_range.1 hk)).1 hu), fun k hk => ?_⟩
  refine (congrArg (bit · (16 + k)) (State.reg_setReg_ne _ _ (by decide))).trans ?_
  refine foldl_establishes_of_mem (fun k u => State.regB u Reg.DIO_OSTAT (16 + k) = w.testBit (231 - k)) (List.range 16) s
    (fun u q hq => ?_) (fun u q hq j hj => ?_) k (List.mem_range.2 hk)
  · exact ((outputChannel_results u w (List.mem_range.1 hq)).2 _).trans (if_pos rfl)
  · refine ((outputChannel_results u w (List.mem_range.1 hq)).2 _).trans ?_
    split
    · next h => rw [show j = q by omega]
    · exact hj

/-! ### Loops (R419, R439) -/

/-- R419: channel `c` of an up-frame of the loops. -/
def State.loopChannel (s : State) (w c : Nat) : State :=
  let s := s.setReg (Reg.CLO_RB c) (wd (chanField w 231 16 c * 32))
  let sf := w.testBit (103 - c)
  let s := if sf && !(s.regB Reg.CLO_CSTAT (24 + c)) then s.setBitR Reg.CLO_STK (24 + c) else s
  s.putBitR Reg.CLO_CSTAT (24 + c) sf

theorem loopFrame_eq (s : State) (w : Nat) : s.loopFrame w = ((List.range 8).foldl (fun s c => s.loopChannel w c) s).updField
    fun x => { x with temps := mput x.temps 3 (sext 8 (bitsOf w 95 88)) } := rfl

theorem loopChannel_results (s : State) (w c : Nat) : (s.loopChannel w c).field = s.field
    ∧ ∀ a, a ≠ Reg.CLO_CSTAT → a ≠ Reg.CLO_STK →
      (s.loopChannel w c).reg a = if a = Reg.CLO_RB c then wd (chanField w 231 16 c * 32) else s.reg a := by
  unfold State.loopChannel
  extract_lets u sf v
  refine ⟨(field_putBitR v _ _ _).trans ?_, fun a h1 h2 => (reg_putBitR_ne v _ _ h1).trans ?_⟩
  · simp only [v]
    split <;> rfl
  · have hu : u.reg a = if a = Reg.CLO_RB c then wd (chanField w 231 16 c * 32) else s.reg a := State.reg_setReg s _ _ _
    simp only [v]
    split
    · exact (State.reg_orBits_ne u _ h2).trans hu
    · exact hu

theorem loopFrame_results (s : State) (w : Nat) : Leaves (State.linkSide 3) s (s.loopFrame w)
    ∧ ∀ c, c < 8 → (s.loopFrame w).reg (Reg.CLO_RB c) = BitVec.ofNat 32 (chanField w 231 16 c * 32) := by
  rw [loopFrame_eq]
  refine ⟨.after (t := (List.range 8).foldl (fun s c => s.loopChannel w c) s) ⟨rfl⟩ (.foldl fun u c => ?_), fun c hc => ?_⟩
  · obtain ⟨hfield, hreg⟩ := loopChannel_results u w c
    exact ⟨Prod.ext ((hreg _ (by decide) (by decide)).trans (if_neg (by lia))) (congrArg (fun x => (x.upEl, x.run)) hfield)⟩
  · refine foldl_establishes_of_mem (fun c u => c < 8 → State.reg u (Reg.CLO_RB c) = BitVec.ofNat 32 (chanField w 231 16 c * 32)) (List.range 8) s
      (fun u q _ hq => ?_) (fun u q _ j hj hlt => ?_) c (List.mem_range.2 hc) hc
    · exact ((loopChannel_results u w q).2 _ (by lia) (by lia)).trans (if_pos rfl)
    · refine ((loopChannel_results u w q).2 _ (by lia) (by lia)).trans ?_
      split
      · next h => rw [show j = q by lia]; rfl
      · exact hj hlt

/-! ### Frames (R418 to R421) -/

/-- R418, R419: a valid up-frame before its payload: its link counts it, SUPPLY and SAFE show in the link's port. -/
def State.upHead (s : State) (g w : Nat) : State :=
  let s := s.updField (fun x => { x with run := mput x.run g (mgetD x.run g 0 + 1), upEl := mput x.upEl g s.tb.el })
  let s := if w.testBit 243 && !(s.regB (Reg.DIO_LINK g) 29) then (s.setBitR Reg.DIO_STK 1).record .fioSafeValues g [g] else s
  (s.putBitR (Reg.DIO_LINK g) 30 (w.testBit 244)).putBitR (Reg.DIO_LINK g) 29 (w.testBit 243)

theorem upHead_results (s : State) (g w : Nat) : mget (s.upHead g w).field.upEl g = some s.tb.el
    ∧ mget (s.upHead g w).field.run g = some (mgetD s.field.run g 0 + 1)
    ∧ (s.upHead g w).regB (Reg.DIO_LINK g) 30 = w.testBit 244 ∧ (s.upHead g w).regB (Reg.DIO_LINK g) 29 = w.testBit 243 := by
  have hfield : (s.upHead g w).field = (s.updField fun x => { x with run := mput x.run g (mgetD x.run g 0 + 1), upEl := mput x.upEl g s.tb.el }).field := by
    unfold State.upHead
    extract_lets u v
    rw [field_putBitR, field_putBitR]
    simp only [v]
    split
    · exact field_record _ _ _ _
    · rfl
  refine ⟨by rw [hfield]; exact mget_mput_same _ _ _, by rw [hfield]; exact mget_mput_same _ _ _, ?_, regB_putBitR_same _ (by decide) _⟩
  exact (regB_putBitR_other _ (by decide) _ fun _ => by decide).trans (regB_putBitR_same _ (by decide) _)

/-- R418: the first valid frame after a link loss. -/
def State.firstFrame (s : State) (g : Nat) : Bool := mgetD s.field.run g 0 == 0 && !(s.regB (Reg.DIO_LINK g) 31)

theorem upFrame_outputs (s : State) (w start : Nat) : s.upFrame 2 w start = (s.upHead 2 w).outputFrame w := rfl

theorem upFrame_loops (s : State) (w start : Nat) : s.upFrame 3 w start = (s.upHead 3 w).loopFrame w := rfl

theorem upFrame_inputs (s : State) {g : Nat} (hg : g < 2) (w start : Nat) :
    s.upFrame g w start = (s.upHead g w).inputFrame g (s.firstFrame g) w start := by
  rcases Nat.lt_succ_iff_lt_or_eq.1 hg with h | rfl
  · obtain rfl : g = 0 := by omega
    rfl
  · rfl

theorem upFrame_results (s : State) {g : Nat} (hg : g < 4) (w start : Nat) :
    Leaves (State.linkSide g) (s.upHead g w) (s.upFrame g w start)
      ∧ (g < 2 → ∀ c, c < 16 → mgetD (s.upFrame g w start).field.diag (16 * g + c) 0 = chanField w 135 2 c
        ∧ bit (s.upFrame g w start).field.raw (16 * g + c) = w.testBit (231 - c))
      ∧ (g = 2 → ∀ k, k < 16 → (s.upFrame g w start).regB Reg.DIO_OSTAT (16 + k) = w.testBit (231 - k))
      ∧ (g = 3 → ∀ c, c < 8 → (s.upFrame g w start).reg (Reg.CLO_RB c) = BitVec.ofNat 32 (chanField w 231 16 c * 32)) := by
  rcases (show g < 2 ∨ g = 2 ∨ g = 3 by omega) with h | rfl | rfl
  · rw [upFrame_inputs s h]
    obtain ⟨hlink, hchan⟩ := inputFrame_results (s.upHead g w) h (s.firstFrame g) w start
    exact ⟨hlink, fun _ => hchan, fun h' => by omega, fun h' => by omega⟩
  · rw [upFrame_outputs]
    obtain ⟨hlink, hchan⟩ := outputFrame_results (s.upHead 2 w) w
    exact ⟨hlink, fun h' => by omega, fun _ => hchan, fun h' => by omega⟩
  · rw [upFrame_loops]
    obtain ⟨hlink, hchan⟩ := loopFrame_results (s.upHead 3 w) w
    exact ⟨hlink, fun h' => by omega, fun h' => by omega, fun _ => hchan⟩

theorem isoFrame_up {g : Fin 4} {w lat : Nat} {s : State} (hw : w < 2 ^ 256) (hvalid : isoValid g true w = true) :
    ∃ t, exec (.isoFrame g true w lat) s = .next t ∧ mget t.field.upEl g = some s.tb.el
        ∧ mget t.field.run g = some (mgetD s.field.run g 0 + 1)
        ∧ t.regB (Reg.DIO_LINK g) 30 = w.testBit 244 ∧ t.regB (Reg.DIO_LINK g) 29 = w.testBit 243
        ∧ (g.val < 2 → ∀ c, c < 16 → mgetD t.field.diag (16 * g.val + c) 0 = chanField w 135 2 c ∧ bit t.field.raw (16 * g.val + c) = w.testBit (231 - c))
        ∧ (g = 2 → ∀ k, k < 16 → t.regB Reg.DIO_OSTAT (16 + k) = w.testBit (231 - k))
        ∧ (g = 3 → ∀ c, c < 8 → t.reg (Reg.CLO_RB c) = BitVec.ofNat 32 (chanField w 231 16 c * 32)) := by
  have hrun : exec (.isoFrame g true w lat) s = .next (s.upFrame g w (s.tb.t - lat)) := by
    have hmod : w % 2 ^ 256 = w := Nat.mod_eq_of_lt hw
    refine congrArg Host.Outcome.next ?_
    simp only [hmod]
    exact (if_pos hvalid).trans (if_pos trivial)
  obtain ⟨hup, hcount, hsupply, hsafe⟩ := upHead_results s g w
  obtain ⟨hleaves, hin, hout, hloop⟩ := upFrame_results s g.isLt w (s.tb.t - lat)
  obtain ⟨hlink, hrest⟩ := Prod.ext_iff.1 hleaves.eq
  obtain ⟨hupEl, hruns⟩ := Prod.ext_iff.1 hrest
  exact ⟨_, hrun, (congrArg (mget · g.val) hupEl).trans hup, (congrArg (mget · g.val) hruns).trans hcount, (congrArg (bit · 30) hlink).trans hsupply,
    (congrArg (bit · 29) hlink).trans hsafe, hin, fun h => hout (congrArg Fin.val h), fun h => hloop (congrArg Fin.val h)⟩

theorem isoFrame_invalid {g : Fin 4} {w lat : Nat} {s : State} (hw : w < 2 ^ 256) :
    (isoValid g true w = false → ∃ t, exec (.isoFrame g true w lat) s = .next t
        ∧ t.regF (Reg.DIO_LINK g) 15 0 = (s.regF (Reg.DIO_LINK g) 15 0 + 1) % 65536 ∧ mget t.field.run g = some 0
        ∧ sameRegs s t [Reg.DIO_LINK g])
    ∧ (isoValid g false w = false → ∃ t, exec (.isoFrame g false w lat) s = .next t
        ∧ t.regF (Reg.DIO_LINK g) 15 0 = (s.regF (Reg.DIO_LINK g) 15 0 + 1) % 65536 ∧ (mgetD t.field.side g {}).run = 0
        ∧ sameRegs s t [Reg.DIO_LINK g]) := by
  have hmod : w % 2 ^ 256 = w := Nat.mod_eq_of_lt hw
  have hcount : (s.bumpF (Reg.DIO_LINK g) 15 0).regF (Reg.DIO_LINK g) 15 0 = (s.regF (Reg.DIO_LINK g) 15 0 + 1) % 65536 :=
    regF_setRegF_same s _ _ (by decide) (by decide)
  refine ⟨fun h => ⟨(s.bumpF (Reg.DIO_LINK g) 15 0).updField fun x => { x with run := mput x.run g 0 }, ?_, hcount, mget_mput_same _ _ _,
      sameRegs_setReg s _ _⟩,
    fun h => ⟨(s.bumpF (Reg.DIO_LINK g) 15 0).updSide g fun d => { d with run := 0 }, ?_, hcount,
      congrArg FieldSide.run (mgetD_mput_same _ _ _ _), sameRegs_setReg s _ _⟩⟩
  · refine congrArg Host.Outcome.next ?_
    simp only [hmod]
    exact (if_neg (ne_true_of_eq_false h)).trans (if_pos trivial)
  · refine congrArg Host.Outcome.next ?_
    simp only [hmod]
    exact (if_neg (ne_true_of_eq_false h)).trans (if_neg Bool.false_ne_true)

theorem isoFrame_down {g : Fin 4} {w lat : Nat} {s : State} (hw : w < 2 ^ 256) (hg : 2 ≤ g.val) (hvalid : isoValid g false w = true) :
    ∃ t, exec (.isoFrame g false w lat) s = .next t
        ∧ (mgetD t.field.side g {}).el = s.tb.el ∧ (mgetD t.field.side g {}).run = (mgetD s.field.side g {}).run + 1 ∧ t.regs = s.regs := by
  let u := s.updSide g fun d => { d with el := s.tb.el, run := d.run + 1 }
  have hrun : exec (.isoFrame g false w lat) s = .next (s.downFrame g w) := by
    have hmod : w % 2 ^ 256 = w := Nat.mod_eq_of_lt hw
    refine congrArg Host.Outcome.next ?_
    simp only [hmod]
    exact (if_pos hvalid).trans ((if_neg Bool.false_ne_true).trans (if_pos hg))
  have hside : mgetD u.field.side g {} = { mgetD s.field.side g {} with el := s.tb.el, run := (mgetD s.field.side g {}).run + 1 } :=
    mgetD_mput_same _ _ _ _
  have hleft : mgetD (u.updSide g fun d => { d with held := false, safe := false }).field.side g {}
      = { mgetD u.field.side g {} with held := false, safe := false } := mgetD_mput_same _ _ _ _
  have hel := congrArg FieldSide.el hside
  have hcount := congrArg FieldSide.run hside
  have hel' := (congrArg FieldSide.el hleft).trans hel
  have hcount' := (congrArg FieldSide.run hleft).trans hcount
  refine ⟨_, hrun, ?_⟩
  unfold State.downFrame
  dsimp only
  split
  · split
    · exact ⟨hel', hcount', rfl⟩
    · exact ⟨hel', hcount', rfl⟩
  · exact ⟨hel, hcount, rfl⟩

/-! ### Links lost and restored (R420) -/

/-- R420: the link of group `g` marked down in its port, before what hangs on it follows. -/
def State.linkMarked (s : State) (g : Nat) : State :=
  let s := s.updField (fun x => { x with run := mput x.run g 0 })
  (((s.clrBitR (Reg.DIO_LINK g) 31).bumpF (Reg.DIO_LINK g) 23 16).setBitR Reg.DIO_STK 0).record .fioLinkLoss g [g]

theorem linkMarked_results (s : State) {g : Nat} (hg : g < 4) : (s.linkMarked g).regB (Reg.DIO_LINK g) 31 = false
    ∧ (s.linkMarked g).regB Reg.DIO_STK 0 = true ∧ mgetD (s.linkMarked g).field.run g 0 = 0
    ∧ (s.linkMarked g).regF (Reg.DIO_LINK g) 23 16 = (s.regF (Reg.DIO_LINK g) 23 16 + 1) % 256
    ∧ ∀ a, a ≠ Reg.DIO_LINK g → a ≠ Reg.DIO_STK → a < 0x8000 → (s.linkMarked g).reg a = s.reg a := by
  have hne : Reg.DIO_LINK g ≠ Reg.DIO_STK := by lia
  refine ⟨?_, ?_, ?_, ?_, fun a h1 h2 h3 => ?_⟩
  · simp (disch := lia) [State.linkMarked, State.bumpF, setRegF, clrBitR, setBitR, regB, bit_setFld_outside]
  · simp (disch := lia) [State.linkMarked, setBitR, regB]
  · simp [State.linkMarked, State.bumpF, setRegF, clrBitR, setBitR, State.updField]
  · simp (disch := lia) [State.linkMarked, State.bumpF, setRegF, clrBitR, setBitR, regF, fld_setFld_same]
  · simp (disch := lia) [State.linkMarked, State.bumpF, setRegF, clrBitR, setBitR]

/-- What hangs on a link that is marked down leaves its port, DIO_STK and the count of its frames. -/
def State.downSide (g : Nat) (u : State) : Word × Word × SMap Nat := (u.reg (Reg.DIO_LINK g), u.reg Reg.DIO_STK, u.field.run)

theorem downSide_of_ioSide {s t : State} {g : Nat} (hg : g < 4) (h : Leaves State.ioSide s t) : Leaves (State.downSide g) s t := by
  obtain ⟨hio, hfield, -⟩ := ioSide_reads h
  exact ⟨Prod.ext (hio _ (by lia) (by lia)) (Prod.ext (hio _ (by decide) (by decide)) (congrArg FieldIo.run hfield))⟩

theorem refreshInputs_leaves_downSide (s : State) {g : Nat} (hg : g < 4) : Leaves (State.downSide g) s s.refreshInputs :=
  ⟨Prod.ext ((refreshInputs_leaves s).2.2 _ (by lia) (by lia) (by lia)) (Prod.ext ((refreshInputs_leaves s).2.2 _ (by decide) (by decide) (by decide)) rfl)⟩

theorem linkDown_outputs (s : State) : s.linkDown 2 = (s.linkMarked 2).linkFault := rfl

theorem linkDown_inputs (s : State) {g : Nat} (hg : g < 2) :
    s.linkDown g = ((List.range 16).foldl (fun s c => s.contactFault (16 * g + c)) (s.linkMarked g)).refreshInputs := by
  rcases Nat.lt_succ_iff_lt_or_eq.1 hg with h | rfl
  · obtain rfl : g = 0 := by omega
    rfl
  · rfl

theorem linkDown_leaves (s : State) {g : Nat} (hg : g < 4) : Leaves (State.downSide g) (s.linkMarked g) (s.linkDown g) := by
  rcases (show g < 2 ∨ g = 2 ∨ g = 3 by omega) with h | rfl | rfl
  · rw [linkDown_inputs s h]
    exact .after (refreshInputs_leaves_downSide _ hg) (.foldl fun u c => downSide_of_ioSide hg (contactFault_leaves_ioSide u _))
  · rw [linkDown_outputs]
    exact downSide_of_ioSide hg (ioSide_of_unsaf (unsaf_linkFault _))
  · exact .refl _

/-- R402, R420: with the outputs held, a lost link makes every enabled safety output faulty. -/
theorem linkFault_faults {s : State} (hhold : s.hold = true) (hlink : s.regB (Reg.DIO_LINK 2) 31 = false) {k : Nat} (hk : k < 16)
    (hout : s.isSafOut k = true) : s.linkFault.regB Reg.SAF_OFLT k = true := by
  let f := fun (u : State) k => if u.isSafOut k && !(u.regB Reg.SAF_OFLT k) then u.outputFault k 1 else u
  have hocfg (u : State) (q : Nat) {n : Nat} (hn : n < 16) : (f u q).isSafOut n = u.isSafOut n := by
    simp only [f]
    split
    · exact regB_of_unsaf (unsaf_outputFault u q 1) 31 (safPort_of_setting (by lia) (by lia)) (not_recorderPort (by lia))
    · rfl
  have hrun : s.linkFault = (List.range 16).foldl f s := if_pos (by simp [hhold, hlink])
  have hstands : ((List.range 16).foldl f s).isSafOut k = true :=
    foldl_keeps (fun u => u.isSafOut k = true) f _ s hout fun u q _ hu => (hocfg u q hk).trans hu
  rw [hrun]
  refine foldl_establishes_of_mem (f := f) (fun n u => n < 16 → u.isSafOut n = true → u.regB Reg.SAF_OFLT n = true) (List.range 16) s
    (fun u q hq _ hon => ?_) (fun u q hq n hu hn hon => ?_) k (List.mem_range.2 hk) hk hstands
  · rw [hocfg u q (List.mem_range.1 hq)] at hon
    simp only [f, hon, Bool.true_and]
    split
    · exact (outputFault_results u 1 (List.mem_range.1 hq)).1
    · next h => simpa using h
  · rw [hocfg u q hn] at hon
    simp only [f]
    split
    · exact (outputFault_results u 1 (List.mem_range.1 hq)).2.2.2.2.1 n (hu hn hon)
    · exact hu hn hon

theorem isoLinkLoss_results {g : Fin 4} {s : State} (hup : s.regB (Reg.DIO_LINK g) 31 = true) (hdue : 16000 ≤ s.tb.el - mgetD s.field.upEl g 0) :
    ∃ t, exec (.isoLinkLoss g) s = .next t ∧ t.regB (Reg.DIO_LINK g) 31 = false ∧ t.regB Reg.DIO_STK 0 = true ∧ mgetD t.field.run g 0 = 0
        ∧ t.regF (Reg.DIO_LINK g) 23 16 = (s.regF (Reg.DIO_LINK g) 23 16 + 1) % 256
        ∧ (g = 2 → s.hold = true → ∀ k, k < 16 → s.isSafOut k = true → t.regB Reg.SAF_OFLT k = true) := by
  obtain ⟨hdown, hstk, hcount, hlost, hreg⟩ := linkMarked_results s g.isLt
  obtain ⟨hlink, hrest⟩ := Prod.ext_iff.1 (linkDown_leaves s g.isLt).eq
  obtain ⟨hstk', hrun⟩ := Prod.ext_iff.1 hrest
  refine ⟨s.linkDown g, congrArg Host.Outcome.next (if_pos (by simp [hup, hdue])), (congrArg (bit · 31) hlink).trans hdown,
    (congrArg (bit · 0) hstk').trans hstk, (congrArg (mgetD · g.val 0) hrun).trans hcount, (congrArg (fld · 23 16) hlink).trans hlost,
    fun hg hhold k hk hout => ?_⟩
  subst hg
  exact linkFault_faults (s := s.linkMarked 2) ((congrArg (bit · 25) (hreg _ (by decide) (by decide) (by decide))).trans hhold) hdown hk
    ((congrArg (bit · 31) (hreg _ (by lia) (by lia) (by lia))).trans hout)

theorem isoLinkRestore_results {g : Fin 4} {s : State} (hdown : s.regB (Reg.DIO_LINK g) 31 = false) (hfour : 4 ≤ mgetD s.field.run g 0) :
    ∃ t, exec (.isoLinkRestore g) s = .next t ∧ t.regB (Reg.DIO_LINK g) 31 = true
        ∧ sameRegs s t [Reg.DIO_LINK g, Reg.DIO_INVL, Reg.DIO_INL, Reg.DIO_ILIVE] := by
  obtain ⟨u, hu⟩ : ∃ u, u = (s.setBitR (Reg.DIO_LINK g) 31).record .fioLinkRestore g.val [g.val] := ⟨_, rfl⟩
  have hrun : exec (.isoLinkRestore g) s = .next (if 2 ≤ g.val then u else ((List.range 16).foldl (fun s c =>
      if mgetD s.field.diag (16 * g.val + c) 0 = 0 then s.contactSound (16 * g.val + c) else s) u).refreshInputs) := by
    rw [hu]
    exact congrArg Host.Outcome.next (if_pos (by simp [hdown, hfour]))
  have hbit : u.regB (Reg.DIO_LINK g) 31 = true := by
    rw [hu]
    exact (congrArg (bit · 31) (reg_record_outside _ _ _ _ (by lia))).trans ((regB_setBitR s (by decide) _ _ _).trans (if_pos ⟨rfl, rfl⟩))
  have hsame : sameRegs s u [Reg.DIO_LINK g, Reg.DIO_INVL, Reg.DIO_INL, Reg.DIO_ILIVE] := by
    rw [hu]
    exact sameRegs_trans (sameRegs_widen (sameRegs_setBitR s _ _) (by simp)) (sameRegs_record _ _ _ _ _)
  clear hu
  refine ⟨_, hrun, ?_⟩
  split
  · exact ⟨hbit, hsame⟩
  · obtain ⟨v, hv⟩ : ∃ v, v = (List.range 16).foldl (fun s c =>
      if mgetD s.field.diag (16 * g.val + c) 0 = 0 then s.contactSound (16 * g.val + c) else s) u := ⟨_, rfl⟩
    have hregs : v.regs = u.regs := by
      rw [hv]
      refine foldl_keeps (fun x : State => x.regs = u.regs) _ _ u rfl fun x c _ hx => ?_
      split
      · exact (regs_contactSound x _).trans hx
      · exact hx
    have hreg (a : Nat) : v.reg a = u.reg a := by rw [State.reg, hregs, State.reg]
    rw [← hv]
    obtain ⟨-, -, hrefresh⟩ := refreshInputs_leaves v
    refine ⟨(congrArg (bit · 31) ((hrefresh _ (by lia) (by lia) (by lia)).trans (hreg _))).trans hbit, fun a ha hr => ?_⟩
    have hne : a ≠ Reg.DIO_INVL ∧ a ≠ Reg.DIO_INL ∧ a ≠ Reg.DIO_ILIVE := by
      simp only [List.mem_cons, List.not_mem_nil, or_false, not_or] at ha
      exact ha.2
    exact (hrefresh a hne.1 hne.2.1 hne.2.2).trans ((hreg a).trans (hsame a ha hr))

/-! ### Field sides that hold, are safe, apply (R421 to R424) -/

theorem fieldHold_results {g : Fin 4} {s : State} (hg : 2 ≤ g.val) (hheld : (mgetD s.field.side g {}).held = false)
    (hdue : 16000 ≤ s.tb.el - (mgetD s.field.side g {}).el) :
    ∃ t, exec (.fieldHold g) s = .next t ∧ (mgetD t.field.side g {}).held = true ∧ t.field.outs = s.field.outs
        ∧ t.field.loops = s.field.loops ∧ t.regs = s.regs :=
  ⟨_, congrArg Host.Outcome.next (if_pos (by simp [hg, hheld, hdue])), congrArg FieldSide.held (mgetD_mput_same _ _ _ _), rfl, rfl, rfl⟩

theorem fieldSafe_results {g : Fin 4} {s : State} (hg : 2 ≤ g.val) (hsafe : (mgetD s.field.side g {}).safe = false)
    (hdue : s.regF (if g = 2 then Reg.DIO_LLT else Reg.CLO_LLT) 13 0 * 10000 ≤ s.tb.el - (mgetD s.field.side g {}).el) :
    ∃ t, exec (.fieldSafe g) s = .next t ∧ (mgetD t.field.side g {}).safe = true ∧ t.regs = s.regs
        ∧ (g = 2 → ∀ k, k < 16 → bit t.field.outs k = s.regB (Reg.DIO_OCFG k) 30)
        ∧ (g = 3 → ∀ c, c < 8 → mget t.field.loops c = some (s.loopSafe c)) := by
  have hport : (if g.val = 2 then Reg.DIO_LLT else Reg.CLO_LLT) = if g = 2 then Reg.DIO_LLT else Reg.CLO_LLT := by simp [Fin.ext_iff]
  let u := s.updSide g fun d => { d with held := true, safe := true, run := 0 }
  have hside : (mgetD u.field.side g {}).safe = true := congrArg FieldSide.safe (mgetD_mput_same _ _ _ _)
  have hguard : (decide (2 ≤ g.val) && !(mgetD s.field.side g {}).safe
      && decide (s.regF (if g.val = 2 then Reg.DIO_LLT else Reg.CLO_LLT) 13 0 * 10000 ≤ s.tb.el - (mgetD s.field.side g {}).el)) = true := by
    rw [hport, hsafe, decide_eq_true hg, decide_eq_true hdue]
    rfl
  rcases (show g = 2 ∨ g = 3 by omega) with rfl | rfl
  · exact ⟨_, congrArg Host.Outcome.next ((if_pos hguard).trans (if_pos rfl)), hside, rfl,
      fun _ k hk => bit_gathered (fun k => s.regB (Reg.DIO_OCFG k) 30) (by decide) hk, fun h => absurd h (by decide)⟩
  · exact ⟨_, congrArg Host.Outcome.next ((if_pos hguard).trans (if_neg (by decide))), hside, rfl, fun h => absurd h (by decide),
      fun _ c hc => mget_map_range s.loopSafe hc⟩

/-- R423: a publication belongs to the outputs (G2) or to the loops (G3). -/
def pubOf (g : Nat) (p : FieldPub) : Bool := if g = 2 then p.loop.isNone else g == 3 && p.loop.isSome

/-- R424: what one publication sets. -/
def FieldPub.apply (p : FieldPub) (x : FieldIo) : FieldIo :=
  match p.loop with
  | none => { x with outs := p.val }
  | some c => { x with loops := mput x.loops c (loopUnits p.val).1 }

/-- R423, R424: the `k` publications `now` applied, with `left` still to come. -/
def State.applyPubs (s : State) (g k : Nat) (now left : List FieldPub) : State :=
  match now.head?, now.getLast? with
  | some a, some z =>
    if now.length = k ∧ z.el - a.el < 5120 ∧ z.el + 11900 ≤ s.tb.el then
      let u := (s.bump Reg.DIO_NAPLATE ((now.map (fun p => p.el)).eraseDups.length - 1)).updField fun x => { x with pubs := left }
      if (mgetD u.field.side g {}).held || (mgetD u.field.side g {}).safe then u else u.updField fun x => now.foldl (fun x p => p.apply x) x
    else s
  | _, _ => s

theorem exec_outputApply (g : Fin 4) (k : Fin 16) (s : State) : exec (.outputApply g k) s = .next (s.applyPubs g k
    ((s.field.pubs.filter (pubOf g)).take k) ((s.field.pubs.filter (pubOf g)).drop k ++ s.field.pubs.filter (fun p => !pubOf g p))) := rfl

theorem outputApply_one {g : Fin 4} {p : FieldPub} {rest : List FieldPub} {s : State} (hpubs : s.field.pubs = p :: rest)
    (hdue : p.el + 11900 ≤ s.tb.el) (hheld : (mgetD s.field.side g {}).held = false) (hsafe : (mgetD s.field.side g {}).safe = false)
    (hmine : pubOf g p = true) :
    ∃ t left, exec (.outputApply g 1) s = .next t ∧ t.field = p.apply { s.field with pubs := left } ∧ sameRegs s t [] := by
  have hnow : (s.field.pubs.filter (pubOf g)).take (1 : Fin 16).val = [p] := by rw [hpubs, List.filter_cons_of_pos hmine]; rfl
  let left := (s.field.pubs.filter (pubOf g)).drop (1 : Fin 16).val ++ s.field.pubs.filter (fun p => !pubOf g p)
  let u := (s.bump Reg.DIO_NAPLATE ([p.el].eraseDups.length - 1)).updField fun x => { x with pubs := left }
  have hgo : ¬ ((mgetD u.field.side g.val {}).held || (mgetD u.field.side g.val {}).safe) = true := by
    have hside : (mgetD u.field.side g.val {}).held = false ∧ (mgetD u.field.side g.val {}).safe = false := ⟨hheld, hsafe⟩
    rw [hside.1, hside.2]
    decide
  refine ⟨u.updField fun x => p.apply x, left, ?_, rfl, fun a _ _ => ?_⟩
  · have hone : p.el - p.el < 5120 := by omega
    rw [exec_outputApply, hnow]
    exact congrArg Host.Outcome.next ((if_pos ⟨rfl, hone, hdue⟩).trans (if_neg hgo))
  · have hnone : [p.el].eraseDups.length - 1 = 0 := by simp [List.eraseDups_cons]
    have hreg : u.reg a = s.reg a := by
      refine (State.reg_setReg s _ _ _).trans ?_
      rw [hnone]
      split
      · next h => rw [h]; simp [wd]
      · rfl
    exact hreg

theorem outputApply_results {g : Fin 4} {p : FieldPub} {rest : List FieldPub} {s : State} (hpubs : s.field.pubs = p :: rest)
    (hdue : p.el + 11900 ≤ s.tb.el) (hheld : (mgetD s.field.side g {}).held = false) (hsafe : (mgetD s.field.side g {}).safe = false) :
    (g = 2 → p.loop = none → ∃ t, exec (.outputApply g 1) s = .next t ∧ t.field.outs = p.val ∧ t.field.loops = s.field.loops ∧ sameRegs s t [])
    ∧ (g = 3 → ∀ c, p.loop = some c → ∃ t, exec (.outputApply g 1) s = .next t ∧ mget t.field.loops c = some (loopUnits p.val).1
        ∧ t.field.outs = s.field.outs ∧ sameRegs s t []) := by
  refine ⟨fun hg hloop => ?_, fun hg c hloop => ?_⟩
  · obtain ⟨t, left, hrun, hfield, hsame⟩ := outputApply_one hpubs hdue hheld hsafe (by simp [pubOf, hg, hloop])
    have hset : p.apply { s.field with pubs := left } = { s.field with pubs := left, outs := p.val } := by simp only [FieldPub.apply, hloop]
    exact ⟨t, hrun, by rw [hfield, hset], by rw [hfield, hset], hsame⟩
  · obtain ⟨t, left, hrun, hfield, hsame⟩ := outputApply_one hpubs hdue hheld hsafe (by simp [pubOf, hg, hloop])
    have hset : p.apply { s.field with pubs := left } = { s.field with pubs := left, loops := mput s.field.loops c (loopUnits p.val).1 } := by
      simp only [FieldPub.apply, hloop]
    exact ⟨t, hrun, by rw [hfield, hset]; exact mget_mput_same _ _ _, by rw [hfield, hset], hsame⟩

/-! ### Reports of the inputs (R429) -/

theorem inputReports {n : Fin 32} {vin vfs : Nat} {s : State} :
    (s.regB (Reg.DIO_ICFG n) 31 = true → s.regB (Reg.DIO_ICFG n) 29 = true → s.belowBreak n vin vfs = true → mgetD s.field.diag n 0 = 0 →
      ∃ t, exec (.wireBreak n vin vfs) s = .next t ∧ t.regB Reg.DIO_IWB n = true ∧ t.inputValid n = false ∧ t.regB Reg.DIO_STK 2 = true
        ∧ t.regB Reg.DIO_INVL n = false ∧ t.regB Reg.DIO_INL n = false)
    ∧ (s.regB (Reg.DIO_ICFG n) 31 = true → s.regB (Reg.DIO_ICFG n) 28 = true → vfs ≤ vin + 1000 → mgetD s.field.diag n 0 = 0 →
      ∃ t, exec (.shortCircuit n vin vfs) s = .next t ∧ t.regB Reg.DIO_ISC n = true ∧ t.inputValid n = false ∧ t.regB Reg.DIO_STK 3 = true) := by
  refine ⟨fun hon hwb hbelow hsound => ?_, fun hon hsc hshort hsound => ?_⟩
  · obtain ⟨hinvalid, hstk, hinvl, hinl⟩ := setDiag_new s n.isLt hsound (d := 1) (by decide)
    exact ⟨_, congrArg Host.Outcome.next (if_pos (by simp [hon, hwb, hbelow])), (setDiag_results s n.isLt (d := 1) (by omega)).2.1, hinvalid, hstk,
      hinvl, hinl⟩
  · obtain ⟨hinvalid, hstk, -, -⟩ := setDiag_new s n.isLt hsound (d := 2) (by decide)
    exact ⟨_, congrArg Host.Outcome.next (if_pos (by simp [hon, hsc, hshort])), (setDiag_results s n.isLt (d := 2) (by omega)).2.2.1, hinvalid, hstk⟩

theorem inputFaultClear_results {n : Fin 32} {vin vfs : Nat} {s : State} :
    (s.belowBreak n vin vfs = false → mgetD s.field.diag n 0 = 1 →
      ∃ t, exec (.inputFaultClear n vin vfs) s = .next t ∧ mgetD t.field.diag n 0 = 0 ∧ t.regB Reg.DIO_IWB n = false)
    ∧ (vin + 1000 < vfs → mgetD s.field.diag n 0 = 2 →
      ∃ t, exec (.inputFaultClear n vin vfs) s = .next t ∧ mgetD t.field.diag n 0 = 0 ∧ t.regB Reg.DIO_ISC n = false) := by
  have hclear (h : 0 ≠ mgetD s.field.diag n 0) : mgetD (s.setDiag n 0).field.diag n 0 = 0 ∧ (s.setDiag n 0).regB Reg.DIO_IWB n = false
      ∧ (s.setDiag n 0).regB Reg.DIO_ISC n = false := by
    obtain ⟨hfield, hwb, hsc, -⟩ := setDiag_results s n.isLt h
    exact ⟨by rw [hfield]; exact mgetD_mput_same _ _ _ _, hwb, hsc⟩
  refine ⟨fun hgone hdiag => ?_, fun hgone hdiag => ?_⟩
  · obtain ⟨hd, hwb, -⟩ := hclear (by omega)
    refine ⟨s.setDiag n 0, congrArg Host.Outcome.next ?_, hd, hwb⟩
    simp only [hdiag, hgone]
    rfl
  · obtain ⟨hd, -, hsc⟩ := hclear (by omega)
    refine ⟨s.setDiag n 0, congrArg Host.Outcome.next ?_, hd, hsc⟩
    simp only [hdiag]
    exact if_pos (decide_eq_true hgone)

/-- Settles O45: frames, links, field sides and inputs, one lemma each. -/
theorem fieldLinksAndInputs : Obligations.FieldLinksAndInputs := by
  unfold Obligations.FieldLinksAndInputs
  exact ⟨fun _ _ _ _ hw => ⟨isoFrame_up hw, (isoFrame_invalid hw).1, (isoFrame_invalid hw).2, isoFrame_down hw⟩,
    fun _ _ => ⟨isoLinkLoss_results, isoLinkRestore_results⟩, fun _ _ hg => ⟨fieldHold_results hg, fieldSafe_results hg⟩,
    fun _ _ _ _ hpubs hdue hheld hsafe => outputApply_results hpubs hdue hheld hsafe,
    fun _ _ _ _ => ⟨inputReports.1, inputReports.2, inputFaultClear_results.1, inputFaultClear_results.2⟩⟩

end Sys2Proof.Machine
end

section
/-! PROOFS. Filter chains, the mains tracker and the encoders (R445 to R459); then the statement `Obligations.ChainAndEncoderResults`. -/
namespace Sys2Proof.Machine

open State (setBitR clrBitR setRegF regB regF Leaves)

/-! ### Chains: readings -/

@[simp] theorem chain_updChain_same (s : State) (c : Nat) (f : Chain → Chain) : (s.updChain c f).chain c = f (s.chain c) := mgetD_mput_same _ _ _ _

@[simp] theorem reg_updChain (s : State) (c : Nat) (f : Chain → Chain) (a : Nat) : (s.updChain c f).reg a = s.reg a := rfl

@[simp] theorem chain_setReg (s : State) (a : Nat) (v : Word) (c : Nat) : (s.setReg a v).chain c = s.chain c := (rfl)

@[simp] theorem chain_orBits (s : State) (a : Nat) (m : Word) (c : Nat) : (s.orBits a m).chain c = s.chain c := (rfl)

@[simp] theorem chain_produce (s : State) (cls i : Nat) (el : List Word) (c : Nat) : (s.produce cls i el).chain c = s.chain c := (rfl)

@[simp] theorem chain_putBitR (s : State) (a i : Nat) (b : Bool) (c : Nat) : (s.putBitR a i b).chain c = s.chain c := by cases b <;> rfl

@[simp] theorem chain_record (s : State) (n : RecName) (el : Nat) (l : List Nat) (c : Nat) : (s.record n el l).chain c = s.chain c := by
  rw [State.chain, dfc_record, State.chain]

/-- The chains and their ports. -/
def State.chainSide (u : State) : SMap Chain × (Nat → Word) := (u.dfc.chains, fun a => if 0x6800 ≤ a ∧ a < 0x6880 then u.reg a else 0)

theorem chainSide_reads {s t : State} (h : Leaves State.chainSide s t) :
    (∀ c, t.chain c = s.chain c) ∧ ∀ a, 0x6800 ≤ a → a < 0x6880 → t.reg a = s.reg a := by
  obtain ⟨hchain, hreg⟩ := Prod.ext_iff.1 h.eq
  refine ⟨fun c => congrArg (fun m : SMap Chain => mgetD m c ({} : Chain)) hchain, fun a h1 h2 => ?_⟩
  have hport := congrFun hreg a
  simpa [State.chainSide, h1, h2] using hport

theorem setReg_leaves_chainSide (s : State) {a : Nat} (v : Word) (h : 0x6880 ≤ a) : Leaves State.chainSide s (s.setReg a v) := by
  refine ⟨Prod.ext rfl (funext fun b => ?_)⟩
  dsimp only [State.chainSide]
  split
  · exact State.reg_setReg_ne s v (by omega)
  · rfl

/-! ### The mains tracker beside the chains (R453, R454) -/

theorem mainsInvalid_leaves_chainSide (s : State) : Leaves State.chainSide s s.mainsInvalid :=
  .after (t := s.clrBitR Reg.DFC_MPSTAT 31) ⟨rfl⟩ (setReg_leaves_chainSide s _ (by decide))

theorem mainsUpdate_leaves_chainSide (s : State) (y : Int) (age : Nat) : Leaves State.chainSide s (s.mainsUpdate y age) := by
  unfold State.mainsUpdate
  extract_lets phi cs amp0 amp den x
  split
  next pdn u hpair =>
    have hu : Leaves State.chainSide s u := by
      have hsnd := congrArg Prod.snd hpair
      dsimp only at hsnd
      rw [← hsnd]
      split <;> exact ⟨rfl⟩
    extract_lets kp ki om phi' v ok d w z c rate
    have hv : Leaves State.chainSide s v := .after (setReg_leaves_chainSide _ _ (by decide)) (.after (setReg_leaves_chainSide _ _ (by decide))
      (.after (setReg_leaves_chainSide _ _ (by decide)) hu))
    have hw : Leaves State.chainSide s w := .after (t := v) ⟨rfl⟩ hv
    exact .after (t := z) ⟨rfl⟩ (.ite hw (.after (mainsInvalid_leaves_chainSide w) hw))

theorem chainInvalid_leaves_chainSide (s : State) (c : Nat) : Leaves State.chainSide (s.clrBitR (Reg.DFC_STAT c) 31) (s.chainInvalid c) :=
  .ite (mainsInvalid_leaves_chainSide _) (.refl _)

theorem mainsPhaseValid_results {e : Nat} {s : State} (hok : s.dfc.okEl = some e) (hon : s.regB Reg.DFC_MPCFG 31 = true)
    (hdue : 1000000000 ≤ s.tb.el - e) :
    ∃ t, exec .mainsPhaseValid s = .next t ∧ t.regB Reg.DFC_MPSTAT 31 = true ∧ t.mains.valid = true ∧ sameRegs s t [Reg.DFC_MPSTAT] := by
  refine ⟨{ s.setBitR Reg.DFC_MPSTAT 31 with mains := { s.mains with valid := true } }, congrArg Host.Outcome.next ?_,
    (regB_setBitR s (by decide) _ _ _).trans (if_pos ⟨rfl, rfl⟩), rfl, sameRegs_setBitR s _ _⟩
  simp only [hok]
  exact if_pos (by simp [hon, hdue])

/-! ### An output of a chain (R445, R446) -/

/-- R445: the result of the bits of one output kept in the chain, with the mark of a saturation. -/
def State.chainComputed (s : State) (c : Nat) (x : Chain) (sat : Bool) : State :=
  if sat then (s.updChain c fun _ => x).setBitR (Reg.DFC_STK c) 0 else s.updChain c fun _ => x

/-- R446: a valid output delivered, before the tracker takes it. -/
def State.chainDelivered (s : State) (c : Nat) (out : Word) (age : Nat) : State :=
  ((((s.setBitR (Reg.DFC_STAT c) 31).clrBitR (Reg.DFC_STAT c) 30).bumpF (Reg.DFC_CNT c) 15 0).setReg (Reg.DFC_OUT c) out).produce 1 c
    [out, wd (s.tb.t - age)]

theorem chainComputed_results (s : State) (c : Nat) (x : Chain) (sat : Bool) : (s.chainComputed c x sat).chain c = x
    ∧ sameRegs s (s.chainComputed c x sat) [Reg.DFC_STK c] := by
  unfold State.chainComputed
  split
  · exact ⟨mgetD_mput_same _ _ _ _, sameRegs_setBitR (s.updChain c fun _ => x) _ _⟩
  · exact ⟨mgetD_mput_same _ _ _ _, fun _ _ _ => rfl⟩

theorem chainDelivered_results (s : State) {c : Nat} (hc : c < 16) (out : Word) (age : Nat) :
    (s.chainDelivered c out age).reg (Reg.DFC_OUT c) = out ∧ (s.chainDelivered c out age).regB (Reg.DFC_STAT c) 31 = true
      ∧ (s.chainDelivered c out age).regB (Reg.DFC_STAT c) 30 = false ∧ (s.chainDelivered c out age).chain c = s.chain c
      ∧ (s.chainDelivered c out age).regF (Reg.DFC_CNT c) 15 0 = (s.regF (Reg.DFC_CNT c) 15 0 + 1) % 65536 := by
  refine ⟨State.reg_setReg_same _ _ _, ?_, ?_, rfl, ?_⟩
  · simp (disch := lia) [State.chainDelivered, State.bumpF, setRegF, setBitR, clrBitR, regB]
  · simp (disch := lia) [State.chainDelivered, State.bumpF, setRegF, setBitR, clrBitR, regB]
  · simp (disch := lia) [State.chainDelivered, State.bumpF, setRegF, setBitR, clrBitR, regF, fld_setFld_same]

theorem compute_settle (x : Chain) (cfg dl : Word) (bits : List Bool) : (x.compute cfg dl bits).1.settle = x.settle := rfl

/-- R447: an output of a chain that settles is counted. -/
def State.chainSettled (s : State) (c : Nat) : State :=
  (s.bumpF (Reg.DFC_CNT c) 31 16).updChain c fun x => { x with settle := x.settle - 1 }

/-- R453: the tracker takes an output of its chain. -/
def State.mainsFollow (s : State) (c : Nat) (out : Word) (age : Nat) : State :=
  if s.regB Reg.DFC_MPCFG 31 && s.regF Reg.DFC_MPCFG 3 0 == c then s.mainsUpdate (sw out) age else s

theorem chainOutput_results {c : Fin 16} {bits : List Bool} {age : Nat} {s : State} :
    let y := (s.chain c).compute (s.reg (Reg.DFC_CFG c)) (s.reg (Reg.DFC_DL c)) bits
    s.regB (Reg.DFC_CFG c) 31 = true → (s.chain c).faults = [] → s.regB (Reg.DFC_STAT c) 29 = false → bits ≠ [] →
    bits.length = s.regF (Reg.DFC_CFG c) 12 0 → (s.chain c).swap = none → s.domainOut 13 = false → s.chainDelayed c age = true →
    (∀ q, (s.chain c).settle = q + 1 → ∃ t, exec (.chainOutput c bits age) s = .next t ∧ (t.chain c).settle = q
        ∧ (t.chain c).xs = y.1.xs ∧ (t.chain c).ints = y.1.ints ∧ sameRegs s t [Reg.DFC_CNT c, Reg.DFC_STK c]
        ∧ t.regF (Reg.DFC_CNT c) 31 16 = (s.regF (Reg.DFC_CNT c) 31 16 + 1) % 65536)
    ∧ ((s.chain c).settle = 0 → ∃ t, exec (.chainOutput c bits age) s = .next t ∧ t.reg (Reg.DFC_OUT c) = y.2.1
        ∧ t.regB (Reg.DFC_STAT c) 31 = true ∧ t.regB (Reg.DFC_STAT c) 30 = false ∧ (t.chain c).m = y.1.m
        ∧ t.regF (Reg.DFC_CNT c) 15 0 = (s.regF (Reg.DFC_CNT c) 15 0 + 1) % 65536) := by
  intro y hon hsound hwait hbits hlen hswap hclock hdelay
  obtain ⟨u, hu⟩ : ∃ u, u = s.chainComputed c y.1 y.2.2 := ⟨_, rfl⟩
  have hrun : exec (.chainOutput c bits age) s
      = .next (if 0 < y.1.settle then u.chainSettled c else (u.chainDelivered c y.2.1 age).mainsFollow c y.2.1 age) := by
    have htake : s.firTake c = s := by simp only [State.firTake, hswap]
    have hguard : (bit (s.reg (Reg.DFC_CFG c)) 31 && !(s.domainOut 13) && (s.chain c).faults.isEmpty && !(s.regB (Reg.DFC_STAT c) 29)
        && bits.length == fld (s.reg (Reg.DFC_CFG c)) 12 0 && !bits.isEmpty && s.chainDelayed c age) = true := by
      have h31 : bit (s.reg (Reg.DFC_CFG c)) 31 = true := hon
      have hlen' : bits.length = fld (s.reg (Reg.DFC_CFG c)) 12 0 := hlen
      simp [h31, hclock, hsound, hwait, ← hlen', hbits, hdelay]
    refine congrArg Host.Outcome.next ((if_pos hguard).trans ?_)
    rw [htake, hu]
    rfl
  obtain ⟨hchain, hregs⟩ : u.chain c = y.1 ∧ sameRegs s u [Reg.DFC_STK c] := by rw [hu]; exact chainComputed_results s c y.1 y.2.2
  have hcnt : u.reg (Reg.DFC_CNT c) = s.reg (Reg.DFC_CNT c) := hregs _ (by simp) (not_recorderPort (by lia))
  have hsettle : y.1.settle = (s.chain c).settle := compute_settle _ _ _ _
  clear hu
  rw [hrun, hsettle]
  refine ⟨fun q hq => ⟨_, congrArg Host.Outcome.next (if_pos (by omega)), ?_⟩, fun hq =>
    ⟨_, congrArg Host.Outcome.next (if_neg (by omega)), ?_⟩⟩
  · have hch : (u.chainSettled c).chain c = { y.1 with settle := y.1.settle - 1 } := by
      rw [← hchain]
      exact chain_updChain_same _ _ _
    refine ⟨(congrArg Chain.settle hch).trans (by rw [hsettle, hq]; rfl), (congrArg Chain.xs hch).trans rfl, (congrArg Chain.ints hch).trans rfl,
      sameRegs_trans (sameRegs_widen hregs (by simp)) (sameRegs_widen (sameRegs_setReg u (Reg.DFC_CNT c) _) (by simp)), ?_⟩
    exact (regF_setRegF_same u _ _ (by decide) (by decide)).trans (congrArg (fun w => (fld w 31 16 + 1) % 65536) hcnt)
  · obtain ⟨hout, hvalid, hsettled, hkept, hcount⟩ := chainDelivered_results u c.isLt y.2.1 age
    have hleaves : Leaves State.chainSide (u.chainDelivered c y.2.1 age) ((u.chainDelivered c y.2.1 age).mainsFollow c y.2.1 age) :=
      .ite (mainsUpdate_leaves_chainSide _ _ _) (.refl _)
    obtain ⟨hch, hport⟩ := chainSide_reads hleaves
    exact ⟨(hport _ (by lia) (by lia)).trans hout, (congrArg (bit · 31) (hport _ (by lia) (by lia))).trans hvalid,
      (congrArg (bit · 30) (hport _ (by lia) (by lia))).trans hsettled, congrArg Chain.m ((hch c).trans (hkept.trans hchain)),
      (congrArg (fld · 15 0) (hport _ (by lia) (by lia))).trans (hcount.trans (congrArg (fun w => (fld w 15 0 + 1) % 65536) hcnt))⟩

/-! ### Faults of a chain (R448) -/

theorem chainFault_first {s : State} {c cause : Nat} (hc : c < 16) (hcause : cause < 2) (h : (s.chain c).faults = []) :
    ((s.chainFault c cause).chain c).faults = [cause] ∧ (s.chainFault c cause).regB (Reg.DFC_STAT c) 31 = false
      ∧ (s.chainFault c cause).regB (Reg.DFC_STK c) (1 + cause) = true := by
  let u := ((s.setBitR (Reg.DFC_STK c) (1 + cause)).record .dfcFault c [c, cause]).updChain c fun x => { x with faults := x.faults ++ [cause] }
  have hrun : s.chainFault c cause = u.chainInvalid c := by
    unfold State.chainFault
    simp only [h]
    rfl
  obtain ⟨hch, hport⟩ := chainSide_reads (chainInvalid_leaves_chainSide u c)
  rw [hrun]
  refine ⟨?_, (congrArg (bit · 31) (hport _ (by lia) (by lia))).trans ?_, (congrArg (bit · (1 + cause)) (hport _ (by lia) (by lia))).trans ?_⟩
  · rw [hch]
    simp [u, clrBitR, setBitR, h]
  · simp [clrBitR]
  · simp (disch := lia) [u, clrBitR, setBitR]

theorem chainFaults {c : Fin 16} {s : State} (hon : s.regB (Reg.DFC_CFG c) 31 = true) :
    ((s.chain c).faults = [] → ∃ t, exec (.chainStuck c) s = .next t ∧ (t.chain c).faults = [0] ∧ t.regB (Reg.DFC_STAT c) 31 = false
        ∧ t.regB (Reg.DFC_STK c) 1 = true)
    ∧ (s.regB (Reg.DFC_CFG c) 29 = true ∨ s.dfc.stopped = true → (s.chain c).faults = [] →
        ∃ t, exec (.chainClkloss c) s = .next t ∧ (t.chain c).faults = [1] ∧ t.regB (Reg.DFC_STAT c) 31 = false
          ∧ t.regB (Reg.DFC_STK c) 2 = true) :=
  ⟨fun h => ⟨_, congrArg Host.Outcome.next (if_pos hon), chainFault_first c.isLt (by decide) h⟩,
    fun hclk h => ⟨_, congrArg Host.Outcome.next (if_pos (by simp [hon, hclk])), chainFault_first c.isLt (by decide) h⟩⟩

theorem chainStart_results (s : State) {c : Nat} (hc : c < 16) : (s.chainStart c).regB (Reg.DFC_STAT c) 30 = true
    ∧ ((s.chainStart c).chain c).faults = (s.chain c).faults ∧ ((s.chainStart c).chain c).settle = s.regF (Reg.DFC_CFG c) 26 24 + 32
    ∧ ((s.chainStart c).chain c).xs = [] := by
  unfold State.chainStart
  extract_lets cfg order u v
  obtain ⟨hch, hport⟩ := chainSide_reads (chainInvalid_leaves_chainSide s c)
  have hv : v.regB (Reg.DFC_STAT c) 30 = true :=
    (regB_putBitR_other _ (by decide) _ fun _ => by decide).trans (regB_putBitR_same _ (by decide) _)
  refine ⟨hv, ?_, congrArg Chain.settle (chain_updChain_same v c _), by rw [chain_updChain_same]⟩
  rw [chain_updChain_same]
  simp only [v, u, chain_putBitR, hch]
  rfl

theorem chainFaultEnd_results {c : Fin 16} {cause : Fin 2} {s : State} (hfault : (s.chain c).faults = [cause.val])
    (hclk : cause.val = 0 ∨ s.regB (Reg.DFC_CFG c) 29 = true ∨ s.dfc.stopped = false) :
    ∃ t, exec (.chainFaultEnd c cause) s = .next t ∧ (t.chain c).faults = [] ∧ t.regB (Reg.DFC_STAT c) 30 = true
      ∧ (t.chain c).settle = s.regF (Reg.DFC_CFG c) 26 24 + 32 ∧ (t.chain c).xs = [] := by
  let u := s.updChain c fun x => { x with faults := x.faults.filter (fun q => q != cause.val) }
  have hnone : (u.chain c).faults = [] := by simp [u, hfault]
  have hlost : (cause.val == 1 && !(s.regB (Reg.DFC_CFG c) 29) && s.dfc.stopped) = false := by
    rcases hclk with h | h | h <;> simp [h]
  have hguard : ((s.chain c).faults.contains cause.val && !(cause.val == 1 && !(s.regB (Reg.DFC_CFG c) 29) && s.dfc.stopped)) = true := by
    rw [hlost, hfault]
    simp
  obtain ⟨hstat, hfaults, hsettle, hxs⟩ := chainStart_results u c.isLt
  refine ⟨u.chainStart c, congrArg Host.Outcome.next ((if_pos hguard).trans (if_pos ?_)), hfaults.trans hnone, hstat, hsettle, hxs⟩
  exact List.isEmpty_iff.2 hnone

/-! ### Encoders: readings -/

@[simp] theorem encCh_updEnc_same (s : State) (e : Nat) (f : EncChannel → EncChannel) : (s.updEnc e f).encCh e = f (s.encCh e) :=
  mgetD_mput_same _ _ _ _

@[simp] theorem reg_updEnc (s : State) (e : Nat) (f : EncChannel → EncChannel) (a : Nat) : (s.updEnc e f).reg a = s.reg a := rfl

@[simp] theorem encCh_setReg (s : State) (a : Nat) (v : Word) (e : Nat) : (s.setReg a v).encCh e = s.encCh e := (rfl)

@[simp] theorem encCh_orBits (s : State) (a : Nat) (m : Word) (e : Nat) : (s.orBits a m).encCh e = s.encCh e := (rfl)

@[simp] theorem encCh_record (s : State) (n : RecName) (el : Nat) (l : List Nat) (e : Nat) : (s.record n el l).encCh e = s.encCh e := by
  rw [State.encCh, enc_record, State.encCh]

/-- The encoder channels and their ports. -/
def State.encSide (u : State) : SMap EncChannel × (Nat → Word) := (u.enc, fun a => if 0x6C00 ≤ a ∧ a < 0x6C80 then u.reg a else 0)

theorem encSide_reads {s t : State} (h : Leaves State.encSide s t) :
    (∀ e, t.encCh e = s.encCh e) ∧ ∀ a, 0x6C00 ≤ a → a < 0x6C80 → t.reg a = s.reg a := by
  obtain ⟨henc, hreg⟩ := Prod.ext_iff.1 h.eq
  refine ⟨fun e => congrArg (fun m : SMap EncChannel => mgetD m e ({} : EncChannel)) henc, fun a h1 h2 => ?_⟩
  have hport := congrFun hreg a
  simpa [State.encSide, h1, h2] using hport

/-! ### Axes that follow an encoder (R142) -/

theorem setBitR_leaves_encSide (s : State) {a : Nat} (i : Nat) (h : a < 0x6C00) : Leaves State.encSide s (s.setBitR a i) := by
  refine ⟨Prod.ext rfl (funext fun b => ?_)⟩
  dsimp only [State.encSide]
  split
  · exact State.reg_orBits_ne s _ (by omega)
  · rfl

theorem record_leaves_encSide (s : State) (n : RecName) (el : Nat) (items : List Nat) : Leaves State.encSide s (s.record n el items) := by
  refine ⟨Prod.ext (enc_record s n el items) (funext fun b => ?_)⟩
  dsimp only [State.encSide]
  split
  · exact reg_record_outside s n el items (by omega)
  · rfl

theorem evalAxis_leaves_encSide (s : State) (n : Nat) (jump : Bool) : Leaves State.encSide s (s.evalAxis n jump) :=
  .after (.foldl fun _ _ => ⟨rfl⟩) (.foldl fun _ _ => ⟨rfl⟩)

theorem moveAxis_leaves_encSide (s : State) (n : Nat) (pos : Word) : Leaves State.encSide s (s.moveAxis n pos) := by
  unfold State.moveAxis
  extract_lets -lift +onlyGivenNames old d jump u v w
  have hv : Leaves State.encSide s v := .ite (.after (setBitR_leaves_encSide u _ (by decide)) ⟨rfl⟩) ⟨rfl⟩
  have hw : Leaves State.encSide s w := .ite (.after (record_leaves_encSide _ _ _ _) (.after (setBitR_leaves_encSide v _ (by decide)) hv)) hv
  exact .after (evalAxis_leaves_encSide w n jump) hw

theorem encoderAxes_leaves_encSide (s : State) (e : Nat) : Leaves State.encSide s (s.encoderAxes e) :=
  .foldl fun u _ => .ite (.ite (.after (moveAxis_leaves_encSide _ _ _) ⟨rfl⟩) (.refl u)) (.refl u)

/-! ### A sample delivered (R455, R456) -/

/-- R455: a sample of position `p` and velocity `v` kept and produced, before the axes follow it. -/
def State.encSampled (s : State) (e : Nat) (p v : Word) (t : Nat) : State :=
  (((s.updEnc e fun x => { x with hist := ((p, s.tb.el) :: x.hist).take 16 }).setReg (Reg.ENC_POS e) p).setReg (Reg.ENC_VEL e) v).produce 2 e
    [p, v, wd t]

theorem encDeliver_eq (s : State) (e : Nat) (p : Word) (t : Nat) :
    s.encDeliver e p t = ((s.encVelocity e p).2.encSampled e p (s.encVelocity e p).1 t).encoderAxes e := rfl

theorem encVelocity_leaves (s : State) (e : Nat) (p : Word) : Leaves State.encSide s (s.encVelocity e p).2 := by
  unfold State.encVelocity
  extract_lets -lift +onlyGivenNames vn
  split
  · exact .refl s
  · extract_lets -lift +onlyGivenNames dt
    split
    · exact ⟨rfl⟩
    · exact .refl s

theorem encVelocity_of_hist {s : State} {e : Nat} {p q : Word} {el : Nat} (hvn : s.regF (Reg.ENC_CFG e) 11 8 ≠ 0)
    (hhist : (s.encCh e).hist[s.regF (Reg.ENC_CFG e) 11 8 - 1]? = some (q, el)) (hlater : el < s.tb.el) :
    (s.encVelocity e p).1 = sat32 (rquo (turnDiff p q * 60000000000) (((s.tb.el - el) * 65536 : Nat))) := by
  unfold State.encVelocity
  simp only [hvn, if_false, hhist]
  rw [if_neg (by omega)]

theorem encDeliver_results (s : State) {e : Nat} (he : e < 8) (p : Word) (t : Nat) :
    (s.encDeliver e p t).reg (Reg.ENC_POS e) = p ∧ (s.encDeliver e p t).reg (Reg.ENC_VEL e) = (s.encVelocity e p).1
      ∧ (∃ l, (s.encDeliver e p t).encCh e = { s.encCh e with hist := l })
      ∧ ∀ a, 0x6C00 ≤ a → a < 0x6C80 → a ≠ Reg.ENC_POS e → a ≠ Reg.ENC_VEL e → (s.encDeliver e p t).reg a = s.reg a := by
  obtain ⟨hch, hport⟩ := encSide_reads (encoderAxes_leaves_encSide ((s.encVelocity e p).2.encSampled e p (s.encVelocity e p).1 t) e)
  obtain ⟨hch', hport'⟩ := encSide_reads (encVelocity_leaves s e p)
  have hsample : ((s.encVelocity e p).2.encSampled e p (s.encVelocity e p).1 t).encCh e
      = { (s.encVelocity e p).2.encCh e with hist := ((p, (s.encVelocity e p).2.tb.el) :: ((s.encVelocity e p).2.encCh e).hist).take 16 } :=
    mgetD_mput_same _ _ _ _
  rw [encDeliver_eq]
  refine ⟨(hport _ (by lia) (by lia)).trans ((State.reg_setReg_ne _ _ (by lia)).trans (State.reg_setReg_same _ _ _)),
    (hport _ (by lia) (by lia)).trans (State.reg_setReg_same _ _ _), ⟨_, by rw [hch, hsample, hch']⟩, fun a h1 h2 h3 h4 => ?_⟩
  exact (hport a h1 h2).trans ((State.reg_setReg_ne _ _ h4).trans ((State.reg_setReg_ne _ _ h3).trans (hport' a h1 h2)))

/-! ### Faults and validity of a channel (R458, R460) -/

/-- R460: the first fault of a channel noted in ENC_STK and recorded. -/
def State.encNoted (s : State) (e b : Nat) : State :=
  if (s.encCh e).fault then s else (s.setBitR (Reg.ENC_STK e) b).record .encFault e [e, b]

/-- R458, R460: the fault of a channel kept, before an incremental channel loses its reference. -/
def State.encFaulted (s : State) (e b : Nat) : State :=
  ((s.encNoted e b).clrBitR (Reg.ENC_STAT e) 31).updEnc e fun x => { x with fault := true, faultEl := (s.encNoted e b).tb.el, hist := [] }

theorem encFault_eq (s : State) (e b : Nat) : s.encFault e b = if (s.encFaulted e b).encSsi e then s.encFaulted e b
    else if (s.encFaulted e b).regB (Reg.ENC_CFG e) 29 then (s.encFaulted e b).clrBitR (Reg.ENC_STAT e) 30
    else (s.encFaulted e b).setBitR (Reg.ENC_STK e) 5 := rfl

theorem encNoted_leaves (s : State) (e b : Nat) : (s.encNoted e b).encCh e = s.encCh e ∧ (s.encNoted e b).tb = s.tb
    ∧ ∀ a, a ≠ Reg.ENC_STK e → a < 0x8000 → (s.encNoted e b).reg a = s.reg a := by
  unfold State.encNoted
  split
  · exact ⟨rfl, rfl, fun _ _ _ => rfl⟩
  · exact ⟨encCh_record _ _ _ _ _, tb_record _ _ _ _, fun a h1 h2 => (reg_record_outside _ _ _ _ (.inl h2)).trans (State.reg_orBits_ne s _ h1)⟩

theorem encFaulted_results (s : State) (e b : Nat) : (s.encFaulted e b).regB (Reg.ENC_STAT e) 31 = false
    ∧ (s.encFaulted e b).encCh e = { s.encCh e with fault := true, faultEl := s.tb.el, hist := [] }
    ∧ ∀ a, a ≠ Reg.ENC_STAT e → a ≠ Reg.ENC_STK e → a < 0x8000 → (s.encFaulted e b).reg a = s.reg a := by
  obtain ⟨hch, htb, hreg⟩ := encNoted_leaves s e b
  refine ⟨(regB_clrBitR _ (by decide) _ _ _).trans (if_pos ⟨rfl, rfl⟩), ?_, fun a h1 h2 h3 => (State.reg_setReg_ne _ _ h1).trans (hreg a h2 h3)⟩
  rw [← hch, ← htb]
  exact encCh_updEnc_same _ _ _

theorem encFault_results (s : State) {e : Nat} (b : Nat) (he : e < 8) : (s.encFault e b).regB (Reg.ENC_STAT e) 31 = false
    ∧ (s.encFault e b).encCh e = { s.encCh e with fault := true, faultEl := s.tb.el, hist := [] }
    ∧ (∀ a, a ≠ Reg.ENC_STAT e → a ≠ Reg.ENC_STK e → a < 0x8000 → (s.encFault e b).reg a = s.reg a)
    ∧ (s.encSsi e = false → s.regB (Reg.ENC_CFG e) 29 = true → (s.encFault e b).regB (Reg.ENC_STAT e) 30 = false) := by
  obtain ⟨hinvalid, hch, hreg⟩ := encFaulted_results s e b
  have hcfg (i : Nat) : (s.encFaulted e b).regB (Reg.ENC_CFG e) i = s.regB (Reg.ENC_CFG e) i :=
    congrArg (bit · i) (hreg _ (by lia) (by lia) (by lia))
  rw [encFault_eq, State.encSsi, hcfg, hcfg]
  split
  · next h => exact ⟨hinvalid, hch, hreg, fun hno => absurd h (ne_true_of_eq_false hno)⟩
  split
  · exact ⟨regB_clrBitR_of_clear _ hinvalid, hch, fun a h1 h2 h3 => (State.reg_setReg_ne _ _ h1).trans (hreg a h1 h2 h3),
      fun _ _ => (regB_clrBitR _ (by decide) _ _ _).trans (if_pos ⟨rfl, rfl⟩)⟩
  · next h => exact ⟨(regB_setBitR_other _ _ _ (by lia)).trans hinvalid, hch,
      fun a h1 h2 h3 => (State.reg_orBits_ne _ _ h2).trans (hreg a h1 h2 h3), fun _ hz => absurd hz h⟩

theorem encValid_results (s : State) (e : Nat) : (s.encValid e).regB (Reg.ENC_STAT e) 31 = true
    ∧ (∃ l, (s.encValid e).encCh e = { s.encCh e with fault := false, hist := l })
    ∧ ∀ a i, (a = Reg.ENC_STAT e → i ≠ 31) → (s.encValid e).regB a i = s.regB a i := by
  refine ⟨(regB_setBitR s (by decide) _ _ _).trans (if_pos ⟨rfl, rfl⟩), ⟨_, mgetD_mput_same _ _ _ _⟩, fun a i h => ?_⟩
  exact (regB_setBitR s (by decide) _ _ _).trans (if_neg fun hp => h hp.1 hp.2)

theorem reg_encValid (s : State) {e a : Nat} (h : a ≠ Reg.ENC_STAT e) : (s.encValid e).reg a = s.reg a := State.reg_orBits_ne s _ h

/-! ### Samples (R455, R456) -/

theorem encoderSample_results {e : Fin 8} {s : State} (hon : s.regB (Reg.ENC_CFG e) 31 = true) (hgrid : s.regB (Reg.ENC_SMP e) 31 = false)
    (hper : s.regF (Reg.ENC_SMP e) 19 0 ≠ 0)
    (hdue : (s.encCh e).lastT / (s.regF (Reg.ENC_SMP e) 19 0 * 1000) < s.tb.t / (s.regF (Reg.ENC_SMP e) 19 0 * 1000)) :
    (s.encSsi e = false → s.regB (Reg.ENC_STAT e) 31 = true → ∃ t, exec (.encoderSample e) s = .next t
        ∧ t.reg (Reg.ENC_POS e) = encPos (s.encCh e).r (s.reg (Reg.ENC_CPR e)).toNat ∧ (t.encCh e).lastT = s.tb.t
        ∧ ∀ q el, s.regF (Reg.ENC_CFG e) 11 8 ≠ 0 → (s.encCh e).hist[s.regF (Reg.ENC_CFG e) 11 8 - 1]? = some (q, el) → el < s.tb.el →
            t.reg (Reg.ENC_VEL e) = sat32 (rquo (turnDiff (t.reg (Reg.ENC_POS e)) q * 60000000000) (((s.tb.el - el) * 65536 : Nat))))
    ∧ (s.encSsi e = true → (s.encCh e).read = none → ∃ t, exec (.encoderSample e) s = .next t
        ∧ ((t.encCh e).read.map (fun q => q.2)) = some s.tb.el ∧ t.regs = s.regs)
    ∧ (s.encSsi e = true → (s.encCh e).read.isSome = true → ∃ t, exec (.encoderSample e) s = .next t ∧ (t.encCh e).fault = true
        ∧ t.regB (Reg.ENC_STAT e) 31 = false) := by
  let per := s.regF (Reg.ENC_SMP e) 19 0 * 1000
  let u := s.updEnc e fun x => { x with lastT := s.tb.t, due := false }
  let t0 := s.tb.t / per * per
  have hrun : exec (.encoderSample e) s = .next (if u.encSsi e then
        if (s.encCh e).read.isSome then (u.encFault e 4).updEnc e (fun x => { x with overrun := true })
        else u.updEnc e (fun x => { x with read := some (t0, u.tb.el), overrun := false })
      else if u.regB (Reg.ENC_STAT e) 31 then u.encDeliver e (encPos (s.encCh e).r (u.reg (Reg.ENC_CPR e)).toNat) t0
      else u) := by
    have hnow : (per != 0 && decide ((s.encCh e).lastT / per < s.tb.t / per)) = true := by
      have hne : per ≠ 0 := Nat.mul_ne_zero hper (by decide)
      simp [hne, per, hdue]
    refine congrArg Host.Outcome.next ?_
    simp only [hgrid, hon, Bool.false_eq_true, if_false]
    exact if_pos hnow
  have hch : u.encCh e = { s.encCh e with lastT := s.tb.t, due := false } := mgetD_mput_same _ _ _ _
  refine ⟨fun hinc hvalid => ?_, fun hssi hnone => ?_, fun hssi hread => ?_⟩
  · obtain ⟨hpos, hvel, ⟨l, hl⟩, -⟩ := encDeliver_results u e.isLt (encPos (s.encCh e).r (u.reg (Reg.ENC_CPR e)).toNat) t0
    refine ⟨_, hrun.trans (congrArg Host.Outcome.next ((if_neg (ne_true_of_eq_false hinc)).trans (if_pos hvalid))), hpos,
      (congrArg EncChannel.lastT hl).trans (congrArg EncChannel.lastT hch), fun q el hvn hhist hlater => ?_⟩
    rw [hvel, hpos]
    exact encVelocity_of_hist (s := u) hvn ((congrArg (fun x : EncChannel => x.hist[u.regF (Reg.ENC_CFG e) 11 8 - 1]?) hch).trans hhist) hlater
  · have hfree : ¬ (s.encCh e).read.isSome = true := by rw [hnone]; exact Bool.false_ne_true
    exact ⟨_, hrun.trans (congrArg Host.Outcome.next ((if_pos hssi).trans (if_neg hfree))),
      congrArg (fun x : EncChannel => x.read.map fun q => q.2) (encCh_updEnc_same u e _), rfl⟩
  · obtain ⟨hinvalid, hfault, -⟩ := encFault_results u 4 e.isLt
    exact ⟨_, hrun.trans (congrArg Host.Outcome.next ((if_pos hssi).trans (if_pos hread))),
      (congrArg EncChannel.fault (encCh_updEnc_same _ _ _)).trans (congrArg EncChannel.fault hfault), hinvalid⟩

/-! ### Edges, the index, line faults (R457, R458) -/

/-- R457: the counter of channel `e` steps to `r`, ENC_CNT to `cnt`, with the levels of A and B. -/
def State.encStep (s : State) (e : Nat) (a b : Bool) (r : Nat) (cnt : Word) : State :=
  ((s.updEnc e fun x => { x with a := a, b := b }).updEnc e fun x => { x with r := r }).setReg (Reg.ENC_CNT e) cnt

theorem encStep_results (s : State) (e : Nat) (a b : Bool) (r : Nat) (cnt : Word) : (s.encStep e a b r cnt).reg (Reg.ENC_CNT e) = cnt
    ∧ (s.encStep e a b r cnt).encCh e = { s.encCh e with a := a, b := b, r := r } ∧ sameRegs s (s.encStep e a b r cnt) [Reg.ENC_CNT e] := by
  refine ⟨State.reg_setReg_same _ _ _, ?_, sameRegs_setReg ((s.updEnc e fun x => { x with a := a, b := b }).updEnc e fun x => { x with r := r }) _ _⟩
  exact (encCh_updEnc_same (s.updEnc e fun x => { x with a := a, b := b }) e fun x => { x with r := r }).trans
    (congrArg (fun x : EncChannel => { x with r := r }) (encCh_updEnc_same s e fun x => { x with a := a, b := b }))

theorem quadratureEdge_results {e : Fin 8} {a b : Bool} {s : State} (hon : s.regB (Reg.ENC_CFG e) 31 = true) (hinc : s.encSsi e = false) :
    let d := (quadPhase a b + 4 - quadPhase (s.encCh e).a (s.encCh e).b) % 4
    (d = 1 → s.regB (Reg.ENC_CFG e) 26 = false → ∃ t, exec (.quadratureEdge e a b) s = .next t
        ∧ t.reg (Reg.ENC_CNT e) = s.reg (Reg.ENC_CNT e) + 1 ∧ (t.encCh e).a = a ∧ (t.encCh e).b = b ∧ sameRegs s t [Reg.ENC_CNT e]
        ∧ (t.encCh e).r = if (s.encCh e).r + 1 < (s.reg (Reg.ENC_CPR e)).toNat then (s.encCh e).r + 1 else 0)
    ∧ (d = 3 → s.regB (Reg.ENC_CFG e) 26 = false → ∃ t, exec (.quadratureEdge e a b) s = .next t
        ∧ t.reg (Reg.ENC_CNT e) = s.reg (Reg.ENC_CNT e) - 1 ∧ sameRegs s t [Reg.ENC_CNT e]
        ∧ (t.encCh e).r = if (s.encCh e).r = 0 then (s.reg (Reg.ENC_CPR e)).toNat - 1 else (s.encCh e).r - 1)
    ∧ (d = 2 → ∃ t, exec (.quadratureEdge e a b) s = .next t ∧ (t.encCh e).r = (s.encCh e).r ∧ t.regB (Reg.ENC_STAT e) 31 = false
        ∧ t.regF (Reg.ENC_NERR e) 31 16 = (s.regF (Reg.ENC_NERR e) 31 16 + 1) % 65536) := by
  intro d
  have hidle (hd : d ≠ 0) : ¬ (!(s.regB (Reg.ENC_CFG e) 31) || s.encSsi e || d == 0) = true := by simp [hon, hinc, hd]
  have hcount (up : Bool) (hdir : s.regB (Reg.ENC_CFG e) 26 = false) (hd : d = if up then 1 else 3) : exec (.quadratureEdge e a b) s
      = .next (s.encStep e a b (if up then (if (s.encCh e).r + 1 < (s.reg (Reg.ENC_CPR e)).toNat then (s.encCh e).r + 1 else 0)
          else (if (s.encCh e).r = 0 then (s.reg (Reg.ENC_CPR e)).toNat - 1 else (s.encCh e).r - 1))
        (if up then s.reg (Reg.ENC_CNT e) + 1 else s.reg (Reg.ENC_CNT e) - 1)) := by
    have hup : (xor (d == 1) ((s.updEnc e fun x => { x with a := a, b := b }).regB (Reg.ENC_CFG e) 26)) = up := by
      have hdir' : (s.updEnc e fun x => { x with a := a, b := b }).regB (Reg.ENC_CFG e) 26 = false := hdir
      rw [hdir', hd]
      cases up <;> rfl
    have hd2 : ¬ d = 2 := by rw [hd]; cases up <;> decide
    refine congrArg Host.Outcome.next ((if_neg (hidle (by rw [hd]; cases up <;> decide))).trans ((if_neg hd2).trans ?_))
    rw [← hup]
    rfl
  refine ⟨fun h1 hdir => ?_, fun h3 hdir => ?_, fun h2 => ?_⟩
  · obtain ⟨hcnt, hch, hregs⟩ := encStep_results s e a b (if (s.encCh e).r + 1 < (s.reg (Reg.ENC_CPR e)).toNat then (s.encCh e).r + 1 else 0)
      (s.reg (Reg.ENC_CNT e) + 1)
    exact ⟨_, hcount true hdir h1, hcnt, congrArg EncChannel.a hch, congrArg EncChannel.b hch, hregs, congrArg EncChannel.r hch⟩
  · obtain ⟨hcnt, hch, hregs⟩ := encStep_results s e a b (if (s.encCh e).r = 0 then (s.reg (Reg.ENC_CPR e)).toNat - 1 else (s.encCh e).r - 1)
      (s.reg (Reg.ENC_CNT e) - 1)
    exact ⟨_, hcount false hdir h3, hcnt, hregs, congrArg EncChannel.r hch⟩
  · obtain ⟨hinvalid, hch, hreg, -⟩ := encFault_results ((s.updEnc e fun x => { x with a := a, b := b }).bumpF (Reg.ENC_NERR e) 31 16) 1 e.isLt
    have hr : ((s.updEnc e fun x => { x with a := a, b := b }).encCh e).r = (s.encCh e).r :=
      (congrArg EncChannel.r (encCh_updEnc_same s e fun x => { x with a := a, b := b })).trans rfl
    refine ⟨_, congrArg Host.Outcome.next ((if_neg (hidle (by omega))).trans (if_pos h2)), (congrArg EncChannel.r hch).trans hr, hinvalid, ?_⟩
    exact (congrArg (fld · 31 16) (hreg _ (by lia) (by lia) (by lia))).trans (regF_setRegF_same _ _ _ (by decide) (by decide))

theorem zEdge_results {e : Fin 8} {s : State} (hon : s.regB (Reg.ENC_CFG e) 31 = true) (hinc : s.encSsi e = false)
    (hz : s.regB (Reg.ENC_CFG e) 29 = true) (hhome : s.regB (Reg.ENC_STAT e) 30 = false) :
    ∃ t, exec (.zEdge e) s = .next t ∧ (t.encCh e).r = (s.reg (Reg.ENC_ZOFS e)).toNat ∧ t.regB (Reg.ENC_STAT e) 30 = true
      ∧ t.regB (Reg.ENC_STAT e) 31 = true ∧ (t.encCh e).fault = false := by
  let u := (s.updEnc e fun x => { x with r := (s.reg (Reg.ENC_ZOFS e)).toNat }).setBitR (Reg.ENC_STAT e) 30
  obtain ⟨hvalid, ⟨l, hl⟩, hbit⟩ := encValid_results u e
  have hhomed : u.regB (Reg.ENC_STAT e) 30 = true := (regB_setBitR _ (by decide) _ _ _).trans (if_pos ⟨rfl, rfl⟩)
  refine ⟨u.encValid e, congrArg Host.Outcome.next ((if_pos ?_).trans (if_neg (ne_true_of_eq_false hhome))), ?_,
    (hbit _ _ fun _ => by decide).trans hhomed, hvalid, congrArg EncChannel.fault hl⟩
  · simp [hon, hinc, hz]
  · have hr : (u.encCh e).r = (s.reg (Reg.ENC_ZOFS e)).toNat :=
      congrArg EncChannel.r (encCh_updEnc_same s e fun x => { x with r := (s.reg (Reg.ENC_ZOFS e)).toNat })
    exact (congrArg EncChannel.r hl).trans hr

theorem encoderFaults {e : Fin 8} {s : State} (hon : s.regB (Reg.ENC_CFG e) 31 = true) (hinc : s.encSsi e = false) :
    (∃ t, exec (.encoderLineFault e) s = .next t ∧ t.regB (Reg.ENC_STAT e) 31 = false ∧ (t.encCh e).fault = true
      ∧ (s.regB (Reg.ENC_CFG e) 29 = true → t.regB (Reg.ENC_STAT e) 30 = false))
    ∧ (s.regB (Reg.ENC_CFG e) 29 = false → (s.encCh e).fault = true → 10000000 ≤ s.tb.el - (s.encCh e).faultEl →
      ∃ t, exec (.encoderFaultEnd e) s = .next t ∧ t.regB (Reg.ENC_STAT e) 31 = true ∧ (t.encCh e).fault = false) := by
  obtain ⟨hinvalid, hch, -, hhome⟩ := encFault_results s 0 e.isLt
  obtain ⟨hvalid, ⟨l, hl⟩, -⟩ := encValid_results s e
  exact ⟨⟨_, congrArg Host.Outcome.next (if_pos (by simp [hon, hinc])), hinvalid, congrArg EncChannel.fault hch, hhome hinc⟩,
    fun hz hfault hlong => ⟨_, congrArg Host.Outcome.next (if_pos (by simp [hon, hinc, hz, hfault, hlong])), hvalid, congrArg EncChannel.fault hl⟩⟩

/-! ### SSI (R459) -/

theorem ssiReadEnd_results {e : Fin 8} {raw : Nat} {par : Bool} {at_ el : Nat} {s : State} (hread : (s.encCh e).read = some (at_, el)) :
    (s.regB (Reg.ENC_CFG e) 27 = false → (s.encCh e).overrun = false → ∃ t, exec (.ssiReadEnd e raw par false) s = .next t ∧ t.regB (Reg.ENC_STAT e) 31 = true
        ∧ t.reg (Reg.ENC_CNT e) = BitVec.ofNat 32 (raw % 2 ^ (s.regF (Reg.ENC_CFG e) 25 21 + 1)) ∧ (t.encCh e).read = none
        ∧ (s.regB (Reg.ENC_CFG e) 28 = false → t.reg (Reg.ENC_POS e) = BitVec.ofNat 32 (raw % 2 ^ (s.regF (Reg.ENC_CFG e) 25 21 + 1)
            % 2 ^ (s.regF (Reg.ENC_CFG e) 20 16 + 1) * 2 ^ (32 - (s.regF (Reg.ENC_CFG e) 20 16 + 1)))))
    ∧ (∃ t, exec (.ssiReadEnd e raw par true) s = .next t ∧ t.regB (Reg.ENC_STAT e) 31 = false ∧ (t.encCh e).fault = true
        ∧ t.reg (Reg.ENC_POS e) = s.reg (Reg.ENC_POS e)) := by
  let u := s.updEnc e fun x => { x with read := none }
  let n := s.regF (Reg.ENC_CFG e) 25 21 + 1
  let w := raw % 2 ^ n
  let stb := s.regF (Reg.ENC_CFG e) 20 16 + 1
  have hch : u.encCh e = { s.encCh e with read := none } := encCh_updEnc_same s e _
  refine ⟨fun hpar hover => ?_, ?_⟩
  · let z := if s.regB (Reg.ENC_CFG e) 28 then grayDecode w n else w
    let v := (u.encValid e).setReg (Reg.ENC_CNT e) (wd w)
    have hrun : exec (.ssiReadEnd e raw par false) s = .next (v.encDeliver e (wd (z % 2 ^ stb * 2 ^ (32 - stb))) at_) := by
      have hparity : ¬ (bit (s.reg (Reg.ENC_CFG e)) 27 && popcount w n % 2 != b2n par) = true := by
        have h27 : bit (s.reg (Reg.ENC_CFG e)) 27 = false := hpar
        rw [h27]
        exact Bool.false_ne_true
      have hover' : ¬ (u.encCh e).overrun = true := by rw [hch]; exact ne_true_of_eq_false hover
      refine congrArg Host.Outcome.next ?_
      simp only [hread, Bool.false_eq_true, if_false]
      exact ((if_neg hparity).trans (if_neg hover'))
    obtain ⟨hpos, -, ⟨l, hl⟩, hport⟩ := encDeliver_results v e.isLt (wd (z % 2 ^ stb * 2 ^ (32 - stb))) at_
    obtain ⟨hvalid, ⟨l', hl'⟩, -⟩ := encValid_results u e
    have hstat : v.regB (Reg.ENC_STAT e) 31 = true := (congrArg (bit · 31) (State.reg_setReg_ne _ _ (by lia))).trans hvalid
    refine ⟨_, hrun, (congrArg (bit · 31) (hport _ (by lia) (by lia) (by lia) (by lia))).trans hstat,
      (hport _ (by lia) (by lia) (by lia) (by lia)).trans (State.reg_setReg_same _ _ _), ?_, fun hbin => ?_⟩
    · exact (congrArg EncChannel.read hl).trans ((congrArg EncChannel.read hl').trans (congrArg EncChannel.read hch))
    · have hz : z = w := if_neg (ne_true_of_eq_false hbin)
      rw [hpos, hz]
      rfl
  · obtain ⟨hinvalid, hfault, hreg, -⟩ := encFault_results u 0 e.isLt
    refine ⟨u.encFault e 0, congrArg Host.Outcome.next ?_, hinvalid, congrArg EncChannel.fault hfault, hreg _ (by lia) (by lia) (by lia)⟩
    simp only [hread]
    exact if_pos trivial

theorem encHome_results {p : Party} {e : Fin 8} {v : Word} {s : State} (hturn : s.turnOf p = true) :
    (bit v 0 = true → ∃ t, exec (.encHome p e v) s = .next t ∧ t.regB (Reg.ENC_STAT e) 30 = false ∧ t.enc = s.enc
        ∧ sameRegs s t [Reg.ENC_STAT e])
    ∧ (bit v 0 = false → exec (.encHome p e v) s = .next (s.turned p)) :=
  ⟨fun h => ⟨(s.turned p).clrBitR (Reg.ENC_STAT e) 30, congrArg Host.Outcome.next ((byParty_of_turnOf hturn _).trans (if_pos h)),
      (regB_clrBitR _ (by decide) _ _ _).trans (if_pos ⟨rfl, rfl⟩), rfl, sameRegs_clrBitR (s.turned p) _ _⟩,
    fun h => congrArg Host.Outcome.next ((byParty_of_turnOf hturn _).trans (if_neg (ne_true_of_eq_false h)))⟩

/-- Settles O47: chains, the tracker and encoders, one lemma each. -/
theorem chainAndEncoderResults : Obligations.ChainAndEncoderResults := by
  unfold Obligations.ChainAndEncoderResults
  exact ⟨fun _ _ _ _ => chainOutput_results, fun _ _ => mainsPhaseValid_results, fun _ _ => chainFaults, fun _ _ _ => chainFaultEnd_results,
    fun _ _ => encoderSample_results, fun _ _ _ _ => quadratureEdge_results, fun _ _ => zEdge_results, fun _ _ => encoderFaults,
    fun _ _ _ _ _ _ => ssiReadEnd_results, fun _ _ _ _ => encHome_results⟩

end Sys2Proof.Machine
end

section
/-! PROOFS. The event recorder (R520 to R536, R588); then the statement `Obligations.RecorderResults`. -/
namespace Sys2Proof.Machine

open State (setBitR clrBitR setRegF regB regF Leaves)

/-! ### Lists and maps -/

theorem mget_filter_of {α : Type} (p : Nat × α → Bool) {k : Nat} {v : α} (hk : p (k, v) = true) {m : SMap α} (h : mget m k = some v) :
    mget (m.filter p) k = some v := by
  induction m with
  | nil => exact absurd h (by simp)
  | cons q t ih =>
    obtain ⟨j, w⟩ := q
    rw [mget] at h
    split at h
    · next hj =>
      subst hj
      obtain rfl : w = v := Option.some.inj h
      rw [List.filter_cons_of_pos hk, mget, if_pos rfl]
    · next hj =>
      by_cases hp : p (j, w) = true
      · rw [List.filter_cons_of_pos hp, mget, if_neg hj]
        exact ih h
      · rw [List.filter_cons_of_neg hp]
        exact ih h

theorem mem_of_mget {α : Type} {m : SMap α} {k : Nat} {v : α} (h : mget m k = some v) : (k, v) ∈ m := by
  induction m with
  | nil => exact absurd h (by simp)
  | cons q t ih =>
    obtain ⟨j, w⟩ := q
    rw [mget] at h
    split at h
    · next hj => exact List.mem_cons.2 (.inl (by rw [hj, Option.some.inj h]))
    · exact List.mem_cons_of_mem _ (ih h)

/-- Of the distinct members of a list, the one that satisfies a condition. -/
theorem filter_eraseDups_one {p : Nat → Bool} {q : Nat} (l : List Nat) (hq : q ∈ l) (hpq : p q = true) (hp : ∀ x ∈ l, p x = true → x = q) :
    l.eraseDups.filter p = [q] := by
  match l with
  | [] => exact absurd hq (by simp)
  | a :: t =>
    rw [List.eraseDups_cons]
    by_cases ha : a = q
    · have hnone : (t.filter fun b => !b == a).eraseDups.filter p = [] := by
        refine List.filter_eq_nil_iff.2 fun x hx hpx => ?_
        obtain ⟨hmem, hne⟩ := List.mem_filter.1 (List.mem_eraseDups.1 hx)
        rw [hp x (List.mem_cons_of_mem _ hmem) hpx, ha] at hne
        simp at hne
      rw [List.filter_cons_of_pos (by rw [ha]; exact hpq), hnone, ha]
    · have hpa : ¬ p a = true := fun h => ha (hp a List.mem_cons_self h)
      rw [List.filter_cons_of_neg hpa]
      have hlen : (t.filter fun b => !b == a).length ≤ t.length := List.length_filter_le _ _
      refine filter_eraseDups_one _ (List.mem_filter.2 ⟨(List.mem_cons.1 hq).resolve_left (Ne.symm ha), ?_⟩) hpq fun x hx hpx => ?_
      · simpa using Ne.symm ha
      · exact hp x (List.mem_cons_of_mem _ (List.mem_filter.1 hx).1) hpx
termination_by l.length

/-! ### A record leaves what is stored (R524, R525) -/

/-- What is stored or stated lost, with the counters of both and the sticky bit of a gap. -/
def State.stored (u : State) : List Nat × (SMap EvRecord × SMap EvRecord) × Word × Word × Bool :=
  (u.evr.lost, (u.evr.circ, u.evr.perm), u.reg Reg.EVR_NLOST, u.reg Reg.EVR_NWR, u.regB Reg.EVR_STK 2)

theorem setReg_leaves_stored (s : State) {a : Nat} (v : Word) (h1 : a ≠ Reg.EVR_NLOST) (h2 : a ≠ Reg.EVR_NWR) (h3 : a ≠ Reg.EVR_STK) :
    Leaves State.stored s (s.setReg a v) :=
  ⟨Prod.ext rfl (Prod.ext rfl (Prod.ext (State.reg_setReg_ne s v h1.symm) (Prod.ext (State.reg_setReg_ne s v h2.symm)
    (congrArg (bit · 2) (State.reg_setReg_ne s v h3.symm)))))⟩

theorem setStk_leaves_stored (s : State) {i : Nat} (hi : i < 2) : Leaves State.stored s (s.setBitR Reg.EVR_STK i) :=
  ⟨Prod.ext rfl (Prod.ext rfl (Prod.ext (State.reg_orBits_ne s _ (by decide)) (Prod.ext (State.reg_orBits_ne s _ (by decide))
    ((regB_setBitR s (by omega) _ _ _).trans (if_neg (by omega))))))⟩

theorem bump_leaves_stored (s : State) {a : Nat} (h : a = Reg.EVR_NACC ∨ a = Reg.EVR_NPEND ∨ a = Reg.EVR_NINLOST ∨ a = Reg.EVR_NFRZMISS) :
    Leaves State.stored s (s.bump a) := by
  rcases h with rfl | rfl | rfl | rfl <;> exact setReg_leaves_stored s _ (by decide) (by decide) (by decide)

theorem enter_leaves_stored (fuel : Nat) : ∀ (s : State) (part : Nat) (b : RecBody), Leaves State.stored s (s.enter part b fuel) := by
  induction fuel with
  | zero => exact fun s _ _ => .refl s
  | succ fuel ih =>
    intro s part b
    unfold State.enter
    extract_lets -lift +onlyGivenNames hit slot r src s1 s2
    have h2 : Leaves State.stored s s2 := .after (bump_leaves_stored _ (by simp)) (.after (bump_leaves_stored _ (by simp)) (t := s1) ⟨rfl⟩)
    have hslot : ∀ k, slot = some k → k < 4 := fun k hk => by
      have hempty : s.emptySlot = some k := by
        revert hk
        simp only [slot]
        split <;> simp
      have hfound := (findFrom_some hempty).2.1
      omega
    clear_value s2 s1 r slot
    cases slot with
    | none => exact .ite (.after (setStk_leaves_stored _ (by decide)) (.after (bump_leaves_stored _ (by simp)) h2)) h2
    | some k =>
      have hk := hslot k rfl
      have hst (u : State) (v : Word) : Leaves State.stored u (u.setReg (Reg.EVR_FST k) v) :=
        setReg_leaves_stored u v (by lia) (by lia) (by lia)
      have hstl (u : State) (v : Word) : Leaves State.stored u (u.setReg (Reg.EVR_FSTL k) v) :=
        setReg_leaves_stored u v (by lia) (by lia) (by lia)
      dsimp only
      generalize State.intakePart _ false = o
      cases o with
      | some q => exact .after (ih _ _ _) (.after (hstl _ _) (.after (hst _ _) (.after (t := s2) ⟨rfl⟩ h2)))
      | none => exact .after (setStk_leaves_stored _ (by decide)) (.after (bump_leaves_stored _ (by simp))
          (.after (t := (s2.setReg (Reg.EVR_FST k) (wd (2 ^ 30 + r.seq / 2 ^ 32 % 65536))).setReg (Reg.EVR_FSTL k) (wd r.seq)) ⟨rfl⟩
            (.after (hstl _ _) (.after (hst _ _) h2))))

theorem record_leaves_stored (s : State) (n : RecName) (el : Nat) (items : List Nat) : Leaves State.stored s (s.record n el items) := by
  unfold State.record State.accept
  split
  · exact ⟨rfl⟩
  split
  · exact .refl s
  split
  · exact enter_leaves_stored 5 s _ _
  · exact .after (setStk_leaves_stored _ (by decide)) (.after (bump_leaves_stored _ (by simp)) ⟨rfl⟩)

/-- R528: a gap stated: its bit and its record leave what is stored. -/
theorem gapStated_results (s : State) (el : Nat) (items : List Nat) :
    let t := (s.setBitR Reg.EVR_STK 2).record .evrGap el items
    t.evr.lost = s.evr.lost ∧ t.evr.circ = s.evr.circ ∧ t.reg Reg.EVR_NLOST = s.reg Reg.EVR_NLOST ∧ t.reg Reg.EVR_NWR = s.reg Reg.EVR_NWR
      ∧ t.regB Reg.EVR_STK 2 = true := by
  intro t
  obtain ⟨hlost, h⟩ := Prod.ext_iff.1 (record_leaves_stored (s.setBitR Reg.EVR_STK 2) .evrGap el items).eq
  obtain ⟨hcirc, h⟩ := Prod.ext_iff.1 h
  obtain ⟨hnlost, h⟩ := Prod.ext_iff.1 h
  obtain ⟨hnwr, hstk⟩ := Prod.ext_iff.1 h
  exact ⟨hlost, (Prod.ext_iff.1 hcirc).1, hnlost.trans (State.reg_orBits_ne s _ (by decide)), hnwr.trans (State.reg_orBits_ne s _ (by decide)),
    hstk.trans ((regB_setBitR s (by decide) _ _ _).trans (if_pos ⟨rfl, rfl⟩))⟩

/-! ### The intake leaves (R525, R526, R528, R535) -/

theorem fillSlots_leaves (s : State) (seq : Nat) (r : Option EvRecord) : (∃ x, (s.fillSlots seq r).evr = { s.evr with slots := x })
    ∧ ∀ a, (∀ k, k < 4 → a ≠ Reg.EVR_FST k) → (s.fillSlots seq r).reg a = s.reg a := by
  refine foldl_keeps (fun u : State => (∃ x, u.evr = { s.evr with slots := x }) ∧ ∀ a, (∀ k, k < 4 → a ≠ Reg.EVR_FST k) → u.reg a = s.reg a)
    _ _ s ⟨⟨_, rfl⟩, fun _ _ => rfl⟩ fun u k hk hu => ?_
  obtain ⟨⟨x, hx⟩, hreg⟩ := hu
  dsimp only
  split
  · exact ⟨⟨x, hx⟩, hreg⟩
  · refine ⟨⟨_, congrArg (fun e : Evr => { e with slots := mput u.evr.slots k ((mgetD u.evr.slots k {}).fill seq r) }) hx⟩, fun a ha => ?_⟩
    exact (State.reg_setReg_ne _ _ (ha k (List.mem_range.1 hk))).trans (hreg a ha)

theorem intakeLeft_of_none {s : State} (part : Nat) (h : s.evr.refusedParts = []) : s.intakeLeft part = s := by
  unfold State.intakeLeft
  rw [h]
  exact if_neg (by simp)

/-- R526, R530: a record written, before the slots that fill take it. -/
def State.recordWritten (s : State) (r : EvRecord) : State :=
  ((((s.updEvr fun e => { e with
    intake := e.intake.drop 1, head := r.seq
    circ := (mput e.circ r.seq r).filter (fun x => decide (r.seq < x.1 + 131072))
    perm := if e.clear ≤ r.seq ∧ r.seq < e.clear + 8192 then mput e.perm r.seq r else e.perm }).bump Reg.EVR_NWR).drop
      Reg.EVR_NPEND).setReg Reg.EVR_HEAD (wd r.seq)).setReg Reg.EVR_HEADH (wd (r.seq / 2 ^ 32 % 65536))

/-- R528: a record stated lost, before the slots that fill pass it over. -/
def State.recordLost (s : State) (r : EvRecord) : State :=
  ((s.updEvr fun e => { e with intake := e.intake.drop 1, lost := e.lost ++ [r.seq] }).bump Reg.EVR_NLOST).drop Reg.EVR_NPEND

theorem writeRecord_eq (s : State) (r : EvRecord) : s.writeRecord r = ((s.recordWritten r).fillSlots r.seq (some r)).intakeLeft r.part := rfl

theorem loseRecord_eq (s : State) (r : EvRecord) : s.loseRecord r = ((s.recordLost r).fillSlots r.seq none).intakeLeft r.part := rfl

theorem writeRecord_results {r : EvRecord} {l : List EvRecord} {s : State} (hin : s.evr.intake = r :: l) (hnone : s.evr.refusedParts = []) :
    (s.writeRecord r).evr.intake = l ∧ (s.writeRecord r).evr.head = r.seq ∧ mget (s.writeRecord r).evr.circ r.seq = some r
      ∧ (s.writeRecord r).reg Reg.EVR_HEAD = BitVec.ofNat 32 r.seq ∧ (s.writeRecord r).reg Reg.EVR_NWR = s.reg Reg.EVR_NWR + 1
      ∧ (s.writeRecord r).reg Reg.EVR_NPEND = s.reg Reg.EVR_NPEND - 1 ∧ sameRegs s (s.writeRecord r) [] := by
  obtain ⟨⟨x, hx⟩, hreg⟩ := fillSlots_leaves (s.recordWritten r) r.seq (some r)
  have hidle : s.writeRecord r = (s.recordWritten r).fillSlots r.seq (some r) := by
    rw [writeRecord_eq]
    exact intakeLeft_of_none _ ((congrArg Evr.refusedParts hx).trans hnone)
  have hport (a : Nat) (h : a < 0x8020 ∨ 0x8028 ≤ a) : ∀ k, k < 4 → a ≠ Reg.EVR_FST k := fun k hk => by lia
  rw [hidle]
  refine ⟨(congrArg Evr.intake hx).trans (congrArg (List.drop 1) hin), congrArg Evr.head hx, ?_, (hreg _ (hport _ (by decide))).trans ?_,
    (hreg _ (hport _ (by decide))).trans ?_, (hreg _ (hport _ (by decide))).trans ?_, fun a _ hr => (hreg a (hport a ?_)).trans ?_⟩
  · refine (congrArg (fun e : Evr => mget e.circ r.seq) hx).trans (mget_filter_of _ ?_ (mget_mput_same _ _ _))
    exact decide_eq_true (by omega)
  · simp (disch := lia) [State.recordWritten, wd]
  · simp (disch := lia) [State.recordWritten, State.bump, State.drop, wd, State.updEvr]
    rfl
  · simp (disch := lia) [State.recordWritten, State.bump, State.drop, wd, State.updEvr]
    rfl
  · simp only [recorderPort] at hr
    omega
  · have hne : a ≠ Reg.EVR_NWR ∧ a ≠ Reg.EVR_NPEND ∧ a ≠ Reg.EVR_HEAD ∧ a ≠ Reg.EVR_HEADH := by
      simp only [recorderPort] at hr
      lia
    exact (State.reg_setReg_ne _ _ hne.2.2.2).trans ((State.reg_setReg_ne _ _ hne.2.2.1).trans ((State.reg_setReg_ne _ _ hne.2.1).trans
      (State.reg_setReg_ne _ _ hne.1)))

theorem loseRecord_results {r : EvRecord} {l : List EvRecord} {s : State} (hin : s.evr.intake = r :: l) (hnone : s.evr.refusedParts = []) :
    (s.loseRecord r).evr.intake = l ∧ (s.loseRecord r).evr.lost = s.evr.lost ++ [r.seq] ∧ (s.loseRecord r).evr.circ = s.evr.circ
      ∧ (s.loseRecord r).reg Reg.EVR_NLOST = s.reg Reg.EVR_NLOST + 1 ∧ (s.loseRecord r).reg Reg.EVR_NPEND = s.reg Reg.EVR_NPEND - 1 := by
  obtain ⟨⟨x, hx⟩, hreg⟩ := fillSlots_leaves (s.recordLost r) r.seq none
  have hidle : s.loseRecord r = (s.recordLost r).fillSlots r.seq none := by
    rw [loseRecord_eq]
    exact intakeLeft_of_none _ ((congrArg Evr.refusedParts hx).trans hnone)
  rw [hidle]
  refine ⟨(congrArg Evr.intake hx).trans (congrArg (List.drop 1) hin), congrArg Evr.lost hx, (congrArg Evr.circ hx).trans rfl,
    (hreg _ fun k hk => by lia).trans ?_, (hreg _ fun k hk => by lia).trans ?_⟩
  · simp (disch := lia) [State.recordLost, State.bump, State.drop, wd, State.updEvr]
    rfl
  · simp (disch := lia) [State.recordLost, State.bump, State.drop, wd, State.updEvr]
    rfl

theorem recordStore_results {r : EvRecord} {l : List EvRecord} {s : State} (hin : s.evr.intake = r :: l) (hnone : s.evr.refusedParts = []) :
    (s.evr.failed = false → ∃ t, exec .recordStoreWrite s = .next t ∧ t.evr.intake = l ∧ t.evr.head = r.seq
        ∧ mget t.evr.circ r.seq = some r ∧ t.reg Reg.EVR_HEAD = BitVec.ofNat 32 r.seq
        ∧ t.reg Reg.EVR_NWR = s.reg Reg.EVR_NWR + 1 ∧ t.reg Reg.EVR_NPEND = s.reg Reg.EVR_NPEND - 1 ∧ sameRegs s t [])
    ∧ (s.evr.failed = true → ∃ t, exec .recordStoreWrite s = .next t ∧ t.evr.intake = l ∧ t.evr.lost = s.evr.lost ++ [r.seq]
        ∧ t.evr.circ = s.evr.circ ∧ t.reg Reg.EVR_NLOST = s.reg Reg.EVR_NLOST + 1 ∧ t.reg Reg.EVR_NPEND = s.reg Reg.EVR_NPEND - 1)
    ∧ (∃ t, exec (.storeWriteFault 1 none) s = .next t ∧ t.evr.lost = s.evr.lost ++ [r.seq] ∧ t.evr.circ = s.evr.circ
        ∧ t.regB Reg.EVR_STK 2 = true ∧ t.reg Reg.EVR_NLOST = s.reg Reg.EVR_NLOST + 1) := by
  have hwrite : exec .recordStoreWrite s = .next (if s.evr.failed then s.loseRecord r else s.writeRecord r) := by
    refine congrArg Host.Outcome.next ?_
    simp only [hin]
  have hfault : exec (.storeWriteFault 1 none) s = .next (((s.loseRecord r).setBitR Reg.EVR_STK 2).record .evrGap 0 [r.seq, 1, 0, 1]) := by
    refine congrArg Host.Outcome.next ?_
    simp only [hin, List.take_succ_cons, List.take_zero, List.foldl_cons, List.foldl_nil, List.length_nil, Nat.zero_add]
  obtain ⟨-, hlost, hcirc, hnlost, -⟩ := loseRecord_results hin hnone
  obtain ⟨hlost', hcirc', hnlost', -, hstk⟩ := gapStated_results (s.loseRecord r) 0 [r.seq, 1, 0, 1]
  exact ⟨fun h => ⟨_, hwrite.trans (congrArg Host.Outcome.next (if_neg (ne_true_of_eq_false h))), writeRecord_results hin hnone⟩,
    fun h => ⟨_, hwrite.trans (congrArg Host.Outcome.next (if_pos h)), loseRecord_results hin hnone⟩,
    _, hfault, hlost'.trans hlost, hcirc'.trans hcirc, hstk, hnlost'.trans hnlost⟩

/-! ### Scrub and saved counts (R522, R528) -/

/-- R528: consecutive stored sequences of an area that fail, with their count of new losses, stated lost. -/
def State.scrubbed (s : State) (a first n : Nat) (hit : List Nat) : State :=
  let fresh := hit.filter (fun q => !(s.evr.lost.contains q))
  let s := (hit.foldl (fun s q => s.areaDel a q) s).updEvr (fun e => { e with lost := e.lost ++ fresh })
  (((s.drop Reg.EVR_NWR fresh.length).bump Reg.EVR_NLOST fresh.length).setBitR Reg.EVR_STK 2).record .evrGap 0 [first, n, a, 2]

theorem evrScrub_results {q : Nat} {r : EvRecord} {s : State} (hhold : mget s.evr.circ q = some r) (hseq : r.seq = q) (hnew : q ∉ s.evr.lost) :
    ∃ t, exec (.evrScrub 0 q 1) s = .next t ∧ mget t.evr.circ q = none ∧ q ∈ t.evr.lost ∧ t.regB Reg.EVR_STK 2 = true
      ∧ t.reg Reg.EVR_NLOST = s.reg Reg.EVR_NLOST + 1 ∧ t.reg Reg.EVR_NWR = s.reg Reg.EVR_NWR - 1 := by
  have hhit : ((s.evr.circ ++ s.evr.perm ++ (mgetD s.evr.slots ((0 : Fin 6).val - 2) {}).recs).map (fun x => x.2.seq)).eraseDups.filter (fun x =>
      decide (q ≤ x) && decide (x < q + 1) && (s.areaGet (0 : Fin 6).val (s.areaKey (0 : Fin 6).val x)).isSome) = [q] := by
    refine filter_eraseDups_one _ ?_ ?_ fun x _ hx => ?_
    · exact List.mem_map.2 ⟨(q, r), List.mem_append_left _ (List.mem_append_left _ (mem_of_mget hhold)), hseq⟩
    · have hget : (s.areaGet (0 : Fin 6).val (s.areaKey (0 : Fin 6).val q)).isSome = true := congrArg Option.isSome hhold
      rw [hget]
      simp
    · simp only [Bool.and_eq_true, decide_eq_true_eq] at hx
      omega
  have hrun : exec (.evrScrub 0 q 1) s = .next (s.scrubbed 0 q 1 [q]) := by
    refine congrArg Host.Outcome.next ?_
    simp only [hhit]
    rfl
  have hfresh : [q].filter (fun q => !(s.evr.lost.contains q)) = [q] := by simp [hnew]
  let u := (s.areaDel 0 q).updEvr fun e => { e with lost := e.lost ++ [q] }
  obtain ⟨hlost, hcirc, hnlost, hnwr, hstk⟩ := gapStated_results ((u.drop Reg.EVR_NWR 1).bump Reg.EVR_NLOST 1) 0 [q, 1, 0, 2]
  have ht : s.scrubbed 0 q 1 [q] = (((u.drop Reg.EVR_NWR 1).bump Reg.EVR_NLOST 1).setBitR Reg.EVR_STK 2).record .evrGap 0 [q, 1, 0, 2] := by
    unfold State.scrubbed
    rw [hfresh]
    rfl
  rw [← ht] at hlost hcirc hnlost hnwr hstk
  refine ⟨_, hrun, ?_, ?_, hstk, hnlost.trans ?_, hnwr.trans ?_⟩
  · rw [hcirc]
    exact mget_mdel_same _ _
  · rw [hlost]
    exact List.mem_append_right _ (List.mem_singleton_self q)
  · exact (State.reg_setReg_same _ _ _).trans (congrArg (· + 1) (State.reg_setReg_ne _ _ (by decide)))
  · exact (State.reg_setReg_ne _ _ (by decide)).trans (State.reg_setReg_same _ _ _)

theorem optimeSave_results (s : State) : ∃ t, exec .optimeSave s = .next t ∧ t.evr.savedOptime = s.evr.optime ∧ t.evr.savedPcc = s.evr.pcc
    ∧ t.regs = s.regs := ⟨_, rfl, rfl, rfl, rfl⟩

/-! ### Windows (R532, R533) -/

theorem evr_partyEsf (s : State) (p : Party) (b : EsfBit) : (s.partyEsf p b).evr = s.evr := by
  cases p with
  | svc k => rfl
  | eng e =>
    unfold State.partyEsf State.lateEsf
    dsimp only
    split
    · rfl
    · split <;> rfl

theorem evrCur_results {p : Party} {v : Word} {s : State} (hturn : s.turnOf p = true) :
    let start := (s.preg (partyNo p) Reg.EVR_CURL).toNat
    (1 ≤ fld v 27 23 → fld v 27 23 ≤ 16 → fld v 30 28 < 2 → ∃ t, exec (.evrCur p v) s = .next t
        ∧ mget t.evr.copying (partyNo p) = some (fld v 30 28, fld v 27 23, fld v 15 0 * 2 ^ 32 + start)
        ∧ bit (t.preg (partyNo p) Reg.EVR_CUR) 31 = false ∧ t.regs = s.regs)
    ∧ (fld v 27 23 = 0 ∨ 16 < fld v 27 23 ∨ 6 ≤ fld v 30 28 → ∃ t, exec (.evrCur p v) s = .next t ∧ t.evr = s.evr ∧ t.priv = s.priv) := by
  intro start
  have hrun : exec (.evrCur p v) s = .next ((s.turned p).curWrite p v) := congrArg Host.Outcome.next (byParty_of_turnOf hturn _)
  refine ⟨fun hlow hhigh harea => ?_, fun hbad => ?_⟩
  · let u := (s.turned p).setPreg (partyNo p) Reg.EVR_CUR (v &&& 0x7F80FFFF)
    refine ⟨u.updEvr fun e => { e with copying := mput e.copying (partyNo p) (fld v 30 28, fld v 27 23, fld v 15 0 * 2 ^ 32 + start) },
      hrun.trans (congrArg Host.Outcome.next ?_), mget_mput_same _ _ _, ?_, rfl⟩
    · unfold State.curWrite
      extract_lets k area count start' bad from_
      have hgood : ¬ bad = true := by simp [bad, count, area]; omega
      have hfrom : from_ = fld v 15 0 * 2 ^ 32 + start := if_pos harea
      rw [if_neg hgood, hfrom]
    · have hword : u.preg (partyNo p) Reg.EVR_CUR = v &&& 0x7F80FFFF := preg_setPreg_same _ _ _ _
      have hmask : bit (v &&& 0x7F80FFFF) 31 = false := by rw [bit_and, show bit 0x7F80FFFF 31 = false by decide, Bool.and_false]
      exact (congrArg (bit · 31) hword).trans hmask
  · refine ⟨(s.turned p).partyEsf p .lenErr, hrun.trans (congrArg Host.Outcome.next ?_), evr_partyEsf _ _ _, priv_partyEsf _ _ _⟩
    unfold State.curWrite
    extract_lets k area count start' bad from_
    have hrefused : bad = true := by simp [bad, count, area]; omega
    rw [if_pos hrefused]

/-- R533: the entry of a window. -/
def entryWords : Option EvRecord → List Word
  | some r => r.words
  | none => List.replicate 16 0

/-- R533: the entries of a window filled. -/
theorem mgetD_window (f : Nat → Option EvRecord) (k count : Nat) (w0 : SMap (List Word)) {i : Nat} (hi : i < count) :
    mgetD ((List.range count).foldl (fun w i => mput w (k * 16 + i) (entryWords (f i))) w0) (k * 16 + i) [] = entryWords (f i) := by
  refine foldl_establishes (f := fun w i => mput w (k * 16 + i) (entryWords (f i)))
    (fun i w => mgetD w (k * 16 + i) [] = entryWords (f i)) (List.range count) w0
    (fun u a _ => mgetD_mput_same _ _ _ _) (fun u a b hu => ?_) i (List.mem_range.2 hi)
  rw [mgetD_mput]
  split
  · next h => rw [show b = a by omega]
  · exact hu

theorem gathered_add (p : Nat → Bool) (n : Nat) : (List.range n).foldl (fun m i => m + (if p i then 2 ^ i else 0)) 0
    = (List.range n).foldl (fun m k => if p k then m + 2 ^ k else m) 0 := by
  refine congrArg (fun f => (List.range n).foldl f 0) (funext fun m => funext fun i => ?_)
  split <;> rfl

/-- R533: the low half of EVR_WSTAT shows which entries are valid. -/
theorem bit_windowStatus (valid wrong : Nat → Bool) {count i : Nat} (hi : i < count) (hcount : count ≤ 16) :
    bit (wd ((List.range count).foldl (fun m i => m + (if wrong i then 2 ^ i else 0)) 0 * 65536
      + (List.range count).foldl (fun m i => m + (if valid i then 2 ^ i else 0)) 0)) i = valid i := by
  rw [gathered_add valid, gathered_add wrong]
  obtain ⟨hlt, hbit⟩ := testBit_gathered valid count
  have hfit : (List.range count).foldl (fun m k => if valid k then m + 2 ^ k else m) 0 < 2 ^ 16 :=
    Nat.lt_of_lt_of_le hlt (Nat.pow_le_pow_right (by decide) hcount)
  generalize (List.range count).foldl (fun m k => if valid k then m + 2 ^ k else m) 0 = v at hbit hfit
  rw [bit, wd, BitVec.toNat_ofNat, Nat.testBit_mod_two_pow, decide_eq_true (by omega : i < 32), Bool.true_and, Nat.mul_comm, ← hbit i hi]
  exact (Nat.testBit_two_pow_mul_add _ hfit i).trans (if_pos (by omega))

theorem windowCopyEnd_results {p : Party} {bad : Fin 65536} {area count start : Nat} {s : State}
    (hcopy : mget s.evr.copying (partyNo p) = some (area, count, start)) (hcount : count ≤ 16) :
    ∃ t, exec (.windowCopyEnd p bad) s = .next t ∧ mget t.evr.copying (partyNo p) = none
      ∧ bit (t.preg (partyNo p) Reg.EVR_CUR) 31 = true
      ∧ (∀ i, i < count → bit (t.preg (partyNo p) Reg.EVR_WSTAT) i = ((s.areaGet area (start + i)).isSome && !bad.val.testBit i)
          ∧ (∀ r w, s.areaGet area (start + i) = some r → t.winWord (partyNo p) i w = lget r.words w 0)) := by
  let k := partyNo p
  let entry := fun i => s.areaGet area (start + i)
  let fails := fun i => (entry i).isSome && bad.val.testBit i
  let status := wd ((List.range count).foldl (fun m i => m + (if fails i then 2 ^ i else 0)) 0 * 65536
    + (List.range count).foldl (fun m i => m + (if (entry i).isSome && !(fails i) then 2 ^ i else 0)) 0)
  let wins := (List.range count).foldl (fun w i => mput w (k * 16 + i) (entryWords (entry i))) s.evr.windows
  let u := s.updEvr fun e => { e with windows := wins, copying := mdel e.copying k }
  let v := u.setPreg k Reg.EVR_WSTAT status
  have hrun : exec (.windowCopyEnd p bad) s = .next (v.setPreg k Reg.EVR_CUR (u.preg k Reg.EVR_CUR ||| bitMask 31)) := by
    refine congrArg Host.Outcome.next ?_
    simp only [hcopy]
    rfl
  refine ⟨_, hrun, mget_mdel_same _ _, ?_, fun i hi => ⟨?_, fun r w hr => ?_⟩⟩
  · rw [preg_setPreg_same]
    exact bit_or_bitMask_same _ (by decide)
  · have hstat : (v.setPreg k Reg.EVR_CUR (u.preg k Reg.EVR_CUR ||| bitMask 31)).preg k Reg.EVR_WSTAT = status :=
      (preg_setPreg_ne _ _ _ (by decide)).trans (preg_setPreg_same _ _ _ _)
    rw [hstat]
    refine (bit_windowStatus _ fails hi hcount).trans ?_
    simp only [fails, entry]
    cases (s.areaGet area (start + i)).isSome <;> simp
  · have hentry : entryWords (entry i) = r.words := by simp only [entry, hr, entryWords]
    have hwin := mgetD_window entry k count s.evr.windows hi
    exact congrArg (fun l => lget l w 0) (hwin.trans hentry)

/-! ### Freeze slots (R535, R536) -/

theorem reg_snapPort_ne (s : State) {k j a : Nat} (h : a ≠ Reg.EVR_FVAL k j) : (s.snapPort k j).reg a = s.reg a := by
  unfold State.snapPort
  split
  · exact State.reg_setReg_ne s _ h
  · rfl

theorem evr_snapPort (s : State) (k j : Nat) : (s.snapPort k j).evr = s.evr ∧ (s.snapPort k j).boot = s.boot := by
  unfold State.snapPort
  split <;> exact ⟨rfl, rfl⟩

/-- R30: which ports are decoded is read from PWR_OFF. -/
theorem decoded_snapPort (s : State) (k j a : Nat) : (s.snapPort k j).decoded a = s.decoded a := by
  have hoff : (s.snapPort k j).blockOff = s.blockOff := by
    refine funext fun b => ?_
    rw [State.blockOff, State.blockOff, regB, reg_snapPort_ne s (by lia), (evr_snapPort s k j).2]
    rfl
  simp only [State.decoded, State.portOff, hoff]

/-- R535: port `j` of the snapshot is asked for and not decoded. -/
def State.unsnapped (s : State) (j : Nat) : Prop :=
  s.regB (Reg.EVR_FSNAP j) 31 = true ∧ s.decoded (s.regF (Reg.EVR_FSNAP j) 15 0) = false

/-- Under a condition that every member keeps, what one member of a list establishes and the others keep holds after the fold. -/
theorem foldl_reaches {α σ : Type} {f : σ → α → σ} (P Q : σ → Prop) (hP : ∀ x a, P x → P (f x a)) (l : List α) {j : α} (hj : j ∈ l)
    (hset : ∀ x, P x → Q (f x j)) (hkeep : ∀ x a, P x → Q x → Q (f x a)) {u : σ} (hu : P u) : P (l.foldl f u) ∧ Q (l.foldl f u) := by
  induction l generalizing u with
  | nil => exact absurd hj (by simp)
  | cons a t ih =>
    rcases List.mem_cons.1 hj with rfl | h
    · exact foldl_keeps (fun x => P x ∧ Q x) f t _ ⟨hP u j hu, hset u hu⟩ fun x b _ hx => ⟨hP x b hx.1, hkeep x b hx.1 hx.2⟩
    · exact ih h (hP u a hu)

theorem freezeSnapshot_results {k : Fin 4} {s : State} (hdue : (mgetD s.evr.slots k {}).snapDue = true) :
    ∃ t, exec (.freezeSnapshot k) s = .next t ∧ (mgetD t.evr.slots k {}).snapDue = false
      ∧ (∀ j, j < 32 → s.regB (Reg.EVR_FSNAP j) 31 = true → s.decoded (s.regF (Reg.EVR_FSNAP j) 15 0) = false → t.reg (Reg.EVR_FVAL k j) = 0)
      ∧ (∀ j, j < 32 → s.regB (Reg.EVR_FSNAP j) 31 = false → t.reg (Reg.EVR_FVAL k j) = s.reg (Reg.EVR_FVAL k j)) := by
  let u := s.updEvr fun e => { e with slots := mput e.slots k.val { mgetD s.evr.slots k.val {} with snapDue := false } }
  have hevr : ((List.range 32).foldl (fun s j => s.snapPort k.val j) u).evr = u.evr :=
    foldl_keeps (fun x : State => x.evr = u.evr) _ _ u rfl fun x j _ hx => (evr_snapPort x k j).1.trans hx
  have hread (x : State) (i j : Nat) (hj : j < 32) : (x.snapPort k i).reg (Reg.EVR_FSNAP j) = x.reg (Reg.EVR_FSNAP j) :=
    reg_snapPort_ne x (by lia)
  refine ⟨_, congrArg Host.Outcome.next (if_pos hdue), ?_, fun j hj hon hnone => ?_, fun j hj hoff => ?_⟩
  · rw [hevr]
    exact congrArg FreezeSlot.snapDue (mgetD_mput_same _ _ _ _)
  · have hzero (x : State) (hx : x.unsnapped j) : (x.snapPort k j).reg (Reg.EVR_FVAL k j) = 0 := by
      unfold State.snapPort
      rw [if_pos hx.1]
      exact (State.reg_setReg_same _ _ _).trans (if_neg (ne_true_of_eq_false hx.2))
    have hstays (x : State) (i : Nat) (hx : x.unsnapped j) : (x.snapPort k i).unsnapped j :=
      ⟨(congrArg (bit · 31) (hread x i j hj)).trans hx.1, by rw [decoded_snapPort, regF, hread x i j hj]; exact hx.2⟩
    obtain ⟨-, hval⟩ := foldl_reaches (f := fun x i => State.snapPort x k i) (fun x => x.unsnapped j) (fun x => x.reg (Reg.EVR_FVAL k j) = 0) hstays
      (List.range 32) (j := j) (List.mem_range.2 hj) (fun x hx => hzero x hx)
      (fun x i hx hv => by
        by_cases hij : i = j
        · rw [hij]
          exact hzero x hx
        · exact (reg_snapPort_ne x (by lia)).trans hv) (u := u) ⟨hon, hnone⟩
    exact hval
  · refine foldl_keeps (fun x : State => x.regB (Reg.EVR_FSNAP j) 31 = false ∧ x.reg (Reg.EVR_FVAL k j) = s.reg (Reg.EVR_FVAL k j)) _ _ u ⟨hoff, rfl⟩
      (fun x i hi hx => ?_) |>.2
    have hsnap : (x.snapPort k i).regB (Reg.EVR_FSNAP j) 31 = false := (congrArg (bit · 31) (reg_snapPort_ne x (by lia))).trans hx.1
    by_cases hij : i = j
    · subst hij
      have hidle : x.snapPort k i = x := if_neg (ne_true_of_eq_false hx.1)
      exact ⟨hsnap, by rw [hidle]; exact hx.2⟩
    · exact ⟨hsnap, (reg_snapPort_ne x (by lia)).trans hx.2⟩

/-- R536: a freeze slot released. -/
def State.releaseSlot (s : State) (k : Nat) : State := (s.updEvr fun e => { e with slots := mput e.slots k {} }).setRegF (Reg.EVR_FST k) 31 30 0

theorem frelWrite_eq (s : State) (v : Word) : s.frelWrite v = (List.range 4).foldl (fun s k => if bit v k then s.releaseSlot k else s) s := rfl

theorem evrFrel_results {p : Party} {v : Word} {s : State} (hturn : s.turnOf p = true) :
    (∃ t, exec (.evrFrel p v) s = .next t ∧ (∀ k, k < 4 → (bit v k = true → mget t.evr.slots k = some {} ∧ t.regF (Reg.EVR_FST k) 31 30 = 0)
        ∧ (bit v k = false → mget t.evr.slots k = mget s.evr.slots k)) ∧ t.evr.circ = s.evr.circ)
    ∧ (∃ t, exec (.evrDsel p v) s = .next t ∧ t.evr.dsel = fld v 15 0 ∧ t.regs = s.regs) := by
  have hreleased (u : State) (k : Nat) : mget (u.releaseSlot k).evr.slots k = some {} ∧ (u.releaseSlot k).regF (Reg.EVR_FST k) 31 30 = 0 :=
    ⟨mget_mput_same _ _ _, regF_setRegF_same _ _ _ (by decide) (by decide)⟩
  refine ⟨⟨(s.turned p).frelWrite v, congrArg Host.Outcome.next (byParty_of_turnOf hturn _), fun k hk => ⟨fun hv => ?_, fun hv => ?_⟩, ?_⟩,
    ⟨_, congrArg Host.Outcome.next (byParty_of_turnOf hturn _), rfl, rfl⟩⟩
  · rw [frelWrite_eq]
    refine foldl_establishes (f := fun u k => if bit v k then State.releaseSlot u k else u)
      (fun (k : Nat) (u : State) => bit v k = true → mget u.evr.slots k = some {} ∧ u.regF (Reg.EVR_FST k) 31 30 = 0)
      (List.range 4) (s.turned p) (fun u q _ hq => ?_) (fun u q j hu hj => ?_) k (List.mem_range.2 hk) hv
    · rw [if_pos hq]
      exact hreleased u q
    · by_cases hjq : j = q
      · subst hjq
        rw [if_pos hj]
        exact hreleased u j
      · split
        · exact ⟨(mget_mput_ne _ _ hjq).trans (hu hj).1, (congrArg (fld · 31 30) (State.reg_setReg_ne _ _ (by lia))).trans (hu hj).2⟩
        · exact hu hj
  · rw [frelWrite_eq]
    refine foldl_keeps (fun u : State => mget u.evr.slots k = mget s.evr.slots k) _ _ (s.turned p) rfl fun u q _ hu => ?_
    split
    · next hq => exact (mget_mput_ne _ _ fun h => by rw [h, hq] at hv; cases hv).trans hu
    · exact hu
  · rw [frelWrite_eq]
    refine foldl_keeps (fun u : State => u.evr.circ = s.evr.circ) _ _ (s.turned p) rfl fun u q _ hu => ?_
    split <;> exact hu

/-- Settles O54: the store, the windows and the freeze slots, one lemma each. -/
theorem recorderResults : Obligations.RecorderResults := by
  unfold Obligations.RecorderResults
  exact ⟨fun _ _ _ => recordStore_results, fun _ _ _ => evrScrub_results, optimeSave_results, fun _ _ _ => evrCur_results,
    fun _ _ _ _ _ _ => windowCopyEnd_results, fun _ _ => freezeSnapshot_results, fun _ _ _ => evrFrel_results⟩

end Sys2Proof.Machine
end

section
/-! PROOFS. The service protocol (R531, R542, R556 to R560); then the statement `Obligations.ServiceResults`. -/
namespace Sys2Proof.Machine

open State (setBitR clrBitR setRegF regB regF Leaves)

/-! ### Replies (R556, R557) -/

/-- R557: a session whose 60 s begin anew with a request. -/
def State.inSession (s : State) (k : Nat) (q : Session) : State :=
  s.updBoot fun b => { b with sessions := mput b.sessions k { q with el := s.tb.el } }

theorem reply_emits {s : State} (hclk : s.domainOut 6 = false) (k tag cmd : Nat) (st : SvcStatus) (data : List Byte) :
    s.reply k tag cmd st data = s.emit (.service k tag cmd (svcCode st) data) := if_neg (ne_true_of_eq_false hclk)

theorem onSession_closed {s : State} {k : Nat} (h : mget s.boot.sessions k = none) (hclk : s.domainOut 6 = false) (tag cmd : Nat)
    (act : State → Nat → State × SvcStatus × List Byte) : s.onSession k tag cmd act = s.emit (.service k tag cmd 5 []) := by
  unfold State.onSession
  rw [h]
  exact reply_emits hclk _ _ _ _ _

/-- R556: a request on an open session does what its command says and gets one reply. -/
theorem onSession_open {s : State} {k : Nat} {q : Session} (h : mget s.boot.sessions k = some q) {act : State → Nat → State × SvcStatus × List Byte}
    {r : State} {st : SvcStatus} {data : List Byte} (hact : act (s.inSession k q) q.level = (r, st, data)) (hclk : r.domainOut 6 = false)
    (tag cmd : Nat) : s.onSession k tag cmd act = r.emit (.service k tag cmd (svcCode st) data) := by
  unfold State.onSession
  rw [h]
  have hact' : act (s.updBoot fun b => { b with sessions := mput b.sessions k { q with el := s.tb.el } }) q.level = (r, st, data) := hact
  simp only [hact']
  exact reply_emits hclk _ _ _ _ _

/-- R556: what a request on an open session leaves is what its command leaves, with its reply sent. -/
theorem onSession_answers {s : State} {k : Nat} {q : Session} (h : mget s.boot.sessions k = some q)
    {act : State → Nat → State × SvcStatus × List Byte} {r : State} {st : SvcStatus} {data : List Byte}
    (hact : act (s.inSession k q) q.level = (r, st, data)) (hclk : r.domainOut 6 = false) (tag cmd : Nat) :
    ∃ t, s.onSession k tag cmd act = t ∧ sent r t (.service k tag cmd (svcCode st) data) ∧ t.evr = r.evr ∧ t.boot = r.boot :=
  ⟨_, onSession_open h hact hclk tag cmd, rfl, rfl, rfl⟩

theorem needLevel_met {need lv : Nat} (h : need ≤ lv) {act : State → State × SvcStatus} {s r : State} {st : SvcStatus} (hact : act s = (r, st)) :
    needLevel need act s lv = (r, st, []) := by
  unfold needLevel
  rw [if_neg (by omega), hact]

/-! ### Sessions (R557) -/

theorem mput_nil_or {α : Type} (m : SMap α) (h : m.length < 2) : m = [] ∨ ∃ k v, m = [(k, v)] := by
  match m with
  | [] => exact .inl rfl
  | [(k, v)] => exact .inr ⟨k, v, rfl⟩
  | _ :: _ :: t => simp at h

/-- R557: with one session open or none, a new one gets a number of its own. -/
theorem freshSession_unused {s : State} (h : s.boot.sessions.length < 2) : mget s.boot.sessions s.freshSession = none := by
  unfold State.freshSession
  extract_lets n
  have hn : n ≤ 65535 ∧ 1 ≤ n := by simp only [n]; omega
  rcases mput_nil_or s.boot.sessions h with hnone | ⟨k, v, hone⟩
  · rw [hnone]; rfl
  · have hmget : ∀ j, mget s.boot.sessions j = if k = j then some v else none := fun j => by rw [hone]; rfl
    rw [hmget n]
    by_cases hk : k = n
    · simp only [hk, if_true, Option.isSome_some]
      rw [hmget, if_neg (by omega)]
    · simp only [hk, if_false, Option.isSome_none, Bool.false_eq_true]
      rw [hmget, if_neg hk]

theorem openSession_results {tag : Fin 65536} {s : State} (hclk : s.domainOut 6 = false) :
    (s.boot.sessions.length < 2 → ∃ t n, exec (.openSession tag) s = .next t ∧ mget s.boot.sessions n = none
        ∧ mget t.boot.sessions n = some { level := 0, el := s.tb.el } ∧ sent s t (.service 0 tag 1 0 (beBytes n 2)) ∧ t.regs = s.regs)
    ∧ (2 ≤ s.boot.sessions.length → ∃ t, exec (.openSession tag) s = .next t ∧ t.boot = s.boot ∧ sent s t (.service 0 tag 1 4 [])
        ∧ t.regs = s.regs) := by
  refine ⟨fun h => ?_, fun h => ⟨_, congrArg Host.Outcome.next ((if_pos h).trans (reply_emits hclk _ _ _ _ _)), rfl, rfl, rfl⟩⟩
  let n := s.freshSession
  let u := s.updBoot fun b => { b with sessions := mput b.sessions n { level := 0, el := s.tb.el }, nextSession := n + 1 }
  exact ⟨u.emit (.service 0 tag 1 0 (beBytes n 2)), n, congrArg Host.Outcome.next ((if_neg (by omega)).trans (reply_emits (s := u) hclk _ _ _ _ _)),
    freshSession_unused h, mget_mput_same _ _ _, rfl, rfl⟩

theorem closeSession_results {k tag : Fin 65536} {q : Session} {s : State} (hopen : mget s.boot.sessions k = some q) (hclk : s.domainOut 6 = false) :
    (∃ t, exec (.close k tag) s = .next t ∧ mget t.boot.sessions k = none ∧ sent s t (.service k tag 3 0 []) ∧ t.regs = s.regs)
    ∧ (q.el + 60000000000 ≤ s.tb.el → ∃ t, exec (.sessionTimeout k) s = .next t ∧ mget t.boot.sessions k = none ∧ t.out = s.out
        ∧ t.regs = s.regs) := by
  let r := (s.inSession k q).updBoot fun b => { b with sessions := mdel b.sessions k }
  refine ⟨⟨r.emit (.service k tag 3 0 []), congrArg Host.Outcome.next (onSession_open (r := r) (st := .ok) hopen (needLevel_met (Nat.zero_le _) rfl) hclk _ _),
      mget_mdel_same _ _, rfl, rfl⟩,
    fun hold => ⟨s.updBoot fun b => { b with sessions := mdel b.sessions k }, congrArg Host.Outcome.next ?_, mget_mdel_same _ _, rfl, rfl⟩⟩
  simp only [hopen]
  exact if_pos hold

/-- R557: the sessions beside one are those beside it after that one's request. -/
theorem any_mput_beside (f : Nat × Session → Bool) (k : Nat) (v : Session) (hf : ∀ w, f (k, w) = false) (m : SMap Session) :
    (mput m k v).any f = m.any f := by
  induction m with
  | nil => simp [mput, hf]
  | cons p t ih =>
    obtain ⟨j, w⟩ := p
    rw [mput]
    split
    · simp [hf]
    split
    · next hk => simp [← hk, hf]
    · simp [ih]

theorem level_results {k tag : Fin 65536} {q : Session} {s : State} (hopen : mget s.boot.sessions k = some q) (hclk : s.domainOut 6 = false)
    {tok : List Byte} (hlen : tok.length = 96) (hone : s.otherCommissioner k = false) :
    ∃ t, exec (.level k tag tok) s = .next t
        ∧ (s.tokenOk tok (tokField tok 9 1) none = true → sent s t (.service k tag 2 0 [])
            ∧ mget t.boot.sessions k = some { level := max (tokField tok 9 1) q.level, el := s.tb.el })
        ∧ (s.tokenOk tok (tokField tok 9 1) none = false → sent s t (.service k tag 2 3 [])
            ∧ mget t.boot.sessions k = some { level := q.level, el := s.tb.el }) ∧ sameRegs s t [] := by
  let u := s.inSession k q
  have hcom : u.otherCommissioner k = false := by
    refine (any_mput_beside (fun x => x.1 != k.val && x.2.level == 2) k _ (fun w => ?_) s.boot.sessions).trans hone
    simp
  have htok : u.tokenOk tok (tokField tok 9 1) none = s.tokenOk tok (tokField tok 9 1) none := rfl
  have hself : mget u.boot.sessions k = some { q with el := s.tb.el } := mget_mput_same _ _ _
  have hkept (n : RecName) (l : List Nat) (v : State) (hv : v.boot.lostNow = s.boot.lostNow) : (v.record n 0 l).domainOut 6 = false := by
    rw [State.domainOut, boot_record, hv]
    exact hclk
  by_cases hok : s.tokenOk tok (tokField tok 9 1) none = true
  · let v := u.updBoot fun b => { b with
      sessions := mput b.sessions k.val { level := max (tokField tok 9 1) (mgetD b.sessions k.val {}).level, el := u.tb.el } }
    have hraise : u.raise k tok = (v.record .svcLevel 0 [tokField tok 0 8], .ok) := by
      unfold State.raise
      simp only [hlen, htok, hok, hcom, Bool.and_false, Bool.not_true]
      rfl
    refine ⟨(v.record .svcLevel 0 [tokField tok 0 8]).emit (.service k tag 2 0 []),
      congrArg Host.Outcome.next (onSession_open (r := v.record .svcLevel 0 [tokField tok 0 8]) (st := .ok) hopen (needLevel_met (Nat.zero_le _) hraise)
        (hkept _ _ v rfl) _ _), fun _ => ⟨?_, ?_⟩,
      fun h => absurd hok (ne_true_of_eq_false h), sameRegs_record v _ _ _ _⟩
    · exact congrArg (· ++ _) (out_record v _ _ _)
    · have hlevel : (mgetD u.boot.sessions k.val {}).level = q.level := by rw [mgetD, hself]; rfl
      have hraised : mget v.boot.sessions k = some { level := max (tokField tok 9 1) (mgetD u.boot.sessions k.val {}).level, el := s.tb.el } :=
        mget_mput_same _ _ _
      rw [← hlevel]
      exact (congrArg (fun b : Boot => mget b.sessions k.val) (boot_record v _ _ _)).trans hraised
  · have hno : s.tokenOk tok (tokField tok 9 1) none = false := Bool.eq_false_iff.2 hok
    have hraise : u.raise k tok = (u.record .svcRefused 0 [tokField tok 0 8], .refused) := by
      unfold State.raise
      simp only [hlen, htok, hno, Bool.not_false]
      rfl
    refine ⟨(u.record .svcRefused 0 [tokField tok 0 8]).emit (.service k tag 2 3 []),
      congrArg Host.Outcome.next (onSession_open (r := u.record .svcRefused 0 [tokField tok 0 8]) (st := .refused) hopen (needLevel_met (Nat.zero_le _) hraise)
        (hkept _ _ u rfl) _ _), fun h => absurd h hok,
      fun _ => ⟨congrArg (· ++ _) (out_record u _ _ _), ?_⟩, sameRegs_record u _ _ _ _⟩
    exact (congrArg (fun b : Boot => mget b.sessions k.val) (boot_record u _ _ _)).trans hself

/-! ### Ports (R556) -/

theorem svcRead_undecoded (s : State) (l : List Nat) (h : ∀ a ∈ l, s.decoded a = false) : s.svcRead l = (s, List.replicate (4 * l.length) 0) := by
  induction l with
  | nil => rfl
  | cons a t ih =>
    have hzero : (if s.decoded a then s.readPort svcReader a else (0, s)) = (0, s) := if_neg (ne_true_of_eq_false (h a List.mem_cons_self))
    have hbytes : beBytes (0 : Word).toNat 4 = List.replicate 4 0 := rfl
    unfold State.svcRead
    simp only [hzero, ih fun b hb => h b (List.mem_cons_of_mem _ hb), hbytes, List.length_cons]
    rw [← List.replicate_add, show 4 + 4 * t.length = 4 * (t.length + 1) by omega]

theorem pget_results {k tag : Fin 65536} {q : Session} {s : State} (hopen : mget s.boot.sessions k = some q) (hclk : s.domainOut 6 = false)
    {l : List (Fin 65536)} (hlow : 1 ≤ l.length) (hhigh : l.length ≤ 64) (hnone : ∀ a, a ∈ l → s.decoded a.val = false) :
    ∃ t, exec (.pget k tag l) s = .next t ∧ sent s t (.service k tag 4 0 (List.replicate (4 * l.length) 0)) ∧ t.regs = s.regs := by
  have hread : (s.inSession k q).svcRead (l.map Fin.val) = (s.inSession k q, List.replicate (4 * l.length) 0) := by
    refine (svcRead_undecoded _ _ fun a ha => ?_).trans (by rw [List.length_map])
    obtain ⟨b, hb, rfl⟩ := List.mem_map.1 ha
    exact hnone b hb
  refine ⟨(s.inSession k q).emit (.service k tag 4 0 (List.replicate (4 * l.length) 0)),
    congrArg Host.Outcome.next (onSession_open (r := s.inSession k q) (st := .ok) hopen ?_ hclk _ _), rfl, rfl⟩
  rw [if_neg (by omega), hread]

theorem pput_staged {k tag : Fin 65536} {q : Session} {s : State} (hopen : mget s.boot.sessions k = some q) (hclk : s.domainOut 6 = false)
    {g : GroupNo} {a : Fin 65536} {v : Word} (hlevel : putLevel a ≤ q.level) (hoper : 1 ≤ q.level) (hdec : s.decoded a = true)
    (hstaged : isStaged a = true) (hfb : a.val ≠ Reg.OPT_FBLIM) (hsw : a.val ≠ Reg.LPE_SWAP)
    (hring : ¬ (0x0901 ≤ a.val ∧ a.val < 0x0A00 ∧ a.val % 4 = 1)) (hstop : s.stopReal g = false) (hover : (s.group g).overflowed = false)
    (hroom : (s.group g).pend.length < 128) :
    ∃ t, exec (.pput k tag g [(a, v)]) s = .next t ∧ sent s t (.service k tag 5 0 []) ∧ (∀ r, t.reg r = s.reg r)
        ∧ { clause := none, disp := 0, addr := a.val, val := v, clk := s.clk, ord := (s.group g).stageNo } ∈ (t.group g).pend := by
  let u := (s.inSession k q).acting ((s.inSession k q).partyRank (.svc g))
  let w : PendWrite := { clause := none, disp := 0, addr := a, val := v, clk := s.clk }
  obtain ⟨hpend, hreg⟩ := stageIn_joins (s := u) (g := g.val) w hstop hover hroom
  have hput : u.writePort (.svc g) a v = u.stageIn g w := by
    rw [writePort_svc_staged g v (s := u) hdec hstaged, poke_staged (.svc g) v hstaged hfb hsw hring]
    rfl
  have hjoined : (u.stageIn g w).out = s.out ∧ (u.stageIn g w).boot.lostNow = s.boot.lostNow := by
    have hidle : u.openOver g = false := by
      have hstop' : u.stopReal g = false := hstop
      have hover' : (u.group g).overflowed = false := hover
      simp [State.openOver, hstop', hover']
    unfold State.stageIn
    extract_lets due open_ regs
    rw [if_neg (ne_true_of_eq_false hidle)]
    split
    · exact ⟨out_record _ _ _ _, (congrArg Boot.lostNow (boot_record _ _ _ _)).trans rfl⟩
    · exact ⟨rfl, rfl⟩
  refine ⟨(u.stageIn g w).emit (.service k tag 5 0 []), congrArg Host.Outcome.next (onSession_open (r := u.stageIn g w) (st := .ok) hopen ?_ ?_ _ _),
    congrArg (· ++ _) hjoined.1,
    hreg, ?_⟩
  · have hmax : ¬ q.level < [(a, v)].foldl (fun m q => max m (putLevel q.1.val)) 1 := by simp; omega
    rw [if_neg hmax, if_neg (by simp)]
    exact congrArg (fun x : State => (x, SvcStatus.ok, ([] : List Byte))) hput
  · rw [State.domainOut, hjoined.2]
    exact hclk
  · have hmem : { w with ord := (u.group g).stageNo } ∈ ((u.stageIn g w).group g).pend := by
      rw [hpend]
      exact List.mem_append_right _ (List.mem_singleton_self _)
    exact hmem

theorem pput_level {k tag : Fin 65536} {q : Session} {s : State} (hopen : mget s.boot.sessions k = some q) (hclk : s.domainOut 6 = false)
    {g : GroupNo} {l : List (Fin 65536 × Word)} (hlevel : q.level = 0) :
    ∃ t, exec (.pput k tag g l) s = .next t ∧ sent s t (.service k tag 5 1 []) ∧ t.regs = s.regs := by
  have hmax : 1 ≤ l.foldl (fun m q => max m (putLevel q.1.val)) 1 :=
    foldl_keeps (fun m => 1 ≤ m) _ _ _ (Nat.le_refl 1) fun m x _ hm => Nat.le_trans hm (Nat.le_max_left _ _)
  exact ⟨(s.inSession k q).emit (.service k tag 5 1 []), congrArg Host.Outcome.next (onSession_open (r := s.inSession k q) (st := .level) hopen (if_pos (by omega)) hclk _ _),
    rfl, rfl⟩

/-! ### Images (R559) -/

theorem imgw_results {k tag : Fin 65536} {q : Session} {s : State} (hopen : mget s.boot.sessions k = some q) (hclk : s.domainOut 6 = false)
    {slot : Fin 256} {off : Nat} {data : List Byte} (hlevel : 2 ≤ q.level) (hcanon : s.Canonical) (hslot : slot.val < 2) (hdata : data ≠ [])
    (hlen : data.length ≤ 1016) (hfit : off + data.length ≤ 67108864) :
    (s.regF Reg.SYS_BOOT 3 2 ≠ slot → ∃ t, exec (.imgw k tag slot off data) s = .next t ∧ sent s t (.service k tag 6 0 [])
          ∧ cellsGet t.boot.flash (slotAddr slot off) data.length = data ∧ t.regB Reg.SYS_BOOT (4 + slot) = false
          ∧ (∀ a, a < slotAddr slot off ∨ slotAddr slot off + data.length ≤ a → cellGet t.boot.flash a = cellGet s.boot.flash a))
      ∧ (s.regF Reg.SYS_BOOT 3 2 = slot → ∃ t, exec (.imgw k tag slot off data) s = .next t ∧ sent s t (.service k tag 6 3 [])
          ∧ t.boot.flash = s.boot.flash) := by
  have hgood : ¬ (2 ≤ slot.val ∨ data.length = 0 ∨ 1016 < data.length ∨ 67108864 < off + data.length) := by
    have hpos : data.length ≠ 0 := fun h => hdata (List.length_eq_zero_iff.1 h)
    omega
  have hcell : ∀ a, cellGet (cellsPut s.boot.flash (slotAddr slot off) data) a
      = if slotAddr slot off ≤ a ∧ a < slotAddr slot off + data.length then data.getD (a - slotAddr slot off) 0 else cellGet s.boot.flash a :=
    fun a => cellGet_cellsPut _ _ _ _ hcanon.2.2
  refine ⟨fun hother => ?_, fun hrun => ?_⟩
  · let r := ((s.inSession k q).updBoot fun b => { b with flash := cellsPut b.flash (slotAddr slot off) data }).clrBitR Reg.SYS_BOOT (4 + slot)
    refine ⟨r.emit (.service k tag 6 0 []), congrArg Host.Outcome.next (onSession_open (r := r) (st := .ok) hopen (needLevel_met hlevel ?_) hclk _ _),
      rfl, ?_, (regB_clrBitR _ (by omega) _ _ _).trans (if_pos ⟨rfl, rfl⟩), fun a ha => (hcell a).trans (if_neg (by omega))⟩
    · exact (if_neg hgood).trans (if_neg hother)
    · refine List.ext_getElem (by simp [cellsGet]) fun i h1 h2 => ?_
      have hi : i < data.length := h2
      simp only [cellsGet, List.getElem_map, List.getElem_range]
      refine (hcell _).trans ((if_pos (by omega)).trans ?_)
      rw [Nat.add_sub_cancel_left, List.getD_eq_getElem _ _ hi]
  · refine ⟨(s.inSession k q).emit (.service k tag 6 3 []),
      congrArg Host.Outcome.next (onSession_open (r := s.inSession k q) (st := .refused) hopen (needLevel_met hlevel ?_) hclk _ _), rfl, rfl⟩
    exact (if_neg hgood).trans (if_pos hrun)

theorem imgchk_results {k tag : Fin 65536} {q : Session} {s : State} (hopen : mget s.boot.sessions k = some q) (hclk : s.domainOut 6 = false)
    {slot : Fin 256} (hlevel : 2 ≤ q.level) (hslot : slot.val < 2) : ∃ t, exec (.imgchk k tag slot) s = .next t
        ∧ t.regB Reg.SYS_BOOT (4 + slot) = (s.imageSteps slot).isNone
        ∧ sent s t (.service k tag 7 (if (s.imageSteps slot).isNone then 0 else 3) []) ∧ sameRegs s t [Reg.SYS_BOOT] := by
  let u := s.inSession k q
  have hsteps : u.imageSteps slot = s.imageSteps slot := rfl
  have hkept (v : State) (hv : v.boot.lostNow = s.boot.lostNow) (n : RecName) (l : List Nat) : (v.record n 0 l).domainOut 6 = false := by
    rw [State.domainOut, boot_record, hv]
    exact hclk
  cases hfound : s.imageSteps slot with
  | some n =>
    let v := u.clrBitR Reg.SYS_BOOT (4 + slot)
    refine ⟨(v.record n 0 [slot.val]).emit (.service k tag 7 3 []),
      congrArg Host.Outcome.next (onSession_open (r := v.record n 0 [slot.val]) (st := .refused) hopen (needLevel_met hlevel ?_) (hkept v rfl _ _) _ _), ?_,
      congrArg (· ++ _) (out_record v _ _ _), sameRegs_trans (sameRegs_clrBitR u _ _) (sameRegs_record v _ _ _ _)⟩
    · refine (if_neg (by omega)).trans ?_
      rw [show (s.inSession k q).imageSteps slot = some n from hsteps.trans hfound]
    · exact (congrArg (bit · (4 + slot.val)) (reg_record_outside v _ _ _ (by decide))).trans ((regB_clrBitR u (by omega) _ _ _).trans (if_pos ⟨rfl, rfl⟩))
  | none =>
    let v := u.setBitR Reg.SYS_BOOT (4 + slot)
    let l := [slot.val, v.imageWord slot 5, v.imageWord slot 3, v.imageWord slot 6]
    refine ⟨(v.record .imageLoaded 0 l).emit (.service k tag 7 0 []),
      congrArg Host.Outcome.next (onSession_open (r := v.record .imageLoaded 0 l) (st := .ok) hopen (needLevel_met hlevel ?_) (hkept v rfl _ _) _ _), ?_,
      congrArg (· ++ _) (out_record v _ _ _), sameRegs_trans (sameRegs_setBitR u _ _) (sameRegs_record v _ _ _ _)⟩
    · refine (if_neg (by omega)).trans ?_
      rw [show (s.inSession k q).imageSteps slot = none from hsteps.trans hfound]
      rfl
    · exact (congrArg (bit · (4 + slot.val)) (reg_record_outside v _ _ _ (by decide))).trans ((regB_setBitR u (by omega) _ _ _).trans (if_pos ⟨rfl, rfl⟩))

/-! ### Resets (R551, R553, R554) -/

/-- R553: without authority, or alone, an orderly reset comes at once. -/
theorem orderlyReset_now {s : State} (cause : Nat) (hnone : s.boot.rstPend = none) (hfree : s.hold = false ∨ s.solo = true) :
    s.orderlyReset cause = (s.updBoot fun b => { b with rstPend := some cause, rstEl := some s.tb.el }).setBitR Reg.SYS_BTN 29 := by
  unfold State.orderlyReset
  rw [if_neg (by rw [hnone]; decide), if_pos (by rcases hfree with h | h <;> simp [h])]

theorem resetRequest_results {k tag : Fin 65536} {q : Session} {s : State} (hopen : mget s.boot.sessions k = some q) (hclk : s.domainOut 6 = false) :
    (2 ≤ q.level → ∃ t, exec (.reset k tag true) s = .next t ∧ t.boot.rstPend = some 5 ∧ t.boot.rstEl = some s.tb.el
        ∧ sent s t (.service k tag 8 0 []))
    ∧ (1 ≤ q.level → s.boot.rstPend = none → s.hold = false → ∃ t, exec (.reset k tag false) s = .next t
        ∧ t.boot.rstPend = some (if s.regF Reg.SYS_BOOT 1 0 = s.regF Reg.SYS_BOOT 3 2 then 5 else 6) ∧ sent s t (.service k tag 8 0 [])) := by
  let u := s.inSession k q
  let c := if s.regF Reg.SYS_BOOT 1 0 = s.regF Reg.SYS_BOOT 3 2 then 5 else 6
  refine ⟨fun hlevel => ⟨(u.immediateReset 5).emit (.service k tag 8 0 []),
      congrArg Host.Outcome.next (onSession_open (r := u.immediateReset 5) (st := .ok) hopen (needLevel_met hlevel rfl) hclk _ _), rfl, rfl, rfl⟩,
    fun hlevel hnone hhold => ?_⟩
  let r := (u.updBoot fun b => { b with rstPend := some c, rstEl := some u.tb.el }).setBitR Reg.SYS_BTN 29
  refine ⟨r.emit (.service k tag 8 0 []),
    congrArg Host.Outcome.next (onSession_open (r := r) (st := .ok) hopen (needLevel_met hlevel ?_) hclk _ _), rfl, rfl⟩
  exact congrArg (fun x : State => (x, SvcStatus.ok)) (orderlyReset_now (s := u) c hnone (.inl hhold))

/-! ### Clearing and keys (R531, R558) -/

theorem frelWrite_leaves (s : State) (v : Word) : (s.frelWrite v).out = s.out ∧ (s.frelWrite v).boot = s.boot
    ∧ (∃ x, (s.frelWrite v).evr = { s.evr with slots := x }) ∧ ∀ j, j < 4 → bit v j = true → mget (s.frelWrite v).evr.slots j = some {} := by
  rw [frelWrite_eq]
  refine ⟨foldl_keeps (fun u : State => u.out = s.out) _ _ s rfl fun u k _ hu => ?_, foldl_keeps (fun u : State => u.boot = s.boot) _ _ s rfl
    fun u k _ hu => ?_, foldl_keeps (fun u : State => ∃ x, u.evr = { s.evr with slots := x }) _ _ s ⟨_, rfl⟩ fun u k _ hu => ?_, fun j hj hv => ?_⟩
  · split <;> exact hu
  · split <;> exact hu
  · obtain ⟨x, hx⟩ := hu
    split
    · exact ⟨_, congrArg (fun e : Evr => { e with slots := mput u.evr.slots k {} }) hx⟩
    · exact ⟨x, hx⟩
  · refine foldl_establishes (f := fun u k => if bit v k then State.releaseSlot u k else u)
      (fun (k : Nat) (u : State) => bit v k = true → mget u.evr.slots k = some {}) (List.range 4) s (fun u q _ hq => ?_) (fun u q i hu hi => ?_) j
      (List.mem_range.2 hj) hv
    · rw [if_pos hq]
      exact mget_mput_same _ _ _
    · split
      · exact (mget_mput _ _ _ _).trans (ite_eq_left_iff.2 fun _ => hu hi)
      · exact hu hi

theorem evr_perm_record (s : State) (n : RecName) (el : Nat) (items : List Nat) : (s.record n el items).evr.perm = s.evr.perm :=
  congrArg (fun x => x.2.1.2) (record_leaves_stored s n el items).eq

theorem clearRecorder_results (s : State) (id client : Nat) : (s.clearRecorder id client).out = s.out ∧ (s.clearRecorder id client).boot = s.boot
    ∧ (s.clearRecorder id client).evr.perm = [] ∧ (s.clearRecorder id client).evr.clear = s.evr.nextSeq
    ∧ ∀ j, j < 4 → mget (s.clearRecorder id client).evr.slots j = some {} := by
  obtain ⟨v, hv⟩ : ∃ v, v = (s.record .evrClear 0 [s.evr.clear, id, client]).updEvr fun e => { e with perm := [], clear := s.evr.nextSeq } := ⟨_, rfl⟩
  have hrun : s.clearRecorder id client = v.frelWrite 0xF := by rw [hv]; rfl
  have hout : v.out = s.out := by rw [hv]; exact out_record _ _ _ _
  have hboot : v.boot = s.boot := by rw [hv]; exact boot_record _ _ _ _
  have hperm : v.evr.perm = [] ∧ v.evr.clear = s.evr.nextSeq := by rw [hv]; exact ⟨rfl, rfl⟩
  obtain ⟨hout', hboot', ⟨x, hx⟩, hslots⟩ := frelWrite_leaves v 0xF
  rw [hrun]
  refine ⟨hout'.trans hout, hboot'.trans hboot, (congrArg Evr.perm hx).trans hperm.1, (congrArg Evr.clear hx).trans hperm.2, fun j hj => hslots j hj ?_⟩
  rcases (show j = 0 ∨ j = 1 ∨ j = 2 ∨ j = 3 by omega) with rfl | rfl | rfl | rfl <;> decide

/-- CLEAR on an open session (R531). -/
def clearAct (client : Fin 256) (tok : List Byte) (s : State) (lv : Nat) : State × SvcStatus × List Byte :=
  if lv < 2 then (s.record .evrClearRefused 0 [tokField tok 0 8, 2], .level, [])
  else if tok.length ≠ 96 then (s, .lenErr, [])
  else if s.tokenOk tok 2 (some 0) then (s.clearRecorder (tokField tok 0 8) client.val, .ok, [])
  else (s.record .evrClearRefused 0 [tokField tok 0 8, 1], .refused, [])

theorem clear_results {k tag : Fin 65536} {q : Session} {s : State} (hopen : mget s.boot.sessions k = some q) (hclk : s.domainOut 6 = false)
    {client : Fin 256} {tok : List Byte} :
    (2 ≤ q.level → tok.length = 96 → ∃ t, exec (.clear k tag client tok) s = .next t
        ∧ (s.tokenOk tok 2 (some 0) = true → t.evr.perm = [] ∧ t.evr.clear = s.evr.nextSeq ∧ sent s t (.service k tag 9 0 [])
            ∧ ∀ j, j < 4 → mget t.evr.slots j = some {})
        ∧ (s.tokenOk tok 2 (some 0) = false → t.evr.perm = s.evr.perm ∧ sent s t (.service k tag 9 3 [])))
    ∧ (q.level < 2 → ∃ t, exec (.clear k tag client tok) s = .next t
        ∧ sent s t (.service k tag 9 1 []) ∧ t.evr.perm = s.evr.perm) := by
  obtain ⟨u, hu⟩ : ∃ u, u = s.inSession k q := ⟨_, rfl⟩
  have htok : u.tokenOk tok 2 (some 0) = s.tokenOk tok 2 (some 0) := by rw [hu]; rfl
  have hevr : u.evr = s.evr := by rw [hu]; rfl
  have hout : u.out = s.out := by rw [hu]; rfl
  have hlost : u.boot.lostNow = s.boot.lostNow := by rw [hu]; rfl
  have hkept (r : State) (hr : r.boot = u.boot) : r.domainOut 6 = false := by
    rw [State.domainOut, hr, hlost]
    exact hclk
  have hrefused (l : List Nat) := hkept (u.record .evrClearRefused 0 l) (boot_record u _ _ _)
  have hperm (l : List Nat) : (u.record .evrClearRefused 0 l).evr.perm = s.evr.perm := (evr_perm_record u _ _ _).trans (congrArg Evr.perm hevr)
  refine ⟨fun hlevel hlen => ?_, fun hlevel => ?_⟩
  · by_cases hok : s.tokenOk tok 2 (some 0) = true
    · obtain ⟨hout', hboot, hperm', hclear, hslots⟩ := clearRecorder_results u (tokField tok 0 8) client.val
      obtain ⟨t, hrun, hsent, hevr', -⟩ := onSession_answers (r := u.clearRecorder (tokField tok 0 8) client.val) (st := .ok) (data := []) hopen
        (act := clearAct client tok) (by rw [← hu, clearAct, if_neg (by omega), if_neg (by omega), htok, if_pos hok]) (hkept _ hboot) tag 9
      refine ⟨t, congrArg Host.Outcome.next hrun, fun _ => ⟨by rw [hevr', hperm'], by rw [hevr', hclear, hevr], ?_, by rw [hevr']; exact hslots⟩,
        fun h => absurd hok (ne_true_of_eq_false h)⟩
      exact hsent.trans (congrArg (· ++ _) (hout'.trans hout))
    · obtain ⟨t, hrun, hsent, hevr', -⟩ := onSession_answers (r := u.record .evrClearRefused 0 [tokField tok 0 8, 1]) (st := .refused) (data := [])
        hopen (act := clearAct client tok) (by rw [← hu, clearAct, if_neg (by omega), if_neg (by omega), htok, if_neg hok]) (hrefused _) tag 9
      exact ⟨t, congrArg Host.Outcome.next hrun, fun h => absurd h hok, fun _ => ⟨by rw [hevr', hperm],
        hsent.trans (congrArg (· ++ _) ((out_record u _ _ _).trans hout))⟩⟩
  · obtain ⟨t, hrun, hsent, hevr', -⟩ := onSession_answers (r := u.record .evrClearRefused 0 [tokField tok 0 8, 2]) (st := .level) (data := []) hopen
      (act := clearAct client tok) (by rw [← hu, clearAct, if_pos hlevel]) (hrefused _) tag 9
    exact ⟨t, congrArg Host.Outcome.next hrun, hsent.trans (congrArg (· ++ _) ((out_record u _ _ _).trans hout)), by rw [hevr', hperm]⟩

theorem length_sha256_le (m : List Byte) : (sha256 m).length ≤ 32 := by
  unfold sha256
  extract_lets p ws h
  have hh : h.length ≤ 8 := by
    refine foldl_keeps (fun l : List Nat => l.length ≤ 8) _ _ _ (by decide) fun l i _ hl => ?_
    simp only [shaBlock, List.length_map, List.length_zip]
    omega
  have hbytes (l : List Nat) : (l.foldr (fun w acc => (bytesLE w 4).reverse ++ acc) ([] : List Byte)).length = 4 * l.length := by
    induction l with
    | nil => rfl
    | cons w t ih =>
      rw [List.foldr_cons, List.length_append, ih, List.length_reverse, List.length_cons]
      simp [bytesLE]
      omega
  rw [hbytes]
  omega

theorem ofBytesLE_lt (l : List Byte) : ofBytesLE l < 256 ^ l.length := by
  induction l with
  | nil => decide
  | cons b t ih =>
    have hb : b.toNat < 256 := b.isLt
    rw [List.length_cons, Nat.pow_succ]
    simp only [ofBytesLE]
    omega

/-- R558: the fingerprint of a key is its last two bytes. -/
theorem fingerprint_lt (pub : List Byte) : ofBytesLE (((sha256 pub).drop 30).reverse) < 65536 := by
  have hlen : ((sha256 pub).drop 30).reverse.length ≤ 2 := by
    have := length_sha256_le pub
    rw [List.length_reverse, List.length_drop]
    omega
  exact Nat.lt_of_lt_of_le (ofBytesLE_lt _) (Nat.pow_le_pow_right (by decide) hlen)

theorem key_results {k tag : Fin 65536} {q : Session} {s : State} (hopen : mget s.boot.sessions k = some q) (hclk : s.domainOut 6 = false)
    {slot : Fin 256} {pub tok : List Byte} (hlevel : 2 ≤ q.level) (hlen : tok.length = 96) (hslot : slot.val < 4) :
    ∃ t, exec (.key k tag slot pub tok) s = .next t
        ∧ (s.tokenOk tok 2 (some 1) = true → mget t.boot.keys slot = some pub ∧ t.regB (Reg.SEC_KEY slot) 31 = true
            ∧ sent s t (.service k tag 10 0 []))
        ∧ (s.tokenOk tok 2 (some 1) = false → t.boot.keys = s.boot.keys ∧ sent s t (.service k tag 10 3 [])) := by
  let u := s.inSession k q
  have htok : u.tokenOk tok 2 (some 1) = s.tokenOk tok 2 (some 1) := rfl
  have hgood : ¬ (tok.length ≠ 96 ∨ 4 ≤ slot.val) := by omega
  by_cases hok : s.tokenOk tok 2 (some 1) = true
  · let f := ofBytesLE (((sha256 pub).drop 30).reverse)
    let r := (u.updBoot fun b => { b with keys := mput b.keys slot.val pub }).setReg (Reg.SEC_KEY slot) (wd (2 ^ 31 + f))
    refine ⟨r.emit (.service k tag 10 0 []), congrArg Host.Outcome.next (onSession_open (r := r) (st := .ok) hopen (needLevel_met hlevel ?_) hclk _ _),
      fun _ => ⟨mget_mput_same _ _ _, ?_, rfl⟩, fun h => absurd hok (ne_true_of_eq_false h)⟩
    · refine (if_neg hgood).trans (if_neg ?_)
      rw [show (s.inSession k q).tokenOk tok 2 (some 1) = true from htok.trans hok]
      decide
    · have hf : f < 65536 := fingerprint_lt pub
      have hset : bit (wd (2 ^ 31 + f)) 31 = true := by
        rw [bit, wd, BitVec.toNat_ofNat, Nat.mod_eq_of_lt (by omega), Nat.testBit_two_pow_add_eq, Nat.testBit_lt_two_pow (by omega), Bool.not_false]
      exact (congrArg (bit · 31) (State.reg_setReg_same _ _ _)).trans hset
  · let r := u.record .svcRefused 0 [tokField tok 0 8]
    have hclk' : r.domainOut 6 = false := by
      rw [State.domainOut, boot_record]
      exact hclk
    refine ⟨r.emit (.service k tag 10 3 []), congrArg Host.Outcome.next (onSession_open (r := r) (st := .refused) hopen (needLevel_met hlevel ?_) hclk' _ _),
      fun h => absurd h hok, fun _ => ⟨(congrArg Boot.keys (boot_record u _ _ _)).trans rfl, congrArg (· ++ _) (out_record u _ _ _)⟩⟩
    refine (if_neg hgood).trans (if_pos ?_)
    rw [show (s.inSession k q).tokenOk tok 2 (some 1) = false from htok.trans (Bool.eq_false_iff.2 hok)]
    rfl

theorem imageDiff_results {e : Nat} {s : State} (hdiff : s.boot.imgEl = some e) (hnew : s.boot.imgNoted = false) (hpair : s.solo = false)
    (hdue : e + 1000000000 ≤ s.tb.el) :
    ∃ t, exec .imageDiff s = .next t ∧ t.regB Reg.SYS_STK 8 = true ∧ t.boot.imgNoted = true ∧ sameRegs s t [Reg.SYS_STK] := by
  let u := (s.updBoot fun b => { b with imgNoted := true }).setBitR Reg.SYS_STK 8
  refine ⟨u.record .pairImageDiff 0 [(s.reg Reg.BTL_IMGH).toNat, (s.reg Reg.BTL_PIMGH).toNat], congrArg Host.Outcome.next ?_,
    (congrArg (bit · 8) (reg_record_outside u _ _ _ (by decide))).trans ((regB_setBitR _ (by decide) _ _ _).trans (if_pos ⟨rfl, rfl⟩)),
    congrArg Boot.imgNoted (boot_record u _ _ _), ?_⟩
  · simp only [hdiff]
    have hguard : (!s.boot.imgNoted && !s.solo && decide (e + 1000000000 ≤ s.tb.el)) = true := by simp [hnew, hpair, hdue]
    rw [if_pos hguard]
  · exact sameRegs_trans (sameRegs_setBitR (s.updBoot fun b => { b with imgNoted := true }) _ _) (sameRegs_record u _ _ _ _)

/-- Settles O57: every request of an open session through `onSession_open`, one lemma for each command. -/
theorem serviceResults : Obligations.ServiceResults := by
  unfold Obligations.ServiceResults
  refine ⟨fun _ _ => openSession_results, fun k tag s hclk hnone => ?_, fun k tag q s hopen hclk => ?_, fun _ _ => imageDiff_results⟩
  · exact ⟨_, congrArg Host.Outcome.next (onSession_closed hnone hclk _ _ _), rfl, rfl, rfl⟩
  · obtain ⟨hclose, htime⟩ := closeSession_results (tag := tag) hopen hclk
    obtain ⟨hnow, horderly⟩ := resetRequest_results (tag := tag) hopen hclk
    exact ⟨hclose, htime, fun _ => level_results hopen hclk, fun _ => pget_results hopen hclk, fun _ _ _ => pput_staged hopen hclk,
      fun _ _ => pput_level hopen hclk, fun _ _ _ => imgw_results hopen hclk, fun _ => imgchk_results hopen hclk, hnow, horderly,
      fun _ _ => (clear_results hopen hclk).1, fun _ _ _ => key_results hopen hclk, fun _ _ => (clear_results hopen hclk).2⟩

end Sys2Proof.Machine
end

section
/-! PROOFS. Giving up authority (R14, R352): what a unit that lets HOLD go leaves. -/
namespace Sys2Proof.Machine

open State (setBitR clrBitR setRegF regB regF Leaves)

/-- The entry of a port other than BTL_STAT. -/
def beyondStat (q : Nat × Word) : Bool := q.1 != Reg.BTL_STAT

/-- The unit without what letting HOLD go moves: BTL_STAT, the enables, what is noted of the pair state, the groups' good marks. -/
def State.unheld (s : State) : State :=
  { s with regs := s.regs.filter beyondStat, sched := {}, now := {}
           pair := { s.pair with groups := [], enOn := false, enEl := 0, readyEl := 0, revCount := 0, revSent := false, both12 := none } }

theorem unheld_setStat (s : State) (v : Word) : (s.setReg Reg.BTL_STAT v).unheld = s.unheld := by
  simp only [State.unheld, State.setReg, filter_mput beyondStat (k := Reg.BTL_STAT) fun _ => rfl]

theorem reg_of_unheld {s t : State} (h : t.unheld = s.unheld) {a : Nat} (ha : a ≠ Reg.BTL_STAT) : t.reg a = s.reg a := by
  have hport : ∀ w, beyondStat (a, w) = true := fun _ => bne_iff_ne.2 ha
  have hread (u : State) : u.unheld.reg a = u.reg a := by simp only [State.reg, mgetD, State.unheld, mget_filter beyondStat hport]
  rw [← hread t, h, hread s]

theorem unheld_blockEvent (s : State) (cls idx : Nat) : (s.blockEvent cls idx).unheld = s.unheld := by
  obtain ⟨x, hx⟩ := blockEvent_eq s cls idx
  rw [hx]; rfl

theorem unheld_restate (s : State) : s.restate.unheld = s.unheld := by
  obtain h | ⟨new, el, cnt, rev, both, h⟩ := restate_eq s <;> rw [h]
  exact unheld_setStat s _

/-- R352: the pair state formed again leaves the other bits of BTL_STAT. -/
theorem regB_restate (s : State) {i : Nat} (h : i < 28) : s.restate.regB Reg.BTL_STAT i = s.regB Reg.BTL_STAT i := by
  obtain hs | ⟨new, el, cnt, rev, both, hs⟩ := restate_eq s <;> rw [hs]
  exact regB_setRegF s new (by decide) (.inr (.inl h))

/-- R14, R352: letting HOLD go clears bit 25 of BTL_STAT and leaves the bits below 28 beside it. -/
theorem loseHold_results (s : State) : s.loseHold.unheld = s.unheld ∧ s.loseHold.hold = false
    ∧ ∀ i, i < 28 → i ≠ 25 → s.loseHold.regB Reg.BTL_STAT i = s.regB Reg.BTL_STAT i := by
  refine ⟨?_, congrArg (fun c => c.1) (claim_loseHold s), fun i h1 h2 => ?_⟩
  all_goals
    unfold State.loseHold
    split
    case isFalse => rfl
    extract_lets -lift +onlyGivenNames u
    have hu : u.hold = false := (regB_clrBitR s (by decide) _ _ _).trans (if_pos ⟨rfl, rfl⟩)
    obtain ⟨on, el, hsync⟩ := syncEnables_noHold hu
  · rw [unheld_blockEvent, unheld_restate, hsync]
    exact unheld_setStat s _
  · rw [regB, reg_blockEvent]
    refine (regB_restate _ h1).trans ?_
    rw [hsync]
    exact (regB_clrBitR s (by decide) _ _ _).trans (if_neg fun h => h2 h.2)

end Sys2Proof.Machine
end

section
/-! PROOFS. Resets, the reset button, feeds and temperatures (R551, R553 to R555, R563, R571, R572). -/
namespace Sys2Proof.Machine

open State (setBitR clrBitR setRegF regB regF Leaves)

/-! ### A unit started again (R551) -/

theorem mget_filterMap_lost {α : Type} (f : Nat → Option Word) (g : Word → Word → α) {k : Nat} (h : f k = none) (l : SMap Word) :
    mget (l.filterMap fun q => (f q.1).map fun m => (q.1, g q.2 m)) k = none := by
  induction l with
  | nil => rfl
  | cons q l ih =>
    rw [List.filterMap_cons]
    split
    · exact ih
    · next r hr =>
      obtain ⟨m, hm, rfl⟩ := Option.map_eq_some_iff.1 hr
      have hne : q.1 ≠ k := fun he => by rw [he, h] at hm; cases hm
      exact (if_neg hne).trans ih

/-- What R551 keeps and what it starts anew beside the ports of `restart_results`. -/
theorem restart_anew (s : State) (cause : Nat) : (s.restart cause).hold = false ∧ (s.restart cause).clk = 0
    ∧ (s.restart cause).boot.flash = s.boot.flash ∧ (s.restart cause).pending = s.pending := by
  unfold State.restart
  extract_lets -lift +onlyGivenNames regs gap stuck src e b n0 n1 n
  have hreset : bit (resetWord Reg.BTL_STAT) 25 = false := by decide
  have h0 : n0.hold = false :=
    (congrArg (bit · 25) (congrArg (Option.getD · (resetWord Reg.BTL_STAT)) (mget_filterMap_lost survives (· &&& ·) rfl s.regs))).trans hreset
  have hn : n.hold = false :=
    (congrArg (bit · 25) ((State.reg_setReg_ne _ _ (by decide)).trans (State.reg_setReg_ne _ _ (by decide)))).trans h0
  split
  · exact ⟨(congrArg (bit · 25) (reg_record_outside _ _ _ _ (by decide))).trans ((regB_setBitR_other _ _ _ (by decide)).trans
      ((regB_setBitR_other _ _ _ (by decide)).trans hn)), clk_record _ _ _ _, (congrArg Boot.flash (boot_record _ _ _ _)).trans rfl, pending_record _ _ _ _⟩
  · exact ⟨hn, rfl, rfl, rfl⟩

/-- R551: bits 23 to 0 of SYS_RSTCAUSE count the resets, up to their greatest value. -/
theorem regF_count_restart (s : State) (cause : Nat) :
    (s.restart cause).regF Reg.SYS_RSTCAUSE 23 0 = min (s.regF Reg.SYS_RSTCAUSE 23 0 + 1) 16777215 := by
  rw [State.regF, (restart_results s cause).1]
  simp only [fld, bitsOf, wd, BitVec.toNat_ofNat, Nat.shiftRight_eq_div_pow]
  omega

theorem unitReset_results {c e : Nat} {s : State} (hcause : s.boot.rstPend = some c) (hel : s.boot.rstEl = some e) (hdue : e ≤ s.tb.el)
    (hc : c < 16) :
    ∃ t, exec .unitReset s = .next t ∧ t.regF Reg.SYS_RSTCAUSE 31 28 = c
      ∧ t.regF Reg.SYS_RSTCAUSE 23 0 = min (s.regF Reg.SYS_RSTCAUSE 23 0 + 1) 16777215
      ∧ t.boot.stage = .selftest ∧ t.engs = [] ∧ t.hold = false ∧ t.clk = 0 ∧ t.boot.flash = s.boot.flash ∧ t.pending = s.pending := by
  obtain ⟨-, -, hstage, hengs⟩ := restart_results s c
  refine ⟨s.restart c, congrArg Host.Outcome.next ?_, regF_cause_restart s hc, regF_count_restart s c, hstage, hengs, restart_anew s c⟩
  simp only [hcause, hel]
  exact if_pos hdue

/-! ### Resets asked for (R553, R554) -/

theorem boot_partyEsf (s : State) (p : Party) (b : EsfBit) : (s.partyEsf p b).boot = s.boot := by
  cases p with
  | svc k => rfl
  | eng e =>
    unfold State.partyEsf State.lateEsf
    dsimp only
    split
    · rfl
    · split <;> rfl

section
variable {p : Party} {code : Fin 65536} {s : State} (hturn : s.turnOf p = true)
include hturn

theorem exec_sysRstOrderly (hcode : code = 0xA5C3) : exec (.sysRstOrderly p true code) s = .next ((s.turned p).orderlyReset (resetCause p)) := by
  refine congrArg Host.Outcome.next ((byParty_of_turnOf hturn _).trans ?_)
  exact (if_neg (by simp [hcode])).trans (if_pos rfl)

theorem sysRst_badCode (hcode : code ≠ 0xA5C3) : ∃ t u, exec (.sysRstOrderly p true code) s = .next t ∧ t.boot = s.boot
    ∧ exec (.sysRstImmediate p true code) s = .next u ∧ u.boot = s.boot := by
  have hval : code.val ≠ 0xA5C3 := fun h => hcode (Fin.ext h)
  exact ⟨_, _, congrArg Host.Outcome.next ((byParty_of_turnOf hturn _).trans (if_pos hval)), boot_partyEsf _ _ _,
    congrArg Host.Outcome.next ((byParty_of_turnOf hturn _).trans (if_pos (.inl hval))), boot_partyEsf _ _ _⟩

theorem sysRstOrderly_now (hcode : code = 0xA5C3) (hnone : s.boot.rstPend = none) (hfree : s.hold = false ∨ s.solo = true) :
    ∃ t, exec (.sysRstOrderly p true code) s = .next t ∧ t.boot.rstPend = some (resetCause p) ∧ t.boot.rstEl = some s.tb.el
      ∧ t.regB Reg.SYS_BTN 29 = true ∧ sameRegs s t [Reg.SYS_BTN] :=
  ⟨_, (exec_sysRstOrderly hturn hcode).trans (congrArg Host.Outcome.next (orderlyReset_now (s := s.turned p) _ hnone hfree)), rfl, rfl,
    (regB_setBitR _ (by decide) _ _ _).trans (if_pos ⟨rfl, rfl⟩), sameRegs_setBitR _ _ _⟩

/-- A unit in authority with a peer to hand over to waits for the handover; one without keeps running. -/
theorem sysRstOrderly_held (hcode : code = 0xA5C3) (hnone : s.boot.rstPend = none) (hhold : s.hold = true) (hsolo : s.solo = false) :
    (s.peerIn [1, 2] = true → ∃ t, exec (.sysRstOrderly p true code) s = .next t ∧ t.boot.rstPend = some (resetCause p)
        ∧ t.boot.rstEl = s.boot.rstEl ∧ t.pair.hoNext = true)
    ∧ (s.peerIn [1, 2] = false → ∃ t, exec (.sysRstOrderly p true code) s = .next t ∧ t.boot = s.boot ∧ t.regB Reg.SYS_STK 7 = true) := by
  have hnone' : ¬ ((s.turned p).boot.rstPend.isSome = true) := by rw [show (s.turned p).boot.rstPend = none from hnone]; decide
  have hkept : ¬ ((!(s.turned p).hold || (s.turned p).solo) = true) := by
    rw [show (s.turned p).hold = true from hhold, show (s.turned p).solo = false from hsolo]; decide
  have hrun (t : State) (h : (if (s.turned p).peerIn [1, 2] = true then _ else _) = t) := (exec_sysRstOrderly hturn hcode).trans
    (congrArg Host.Outcome.next ((if_neg hnone').trans ((if_neg hkept).trans h)))
  refine ⟨fun hpeer => ⟨_, hrun _ (if_pos hpeer), rfl, rfl, rfl⟩, fun hpeer => ⟨_, hrun _ (if_neg (ne_true_of_eq_false hpeer)), ?_, ?_⟩⟩
  · exact boot_record _ _ _ _
  · exact (congrArg (bit · 7) (reg_record_outside _ _ _ _ (by decide))).trans ((regB_setBitR _ (by decide) _ _ _).trans (if_pos ⟨rfl, rfl⟩))

end

theorem sysRstImmediate_svc {g : GroupNo} {code : Fin 65536} {s : State} (hturn : s.turnOf (.svc g) = true) (hcode : code = 0xA5C3) :
    ∃ t, exec (.sysRstImmediate (.svc g) true code) s = .next t ∧ t.boot.rstPend = some 5 ∧ t.boot.rstEl = some s.tb.el ∧ t.regs = s.regs :=
  ⟨_, congrArg Host.Outcome.next ((byParty_of_turnOf hturn _).trans ((if_neg (by simp [hcode])).trans (if_pos rfl))), rfl, rfl, rfl⟩

theorem sysRstImmediate_pair {e : EngineNo} {code : Fin 65536} {s : State} (hturn : s.turnOf (.eng e) = true) (hcode : code = 0xA5C3)
    (hpair : s.locked e = true) :
    ∃ t, exec (.sysRstImmediate (.eng e) true code) s = .next t ∧ t.boot.rstPend = some 4 ∧ t.boot.rstEl = some s.tb.el ∧ t.regs = s.regs := by
  have hpair' : (s.turned (.eng e)).locked e = true := hpair
  exact ⟨_, congrArg Host.Outcome.next ((byParty_of_turnOf hturn _).trans ((if_neg (by simp [hcode, hpair'])).trans (if_pos rfl))), rfl, rfl, rfl⟩

/-! ### The reset button (R555) -/

theorem buttonRelease_results {us : Nat} {s : State} (hheard : s.regB Reg.SYS_BTN 30 = false) :
    (100000 ≤ us → us ≤ 5000000 → s.boot.rstPend = none → s.hold = false → ∃ t, exec (.buttonRelease us) s = .next t
        ∧ t.boot.rstPend = some 3 ∧ t.regF Reg.SYS_BTN 15 0 = (s.regF Reg.SYS_BTN 15 0 + 1) % 65536)
    ∧ (us < 100000 → ∃ t, exec (.buttonRelease us) s = .next t ∧ t.boot = s.boot ∧ sameRegs s t [Reg.SYS_BTN]) := by
  have hheard' : ¬ (s.regB Reg.SYS_BTN 30 = true) := ne_true_of_eq_false hheard
  refine ⟨fun hlow hhigh hnone hhold => ?_, fun hshort => ⟨_, congrArg Host.Outcome.next ((if_neg hheard').trans (if_neg (by omega))), rfl,
    sameRegs_clrBitR _ _ _⟩⟩
  let u := (s.clrBitR Reg.SYS_BTN 31).bumpF Reg.SYS_BTN 15 0
  have hcount : u.regF Reg.SYS_BTN 15 0 = (s.regF Reg.SYS_BTN 15 0 + 1) % 65536 := by
    refine (regF_setRegF_same (s.clrBitR Reg.SYS_BTN 31) Reg.SYS_BTN (hi := 15) (lo := 0) _ (by decide) (by decide)).trans ?_
    exact congrArg (fun n => (n + 1) % 65536) ((congrArg (fld · 15 0) (State.reg_setReg_same _ _ _)).trans
      (fld_andNot_bitMask (i := 31) _ (by decide) (by decide)))
  have hfree : (u.record .btnReset 0 []).hold = false := (congrArg (bit · 25) (reg_record_outside _ _ _ _ (by decide))).trans
    ((congrArg (bit · 25) ((State.reg_setReg_ne _ _ (by decide)).trans (State.reg_setReg_ne _ _ (by decide)))).trans hhold)
  have hidle : (u.record .btnReset 0 []).boot.rstPend = none := (congrArg Boot.rstPend (boot_record _ _ _ _)).trans hnone
  refine ⟨_, congrArg Host.Outcome.next ((if_neg hheard').trans ((if_pos ⟨hlow, hhigh⟩).trans (orderlyReset_now 3 hidle (.inl hfree)))), rfl, ?_⟩
  rw [regF, setBitR, State.reg_orBits_same, fld_or_bitMask _ (by decide) (by decide)]
  exact (congrArg (fld · 15 0) (reg_record_outside u _ _ _ (by decide))).trans hcount

theorem buttonStuck_results {s : State} (hheard : s.regB Reg.SYS_BTN 30 = false) :
    ∃ t, exec .buttonStuck s = .next t ∧ t.regB Reg.SYS_BTN 30 = true ∧ t.regB Reg.SYS_STK 6 = true
      ∧ sameRegs s t [Reg.SYS_BTN, Reg.SYS_STK] := by
  refine ⟨_, congrArg Host.Outcome.next (if_neg (ne_true_of_eq_false hheard)), ?_, ?_, sameRegs_trans ?_ (sameRegs_record _ _ _ _ _)⟩
  · rw [regB, reg_record_outside _ _ _ _ (by decide)]
    exact (regB_setBitR _ (by decide) _ _ _).trans ((if_neg (by decide)).trans ((regB_setBitR _ (by decide) _ _ _).trans (if_pos ⟨rfl, rfl⟩)))
  · rw [regB, reg_record_outside _ _ _ _ (by decide)]
    exact (regB_setBitR_other _ _ _ (by decide)).trans ((regB_setBitR_other _ _ _ (by decide)).trans
      ((regB_setBitR _ (by decide) _ _ _).trans (if_pos ⟨rfl, rfl⟩)))
  · exact sameRegs_trans (sameRegs_widen (sameRegs_setBitR _ _ _) (by simp))
      (sameRegs_trans (sameRegs_widen (sameRegs_setBitR _ _ _) (by simp)) (sameRegs_widen (sameRegs_setBitR _ _ _) (by simp)))

theorem buttonUnstuck_results {s : State} (hignored : s.regB Reg.SYS_BTN 30 = true) :
    ∃ t, exec .buttonUnstuck s = .next t ∧ t.regB Reg.SYS_BTN 30 = false ∧ t.regB Reg.SYS_BTN 31 = false ∧ sameRegs s t [Reg.SYS_BTN] :=
  ⟨_, congrArg Host.Outcome.next (if_pos hignored),
    (regB_clrBitR _ (by decide) _ _ _).trans ((if_neg (by decide)).trans ((regB_clrBitR _ (by decide) _ _ _).trans (if_pos ⟨rfl, rfl⟩))),
    (regB_clrBitR _ (by decide) _ _ _).trans (if_pos ⟨rfl, rfl⟩), sameRegs_trans (sameRegs_clrBitR _ _ _) (sameRegs_clrBitR _ _ _)⟩

/-! ### What the monitors note -/

theorem sameRegs_setRegF (s : State) (a hi lo v : Nat) : sameRegs s (s.setRegF a hi lo v) [a] := sameRegs_setReg s a _

theorem sameRegs_noteFeed (s : State) (feed cv : Nat) : sameRegs s (s.noteFeed feed cv) [Reg.SYS_PWRMON] := by
  unfold State.noteFeed
  split
  · exact sameRegs_setRegF _ _ _ _ _
  · exact sameRegs_setRegF _ _ _ _ _

theorem boot_noteFeed (s : State) (feed cv : Nat) : (s.noteFeed feed cv).boot = s.boot := by
  unfold State.noteFeed
  split <;> rfl

theorem sameRegs_noteTemp (s : State) (die pkg : Int) : sameRegs s (s.noteTemp die pkg) [Reg.SYS_TEMP] :=
  sameRegs_trans (sameRegs_setRegF _ _ _ _ _) (sameRegs_setRegF _ _ _ _ _)

theorem envRange_results (s : State) (k : Nat) : (s.envRange k).regB Reg.SYS_ENVSTK 2 = true ∧ (s.envRange k).boot.envOn = true
    ∧ (∀ i, s.regB Reg.SYS_ENVSTK i = true → (s.envRange k).regB Reg.SYS_ENVSTK i = true) ∧ (s.envRange k).healthy = s.healthy
    ∧ sameRegs s (s.envRange k) [Reg.SYS_ENVSTK] := by
  have hread (i : Nat) : (s.envRange k).regB Reg.SYS_ENVSTK i = (s.setBitR Reg.SYS_ENVSTK 2).regB Reg.SYS_ENVSTK i :=
    congrArg (bit · i) (reg_record_outside _ _ _ _ (by decide))
  refine ⟨(hread 2).trans ((regB_setBitR _ (by decide) _ _ _).trans (if_pos ⟨rfl, rfl⟩)), congrArg Boot.envOn (boot_record _ _ _ _),
    fun i hi => (hread i).trans (regB_setBitR_of_set hi), healthy_record _ _ _ _, sameRegs_trans ?_ (sameRegs_record _ _ _ _ _)⟩
  exact sameRegs_setBitR s _ _

/-! ### Feeds (R563) -/

theorem feedLow_results {f : Fin 2} {cv : Fin 65536} {s : State} (hlow : cv.val < 1800) (hnew : s.boot.lowFeeds.contains f.val = false) :
    ∃ t, exec (.feedLow f cv) s = .next t ∧ t.regB Reg.SYS_ENVSTK f = true ∧ t.boot.lowFeeds.contains f.val = true
      ∧ sameRegs s t [Reg.SYS_ENVSTK, Reg.SYS_PWRMON] := by
  refine ⟨_, congrArg Host.Outcome.next (if_pos ⟨hlow, by rw [boot_noteFeed]; exact hnew⟩), ?_, ?_, sameRegs_trans ?_ (sameRegs_record _ _ _ _ _)⟩
  · rw [regB, reg_record_outside _ _ _ _ (by decide)]
    exact (regB_setBitR _ (by omega) _ _ _).trans (if_pos ⟨rfl, rfl⟩)
  · rw [boot_record]
    simp [setBitR, State.orBits, State.setReg, State.updBoot]
  · exact sameRegs_trans (sameRegs_widen (sameRegs_noteFeed s f cv) (by simp)) (sameRegs_widen (sameRegs_setBitR _ _ _) (by simp))

theorem feedOk_results {f : Fin 2} {cv : Fin 65536} {s : State} (hok : 1800 ≤ cv.val) (hlow : s.boot.lowFeeds.contains f.val = true) :
    ∃ t, exec (.feedOk f cv) s = .next t ∧ t.boot.lowFeeds.contains f.val = false ∧ sameRegs s t [Reg.SYS_PWRMON] := by
  let u := (s.noteFeed f cv).updBoot fun b => { b with lowFeeds := b.lowFeeds.filter fun q => q != f.val }
  have hregs : sameRegs s u [Reg.SYS_PWRMON] := sameRegs_noteFeed s f cv
  refine ⟨u.record .feedOk f [f.val], congrArg Host.Outcome.next (if_pos ⟨hok, by rw [boot_noteFeed]; exact hlow⟩), ?_,
    sameRegs_trans hregs (sameRegs_record _ _ _ _ _)⟩
  rw [boot_record]
  simp [u, State.updBoot]

/-! ### Temperatures (R571) -/

theorem tempHigh_results {die pkg : Int} {s : State} (hhot : 115 ≤ max die pkg) (hnew : s.health.contains .tempHigh = false) :
    ∃ t, exec (.tempHigh die pkg) s = .next t ∧ t.healthy = false ∧ t.regB Reg.SYS_ENVSTK 3 = true ∧ t.regB Reg.SYS_ENVSTK 2 = true
      ∧ sameRegs s t [Reg.SYS_ENVSTK, Reg.SYS_TEMP] := by
  let u := (((s.noteTemp die pkg).setBitR Reg.SYS_ENVSTK 3).record .tempHigh 0 []).addHealth .tempHigh
  obtain ⟨henv, -, hkept, hhealth, hregs⟩ := envRange_results u 3
  have hmark : u.regB Reg.SYS_ENVSTK 3 = true := by
    rw [regB, reg_addHealth, reg_record_outside _ _ _ _ (by decide)]
    exact (regB_setBitR _ (by decide) _ _ _).trans (if_pos ⟨rfl, rfl⟩)
  refine ⟨u.envRange 3, congrArg Host.Outcome.next (if_pos ⟨hhot, hnew⟩), hhealth.trans (healthy_addHealth _ _), hkept 3 hmark, henv, ?_⟩
  refine sameRegs_trans (sameRegs_trans (sameRegs_widen (sameRegs_noteTemp s die pkg) (by simp)) ?_) (sameRegs_widen hregs (by simp))
  exact sameRegs_trans (sameRegs_trans (sameRegs_widen (sameRegs_setBitR _ Reg.SYS_ENVSTK 3) (by simp)) (sameRegs_record _ _ _ _ _))
    fun a _ _ => reg_addHealth _ _ a

theorem tempHighEnd_results {die pkg : Int} {s : State} (hcool : max die pkg ≤ 105) (hhot : s.health.contains .tempHigh = true) :
    ∃ t, exec (.tempHighEnd die pkg) s = .next t ∧ t.health.contains .tempHigh = false ∧ sameRegs s t [Reg.SYS_TEMP] :=
  ⟨_, congrArg Host.Outcome.next (if_pos ⟨hcool, hhot⟩), by simp [State.dropHealth],
    sameRegs_trans (sameRegs_noteTemp s die pkg) (sameRegs_record _ _ _ _ _)⟩

/-- A safety fault leaves the ports beside those of the safety block and the recorder. -/
theorem reg_safetyFault (s : State) (cause : Nat) {a : Nat} (hsaf : a ≠ Reg.SAF_STAT ∧ a ≠ Reg.SAF_FSTAT ∧ a ≠ Reg.SAF_STK)
    (hrec : ¬ recorderPort a) : (s.safetyFault cause).reg a = s.reg a := by
  unfold State.safetyFault
  rw [reg_addHealth, reg_record _ _ _ _ hrec, setBitR, State.reg_orBits_ne _ _ hsaf.1]
  exact (outputsOff_safer State.isSafOut s).regs a hsaf.1 hsaf.2.1 hsaf.2.2 hrec

theorem tempCritical_results {die pkg : Int} {s : State} (hhot : 125 ≤ max die pkg) :
    ∃ t, exec (.tempCritical die pkg) s = .next t ∧ t.regB Reg.SAF_STAT 31 = true ∧ t.hold = false ∧ t.pair.toggling = false
      ∧ t.healthy = false ∧ t.regB Reg.SYS_ENVSTK 4 = true := by
  let u := (s.noteTemp die pkg).setBitR Reg.SYS_ENVSTK 4
  let v := (u.safetyFault 3).updPair fun p => { p with toggling := false, window := none, waiting := false }
  obtain ⟨hfault, hhealth, -⟩ := safetyFault_results u 3
  obtain ⟨hunheld, hhold, -⟩ := loseHold_results v
  have hmark : v.regB Reg.SYS_ENVSTK 4 = true := (congrArg (bit · 4) (reg_safetyFault u 3 (by decide) (not_recorderPort (by decide)))).trans
    ((regB_setBitR _ (by decide) _ _ _).trans (if_pos ⟨rfl, rfl⟩))
  refine ⟨v.loseHold, congrArg Host.Outcome.next (if_pos hhot), (congrArg (bit · 31) (reg_of_unheld hunheld (by decide))).trans hfault, hhold, ?_,
    ?_, (congrArg (bit · 4) (reg_of_unheld hunheld (by decide))).trans hmark⟩
  · exact congrArg (fun x : State => x.pair.toggling) hunheld
  · exact (congrArg (fun x : State => x.health.isEmpty) hunheld).trans hhealth

theorem tboard_results {b : Int} {s : State} :
    (b < -30 ∨ 85 < b → ∃ t, exec (.tboard b) s = .next t ∧ t.regB Reg.SYS_ENVSTK 5 = true ∧ sameRegs s t [Reg.SYS_ENVSTK, Reg.SYS_TEMP])
    ∧ (-30 ≤ b → b ≤ 85 → ∃ t, exec (.tboard b) s = .next t ∧ sameRegs s t [Reg.SYS_TEMP]) := by
  let u := s.setRegF Reg.SYS_TEMP 15 8 (wdi b).toNat
  obtain ⟨-, -, hkept, -, hregs⟩ := envRange_results (u.setBitR Reg.SYS_ENVSTK 5) 4
  refine ⟨fun hout => ⟨_, congrArg Host.Outcome.next (if_pos hout), hkept 5 ((regB_setBitR _ (by decide) _ _ _).trans (if_pos ⟨rfl, rfl⟩)), ?_⟩,
    fun hlow hhigh => ⟨u, congrArg Host.Outcome.next (if_neg (by omega)), sameRegs_setRegF _ _ _ _ _⟩⟩
  exact sameRegs_trans (sameRegs_widen (sameRegs_setRegF s _ _ _ _) (by simp))
    (sameRegs_trans (sameRegs_widen (sameRegs_setBitR _ _ _) (by simp)) (sameRegs_widen hregs (by simp)))

/-! ### Conditions outside the range (R572) -/

theorem feedHigh_results {f : Fin 2} {cv : Nat} {s : State} (hhigh : 3200 < cv) :
    ∃ t, exec (.envRange (.feedHigh f cv)) s = .next t ∧ t.regB Reg.SYS_ENVSTK 6 = true ∧ t.regB Reg.SYS_ENVSTK 2 = true
      ∧ t.boot.envOn = true := by
  obtain ⟨henv, hon, hkept, -, -⟩ := envRange_results ((s.noteFeed f cv).setBitR Reg.SYS_ENVSTK 6) f
  exact ⟨_, congrArg Host.Outcome.next (if_pos hhigh), hkept 6 ((regB_setBitR _ (by decide) _ _ _).trans (if_pos ⟨rfl, rfl⟩)), henv, hon⟩

theorem bothLow_results {a b : Nat} {s : State} (ha : a < 1800) (hb : b < 1800) :
    ∃ t, exec (.envRange (.bothLow a b)) s = .next t ∧ t.regB Reg.SYS_ENVSTK 2 = true ∧ t.boot.envOn = true := by
  obtain ⟨henv, hon, -⟩ := envRange_results ((s.noteFeed 0 a).noteFeed 1 b) 2
  exact ⟨_, congrArg Host.Outcome.next (if_pos ⟨ha, hb⟩), henv, hon⟩

theorem envRangeEnd_results {s : State} (hon : s.boot.envOn = true) (hcool : s.health.contains .tempHigh = false) :
    ∃ t, exec .envRangeEnd s = .next t ∧ t.boot.envOn = false ∧ sameRegs s t [] :=
  ⟨_, congrArg Host.Outcome.next (if_pos (by rw [hon, hcool]; rfl)), congrArg Boot.envOn (boot_record _ _ _ _), sameRegs_record _ _ _ _ _⟩

/-- Settles O56: the reset, its requests, the button, the feeds and the temperatures, one lemma each. -/
theorem resetAndSupplyResults : Obligations.ResetAndSupplyResults := by
  unfold Obligations.ResetAndSupplyResults
  refine ⟨fun _ _ _ => unitReset_results, fun p code s hturn => ⟨sysRstOrderly_now hturn, ?_, ?_, sysRst_badCode hturn, ?_, ?_⟩,
    fun _ _ hheard => ⟨(buttonRelease_results hheard).1, (buttonRelease_results hheard).2, buttonStuck_results hheard⟩,
    fun _ => buttonUnstuck_results, fun _ _ _ => ⟨feedLow_results, feedOk_results⟩,
    fun _ _ _ => ⟨tempHigh_results, tempHighEnd_results, tempCritical_results⟩, fun _ _ => tboard_results,
    fun _ => ⟨fun _ _ => feedHigh_results, fun _ _ => bothLow_results, envRangeEnd_results⟩⟩
  · exact fun hcode hnone hhold hsolo => (sysRstOrderly_held hturn hcode hnone hhold hsolo).1
  · exact fun hcode hnone hhold hsolo => (sysRstOrderly_held hturn hcode hnone hhold hsolo).2
  · exact fun g hg hcode => sysRstImmediate_svc (hg ▸ hturn) hcode
  · exact fun e he hcode => sysRstImmediate_pair (he ▸ hturn) hcode

end Sys2Proof.Machine
end

section
/-! PROOFS. The pair logic's shared operations (R339 to R352, R360, R361): frames that leave and arrive, copies that end, HOLD gained. -/
namespace Sys2Proof.Machine

open State (setBitR clrBitR setRegF regB regF Leaves)

/-! ### Frames that leave (R339, R341) -/

/-- What leaves on the lanes that are up. -/
def State.framesOut (s : State) (type : Nat) (payload : List Byte) : List OutItem :=
  s.lanesUp.map fun n => .pairFrame n (frameBytes type n (s.lane n).fseq payload)

/-- A frame that leaves changes the output and the frame sequences alone. -/
theorem sendBoth_eq (s : State) (type : Nat) (payload : List Byte) :
    ∃ l, s.sendBoth type payload = { s with pair := { s.pair with lanes := l }, out := s.out ++ s.framesOut type payload } := by
  have hlane (u : State) : (u.sendFrame 0 type payload).lane 1 = u.lane 1 := mgetD_mput_ne _ _ _ (by decide)
  unfold State.sendBoth State.framesOut State.lanesUp
  cases h0 : s.laneUp 0 <;> cases h1 : s.laneUp 1 <;> simp only [List.filter_cons, List.filter_nil, h0, h1, if_true, Bool.false_eq_true,
    if_false, List.foldl_cons, List.foldl_nil, List.map_cons, List.map_nil]
  · exact ⟨s.pair.lanes, by rw [List.append_nil]⟩
  · exact ⟨_, rfl⟩
  · exact ⟨_, rfl⟩
  · refine ⟨((s.sendFrame 0 type payload).sendFrame 1 type payload).pair.lanes, ?_⟩
    rw [← hlane s]
    simp only [State.sendFrame, State.emit, State.updLane, State.updPair, List.append_assoc, List.singleton_append]

theorem length_framesOut (s : State) (type : Nat) (payload : List Byte) : (s.framesOut type payload).length = s.lanesUp.length :=
  List.length_map _

theorem sendControl_eq (s : State) (cmd g tid seq arg result : Nat) : ∃ l o, s.sendControl cmd g tid seq arg result =
    { s with pair := { s.pair with lanes := l }, out := s.out ++ o } ∧ o.length = s.lanesUp.length := by
  obtain ⟨l, hl⟩ := sendBoth_eq s 0x20 _
  exact ⟨l, _, hl, length_framesOut _ _ _⟩

/-! ### Frames that arrive (R340, R341) -/

section
variable {s : State} {n : Nat} {f p : List Byte} {type : Nat} (hup : s.laneUp n = true) (hparse : frameParse f = some (type, p))
include hup hparse

theorem takeFrame_valid (hsolo : s.solo = false) : s.takeFrame n type f = (s, some p) := by
  unfold State.takeFrame
  rw [if_pos hup, hparse]
  exact Prod.ext rfl (if_pos ⟨rfl, hsolo⟩)

theorem takeFrame_solo (type' : Nat) (hsolo : s.solo = true) : s.takeFrame n type' f = (s, none) := by
  unfold State.takeFrame
  rw [if_pos hup, hparse]
  exact Prod.ext rfl (if_neg fun h => by rw [hsolo] at h; exact absurd h.2 (by decide))

end

/-- R341: a control frame whose copy has not come on the other lane is acted on. -/
theorem takeControl_first {s : State} {lane cmd : Nat} {f p : List Byte} (hup : s.laneUp lane = true) (hsolo : s.solo = false)
    (hparse : frameParse f = some (0x20, p)) (hcmd : (readControl p).cmd = cmd)
    (hfirst : (1 - lane, [(readControl p).cmd, (readControl p).group, (readControl p).tid, (readControl p).seq]) ∉ s.pair.control) :
    ∃ k, s.takeControl lane cmd f = (s.updPair fun x => { x with control := k }, some (readControl p)) := by
  have htake := takeFrame_valid hup hparse hsolo
  have hnew : ¬ s.pair.control.contains (1 - lane, [(readControl p).cmd, (readControl p).group, (readControl p).tid, (readControl p).seq]) = true := by
    simpa using hfirst
  let key := [(readControl p).cmd, (readControl p).group, (readControl p).tid, (readControl p).seq]
  refine ⟨s.pair.control.filter (fun x => x != (lane, key)) ++ [(lane, key)], ?_⟩
  simp only [key]
  unfold State.takeControl State.firstCopy
  simp only [htake, hcmd, if_true]
  rw [hcmd] at hnew
  rw [if_neg hnew]
  rfl

/-! ### Copies of epochs that end (R360, R361) -/

/-- The pair logic without what the decision of an epoch moves. -/
def Pair.unepoch (p : Pair) : Pair :=
  { p with openEps := [], lanes := [], groups := [], revCount := 0, readyEl := 0, revSent := false, both12 := none }

/-- The copy of an epoch on a lane, given up. -/
def State.withoutCopy (s : State) (n g seq : Nat) : State :=
  match (s.lane n).copy with
  | some c => if c.group = g ∧ c.seq = seq then s.updLane n (fun l => { l with copy := none }) else s
  | none => s

theorem withoutCopy_eq (s : State) (n g seq : Nat) : ∃ l, s.withoutCopy n g seq = s.updPair fun p => { p with lanes := l } := by
  unfold State.withoutCopy
  split
  · split
    · exact ⟨_, rfl⟩
    · exact ⟨s.pair.lanes, rfl⟩
  · exact ⟨s.pair.lanes, rfl⟩

theorem lane_withoutCopy_ne (s : State) {n m : Nat} (g seq : Nat) (h : m ≠ n) : (s.withoutCopy n g seq).lane m = s.lane m := by
  unfold State.withoutCopy
  split
  · split
    · exact mgetD_mput_ne _ _ _ h
    · rfl
  · rfl

/-- The copy of lane `n` is gone or is of this epoch. -/
def State.copyOf (s : State) (n g seq : Nat) : Prop := ∀ c, (s.lane n).copy = some c → c.group = g ∧ c.seq = seq

theorem copy_withoutCopy {s : State} {n g seq : Nat} (h : s.copyOf n g seq) : ((s.withoutCopy n g seq).lane n).copy = none := by
  unfold State.withoutCopy
  split
  · next c hc =>
    rw [if_pos (h c hc)]
    exact congrArg PairLane.copy (mgetD_mput_same s.pair.lanes n _ _)
  · next hc => exact hc

theorem closeEpoch_eq (s : State) (g seq : Nat) : ∃ o l, s.closeEpoch g seq = s.updPair fun p => { p with openEps := o, lanes := l } := by
  let u := s.updPair fun p => { p with openEps := p.openEps.filter fun o => !(o.group == g && o.seq == seq) }
  obtain ⟨l, hl⟩ := withoutCopy_eq u 0 g seq
  obtain ⟨m, hm⟩ := withoutCopy_eq (u.withoutCopy 0 g seq) 1 g seq
  refine ⟨u.pair.openEps, m, Eq.trans (b := (u.withoutCopy 0 g seq).withoutCopy 1 g seq) rfl ?_⟩
  rw [hm, hl]; rfl

/-- A decided epoch leaves no copy on a lane that held one of it. -/
theorem copy_closeEpoch {s : State} {n g seq : Nat} (hn : n < 2) (h : s.copyOf n g seq) : ((s.closeEpoch g seq).lane n).copy = none := by
  let u := s.updPair fun p => { p with openEps := p.openEps.filter fun o => !(o.group == g && o.seq == seq) }
  show (((u.withoutCopy 0 g seq).withoutCopy 1 g seq).lane n).copy = none
  obtain rfl | rfl : n = 0 ∨ n = 1 := by omega
  · rw [lane_withoutCopy_ne _ _ _ (by decide)]
    exact copy_withoutCopy (s := u) h
  · refine copy_withoutCopy ?_
    unfold State.copyOf
    rw [lane_withoutCopy_ne _ _ _ (by decide)]
    exact h

theorem restate_unepoch (s : State) : s.restate.pair.unepoch = s.pair.unepoch := by
  obtain h | ⟨new, el, cnt, rev, both, h⟩ := restate_eq s <;> rw [h]
  rfl

theorem lanes_restate (s : State) : s.restate.pair.lanes = s.pair.lanes := by
  obtain h | ⟨new, el, cnt, rev, both, h⟩ := restate_eq s <;> rw [h]
  rfl

/-- The counters, the status of the group and the sticky bit of a discarded epoch (R361, R366), before the pair state is formed again. -/
def State.discarded (s : State) (g seq cause : Nat) : State :=
  let s := ((s.bump Reg.BTL_NEPDISC).bump (Reg.BTL_NDPART + (cause - 1))).drop Reg.BTL_NEPPEND
  let s := (s.setBitR Reg.BTL_STK 4).record .pairMirrorDiscard g [g, seq, cause]
  s.setReg (Reg.BTL_MST g) (setFld (setFld (setFld (s.reg (Reg.BTL_MST g)) 31 30 2) 28 25 cause) 15 0 seq)

/-- A discarded epoch: what is marked, then the group's good mark and the revert count, then the pair state formed again. -/
theorem discardEpoch_eq (s : State) (g seq cause : Nat) : ∃ gs n, s.discardEpoch g seq cause =
    (((s.closeEpoch g seq).discarded g seq cause).updPair fun p => { p with groups := gs, revCount := n }).restate := by
  unfold State.discardEpoch
  extract_lets u v w x y
  have hy : y = ((u.discarded g seq cause).updEpochs g fun x => { x with good := false }) := rfl
  rw [hy]
  split
  · exact ⟨_, _, rfl⟩
  · exact ⟨_, (u.discarded g seq cause).pair.revCount, rfl⟩

theorem pair_discarded (s : State) (g seq cause : Nat) : (s.discarded g seq cause).pair = s.pair :=
  (pair_record _ _ _ _).trans rfl

theorem stat_discarded (s : State) {g cause : Nat} (seq : Nat) : (s.discarded g seq cause).reg Reg.BTL_STAT = s.reg Reg.BTL_STAT := by
  unfold State.discarded
  extract_lets u v
  have hmst : Reg.BTL_STAT ≠ Reg.BTL_MST g := by lia
  have hpart : Reg.BTL_STAT ≠ Reg.BTL_NDPART + (cause - 1) := by lia
  rw [State.reg_setReg_ne _ _ hmst, reg_record_outside _ _ _ _ (by decide), setBitR, State.reg_orBits_ne _ _ (by decide)]
  exact (State.reg_setReg_ne _ _ (by decide)).trans ((State.reg_setReg_ne _ _ hpart).trans (State.reg_setReg_ne _ _ (by decide)))

/-- What the decisions of epochs leave of the pair logic, the standing of the unit and its health. -/
structure EpochMoves (s t : State) : Prop where
  pair : t.pair.unepoch = s.pair.unepoch
  stat : ∀ i, i < 28 → t.regB Reg.BTL_STAT i = s.regB Reg.BTL_STAT i

theorem EpochMoves.trans {s t u : State} (h : EpochMoves s t) (k : EpochMoves t u) : EpochMoves s u :=
  ⟨k.pair.trans h.pair, fun i hi => (k.stat i hi).trans (h.stat i hi)⟩

theorem withoutCopy_moves (s : State) (n g seq : Nat) : EpochMoves s (s.withoutCopy n g seq) := by
  obtain ⟨l, h⟩ := withoutCopy_eq s n g seq
  rw [h]
  exact ⟨rfl, fun _ _ => rfl⟩

theorem discardEpoch_moves (s : State) (g seq cause : Nat) : EpochMoves s (s.discardEpoch g seq cause) := by
  obtain ⟨gs, n, h⟩ := discardEpoch_eq s g seq cause
  obtain ⟨o, l, hclose⟩ := closeEpoch_eq s g seq
  rw [h, hclose]
  have hmarks (u : State) : (u.updPair fun p => { p with groups := gs, revCount := n }).pair.unepoch = u.pair.unepoch := rfl
  have hclosed : (s.updPair fun p => { p with openEps := o, lanes := l }).pair.unepoch = s.pair.unepoch := rfl
  refine ⟨(restate_unepoch _).trans ((hmarks _).trans ((congrArg Pair.unepoch (pair_discarded _ g seq cause)).trans hclosed)), fun i hi => ?_⟩
  exact (regB_restate _ hi).trans (congrArg (bit · i) (stat_discarded _ seq))

/-- R360: an open epoch whose copy on lane `n` has ended. -/
def OpenEpoch.endedOn (o : OpenEpoch) (n : Nat) (crc : Bool) : OpenEpoch :=
  { o with ended := if o.ended.contains n then o.ended else o.ended ++ [n], crc := o.crc || crc }

theorem endCopy_eq (s : State) (n g seq : Nat) (crc : Bool) : ∃ o, s.endCopy n g seq crc = (s.withoutCopy n g seq).updPair (fun p => { p with openEps := o })
    ∨ ∃ cause, s.endCopy n g seq crc = ((s.withoutCopy n g seq).updPair (fun p => { p with openEps := o })).discardEpoch g seq cause := by
  have hunfold : s.endCopy n g seq crc = (let u := s.withoutCopy n g seq
      match u.pair.openEps.find? (fun o => o.group == g && o.seq == seq) with
      | none => u
      | some o =>
        let v := u.updPair (fun p => { p with openEps := p.openEps.map (fun x => if x.group = g ∧ x.seq = seq then o.endedOn n crc else x) })
        if [0, 1].all (fun k => (o.endedOn n crc).ended.contains k || ((v.lane k).copy.isNone && !(v.laneUp k))) then
          v.discardEpoch g seq (if (o.endedOn n crc).crc then 2 else 1)
        else v) := rfl
  rw [hunfold]
  extract_lets u
  split
  · exact ⟨u.pair.openEps, .inl rfl⟩
  · extract_lets v
    split
    · exact ⟨_, .inr ⟨_, rfl⟩⟩
    · exact ⟨_, .inl rfl⟩

theorem endCopy_moves (s : State) (n g seq : Nat) (crc : Bool) : EpochMoves s (s.endCopy n g seq crc) := by
  have hopen (u : State) (o : List OpenEpoch) : EpochMoves u (u.updPair fun p => { p with openEps := o }) := ⟨rfl, fun _ _ => rfl⟩
  have hcopy := withoutCopy_moves s n g seq
  obtain ⟨o, h | ⟨cause, h⟩⟩ := endCopy_eq s n g seq crc <;> rw [h]
  · exact hcopy.trans (hopen _ o)
  · exact (hcopy.trans (hopen _ o)).trans (discardEpoch_moves _ g seq cause)

/-! ### A decision of a transaction (R381) -/

theorem txnDecide_eq (s : State) (g : Nat) : ∃ x l o, s.txnDecide g = { s with pair := { s.pair with txns := x, lanes := l }, out := o } := by
  have hsame : ∃ x l o, s = { s with pair := { s.pair with txns := x, lanes := l }, out := o } := ⟨s.pair.txns, s.pair.lanes, s.out, rfl⟩
  unfold State.txnDecide
  split
  · exact hsame
  split
  · exact hsame
  dsimp only
  split
  · exact hsame
  next x _ _ _ d _ =>
    obtain ⟨l, o, h, -⟩ := sendControl_eq (s.setTxn g { x with decision := some d }) 5 g x.tid (x.seq % 2 ^ 32) 0 (b2n !d.1)
    rw [h]
    exact ⟨_, l, _, rfl⟩

/-! ### The end of a planned handover (R376, R377, R553) -/

/-- What the outcome of a handover leaves: it moves the pending reset, its bits and records. -/
structure OutcomeMoves (s t : State) : Prop where
  pair : t.pair = s.pair
  health : t.health = s.health
  tb : t.tb = s.tb
  regs : sameRegs s t [Reg.SYS_BTN, Reg.SYS_STK]

theorem OutcomeMoves.refl (s : State) : OutcomeMoves s s := ⟨rfl, rfl, rfl, sameRegs_refl s _⟩

theorem handoverOutcome_moves (s : State) (ok : Bool) (stopEl : Nat) : OutcomeMoves s (s.handoverOutcome ok stopEl) := by
  unfold State.handoverOutcome
  split
  · exact .refl s
  split
  · exact .refl s
  split
  · exact ⟨rfl, rfl, rfl, sameRegs_refl s _⟩
  extract_lets b u
  refine ⟨(pair_record _ _ _ _).trans rfl, (health_record _ _ _ _).trans rfl, (tb_record _ _ _ _).trans rfl,
    sameRegs_trans (t := (u.clrBitR Reg.SYS_BTN 29).setBitR Reg.SYS_STK 7) ?_ (sameRegs_record _ _ _ _ _)⟩
  exact sameRegs_trans (t := u.clrBitR Reg.SYS_BTN 29) (sameRegs_widen (sameRegs_clrBitR u _ _) (by simp)) (sameRegs_widen (sameRegs_setBitR _ _ _) (by simp))

/-- What decides whether a unit may ask for authority and asks for it. -/
def State.standing (s : State) : Option Nat × Bool × Bool × List HealthCause × Bool × Bool × Bool × Nat :=
  (s.pair.started, s.pair.quiet, s.pair.selConflict, s.health, s.hold, s.solo, s.requesting, s.pairState)

theorem mayHold_of_standing {s t : State} (h : t.standing = s.standing) :
    t.mayHold = s.mayHold ∧ t.requesting = s.requesting ∧ t.pairState = s.pairState := by
  simp only [State.standing, Prod.mk.injEq] at h
  obtain ⟨hstarted, hquiet, hconflict, hhealth, hhold, hsolo, hreq, hstate⟩ := h
  refine ⟨?_, hreq, hstate⟩
  simp only [State.mayHold, State.barred, State.healthy, hstarted, hquiet, hconflict, hhealth, hhold, hsolo]

theorem OutcomeMoves.standing {s t : State} (h : OutcomeMoves s t) : t.standing = s.standing := by
  have hread (a : Nat) (h1 : a ≠ Reg.SYS_BTN) (h2 : a ≠ Reg.SYS_STK) (h3 : ¬ recorderPort a) : t.reg a = s.reg a :=
    h.regs a (by simp [h1, h2]) h3
  have hstat := hread Reg.BTL_STAT (by decide) (by decide) (not_recorderPort (by decide))
  have hstrap := hread Reg.SYS_STRAP (by decide) (by decide) (not_recorderPort (by decide))
  simp only [State.standing, State.hold, State.solo, State.requesting, State.pairState, regB, regF, h.pair, h.health, hstat, hstrap]

end Sys2Proof.Machine
end

section
/-! PROOFS. The link of a redundant pair (R340 to R346): heartbeats, paths, the peer's failure and return, lanes. -/
namespace Sys2Proof.Machine

open State (setBitR clrBitR setRegF regB regF Leaves)

/-! ### Heartbeats (R340 to R344) -/

theorem heartbeatSend_results {s : State} :
    (s.pair.quiet = false → s.solo = false → s.tb.el - s.pair.pulseEl ≤ 2000 → ∃ t, exec .heartbeatSend s = .next t
        ∧ t.out = s.out ++ s.lanesUp.map (fun n => .pairFrame n (frameBytes 1 n (s.lane n).fseq s.hbPayload))
        ∧ t.pair.hbCnt = (s.pair.hbCnt + 1) % 2 ^ 32 ∧ t.regs = s.regs)
    ∧ (s.pair.quiet = true ∨ s.solo = true ∨ 2000 < s.tb.el - s.pair.pulseEl → exec .heartbeatSend s = .next s) := by
  refine ⟨fun hquiet hsolo hpulse => ?_, fun hno => congrArg Host.Outcome.next (if_neg ?_)⟩
  · obtain ⟨l, hsend⟩ := sendBoth_eq s 0x01 s.hbPayload
    refine ⟨(s.sendBoth 0x01 s.hbPayload).updPair fun p => { p with hbCnt := (p.hbCnt + 1) % 2 ^ 32 },
      congrArg Host.Outcome.next (if_pos (by simp [hquiet, hsolo, hpulse])), ?_⟩
    rw [hsend]
    exact ⟨rfl, rfl, rfl⟩
  · rcases hno with h | h | h
    · simp [h]
    · simp [h]
    · simp [Nat.not_le.2 h]

theorem fld_setBit_outside (w : Word) {i hi lo : Nat} (b : Bool) (h : i < lo ∨ hi < i) : fld (setBit w i b) hi lo = fld w hi lo :=
  fld_congr fun _ _ _ => bit_setBit_ne w b (by omega)

/-- R343: what BTL_STAT takes from word 0 of the peer's heartbeat: its address, state, HOLD and health. -/
def peerStat (st w0 : Word) : Word :=
  setBit (setBit (setFld (setFld st 15 8 (fld w0 15 8)) 7 4 (fld w0 27 24)) 24 (bit w0 29)) 20 (bit w0 30)

theorem fld_lt (w : Word) (hi lo : Nat) : fld w hi lo < 2 ^ (hi + 1 - lo) := Nat.mod_lt _ (Nat.two_pow_pos _)

theorem peerStat_results (st w0 : Word) : fld (peerStat st w0) 15 8 = fld w0 15 8 ∧ fld (peerStat st w0) 7 4 = fld w0 27 24
    ∧ bit (peerStat st w0) 24 = bit w0 29 ∧ bit (peerStat st w0) 20 = bit w0 30 ∧ bit (peerStat st w0) 25 = bit st 25 := by
  have haddr : fld w0 15 8 < 256 := fld_lt w0 15 8
  have hstate : fld w0 27 24 < 16 := fld_lt w0 27 24
  unfold peerStat
  refine ⟨?_, ?_, ?_, bit_setBit_same _ (by decide) _, ?_⟩
  · rw [fld_setBit_outside _ _ (by decide), fld_setBit_outside _ _ (by decide), fld_setFld_outside _ _ (by decide) (by decide),
      fld_setFld_same _ _ (by decide) (by decide)]
    exact Nat.mod_eq_of_lt haddr
  · rw [fld_setBit_outside _ _ (by decide), fld_setBit_outside _ _ (by decide), fld_setFld_same _ _ (by decide) (by decide)]
    exact Nat.mod_eq_of_lt hstate
  · rw [bit_setBit_ne _ _ (by decide), bit_setBit_same _ (by decide)]
  · rw [bit_setBit_ne _ _ (by decide), bit_setBit_ne _ _ (by decide), bit_setFld_outside _ _ (by decide) (by decide),
      bit_setFld_outside _ _ (by decide) (by decide)]

theorem recent_now {s : State} {e : Nat} (h : s.tb.el = e) : s.recent (some e) = true := by simp [State.recent, h]

/-- R344: a heartbeat frame noted on its lane and its paths. -/
def State.laneHeard (s : State) (n : Nat) : State :=
  let u := if s.pathAlive 0 then s else s.updPair (fun p => { p with laneSince := s.tb.el })
  (u.updLane n (fun l => { l with since := if u.recent l.hbEl then l.since else s.tb.el, hbEl := some s.tb.el })).notePaths [0, 2 + n]

theorem laneHeard_results (s : State) (n : Nat) : (s.laneHeard n).regs = s.regs ∧ (s.laneHeard n).tb = s.tb
    ∧ ((s.laneHeard n).lane n).hbEl = some s.tb.el := by
  unfold State.laneHeard
  extract_lets u
  have hu : u.regs = s.regs ∧ u.tb = s.tb := by unfold u; split <;> exact ⟨rfl, rfl⟩
  clear_value u
  refine ⟨hu.1, hu.2, ?_⟩
  exact congrArg PairLane.hbEl (mgetD_mput_same u.pair.lanes n _ _)

/-- R343: the peer's word and image digest shown in the status ports. -/
def State.peerShown (s : State) (w : List Nat) : State :=
  (s.setReg Reg.BTL_STAT (peerStat (s.reg Reg.BTL_STAT) (wd (lget w 0 0)))).setReg Reg.BTL_PIMGH (wd (lget w 2 0))

theorem peerShown_results (s : State) (w : List Nat) : (s.peerShown w).pair = s.pair ∧ (s.peerShown w).tb = s.tb
    ∧ (s.peerShown w).reg Reg.BTL_STAT = peerStat (s.reg Reg.BTL_STAT) (wd (lget w 0 0))
    ∧ (s.peerShown w).reg Reg.BTL_PIMGH = wd (lget w 2 0) ∧ sameRegs s (s.peerShown w) [Reg.BTL_STAT, Reg.BTL_PIMGH] :=
  ⟨rfl, rfl, (State.reg_setReg_ne _ _ (by decide)).trans (State.reg_setReg_same _ _ _), State.reg_setReg_same _ _ _,
    sameRegs_trans (sameRegs_widen (sameRegs_setReg s _ _) (by simp)) (sameRegs_widen (sameRegs_setReg _ _ _) (by simp))⟩

/-- R560: since when the peer's image digest differs from the unit's own. -/
def State.imageCompared (s : State) (now : Nat) : State :=
  let differs := s.reg Reg.BTL_PIMGH != s.reg Reg.BTL_IMGH
  { s with boot := { s.boot with
    imgEl := if differs then some (s.boot.imgEl.getD now) else none, imgNoted := s.boot.imgNoted && differs } }

/-- What a heartbeat frame of payload `p` on lane `n` does. -/
def State.heard (s : State) (n : Nat) (p : List Byte) : State :=
  ((((s.laneHeard n).peerShown (wordsBE 4 p)).imageCompared s.tb.el).updPair
    (fun x => { x with peerWord := wd (lget (wordsBE 4 p) 0 0) })).noteBoth

theorem exec_heartbeatFrame_taken (lane : Fin 2) (f : List Byte) (s : State) :
    exec (.heartbeatFrame lane f) s = .next (match s.takeFrame lane 1 f with
      | (s, none) => s
      | (s, some p) => s.heard lane p) := rfl

theorem exec_heartbeatFrame {lane : Fin 2} {f p : List Byte} {s : State} (hup : s.laneUp lane = true) (hparse : frameParse f = some (1, p))
    (hsolo : s.solo = false) : exec (.heartbeatFrame lane f) s = .next (s.heard lane p) := by
  rw [exec_heartbeatFrame_taken, takeFrame_valid hup hparse hsolo]

theorem heard_end (u : State) (now : Nat) (w0 : Word) : ∃ t, ((u.imageCompared now).updPair (fun p => { p with peerWord := w0 })).noteBoth = t
    ∧ t.regs = u.regs ∧ t.tb = u.tb ∧ t.pair.lanes = u.pair.lanes ∧ t.pair.peerWord = w0 := by
  have hnote (s : State) : ∃ x, s.noteBoth = s.updPair fun p => { p with both12 := x } := ⟨_, rfl⟩
  obtain ⟨x, h⟩ := hnote ((u.imageCompared now).updPair fun p => { p with peerWord := w0 })
  refine ⟨_, h, ?_⟩
  simp only [State.updPair, State.imageCompared, and_self]

theorem heartbeatFrame_results {lane : Fin 2} {f p : List Byte} {s : State} (hup : s.laneUp lane = true) (hparse : frameParse f = some (1, p))
    (hsolo : s.solo = false) : ∃ t, exec (.heartbeatFrame lane f) s = .next t ∧ (t.lane lane).hbEl = some s.tb.el
      ∧ t.pathAlive (2 + lane) = true ∧ t.pair.peerWord = BitVec.ofNat 32 (lget (wordsBE 4 p) 0 0)
      ∧ t.regF Reg.BTL_STAT 15 8 = fld t.pair.peerWord 15 8 ∧ t.regF Reg.BTL_STAT 7 4 = fld t.pair.peerWord 27 24
      ∧ t.regB Reg.BTL_STAT 24 = bit t.pair.peerWord 29 ∧ t.regB Reg.BTL_STAT 20 = bit t.pair.peerWord 30
      ∧ t.reg Reg.BTL_PIMGH = BitVec.ofNat 32 (lget (wordsBE 4 p) 2 0) ∧ t.hold = s.hold ∧ sameRegs s t [Reg.BTL_STAT, Reg.BTL_PIMGH] := by
  have hrun := exec_heartbeatFrame hup hparse hsolo
  obtain ⟨hregs, htb, hlane⟩ := laneHeard_results s lane
  obtain ⟨hpair, htb', hstat, hpimgh, hsame⟩ := peerShown_results (s.laneHeard lane) (wordsBE 4 p)
  obtain ⟨t, hend, htregs, httb, htlanes, hword⟩ := heard_end ((s.laneHeard lane).peerShown (wordsBE 4 p)) s.tb.el (wd (lget (wordsBE 4 p) 0 0))
  rw [State.heard, hend] at hrun
  clear hend
  have hreadIn (a : Nat) : (s.laneHeard lane).reg a = s.reg a := congrArg (fun r => mgetD r a (resetWord a)) hregs
  have hread (a : Nat) : t.reg a = ((s.laneHeard lane).peerShown (wordsBE 4 p)).reg a := congrArg (fun r => mgetD r a (resetWord a)) htregs
  have htlane : (t.lane lane).hbEl = some s.tb.el :=
    (congrArg (fun q => (mgetD q lane ({} : PairLane)).hbEl) (htlanes.trans (congrArg Pair.lanes hpair))).trans hlane
  have hnow : t.tb.el = s.tb.el := congrArg Timebase.el (httb.trans (htb'.trans htb))
  rw [← hread, hreadIn, ← hword] at hstat
  have hbeside : sameRegs s t [Reg.BTL_STAT, Reg.BTL_PIMGH] := fun a ha hr => (hread a).trans ((hsame a ha hr).trans (hreadIn a))
  rw [← hread] at hpimgh
  clear hread htregs httb htlanes
  obtain ⟨haddr, hstate, hholds, hhealth, hhold⟩ := peerStat_results (s.reg Reg.BTL_STAT) t.pair.peerWord
  rw [← hstat] at haddr hstate hholds hhealth hhold
  have halive : t.recent (t.lane lane).hbEl = true := by rw [htlane]; exact recent_now hnow
  refine ⟨t, hrun, htlane, ?_, hword, haddr, hstate, hholds, hhealth, hpimgh, hhold, hbeside⟩
  obtain rfl | rfl : lane = 0 ∨ lane = 1 := by omega
  · exact halive
  · exact halive

/-- R340, R346: a frame that is not valid is counted on its lane. -/
theorem heartbeatFrame_notValid {lane : Fin 2} {f : List Byte} {s : State} (hup : s.laneUp lane = true) (hparse : frameParse f = none) :
    ∃ t, exec (.heartbeatFrame lane f) s = .next t ∧ sameRegs s t [Reg.BTL_LANE lane]
      ∧ t.regF (Reg.BTL_LANE lane) 15 0 = (s.regF (Reg.BTL_LANE lane) 15 0 + 1) % 65536 := by
  let u := s.bumpF (Reg.BTL_LANE lane) 15 0
  have hcount : u.regF (Reg.BTL_LANE lane) 15 0 = (s.regF (Reg.BTL_LANE lane) 15 0 + 1) % 65536 :=
    regF_setRegF_same s (Reg.BTL_LANE lane) (hi := 15) (lo := 0) _ (by decide) (by decide)
  have hsame : sameRegs s u [Reg.BTL_LANE lane] := sameRegs_setRegF _ _ _ _ _
  have htake : s.takeFrame lane 1 f = (if frameCrcOk f then u else
      u.updLane lane (fun l => { l with errs := l.errs.filter (fun e => decide (u.tb.el - e < 1000000)) ++ [u.tb.el] }), none) := by
    unfold State.takeFrame
    rw [if_pos hup, hparse]
  rw [exec_heartbeatFrame_taken, htake]
  dsimp only
  refine ⟨_, rfl, ?_⟩
  split
  · exact ⟨hsame, hcount⟩
  · exact ⟨hsame, hcount⟩

/-! ### Paths (R342, R344, R345) -/

theorem hbInEdge_results {s : State} :
    (s.solo = false → ∃ t, exec .hbInEdge s = .next t ∧ t.pathAlive 1 = true ∧ t.pair.seen = true ∧ t.regs = s.regs)
    ∧ (s.solo = true → exec .hbInEdge s = .next s) := by
  refine ⟨fun hsolo => ⟨_, congrArg Host.Outcome.next (if_neg (ne_true_of_eq_false hsolo)), ?_, rfl, rfl⟩,
    fun hsolo => congrArg Host.Outcome.next (if_pos hsolo)⟩
  exact recent_now rfl

theorem alivePulseLoss_results {s : State} (hquiet : s.pair.quiet = false) (hsolo : s.solo = false) (hlate : 2000 < s.tb.el - s.pair.pulseEl) :
    ∃ t, exec .alivePulseLoss s = .next t ∧ t.pair.quiet = true ∧ t.pair.toggling = false ∧ t.requesting = false ∧ t.pair.relEl = none
      ∧ t.hold = false ∧ t.driven = false := by
  let u := s.updPair fun p =>
    { p with quiet := true, toggling := false, waiting := false, window := none, takeover := false
             armSeq := none, armEl := none, hoSeq := none, relEl := none }
  obtain ⟨hunheld, hhold, -⟩ := loseHold_results u
  have hpair {α : Type} (f : Pair → α) : f u.loseHold.unheld.pair = f u.unheld.pair := congrArg (fun x : State => f x.pair) hunheld
  refine ⟨u.loseHold, congrArg Host.Outcome.next (if_pos (by simp [hquiet, hsolo, hlate])), hpair Pair.quiet, hpair Pair.toggling,
    hpair fun p => p.waiting || p.window.isSome, hpair Pair.relEl, hhold, ?_⟩
  rw [State.driven, hhold, Bool.false_and]

theorem pathLoss_results {k : Fin 4} {s : State} (hsilent : s.pathAlive k = false) (hother : s.pathAlive (otherPath k) = true)
    (hever : s.pair.ever.contains k.val = true ∨ 8000 ≤ s.tb.el) (hnew : s.pair.lost.contains k.val = false) (hsolo : s.solo = false) :
    ∃ t, exec (.pathLoss k) s = .next t ∧ t.pair.lost.contains k.val = true ∧ t.regB Reg.BTL_STK (if k.val < 2 then 0 else 1) = true
      ∧ sameRegs s t [Reg.BTL_STK] := by
  let u := s.updPair fun p => { p with lost := p.lost ++ [k.val] }
  have hlost : u.pair.lost.contains k.val = true := by simp [u, State.updPair]
  have hnote (i : Nat) (hi : i < 32) (n : RecName) (el : Nat) (l : List Nat) : ((u.setBitR Reg.BTL_STK i).record n el l).pair = u.pair
      ∧ ((u.setBitR Reg.BTL_STK i).record n el l).regB Reg.BTL_STK i = true
      ∧ sameRegs s ((u.setBitR Reg.BTL_STK i).record n el l) [Reg.BTL_STK] :=
    ⟨(pair_record _ _ _ _).trans rfl, (congrArg (bit · i) (reg_record_outside _ _ _ _ (by decide))).trans
      ((regB_setBitR _ hi _ _ _).trans (if_pos ⟨rfl, rfl⟩)), sameRegs_trans (sameRegs_setBitR u _ _) (sameRegs_record _ _ _ _ _)⟩
  have hguard : (!(s.pathAlive k) && s.pathAlive (otherPath k) && (s.pair.ever.contains k.val || decide (8000 ≤ s.tb.el))
      && !(s.pair.lost.contains k.val) && !s.solo) = true := by
    rw [hsilent, hother, hnew, hsolo]
    simpa using hever
  refine ⟨if k.val < 2 then (u.setBitR Reg.BTL_STK 0).record .pairPathLoss k [k.val]
    else (u.setBitR Reg.BTL_STK 1).record .pairLaneDown (k.val - 2) [k.val - 2], congrArg Host.Outcome.next (if_pos hguard), ?_⟩
  split
  · obtain ⟨hpair, hbit, hregs⟩ := hnote 0 (by decide) .pairPathLoss k [k.val]
    exact ⟨by rw [hpair]; exact hlost, hbit, hregs⟩
  · obtain ⟨hpair, hbit, hregs⟩ := hnote 1 (by decide) .pairLaneDown (k.val - 2) [k.val - 2]
    exact ⟨by rw [hpair]; exact hlost, hbit, hregs⟩

theorem pathRestore_results {k : Fin 4} {s : State} (hlost : s.pair.lost.contains k.val = true) (halive : s.pathAlive k = true)
    (hsince : s.pathSince k + 1000000000 ≤ s.tb.el) :
    ∃ t, exec (.pathRestore k) s = .next t ∧ t.pair.lost.contains k.val = false ∧ sameRegs s t [] := by
  let u := s.updPair fun p => { p with lost := p.lost.filter fun q => q != k.val }
  have hgone : u.pair.lost.contains k.val = false := by simp [u, State.updPair]
  exact ⟨u.record .pairPathRestore k [k.val], congrArg Host.Outcome.next (if_pos (by rw [hlost, halive]; simpa using hsince)),
    by rw [pair_record]; exact hgone, sameRegs_record u _ _ _ _⟩

/-! ### The peer fails and returns (R344, R370) -/

theorem peerAlive_results {s : State} (hlane : s.pathAlive 0 = true) (hwire : s.pathAlive 1 = true) (hdead : s.regB Reg.BTL_STAT 23 = false)
    (hsolo : s.solo = false) (hsince0 : s.pathSince 0 + 100000000 ≤ s.tb.el) (hsince1 : s.pathSince 1 + 100000000 ≤ s.tb.el) :
    ∃ t, exec .peerAlive s = .next t ∧ t.regB Reg.BTL_STAT 23 = true ∧ t.pair.failed = false ∧ sameRegs s t [Reg.BTL_STAT] :=
  ⟨_, congrArg Host.Outcome.next (if_pos (by simp [hlane, hwire, hdead, hsolo, hsince0, hsince1])),
    (regB_setBitR s (by decide) _ _ _).trans (if_pos ⟨rfl, rfl⟩), rfl, sameRegs_setBitR s Reg.BTL_STAT 23⟩

/-- The pair logic of a unit whose peer has failed, before open epochs and transactions are decided (R344, R377). -/
def State.peerLost (s : State) : State :=
  ((s.clrBitR Reg.BTL_STAT 23).updPair fun p =>
    { p with relEl := none, hoRev := false, failed := true, seen := false, both12 := none, armSeq := none, hoSeq := none, hoNext := false
             toggling := p.toggling && (p.armEl.isNone || p.window.isSome), armEl := none }).record .pairPeerFail 0 []

/-- Every epoch open when the peer fails ends on both lanes (R360). -/
def State.openEnded (s : State) : State :=
  s.pair.openEps.foldl (fun s o => [0, 1].foldl (fun s n => s.endCopy n o.group o.seq false) s) s

/-- R381: the transactions of all groups decided. -/
def State.allDecided (s : State) : State := (List.range 16).foldl (fun s g => s.txnDecide g) s

theorem exec_peerFail {s : State} (hmask : s.pathMask = 0) (hseen : s.pair.seen = true) (hfailed : s.pair.failed = false)
    (hsolo : s.solo = false) : exec .peerFail s = .next (
      let u := s.peerLost.openEnded.allDecided
      if u.hold || s.pair.relEl.isSome then (u.handoverOutcome false 0).takeover else u.takeover) := by
  refine congrArg Host.Outcome.next ((if_pos (by simp [hmask, hseen, hfailed, hsolo])).trans ?_)
  refine Eq.trans (b := (if s.peerLost.openEnded.allDecided.hold || s.pair.relEl.isSome then
    s.peerLost.openEnded.allDecided.handoverOutcome false 0 else s.peerLost.openEnded.allDecided).takeover) rfl ?_
  exact apply_ite State.takeover _ _ _

theorem peerLost_results (s : State) : s.peerLost.pair.failed = true ∧ s.peerLost.regB Reg.BTL_STAT 23 = false
    ∧ (∀ i, i ≠ 23 → s.peerLost.regB Reg.BTL_STAT i = s.regB Reg.BTL_STAT i) ∧ s.peerLost.pair.openEps = s.pair.openEps := by
  have hread (i : Nat) : s.peerLost.regB Reg.BTL_STAT i = (s.clrBitR Reg.BTL_STAT 23).regB Reg.BTL_STAT i :=
    congrArg (bit · i) (reg_record_outside _ _ _ _ (by decide))
  refine ⟨congrArg Pair.failed (pair_record _ _ _ _), (hread 23).trans ((regB_clrBitR _ (by decide) _ _ _).trans (if_pos ⟨rfl, rfl⟩)),
    fun i hi => (hread i).trans ((regB_clrBitR _ (by decide) _ _ _).trans (if_neg fun h => hi h.2)), (congrArg Pair.openEps (pair_record _ _ _ _)).trans rfl⟩

theorem standing_peerLost (s : State) : s.peerLost.standing = s.standing := by
  obtain ⟨-, -, hstat, -⟩ := peerLost_results s
  have hpair {α : Type} (f : Pair → α) : f s.peerLost.pair = f _ := congrArg f (pair_record _ _ _ _)
  have hhold : s.peerLost.hold = s.hold := hstat 25 (by decide)
  have hstate : s.peerLost.pairState = s.pairState := regF_congr fun j h _ => hstat j (by omega)
  have hsolo : s.peerLost.solo = s.solo := (congrArg (bit · 1) (reg_record_outside _ _ _ _ (by decide))).trans
    (congrArg (bit · 1) (State.reg_setReg_ne _ _ (by decide)))
  have hhealth : s.peerLost.health = s.health := (health_record _ _ _ _).trans rfl
  have hparts : s.peerLost.pair.started = s.pair.started ∧ s.peerLost.pair.quiet = s.pair.quiet
      ∧ s.peerLost.pair.selConflict = s.pair.selConflict ∧ s.peerLost.requesting = s.requesting :=
    ⟨(hpair Pair.started).trans rfl, (hpair Pair.quiet).trans rfl, (hpair Pair.selConflict).trans rfl,
      (hpair fun p => p.waiting || p.window.isSome).trans rfl⟩
  obtain ⟨hstarted, hquiet, hconflict, hreq⟩ := hparts
  simp only [State.standing, hstarted, hquiet, hconflict, hhealth, hhold, hsolo, hreq, hstate]

theorem openEnded_moves (s : State) : EpochMoves s s.openEnded := by
  refine foldl_keeps (EpochMoves s) _ _ s ⟨rfl, fun _ _ => rfl⟩ fun u o _ hu => ?_
  exact foldl_keeps (EpochMoves s) _ _ u hu fun v n _ hv => hv.trans (endCopy_moves v n o.group o.seq false)

theorem allDecided_eq (s : State) : ∃ x l o, s.allDecided = { s with pair := { s.pair with txns := x, lanes := l }, out := o } := by
  refine foldl_keeps (fun u : State => ∃ x l o, u = { s with pair := { s.pair with txns := x, lanes := l }, out := o }) _ _ s
    ⟨s.pair.txns, s.pair.lanes, s.out, rfl⟩ fun u g _ ⟨x, l, o, hu⟩ => ?_
  obtain ⟨x', l', o', h⟩ := txnDecide_eq u g
  exact ⟨x', l', o', by rw [h, hu]⟩

theorem takeover_leaves (s : State) : s.takeover.pair.failed = s.pair.failed ∧ s.takeover.reg Reg.BTL_STAT = s.reg Reg.BTL_STAT := by
  unfold State.takeover
  split
  · exact ⟨rfl, rfl⟩
  split
  · extract_lets u v
    have hu : u.pair = s.pair ∧ u.reg Reg.BTL_STAT = s.reg Reg.BTL_STAT := by
      unfold u
      split
      · exact ⟨pair_record _ _ _ _, reg_record_outside _ _ _ _ (by decide)⟩
      · exact ⟨rfl, rfl⟩
    have hfailed : u.pair.failed = s.pair.failed := congrArg Pair.failed hu.1
    have hv : v.pair.failed = s.pair.failed ∧ v.reg Reg.BTL_STAT = s.reg Reg.BTL_STAT := ⟨hfailed, hu.2⟩
    split
    · exact hv
    · exact hv
  · exact ⟨congrArg Pair.failed ((pair_record _ _ _ _).trans rfl), (reg_record_outside _ _ _ _ (by decide)).trans (State.reg_orBits_ne _ _ (by decide))⟩

/-- R370: a unit that may ask takes over. -/
theorem takeover_asks {s : State} (hmay : s.mayHold = true) (hstate : s.pairState = 1 ∨ s.pairState = 2) (hquiet : s.requesting = false) :
    s.takeover.pair.waiting = true ∧ s.takeover.pair.takeover = true := by
  have hhold : ¬ s.hold = true := by
    intro h
    simp [State.mayHold, h] at hmay
  unfold State.takeover
  rw [if_neg hhold, if_pos (by rw [hmay]; rcases hstate with h | h <;> simp [h])]
  extract_lets u v
  have hu : u.pair = s.pair := by
    unfold u
    split
    · exact pair_record _ _ _ _
    · rfl
  have hv : ¬ v.requesting = true := by
    rw [show v.requesting = (u.pair.waiting || u.pair.window.isSome) from rfl, hu]
    exact ne_true_of_eq_false hquiet
  rw [if_neg hv]
  exact ⟨rfl, rfl⟩

section
variable {s : State} (hmask : s.pathMask = 0) (hseen : s.pair.seen = true) (hfailed : s.pair.failed = false) (hsolo : s.solo = false)
include hmask hseen hfailed hsolo

theorem peerFail_marks : ∃ t, exec .peerFail s = .next t ∧ t.pair.failed = true ∧ t.regB Reg.BTL_STAT 23 = false ∧ t.hold = s.hold := by
  obtain ⟨hlost, hdead, hstat, -⟩ := peerLost_results s
  have hmoves := openEnded_moves s.peerLost
  obtain ⟨x, l, o, hdecided⟩ := allDecided_eq s.peerLost.openEnded
  have hv : s.peerLost.openEnded.allDecided.pair.failed = true ∧ ∀ i, i < 28 → s.peerLost.openEnded.allDecided.regB Reg.BTL_STAT i
      = s.peerLost.regB Reg.BTL_STAT i := by
    rw [hdecided]
    exact ⟨(congrArg Pair.failed hmoves.pair).trans hlost, hmoves.stat⟩
  have hrun := exec_peerFail hmask hseen hfailed hsolo
  generalize s.peerLost.openEnded.allDecided = v at hrun hv
  obtain ⟨hvfailed, hvstat⟩ := hv
  have hend (w : State) (hpair : w.pair = v.pair) (hreg : w.reg Reg.BTL_STAT = v.reg Reg.BTL_STAT) : w.takeover.pair.failed = true
      ∧ w.takeover.regB Reg.BTL_STAT 23 = false ∧ w.takeover.hold = s.hold := by
    obtain ⟨htake, hstay⟩ := takeover_leaves w
    have hbit (i : Nat) (hi : i < 28) : w.takeover.regB Reg.BTL_STAT i = s.peerLost.regB Reg.BTL_STAT i :=
      (congrArg (bit · i) (hstay.trans hreg)).trans (hvstat i hi)
    exact ⟨by rw [htake, hpair, hvfailed], (hbit 23 (by decide)).trans hdead, (hbit 25 (by decide)).trans (hstat 25 (by decide))⟩
  refine ⟨_, hrun, ?_⟩
  dsimp only
  split
  · obtain ⟨hpair, -, -, hregs⟩ := handoverOutcome_moves v false 0
    exact hend _ hpair (hregs _ (by decide) (not_recorderPort (by decide)))
  · exact hend v rfl rfl

theorem peerFail_takesOver (hmay : s.mayRequest = true) (hstate : s.pairState = 1 ∨ s.pairState = 2) (hopen : s.pair.openEps = []) :
    ∃ t, exec .peerFail s = .next t ∧ t.pair.waiting = true ∧ t.pair.takeover = true := by
  obtain ⟨-, -, -, hstill⟩ := peerLost_results s
  have hnone : s.peerLost.openEnded = s.peerLost := by rw [State.openEnded, hstill, hopen]; rfl
  have hrun := exec_peerFail hmask hseen hfailed hsolo
  have hv : s.peerLost.openEnded.allDecided.standing = s.standing := by
    obtain ⟨x, l, o, hdecided⟩ := allDecided_eq s.peerLost.openEnded
    rw [hdecided, hnone]
    exact standing_peerLost s
  generalize s.peerLost.openEnded.allDecided = v at hrun hv
  have hend (w : State) (hw : w.standing = s.standing) : w.takeover.pair.waiting = true ∧ w.takeover.pair.takeover = true := by
    obtain ⟨hwmay, hwreq, hwstate⟩ := mayHold_of_standing hw
    simp only [State.mayRequest, Bool.and_eq_true, Bool.not_eq_true'] at hmay
    exact takeover_asks (hwmay.trans hmay.1) (hwstate ▸ hstate) (hwreq.trans hmay.2)
  refine ⟨_, hrun, ?_⟩
  dsimp only
  split
  · exact hend _ ((handoverOutcome_moves v false 0).standing.trans hv)
  · exact hend v hv

end

/-! ### Lanes (R346) -/

section
variable {lane : Fin 2} {s : State}

theorem laneTrained_results {eq : Fin 256} (htrain : s.regF (Reg.BTL_LANE lane) 31 30 = 1) (hclk : s.domainOut 11 = false) :
    ∃ t, exec (.laneTrained lane eq) s = .next t ∧ t.laneUp lane = true ∧ t.regF (Reg.BTL_LANE lane) 23 16 = eq
      ∧ sameRegs s t [Reg.BTL_LANE lane] := by
  let u := s.setRegF (Reg.BTL_LANE lane) 31 30 2
  have hstate : u.regF (Reg.BTL_LANE lane) 31 30 = 2 := regF_setRegF_same s (Reg.BTL_LANE lane) (hi := 31) (lo := 30) 2 (by decide) (by decide)
  have hkept : (u.setRegF (Reg.BTL_LANE lane) 23 16 eq).regF (Reg.BTL_LANE lane) 31 30 = 2 :=
    (regF_congr fun j h _ => regB_setRegF u _ (by decide) (.inr (.inr (by omega)))).trans hstate
  refine ⟨u.setRegF (Reg.BTL_LANE lane) 23 16 eq, congrArg Host.Outcome.next (if_neg (by simp [htrain, hclk])), beq_iff_eq.2 hkept, ?_,
    sameRegs_trans (sameRegs_setRegF s _ _ _ _) (sameRegs_setRegF u _ _ _ _)⟩
  exact (regF_setRegF_same u (Reg.BTL_LANE lane) (hi := 23) (lo := 16) eq (by decide) (by decide)).trans (Nat.mod_eq_of_lt eq.isLt)

theorem laneDown_results (hup : s.laneUp lane = true)
    (herrs : 16 < ((s.lane lane).errs.filter (fun e => decide (s.tb.el - e < 1000000))).length) :
    ∃ t, exec (.laneDown lane) s = .next t ∧ t.regF (Reg.BTL_LANE lane) 31 30 = 1 ∧ (t.lane lane).errs = []
      ∧ sameRegs s t [Reg.BTL_LANE lane] :=
  ⟨_, congrArg Host.Outcome.next (if_pos (by rw [hup]; simpa using herrs)),
    regF_setRegF_same s (Reg.BTL_LANE lane) (hi := 31) (lo := 30) 1 (by decide) (by decide),
    congrArg PairLane.errs (mgetD_mput_same s.pair.lanes lane _ _), sameRegs_setRegF s (Reg.BTL_LANE lane) 31 30 1⟩

theorem eqLimit_results {eq : Fin 256} : (0 < eq.val → eq.val < 255 → exec (.eqLimit lane eq) s = .next s)
    ∧ (s.laneUp lane = true → eq.val = 0 ∨ eq.val = 255 → ∃ t, exec (.eqLimit lane eq) s = .next t ∧ t.regB Reg.BTL_STK 13 = true
        ∧ t.regF (Reg.BTL_LANE lane) 23 16 = eq ∧ sameRegs s t [Reg.BTL_LANE lane, Reg.BTL_STK]) := by
  let u := s.setRegF (Reg.BTL_LANE lane) 23 16 eq
  have heq : u.regF (Reg.BTL_LANE lane) 23 16 = eq :=
    (regF_setRegF_same s (Reg.BTL_LANE lane) (hi := 23) (lo := 16) eq (by decide) (by decide)).trans (Nat.mod_eq_of_lt eq.isLt)
  refine ⟨fun h1 h2 => congrArg Host.Outcome.next (if_neg ?_), fun hup hend => ?_⟩
  · have h0 : (eq.val == 0) = false := beq_false_of_ne (by omega)
    have h255 : (eq.val == 255) = false := beq_false_of_ne (by omega)
    simp [h0, h255]
  refine ⟨(u.setBitR Reg.BTL_STK 13).record .pairEqLimit lane [lane.val], congrArg Host.Outcome.next (if_pos ?_), ?_, ?_, ?_⟩
  · rw [hup]
    rcases hend with h | h <;> simp [h]
  · exact (congrArg (bit · 13) (reg_record_outside _ _ _ _ (by decide))).trans ((regB_setBitR u (by decide) _ _ _).trans (if_pos ⟨rfl, rfl⟩))
  · refine (congrArg (fld · 23 16) ((reg_record_outside _ _ _ _ (by lia)).trans (State.reg_orBits_ne _ _ (by lia)))).trans heq
  · exact sameRegs_trans (t := u) (sameRegs_widen (sameRegs_setRegF s _ _ _ _) (by simp))
      (sameRegs_trans (sameRegs_widen (sameRegs_setBitR _ _ _) (by simp)) (sameRegs_record _ _ _ _ _))

end

/-- Settles O51: heartbeats, paths, the peer lost and back, lanes, one lemma each. -/
theorem pairLinkResults : Obligations.PairLinkResults := by
  unfold Obligations.PairLinkResults
  refine ⟨fun _ => heartbeatSend_results, fun lane f p s hup => ⟨fun hparse hsolo => ?_, heartbeatFrame_results hup, heartbeatFrame_notValid hup⟩,
    fun _ => hbInEdge_results, fun _ => alivePulseLoss_results,
    fun _ hmask hseen hfailed hsolo => ⟨peerFail_marks hmask hseen hfailed hsolo, peerFail_takesOver hmask hseen hfailed hsolo⟩,
    fun _ => peerAlive_results, fun _ _ => ⟨pathLoss_results, pathRestore_results⟩,
    fun _ _ _ => ⟨laneTrained_results, laneDown_results, eqLimit_results⟩⟩
  rw [exec_heartbeatFrame_taken, takeFrame_solo hup hparse 1 hsolo]

end Sys2Proof.Machine
end

section
/-! PROOFS. Authority gained, given up and handed over (R347 to R352, R375 to R377): what each leaves. -/
namespace Sys2Proof.Machine

open State (setBitR clrBitR setRegF regB regF Leaves)

/-! ### What the enables and HOLD move -/

theorem unheld_unsaf (s : State) : s.unsaf.unheld = s.unheld.unsaf := by
  have hregs : (s.regs.filter plainPort).filter beyondStat = (s.regs.filter beyondStat).filter plainPort := by
    rw [List.filter_filter, List.filter_filter]
    exact List.filter_congr fun q _ => Bool.and_comm _ _
  simp only [State.unsaf, State.unheld, hregs]

/-- The unit without what gaining HOLD moves: what letting it go moves, the safety block's ports and store, and the request. -/
def State.ungained (s : State) : State :=
  { s.unsaf.unheld with pair := { s.unsaf.unheld.pair with waiting := false, window := none, beacons := 0 } }

theorem ungained_of_unsaf {s t : State} (h : t.unsaf = s.unsaf) : t.ungained = s.ungained := by
  unfold State.ungained
  rw [h]

theorem ungained_of_unheld {s t : State} (h : t.unheld = s.unheld) : t.ungained = s.ungained := by
  unfold State.ungained
  rw [unheld_unsaf, unheld_unsaf, h]

theorem reg_of_ungained {s t : State} (h : t.ungained = s.ungained) {a : Nat} (hstat : a ≠ Reg.BTL_STAT) (hsaf : safPort a = false)
    (hrec : ¬ recorderPort a) : t.reg a = s.reg a := by
  have hbeyond : ∀ w, beyondStat (a, w) = true := fun _ => bne_iff_ne.2 hstat
  have hplain : ∀ w, plainPort (a, w) = true := fun w => by simp [plainPort, ownPort_eq_true hrec, hsaf]
  have hread (u : State) : u.ungained.reg a = u.reg a := by
    simp only [State.reg, mgetD, State.ungained, State.unheld, State.unsaf, mget_filter beyondStat hbeyond, mget_filter plainPort hplain]
  rw [← hread t, h, hread s]

/-- R349, R436: the enables follow; what a missing link faults is of the safety block. -/
theorem syncEnables_results (s : State) : ∃ on el, s.syncEnables.unsaf = (s.updPair fun p => { p with enOn := on, enEl := el }).unsaf := by
  unfold State.syncEnables
  extract_lets now u
  have hu : ∃ on el, u = s.updPair fun p => { p with enOn := on, enEl := el } := by
    unfold u
    split
    · exact ⟨s.pair.enOn, s.pair.enEl, rfl⟩
    · exact ⟨_, _, rfl⟩
  obtain ⟨on, el, hu⟩ := hu
  exact ⟨on, el, (unsaf_linkFault u).trans (congrArg State.unsaf hu)⟩

/-- What the enables leave of the pair logic and the ports beside those of the safety block and the recorder. -/
theorem syncEnables_leaves (s : State) : (∃ on el, s.syncEnables.pair = { s.pair with enOn := on, enEl := el })
    ∧ ∀ a, safPort a = false → ¬ recorderPort a → s.syncEnables.reg a = s.reg a := by
  obtain ⟨on, el, h⟩ := syncEnables_results s
  exact ⟨⟨on, el, congrArg (fun u : State => u.pair) h⟩, fun a hsaf hrec => (reg_of_unsaf h hsaf hrec).trans rfl⟩

theorem ungained_syncEnables (s : State) : s.syncEnables.ungained = s.ungained := by
  obtain ⟨on, el, h⟩ := syncEnables_results s
  exact (ungained_of_unsaf h).trans rfl

/-- R348, R352: HOLD gained ends the request. -/
theorem gainHold_results {s : State} (hfree : s.hold = false) (hopen : s.barred = false) : s.gainHold.ungained = s.ungained
    ∧ s.gainHold.hold = true ∧ s.gainHold.pair.waiting = false ∧ s.gainHold.pair.window = none := by
  unfold State.gainHold
  rw [if_neg (by simp [hfree, hopen])]
  extract_lets u
  obtain ⟨⟨on, el, hpair⟩, hregs⟩ := syncEnables_leaves u
  obtain ⟨x, hevent⟩ := blockEvent_eq u.syncEnables.restate 11 0
  have hrest : u.syncEnables.restate.pair.waiting = false ∧ u.syncEnables.restate.pair.window = none := by
    obtain h | ⟨new, el, cnt, rev, both, h⟩ := restate_eq u.syncEnables <;> rw [h]
    · rw [hpair]; exact ⟨rfl, rfl⟩
    · exact ⟨congrArg Pair.waiting hpair, congrArg Pair.window hpair⟩
  refine ⟨?_, ?_, by rw [hevent]; exact hrest.1, by rw [hevent]; exact hrest.2⟩
  · rw [ungained_of_unheld (unheld_blockEvent _ _ _), ungained_of_unheld (unheld_restate _), ungained_syncEnables]
    refine Eq.trans (b := (s.setBitR Reg.BTL_STAT 25).ungained) rfl ?_
    exact ungained_of_unheld (unheld_setStat s _)
  · rw [State.hold, regB, reg_blockEvent]
    refine (regB_restate _ (by decide)).trans ((congrArg (bit · 25) (hregs _ (by decide) (not_recorderPort (by decide)))).trans ?_)
    exact (regB_setBitR s (by decide) _ _ _).trans (if_pos ⟨rfl, rfl⟩)

/-! ### A handover that succeeds (R376, R378) -/

theorem handoverDone_results (s : State) (rev : Bool) : (s.handoverDone rev).pair = s.pair
    ∧ (s.handoverDone rev).reg Reg.BTL_NHANDO = s.reg Reg.BTL_NHANDO + 1
    ∧ sameRegs s (s.handoverDone rev) [Reg.BTL_NHANDO, Reg.BTL_NREVERT] := by
  unfold State.handoverDone
  extract_lets u
  have hu : u.pair = s.pair ∧ u.reg Reg.BTL_NHANDO = s.reg Reg.BTL_NHANDO + 1 ∧ sameRegs s u [Reg.BTL_NHANDO, Reg.BTL_NREVERT] :=
    ⟨(pair_record _ _ _ _).trans rfl, (reg_record_outside _ _ _ _ (by decide)).trans (State.reg_setReg_same _ _ _),
      sameRegs_trans (t := s.bump Reg.BTL_NHANDO) (sameRegs_widen (sameRegs_setReg s _ _) (by simp)) (sameRegs_record _ _ _ _ _)⟩
  obtain ⟨hpair, hcount, hsame⟩ := hu
  split
  · exact ⟨((pair_record _ _ _ _).trans rfl).trans hpair, ((reg_record_outside _ _ _ _ (by decide)).trans (State.reg_setReg_ne _ _ (by decide))).trans hcount,
      sameRegs_trans hsame (sameRegs_trans (t := u.bump Reg.BTL_NREVERT) (sameRegs_widen (sameRegs_setReg u _ _) (by simp)) (sameRegs_record _ _ _ _ _))⟩
  · exact ⟨hpair, hcount, hsame⟩

/-- R375, step 5: the armed unit takes HOLD. -/
theorem takeArmed_results {s : State} (hfree : s.hold = false) (hopen : s.barred = false) : s.takeArmed.hold = true
    ∧ s.takeArmed.reg Reg.BTL_NHANDO = s.reg Reg.BTL_NHANDO + 1 ∧ s.takeArmed.pair.armSeq = none := by
  unfold State.takeArmed
  extract_lets rev u
  obtain ⟨hview, hhold, -, -⟩ := gainHold_results (s := u) hfree hopen
  obtain ⟨hpair, hcount, hsame⟩ := handoverDone_results u.gainHold rev
  refine ⟨(congrArg (bit · 25) (hsame _ (by decide) (not_recorderPort (by decide)))).trans hhold, ?_, ?_⟩
  · rw [hcount, reg_of_ungained hview (by decide) (by decide) (not_recorderPort (by decide))]
    rfl
  · rw [hpair]
    exact congrArg (fun x : State => x.pair.armSeq) hview

/-- R376, R377: what a releasing unit notes when it sees AUTH_IN leaves of the pair logic and the strap. -/
theorem releaseSeen_leaves (s : State) : (∃ r b, s.releaseSeen.pair = { s.pair with relEl := r, hoRev := b }) ∧ s.releaseSeen.solo = s.solo := by
  unfold State.releaseSeen
  split
  · exact ⟨⟨s.pair.relEl, s.pair.hoRev, rfl⟩, rfl⟩
  next t _ =>
    extract_lets rev u
    obtain ⟨hpair, -, hdone⟩ := handoverDone_results u rev
    obtain ⟨hpair', -, -, hout⟩ := handoverOutcome_moves (u.handoverDone rev) true t
    refine ⟨⟨none, false, (hpair'.trans hpair).trans rfl⟩, ?_⟩
    exact congrArg (bit · 1) ((hout _ (by decide) (not_recorderPort (by decide))).trans (hdone _ (by decide) (not_recorderPort (by decide))))

/-! ### Dual authority (R350) -/

theorem dualAuthority_results {s : State} (hhold : s.hold = true) : s.dualAuthority.regB Reg.BTL_STK 3 = true
    ∧ s.dualAuthority.hold = !(s.regB Reg.SYS_STRAP 0) ∧ (s.regB Reg.SYS_STRAP 0 = true → s.dualAuthority.pair.toggling = false) := by
  unfold State.dualAuthority
  extract_lets u
  have hmark : u.regB Reg.BTL_STK 3 = true := (congrArg (bit · 3) (reg_record_outside _ _ _ _ (by decide))).trans
    ((regB_setBitR s (by decide) _ _ _).trans (if_pos ⟨rfl, rfl⟩))
  have hread (a i : Nat) (h : a ≠ Reg.BTL_STK) (hr : ¬ recorderPort a) : u.regB a i = s.regB a i :=
    congrArg (bit · i) ((reg_record _ _ _ _ hr).trans (State.reg_orBits_ne s _ h))
  have hstrap := hread Reg.SYS_STRAP 0 (by decide) (not_recorderPort (by decide))
  have hheld : u.hold = true := (hread Reg.BTL_STAT 25 (by decide) (not_recorderPort (by decide))).trans hhold
  obtain ⟨hunheld, hlost, -⟩ := loseHold_results u
  clear_value u
  rw [hstrap]
  split
  · next hb =>
    rw [hb]
    exact ⟨(congrArg (bit · 3) (reg_of_unheld hunheld (by decide))).trans hmark, hlost, fun _ => rfl⟩
  · next hb => exact ⟨hmark, by rw [hheld, Bool.eq_false_iff.2 hb]; rfl, fun h => absurd h hb⟩

end Sys2Proof.Machine
end

section
/-! PROOFS. Authority (R347 to R351, R375 to R378): requests, the interlock, dual authority and beacons, planned handover, revert. -/
namespace Sys2Proof.Machine

open State (setBitR clrBitR setRegF regB regF Leaves)

/-! ### Requests and their window (R348) -/

theorem authorityRequest_results {s : State} :
    (s.pair.waiting = true → s.barred = true → ∃ t, exec .authorityRequest s = .next t ∧ t.pair.waiting = false ∧ t.pair.window = s.pair.window
        ∧ t.pair.toggling = s.pair.toggling ∧ t.regs = s.regs)
    ∧ (s.pair.waiting = true → s.barred = false → s.pair.authIn = false → ∃ t, exec .authorityRequest s = .next t ∧ t.pair.window = some s.tb.el
        ∧ t.pair.toggling = true ∧ t.pair.waiting = false ∧ t.regs = s.regs)
    ∧ (s.pair.authIn = true → s.barred = false → exec .authorityRequest s = .next s) := by
  refine ⟨fun hwait hbar => ⟨_, congrArg Host.Outcome.next ((if_pos hwait).trans (if_pos hbar)), rfl, rfl, rfl, rfl⟩,
    fun hwait hopen hin => ⟨_, congrArg Host.Outcome.next ((if_pos hwait).trans ((if_neg (ne_true_of_eq_false hopen)).trans
      (if_neg (ne_true_of_eq_false hin)))), rfl, rfl, rfl, rfl⟩, fun hin hopen => congrArg Host.Outcome.next ?_⟩
  split
  · exact (if_neg (ne_true_of_eq_false hopen)).trans (if_pos hin)
  · rfl

theorem tookOver_results (s : State) : s.tookOver.hold = s.hold ∧ s.tookOver.pair.window = s.pair.window
    ∧ s.tookOver.reg Reg.BTL_NTAKE = s.reg Reg.BTL_NTAKE + 1 := by
  unfold State.tookOver
  extract_lets seqs u
  have hu : u.reg Reg.BTL_NTAKE = s.reg Reg.BTL_NTAKE + 1 ∧ u.hold = s.hold ∧ u.pair = s.pair :=
    ⟨(State.reg_orBits_ne _ _ (by decide)).trans (State.reg_setReg_same _ _ _),
      congrArg (bit · 25) ((State.reg_orBits_ne _ _ (by decide)).trans (State.reg_setReg_ne _ _ (by decide))), rfl⟩
  obtain ⟨hcount, hhold, hpair⟩ := hu
  clear_value u
  refine ⟨(congrArg (bit · 25) (reg_record_outside _ _ _ _ (by decide))).trans hhold, ?_, (reg_record_outside _ _ _ _ (by decide)).trans hcount⟩
  exact (congrArg Pair.window (pair_record _ _ _ _)).trans (congrArg Pair.window hpair)

section
variable {w : Nat} {s : State} (hwin : s.pair.window = some w) (hdue : w + 2000 ≤ s.tb.el) (hfree : s.hold = false)
include hwin hdue hfree

theorem arbitrationWindowEnd_gains (hopen : s.barred = false) : ∃ t, exec .arbitrationWindowEnd s = .next t ∧ t.hold = true
    ∧ t.pair.window = none ∧ (s.pair.takeover = true → t.reg Reg.BTL_NTAKE = s.reg Reg.BTL_NTAKE + 1) := by
  obtain ⟨hview, hhold, -, hclosed⟩ := gainHold_results hfree hopen
  have htake : s.gainHold.pair.takeover = s.pair.takeover := (congrArg (fun u : State => u.pair.takeover) hview).trans rfl
  have hcount : s.gainHold.reg Reg.BTL_NTAKE = s.reg Reg.BTL_NTAKE := reg_of_ungained hview (by decide) (by decide) (not_recorderPort (by decide))
  refine ⟨if s.gainHold.pair.takeover then s.gainHold.tookOver else s.gainHold, congrArg Host.Outcome.next ?_, ?_⟩
  · simp only [hwin]
    exact (if_pos hdue).trans (if_neg (ne_true_of_eq_false hopen))
  · obtain ⟨hthold, htwin, htcount⟩ := tookOver_results s.gainHold
    rw [htake]
    split
    · exact ⟨hthold.trans hhold, htwin.trans hclosed, fun _ => by rw [htcount, hcount]⟩
    · next hno => exact ⟨hhold, hclosed, fun h => absurd h hno⟩

theorem arbitrationWindowEnd_barred (hbar : s.barred = true) : ∃ t, exec .arbitrationWindowEnd s = .next t ∧ t.hold = false
    ∧ t.requesting = s.pair.waiting ∧ t.pair.toggling = false ∧ t.regs = s.regs := by
  refine ⟨s.updPair fun p => { p with window := none, toggling := false }, congrArg Host.Outcome.next ?_, hfree, Bool.or_false _, rfl, rfl⟩
  simp only [hwin]
  exact (if_pos hdue).trans (if_pos hbar)

end

/-! ### The interlock inputs (R347 to R349, R375) -/

/-- R347: AUTH_IN seen active; unit B gives up an open window and waits. -/
def State.authInSeen (s : State) : State :=
  let s := s.updPair (fun p => { p with authIn := true, authInEl := s.tb.el, dualNoted := false })
  if s.pair.window.isSome && s.regB Reg.SYS_STRAP 0 then
    s.updPair (fun p => { p with window := none, toggling := false, waiting := true })
  else s

theorem authInActive_results {s : State} (hidle : s.pair.authIn = false) :
    ∃ t, exec .authInActive s = .next t ∧ t.pair.authIn = true ∧ (s.solo = false → t.driven = false)
      ∧ (s.pair.window.isSome = true → s.regB Reg.SYS_STRAP 0 = true → t.pair.window = none ∧ t.pair.toggling = false ∧ t.pair.waiting = true) := by
  let u := s.authInSeen
  have hin : u.pair.authIn = true ∧ u.solo = s.solo := by
    unfold u State.authInSeen
    extract_lets v
    split <;> exact ⟨rfl, rfl⟩
  have hyield : s.pair.window.isSome = true → s.regB Reg.SYS_STRAP 0 = true → u.pair.window = none ∧ u.pair.toggling = false
      ∧ u.pair.waiting = true := by
    intro hwin hstrap
    unfold u State.authInSeen
    extract_lets v
    have hv : (v.pair.window.isSome && v.regB Reg.SYS_STRAP 0) = true := Bool.and_eq_true_iff.2 ⟨hwin, hstrap⟩
    rw [if_pos hv]
    exact ⟨rfl, rfl, rfl⟩
  have hrun : exec .authInActive s = .next u.releaseSeen.syncEnables := congrArg Host.Outcome.next (if_neg (ne_true_of_eq_false hidle))
  clear_value u
  obtain ⟨⟨r, b, hpair⟩, hsolo⟩ := releaseSeen_leaves u
  obtain ⟨⟨on, el, hpair'⟩, hregs⟩ := syncEnables_leaves u.releaseSeen
  refine ⟨_, hrun, ?_, fun hs => ?_, fun hwin hstrap => ?_⟩
  · rw [hpair', hpair]; exact hin.1
  · have hstays : u.releaseSeen.syncEnables.solo = false :=
      (congrArg (bit · 1) (hregs _ (by decide) (not_recorderPort (by decide)))).trans (hsolo.trans (hin.2.trans hs))
    have hon : u.releaseSeen.syncEnables.pair.authIn = true := by rw [hpair', hpair]; exact hin.1
    rw [State.driven, hstays, hon]
    simp
  · rw [hpair', hpair]
    exact hyield hwin hstrap

/-- R347: AUTH_IN seen inactive, and the enables that follow. -/
def State.authInGone (s : State) : State := (s.updPair fun p => { p with authIn := false, dualNoted := false }).syncEnables

theorem exec_authInInactive {s : State} (hin : s.pair.authIn = true) : exec .authInInactive s = .next (
    if s.authInGone.pair.armEl.isSome && s.authInGone.pair.armSeq.isSome && !s.authInGone.hold && !s.authInGone.barred then s.authInGone.takeArmed
    else if s.authInGone.pair.waiting then s.authInGone.arbitrate else s.authInGone) := congrArg Host.Outcome.next (if_pos hin)

theorem authInGone_results (s : State) : (∃ on el, s.authInGone.pair = { s.pair with authIn := false, dualNoted := false, enOn := on, enEl := el })
    ∧ s.authInGone.hold = s.hold ∧ s.authInGone.solo = s.solo ∧ s.authInGone.barred = s.barred
    ∧ s.authInGone.reg Reg.BTL_NHANDO = s.reg Reg.BTL_NHANDO ∧ s.authInGone.tb = s.tb := by
  let u := s.updPair fun p => { p with authIn := false, dualNoted := false }
  obtain ⟨⟨on, el, hpair⟩, hregs⟩ := syncEnables_leaves u
  obtain ⟨on', el', hview⟩ := syncEnables_results u
  have hsolo : s.authInGone.solo = s.solo := congrArg (bit · 1) (hregs _ (by decide) (not_recorderPort (by decide)))
  refine ⟨⟨on, el, hpair⟩, congrArg (bit · 25) (hregs _ (by decide) (not_recorderPort (by decide))), hsolo, ?_,
    hregs _ (by decide) (not_recorderPort (by decide)), (congrArg (fun x : State => x.tb) hview).trans rfl⟩
  have hq : s.authInGone.pair.quiet = s.pair.quiet := (congrArg Pair.quiet hpair).trans rfl
  have hc : s.authInGone.pair.selConflict = s.pair.selConflict := (congrArg Pair.selConflict hpair).trans rfl
  simp only [State.barred, hq, hc, hsolo]

section
variable {s : State} (hin : s.pair.authIn = true)
include hin

theorem authInInactive_rests (harm : s.pair.armEl = none) (hwait : s.pair.waiting = false) :
    ∃ t, exec .authInInactive s = .next t ∧ t.pair.authIn = false ∧ t.driven = s.hold ∧ t.hold = s.hold := by
  obtain ⟨⟨on, el, hpair⟩, hhold, -⟩ := authInGone_results s
  have harm' : s.authInGone.pair.armEl = none := by rw [hpair]; exact harm
  have hwait' : s.authInGone.pair.waiting = false := by rw [hpair]; exact hwait
  have hgone : s.authInGone.pair.authIn = false := by rw [hpair]
  refine ⟨s.authInGone, (exec_authInInactive hin).trans (congrArg Host.Outcome.next ?_), hgone, ?_, hhold⟩
  · rw [if_neg (by rw [harm']; simp), if_neg (ne_true_of_eq_false hwait')]
  · rw [State.driven, hgone, hhold]
    simp

theorem authInInactive_asks (harm : s.pair.armEl = none) (hwait : s.pair.waiting = true) (hopen : s.barred = false) :
    ∃ t, exec .authInInactive s = .next t ∧ t.pair.window = some s.tb.el ∧ t.pair.toggling = true := by
  obtain ⟨⟨on, el, hpair⟩, -, -, hbarred, -, htb⟩ := authInGone_results s
  have harm' : s.authInGone.pair.armEl = none := by rw [hpair]; exact harm
  have hwait' : s.authInGone.pair.waiting = true := by rw [hpair]; exact hwait
  have hgone : s.authInGone.pair.authIn = false := by rw [hpair]
  refine ⟨s.authInGone.updPair fun p => { p with waiting := false, toggling := true, window := some s.authInGone.tb.el },
    (exec_authInInactive hin).trans (congrArg Host.Outcome.next ?_), congrArg (fun x : Timebase => some x.el) htb, rfl⟩
  rw [if_neg (by rw [harm']; simp), if_pos hwait', State.arbitrate, if_neg (ne_true_of_eq_false (hbarred.trans hopen)),
    if_neg (ne_true_of_eq_false hgone)]

theorem authInInactive_takes (harm : s.pair.armEl.isSome = true) (hseq : s.pair.armSeq.isSome = true) (hfree : s.hold = false)
    (hopen : s.barred = false) : ∃ t, exec .authInInactive s = .next t ∧ t.hold = true ∧ t.reg Reg.BTL_NHANDO = s.reg Reg.BTL_NHANDO + 1
      ∧ t.pair.armSeq = none := by
  obtain ⟨⟨on, el, hpair⟩, hhold, -, hbarred, hcount, -⟩ := authInGone_results s
  have harm' : s.authInGone.pair.armEl.isSome = true := by rw [hpair]; exact harm
  have hseq' : s.authInGone.pair.armSeq.isSome = true := by rw [hpair]; exact hseq
  obtain ⟨hthold, htcount, htseq⟩ := takeArmed_results (hhold.trans hfree) (hbarred.trans hopen)
  refine ⟨s.authInGone.takeArmed, (exec_authInInactive hin).trans (congrArg Host.Outcome.next (if_pos ?_)), hthold, by rw [htcount, hcount], htseq⟩
  simp [harm', hseq', hhold, hfree, hbarred, hopen]

end

/-! ### Dual authority and beacons (R350, R351) -/

theorem exec_dualAuthority_results {s : State} (hhold : s.hold = true) (hsolo : s.solo = false) (hin : s.pair.authIn = true)
    (hnew : s.pair.dualNoted = false) (hlate : s.pair.authInEl + 2000 < s.tb.el) :
    ∃ t, exec .dualAuthority s = .next t ∧ t.regB Reg.BTL_STK 3 = true ∧ t.hold = !(s.regB Reg.SYS_STRAP 0)
      ∧ (s.regB Reg.SYS_STRAP 0 = true → t.pair.toggling = false) :=
  ⟨_, congrArg Host.Outcome.next (if_pos (by simp [hhold, hsolo, hin, hnew, hlate])),
    dualAuthority_results (s := s.updPair fun p => { p with dualNoted := true }) hhold⟩

/-- One copy of a telegram that leaves through a LAN. -/
def State.leavingCopy (s : State) (lan : Fin 2) (stream : Nat) (safe auth : Bool) (seq stamp secl : Nat) (payload : List Byte) : TelCopy :=
  { lan := lan, stream := stream, src := s.regF Reg.SYS_ADDR 7 0, unitB := s.regB Reg.SYS_STRAP 0, auth := auth, safe := safe
    seq := seq % 2 ^ 32, stamp := stamp % 2 ^ 32, secl := secl % 65536, payload := payload }

/-- R505: one copy through its LAN, or counted when it cannot leave. -/
def State.publishOn (s : State) (lan : Fin 2) (stream : Nat) (safe auth : Bool) (seq stamp secl : Nat) (payload : List Byte) : State :=
  if s.regB (Reg.ETH_PCFG lan.val) 31 && s.regB (Reg.ETH_PSTAT lan.val) 31 && !(s.domainOut 6) then
    (s.bump (Reg.ETH_NTX lan.val)).emit (.telegram (s.leavingCopy lan stream safe auth seq stamp secl payload)
      (telFrame (s.telTag lan.val) (s.leavingCopy lan stream safe auth seq stamp secl payload)))
  else s.bump (Reg.ETH_NTXLD lan.val)

theorem publishTelegram_eq (s : State) (stream : Nat) (safe auth : Bool) (seq stamp secl : Nat) (payload : List Byte) :
    s.publishTelegram stream safe auth seq stamp secl payload =
      (s.publishOn 0 stream safe auth seq stamp secl payload).publishOn 1 stream safe auth seq stamp secl payload := rfl

theorem publishOn_open {s : State} {lan : Fin 2} (stream : Nat) (safe auth : Bool) (seq stamp secl : Nat) (payload : List Byte)
    (hcfg : s.regB (Reg.ETH_PCFG lan) 31 = true) (hlink : s.regB (Reg.ETH_PSTAT lan) 31 = true) (hclk : s.domainOut 6 = false) :
    s.publishOn lan stream safe auth seq stamp secl payload =
      (s.bump (Reg.ETH_NTX lan)).emit (.telegram (s.leavingCopy lan stream safe auth seq stamp secl payload)
        (telFrame (s.telTag lan) (s.leavingCopy lan stream safe auth seq stamp secl payload))) :=
  if_pos (by rw [hcfg, hlink, hclk]; rfl)

theorem telTag_congr {s t : State} {p : Nat} (h : t.reg (Reg.ETH_PCFG p) = s.reg (Reg.ETH_PCFG p)) : t.telTag p = s.telTag p := by
  unfold State.telTag regB regF
  rw [h]

theorem pairBeaconSend_results {s : State} : (s.solo = true → exec .pairBeaconSend s = .next s)
    ∧ (s.solo = false → s.domainOut 6 = false → s.regB (Reg.ETH_PCFG 0) 31 = true → s.regB (Reg.ETH_PSTAT 0) 31 = true →
        s.regB (Reg.ETH_PCFG 1) 31 = true → s.regB (Reg.ETH_PSTAT 1) 31 = true →
      ∃ t a b, exec .pairBeaconSend s = .next t ∧ t.out = s.out ++ [.telegram a (telFrame (s.telTag 0) a), .telegram b (telFrame (s.telTag 1) b)] ∧ a.lan = 0 ∧ b.lan = 1
        ∧ a.stream = 0xFFFF ∧ b.stream = 0xFFFF ∧ a.payload = s.hbPayload.take 8 ∧ b.payload = s.hbPayload.take 8 ∧ a.auth = s.hold) := by
  refine ⟨fun hsolo => congrArg Host.Outcome.next (if_pos hsolo), fun hsolo hclk hcfg0 hlink0 hcfg1 hlink1 => ?_⟩
  let copy := fun (u : State) (lan : Fin 2) =>
    u.leavingCopy lan 0xFFFF false s.hold (s.tb.t / 1000000) s.tb.t (s.tb.t / 1000000000 % 65536) (s.hbPayload.take 8)
  let u := (s.bump (Reg.ETH_NTX 0)).emit (.telegram (copy s 0) (telFrame (s.telTag 0) (copy s 0)))
  have hread (a : Nat) (h : a ≠ Reg.ETH_NTX 0) : u.reg a = s.reg a := State.reg_setReg_ne s _ h
  have hcfg1' : u.regB (Reg.ETH_PCFG 1) 31 = true := (congrArg (bit · 31) (hread _ (by decide))).trans hcfg1
  have hlink1' : u.regB (Reg.ETH_PSTAT 1) 31 = true := (congrArg (bit · 31) (hread _ (by decide))).trans hlink1
  have hout : u.out = s.out ++ [.telegram (copy s 0) (telFrame (s.telTag 0) (copy s 0))] := rfl
  refine ⟨(u.bump (Reg.ETH_NTX 1)).emit (.telegram (copy u 1) (telFrame (u.telTag 1) (copy u 1))), copy s 0, copy u 1,
    congrArg Host.Outcome.next ((if_neg (ne_true_of_eq_false hsolo)).trans ?_), ?_, rfl, rfl, rfl, rfl, rfl, rfl, rfl⟩
  · rw [publishTelegram_eq, publishOn_open (lan := 0) _ _ _ _ _ _ _ hcfg0 hlink0 hclk]
    exact publishOn_open (s := u) (lan := 1) _ _ _ _ _ _ _ hcfg1' hlink1' hclk
  · rw [← telTag_congr (hread (Reg.ETH_PCFG 1) (by decide))]
    refine (congrArg (· ++ [_]) hout).trans ?_
    rw [List.append_assoc]; rfl

theorem pairBeacon_duplicate {c : TelCopy} {s : State} (hsrc : c.src = s.regF Reg.SYS_ADDR 7 0) :
    ∃ t, exec (.pairBeacon c) s = .next t ∧ t.healthy = false ∧ t.regB Reg.SYS_STK 5 = true := by
  refine ⟨_, congrArg Host.Outcome.next (if_pos hsrc), ?_, ?_⟩
  · unfold State.duplicateAddress
    extract_lets u b v
    rw [healthy_record]
    exact (healthy_addHealth _ _)
  · refine (congrArg (bit · 5) (reg_record_outside _ _ _ _ (by decide))).trans ?_
    refine (congrArg (bit · 5) (reg_addHealth ((s.setBitR Reg.SYS_STK 5).setBitR Reg.ETH_STK 4) _ _)).trans ?_
    exact (regB_setBitR_other _ _ _ (by decide)).trans ((regB_setBitR s (by decide) _ _ _).trans (if_pos ⟨rfl, rfl⟩))

theorem pairBeacon_results {c : TelCopy} {s : State} (hsrc : c.src ≠ s.regF Reg.SYS_ADDR 7 0) (hstream : c.stream = 0xFFFF) (hhold : s.hold = true)
    (hsolo : s.solo = false) (hfailed : s.pair.failed = true) (hmask : s.pathMask = 0) (hpeer : c.src = s.regF Reg.BTL_STAT 15 8)
    (hseq : s.pair.beaconSeq ≠ some c.seq) (hbit : (c.payload.head?.map (fun b => b.toNat.testBit 5)) = some true) :
    (s.pair.beacons = 0 → ∃ t, exec (.pairBeacon c) s = .next t ∧ t.pair.beacons = 1 ∧ t.pair.beaconSeq = some c.seq ∧ t.hold = true)
    ∧ (1 ≤ s.pair.beacons → ∃ t, exec (.pairBeacon c) s = .next t ∧ t.regB Reg.BTL_STK 3 = true ∧ t.hold = !(s.regB Reg.SYS_STRAP 0)) := by
  let u := s.updPair fun p => { p with beacons := s.pair.beacons + 1, beaconSeq := some c.seq }
  have hrun : exec (.pairBeacon c) s = .next (if 2 ≤ s.pair.beacons + 1 then (u.updPair fun p => { p with beacons := 0 }).dualAuthority else u) := by
    refine congrArg Host.Outcome.next ((if_neg hsrc).trans ((if_pos hstream).trans ?_))
    unfold State.beacon State.pairBeacon
    have hbeacon : (c.payload.head?.map (fun b => b.toNat.testBit 5)).getD false = true := by rw [hbit]; rfl
    rw [hbeacon, if_neg (by simp [hhold, hsolo, hfailed, hmask]), if_neg (by simp [hpeer, hseq])]
    rfl
  refine ⟨fun hnone => ⟨u, hrun.trans (congrArg Host.Outcome.next (if_neg (by omega))), congrArg (· + 1) hnone, rfl, hhold⟩, fun hone => ?_⟩
  obtain ⟨hmark, hheld, -⟩ := dualAuthority_results (s := u.updPair fun p => { p with beacons := 0 }) hhold
  exact ⟨_, hrun.trans (congrArg Host.Outcome.next (if_pos (by omega))), hmark, hheld⟩

/-! ### Planned handover (R375, R377) -/

theorem startHandover_results {s : State} (rev : Bool) (hhold : s.hold = true) (hsolo : s.solo = false) (hnone : s.pair.hoSeq = none) :
    (s.startHandover rev).pair.hoSeq = some s.handoverSeq ∧ (s.startHandover rev).pair.hoAck = false
      ∧ (s.startHandover rev).pair.hoRev = (s.pair.hoRev || rev) ∧ (s.startHandover rev).regs = s.regs
      ∧ (s.startHandover rev).out.length = s.out.length + s.lanesUp.length := by
  unfold State.startHandover
  rw [if_neg (by simp [hhold, hsolo, hnone])]
  extract_lets q u
  obtain ⟨l, o, hsend, hlen⟩ := sendControl_eq u 1 (u.regF Reg.BTL_CFG 27 24) 0 q 0 0
  rw [hsend]
  exact ⟨rfl, rfl, rfl, rfl, (List.length_append).trans (congrArg (s.out.length + ·) hlen)⟩

section
variable {lane : Fin 2} {f p : List Byte} {s : State} (hup : s.laneUp lane = true) (hsolo : s.solo = false)
  (hparse : frameParse f = some (0x20, p))
  (hfirst : (1 - lane.val, [(readControl p).cmd, (readControl p).group, (readControl p).tid, (readControl p).seq]) ∉ s.pair.control)
include hup hsolo hparse hfirst

theorem exec_hoPrep (hcmd : (readControl p).cmd = 1) : ∃ k, exec (.hoPrep lane f) s = .next (
    let u := s.updPair fun x => { x with control := k }
    if u.healthy && !u.hold && !u.solo && !u.barred && (u.pairState == 1 || u.pairState == 2) then
      (u.updPair (fun x => { x with armGroup := (readControl p).group, armSeq := some (readControl p).seq })).sendControl 2
        (readControl p).group 0 (readControl p).seq 0 0
    else u) := by
  obtain ⟨k, htake⟩ := takeControl_first hup hsolo hparse hcmd hfirst
  refine ⟨k, ?_⟩
  simp -zeta only [exec, execHoPrep, htake]
  rfl

theorem hoPrep_barred (hcmd : (readControl p).cmd = 1) (hbar : s.barred = true) :
    ∃ t, exec (.hoPrep lane f) s = .next t ∧ t.pair.armSeq = s.pair.armSeq ∧ t.out = s.out ∧ t.regs = s.regs := by
  obtain ⟨k, hrun⟩ := exec_hoPrep hup hsolo hparse hfirst hcmd
  have hbar' : (s.updPair fun x => { x with control := k }).barred = true := hbar
  exact ⟨_, hrun.trans (congrArg Host.Outcome.next (if_neg (by simp [hbar']))), rfl, rfl, rfl⟩

theorem hoPrep_arms (hcmd : (readControl p).cmd = 1) (hhealthy : s.healthy = true) (hfree : s.hold = false) (hopen : s.barred = false)
    (hstate : s.pairState = 1 ∨ s.pairState = 2) :
    ∃ t, exec (.hoPrep lane f) s = .next t ∧ t.pair.armSeq = some (readControl p).seq ∧ t.pair.armGroup = (readControl p).group ∧ t.regs = s.regs
      ∧ t.out.length = s.out.length + s.lanesUp.length := by
  obtain ⟨k, hrun⟩ := exec_hoPrep hup hsolo hparse hfirst hcmd
  have hguard : (s.healthy && !s.hold && !s.solo && !s.barred && (s.pairState == 1 || s.pairState == 2)) = true := by
    rw [hhealthy, hfree, hsolo, hopen]
    rcases hstate with h | h <;> rw [h] <;> rfl
  obtain ⟨l, o, hsend, hlen⟩ := sendControl_eq (s.updPair fun x =>
    { x with control := k, armGroup := (readControl p).group, armSeq := some (readControl p).seq }) 2 (readControl p).group 0 (readControl p).seq 0 0
  refine ⟨_, (hrun.trans (congrArg Host.Outcome.next (if_pos hguard))).trans (congrArg Host.Outcome.next hsend), rfl, rfl, rfl, ?_⟩
  exact (List.length_append).trans (congrArg (s.out.length + ·) hlen)

theorem exec_hoAck (hcmd : (readControl p).cmd = 2) : ∃ k, exec (.hoAck lane f) s = .next (
    let u := s.updPair fun x => { x with control := k }
    if u.hold && u.pair.hoSeq == some (readControl p).seq then u.updPair (fun x => { x with hoAck := true }) else u) := by
  obtain ⟨k, htake⟩ := takeControl_first hup hsolo hparse hcmd hfirst
  refine ⟨k, ?_⟩
  simp -zeta only [exec, execHoAck, htake]
  rfl

theorem hoAck_results (hcmd : (readControl p).cmd = 2) :
    (s.hold = true → s.pair.hoSeq = some (readControl p).seq → ∃ t, exec (.hoAck lane f) s = .next t ∧ t.pair.hoAck = true ∧ t.regs = s.regs)
    ∧ (s.pair.hoSeq ≠ some (readControl p).seq → ∃ t, exec (.hoAck lane f) s = .next t ∧ t.pair.hoAck = s.pair.hoAck ∧ t.regs = s.regs) := by
  obtain ⟨k, hrun⟩ := exec_hoAck hup hsolo hparse hfirst hcmd
  have hheld : (s.updPair fun x => { x with control := k }).hold = s.hold := rfl
  exact ⟨fun hhold h => ⟨_, hrun.trans (congrArg Host.Outcome.next (if_pos (by simp [hheld, hhold, h]))), rfl, rfl⟩,
    fun h => ⟨_, hrun.trans (congrArg Host.Outcome.next (if_neg (by simp [h]))), rfl, rfl⟩⟩

theorem revertReq_results (hcmd : (readControl p).cmd = 3) (hhold : s.hold = true) (hnone : s.pair.hoSeq = none) :
    ∃ t, exec (.revertReq lane f) s = .next t ∧ t.pair.hoSeq = some s.handoverSeq ∧ t.pair.hoRev = true ∧ t.pair.hoAck = false
      ∧ t.regs = s.regs := by
  obtain ⟨k, htake⟩ := takeControl_first hup hsolo hparse hcmd hfirst
  obtain ⟨hseq, hack, hrev, hregs, -⟩ := startHandover_results (s := s.updPair fun x => { x with control := k }) true hhold hsolo hnone
  refine ⟨(s.updPair fun x => { x with control := k }).startHandover true, ?_, hseq, hrev.trans (Bool.or_true _), hack, hregs⟩
  simp -zeta only [exec, execRevertReq, htake]

end

theorem btlHoreq_results {p : Party} {v : Word} {s : State} (hturn : s.turnOf p = true) :
    (bit v 0 = true → s.hold = true → s.solo = false → s.pair.hoSeq = none → ∃ t, exec (.btlHoreq p v) s = .next t
        ∧ t.pair.hoSeq = some s.handoverSeq ∧ t.pair.hoAck = false ∧ t.regs = s.regs ∧ t.out.length = s.out.length + s.lanesUp.length)
    ∧ (bit v 0 = false ∨ s.hold = false → exec (.btlHoreq p v) s = .next (s.turned p)) := by
  have hheld : (s.turned p).hold = s.hold := rfl
  refine ⟨fun hgo hhold hsolo hnone => ?_, fun hno => congrArg Host.Outcome.next ((byParty_of_turnOf hturn _).trans (if_neg ?_))⟩
  · obtain ⟨hseq, hack, -, hregs, hlen⟩ := startHandover_results (s := s.turned p) false hhold hsolo hnone
    exact ⟨_, congrArg Host.Outcome.next ((byParty_of_turnOf hturn _).trans (if_pos (by rw [hheld, hgo, hhold]; rfl))), hseq, hack, hregs, hlen⟩
  · rw [hheld]
    rcases hno with h | h <;> simp [h]

/-- R377: 20 µs after its full stop an armed unit without authority gives up; a releasing unit that has seen nothing asks again. -/
theorem handoverFail_results {e : Nat} {s : State} (hdue : e + 20000 ≤ s.tb.el) :
    (s.pair.armEl = some e → s.hold = false → ∃ t, exec .handoverFail s = .next t ∧ t.pair.toggling = false ∧ t.pair.armSeq = none
        ∧ t.regB Reg.BTL_STK 12 = true ∧ t.hold = false)
    ∧ (s.pair.armEl = none → s.pair.relEl = some e → ∃ t, exec .handoverFail s = .next t ∧ t.pair.relEl = none
        ∧ t.pair.waiting = (s.pair.waiting || s.mayHold)) := by
  refine ⟨fun harm hfree => ?_, fun harm hrel => ?_⟩
  · let u := s.updPair fun p => { p with toggling := false, armSeq := none, armEl := none, revSent := false }
    refine ⟨(u.setBitR Reg.BTL_STK 12).record .pairHandoverFail 0 [], congrArg Host.Outcome.next (if_pos ?_),
      (congrArg Pair.toggling (pair_record _ _ _ _)).trans rfl, (congrArg Pair.armSeq (pair_record _ _ _ _)).trans rfl, ?_, ?_⟩
    · simp [harm, hfree, hdue]
    · exact (congrArg (bit · 12) (reg_record_outside _ _ _ _ (by decide))).trans ((regB_setBitR u (by decide) _ _ _).trans (if_pos ⟨rfl, rfl⟩))
    · exact (congrArg (bit · 25) ((reg_record_outside _ _ _ _ (by decide)).trans (State.reg_orBits_ne u _ (by decide)))).trans hfree
  · let u := s.updPair fun p => { p with relEl := none, hoRev := false }
    let v := u.record .pairHandoverFail 0 []
    have hpair : v.pair = u.pair := pair_record _ _ _ _
    have hread (a : Nat) (h : a < 0x8000) : v.reg a = s.reg a := reg_record_outside _ _ _ _ (.inl h)
    have hstand : v.standing = s.standing := by
      have hhealth : v.health = s.health := health_record _ _ _ _
      simp only [State.standing, State.hold, State.solo, State.requesting, State.pairState, regB, regF, hpair, hhealth,
        hread Reg.BTL_STAT (by decide), hread Reg.SYS_STRAP (by decide)]
      rfl
    have hmay : v.mayHold = s.mayHold := (mayHold_of_standing hstand).1
    have hrun : exec .handoverFail s = .next ((if v.mayHold then v.request else v).handoverOutcome false 0) :=
      congrArg Host.Outcome.next ((if_neg (by simp [harm])).trans (if_pos (by simp [hrel, hdue])))
    refine ⟨_, hrun, ?_⟩
    rw [(handoverOutcome_moves _ false 0).pair, hmay]
    split
    · next h => exact ⟨congrArg Pair.relEl hpair, by rw [h, Bool.or_true]; rfl⟩
    · next h => exact ⟨congrArg Pair.relEl hpair, by rw [Bool.eq_false_iff.2 h, Bool.or_false]; exact (congrArg Pair.waiting hpair).trans rfl⟩

/-! ### Revert (R378) -/

theorem revertHoldoffElapsed_results {s : State} :
    (s.revertReady = true → s.pair.revSent = false → bit s.pair.peerWord 29 = true → ∃ t, exec .revertHoldoffElapsed s = .next t
        ∧ t.pair.revSent = true ∧ t.out.length = s.out.length + s.lanesUp.length ∧ t.regs = s.regs)
    ∧ (s.revertReady = false → exec .revertHoldoffElapsed s = .next s) := by
  refine ⟨fun hready hnew hheld => ?_, fun hno => congrArg Host.Outcome.next (if_neg (by simp [hno]))⟩
  obtain ⟨l, o, hsend, hlen⟩ := sendControl_eq (s.updPair fun p => { p with revSent := true }) 3 (s.regF Reg.BTL_CFG 27 24) 0 0 0 0
  refine ⟨_, congrArg Host.Outcome.next ((if_pos (by simp [hready, hnew, hheld])).trans hsend), rfl, ?_, rfl⟩
  exact (List.length_append).trans (congrArg (s.out.length + ·) hlen)

/-- Settles O52: requests, the interlock inputs, beacons, handover and revert, one lemma each. -/
theorem authorityResults : Obligations.AuthorityResults := by
  unfold Obligations.AuthorityResults
  refine ⟨fun _ => authorityRequest_results, fun _ _ hwin hdue hfree => ⟨arbitrationWindowEnd_gains hwin hdue hfree,
      arbitrationWindowEnd_barred hwin hdue hfree⟩,
    fun _ => ⟨authInActive_results, authInInactive_rests, authInInactive_asks, authInInactive_takes⟩, fun _ => exec_dualAuthority_results,
    fun _ => pairBeaconSend_results, fun _ _ => ⟨pairBeacon_duplicate, pairBeacon_results⟩, ?_, fun _ _ _ => btlHoreq_results,
    fun _ _ => handoverFail_results, fun _ => revertHoldoffElapsed_results⟩
  exact fun lane f p s hup hsolo hparse hfirst => ⟨hoPrep_barred hup hsolo hparse hfirst, hoPrep_arms hup hsolo hparse hfirst,
    fun hcmd => (hoAck_results hup hsolo hparse hfirst hcmd).1, fun hcmd => (hoAck_results hup hsolo hparse hfirst hcmd).2,
    revertReq_results hup hsolo hparse hfirst⟩

end Sys2Proof.Machine
end

section
/-! PROOFS. Epoch mirroring and pair-wide transactions (R357 to R369, R379 to R382). -/
namespace Sys2Proof.Machine

open State (setBitR clrBitR setRegF regB regF Leaves)

/-! ### An epoch leaves (R358) -/

theorem epochTransmitEnd_results {e : TxEpoch} {l : List TxEpoch} {s : State} (hq : s.pair.txq = e :: l) :
    ∃ t, exec .epochTransmitEnd s = .next t ∧ t.pair.txq = l ∧ t.regs = s.regs
      ∧ ∀ n, n ∈ s.lanesUp → .pairFrame n (frameBytes 0x10 n (s.lane n).fseq e.head) ∈ t.out := by
  let u := s.updPair fun p => { p with txq := l }
  let kept := fun (v : State) => v.pair.txq = l ∧ v.regs = s.regs ∧ ∀ n, n ∈ s.lanesUp →
    .pairFrame n (frameBytes 0x10 n (s.lane n).fseq e.head) ∈ v.out
  have hsend (v : State) (type : Nat) (payload : List Byte) (hv : kept v) : kept (v.sendBoth type payload) := by
    obtain ⟨m, h⟩ := sendBoth_eq v type payload
    rw [h]
    exact ⟨hv.1, hv.2.1, fun n hn => List.mem_append_left _ (hv.2.2 n hn)⟩
  have hhead : kept (u.sendBoth 0x10 e.head) := by
    obtain ⟨m, h⟩ := sendBoth_eq u 0x10 e.head
    rw [h]
    exact ⟨rfl, rfl, fun n hn => List.mem_append_right _ (List.mem_map.2 ⟨n, hn, rfl⟩)⟩
  refine ⟨((bodyFrames 40 0 e.body).foldl (fun s f => s.sendBoth 0x11 f) (u.sendBoth 0x10 e.head)).sendBoth 0x12 e.commit,
    congrArg Host.Outcome.next ?_, ?_⟩
  · simp only [hq]
    rfl
  · exact hsend _ _ _ (foldl_keeps kept _ _ _ hhead fun v f _ hv => hsend v 0x11 f hv)

/-! ### An epoch arrives frame by frame (R360, R366) -/

/-- R366: the first header of a group and sequence pair opens an epoch. -/
theorem newEpoch_results {s : State} {g q : Nat} (len : Nat) (hnew : s.pair.received.contains (g, q) = false) :
    (s.newEpoch g q len).reg Reg.BTL_NEPRX = s.reg Reg.BTL_NEPRX + 1 ∧ (s.newEpoch g q len).reg Reg.BTL_NEPPEND = s.reg Reg.BTL_NEPPEND + 1
      ∧ (s.newEpoch g q len).pair.openEps = s.pair.openEps ++ [{ group := g, seq := q, len := len, el := s.tb.el }]
      ∧ (s.newEpoch g q len).pair.lanes = s.pair.lanes ∧ (s.newEpoch g q len).tb = s.tb := by
  unfold State.newEpoch
  rw [if_neg (ne_true_of_eq_false hnew)]
  refine ⟨?_, ?_, rfl, rfl, rfl⟩
  · exact (State.reg_setReg_ne _ _ (by decide)).trans ((State.reg_setReg_ne _ _ (by decide)).trans (State.reg_setReg_same _ _ _))
  · exact (State.reg_setReg_ne _ _ (by decide)).trans ((State.reg_setReg_same _ _ _).trans
      (congrArg (· + 1) (State.reg_setReg_ne s _ (by decide))))

section
variable {lane : Fin 2} {f p : List Byte} {s : State} (hup : s.laneUp lane = true) (hsolo : s.solo = false)
include hup hsolo

theorem epochHeaderFrame_results (hparse : frameParse f = some (0x10, p)) {g q : Nat} (hg : g = bitsOf (lget (wordsBE 8 p) 0 0) 31 28)
    (hseq : q = lget (wordsBE 8 p) 1 0 + bitsOf (lget (wordsBE 8 p) 2 0) 15 0 * 2 ^ 32)
    (hopen : s.pair.openEps = []) (hnone : (s.lane lane).copy = none) (hnew : s.pair.received.contains (g, q) = false) :
    ∃ t, exec (.epochHeaderFrame lane f) s = .next t ∧ t.reg Reg.BTL_NEPRX = s.reg Reg.BTL_NEPRX + 1
      ∧ t.reg Reg.BTL_NEPPEND = s.reg Reg.BTL_NEPPEND + 1
      ∧ (t.lane lane).copy = some { group := g, seq := q, head := p, len := lget (wordsBE 8 p) 3 0, el := s.tb.el } := by
  have htake := takeFrame_valid hup hparse hsolo
  obtain ⟨hrx, hpend, heps, hlanes, htb⟩ := newEpoch_results (lget (wordsBE 8 p) 3 0) hnew
  let u := s.newEpoch g q (lget (wordsBE 8 p) 3 0)
  have hcopy : (u.lane lane).copy = none := (congrArg (fun m => (mgetD m lane ({} : PairLane)).copy) hlanes).trans hnone
  let t := u.updLane lane fun l => { l with copy := some { group := g, seq := q, head := p, len := lget (wordsBE 8 p) 3 0, el := u.tb.el } }
  refine ⟨t, ?_, hrx, hpend, ?_⟩
  · simp only [exec, execEpochHeaderFrame, htake, hsolo, Bool.false_eq_true, if_false, hopen, List.filter_nil, List.foldl_nil, ← hg, ← hseq]
    have hfind : u.pair.openEps.find? (fun o => o.group == g && o.seq == q) =
        some { group := g, seq := q, len := lget (wordsBE 8 p) 3 0, el := s.tb.el } := by
      rw [heps, hopen]
      simp
    simp only [u] at hfind hcopy
    simp [hfind, hcopy, t, u]
  · refine (congrArg PairLane.copy (mgetD_mput_same u.pair.lanes lane _ _)).trans ?_
    rw [show u.tb = s.tb from htb]

theorem epochBodyFrame_results {c : EpochCopy} (hparse : frameParse f = some (0x11, p)) (hcopy : (s.lane lane).copy = some c)
    (hoff : ofBE (p.take 4) = c.body.length) :
    ∃ t, exec (.epochBodyFrame lane f) s = .next t ∧ (t.lane lane).copy = some { c with body := c.body ++ p.drop 4 } ∧ t.regs = s.regs := by
  have htake := takeFrame_valid hup hparse hsolo
  refine ⟨s.updLane lane fun l => { l with copy := some { c with body := c.body ++ p.drop 4 } }, ?_,
    congrArg PairLane.copy (mgetD_mput_same s.pair.lanes lane _ _), rfl⟩
  simp only [exec, execEpochBodyFrame, htake, hcopy]
  exact congrArg Host.Outcome.next (if_pos hoff)

end

/-! ### An epoch decided (R361, R362) -/

theorem epochCause_le (s : State) (c : EpochCopy) (h : Word) : s.epochCause c h ≤ 8 := by
  unfold State.epochCause
  dsimp only
  split_ifs <;> decide

/-- An epoch with no cause against it has a free bank. -/
theorem backBank_of_accepted {s : State} {c : EpochCopy} {h : Word} (hcause : s.epochCause c h = 0) : ∃ b, s.backBank c.group = some b := by
  rw [← Option.isSome_iff_exists]
  unfold State.epochCause at hcause
  dsimp only at hcause
  split_ifs at hcause with _ _ _ _ _ hfree
  simpa [Option.isNone_iff_eq_none, Option.isSome_iff_ne_none] using hfree

theorem discarded_results (s : State) {g cause : Nat} (q : Nat) (hg : g < 16) (hcause : cause ≤ 8) :
    (s.discarded g q cause).reg Reg.BTL_NEPDISC = s.reg Reg.BTL_NEPDISC + 1
      ∧ (s.discarded g q cause).reg Reg.BTL_NEPPEND = s.reg Reg.BTL_NEPPEND - 1
      ∧ (s.discarded g q cause).regF (Reg.BTL_MST g) 31 30 = 2 ∧ (s.discarded g q cause).regF (Reg.BTL_MST g) 28 25 = cause
      ∧ (s.discarded g q cause).regB Reg.BTL_STK 4 = true := by
  unfold State.discarded
  extract_lets u v
  have hcounted (a : Nat) (h : a ≠ Reg.BTL_STK) (ha : a < 0x8000) : v.reg a = u.reg a :=
    (reg_record_outside _ _ _ _ (.inl ha)).trans (State.reg_orBits_ne u _ h)
  have hmark : v.regB Reg.BTL_STK 4 = true := (congrArg (bit · 4) (reg_record_outside _ _ _ _ (by decide))).trans
    ((regB_setBitR u (by decide) _ _ _).trans (if_pos ⟨rfl, rfl⟩))
  refine ⟨?_, ?_, ?_, ?_, ?_⟩
  · rw [State.reg_setReg_ne _ _ (by lia), hcounted _ (by decide) (by decide)]
    exact (State.reg_setReg_ne _ _ (by decide)).trans ((State.reg_setReg_ne _ _ (by lia)).trans (State.reg_setReg_same s _ _))
  · rw [State.reg_setReg_ne _ _ (by lia), hcounted _ (by decide) (by decide)]
    exact (State.reg_setReg_same _ _ _).trans (congrArg (· - 1) ((State.reg_setReg_ne _ _ (by lia)).trans (State.reg_setReg_ne s _ (by decide))))
  · rw [regF, State.reg_setReg_same, fld_setFld_outside _ _ (by decide) (by decide), fld_setFld_outside _ _ (by decide) (by decide),
      fld_setFld_same _ _ (by decide) (by decide)]
    rfl
  · rw [regF, State.reg_setReg_same, fld_setFld_outside _ _ (by decide) (by decide), fld_setFld_same _ _ (by decide) (by decide)]
    exact Nat.mod_eq_of_lt (by omega)
  · exact (congrArg (bit · 4) (State.reg_setReg_ne v _ (by lia))).trans hmark

/-- The ports of a discarded epoch beside the pair state. -/
theorem reg_discardEpoch (s : State) (g q cause : Nat) {a : Nat} (h : a ≠ Reg.BTL_STAT) :
    (s.discardEpoch g q cause).reg a = ((s.closeEpoch g q).discarded g q cause).reg a := by
  obtain ⟨gs, n, heq⟩ := discardEpoch_eq s g q cause
  rw [heq]
  exact (reg_of_unheld (unheld_restate _) h).trans rfl

theorem copy_discardEpoch {s : State} {n g q : Nat} (cause : Nat) (hn : n < 2) (h : s.copyOf n g q) :
    ((s.discardEpoch g q cause).lane n).copy = none := by
  obtain ⟨gs, m, heq⟩ := discardEpoch_eq s g q cause
  have hclosed := copy_closeEpoch hn h
  have hpair := pair_discarded (s.closeEpoch g q) g q cause
  rw [heq, State.lane, lanes_restate]
  exact (congrArg (fun x : Pair => (mgetD x.lanes n {}).copy) hpair).trans hclosed

theorem copyOf_self {s : State} {n : Nat} {c : EpochCopy} (h : (s.lane n).copy = some c) : s.copyOf n c.group c.seq := by
  intro d hd
  rw [h] at hd
  cases hd
  exact ⟨rfl, rfl⟩

/-- R360: the lane's copy of an epoch is gone once it has ended. -/
theorem copy_endCopy {s : State} {n : Nat} {c : EpochCopy} (crc : Bool) (hn : n < 2) (h : (s.lane n).copy = some c) :
    ((s.endCopy n c.group c.seq crc).lane n).copy = none := by
  have hgone := copy_withoutCopy (copyOf_self h)
  obtain ⟨o, heq | ⟨cause, heq⟩⟩ := endCopy_eq s n c.group c.seq crc <;> rw [heq]
  · exact hgone
  · refine copy_discardEpoch cause hn fun d hd => ?_
    have hnone : (((s.withoutCopy n c.group c.seq).updPair fun p => { p with openEps := o }).lane n).copy = none := hgone
    rw [hnone] at hd
    cases hd

/-- R362: an epoch that passes begins to be copied into its bank. -/
def State.accepted (s : State) (a : EpochApply) : State :=
  ((s.updEpochs a.group fun x => { x with lastApp := some a.seq }).updPair fun p => { p with applying := p.applying ++ [a] }).markBank a.bank (mirrorTag a.bank)

theorem accepted_results (s : State) (a : EpochApply) : (s.accepted a).pair.applying = s.pair.applying ++ [a]
    ∧ ((s.accepted a).epochs a.group).lastApp = some a.seq ∧ (s.accepted a).pair.lanes = s.pair.lanes :=
  ⟨rfl, congrArg EpochGroup.lastApp (mgetD_mput_same s.pair.groups a.group _ _), rfl⟩

section
variable {lane : Fin 2} {f p : List Byte} {c : EpochCopy} {s : State} (hup : s.laneUp lane = true) (hsolo : s.solo = false)
  (hparse : frameParse f = some (0x12, p)) (hcopy : (s.lane lane).copy = some c)
  (hcrc : ofBE (p.take 4) = (crc32c (c.head ++ c.body)).toNat)
include hup hsolo hparse hcopy hcrc

theorem exec_epochCommitFrame : exec (.epochCommitFrame lane f) s = .next (s.decideEpoch c p) := by
  have htake := takeFrame_valid hup hparse hsolo
  simp only [exec, execEpochCommitFrame, htake, hcopy]
  exact congrArg Host.Outcome.next (if_pos hcrc)

theorem epochCommitFrame_accepted (hcause : s.epochCause c (BitVec.ofNat 32 (lget (wordsBE 8 c.head) 4 0)) = 0) :
    ∃ t a, exec (.epochCommitFrame lane f) s = .next t ∧ t.pair.applying = s.pair.applying ++ [a] ∧ a.group = c.group
      ∧ a.seq = c.seq ∧ a.body = c.body ∧ some a.bank = s.backBank c.group ∧ (t.epochs c.group).lastApp = some c.seq
      ∧ (t.lane lane).copy = none := by
  obtain ⟨b, hbank⟩ := backBank_of_accepted hcause
  have hclosed := copy_closeEpoch lane.isLt (copyOf_self hcopy)
  have happlying : (s.closeEpoch c.group c.seq).pair.applying = s.pair.applying := by
    obtain ⟨o, l, hclose⟩ := closeEpoch_eq s c.group c.seq
    rw [hclose]; rfl
  let alt := s.reg Reg.BTL_LHACC != 0 && wd (lget (wordsBE 8 c.head) 4 0) == s.reg Reg.BTL_LHACC
  let a : EpochApply := { group := c.group, seq := c.seq, alt := alt, head := c.head, body := c.body, commit := p, bank := b }
  have hrun : s.decideEpoch c p = (s.closeEpoch c.group c.seq).accepted a := by
    unfold State.decideEpoch
    extract_lets lhash cause bank alt' v
    have hno : ¬ cause ≠ 0 := not_not.2 hcause
    have hb : bank = b := by simp only [bank, hbank]; rfl
    rw [if_neg hno, hb]
    rfl
  obtain ⟨happ, hlast, hlanes⟩ := accepted_results (s.closeEpoch c.group c.seq) a
  refine ⟨_, a, (exec_epochCommitFrame hup hsolo hparse hcopy hcrc).trans (congrArg Host.Outcome.next hrun), by rw [happ, happlying], rfl, rfl, rfl,
    hbank.symm, hlast, ?_⟩
  rw [State.lane, hlanes]
  exact hclosed

theorem epochCommitFrame_discarded (hg : c.group < 16)
    {cause : Nat} (hc : s.epochCause c (BitVec.ofNat 32 (lget (wordsBE 8 c.head) 4 0)) = cause) (hpos : cause ≠ 0) :
    ∃ t, exec (.epochCommitFrame lane f) s = .next t ∧ t.reg Reg.BTL_NEPDISC = s.reg Reg.BTL_NEPDISC + 1
      ∧ t.reg Reg.BTL_NEPPEND = s.reg Reg.BTL_NEPPEND - 1 ∧ t.regF (Reg.BTL_MST c.group) 31 30 = 2
      ∧ t.regF (Reg.BTL_MST c.group) 28 25 = cause ∧ t.regB Reg.BTL_STK 4 = true ∧ t.pair.applying = s.pair.applying := by
  have hrun : s.decideEpoch c p = s.discardEpoch c.group c.seq cause := by
    subst hc
    exact if_pos hpos
  have hle : cause ≤ 8 := hc ▸ epochCause_le s c _
  obtain ⟨hdisc, hpend, hstate, hnamed, hmark⟩ := discarded_results (s.closeEpoch c.group c.seq) c.seq hg hle
  obtain ⟨o, l, hclose⟩ := closeEpoch_eq s c.group c.seq
  have hread {a : Nat} (h : a ≠ Reg.BTL_STAT) := reg_discardEpoch s c.group c.seq cause h
  have hbefore (a : Nat) : (s.closeEpoch c.group c.seq).reg a = s.reg a := by rw [hclose]; rfl
  refine ⟨_, (exec_epochCommitFrame hup hsolo hparse hcopy hcrc).trans (congrArg Host.Outcome.next hrun), ?_, ?_, ?_, ?_, ?_, ?_⟩
  · rw [hread (by decide), hdisc, hbefore]
  · rw [hread (by decide), hpend, hbefore]
  · exact (congrArg (fld · 31 30) (hread (by lia))).trans hstate
  · exact (congrArg (fld · 28 25) (hread (by lia))).trans hnamed
  · exact (congrArg (bit · 4) (hread (by decide))).trans hmark
  · exact (congrArg Pair.applying (discardEpoch_moves s c.group c.seq cause).pair).trans rfl

end

theorem epochCopyTimeout_results {lane : Fin 2} {c : EpochCopy} {s : State} (hcopy : (s.lane lane).copy = some c)
    (hlate : 3000 + 7 * (64 + 4 * c.len) < s.tb.el - c.el) :
    ∃ t, exec (.epochCopyTimeout lane) s = .next t ∧ (t.lane lane).copy = none := by
  refine ⟨s.endCopy lane c.group c.seq false, congrArg Host.Outcome.next ?_, copy_endCopy false lane.isLt hcopy⟩
  simp only [hcopy]
  exact if_pos (decide_eq_true hlate)

/-! ### An epoch applied (R362 to R369) -/

/-- What the alignment of the sequence and the comparison of digests leave: the epochs being copied, the banks, the counters of epochs. -/
structure ApplyMoves (s t : State) : Prop where
  applying : t.pair.applying = s.pair.applying
  banks : t.banks = s.banks
  applied : t.reg Reg.BTL_NEPAPP = s.reg Reg.BTL_NEPAPP
  pending : t.reg Reg.BTL_NEPPEND = s.reg Reg.BTL_NEPPEND

theorem ApplyMoves.refl (s : State) : ApplyMoves s s := ⟨rfl, rfl, rfl, rfl⟩

theorem ApplyMoves.trans {s t u : State} (h : ApplyMoves s t) (k : ApplyMoves t u) : ApplyMoves s u :=
  ⟨k.applying.trans h.applying, k.banks.trans h.banks, k.applied.trans h.applied, k.pending.trans h.pending⟩

theorem ApplyMoves.ite {s t u : State} {c : Prop} [Decidable c] (h : ApplyMoves s t) (k : ApplyMoves s u) : ApplyMoves s (if c then t else u) := by
  split
  · exact h
  · exact k

theorem setReg_applyMoves (s : State) {a : Nat} (v : Word) (h : a ≠ Reg.BTL_NEPAPP ∧ a ≠ Reg.BTL_NEPPEND) : ApplyMoves s (s.setReg a v) :=
  ⟨rfl, rfl, State.reg_setReg_ne s v h.1.symm, State.reg_setReg_ne s v h.2.symm⟩

theorem setBitR_applyMoves (s : State) {a : Nat} (i : Nat) (h : a ≠ Reg.BTL_NEPAPP ∧ a ≠ Reg.BTL_NEPPEND) : ApplyMoves s (s.setBitR a i) :=
  ⟨rfl, rfl, State.reg_orBits_ne s _ h.1.symm, State.reg_orBits_ne s _ h.2.symm⟩

theorem record_applyMoves (s : State) (n : RecName) (el : Nat) (items : List Nat) : ApplyMoves s (s.record n el items) :=
  ⟨congrArg Pair.applying (pair_record _ _ _ _), banks_record _ _ _ _, reg_record_outside _ _ _ _ (by decide), reg_record_outside _ _ _ _ (by decide)⟩

theorem updEpochs_applyMoves (s : State) (g : Nat) (f : EpochGroup → EpochGroup) : ApplyMoves s (s.updEpochs g f) := ⟨rfl, rfl, rfl, rfl⟩

theorem restate_applyMoves (s : State) : ApplyMoves s s.restate := by
  have h := unheld_restate s
  exact ⟨(congrArg (fun u : State => u.pair.applying) h).trans rfl, (congrArg (fun u : State => u.banks) h).trans rfl,
    reg_of_unheld h (by decide), reg_of_unheld h (by decide)⟩

/-- R365: the sequence corrected. -/
def State.seqFixed (s : State) (g seq new : Nat) : State :=
  let s := (s.updGroup g (fun x => { x with seq := new })).setBitR Reg.BTL_STK 8
  let s := if (s.epochs g).corrected then s else s.record .pairSeqSet g [g, seq]
  s.updEpochs g (fun x => { x with corrected := true })

theorem seqFixed_applyMoves (s : State) (g seq new : Nat) : ApplyMoves s (s.seqFixed g seq new) := by
  unfold State.seqFixed
  extract_lets u v
  let u0 := s.updGroup g fun x => { x with seq := new }
  have h0 : ApplyMoves s u0 := ⟨rfl, rfl, rfl, rfl⟩
  have hu : ApplyMoves s u := h0.trans (setBitR_applyMoves u0 (a := Reg.BTL_STK) 8 (by decide))
  have hv : ApplyMoves u v := .ite (.refl u) (record_applyMoves u _ _ _)
  exact (hu.trans hv).trans (updEpochs_applyMoves _ _ _)

theorem alignSeq_applyMoves (s : State) (g seq : Nat) (pos : Word) : ApplyMoves s (s.alignSeq g seq pos).1 := by
  unfold State.alignSeq
  extract_lets own fix
  cases own with
  | none => exact seqFixed_applyMoves s g seq _
  | some o =>
    dsimp only
    split
    · exact ⟨rfl, rfl, rfl, rfl⟩
    · exact seqFixed_applyMoves s g seq _

theorem compareDigests_applyMoves (s : State) (g seq : Nat) (own : Option OwnStop) (din dout scrc : Word) :
    ApplyMoves s (s.compareDigests g seq own din dout scrc).1 := by
  have hdiffers (u : State) {c : Prop} [Decidable c] {a i : Nat} (h : a ≠ Reg.BTL_NEPAPP ∧ a ≠ Reg.BTL_NEPPEND) :
      ApplyMoves u (if c then (u.bump a).setBitR Reg.BTL_STK i else u) :=
    .ite ((setReg_applyMoves u _ h).trans (setBitR_applyMoves _ i (by decide))) (.refl u)
  unfold State.compareDigests
  split
  · exact setReg_applyMoves s _ (by decide)
  · extract_lets d0 d1 d2 agree u v w x
    have hw : ApplyMoves s w := ((hdiffers s (by decide)).trans (hdiffers u (by decide))).trans (hdiffers v (by decide))
    split
    · exact (hw.trans (setReg_applyMoves w (a := Reg.BTL_NAGREE) _ (by decide))).trans ⟨rfl, rfl, rfl, rfl⟩
    · have hx : ApplyMoves w x := .ite (record_applyMoves w _ _ _) (.refl w)
      exact (hw.trans hx).trans ⟨rfl, rfl, rfl, rfl⟩

/-- R362: the oldest epoch being copied stands in its bank. -/
def State.epochWritten (s : State) (a : EpochApply) (rest : List EpochApply) : State :=
  let s := (s.updPair (fun p => { p with applying := rest })).unmarkTag (mirrorTag a.bank)
  let h := wordsBE 8 a.head
  let cm := wordsBE 8 a.commit
  let w0 := (setBit (wd (lget h 0 0)) 27 a.alt).toNat
  let words := [w0, lget h 1 0, lget h 2 0, lget h 3 0, lget h 4 0, lget cm 2 0, lget cm 3 0, lget h 7 0]
    ++ wordsBE (a.body.length / 4) a.body
  (s.touch a.bank).storeWords (bankAddr a.bank 0) (words.map wd)

theorem epochWritten_eq (s : State) (a : EpochApply) (rest : List EpochApply) :
    ∃ b, s.epochWritten a rest = { s with banks := b, pair := { s.pair with applying := rest } } := by
  have hstore (u : State) (q : Nat) (ws : List Word) : ∃ b, u.storeWords q ws = { u with banks := b } := ⟨_, rfl⟩
  unfold State.epochWritten
  extract_lets u h cm w0 words
  obtain ⟨b, hb⟩ := hstore (u.touch a.bank) (bankAddr a.bank 0) (words.map wd)
  rw [hb]
  refine ⟨b, ?_⟩
  simp only [u, State.touch, State.unmarkTag, State.updPair]
  rfl

/-- R363, R366: the bank passes on, and the epoch is counted. -/
def State.epochStored (s : State) (a : EpochApply) (rest : List EpochApply) : State :=
  let s := s.epochWritten a rest
  let s := s.passBank a.bank (s.ownerOf (s.hostOf (s.regF (Reg.BTL_MRX a.group) 7 0)))
  (s.bump Reg.BTL_NEPAPP).drop Reg.BTL_NEPPEND

/-- R364: the status of an applied epoch with the result of its comparison. -/
def State.appliedStatus (s : State) (a : EpochApply) (res : Option Nat) : Word :=
  let w := setFld (setFld (setFld (s.reg (Reg.BTL_MST a.group)) 31 30 1) 28 25 0) 15 0 a.seq
  let w := setFld (setBit w 29 a.alt) 21 16 a.bank
  match res with
  | some m => setFld w 24 22 m
  | none => w

/-- The status, the good mark, the pair state and the revert count of an applied epoch. -/
def State.epochMarked (s : State) (a : EpochApply) (res : Option Nat) : State :=
  let s := s.setReg (Reg.BTL_MST a.group) (s.appliedStatus a res)
  let ok := match res with
    | some m => m == 7
    | none => true
  let s := s.updEpochs a.group (fun x => { x with good := ok })
  let s := s.restate
  let s := if a.group = s.regF Reg.BTL_CFG 27 24 ∧ s.pairState = 2 then
      s.updPair (fun p => { p with revCount := if res == some 7 then p.revCount + 1 else 0 })
    else s
  (s.revertCheck).blockEvent 10 0

/-- R365, R368: the sequence aligned, the digests compared. -/
def State.epochCompared (s : State) (a : EpochApply) : State × Option Nat :=
  let x := s.alignSeq a.group a.seq (wd (lget (wordsBE 8 a.head) 7 0))
  let cm := wordsBE 8 a.commit
  x.1.compareDigests a.group a.seq x.2 (wd (lget cm 2 0)) (wd (lget cm 3 0)) (wd (lget cm 1 0))

theorem exec_epochApply {s : State} {a : EpochApply} {l : List EpochApply} (h : s.pair.applying = a :: l) : ∃ u res,
    exec .epochApply s = .next (u.epochMarked a res) ∧ ApplyMoves (s.epochStored a l) u := by
  have hrun : exec .epochApply s = .next (match s.pair.applying with
      | [] => s
      | a :: rest => ((s.epochStored a rest).epochCompared a).1.epochMarked a ((s.epochStored a rest).epochCompared a).2) := rfl
  refine ⟨_, _, hrun.trans (by rw [h]), ?_⟩
  exact (alignSeq_applyMoves (s.epochStored a l) a.group a.seq _).trans (compareDigests_applyMoves _ _ _ _ _ _ _)

theorem epochStored_results (s : State) (a : EpochApply) (l : List EpochApply) : (s.epochStored a l).pair.applying = l
    ∧ (s.epochStored a l).reg Reg.BTL_NEPAPP = s.reg Reg.BTL_NEPAPP + 1 ∧ (s.epochStored a l).reg Reg.BTL_NEPPEND = s.reg Reg.BTL_NEPPEND - 1
    ∧ (s.epochStored a l).owner a.bank = s.ownerOf (s.hostOf (s.regF (Reg.BTL_MRX a.group) 7 0)) := by
  unfold State.epochStored
  obtain ⟨b, hwritten⟩ := epochWritten_eq s a l
  rw [hwritten]
  extract_lets q v w
  have howner : w.owner a.bank = v.ownerOf (v.hostOf (v.regF (Reg.BTL_MRX a.group) 7 0)) := (owner_passBank _ _ _ _).trans (if_pos rfl)
  obtain ⟨power, hpass⟩ := passBank_eq v a.bank (v.ownerOf (v.hostOf (v.regF (Reg.BTL_MRX a.group) 7 0)))
  have hread (q : Nat) : w.reg q = s.reg q := (congrArg (fun x : State => x.reg q) hpass).trans rfl
  have hrest : w.pair.applying = l := (congrArg (fun x : State => x.pair.applying) hpass).trans rfl
  clear_value w
  refine ⟨hrest, ?_, ?_, howner⟩
  · exact (State.reg_setReg_ne _ _ (by decide)).trans ((State.reg_setReg_same w _ _).trans (congrArg (· + 1) (hread _)))
  · exact (State.reg_setReg_same _ _ _).trans (congrArg (· - 1) ((State.reg_setReg_ne w _ (by decide)).trans (hread _)))

theorem fld_appliedStatus (s : State) (a : EpochApply) (res : Option Nat) : fld (s.appliedStatus a res) 31 30 = 1 := by
  have hbase : fld (setFld (setBit (setFld (setFld (setFld (s.reg (Reg.BTL_MST a.group)) 31 30 1) 28 25 0) 15 0 a.seq) 29 a.alt) 21 16 a.bank) 31 30 = 1 := by
    rw [fld_setFld_outside _ _ (by decide) (by decide), fld_setBit_outside _ _ (by decide), fld_setFld_outside _ _ (by decide) (by decide),
      fld_setFld_outside _ _ (by decide) (by decide), fld_setFld_same _ _ (by decide) (by decide)]
    rfl
  unfold State.appliedStatus
  extract_lets w w'
  split
  · rw [fld_setFld_outside _ _ (by decide) (by decide)]
    exact hbase
  · exact hbase

theorem revertCheck_leaves (s : State) : s.revertCheck.pair.applying = s.pair.applying ∧ s.revertCheck.banks = s.banks ∧ s.revertCheck.regs = s.regs := by
  unfold State.revertCheck
  split
  · obtain ⟨l, o, h, -⟩ := sendControl_eq (s.updPair fun p => { p with revSent := true }) 3 (s.regF Reg.BTL_CFG 27 24) 0 0 0 0
    rw [h]
    exact ⟨rfl, rfl, rfl⟩
  · exact ⟨rfl, rfl, rfl⟩

theorem epochMarked_results (s : State) (a : EpochApply) (res : Option Nat) (hg : a.group < 16) : ApplyMoves s (s.epochMarked a res)
    ∧ (s.epochMarked a res).regF (Reg.BTL_MST a.group) 31 30 = 1 := by
  unfold State.epochMarked
  extract_lets u ok v w x
  have hu : ApplyMoves s u := setReg_applyMoves s _ (by lia)
  have hw : ApplyMoves s w := (hu.trans (updEpochs_applyMoves u _ _)).trans (restate_applyMoves v)
  have hx : ApplyMoves w x ∧ x.regs = w.regs := by
    unfold x
    split
    · exact ⟨⟨rfl, rfl, rfl, rfl⟩, rfl⟩
    · exact ⟨.refl w, rfl⟩
  obtain ⟨happlying, hbanks, hregs⟩ := revertCheck_leaves x
  have hread (q : Nat) : (x.revertCheck.blockEvent 10 0).reg q = x.reg q :=
    (reg_blockEvent _ _ _ _).trans (congrArg (fun r => mgetD r q (resetWord q)) hregs)
  obtain ⟨y, hevent⟩ := blockEvent_eq x.revertCheck 10 0
  have hend : ApplyMoves x (x.revertCheck.blockEvent 10 0) :=
    ⟨by rw [hevent]; exact happlying, by rw [hevent]; exact hbanks, hread _, hread _⟩
  refine ⟨(hw.trans hx.1).trans hend, (congrArg (fld · 31 30) ?_).trans (fld_appliedStatus s a res)⟩
  rw [hread, show x.reg (Reg.BTL_MST a.group) = w.reg (Reg.BTL_MST a.group) from congrArg (fun r => mgetD r _ (resetWord _)) hx.2]
  exact (reg_of_unheld (unheld_restate v) (by lia)).trans (State.reg_setReg_same s _ _)

theorem epochApply_results {a : EpochApply} {l : List EpochApply} {s : State} (h : s.pair.applying = a :: l) (hg : a.group < 16) :
    ∃ t, exec .epochApply s = .next t ∧ t.pair.applying = l ∧ t.reg Reg.BTL_NEPAPP = s.reg Reg.BTL_NEPAPP + 1
      ∧ t.reg Reg.BTL_NEPPEND = s.reg Reg.BTL_NEPPEND - 1 ∧ t.regF (Reg.BTL_MST a.group) 31 30 = 1
      ∧ t.owner a.bank = s.ownerOf (s.hostOf (s.regF (Reg.BTL_MRX a.group) 7 0)) := by
  obtain ⟨u, res, hrun, hcompared⟩ := exec_epochApply h
  obtain ⟨hrest, happ, hpend, howner⟩ := epochStored_results s a l
  obtain ⟨hmarked, hstate⟩ := epochMarked_results u a res hg
  obtain ⟨happlying, hbanks, happlied, hpending⟩ := hcompared.trans hmarked
  refine ⟨_, hrun, happlying.trans hrest, happlied.trans happ, hpending.trans hpend, hstate, ?_⟩
  exact (congrArg (fun b : Banks => mgetD b.owner a.bank 0x38) hbanks).trans howner

/-! ### Pair-wide transactions (R379 to R382) -/

theorem btlTxn_results {p : Party} {v : Word} {s : State} (hturn : s.turnOf p = true) (hgo : bit v 31 = true) :
    (s.txn (fld v 19 16) = none → ∃ t x, exec (.btlTxn p v) s = .next t ∧ t.txn (fld v 19 16) = some x ∧ x.tid = fld v 15 0 ∧ x.stage = 1
        ∧ t.regF Reg.BTL_TXSTAT 31 29 = 1 ∧ t.regF Reg.BTL_TXSTAT 15 0 = fld v 15 0 ∧ sameRegs s t [Reg.BTL_TXSTAT])
    ∧ (s.txn (fld v 19 16) ≠ none → ∃ t, exec (.btlTxn p v) s = .next t ∧ t.regB Reg.BTL_STK 11 = true ∧ t.pair = s.pair
        ∧ sameRegs s t [Reg.BTL_STK]) := by
  have htid : fld v 15 0 < 65536 := fld_lt v 15 0
  have hrun : exec (.btlTxn p v) s = .next (if (s.txn (fld v 19 16)).isSome then (s.turned p).setBitR Reg.BTL_STK 11
      else ((s.turned p).setTxn (fld v 19 16) { tid := fld v 15 0 }).txStat (fld v 19 16) (fld v 15 0) 1 0) :=
    congrArg Host.Outcome.next ((byParty_of_turnOf hturn _).trans (if_pos hgo))
  refine ⟨fun hnone => ⟨_, { tid := fld v 15 0 }, hrun.trans (congrArg Host.Outcome.next (if_neg (by rw [hnone]; decide))), mget_mput_same _ _ _,
      rfl, rfl, ?_, ?_, sameRegs_setReg _ _ _⟩, fun hsome => ⟨_, hrun.trans (congrArg Host.Outcome.next (if_pos (Option.isSome_iff_ne_none.2 hsome))),
      (regB_setBitR (s.turned p) (by decide) _ _ _).trans (if_pos ⟨rfl, rfl⟩), rfl, sameRegs_setBitR (s.turned p) _ _⟩⟩
  · rw [regF, State.txStat, State.reg_setReg_same]
    simp only [fld, bitsOf, wd, BitVec.toNat_ofNat, Nat.shiftRight_eq_div_pow] at htid ⊢
    omega
  · rw [regF, State.txStat, State.reg_setReg_same]
    simp only [fld, bitsOf, wd, BitVec.toNat_ofNat, Nat.shiftRight_eq_div_pow] at htid ⊢
    omega

/-- R381: the decider decides once it can; nothing else of the transaction changes. -/
theorem txnDecide_results {s : State} {g : Nat} {x : Txn} (htxn : s.txn g = some x) : ∃ y, (s.txnDecide g).txn g = some y ∧ y.peer = x.peer
    ∧ (x.stage = 2 → x.decider = true → x.decision = none → s.peerGone = false → y.decision = x.verdict) := by
  unfold State.txnDecide
  simp only [htxn]
  split
  · next hno =>
    refine ⟨x, htxn, rfl, fun hstage hdecider hnone _ => ?_⟩
    simp [hstage, hdecider, hnone] at hno
  split
  · next hd =>
    refine ⟨x, htxn, rfl, fun _ _ hnone hpeer => ?_⟩
    rw [hpeer, if_neg Bool.false_ne_true] at hd
    rw [hnone, hd]
  · next d hd =>
    obtain ⟨l, o, hsend, -⟩ := sendControl_eq (s.setTxn g { x with decision := some d }) 5 g x.tid (x.seq % 2 ^ 32) 0 (b2n !d.1)
    rw [hsend]
    refine ⟨{ x with decision := some d }, mget_mput_same _ _ _, rfl, fun _ _ _ hpeer => ?_⟩
    rw [hpeer, if_neg Bool.false_ne_true] at hd
    exact hd.symm

section
variable {lane : Fin 2} {f p : List Byte} {x : Txn} {s : State} (hup : s.laneUp lane = true) (hsolo : s.solo = false)
  (hparse : frameParse f = some (0x20, p))
  (hfirst : (1 - lane.val, [(readControl p).cmd, (readControl p).group, (readControl p).tid, (readControl p).seq]) ∉ s.pair.control)
  (htxn : s.txn (readControl p).group = some x) (htid : x.tid = (readControl p).tid)
include hup hsolo hparse hfirst htxn htid

theorem txprep_results (hcmd : (readControl p).cmd = 4) :
    ∃ t y, exec (.txprep lane f) s = .next t ∧ t.txn (readControl p).group = some y
      ∧ y.peer = some ((readControl p).result == 0, BitVec.ofNat 32 (readControl p).arg)
      ∧ (x.stage = 2 → x.decider = true → x.decision = none → s.peerGone = false → y.decision = { x with peer := y.peer }.verdict) := by
  obtain ⟨k, htake⟩ := takeControl_first hup hsolo hparse hcmd hfirst
  let x' : Txn := { x with peer := some ((readControl p).result == 0, wd (readControl p).arg) }
  let u := (s.updPair fun q => { q with control := k }).setTxn (readControl p).group x'
  have htxn' : (s.updPair fun q => { q with control := k }).txn (readControl p).group = some x := htxn
  obtain ⟨y, hy, hpeer, hdecided⟩ := txnDecide_results (s := u) (mget_mput_same _ _ _)
  refine ⟨u.txnDecide (readControl p).group, y, ?_, hy, hpeer, fun h1 h2 h3 h4 => ?_⟩
  · simp only [exec, execTxprep, htake, htxn']
    exact congrArg Host.Outcome.next (if_pos htid)
  · rw [hdecided h1 h2 h3 h4, hpeer]

theorem txdec_results (hcmd : (readControl p).cmd = 5) (hfollows : x.decider = false) :
    ∃ t y, exec (.txdec lane f) s = .next t ∧ t.txn (readControl p).group = some y
      ∧ (y.decision.map (fun d => d.1)) = some ((readControl p).result == 0) ∧ t.regs = s.regs := by
  obtain ⟨k, htake⟩ := takeControl_first hup hsolo hparse hcmd hfirst
  have htxn' : (s.updPair fun q => { q with control := k }).txn (readControl p).group = some x := htxn
  obtain ⟨cause, hrun⟩ : ∃ cause, exec (.txdec lane f) s = .next ((s.updPair fun q => { q with control := k }).setTxn (readControl p).group
      { x with decision := some ((readControl p).result == 0, cause) }) := by
    simp only [exec, execTxdec, htake, htxn']
    exact ⟨_, congrArg Host.Outcome.next (if_pos ⟨htid, hfollows⟩)⟩
  exact ⟨_, _, hrun, mget_mput_same _ _ _, rfl, rfl⟩

end

theorem txnDecisionTimeout_results {g : Fin 16} {x : Txn} {s : State} (htxn : s.txn g = some x) (hstage : x.stage = 2)
    (hdecider : x.decider = true) (hnone : x.decision = none) (hpeer : s.peerGone = false)
    (hnear : s.groupAxis g ≠ 0 ∨ turnDiff (s.group g).next s.tmbNs ≤ 100000) :
    ∃ t y, exec (.txnDecisionTimeout g) s = .next t ∧ t.txn g = some y ∧ y.decision = some (false, 4)
      ∧ t.out.length = s.out.length + s.lanesUp.length ∧ t.regs = s.regs := by
  have hnear' : (s.groupAxis g != 0 || decide (turnDiff (s.group g).next s.tmbNs ≤ 100000)) = true := by simpa using hnear
  obtain ⟨l, o, hsend, hlen⟩ := sendControl_eq (s.setTxn g { x with decision := some (false, 4) }) 5 g x.tid (x.seq % 2 ^ 32) 0 1
  have hrun : exec (.txnDecisionTimeout g) s =
      .next ((s.setTxn g { x with decision := some (false, 4) }).sendControl 5 g x.tid (x.seq % 2 ^ 32) 0 1) := by
    refine congrArg Host.Outcome.next ?_
    simp only [htxn]
    exact if_pos (by simp only [hstage, hdecider, hnone, hnear', hpeer]; rfl)
  refine ⟨_, { x with decision := some (false, 4) }, hrun.trans (congrArg Host.Outcome.next hsend), mget_mput_same _ _ _, rfl, ?_, rfl⟩
  exact (List.length_append).trans (congrArg (s.out.length + ·) hlen)

/-- Settles O53: an epoch sent, received, decided and applied, and the transactions, one lemma each. -/
theorem mirrorResults : Obligations.MirrorResults := by
  unfold Obligations.MirrorResults
  refine ⟨fun _ _ _ => epochTransmitEnd_results, fun lane f p s hup hsolo => ⟨fun hparse => epochHeaderFrame_results hup hsolo hparse rfl rfl,
      fun _ => epochBodyFrame_results hup hsolo, ?_⟩, fun _ _ _ => epochCopyTimeout_results, fun _ _ _ => epochApply_results,
    fun _ _ _ => btlTxn_results, fun lane f p x s hup hsolo hparse hfirst htxn htid => ⟨txprep_results hup hsolo hparse hfirst htxn htid,
      txdec_results hup hsolo hparse hfirst htxn htid⟩, fun _ _ _ => txnDecisionTimeout_results⟩
  exact fun c hparse hcopy hg hcrc => ⟨epochCommitFrame_accepted hup hsolo hparse hcopy hcrc,
    epochCommitFrame_discarded hup hsolo hparse hcopy hcrc hg rfl⟩

end Sys2Proof.Machine
end
